-- ==== Sys2Proof/Word.lean ====
section
/-! DEFINITION. The byte and the byte string, the two word types of the wire (R67). -/

namespace Sys2Proof

/-- One byte of a message, a memory or a flash. -/
abbrev Byte := BitVec 8

/-- A byte string, first byte first. -/
abbrev Bytes := List Byte

end Sys2Proof
end

