-- ==== Sys2Proof/Syntax.lean ====
section
/-! DEFINITION. The commands of the block: one constructor of `Instr` per row of spec/opcode_table.json. A row that is a GOP
request carries the request; a row that is a request to one object of its own carries the request's session, epoch and
sequence number and the values written; a row that is an event carries what the event brings from outside the digital
state (a measured value, a pin, a received byte string). -/

namespace Sys2Proof

/-- Session number, EPOCH and SEQ of a request (Tables 02-2 and 02-7). -/
structure Hdr where
  sess : Nat
  epoch : Nat
  seq : Nat
  deriving DecidableEq, Repr

/-- A request: the fields of Table 02-2 and the data after the header. `rsv` holds the reserved bits ([3] of byte 0 and
[15:12] of bytes 4 and 5) as sent. -/
structure Req where
  sess : Nat
  epoch : Nat
  seq : Nat
  index : Nat
  element : Nat
  count : Nat
  data : Bytes
  rsv : Nat
  deriving DecidableEq, Repr

/-- A request with its operation and the PEND and META flags: the whole GOP message (R86). -/
structure GopMsg where
  op : Nat
  pend : Bool
  md : Bool
  req : Req
  deriving DecidableEq, Repr

/-- What a shot's pre-fire sequence measures: the calibration codes (C1, C2) of a slice and of the emission TDC in 1/8 code (R374),
and of each lit channel the mean output b in 1/16 threshold codes and the crossings of its three thresholds in the dark gate
(R453). A slice that is not listed measures its last plausible codes, a channel that is not listed measures 0. -/
structure BoundMeas where
  cal : List (Nat × Nat × Nat)
  emitCal : Option (Nat × Nat)
  dark : List (Nat × Nat × Nat × Nat × Nat)
  deriving DecidableEq, Repr

/-- What an emission measures: the launch edge on the emission TDC as its coarse period from window zero and the sampled code, none
where the TDC saw no edge within two periods (R380, R382), the comparators that are high
at window zero, as channel and threshold (R359), the largest peak of each line in DAC codes (R230), and the pulses that had
left when the drive was cut off, none where all left (R40). -/
structure EmitMeas where
  edge : Option (Nat × Nat)
  high : List (Nat × Nat)
  peaks : List (Nat × Nat)
  left : Option Nat
  deriving DecidableEq, Repr

/-- What the close of the windows measures: of each channel the peak at the TIA output in µV and whether it saturated (R309); the
channels and thresholds whose pulse is still high there and in it the saturation detector has tripped (R305);
of each digitiser slice how many of its listed samples precede window zero, and the TIA output above its calibrated zero at each in
µV, in order (R500, R501). A channel that is not listed has peak 0, a sample that is not listed is at its calibrated zero. -/
structure CloseMeas where
  peaks : List (Nat × Nat × Bool)
  trips : List (Nat × Nat)
  samples : List (Nat × Nat × List Int)
  deriving DecidableEq, Repr


/-- What the calibration of one receive slice measures, each step by its last run (Table 11-2, R572): the TIA zeros of G0 to G3
in 0.25 mV, offsets of the three DACs in 1/4 code and their gains in 1/32,768, the interpolator codes C1 and C2, the 32 counts
of R556, the differential non-linearity after correction in 1/100 LSB and the largest integral one in 1/16 LSB, the three mean
times D_X (R555) and verify residuals in 1/16 LSB. -/
structure CalMeas where
  zero : List Int
  ofs : List Int
  gain : List Nat
  c1 : Nat
  c2 : Nat
  hits : List Nat
  dnl : Nat
  inl : Nat
  delay : List Int
  resid : List Nat
  deriving DecidableEq, Repr

/-- What a bridge channel measures in a block (Table 12-2): the largest excitation current in µA and whether it was in the 20 mA
limit at any time, and at the block's end the current in µA, the sense pair voltage and the common modes of SBP and SBN in mV.
A powered channel that is not listed passes its checks. -/
structure BridgeMeas where
  chan : Nat
  iMax : Nat
  limited : Bool
  iEnd : Nat
  sense : Nat
  cmP : Int
  cmN : Int
  deriving DecidableEq, Repr
/-- The identifier of a received CAN FD frame with its format: 11 bits, or 29 bits where it is extended (R97). -/
structure CanId where
  ext : Bool
  num : Nat
  deriving DecidableEq, Repr

/-- The largest peak of a line so far in a shot, in DAC codes (R230, R231). -/
structure LinePeak where
  line : Nat
  peak : Nat
  deriving DecidableEq, Repr

/-- An output of the level chain by its index since the chain's last SYNC, with the output before it (R533). -/
structure LevelOut where
  index : Nat
  before : Int
  sample : Int
  deriving DecidableEq, Repr

/-- A column received on the Gaern lanes after `idle` columns of K28.5: the ten bits on the balls of HRX_0 and HRX_1 (R685, R693). -/
structure RxCol where
  idle : Nat
  groups : List Nat
  deriving DecidableEq, Repr

/-- What the arrival of a ring block finds (R488, R489): poison, and the failing byte lane of the cache where it has an error. -/
structure BlockRead where
  poisoned : Bool
  ecc : Option Nat
  deriving DecidableEq, Repr

/-- What an underrun of a line finds (R677, R679): the pixels with a line-buffer error, and those not fetched in time. -/
structure LineMeas where
  bad : List Nat
  unfetched : List Nat
  deriving DecidableEq, Repr

/-- The loss of a lane (Table 14-5): its cause, and the columns received up to it. -/
structure LossMeas where
  cause : Nat
  rx : List RxCol
  deriving DecidableEq, Repr

/-- Modulator clocks in a row for which a bridge channel's signal pair and sense pair stand at one voltage each, in nV (R592). -/
structure BridgeRun where
  clocks : Nat
  diff : Int
  sense : Int
  deriving DecidableEq, Repr

/-- The commands, one constructor per row of the table of operations and events. -/
inductive Instr where
  /-- READ (R83): A GOP READ returns the values in force of a run of elements, sampled in one fabric cycle, and clears RC elements. -/
  | read (q : Req)
  /-- READ_PEND (R83): A GOP READ with the PEND flag returns the staged shadow values where they exist and the values in force elsewhere. -/
  | readPend (q : Req)
  /-- READ_META (R90): A GOP READ with the META flag returns the default, minimum and maximum in force of one element. -/
  | readMeta (q : Req)
  /-- WRITE (R79): A GOP WRITE to objects without a row of their own is checked and then written NOW, into shadows, or into the lock's staged set. -/
  | write (q : Req)
  /-- READ_BLOCK (R141): A GOP READ_BLOCK returns one 512-byte block of a DOM object, taking a snapshot at block 0. -/
  | readBlock (q : Req)
  /-- WRITE_BLOCK (R145): A GOP WRITE_BLOCK appends one block of a DOM object write and, at the last block, checks the CRC and applies or stages the whole object. -/
  | writeBlock (q : Req)
  /-- LOCK (R123): A GOP LOCK grants the single device lock to the session or renews its lease. -/
  | lock (q : Req)
  /-- COMMIT (R132): A GOP COMMIT re-checks the staged set, accepts it for landing at the instant its apply classes require, and frees the lock. -/
  | commit (q : Req)
  /-- ABORT_LOCK (R137): A GOP ABORT_LOCK discards the staged set and frees the lock. -/
  | abortLock (q : Req)
  /-- SUBSCRIBE (R150): A GOP SUBSCRIBE creates, replaces or cancels a change or periodic subscription to a run of elements. -/
  | subscribe (q : Req)
  /-- GOP_BAD_OP (R88): A request with an undefined OP or a NOTIFY sent to the device is refused with ABT_TYPE, detail BAD_OP. -/
  | gopBadOp (op : Nat) (q : Req)
  /-- SES_OPEN (R113): A write of the session's own SES_OPEN element increments its epoch and discards its tags, subscriptions, snapshot, block write, staged writes and lock. -/
  | sesOpen (q : Req)
  /-- CAN_SEGMENT_RX (R101): A CAN FD GOP segment is received and reassembled into a message, or the partial message is discarded and counted. -/
  | canSegmentRx (ctrl : Nat) (id : CanId) (payload : Bytes)
  /-- CAN_SEGMENT_TIMEOUT (R101): 20 ms without the next segment of a partly received request discards it and counts it. -/
  | canSegmentTimeout (ctrl : Nat)
  /-- CAN_BUS_OFF (R951): A CAN FD controller enters bus-off, which is the carrier failure of its session and ends a lock it holds. -/
  | canBusOff (ctrl : Nat)
  /-- CAN_BUS_OFF_RECOVERY (R951): After 128 occurrences of 11 recessive bits the controller leaves bus-off and rejoins the bus. -/
  | canBusOffRecovery (ctrl : Nat)
  /-- SPI_REQUEST_FRAME (R102): An SPI request frame is received, CRC-checked and either queued for the SPI session or refused with ABT_CRC. -/
  | spiRequestFrame (mosi : Bytes)
  /-- SPI_POLL_FRAME (R104): An SPI poll frame returns the status byte and the oldest queued response or notification with its CRC. -/
  | spiPollFrame (clocked : Nat)
  /-- SPI_CARRIER_FAILURE (R951): Eight refused SPI frames within 100 ms fail the SPI carrier and restart the count. -/
  | spiCarrierFailure
  /-- GAERN_GOP_PACKET_RX (R109): A host GOP packet received on the Gaern lanes delivers its message to session 3 or carries credits
  only. The operands are the columns received since the last such command: those before the packet's segment, its own, and those
  after it; the lanes take them as one sequence. -/
  | gaernGopPacketRx (before segment after : List RxCol)
  /-- LOCK_LEASE_EXPIRY (R138): The lock lease expires, so the staged set is discarded, the lock freed, LOCK_LOST counted and the event logged. -/
  | lockLeaseExpiry
  /-- TAG_STORE_EXPIRY (R118): A stored tag, request and response leave duplicate storage 100 ms after execution. -/
  | tagStoreExpiry (sess tag : Nat)
  /-- SNAPSHOT_EXPIRY (R142): A READ_BLOCK snapshot lapses after 10 ms without a READ_BLOCK of that object from the session. -/
  | snapshotExpiry (sess : Nat)
  /-- BLOCK_WRITE_TIMEOUT (R147): A block write with no WRITE_BLOCK for 10 ms is discarded, and the object keeps its content. -/
  | blockWriteTimeout (sess : Nat)
  /-- NOTIFY_PERIODIC (R150): A periodic subscription's PERIOD elapses and a NOTIFY of the run leaves. -/
  | notifyPeriodic (sess index element count : Nat)
  /-- NOTIFY_CHANGE (R152): A change notification leaves with the latest values, at most once per millisecond per subscription. -/
  | notifyChange (sess index element count : Nat)
  /-- JQ_RUN_START (R199): A write of 1 to JQ_RUN runs the bank check and starts Jacquard with the first frame origin 50 µs after landing. -/
  | jqRunStart (h : Hdr)
  /-- JQ_STOP_NOW (R201): A write of 0 to JQ_RUN stops shot boundaries, discards queued shots with STOP headers and closes open groups. -/
  | jqStopNow (h : Hdr)
  /-- JQ_STOP_AFTER_FRAME (R199): A write of 2 to JQ_RUN stops decoding after the next END. -/
  | jqStopAfterFrame (h : Hdr)
  /-- ENTRY_DECODE (R179): Jacquard decodes the next entry into its lookahead queue once room and the 48 µs horizon allow, and plans each shot. -/
  | entryDecode (ecc : Nat)
  /-- WAKE_REQUEST (R182): Jacquard issues the wake request of a lit group 250 ns or 41,000 ns before the shot's planned boundary. -/
  | wakeRequest (group : Nat)
  /-- SHOT_BOUNDARY (R36): A shot boundary starts the pre-fire sequence once every lit group is ACTIVE and no stall holds it. -/
  | shotBoundary (m : BoundMeas)
  /-- FIRE_COMMIT (R37): 80 ns before emission, Jacquard's angle check and Hawkmoth's state, travel and bucket tests decide whether the shot fires. -/
  | fireCommit (parity : List Nat)
  /-- EMISSION (R237): The shot's pulse code drives the KD outputs and FIRE_OUT, the emission is stamped and the echo windows open. -/
  | emission (m : EmitMeas)
  /-- PULSE_OVERCURRENT (R231): A line peak above 125 % of setpoint or 1,100 codes opens that line's switch for the rest of the shot and marks CUT. -/
  | pulseOvercurrent (p : LinePeak)
  /-- LINE_BAR (R233): Three over-current events within 16 shots, or three consecutive under-current shots, bar the line. -/
  | lineBar (line : Nat)
  /-- COMPARATOR_CROSSING (R351): A threshold comparator crossing inside a window is stamped into the slice's FIFO when R369 allows. -/
  | comparatorCrossing (chan th : Nat) (rise : Bool) (k r : Nat) (sat : Bool)
  /-- MERGE_HOLD_EXPIRY (R364): A held falling stamp is released when its merge hold-off ends without a rising crossing. -/
  | mergeHoldExpiry (chan th : Nat)
  /-- WINDOW_CLOSE (R355): The echo windows of a shot close, truncated edges are stamped and the last stamps leave the FIFOs. -/
  | windowClose (m : CloseMeas)
  /-- SYNC_IN_EDGE (R169): A rising edge of SYNC_IN sets the next frame origin 50 µs later and may synchronise filter chains. -/
  | syncInEdge
  /-- FRAME_SYNC_MISSED (R170): With no SYNC_IN edge by the previous origin plus 1.5 periods, the frame origin advances by one period and is counted. -/
  | frameSyncMissed
  /-- JQ_SWAP_REQUEST (R203): A write of 1 to JQ_SWAP_REQ checks the inactive bank and makes a swap pending. -/
  | jqSwapRequest (h : Hdr)
  /-- JQ_SWAP_CANCEL (R80): A write of 0 to JQ_SWAP_REQ before the frame decision replaces the shadow and cancels the swap. -/
  | jqSwapCancel (h : Hdr)
  /-- HELD_SWAP_EXECUTE (R207): A swap write or commit held during the frame-decision span executes once the frame boundary has passed. -/
  | heldSwapExecute (sess : Nat)
  /-- JQ_PATCH (R212): A JQ_PATCH writes 1–31 consecutive entries atomically between two decodes, unless too close to the walk. -/
  | jqPatch (h : Hdr) (data : Bytes)
  /-- HISTOGRAM_READOUT_DONE (R414): The readout of one channel's histogram of a closed group ends and clears its bins. -/
  | histogramReadoutDone (chan : Nat) (parity : Bool)
  /-- SHOT_HEADER_PACKET_TIMEOUT (R446): A shot header packet closes 10 µs after its first header. -/
  | shotHeaderPacketTimeout
  /-- TEST_PASS_START (R257): A 40 µs drive test pass starts when no SHOT is queued and the next entry lies at least 48 µs ahead, or while stopped. -/
  | testPassStart
  /-- TEST_PASS_END (R260): A completed test pass reports its results, bars failed outputs and lifts bars of passing ones on request. -/
  | testPassEnd (faults : List (Nat × Nat))
  /-- EM_TEST_STARVED (R259): Each second without a completed test pass while Jacquard runs is counted and logged. -/
  | emTestStarved
  /-- EM_BAR_CLEAR (R262): A write of 1 to EM_BAR_CLEAR requests a test pass that lifts the bars of outputs that pass it. -/
  | emBarClear (h : Hdr)
  /-- EM_TEST_REQ (R258): A write of 1 to EM_TEST_REQ requests a test pass at the next opportunity. -/
  | emTestReq (h : Hdr)
  /-- VHV_ANODE_WINDOW_EXIT (R229): VHV leaving 10.0–48.0 V keeps every anode switch open, reports an HV-die fault and logs 0x020C. -/
  | vhvAnodeWindowExit (mv : Int)
  /-- VHV_ANODE_WINDOW_RETURN (R229): VHV returning inside the anode window clears the HV-die fault. -/
  | vhvAnodeWindowReturn (mv : Int)
  /-- DRIVER_TSD_TRIP (R263): A die-1 sensor above 160 °C shuts the emitter drivers down within 10 µs. -/
  | driverTsdTrip (sensor : Nat)
  /-- DRIVER_TSD_RESTART (R264): The drivers restart when all of TS_12–TS_15 are below 140 °C. -/
  | driverTsdRestart
  /-- TWILL_STRING_START (R249): A Twill string for a shot whose shares changed starts at decode or 64 ns after the previous emission. -/
  | twillStringStart
  /-- TWILL_CHAIN_CHECK (R252): At the end of the latch hold, the string latches and the returned probe is checked. -/
  | twillChainCheck (string hold : List Nat) (high : Option Nat)
  /-- TWILL_DISABLE (R255): Three consecutive failed chain checks disable Twill and log DEGRADE. -/
  | twillDisable
  /-- HM_ARM (R266): A write of 1 to HM_ARM moves Hawkmoth from DISARMED to ARMING when HM_ARM_BLOCK reads 0. -/
  | hmArm (h : Hdr)
  /-- HM_DISARM (R271): A write to HM_DISARM disarms Hawkmoth with cause HOST. -/
  | hmDisarm (h : Hdr) (value : Nat)
  /-- HM_SELFTEST_END (R268): The arming self-test of the inhibit path ends and Hawkmoth goes to ARMED, HOLD or DISARMED. -/
  | hmSelftestEnd (passed : Bool)
  /-- EMIT_EN_LOW (R277): EMIT_EN low beyond its deglitch disarms Hawkmoth and forces the drive outputs off on both dies. -/
  | emitEnLow
  /-- EMIT_EN_HIGH (R269): EMIT_EN returning high clears the EMIT_EN bit of HM_ARM_BLOCK. -/
  | emitEnHigh
  /-- FW_HEARTBEAT_STROKE (R275): The firmware strokes the Hawkmoth watchdog with the next alternating value. -/
  | fwHeartbeatStroke (value : Nat)
  /-- FW_HEARTBEAT_EXPIRY (R275): No correct firmware stroke within HM_HB_TIMEOUT_US disarms Hawkmoth with cause FW_HEARTBEAT. -/
  | fwHeartbeatExpiry
  /-- HOST_HEARTBEAT_EXPIRY (R276): No renewing request within HM_HOST_HB_TIMEOUT_MS disarms Hawkmoth with cause HOST_HEARTBEAT. -/
  | hostHeartbeatExpiry
  /-- D2D_LINK_FAULT (R957): A die-to-die link fault detected on die 1 asserts the inhibit and disarms Hawkmoth with cause HV_LATCHED. -/
  | d2dLinkFault
  /-- HM_CONFIG_COMPARE (R289): Every 1 ms Hawkmoth compares its two configuration copies and disarms on a mismatch. -/
  | hmConfigCompare (upset : List (Nat × Nat × Nat))
  /-- HM_INJECT (R291): A write of HM_INJECT raises or clears injected Hawkmoth conditions exactly as if they were real. -/
  | hmInject (h : Hdr) (value : Nat)
  /-- BUCKET_LEAK_STEP (R284): Each bucket leaks by its fixed fraction at every step of its device-time grid. -/
  | bucketLeakStep (bucket : Nat) (parity : List Nat)
  /-- GROUP_WAKE_DONE (R321): A waking receive group reaches ACTIVE after its wake time and self-check, and any held step-down applies. -/
  | groupWakeDone (group : Nat) (checkOk : Bool)
  /-- GROUP_WAKE_FAIL (R321): A group still waking 100 µs after its request goes FAILED and logs DEGRADE. -/
  | groupWakeFail (group : Nat)
  /-- RX_GROUP_RETRY (R960): A write of 1 to RX_GROUP_RETRY moves a FAILED group to OFF. -/
  | rxGroupRetry (h : Hdr) (group : Nat)
  /-- RX_SKIP_TAKEOVER (R344): A write of a position to RX_SKIP_REQ requests a host takeover of that channel by the Skipper. -/
  | rxSkipTakeover (h : Hdr) (group pos : Nat)
  /-- RX_SKIP_RETURN (R344): A write of 0xFF to RX_SKIP_REQ returns the taken-over channel to its home slice. -/
  | rxSkipReturn (h : Hdr) (group : Nat)
  /-- RX_REPAIR (R340): A write of RX_REPAIR requests a permanent repair that lands at a frame boundary once no takeover is in force. -/
  | rxRepair (h : Hdr) (group value : Nat)
  /-- BLANK_N_FALL (R317): A deglitched falling edge of BLANK_N is stamped and opens a Voile masked span. -/
  | blankNFall (lsb : Nat)
  /-- BLANK_N_RISE (R317): A rising edge of BLANK_N is stamped and ends the masked span after the guard. -/
  | blankNRise (lsb : Nat)
  /-- INPUT_SHORT_BIAS (R329): An input above 1.2 V for 100 µs is isolated and marked SHORT_BIAS. -/
  | inputShortBias (chan : Nat)
  /-- DARK_RATE_WATCH (R331): At the end of each 100 ms sub-interval the zero-ambient-rate watch updates each channel and may declare OPEN_SUSPECT. -/
  | darkRateWatch
  /-- RX_BIAS_ENABLE (R327): A write of RX_BIAS_ENABLE turns a bias output on or off, restarting it after a fault. -/
  | rxBiasEnable (h : Hdr) (bias value : Nat)
  /-- BIAS_RAMP_DONE (R325): A bias output reaches its target and enters REGULATING. -/
  | biasRampDone (bias : Nat)
  /-- BIAS_OVERCURRENT_FAULT (R327): A bias output in current limit for 1 ms turns off with FAULT_OC. -/
  | biasOvercurrentFault (bias : Nat)
  /-- BIAS_OVERVOLTAGE_FAULT (R327): A bias output more than 1.0 V above target for 10 µs turns off with FAULT_OV. -/
  | biasOvervoltageFault (bias : Nat)
  /-- BIAS_UNDERVOLTAGE_FAULT (R327): A bias output more than 2 % below target for 1 ms after the ramp turns off with FAULT_UV. -/
  | biasUndervoltageFault (bias : Nat)
  /-- BIAS_OPEN_WARN (R327): A bias output below 1 µA for 1 s while a fed group is ACTIVE reports OPEN_WARN. -/
  | biasOpenWarn (bias : Nat)
  /-- BIAS_VHV_LOW (R327): VHV below 9 V for 10 µs turns every bias output off until VHV recovers. -/
  | biasVhvLow
  /-- TDC_STAT_START (R394): A write of 1 to TDC_STAT_START clears the statistics and puts the engine in RUN. -/
  | tdcStatStart (h : Hdr)
  /-- TDC_STAT_ABANDON (R394): A write of 0 to TDC_STAT_START returns the engine to IDLE with partial results readable. -/
  | tdcStatAbandon (h : Hdr)
  /-- INTERP_CAL_STALL (R378): From the eighth consecutive implausible calibration, the slice's windows yield no stamps. -/
  | interpCalStall (slice : Nat)
  /-- SLICE_INTERP_FAULTY (R379): After 1,024 consecutive implausible calibrations the slice reads FAULTY and DEGRADE is logged. -/
  | sliceInterpFaulty (slice : Nat)
  /-- EMIT_STAMP_LOSS (R383): From the sixteenth consecutive emission-stamp miss, shots yield no records and DEGRADE is logged. -/
  | emitStampLoss
  /-- ECHO_CLASSIFY (R481): Ringlet classifies each observation's echoes against its ring, writes the ring entry and map word, and releases the records. -/
  | echoClassify (ecc : Option Nat)
  /-- RING_BLOCK_ARRIVAL (R485): A prefetched ring block arrives from GDDR7 into the ring cache, void on poison, and late rings are updated. -/
  | ringBlockArrival (block : Nat) (found : BlockRead)
  /-- RINGLET_SWEEP (R491): The sweep advances through the ring region, zeroing aged and broken entries. -/
  | ringletSweep
  /-- RL_RESET (R493): A write of 1 to RL_RESET takes a generation step at the next frame boundary, or at once while stopped. -/
  | rlReset (h : Hdr)
  /-- RL_GEOMETRY (R493): A write of a different RL_GEOMETRY takes a generation step. -/
  | rlGeometry (h : Hdr) (value : Nat)
  /-- RINGLET_CLEAR_DONE (R494): The zeroing of the ring region and map buffers after training ends and RL_STATE reads READY. -/
  | ringletClearDone
  /-- DG_POWER_ON (R504): A write of 1 to DG_POWER powers a digitiser slice up. -/
  | dgPowerOn (h : Hdr) (slice : Nat)
  /-- DG_POWER_OFF (R504): A write of 0 to DG_POWER powers a digitiser slice down. -/
  | dgPowerOff (h : Hdr) (slice : Nat)
  /-- DIGITISER_READY (R504): A powered slice becomes READY 20 µs after power-up and synchronises its chain. -/
  | digitiserReady (slice : Nat)
  /-- DIGITISER_FAILED (R505): A slice not READY 100 µs after power-up reads FAILED and logs DEGRADE. -/
  | digitiserFailed (slice : Nat)
  /-- DG_PAIR_MODE (R508): A write of DG_PAIR_MODE interleaves or separates a pair at the next shot boundary. -/
  | dgPairMode (h : Hdr) (pair value : Nat)
  /-- FILT_SWAP_REQ (R520): A write of FILT_SWAP_REQ starts a cross-fade to the other bank, or queues or applies the swap. -/
  | filtSwapReq (h : Hdr) (chain value : Nat)
  /-- FILT_FADE_END (R520): After the last fade sample the target bank is in force and a pending swap may start. -/
  | filtFadeEnd (chain : Nat)
  /-- FILT_SYNC (R525): A write of FILT_SYNC synchronises each chain whose bit is set. -/
  | filtSync (h : Hdr) (value : Nat)
  /-- FILT_FILL_DONE (R524): After N outputs following a SYNC the chain's outputs carry VALID. -/
  | filtFillDone (chain : Nat)
  /-- ACQ_RUN_START (R545): A write of 1 to ACQ_RUN starts acquisition in REARM or STREAM_ONLY. -/
  | acqRunStart (h : Hdr)
  /-- ACQ_RUN_STOP (R545): A write of 0 to ACQ_RUN stops acquisition and discards a capture in POST. -/
  | acqRunStop (h : Hdr)
  /-- ACQ_ARM (R545): A write of 1 to ACQ_ARM in DONE releases the capture and re-arms. -/
  | acqArm (h : Hdr)
  /-- ACQ_DUMP (R545): A write of 1 to ACQ_DUMP in DONE starts the dump of the capture. -/
  | acqDump (h : Hdr)
  /-- ACQ_TRIG_FORCE (R533): A write of ACQ_TRIG_FORCE raises a host trigger. -/
  | acqTrigForce (h : Hdr) (value : Nat)
  /-- TRIG_IN_EDGE (R533): A deglitched rising edge of TRIG_IN raises an acquisition trigger and may trigger the Atlas trace. -/
  | trigInEdge
  /-- ACQ_LEVEL_CROSSING (R533): A VALID output of the level chain that crosses ACQ_LEVEL in the set direction raises a trigger. -/
  | acqLevelCrossing (y : LevelOut)
  /-- ACQ_TRIGGER (R539): A trigger is taken in stamp order and starts a capture or is counted as missed. -/
  | acqTrigger
  /-- ACQ_REARM_DONE (R545): The buffer pointers are reset and the snapshot enters FILLING or ARMED. -/
  | acqRearmDone
  /-- ACQ_CAPTURE_DONE (R545): When POST records have been written the capture header is written and the snapshot is DONE. -/
  | acqCaptureDone
  /-- ACQ_DUMP_DONE (R549): The last byte of a dumped capture is sent, and the snapshot goes to DONE or REARM. -/
  | acqDumpDone
  /-- CAL_PASS_START (R561): The calibration manager starts a pass of a due group within the concurrency limit. -/
  | calPassStart (group : Nat)
  /-- CAL_SLICE_DONE (R564): The calibration of one slice in a pass ends, and the next takeover and return are requested. -/
  | calSliceDone (group : Nat) (m : CalMeas)
  /-- CAL_GAP_CHUNK (R569): Under GAP mode a calibration chunk of at most 32 µs starts while the gap condition holds. -/
  | calGapChunk (group ns : Nat)
  /-- CAL_GROUP_REQ (R560): A write of 1 to CAL_GROUP_REQ makes the group due. -/
  | calGroupReq (h : Hdr) (group : Nat)
  /-- CAL_AGE_DUE (R560): A group whose last pass is CAL_MAX_AGE_S old becomes due. -/
  | calAgeDue (group : Nat)
  /-- INPUT_CHECK (R557): A test-current check runs on an input under the gap condition and classifies it. -/
  | inputCheck (chan capPf respPct loPct hiPct : Nat)
  /-- CAL_SAVE (R583): A write of 1 to CAL_SAVE writes the field cache to the older field slot. -/
  | calSave (h : Hdr)
  /-- CAL_FLASH_PERIOD (R583): With a changed set and CAL_FLASH_PERIOD_S elapsed, the field cache is written to flash. -/
  | calFlashPeriod
  /-- CAL_FACTORY_STORE (R584): A WRITE_BLOCK of CAL_FACTORY_STORE validates the image and programs the factory store. -/
  | calFactoryStore (h : Hdr) (block : Nat) (data : Bytes)
  /-- CAL_RESTORE_FACTORY (R585): A write of 1 to CAL_RESTORE_FACTORY replaces the field cache with the factory store and erases both field slots. -/
  | calRestoreFactory (h : Hdr)
  /-- BIAS_MONITOR_COMPARE (R590): Every 10 s each bias voltage monitor is compared with its housekeeping reading and corrected. -/
  | biasMonitorCompare (readings : List Int)
  /-- DIGITISER_CALIBRATION (R588): A due, READY and unrouted digitiser slice or pair is calibrated. -/
  | digitiserCalibration (slice : Nat) (temp : Int) (vals : List (Int × Int × Int)) (gain timing offset : Nat)
  /-- BRIDGE_BLOCK_END (R599): At each block end every powered bridge channel evaluates its wire checks. -/
  | bridgeBlockEnd (m : List BridgeMeas)
  /-- BRIDGE_FAULT_DECLARED (R600): The second consecutive failing block declares a bridge fault and logs DEGRADE. -/
  | bridgeFaultDeclared (chan : Nat)
  /-- BRIDGE_FAULT_END (R602): After 64 consecutive passing blocks a declared bridge fault ends. -/
  | bridgeFaultEnd (chan : Nat)
  /-- BRIDGE_RESULT (R595): A bridge chain yields a result word and the angle is linearised. -/
  | bridgeResult (chan : Nat) (x : List BridgeRun)
  /-- LOOP_SAMPLE (R610): A loop sample of a slot computes feedback, observer, supervision, report and command. -/
  | loopSample (slot : Nat) (current : Int)
  /-- COIL_OVERCURRENT (R632): A coil current above 480 mA for 1 µs turns the driver off. -/
  | coilOvercurrent (coil : Nat)
  /-- COIL_OPEN (R633): A command of at least 20 mA with current below 10 % for 100 µs turns the driver off. -/
  | coilOpen (coil : Nat)
  /-- COIL_COMPLIANCE (R633): A command not reached within 5 % for 100 µs reports COMPLIANCE. -/
  | coilCompliance (coil : Nat) (reached : Bool)
  /-- ATL_MODE_OFF (R630): A write of 0 to ATL_MODE ramps the command to 0 and turns the driver off. -/
  | atlModeOff (h : Hdr) (slot : Nat)
  /-- ATL_MODE_MANUAL (R630): A write of 1 to ATL_MODE puts the slot in MANUAL. -/
  | atlModeManual (h : Hdr) (slot : Nat)
  /-- ATL_MODE_CLOSED (R630): A write of 2 to ATL_MODE closes the loop with a bumpless preset when feedback allows. -/
  | atlModeClosed (h : Hdr) (slot : Nat)
  /-- ATL_MODE_MODEL_HOLD (R630): A write of 3 to ATL_MODE moves a CLOSED slot to MODEL_HOLD with cause HOST. -/
  | atlModeModelHold (h : Hdr) (slot : Nat)
  /-- ATL_OFF_RAMP_DONE (R630): The command ramp to 0 of a slot going OFF ends and its driver turns off. -/
  | atlOffRampDone (slot : Nat)
  /-- PD_PUBLISH (R606): Every PD_AVG_MS the photocurrent channel publishes its mean current or charge per shot. -/
  | pdPublish (chan value : Nat) (sat : Bool)
  /-- PD_RANGE (R608): A write of PD_RANGE changes the feedback at once and reports STALE. -/
  | pdRange (h : Hdr) (chan value : Nat)
  /-- PD_STALE_END (R608): After 2 ms in the new range the photocurrent channel leaves STALE. -/
  | pdStaleEnd (chan : Nat)
  /-- PD_SAT_HOLD (R609): Photocurrent saturation held for 1 s logs LOG. -/
  | pdSatHold (chan : Nat)
  /-- ATL_TR_ARM (R638): A write of 1 to ATL_TR_ARM arms the Atlas trace. -/
  | atlTrArm (h : Hdr)
  /-- ATL_TR_TRIGGER (R638): A write of 2 to ATL_TR_ARM triggers the armed trace. -/
  | atlTrTrigger (h : Hdr)
  /-- TRACE_FREEZE (R638): ATL_TR_POST samples after the trigger, all eight trace rings freeze. -/
  | traceFreeze
  /-- ATL_INJ_START (R641): A write of 1 to ATL_INJ_RUN starts the test signal while Hawkmoth is DISARMED. -/
  | atlInjStart (h : Hdr) (slot : Nat)
  /-- ATL_INJ_STOP (R641): A write of 0 to ATL_INJ_RUN stops the injection. -/
  | atlInjStop (h : Hdr) (slot : Nat)
  /-- TAP_HOST_WRITE (R645): A TAP_HOST_WRITE writes host data into a Tapestry buffer at once. -/
  | tapHostWrite (h : Hdr) (block : Nat) (data : Bytes)
  /-- TAP_FILL (R647): A write of TAP_FILL starts zeroing a buffer range. -/
  | tapFill (h : Hdr) (element value : Nat)
  /-- TAP_FILL_DONE (R647): The buffer fill ends and TAP_FILL_BUSY clears. -/
  | tapFillDone
  /-- SCAN_OUT_START (R669): Scan-out of a flipped raster starts once the previous scan-out has ended, and tags are read. -/
  | scanOutStart (raster : Nat)
  /-- TAPESTRY_LINE_SEND (R676): A fetched line leaves at its slot, or as soon as fetched when unpaced. -/
  | tapestryLineSend (bad : List Nat)
  /-- LINE_UNDERRUN (R677): A paced line still not fetched at slot + P leaves with no-return pixels and UNDERRUN. -/
  | lineUnderrun (m : LineMeas)
  /-- RASTER_RETIRE (R671): The raster trailer reaches the TX balls and the raster retires. -/
  | rasterRetire
  /-- TX_SEGMENT_START (R710): When a segment ends or the link is idle, the ready segment of highest priority starts. -/
  | txSegmentStart
  /-- ALIGNMENT_COLUMN (R694): Every 2,048 columns the device sends a K28.3 column and a K28.0 column. -/
  | alignmentColumn
  /-- CREDIT_ONLY_PACKET (R716): Owed credits and 10 µs without a segment send a GOP packet with LEN 0. -/
  | creditOnlyPacket
  /-- TS_MARKER_TX (R741): Every LINK_TS_PERIOD_MS a K28.1 column is sent and stamped as t1. -/
  | tsMarkerTx (frac : Nat)
  /-- TS_MARKER_RX (R744): A received host K28.1 column is stamped as t4. -/
  | tsMarkerRx (frac : Nat)
  /-- DELAY_REQ_RX (R746): A received DELAY_REQ is answered and the offset and delay result is computed. Operands as those of
  GAERN_GOP_PACKET_RX. -/
  | delayReqRx (before segment after : List RxCol)
  /-- TS_EXCHANGE_TIMEOUT (R746): A SYNC_FU left unanswered for 10 ms is counted as missed. -/
  | tsExchangeTimeout
  /-- LANE_LOCKED (R724): A receive lane locks after 8 consecutive valid TRAIN sets. -/
  | laneLocked (lane : Nat) (groups : List Nat) (ctle : Nat)
  /-- LANE_ALIGNED (R725): A locked lane is deskewed against the other lanes and becomes aligned. -/
  | laneAligned (lane : Nat)
  /-- ALIGNED_TIMEOUT (R727): Under DEGRADE policy, 1 ms in TRAIN with a non-empty RXMASK sets ALIGNED. -/
  | alignedTimeout
  /-- TRAIN_EXIT (R728): The device leaves TRAIN for READY or DEGRADED and resets MSEQ and credits. -/
  | trainExit (hostTx hostRx : Nat)
  /-- TRAIN_TIMEOUT_NOTIFY (R732): 50 ms in TRAIN logs NOTIFY once. -/
  | trainTimeoutNotify
  /-- LANE_LOSS (R733): A lane is lost on a cause of Table 14-5 and the link restripes or retrains. -/
  | laneLoss (lane : Nat) (loss : LossMeas)
  /-- HOST_LOSS_ANNOUNCEMENT (R737): Four TRAIN sets from the host announce a lost lane, and the device adopts the masks. -/
  | hostLossAnnouncement (txMask rxMask : Nat)
  /-- RETRAIN_REQUEST (R738): Four consecutive TRAIN sets with ALIGNED clear make the device enter TRAIN. -/
  | retrainRequest
  /-- LINK_RETRAIN (R739): A write of 1 to LINK_RETRAIN enters TRAIN and discards traffic under R740. -/
  | linkRetrain (h : Hdr)
  /-- LINK_ENABLE (R723): A write of 1 to LINK_ENABLE starts lane bring-up in TRAIN. -/
  | linkEnable (h : Hdr)
  /-- LINK_DISABLE (R721): A write of 0 to LINK_ENABLE turns the drivers off and puts the link in DISABLED. -/
  | linkDisable (h : Hdr)
  /-- PRBS_GEN (R747): A write of PRBS_GEN makes a free transmit lane send a raw PRBS sequence. -/
  | prbsGen (h : Hdr) (lane value : Nat)
  /-- PRBS_CHK (R750): A write of PRBS_CHK selects the checked sequence and clears its counts. -/
  | prbsChk (h : Hdr) (lane value : Nat)
  /-- PRBS_SYNC_GAIN (R749): A checker declares sync after 64 consecutive correctly predicted bits. -/
  | prbsSyncGain (lane : Nat)
  /-- PRBS_SYNC_LOSS (R749): More than 32 errors within 1,024 bits drop the checker's sync. -/
  | prbsSyncLoss (lane errs : Nat)
  /-- INJ_GO_START (R753): A write of 1 to INJ_GO injects an error, once or periodically. -/
  | injGoStart (h : Hdr) (lane : Nat)
  /-- INJ_GO_STOP (R753): A write of 0 to INJ_GO stops periodic injection. -/
  | injGoStop (h : Hdr) (lane : Nat)
  /-- INJ_PERIODIC (R753): Every INJ_PERIOD groups the lane injects another error. -/
  | injPeriodic (lane : Nat)
  /-- MEM_TRAINING_DONE (R763): Full GDDR7 training ends, sets CAP_GDDR7_FOUND and releases NOT_READY objects. -/
  | memTrainingDone (ok0 ok1 : Bool)
  /-- MEM_RETRAIN (R767): A write of 1 to MEM_RETRAIN runs full training and returns OFFLINE channels to OK. -/
  | memRetrain (h : Hdr)
  /-- MEM_TRACKING (R764): Every MEM_TRACK_MS each channel re-centres its sampling points and reads device temperature. -/
  | memTracking (chan : Nat) (temp : Int) (edge : Bool)
  /-- MEM_REFRESH (R781): A channel performs its per-bank or all-bank refresh when due. -/
  | memRefresh (chan bank : Nat)
  /-- MEM_READ_EDC_ERROR (R786): A read EDC mismatch is retried up to 3 times and then poisoned. -/
  | memReadEdcError (requester addr repeats : Nat)
  /-- MEM_WRITE_EDC_ERROR (R786): A write EDC mismatch is retried up to 3 times and then enters the poison table. -/
  | memWriteEdcError (requester addr repeats : Nat)
  /-- MEM_CA_ERROR (R786): A command/address error is reissued and may retrain the path or take the channel OFFLINE. -/
  | memCaError (requester addr repeats : Nat) (read : Bool)
  /-- ARB_HANDOVER (R798): At a burst boundary a port chooses its next owner from urgent or all waiting requesters. -/
  | arbHandover (port : Nat) (own : List Nat)
  /-- REQUEST_PROMOTION (R794): A request that has waited MEM_ARB_PROMOTE cycles becomes urgent. -/
  | requestPromotion (port requester : Nat)
  /-- MEM_PEEK (R792): A read of MEM_PEEK reads 256 bytes at MEM_PEEK_ADDR through requester DIAG. -/
  | memPeek (h : Hdr) (block : Nat)
  /-- HK_REPEAT_START (R817): The sequencer starts the next repeat of a sequence entry after its DELAY. -/
  | hkRepeatStart
  /-- HK_CONVERSION_DONE (R807): A housekeeping conversion ends and its corrected result updates the values, ring and consumers. -/
  | hkConversionDone (adc : Nat) (code : Int)
  /-- THERMAL_ROUND (R837): Thermal protection requests an urgent conversion of each sensor once per millisecond. -/
  | thermalRound (sensor : Nat)
  /-- HM_VHV_CHECK (R829): Hawkmoth requests an urgent conversion of VHV at arming and every 10 ms. -/
  | hmVhvCheck
  /-- HK_NOW (R828): A READ of HK_NOW converts each element urgently and returns them sampled together. -/
  | hkNow (h : Hdr) (element count : Nat) (codes : List Int)
  /-- HK_RUN_STOP (R820): A write of 0 to HK_RUN stops the sequencer after the conversion in progress. -/
  | hkRunStop (h : Hdr)
  /-- HK_RUN_START (R820): A write of 1 to HK_RUN restarts the sequencer at entry 0. -/
  | hkRunStart (h : Hdr)
  /-- THERMAL_SHUTDOWN_TRIP (R848): A sensor above its shutdown limit for 10 µs shuts the device down. -/
  | thermalShutdownTrip (sensor : Nat)
  /-- THERMAL_AUTO_RESTART (R850): After 2 s below the restart limits the device restarts from fuse load. -/
  | thermalAutoRestart
  /-- POWER_ON_RESET (R872): VAON below 2.70 V for 10 µs, or first power, resets the device and device time. -/
  | powerOnReset
  /-- RESET_N_LOW (R872): RESET_N low for at least 1 µs takes an external reset. -/
  | resetNLow
  /-- RST_REQ (R874): A write of 1 to RST_REQ is answered and the device resets within 1 ms. -/
  | rstReq (h : Hdr)
  /-- SUPERVISOR_RESET (R872): A lockstep mismatch, control-cluster watchdog or supply undervoltage resets the device. -/
  | supervisorReset (cause core : Nat)
  /-- CLOCK_LOSS (R869): Loss of the reference or PLL lock asserts the inhibit and takes a clock reset. -/
  | clockLoss
  /-- RAILS_IN_RANGE (R858): All rails in range for 1 ms let start-up leave the always-on phase. -/
  | railsInRange
  /-- FUSE_LOAD_DONE (R889): Fuse load of identity, trims and variant enables ends. -/
  | fuseLoadDone
  /-- REF_QUALIFIED (R866): The reference clock qualifies after 1,024 good periods and the main PLL locks. -/
  | refQualified
  /-- FW_SLOT_CHECKED (R880): Loading and checking of a firmware slot ends, falling back to the other slot or BOOT_FAILED. -/
  | fwSlotChecked (slot : Nat)
  /-- BOOT_CONFIG_ENTRY (R885): The internal session executes the next boot configuration entry. -/
  | bootConfigEntry
  /-- LINK_PHASE_END (R889): Start-up's LINK phase ends at READY or after 5 ms. -/
  | linkPhaseEnd
  /-- STARTUP_CALIBRATION_DONE (R586): The start-up calibration ends and start-up reaches READY. -/
  | startupCalibrationDone
  /-- VHV_REVERSE (R860): VHV below −0.5 V turns every VHV-fed output off. -/
  | vhvReverse (mv : Int)
  /-- VHV_UNDERVOLTAGE (R860): VHV below 8.0 V turns every VHV-fed output off. -/
  | vhvUndervoltage (mv : Int)
  /-- VHV_OVERVOLTAGE (R860): VHV above 62.0 V turns every VHV-fed output off. -/
  | vhvOvervoltage (mv : Int)
  /-- VHV_RECOVERY (R861): The end of a VHV lockout restarts the bias outputs. -/
  | vhvRecovery (mv : Int)
  /-- POWER_DOMAIN_RAMP_DONE (R863): A switched-on power domain completes its ramp. -/
  | powerDomainRampDone (domain : Nat)
  /-- POWER_DOMAIN_FAULT (R864): A domain not on 100 µs after switch-on reads FAULT and logs or stops start-up. -/
  | powerDomainFault (domain : Nat)
  /-- SLOW_CRYSTAL_FAIL (R870): A slow crystal with no edge for 4 periods is replaced by the RC oscillator. -/
  | slowCrystalFail
  /-- PWR_PARK (R895): A write of 1 to PWR_PARK starts the ordered entry into parked mode. -/
  | pwrPark (h : Hdr)
  /-- PARK_ENTRY_DONE (R896): The entry into parked mode completes with GDDR7 in self-refresh and PWR_EN low. -/
  | parkEntryDone
  /-- CAN_WAKE (R899): CAN_WAKE low for 5 µs wakes the device from parked mode. -/
  | canWake
  /-- GPIO_WAKE (R899): A selected edge on GPIO_00–GPIO_03 wakes the device. -/
  | gpioWake (pin : Nat) (rising : Bool)
  /-- WAKE_TIMER (R899): PWR_WAKE_TIMER_S after the entry ended the wake timer wakes the device. -/
  | wakeTimer
  /-- VHV_WAKE (R899): VHV rising through 8.5 V wakes the device. -/
  | vhvWake
  /-- FW_SLOT_ERASE (R883): A write of 1 to FW_SLOT_ERASE starts the erase of a slot. -/
  | fwSlotErase (h : Hdr) (slot : Nat)
  /-- FW_ERASE_DONE (R883): The slot erase completes and FW_FLASH_BUSY clears. -/
  | fwEraseDone (slot : Nat)
  /-- FW_SLOT_IMAGE (R883): A WRITE_BLOCK of FW_SLOT_IMAGE programs an erased slot and checks the image at the last block. -/
  | fwSlotImage (h : Hdr) (slot block : Nat) (data : Bytes)
  /-- FAULT_LOG_BATCH_WRITE (R909): When the oldest held entry's hold ends, it and its concurrent entries are written to the log in rank order. -/
  | faultLogBatchWrite
  /-- FLT_ACK (R913): A write of n to FLT_ACK acknowledges every entry with SEQ up to n. -/
  | fltAck (h : Hdr) (value : Nat)
  /-- FLT_CLEAR (R915): A write of 1 to FLT_CLEAR empties every log slot when no INHIBIT entry is unacknowledged. -/
  | fltClear (h : Hdr)
  /-- FEEDBACK_MISSING (R627): A slot that receives no result from its ATL_FB_A channel for 3 loop periods declares MISSING, enters MODEL_HOLD and clears PLAUSIBLE. -/
  | feedbackMissing (slot : Nat)
  /-- BIAS_CURRENT_LIMIT (R327): A bias output enters or leaves its 6 mA current limit, so RX_BIAS_STATUS moves to or from LIMIT and the 1 ms limit timer starts or stops. -/
  | biasCurrentLimit (bias : Nat) (enter : Bool)
  /-- BIAS_VHV_RECOVERY (R327): A bias output that VHV below 9 V has turned off restarts by itself when VHV recovers. -/
  | biasVhvRecovery
  /-- MEM_CA_RETRAIN_DONE (R786): A channel's command/address retrain after a kind-2 error ends and releases its waiting requests, or takes the channel OFFLINE when it failed. -/
  | memCaRetrainDone (chan : Nat) (ok : Bool)
  /-- CAL_FLASH_WRITE_DONE (R583): A write of the calibration field cache to a QSPI field slot, or the erase of the slots, completes, so CAL_STORE_SEQ and CAL_FLASH_WRITES update and FW_FLASH_BUSY clears. -/
  | calFlashWriteDone
  /-- SELF_REFRESH_EXIT (R785): On a warm start the memory controller completes its self-refresh exit, the reload of trained settings and one tracking step per channel, and the fault log is restored from the mirror. -/
  | selfRefreshExit
  deriving DecidableEq, Repr

end Sys2Proof
end

