-- ==== Sys2Proof/Decode.lean ====
section
/-! DEFINITION. The block has no instruction encoding: the table of operations and events gives its rows no bits, so no word
spells a command. Messages of the Gaern Object Protocol reach the block as bytes of its carriers and are parsed in
Machine/Gop.lean and Machine/Carriers.lean. -/

namespace Sys2Proof

/-- The command that a word spells by the table's bits: no row gives bits, so none. -/
def decodeTableWord (_nbits _w : Nat) : Option Instr := none

end Sys2Proof
end

