-- ==== Sys2Proof/Machine/CalTypes.lean ====
section
/-! DEFINITION. Slice records, calibration sets and stores (Table 11-5, R576, R581). -/

namespace Sys2Proof.Machine

/-- The values of one slice (Table 11-5). -/
structure SliceRec where
  /-- SKEW_A to SKEW_C in 1/16 LSB. -/
  skew : List Int := [0, 0, 0]
  /-- Q[0] to Q[31] in 1/16 LSB. -/
  q : List Int := List.replicate 32 0
  /-- TIA_ZERO of G0 to G3 in 0.25 mV. -/
  zero : List Int := [0, 0, 0, 0]
  /-- DAC_OFS in 1/4 code and DAC_GAIN in 1/32,768. -/
  ofs : List Int := [0, 0, 0]
  gain : List Int := [32768, 32768, 32768]
  /-- Q_SKEW and Q_INL, and whether the record is valid (R572, R573). -/
  qSkew : Int := 0
  qInl : Int := 0
  valid : Bool := false
  /-- Measured under GAP (R569). -/
  gap : Bool := false
  deriving DecidableEq, Repr

/-- A calibration set of a group: temperature in 0.1 °C, source (1 factory, 2 field), CRC of EX_WALK_COEF (R579), pass time, and
the records of positions 0 to 15 and of the Skipper. -/
structure CalSet where
  temp : Int
  source : Nat
  walk : Nat
  time : Nat
  recs : List SliceRec
  deriving DecidableEq, Repr

/-- The header of a store (R581): format version, die identity, sequence number, length, and CRC-32 over the rest. -/
structure StoreHdr where
  version : Nat
  ident : List Nat
  seq : Nat
  len : Nat
  crc : Nat
  deriving DecidableEq, Repr, Inhabited

/-- A store (R581): die identity, whether its version, length and CRC-32 match the device and its content, sequence number, sets by
group, repairs by group, and device items as index, element, value. -/
structure CalStore where
  ident : List Nat
  sound : Bool
  seq : Nat
  sets : List (Nat × List CalSet)
  repairs : List (Nat × Nat)
  items : List (Nat × Nat × Nat)
  deriving DecidableEq, Repr

/-- A store is valid for a die identity (R581). -/
def CalStore.valid (st : CalStore) (fuse : List Nat) : Bool := st.sound && st.ident == fuse

end Sys2Proof.Machine
end

