-- ==== Sys2Proof/Config.lean ====
section
/-! DEFINITION. The values the spec leaves open, as constants without a body: nothing in Lean can evaluate one or prove a value
of it, so a statement about the block holds whatever they are. `n` is the device's counter of free values. -/

namespace Sys2Proof.Config

/-- The byte of GDDR7 at an address whose content the spec calls undefined (R784, Table 17-5); `epoch` counts the losses. -/
opaque undefByte : Nat → Nat → Byte

/-- The value of a counter that is not described as wrapping after it has passed its width: index, element, exact count. -/
opaque ctrOverflow : Nat → Nat → Nat → Nat

/-- The minimum that a READ with META returns for an object whose row states no range: index, element. -/
opaque metaMin : Nat → Nat → Nat

/-- The maximum that a READ with META returns for an object whose row states no range: index, element. -/
opaque metaMax : Nat → Nat → Nat

/-- The fabric cycles of 64 controller cycles (R780): the spec does not give the controller's clock. -/
opaque rowHold : Nat

/-- A value that the spec leaves open, by the counter of free values. -/
opaque free : Nat → Nat

/-- Coefficient `t` of a filter chain whose delay has a fractional part: the spec does not state the interpolation of the
coefficient set across the 64 phases (R516). Coefficients in force, phase, tap. -/
opaque polyphase : List Int → Nat → Nat → Int

/-- The header of a calibration store as an image's bytes give it (R581): the spec states what it holds and leaves its layout
open. -/
opaque storeHdr : Bytes → Machine.StoreHdr

/-- The bytes of that header. -/
opaque storeHdrLen : Nat

/-- The format version that the device takes (R581); the spec names no value. -/
opaque storeVersion : Nat

/-- What the rest of an image holds: sets by group, repairs by group, and device items. The layout is left open. -/
opaque storeBody : Bytes → List (Nat × List Machine.CalSet) × List (Nat × Nat) × List (Nat × Nat × Nat)

/-- One step of x″ = −a0 x − a1 x′ + b u over a time, from (x, x′) and u: the spec leaves the discretisation of the reference filter
and of the mirror model open (R619, R622). Arguments a0, a1, b, the time in s, the state and u. -/
opaque oscillate : Rat → Rat → Rat → Rat → Rat × Rat → Rat → Rat × Rat

/-- One step of x′ = w (u − x) over a time, from x and u: the spec leaves the discretisation of the low-pass of dm open (R620).
Arguments w, the time in s, x and u. -/
opaque lag : Rat → Rat → Rat → Rat → Rat

/-- Tap `i` of one half of the bridge chain's FIR: the spec gives its length and not its coefficients (R594). -/
opaque sbTap : Nat → Int

end Sys2Proof.Config
end

