-- ==== Sys2Proof/Machine/Words.lean ====
section
/-! DEFINITION. Bit fields, signs, byte order, check sums, rounding and binary32: the arithmetic every chapter uses. -/

namespace Sys2Proof.Machine

/-- Bits `[lo + len - 1 : lo]` of a word. -/
def bits (w lo len : Nat) : Nat := (w >>> lo) % 2 ^ len

/-- Bit `i` of a word. -/
def bit (w i : Nat) : Bool := (w >>> i) % 2 == 1

/-- A Boolean as the byte a BOOL element holds (R69). -/
def b2n (b : Bool) : Nat := if b then 1 else 0

/-- Word `w` with bit `i` set to `b`. -/
def setBit (w i : Nat) (b : Bool) : Nat :=
  if b then w ||| (1 <<< i) else if bit w i then w - (1 <<< i) else w

/-- Word `w` with the field of `len` bits at `lo` set to `v`. -/
def setBits (w lo len v : Nat) : Nat := w - (bits w lo len <<< lo) + ((v % 2 ^ len) <<< lo)

/-- The two's complement reading of the low `n` bits (Table 00-6). -/
def toS (n w : Nat) : Int := if w % 2 ^ n < 2 ^ (n - 1) then (w % 2 ^ n : Nat) else ((w % 2 ^ n : Nat) : Int) - 2 ^ n

/-- The low `n` bits of an integer in two's complement. -/
def ofS (n : Nat) (i : Int) : Nat := (i % (2 ^ n : Int)).toNat

/-- The number of set bits among the low `n`. -/
def popcount : Nat → Nat → Nat
  | 0, _ => 0
  | n + 1, w => popcount n (w / 2) + w % 2

/-- An integer clamped to an interval. -/
def clampI (lo hi x : Int) : Int := if x < lo then lo else if hi < x then hi else x

/-- A natural number saturated at a bound. -/
def satN (hi x : Nat) : Nat := if hi < x then hi else x

/-! ### Byte strings (R67: least significant byte first) -/

/-- The low `n` bytes of a number, least significant first. -/
def leBytes : Nat → Nat → Bytes
  | 0, _ => []
  | n + 1, v => BitVec.ofNat 8 v :: leBytes n (v / 256)

/-- The number a byte string holds, least significant byte first. -/
def leNat : Bytes → Nat
  | [] => 0
  | b :: bs => b.toNat + 256 * leNat bs

/-- Byte `i` of a string, zero past its end. -/
def byteAt (bs : Bytes) (i : Nat) : Nat := ((bs[i]?).getD 0).toNat

/-- The number held by `n` bytes from byte `i` on. -/
def fieldAt (bs : Bytes) (i n : Nat) : Nat := leNat ((bs.drop i).take n)

/-- A run of zero bytes. -/
def zeros (n : Nat) : Bytes := List.replicate n 0

/-- A string cut or padded with zeros to `n` bytes. -/
def padTo (n : Nat) (bs : Bytes) : Bytes := bs.take n ++ zeros (n - bs.length)

/-! ### Check sums -/

/-- One bit step of CRC-32 (IEEE 802.3, reflected). -/
def crc32Bit (c : Nat) : Nat := if c % 2 == 1 then (c / 2) ^^^ 0xEDB88320 else c / 2

/-- `n` bit steps of CRC-32. -/
def crc32Bits : Nat → Nat → Nat
  | 0, c => c
  | n + 1, c => crc32Bits n (crc32Bit c)

/-- CRC-32 with the IEEE 802.3 polynomial over a byte string (R146, R706). -/
def crc32 (bs : Bytes) : Nat := (bs.foldl (fun c b => crc32Bits 8 (c ^^^ b.toNat)) 0xFFFFFFFF) ^^^ 0xFFFFFFFF

/-- One bit step of CRC-16/CCITT-FALSE. -/
def crc16Bit (c : Nat) : Nat := if bit c 15 then ((c * 2) % 65536) ^^^ 0x1021 else (c * 2) % 65536

/-- `n` bit steps of CRC-16. -/
def crc16Bits : Nat → Nat → Nat
  | 0, c => c
  | n + 1, c => crc16Bits n (crc16Bit c)

/-- CRC-16/CCITT-FALSE (R103). -/
def crc16 (bs : Bytes) : Nat := bs.foldl (fun c b => crc16Bits 8 (c ^^^ (b.toNat * 256))) 0xFFFF

/-! ### Rounding -/

/-- Rounding to the nearest integer, ties to even. -/
def roundHE (q : Rat) : Int :=
  let f := q.floor
  let r := q - f
  if r < 1 / 2 then f else if 1 / 2 < r then f + 1 else if f % 2 == 0 then f else f + 1

/-- Division of integers rounded to the nearest, ties to even. -/
def divHE (a : Int) (b : Nat) : Int := roundHE ((a : Rat) / (b : Rat))

/-- Rounding to the nearest integer, ties away from zero. -/
def roundHA (q : Rat) : Int := if 0 ≤ q then (q + 1 / 2).floor else -((-q + 1 / 2).floor)

/-- The integer square root by bisection over `n` bits. -/
def isqrtGo : Nat → Nat → Nat → Nat
  | 0, _, r => r
  | n + 1, x, r =>
    let t := r + 2 ^ n
    isqrtGo n x (if t * t ≤ x then t else r)

/-- The integer square root of a number below `2 ^ 128`. -/
def isqrt (x : Nat) : Nat := isqrtGo 64 x 0

/-! ### binary32 (Table 00-6, R945) -/

/-- Whether the raw word is a finite binary32. -/
def f32Finite (w : Nat) : Bool := bits w 23 8 != 255

/-- The value of a finite binary32 word. -/
def f32Val (w : Nat) : Rat :=
  let e := bits w 23 8
  let m := bits w 0 23
  let mag : Rat :=
    if e == 0 then (m : Rat) / 2 ^ 149
    else if e < 150 then ((m + 2 ^ 23 : Nat) : Rat) / 2 ^ (150 - e) else ((m + 2 ^ 23 : Nat) : Rat) * 2 ^ (e - 150)
  if bit w 31 then -mag else mag

/-- `2 ^ e` for an integer exponent. -/
def pow2 (e : Int) : Rat := if 0 ≤ e then (2 : Rat) ^ e.toNat else 1 / (2 : Rat) ^ ((-e).toNat)

/-- The exponent of the leading bit of a positive rational. -/
def ilog2 (q : Rat) : Int :=
  let e : Int := (Nat.log2 q.num.natAbs : Int) - (Nat.log2 q.den : Int)
  if pow2 e ≤ q then e else e - 1

/-- The binary32 word nearest to a rational, ties to even. -/
def f32Of (q : Rat) : Nat :=
  if q = 0 then 0 else
    let s := if q < 0 then 2 ^ 31 else 0
    let a := if q < 0 then -q else q
    let e0 := ilog2 a
    let e := if e0 < -126 then -126 else e0
    let m := (roundHE (a * pow2 (23 - e))).toNat
    let w := ((e + 126).toNat <<< 23) + m
    s + (if 0x7F800000 ≤ w then 0x7F800000 else w)

end Sys2Proof.Machine
end

