-- ==== Sys2Proof/Machine/LineCode.lean ====
section
/-! DEFINITION. What a Gaern lane carries bit by bit (chapter 14): the 8b/10b groups of IEEE 802.3 Clause 36 with their running
disparity (R685, R686; the tables of the standard are PRESUMED, log entry 200), the special symbols of Table 14-1, and the
sequences of R747. -/

namespace Sys2Proof.Machine

/-- A symbol of a lane: a data byte, or a special symbol: y for K28.y, 27 for K27.7, 29 for K29.7 and 7 for K30.7 (Table 14-1). -/
inductive LineSym where
  | data (b : Byte)
  | special (k : Nat)
  deriving DecidableEq, Repr

/-- The six-bit halves `abcdei` of D0 to D31 for negative running disparity, bit a the highest. -/
def code6 : List Nat :=
  [0b100111, 0b011101, 0b101101, 0b110001, 0b110101, 0b101001, 0b011001, 0b111000,
   0b111001, 0b100101, 0b010101, 0b110100, 0b001101, 0b101100, 0b011100, 0b010111] ++
  [0b011011, 0b100011, 0b010011, 0b110010, 0b001011, 0b101010, 0b011010, 0b111010,
   0b110011, 0b100110, 0b010110, 0b110110, 0b001110, 0b101110, 0b011110, 0b101011]

/-- The four-bit halves `fghj` of Dx.0 to Dx.7 for negative running disparity. -/
def code4 : List Nat := [0b1011, 0b1001, 0b0101, 0b1100, 0b1101, 0b1010, 0b0110, 0b1110]

/-- The six-bit half of a data group. -/
def half6 (rd : Bool) (x : Nat) : Nat :=
  let c := (code6[x]?).getD 0
  if rd && (popcount 6 c != 3 || x == 7) then 63 - c else c

/-- The groups Dx.7 that take the alternate four-bit half, so that no run of five equal bits crosses the halves. -/
def altHalf (rd : Bool) (x : Nat) : Bool := if rd then [11, 13, 14].contains x else [17, 18, 20].contains x

/-- The four-bit half of a data group, at the running disparity that its six-bit half leaves. -/
def half4 (rd : Bool) (x y : Nat) : Nat :=
  let c := if y == 7 && altHalf rd x then 0b0111 else (code4[y]?).getD 0
  if rd && (popcount 4 c != 2 || y == 3) then 15 - c else c

/-- The group of a data byte at a running disparity (positive: true), bit a the highest of its ten. -/
def dataGroup (rd : Bool) (b : Nat) : Nat :=
  let h := half6 rd (b % 32)
  (h <<< 4) + half4 (if popcount 6 h == 3 then rd else !rd) (b % 32) (b / 32)

/-- The group of a special symbol at negative running disparity; at positive disparity it is the complement. -/
def specialCode (k : Nat) : Nat :=
  if k == 0 then 0b0011110100 else if k == 1 then 0b0011111001 else if k == 3 then 0b0011110011 else if k == 5 then 0b0011111010
  else if k == 27 then 0b1101101000 else if k == 29 then 0b1011101000 else 0b0111101000

/-- The group of a special symbol. -/
def specialGroup (rd : Bool) (k : Nat) : Nat := if rd then 1023 - specialCode k else specialCode k

/-- The group of a symbol. -/
def LineSym.group (rd : Bool) : LineSym → Nat
  | .data b => dataGroup rd b.toNat
  | .special k => specialGroup rd k

/-- The running disparity after a group: a group with as many ones as zeros keeps it, any other turns it. -/
def rdAfter (rd : Bool) (g : Nat) : Bool := if popcount 10 g == 5 then rd else !rd

/-- Symbols coded one after another: their groups, and the running disparity they leave (R685). -/
def codeSyms (rd : Bool) : List LineSym → List Nat × Bool
  | [] => ([], rd)
  | s :: l =>
    let g := s.group rd
    let r := codeSyms (rdAfter rd g) l
    (g :: r.1, r.2)

/-- The bits of a group in the order they are sent, bit a first (R685). -/
def groupBits (g : Nat) : List Bool := (List.range 10).map (fun i => g.testBit (9 - i))

/-- The special symbols that the device sends and accepts (Table 14-1, R692). -/
def specials : List Nat := [0, 1, 3, 5, 7, 27, 29]

/-- Whether a group is valid at a running disparity. -/
def groupValid (rd : Bool) (g : Nat) : Bool :=
  (List.range 256).any (fun b => dataGroup rd b == g) || specials.any (fun k => specialGroup rd k == g)

/-- What a receiver makes of a group (R686): valid, valid only for the opposite disparity, or a code violation. -/
inductive GroupKind where
  | valid | disparity | violation
  deriving DecidableEq, Repr

/-- The kind of a received group at the receiver's running disparity. -/
def groupKind (rd : Bool) (g : Nat) : GroupKind :=
  if groupValid rd g then .valid else if groupValid (!rd) g then .disparity else .violation

/-- The symbol of a group at a running disparity, none where it has none. -/
def symAt (rd : Bool) (g : Nat) : Option LineSym :=
  match (List.range 256).find? (fun b => dataGroup rd b == g) with
  | some b => some (.data (BitVec.ofNat 8 b))
  | none => (specials.find? (fun k => specialGroup rd k == g)).map .special

/-- The symbol of a received group: at the receiver's disparity, else at the opposite one. -/
def symOf (rd : Bool) (g : Nat) : Option LineSym := (symAt rd g).orElse (fun _ => symAt (!rd) g)

/-- The running disparity that a half of a received group leaves, by the rule of the standard for any bits. -/
def rdHalf (rd : Bool) (n v : Nat) : Bool :=
  let ones := popcount n v
  if n < 2 * ones then true else if 2 * ones < n then false
  else if v == 2 ^ (n / 2) - 1 then true else if v == 2 ^ n - 2 ^ (n / 2) then false else rd

/-- The running disparity of a receiver after a group, valid or not. -/
def rdRecv (rd : Bool) (g : Nat) : Bool := rdHalf (rdHalf rd 6 (g >>> 4)) 4 (g % 16)

/-- The symbols of a TRAIN set (Table 14-4) on a lane. -/
def trainSet (lane tx rx rate : Nat) (degrade aligned locked : Bool) : List LineSym :=
  let flags := (rate <<< 4) + (b2n degrade <<< 3) + (b2n aligned <<< 1) + b2n locked
  let chk := ((((0x4A ^^^ lane) ^^^ tx) ^^^ rx) ^^^ flags)
  [.special 5] ++ ([0x4A, lane, tx, rx, flags, chk, 0xB5].map (fun b => .data (BitVec.ofNat 8 b)))

/-- The lane number that a received TRAIN set carries where the set is valid: K28.5 and the rest as Table 14-4 has them, the check, the
rate of the receiver, and a number within its own TXMASK (R724). -/
def setNumber (rate : Nat) (l : List LineSym) : Option Nat :=
  let b := l.drop 1 |>.map (fun s => match s with
    | .data x => x.toNat
    | .special _ => 256)
  let at_ := fun i => (b[i]?).getD 256
  let chk := (((at_ 0 ^^^ at_ 1) ^^^ at_ 2) ^^^ at_ 3) ^^^ at_ 4
  if l.length == 8 && l.head? == some (.special 5) && b.all (· < 256) && at_ 0 == 0x4A && at_ 6 == 0xB5 && at_ 5 == chk &&
      bits (at_ 4) 4 2 == rate && at_ 1 < 8 && bit (at_ 2) (at_ 1) then some (at_ 1) else none

/-- A list cut into sets of eight symbols. -/
def setsOf : Nat → List LineSym → List (List LineSym)
  | 0, _ => []
  | n + 1, l => l.take 8 :: setsOf n (l.drop 8)

/-- What a lane sends of a segment (R705): the start column, its bytes, its end, and idle up to the last lane's end; `cols` data
columns in all. -/
def segSyms (cols : Nat) (bs : Bytes) : List LineSym :=
  .special 27 :: (bs.map .data ++ .special 29 :: List.replicate (cols - bs.length) (.special 5))

/-! ### Line-bit sequences (R747) -/

/-- Degree and second tap of a sequence: PRBS7, PRBS15, PRBS23, PRBS31. -/
def prbsPoly (kind : Nat) : Nat × Nat :=
  if kind == 1 then (7, 6) else if kind == 2 then (15, 14) else if kind == 3 then (23, 18) else (31, 28)

/-- The next bit of a sequence from the bits before it, newest first, and those bits with it. -/
def prbsStep (kind w : Nat) : Bool × Nat :=
  let p := prbsPoly kind
  let b := w.testBit (p.1 - 1) != w.testBit (p.2 - 1)
  (b, (2 * w + b2n b) % 2 ^ p.1)

/-- The first `n` bits of a sequence seeded with `w`. -/
def prbsFrom (kind : Nat) : Nat → Nat → List Bool
  | 0, _ => []
  | n + 1, w => (prbsStep kind w).1 :: prbsFrom kind n (prbsStep kind w).2

/-- The first `n` line bits after PRBS_GEN is written: the seed is all ones (R747). -/
def prbsBits (kind n : Nat) : List Bool := prbsFrom kind n (2 ^ (prbsPoly kind).1 - 1)

end Sys2Proof.Machine
end

