-- ==== Sys2Proof/Machine/ObjNames.lean ====
section
/-! DEFINITION. The object names: each mnemonic of the object tables is the index the spec gives it (R84, Table 02-1).
Written from the object tables of chapters 00 to 18 of spec/. -/

namespace Sys2Proof.Machine.O

abbrev ID_FUSE : Nat := 0x1000
abbrev ID_PART_NAME : Nat := 0x1001
abbrev ID_STEPPING_NAME : Nat := 0x1002
abbrev ID_FW_VERSION : Nat := 0x1003
abbrev ID_ODF_CRC : Nat := 0x1008
abbrev CAP_RX_GROUPS : Nat := 0x1010
abbrev CAP_RX_CHANNELS : Nat := 0x1011
abbrev CAP_DIGI_SLICES : Nat := 0x1012
abbrev CAP_TAPESTRY : Nat := 0x1013
abbrev CAP_GDDR7_MAX : Nat := 0x1014
abbrev CAP_GDDR7_FOUND : Nat := 0x1015
abbrev CAP_ATLAS_SLOTS : Nat := 0x1016
abbrev CAP_TWILL : Nat := 0x1017
abbrev CAP_UNIT_MAP : Nat := 0x1018
abbrev SES_OPEN : Nat := 0x1100
abbrev SES_EPOCH : Nat := 0x1101
abbrev LOCK_OWNER : Nat := 0x1110
abbrev LOCK_LEASE_MS : Nat := 0x1111
abbrev LOCK_STAGED : Nat := 0x1112
abbrev COMMIT_PENDING : Nat := 0x1113
abbrev COMMIT_LANDED_TIME : Nat := 0x1114
abbrev LOCK_LOST : Nat := 0x1115
abbrev GOP_REQUESTS : Nat := 0x1120
abbrev GOP_DUPLICATES : Nat := 0x1121
abbrev GOP_TAG_CONFLICT : Nat := 0x1122
abbrev GOP_ABORTS : Nat := 0x1123
abbrev GOP_STALE : Nat := 0x1124
abbrev CAN_GOP_BASE_ID : Nat := 0x1130
abbrev CAN_GOP_IDMODE : Nat := 0x1131
abbrev CAN_SEG_DISCARDS : Nat := 0x1132
abbrev SPI_IRQ_GPIO : Nat := 0x1140
abbrev SPI_FRAME_ERRORS : Nat := 0x1141
abbrev SU_STATE : Nat := 0x1200
abbrev SU_READY_TIME : Nat := 0x1201
abbrev SU_PHASE_US : Nat := 0x1202
abbrev SU_START_KIND : Nat := 0x1203
abbrev SU_BOOT_CFG_ERR : Nat := 0x1204
abbrev DEV_TIME : Nat := 0x1210
abbrev DEV_TIME_SLOWSRC : Nat := 0x1211
abbrev CLK_REF_SRC : Nat := 0x1212
abbrev CLK_SLOW_FAILS : Nat := 0x1214
abbrev RST_REQ : Nat := 0x1220
abbrev RST_CAUSE : Nat := 0x1221
abbrev RST_COUNT : Nat := 0x1222
abbrev PWR_DOM_STATE : Nat := 0x1230
abbrev PWR_DOM_SWITCHES : Nat := 0x1231
abbrev PWR_PARK : Nat := 0x1232
abbrev PWR_WAKE_EN : Nat := 0x1233
abbrev PWR_WAKE_CAUSE : Nat := 0x1234
abbrev PWR_WAKE_TIMER_S : Nat := 0x1235
abbrev PWR_GPIO_WAKE : Nat := 0x1236
abbrev PWR_VHV_STATE : Nat := 0x1238
abbrev FW_SLOT_STATUS : Nat := 0x1240
abbrev FW_SLOT_SEQ : Nat := 0x1241
abbrev FW_SLOT_VERSION : Nat := 0x1242
abbrev FW_SLOT_RUNNING : Nat := 0x1243
abbrev FW_SLOT_IMAGE : Nat := 0x1244
abbrev FW_SLOT_ERASE : Nat := 0x1245
abbrev FW_FLASH_BUSY : Nat := 0x1246
abbrev JQ_RUN : Nat := 0x2000
abbrev JQ_STATE : Nat := 0x2001
abbrev JQ_ACTIVE_BANK : Nat := 0x2002
abbrev JQ_SWAP_REQ : Nat := 0x2003
abbrev JQ_SWAP_PENDING : Nat := 0x2004
abbrev JQ_SWAP_TIME : Nat := 0x2005
abbrev JQ_START_ENTRY : Nat := 0x2006
abbrev JQ_SWAP_FAULT_ENTRY : Nat := 0x2007
abbrev JQ_FRAME_PERIOD : Nat := 0x2008
abbrev JQ_FRAME_SYNC : Nat := 0x2009
abbrev JQ_FRAME_NUMBER : Nat := 0x200A
abbrev JQ_READ_PTR : Nat := 0x200B
abbrev JQ_DITHER_SPAN : Nat := 0x2010
abbrev JQ_DITHER_SEED : Nat := 0x2011
abbrev JQ_ANGLE_TOL : Nat := 0x2012
abbrev JQ_AXIS_X_SLOT : Nat := 0x2013
abbrev JQ_AXIS_Y_SLOT : Nat := 0x2014
abbrev JQ_GROUP_POLICY : Nat := 0x2015
abbrev JQ_THROTTLE_MIN : Nat := 0x2016
abbrev JQ_THROTTLE_LEVEL : Nat := 0x2017
abbrev JQ_BANK_0 : Nat := 0x2020
abbrev JQ_BANK_1 : Nat := 0x2021
abbrev JQ_PATCH : Nat := 0x2022
abbrev JQ_SHOTS : Nat := 0x2030
abbrev JQ_SUPP_HAWKMOTH : Nat := 0x2031
abbrev JQ_SUPP_ANGLE : Nat := 0x2032
abbrev JQ_SUPP_THROTTLE : Nat := 0x2033
abbrev JQ_STORE_UNCORR : Nat := 0x2034
abbrev JQ_MOVED : Nat := 0x2035
abbrev JQ_WAKE_STALLS : Nat := 0x2036
abbrev JQ_FRAME_OVERRUN : Nat := 0x2037
abbrev JQ_SYNC_MISSED : Nat := 0x2038
abbrev JQ_ACC_FORCED : Nat := 0x2039
abbrev JQ_PATCH_LATE : Nat := 0x203A
abbrev JQ_STORE_CORRECTED : Nat := 0x203B
abbrev JQ_BANK_WRAP : Nat := 0x203C
abbrev JQ_SUPP_STOP : Nat := 0x203D
abbrev JQ_EMPTY_DECODED : Nat := 0x203E
abbrev EM_STATE : Nat := 0x2400
abbrev EM_ZONE_MAP : Nat := 0x2401
abbrev EM_BLANK_NS : Nat := 0x2402
abbrev EM_FIRE_LEAD : Nat := 0x2403
abbrev EM_LEVEL_SET : Nat := 0x2410
abbrev EM_CODE : Nat := 0x2420
abbrev EM_KD_TRIM : Nat := 0x2430
abbrev EM_AN_PEAK_LAST : Nat := 0x2440
abbrev EM_AN_UNDER : Nat := 0x2441
abbrev EM_AN_OVER : Nat := 0x2442
abbrev EM_BAR_AN : Nat := 0x2450
abbrev EM_BAR_KD : Nat := 0x2451
abbrev EM_BAR_CLEAR : Nat := 0x2452
abbrev EM_TEST_PERIOD : Nat := 0x2460
abbrev EM_TEST_REQ : Nat := 0x2461
abbrev EM_TEST_LAST_TIME : Nat := 0x2462
abbrev EM_TEST_RESULT : Nat := 0x2463
abbrev EM_TEST_STARVED : Nat := 0x2464
abbrev EM_TSD_EVENTS : Nat := 0x2470
abbrev EM_TSD_ACTIVE : Nat := 0x2471
abbrev TW_ENABLE : Nat := 0x2480
abbrev TW_MODULES : Nat := 0x2481
abbrev TW_LATCH_NS : Nat := 0x2482
abbrev TW_MOD_BIND : Nat := 0x2483
abbrev TW_MOD_ISET : Nat := 0x2484
abbrev TW_MOD_USER : Nat := 0x2485
abbrev TW_STATUS : Nat := 0x2486
abbrev TW_RET_BITS : Nat := 0x2487
abbrev TW_STRINGS : Nat := 0x2488
abbrev TW_STALLS : Nat := 0x2489
abbrev TW_CHECK_FAIL : Nat := 0x248A
abbrev HM_ARM : Nat := 0x2600
abbrev HM_DISARM : Nat := 0x2601
abbrev HM_STATE : Nat := 0x2602
abbrev HM_ARM_BLOCK : Nat := 0x2603
abbrev HM_DISARM_CAUSE : Nat := 0x2604
abbrev HM_DISARM_TIME : Nat := 0x2605
abbrev HM_ARM_TIME : Nat := 0x2606
abbrev HM_CONFIG_CRC : Nat := 0x2607
abbrev HM_INJECT : Nat := 0x2608
abbrev HM_HB_TIMEOUT_US : Nat := 0x2610
abbrev HM_HOST_HB_SESSION : Nat := 0x2611
abbrev HM_HOST_HB_TIMEOUT_MS : Nat := 0x2612
abbrev HM_ARM_CLEAN_MS : Nat := 0x2613
abbrev HM_SPEED_WINDOW_US : Nat := 0x2618
abbrev HM_MIN_TRAVEL : Nat := 0x2619
abbrev HM_BUCKET_LEVEL : Nat := 0x2620
abbrev HM_BUCKET_PEAK : Nat := 0x2621
abbrev HM_BUCKET_LIMIT : Nat := 0x2622
abbrev HM_WEIGHT : Nat := 0x2623
abbrev HM_THROTTLE_EN : Nat := 0x2624
abbrev HM_THROTTLE_REQ : Nat := 0x2625
abbrev HM_SUPP_CAUSE : Nat := 0x2630
abbrev HM_ZONE_REFUSED : Nat := 0x2631
abbrev HM_INHIBITS : Nat := 0x2632
abbrev HM_CUT_SHOTS : Nat := 0x2633
abbrev RX_GROUP_STATE : Nat := 0x3000
abbrev RX_GROUP_WAKES : Nat := 0x3001
abbrev RX_GROUP_RETRY : Nat := 0x3002
abbrev RX_GAIN_POLICY : Nat := 0x3008
abbrev RX_RANGE_FORCE : Nat := 0x3009
abbrev RX_RANGE_NOW : Nat := 0x300A
abbrev RX_RANGE_STEPS : Nat := 0x300B
abbrev RX_SAT_COUNT : Nat := 0x3010
abbrev RX_TH_A_BASE : Nat := 0x3018
abbrev RX_TH_B_BASE : Nat := 0x3019
abbrev RX_TH_C_BASE : Nat := 0x301A
abbrev RX_TH_LOADED : Nat := 0x301B
abbrev RX_NF_MODE : Nat := 0x3020
abbrev RX_NF_LEN_NS : Nat := 0x3021
abbrev RX_NF_TH_OFFSET : Nat := 0x3022
abbrev RX_VOILE_MODE : Nat := 0x3028
abbrev RX_VOILE_GROUPS : Nat := 0x3029
abbrev RX_VOILE_LEAD_NS : Nat := 0x302A
abbrev RX_VOILE_GUARD_NS : Nat := 0x302B
abbrev RX_VOILE_SHOTS : Nat := 0x302C
abbrev RX_BIAS_ENABLE : Nat := 0x3030
abbrev RX_BIAS_SET_MV : Nat := 0x3031
abbrev RX_BIAS_TCO : Nat := 0x3032
abbrev RX_BIAS_TREF : Nat := 0x3033
abbrev RX_BIAS_TSRC : Nat := 0x3034
abbrev RX_BIAS_SLEW : Nat := 0x3035
abbrev RX_BIAS_TARGET_MV : Nat := 0x3036
abbrev RX_BIAS_V_MEAS : Nat := 0x3037
abbrev RX_BIAS_I_MEAS : Nat := 0x3038
abbrev RX_BIAS_STATUS : Nat := 0x3039
abbrev RX_INPUT_STATUS : Nat := 0x3040
abbrev RX_DARK_RATE : Nat := 0x3041
abbrev RX_WATCH_EN : Nat := 0x3042
abbrev RX_CH_MUTE : Nat := 0x3043
abbrev RX_CIN_OPEN_PF : Nat := 0x3044
abbrev RX_SLICE_OF : Nat := 0x3050
abbrev RX_SKIP_STATE : Nat := 0x3051
abbrev RX_REPAIR : Nat := 0x3052
abbrev RX_SKIP_REQ : Nat := 0x3053
abbrev RX_TAKEOVERS : Nat := 0x3054
abbrev RX_SLICE_STATUS : Nat := 0x3058
abbrev RX_TAP_SRC : Nat := 0x3060
abbrev TDC_HYST : Nat := 0x3401
abbrev TDC_MERGE_CP : Nat := 0x3402
abbrev TDC_ACCEPT_START : Nat := 0x3404
abbrev TDC_ACCEPT_END : Nat := 0x3405
abbrev TDC_OVF_WINDOWS : Nat := 0x3410
abbrev TDC_MERGES : Nat := 0x3411
abbrev TDC_OUTSIDE : Nat := 0x3412
abbrev TDC_STAMPS : Nat := 0x3413
abbrev TDC_C1 : Nat := 0x3420
abbrev TDC_C2 : Nat := 0x3421
abbrev TDC_CAL_FAIL : Nat := 0x3422
abbrev TDC_SKEW_A : Nat := 0x3430
abbrev TDC_SKEW_B : Nat := 0x3431
abbrev TDC_SKEW_C : Nat := 0x3432
abbrev TDC_SKEW_CH : Nat := 0x3433
abbrev TDC_T0_OFFSET : Nat := 0x3434
abbrev TDC_C_SCALE : Nat := 0x3435
abbrev TDC_EMIT_FINE : Nat := 0x3440
abbrev TDC_EMIT_MISS : Nat := 0x3441
abbrev TDC_STAT_CFG : Nat := 0x3450
abbrev TDC_STAT_GATE_LO : Nat := 0x3451
abbrev TDC_STAT_GATE_HI : Nat := 0x3452
abbrev TDC_STAT_N : Nat := 0x3453
abbrev TDC_STAT_START : Nat := 0x3454
abbrev TDC_STAT_STATE : Nat := 0x3455
abbrev TDC_STAT_HITS : Nat := 0x3456
abbrev TDC_STAT_MISSES : Nat := 0x3457
abbrev TDC_STAT_MEAN : Nat := 0x3458
abbrev TDC_STAT_DEV : Nat := 0x3459
abbrev TDC_STAT_MINMAX : Nat := 0x345A
abbrev TDC_RAW_TAP : Nat := 0x3460
abbrev EX_MAX_ECHOES : Nat := 0x3801
abbrev EX_ECHO_POLICY : Nat := 0x3802
abbrev EX_MIN_WIDTH : Nat := 0x3803
abbrev EX_CODE_TOL : Nat := 0x3804
abbrev EX_SS_MIN_MATCH : Nat := 0x3805
abbrev EX_NEAR_MM : Nat := 0x3806
abbrev EX_RETRO_V : Nat := 0x3807
abbrev EX_HIST_EDGE : Nat := 0x3808
abbrev EX_BIN_K : Nat := 0x3809
abbrev EX_HIST_START : Nat := 0x380A
abbrev EX_PEAK_MIN : Nat := 0x380B
abbrev EX_PEAK_K : Nat := 0x380C
abbrev EX_LOWSNR_Z : Nat := 0x380D
abbrev EX_INTERP : Nat := 0x380E
abbrev EX_SIDELOBE : Nat := 0x380F
abbrev EX_WALK_COEF : Nat := 0x3810
abbrev EX_WALK_VMIN : Nat := 0x3811
abbrev EX_WALK_VMAX : Nat := 0x3812
abbrev EX_WALK_TREF : Nat := 0x3813
abbrev EX_WALK_DTMAX : Nat := 0x3814
abbrev EX_TOT_AMP : Nat := 0x3820
abbrev EX_INT_COEF : Nat := 0x3828
abbrev EX_INT_RCOMP : Nat := 0x3829
abbrev EX_INT_RREF : Nat := 0x382A
abbrev EX_FUSE_DIGI : Nat := 0x3830
abbrev EX_SEND_EMPTY : Nat := 0x3831
abbrev EX_OCC_GAIN : Nat := 0x3838
abbrev EX_ECHOES : Nat := 0x3840
abbrev EX_SS_UNMATCHED : Nat := 0x3841
abbrev EX_SS_NARROW : Nat := 0x3842
abbrev EX_WALK_CLAMPS : Nat := 0x3843
abbrev EX_HIST_OUTSIDE : Nat := 0x3844
abbrev EX_HIST_SAT : Nat := 0x3845
abbrev EX_HIST_STALLS : Nat := 0x3846
abbrev EX_SIDELOBES : Nat := 0x3847
abbrev EX_DIGI_FALLBACK : Nat := 0x3848
abbrev EX_GROUPS : Nat := 0x3849
abbrev EX_HIST_CAP_CH : Nat := 0x3850
abbrev EX_HIST_CAPTURE : Nat := 0x3851
abbrev RJ_ADAPT_MODE : Nat := 0x3C00
abbrev RJ_DARK_NS : Nat := 0x3C01
abbrev RJ_ADAPT_K : Nat := 0x3C02
abbrev RJ_ADAPT_MAX : Nat := 0x3C03
abbrev RJ_AMB_ATTACK : Nat := 0x3C04
abbrev RJ_AMB_RELEASE : Nat := 0x3C05
abbrev RJ_RATE_SHIFT : Nat := 0x3C06
abbrev RJ_AMB_HIGH : Nat := 0x3C07
abbrev RJ_AMB_CURRENT : Nat := 0x3C10
abbrev RJ_RATE_A : Nat := 0x3C11
abbrev RJ_RATE_B : Nat := 0x3C12
abbrev RJ_RATE_C : Nat := 0x3C13
abbrev RJ_DARK_SKIPPED : Nat := 0x3C15
abbrev RJ_INTF_UNM : Nat := 0x3C20
abbrev RJ_INTF_WINDOWS : Nat := 0x3C21
abbrev RJ_INTF_LAST_FRAME : Nat := 0x3C22
abbrev RJ_INTF_CLASS2 : Nat := 0x3C23
abbrev RJ_WIN_SHIFT : Nat := 0x3C28
abbrev RJ_WIN_LEVEL : Nat := 0x3C29
abbrev RJ_WIN_WARN : Nat := 0x3C2A
abbrev RJ_WIN_DIRTY : Nat := 0x3C2B
abbrev RJ_WIN_DIRTY_MIN : Nat := 0x3C2C
abbrev RL_ENABLE : Nat := 0x3D00
abbrev RL_GEOMETRY : Nat := 0x3D01
abbrev RL_STATE : Nat := 0x3D02
abbrev RL_RESET : Nat := 0x3D03
abbrev RL_GEN : Nat := 0x3D04
abbrev RL_FRAME : Nat := 0x3D05
abbrev RL_KEEP_MS : Nat := 0x3D06
abbrev RL_BASE : Nat := 0x3D07
abbrev RL_MAX_AGE : Nat := 0x3D08
abbrev RL_MATCH_MM : Nat := 0x3D09
abbrev RL_MATCH_AGE_MM : Nat := 0x3D0A
abbrev RL_EGO_MMPF : Nat := 0x3D0B
abbrev RL_STABLE_HITS : Nat := 0x3D0C
abbrev RL_VOL_MAX_MM : Nat := 0x3D0D
abbrev RL_VOL_MAX_INT : Nat := 0x3D0E
abbrev RL_VOL_MIN : Nat := 0x3D0F
abbrev RL_MAP_BASE : Nat := 0x3D11
abbrev RL_MAP_FRAME : Nat := 0x3D12
abbrev RL_MAP_COL_SEL : Nat := 0x3D14
abbrev RL_MAP_COL : Nat := 0x3D15
abbrev RL_OBS : Nat := 0x3D20
abbrev RL_LATE : Nat := 0x3D21
abbrev RL_VOID_CHK : Nat := 0x3D22
abbrev RL_POISON : Nat := 0x3D23
abbrev RL_CLASS1 : Nat := 0x3D24
abbrev RL_SWEEP_PASS : Nat := 0x3D25
abbrev RL_CACHE_ERR : Nat := 0x3D26
abbrev DG_POWER : Nat := 0x4000
abbrev DG_STATE : Nat := 0x4001
abbrev DG_PAIR_MODE : Nat := 0x4002
abbrev DG_OFFSET : Nat := 0x4003
abbrev DG_GAIN : Nat := 0x4004
abbrev DG_SKEW_TRIM : Nat := 0x4005
abbrev DG_PAIR_RES : Nat := 0x4006
abbrev DG_CLIP : Nat := 0x4007
abbrev FILT_DECIM : Nat := 0x4100
abbrev FILT_DELAY : Nat := 0x4101
abbrev FILT_STATE : Nat := 0x4102
abbrev FILT_BANK : Nat := 0x4103
abbrev FILT_SWAP_REQ : Nat := 0x4104
abbrev FILT_XFADE_LEN : Nat := 0x4105
abbrev FILT_SWAP_COALESCED : Nat := 0x4106
abbrev FILT_SAT : Nat := 0x4107
abbrev FILT_SYNC : Nat := 0x4108
abbrev FILT_SYNC_SRC : Nat := 0x4109
abbrev FILT_SYNCS : Nat := 0x410A
abbrev FILT_COEF : Nat := 0x4110
abbrev ACQ_RUN : Nat := 0x4200
abbrev ACQ_STATE : Nat := 0x4201
abbrev ACQ_MODE : Nat := 0x4202
abbrev ACQ_SRC : Nat := 0x4203
abbrev ACQ_SPAN_START : Nat := 0x4204
abbrev ACQ_SPAN_LEN : Nat := 0x4205
abbrev ACQ_STREAM_MIB : Nat := 0x4206
abbrev ACQ_SNAP_MIB : Nat := 0x4208
abbrev ACQ_REC_MAX_BYTES : Nat := 0x4209
abbrev ACQ_CAPACITY : Nat := 0x420A
abbrev ACQ_PRE_COUNT : Nat := 0x420B
abbrev ACQ_POST_COUNT : Nat := 0x420C
abbrev ACQ_REARM : Nat := 0x420D
abbrev ACQ_ARM : Nat := 0x420E
abbrev ACQ_DUMP : Nat := 0x420F
abbrev ACQ_TRIG_SRC : Nat := 0x4210
abbrev ACQ_TRIG_FORCE : Nat := 0x4211
abbrev ACQ_LEVEL_SLICE : Nat := 0x4212
abbrev ACQ_LEVEL : Nat := 0x4213
abbrev ACQ_LEVEL_EDGE : Nat := 0x4214
abbrev ACQ_PRE_CLIPPED : Nat := 0x4218
abbrev ACQ_POST_CLIPPED : Nat := 0x4219
abbrev ACQ_TRIG_MISSED : Nat := 0x4220
abbrev ACQ_CAPTURES : Nat := 0x4221
abbrev ACQ_STREAM_DROPPED : Nat := 0x4222
abbrev ACQ_FIFO_DROPS : Nat := 0x4223
abbrev ACQ_MARKS : Nat := 0x4224
abbrev ACQ_MARK_LOST : Nat := 0x4225
abbrev ACQ_CAP_HEADER : Nat := 0x4228
abbrev CAL_RUN : Nat := 0x4400
abbrev CAL_STATE : Nat := 0x4401
abbrev CAL_CONCURRENT : Nat := 0x4402
abbrev CAL_DT_TRIG : Nat := 0x4403
abbrev CAL_MAX_AGE_S : Nat := 0x4404
abbrev CAL_REPAIRED_MODE : Nat := 0x4405
abbrev CAL_EDGE_MARGIN : Nat := 0x4406
abbrev CAL_SET_MERGE : Nat := 0x4407
abbrev CAL_WAKE_OFF : Nat := 0x4408
abbrev CAL_AUTO_REPAIR : Nat := 0x4409
abbrev CAL_SAVE : Nat := 0x440A
abbrev CAL_FLASH_PERIOD_S : Nat := 0x440B
abbrev CAL_GROUP_TS : Nat := 0x4410
abbrev CAL_GROUP_TOFS : Nat := 0x4411
abbrev CAL_GROUP_TEMP : Nat := 0x4412
abbrev CAL_GROUP_REQ : Nat := 0x4413
abbrev CAL_GROUP_STATE : Nat := 0x4414
abbrev CAL_LAST_PASS_TIME : Nat := 0x4415
abbrev CAL_LAST_PASS_TEMP : Nat := 0x4416
abbrev CAL_SETS : Nat := 0x4417
abbrev CAL_SET_TEMP : Nat := 0x4418
abbrev CAL_SET_SOURCE : Nat := 0x4419
abbrev CAL_EXTRAP : Nat := 0x441A
abbrev CAL_Q_SKEW : Nat := 0x4420
abbrev CAL_Q_INL : Nat := 0x4421
abbrev CAL_Q_AGE : Nat := 0x4422
abbrev CAL_Q_FAILS : Nat := 0x4423
abbrev CAL_Q_WORST : Nat := 0x4424
abbrev CAL_SKEW_LIMIT : Nat := 0x4425
abbrev CAL_PASSES : Nat := 0x4426
abbrev CAL_PASS_DISCARD : Nat := 0x4427
abbrev CAL_MUTED_WINDOWS : Nat := 0x4428
abbrev CAL_STORE_SRC : Nat := 0x4430
abbrev CAL_STORE_SEQ : Nat := 0x4431
abbrev CAL_FLASH_WRITES : Nat := 0x4432
abbrev CAL_WALK_STALE : Nat := 0x4434
abbrev CAL_FACTORY_STORE : Nat := 0x4438
abbrev CAL_RESTORE_FACTORY : Nat := 0x4439
abbrev CAL_DG_DT : Nat := 0x443C
abbrev CAL_BIAS_ERR : Nat := 0x443D
abbrev CAL_DG_AGE : Nat := 0x443E
abbrev CAL_INPUT_CHECK_S : Nat := 0x4440
abbrev SB_MODE : Nat := 0x4800
abbrev SB_EXC : Nat := 0x4801
abbrev SB_PGA : Nat := 0x4802
abbrev SB_I_MIN : Nat := 0x4803
abbrev SB_I_MAX : Nat := 0x4804
abbrev SB_BLANK : Nat := 0x4805
abbrev SB_BLANK_NS : Nat := 0x4806
abbrev SB_TSRC : Nat := 0x4808
abbrev SB_TREF : Nat := 0x4809
abbrev SB_LIN_COEF : Nat := 0x480A
abbrev SB_RESULT : Nat := 0x4810
abbrev SB_ANGLE : Nat := 0x4811
abbrev SB_I_MEAS : Nat := 0x4812
abbrev SB_STATUS : Nat := 0x4813
abbrev SB_FAULTS : Nat := 0x4814
abbrev SB_HOLDS : Nat := 0x4815
abbrev PD_RANGE : Nat := 0x4840
abbrev PD_MODE : Nat := 0x4841
abbrev PD_AVG_MS : Nat := 0x4842
abbrev PD_VALUE : Nat := 0x4843
abbrev PD_STATUS : Nat := 0x4844
abbrev ATL_MODE : Nat := 0x4900
abbrev ATL_STATE : Nat := 0x4901
abbrev ATL_HOLD_CAUSE : Nat := 0x4902
abbrev ATL_CLEAN_MS : Nat := 0x4903
abbrev ATL_FB_A : Nat := 0x4904
abbrev ATL_FB_B : Nat := 0x4905
abbrev ATL_OUT : Nat := 0x4906
abbrev ATL_PWM_GPIO : Nat := 0x4907
abbrev ATL_PWM_FS : Nat := 0x4908
abbrev ATL_DIV : Nat := 0x4909
abbrev ATL_ANGLE_MIN : Nat := 0x490A
abbrev ATL_ANGLE_MAX : Nat := 0x490B
abbrev ATL_PARK_ANGLE : Nat := 0x490C
abbrev ATL_PARK_RATE : Nat := 0x490D
abbrev ATL_REF_RATE : Nat := 0x490E
abbrev ATL_REF_FN : Nat := 0x490F
abbrev ATL_TARGET : Nat := 0x4910
abbrev ATL_MAN_I : Nat := 0x4911
abbrev ATL_KP : Nat := 0x4912
abbrev ATL_KI : Nat := 0x4913
abbrev ATL_KD : Nat := 0x4914
abbrev ATL_D_FC : Nat := 0x4915
abbrev ATL_BIQUAD : Nat := 0x4916
abbrev ATL_FF_EN : Nat := 0x4917
abbrev ATL_MDL_F0 : Nat := 0x4918
abbrev ATL_MDL_ZETA : Nat := 0x4919
abbrev ATL_MDL_GDC : Nat := 0x491A
abbrev ATL_OBS_L1 : Nat := 0x491B
abbrev ATL_OBS_L2 : Nat := 0x491C
abbrev ATL_I_MAX : Nat := 0x491D
abbrev ATL_I_SLEW : Nat := 0x491E
abbrev ATL_RESID_MAX : Nat := 0x4920
abbrev ATL_PAIR_TOL : Nat := 0x4921
abbrev ATL_FREEZE_MOTION : Nat := 0x4922
abbrev ATL_ANGLE_NOW : Nat := 0x4930
abbrev ATL_I_NOW : Nat := 0x4931
abbrev ATL_RESID : Nat := 0x4932
abbrev ATL_SAT : Nat := 0x4933
abbrev ATL_LIMIT : Nat := 0x4934
abbrev ATL_HOLDS : Nat := 0x4935
abbrev ATL_EST : Nat := 0x4936
abbrev ATL_COIL_STATUS : Nat := 0x4938
abbrev ATL_TR_NODE : Nat := 0x4940
abbrev ATL_TR_POST : Nat := 0x4941
abbrev ATL_TR_TRIG : Nat := 0x4942
abbrev ATL_TR_ARM : Nat := 0x4943
abbrev ATL_TR_STATE : Nat := 0x4944
abbrev ATL_TR_DATA : Nat := 0x4945
abbrev ATL_TR_TIME : Nat := 0x4946
abbrev ATL_INJ_NODE : Nat := 0x4950
abbrev ATL_INJ_WAVE : Nat := 0x4951
abbrev ATL_INJ_AMP : Nat := 0x4952
abbrev ATL_INJ_F0 : Nat := 0x4953
abbrev ATL_INJ_F1 : Nat := 0x4954
abbrev ATL_INJ_RUN : Nat := 0x4955
abbrev TAP_RUN : Nat := 0x5000
abbrev TAP_STATE : Nat := 0x5001
abbrev TAP_WIDTH : Nat := 0x5002
abbrev TAP_HEIGHT : Nat := 0x5003
abbrev TAP_FMT : Nat := 0x5004
abbrev TAP_RANGE_SHIFT : Nat := 0x5005
abbrev TAP_ROW_MAP : Nat := 0x5006
abbrev TAP_LINE_NS : Nat := 0x5007
abbrev TAP_POOL_BASE : Nat := 0x5008
abbrev TAP_POOL_HANDLES : Nat := 0x5009
abbrev TAP_HOST_WRITE : Nat := 0x500A
abbrev TAP_FILL : Nat := 0x500B
abbrev TAP_FILL_BUSY : Nat := 0x500C
abbrev TAP_ASM_EN : Nat := 0x5010
abbrev TAP_ASM_ACC : Nat := 0x5011
abbrev TAP_ASM_CLASSES : Nat := 0x5012
abbrev TAP_ASM_COL0 : Nat := 0x5013
abbrev TAP_ASM_WIDTH : Nat := 0x5014
abbrev TAP_ASM_BUF_A : Nat := 0x5015
abbrev TAP_ASM_BUF_B : Nat := 0x5016
abbrev TAP_LAYER_SRC : Nat := 0x5020
abbrev TAP_LAYER_ASM : Nat := 0x5021
abbrev TAP_LAYER_SEL : Nat := 0x5022
abbrev TAP_LAYER_BUF : Nat := 0x5023
abbrev TAP_LAYER_STRIDE : Nat := 0x5024
abbrev TAP_LAYER_DST : Nat := 0x5025
abbrev TAP_LAYER_SIZE : Nat := 0x5026
abbrev TAP_LAYER_SRCXY : Nat := 0x5027
abbrev TAP_LAYER_PRIO : Nat := 0x5028
abbrev TAP_LAYER_MODE : Nat := 0x5029
abbrev TAP_FRAME : Nat := 0x5030
abbrev TAP_RETIRED_FRAME : Nat := 0x5031
abbrev TAP_LAST_FLIP_TIME : Nat := 0x5032
abbrev TAP_SENT : Nat := 0x5033
abbrev TAP_DROPPED : Nat := 0x5034
abbrev TAP_TORN : Nat := 0x5035
abbrev TAP_LATE : Nat := 0x5036
abbrev TAP_UNDERRUNS : Nat := 0x5037
abbrev TAP_ASM_OUTSIDE : Nat := 0x5038
abbrev TAP_CFG_ERR : Nat := 0x5039
abbrev TAP_LINE_ERR : Nat := 0x503A
abbrev LINK_ENABLE : Nat := 0x5400
abbrev LINK_STATE : Nat := 0x5401
abbrev LINK_RATE : Nat := 0x5402
abbrev LINK_TX_MASK : Nat := 0x5403
abbrev LINK_HRX_MASK : Nat := 0x5404
abbrev LINK_LOSS_POLICY : Nat := 0x5405
abbrev LINK_MIN_TX_LANES : Nat := 0x5406
abbrev LINK_TRAIN_MIN_US : Nat := 0x5407
abbrev LINK_RETRAIN : Nat := 0x5408
abbrev LINK_ACTIVE_TX : Nat := 0x5409
abbrev LINK_ACTIVE_HRX : Nat := 0x540A
abbrev LINK_READY_TIME : Nat := 0x540B
abbrev LINK_TRAINS : Nat := 0x540C
abbrev LINK_RESTRIPES : Nat := 0x540D
abbrev LINK_GOP_CREDIT : Nat := 0x540E
abbrev LINK_ACQ_CREDIT : Nat := 0x540F
abbrev LINK_ACQ_BALANCE : Nat := 0x5410
abbrev LINK_NOTIFY_DROPPED : Nat := 0x5411
abbrev LINK_TX_SEGMENTS : Nat := 0x5418
abbrev LINK_TX_DISCARD : Nat := 0x5419
abbrev LINK_TX_ABORTS : Nat := 0x541A
abbrev LINK_RX_SEGMENTS : Nat := 0x541B
abbrev LINK_RX_DISCARD : Nat := 0x541C
abbrev LINK_TS_PERIOD_MS : Nat := 0x5420
abbrev LINK_TS_ASYM_PS : Nat := 0x5421
abbrev LINK_TS_RESULT : Nat := 0x5422
abbrev LINK_TS_MISSED : Nat := 0x5423
abbrev LANE_STATE : Nat := 0x5440
abbrev LANE_SWING : Nat := 0x5441
abbrev LANE_PRE : Nat := 0x5442
abbrev LANE_POST : Nat := 0x5443
abbrev LANE_CTLE : Nat := 0x5444
abbrev LANE_CTLE_NOW : Nat := 0x5445
abbrev LANE_POLARITY : Nat := 0x5446
abbrev LANE_CV : Nat := 0x5448
abbrev LANE_DISP : Nat := 0x5449
abbrev LANE_LOSSES : Nat := 0x544A
abbrev PRBS_GEN : Nat := 0x5450
abbrev PRBS_CHK : Nat := 0x5451
abbrev PRBS_BITS : Nat := 0x5452
abbrev PRBS_ERRS : Nat := 0x5453
abbrev PRBS_SYNC : Nat := 0x5454
abbrev INJ_KIND : Nat := 0x5455
abbrev INJ_BURST : Nat := 0x5456
abbrev INJ_PERIOD : Nat := 0x5457
abbrev INJ_GO : Nat := 0x5458
abbrev INJ_COUNT : Nat := 0x5459
abbrev MEM_STATE : Nat := 0x5800
abbrev MEM_DENSITY : Nat := 0x5801
abbrev MEM_CAPACITY : Nat := 0x5802
abbrev MEM_PIN_RATE : Nat := 0x5803
abbrev MEM_RETRAIN : Nat := 0x5804
abbrev MEM_TRACK_MS : Nat := 0x5805
abbrev MEM_PASR : Nat := 0x5806
abbrev MEM_REFRESH_MODE : Nat := 0x5807
abbrev MEM_RETAINED_TOP : Nat := 0x5808
abbrev MEM_BANK_MASK : Nat := 0x5810
abbrev MEM_ACQ_SNAP_BASE : Nat := 0x5818
abbrev MEM_ACQ_STREAM_BASE : Nat := 0x5819
abbrev MEM_CH_STATE : Nat := 0x5820
abbrev MEM_CH_RD_BYTES : Nat := 0x5821
abbrev MEM_CH_WR_BYTES : Nat := 0x5822
abbrev MEM_CH_EDC_RD : Nat := 0x5823
abbrev MEM_CH_EDC_WR : Nat := 0x5824
abbrev MEM_CH_CA : Nat := 0x5825
abbrev MEM_CH_POISON : Nat := 0x5826
abbrev MEM_CH_RMW : Nat := 0x5827
abbrev MEM_CH_ACT : Nat := 0x5828
abbrev MEM_CH_POISON_BLOCKS : Nat := 0x5829
abbrev MEM_CH_TEMP : Nat := 0x5832
abbrev MEM_ERR_LOG : Nat := 0x5840
abbrev MEM_ERR_COUNT : Nat := 0x5841
abbrev MEM_PEEK_ADDR : Nat := 0x5860
abbrev MEM_PEEK : Nat := 0x5861
abbrev MEM_ARB_QUANTUM : Nat := 0x5880
abbrev MEM_ARB_URGENT_MODE : Nat := 0x5881
abbrev MEM_ARB_GRANTS : Nat := 0x5882
abbrev MEM_ARB_WAIT : Nat := 0x5883
abbrev MEM_ARB_MAXWAIT : Nat := 0x5884
abbrev MEM_ARB_PROMOTIONS : Nat := 0x5885
abbrev MEM_ARB_PROMOTE : Nat := 0x5890
abbrev HK_RUN : Nat := 0x6000
abbrev HK_STATE : Nat := 0x6001
abbrev HK_SEQ_LEN : Nat := 0x6002
abbrev HK_SEQ : Nat := 0x6003
abbrev HK_SEQ_POS : Nat := 0x6004
abbrev HK_PREEMPTS : Nat := 0x6005
abbrev HK_LOOPS : Nat := 0x6006
abbrev HK_RING : Nat := 0x6010
abbrev HK_RING_COUNT : Nat := 0x6011
abbrev HK_OFS : Nat := 0x6020
abbrev HK_GAIN : Nat := 0x6021
abbrev HK_FMT : Nat := 0x6022
abbrev HK_UNIT : Nat := 0x6023
abbrev HK_NTC_BETA : Nat := 0x6024
abbrev HK_NTC_R25 : Nat := 0x6025
abbrev HK_NTC_RDIV : Nat := 0x6026
abbrev HK_LIM_LO : Nat := 0x6028
abbrev HK_LIM_HI : Nat := 0x6029
abbrev HK_LIM_N : Nat := 0x602A
abbrev HK_LIM_CLASS : Nat := 0x602B
abbrev HK_VALUE : Nat := 0x6030
abbrev HK_PHYS : Nat := 0x6031
abbrev HK_TIME : Nat := 0x6032
abbrev HK_NOW : Nat := 0x6033
abbrev HK_CLIP : Nat := 0x6034
abbrev THM_TEMP : Nat := 0x6100
abbrev THM_RATE : Nat := 0x6101
abbrev THM_STATUS : Nat := 0x6102
abbrev THM_MAX : Nat := 0x6103
abbrev THM_WARN_T : Nat := 0x6108
abbrev THM_THR1_T : Nat := 0x6109
abbrev THM_THR2_T : Nat := 0x610A
abbrev THM_THR3_T : Nat := 0x610B
abbrev THM_SHED_T : Nat := 0x610C
abbrev THM_HYST : Nat := 0x6110
abbrev THM_ROR_LIMIT : Nat := 0x6111
abbrev THM_ROR_EN : Nat := 0x6112
abbrev THM_THROTTLE_REQ : Nat := 0x6113
abbrev THM_AUTO_RESTART : Nat := 0x6114
abbrev THM_SD_COUNT : Nat := 0x6115
abbrev THM_SD_TIME : Nat := 0x6116
abbrev THM_SHED_EVENTS : Nat := 0x6117
abbrev THM_ROR_EVENTS : Nat := 0x6118
abbrev THM_SD_SENSOR : Nat := 0x6119
abbrev FLT_LOG : Nat := 0x7000
abbrev FLT_NEWEST_SEQ : Nat := 0x7002
abbrev FLT_ACK : Nat := 0x7003
abbrev FLT_ACKED_SEQ : Nat := 0x7004
abbrev FLT_UNACKED : Nat := 0x7005
abbrev FLT_FAULT_N : Nat := 0x7006
abbrev FLT_FIRST : Nat := 0x7007
abbrev FLT_LOST : Nat := 0x7008
abbrev FLT_CLASS_COUNT : Nat := 0x7009
abbrev FLT_CLEAR : Nat := 0x700A
abbrev FLT_MIRROR_STATE : Nat := 0x700B

end Sys2Proof.Machine.O
end

