-- ==== Sys2Proof/Machine/ObjTable.lean ====
section
/-! DEFINITION. The object table: one row per object of the dictionary (R20 to R31, Tables 00-6 and 00-7), written from
the object tables of spec/. A row gives the index, the element intervals, the type, the access, the apply class, whether a
counter wraps, the default, the accepted intervals (none: every value of the type, or a check of its own), the step of the
accepted values (0: none) and the reserved bits. Defaults and limits that differ between elements stand in Objects.lean. -/

namespace Sys2Proof.Machine

/-- Object types (Table 00-6). -/
inductive OTy where
  | bool | u8 | u16 | u32 | u64 | s16 | s32 | enum8 | bits32 | f32 | q15 | str | dom
  deriving DecidableEq, Repr

/-- Access rights (Table 00-7). -/
inductive Acc where
  | const | ro | rw | wo | rc | rws
  deriving DecidableEq, Repr

/-- Apply classes (Table 00-7). -/
inductive Cls where
  | now | shot | line | frame | stop
  deriving DecidableEq, Repr

/-- One row of an object table. -/
structure ObjRow where
  idx : Nat
  els : List (Nat × Nat)
  ty : OTy
  acc : Acc
  cls : Cls
  wrap : Bool
  dflt : Nat
  rng : List (Int × Int)
  step : Nat
  resv : Nat
  deriving DecidableEq, Repr

/-- The objects of indices 1000 to 10FF. -/
def rows10 : List ObjRow := [
  ⟨O.ID_FUSE, [(0, 7)], .u32, .const, .now, false, 0, [], 0, 0⟩,
  ⟨O.ID_PART_NAME, [(0, 0)], .str, .const, .now, false, 0, [], 0, 0⟩,
  ⟨O.ID_STEPPING_NAME, [(0, 0)], .str, .const, .now, false, 0, [], 0, 0⟩,
  ⟨O.ID_FW_VERSION, [(0, 0)], .u32, .ro, .now, false, 0, [], 0, 0⟩,
  ⟨O.ID_ODF_CRC, [(0, 0)], .u32, .const, .now, false, 0x7C41D2E9, [], 0, 0⟩,
  ⟨O.CAP_RX_GROUPS, [(0, 0)], .u8, .const, .now, false, 0x20, [(16, 16), (32, 32)], 0, 0⟩,
  ⟨O.CAP_RX_CHANNELS, [(0, 0)], .u16, .const, .now, false, 0x200, [], 0, 0⟩,
  ⟨O.CAP_DIGI_SLICES, [(0, 0)], .u8, .const, .now, false, 0x20, [], 0, 0⟩,
  ⟨O.CAP_TAPESTRY, [(0, 0)], .bool, .const, .now, false, 1, [], 0, 0⟩,
  ⟨O.CAP_GDDR7_MAX, [(0, 0)], .u8, .const, .now, false, 2, [], 0, 0⟩,
  ⟨O.CAP_GDDR7_FOUND, [(0, 0)], .u8, .ro, .now, false, 0, [(0, 2)], 0, 0⟩,
  ⟨O.CAP_ATLAS_SLOTS, [(0, 0)], .u8, .const, .now, false, 4, [], 0, 0⟩,
  ⟨O.CAP_TWILL, [(0, 0)], .bool, .const, .now, false, 1, [], 0, 0⟩,
  ⟨O.CAP_UNIT_MAP, [(0, 0)], .bits32, .const, .now, false, 0x17FFE, [], 0, 0⟩]

/-- The objects of indices 1100 to 11FF. -/
def rows11 : List ObjRow := [
  ⟨O.SES_OPEN, [(0, 3)], .u8, .wo, .now, false, 0, [], 0, 0⟩,
  ⟨O.SES_EPOCH, [(0, 3)], .u8, .ro, .now, false, 0, [(0, 3)], 0, 0⟩,
  ⟨O.LOCK_OWNER, [(0, 0)], .u8, .ro, .now, false, 0xFF, [(0, 3), (255, 255)], 0, 0⟩,
  ⟨O.LOCK_LEASE_MS, [(0, 0)], .u16, .rw, .now, false, 0x1F4, [(50, 5000)], 0, 0⟩,
  ⟨O.LOCK_STAGED, [(0, 0)], .u16, .ro, .now, false, 0, [], 0, 0⟩,
  ⟨O.COMMIT_PENDING, [(0, 0)], .enum8, .ro, .now, false, 0, [(0, 3)], 0, 0⟩,
  ⟨O.COMMIT_LANDED_TIME, [(0, 0)], .u64, .ro, .now, false, 0, [], 0, 0⟩,
  ⟨O.LOCK_LOST, [(0, 0)], .u32, .rc, .now, false, 0, [], 0, 0⟩,
  ⟨O.GOP_REQUESTS, [(0, 3)], .u32, .ro, .now, true, 0, [], 0, 0⟩,
  ⟨O.GOP_DUPLICATES, [(0, 3)], .u32, .ro, .now, false, 0, [], 0, 0⟩,
  ⟨O.GOP_TAG_CONFLICT, [(0, 3)], .u32, .ro, .now, false, 0, [], 0, 0⟩,
  ⟨O.GOP_ABORTS, [(0, 3)], .u32, .ro, .now, false, 0, [], 0, 0⟩,
  ⟨O.GOP_STALE, [(0, 3)], .u32, .ro, .now, false, 0, [], 0, 0⟩,
  ⟨O.CAN_GOP_BASE_ID, [(0, 1)], .u32, .rw, .now, false, 0x640, [], 0, 0⟩,
  ⟨O.CAN_GOP_IDMODE, [(0, 1)], .enum8, .rw, .now, false, 0, [(0, 1)], 0, 0⟩,
  ⟨O.CAN_SEG_DISCARDS, [(0, 1)], .u32, .ro, .now, false, 0, [], 0, 0⟩,
  ⟨O.SPI_IRQ_GPIO, [(0, 0)], .u8, .rw, .now, false, 0xFF, [(0, 15), (255, 255)], 0, 0⟩,
  ⟨O.SPI_FRAME_ERRORS, [(0, 0)], .u32, .ro, .now, false, 0, [], 0, 0⟩]

/-- The objects of indices 1200 to 12FF. -/
def rows12 : List ObjRow := [
  ⟨O.SU_STATE, [(0, 0)], .enum8, .ro, .now, false, 0, [(0, 10)], 0, 0⟩,
  ⟨O.SU_READY_TIME, [(0, 0)], .u64, .ro, .now, false, 0, [], 0, 0⟩,
  ⟨O.SU_PHASE_US, [(0, 6)], .u32, .ro, .now, false, 0, [], 0, 0⟩,
  ⟨O.SU_START_KIND, [(0, 0)], .enum8, .ro, .now, false, 0, [(0, 2)], 0, 0⟩,
  ⟨O.SU_BOOT_CFG_ERR, [(0, 0)], .u32, .ro, .now, false, 0, [], 0, 0⟩,
  ⟨O.DEV_TIME, [(0, 0)], .u64, .ro, .now, false, 0, [], 0, 0⟩,
  ⟨O.DEV_TIME_SLOWSRC, [(0, 0)], .enum8, .ro, .now, false, 0, [(0, 1)], 0, 0⟩,
  ⟨O.CLK_REF_SRC, [(0, 0)], .enum8, .ro, .now, false, 0, [(0, 1)], 0, 0⟩,
  ⟨O.CLK_SLOW_FAILS, [(0, 0)], .u32, .rc, .now, false, 0, [], 0, 0⟩,
  ⟨O.RST_REQ, [(0, 0)], .u8, .wo, .now, false, 0, [(1, 1)], 0, 0⟩,
  ⟨O.RST_CAUSE, [(0, 0)], .enum8, .ro, .now, false, 1, [(1, 7)], 0, 0⟩,
  ⟨O.RST_COUNT, [(1, 7)], .u32, .ro, .now, false, 0, [], 0, 0⟩,
  ⟨O.PWR_DOM_STATE, [(0, 0x5F)], .enum8, .ro, .now, false, 0, [(0, 3)], 0, 0⟩,
  ⟨O.PWR_DOM_SWITCHES, [(0, 0x5F)], .u32, .rc, .now, false, 0, [], 0, 0⟩,
  ⟨O.PWR_PARK, [(0, 0)], .u8, .wo, .now, false, 0, [(1, 1)], 0, 0⟩,
  ⟨O.PWR_WAKE_EN, [(0, 0)], .bits32, .rw, .now, false, 1, [(0, 15)], 0, 0⟩,
  ⟨O.PWR_WAKE_CAUSE, [(0, 0)], .bits32, .ro, .now, false, 0, [], 0, 0⟩,
  ⟨O.PWR_WAKE_TIMER_S, [(0, 0)], .u32, .rw, .now, false, 0xE10, [(1, 1000000)], 0, 0⟩,
  ⟨O.PWR_GPIO_WAKE, [(0, 0)], .bits32, .rw, .now, false, 0, [(0, 255)], 0, 0⟩,
  ⟨O.PWR_VHV_STATE, [(0, 0)], .enum8, .ro, .now, false, 0, [(0, 3)], 0, 0⟩,
  ⟨O.FW_SLOT_STATUS, [(0, 1)], .enum8, .ro, .now, false, 0, [(0, 4)], 0, 0⟩,
  ⟨O.FW_SLOT_SEQ, [(0, 1)], .u32, .ro, .now, false, 0, [], 0, 0⟩,
  ⟨O.FW_SLOT_VERSION, [(0, 1)], .u32, .ro, .now, false, 0, [], 0, 0⟩,
  ⟨O.FW_SLOT_RUNNING, [(0, 0)], .u8, .ro, .now, false, 0, [(0, 1)], 0, 0⟩,
  ⟨O.FW_SLOT_IMAGE, [(0, 1)], .dom, .wo, .now, false, 0, [], 0, 0⟩,
  ⟨O.FW_SLOT_ERASE, [(0, 1)], .u8, .wo, .now, false, 0, [(1, 1)], 0, 0⟩,
  ⟨O.FW_FLASH_BUSY, [(0, 0)], .bool, .ro, .now, false, 0, [], 0, 0⟩]

/-- The objects of indices 2000 to 20FF. -/
def rows20 : List ObjRow := [
  ⟨O.JQ_RUN, [(0, 0)], .enum8, .rw, .now, false, 0, [(0, 2)], 0, 0⟩,
  ⟨O.JQ_STATE, [(0, 0)], .enum8, .ro, .now, false, 0, [(0, 3)], 0, 0⟩,
  ⟨O.JQ_ACTIVE_BANK, [(0, 0)], .u8, .ro, .now, false, 0, [(0, 1)], 0, 0⟩,
  ⟨O.JQ_SWAP_REQ, [(0, 0)], .u8, .wo, .frame, false, 0, [(0, 1)], 0, 0⟩,
  ⟨O.JQ_SWAP_PENDING, [(0, 0)], .bool, .ro, .now, false, 0, [], 0, 0⟩,
  ⟨O.JQ_SWAP_TIME, [(0, 0)], .u64, .ro, .now, false, 0, [], 0, 0⟩,
  ⟨O.JQ_START_ENTRY, [(0, 1)], .u16, .rw, .now, false, 0, [(0, 32767)], 0, 0⟩,
  ⟨O.JQ_SWAP_FAULT_ENTRY, [(0, 0)], .u16, .ro, .now, false, 0xFFFF, [], 0, 0⟩,
  ⟨O.JQ_FRAME_PERIOD, [(0, 0)], .u32, .rw, .frame, false, 0x9C40, [(1000, 1000000)], 0, 0⟩,
  ⟨O.JQ_FRAME_SYNC, [(0, 0)], .enum8, .rw, .frame, false, 0, [(0, 1)], 0, 0⟩,
  ⟨O.JQ_FRAME_NUMBER, [(0, 0)], .u32, .ro, .now, true, 0, [], 0, 0⟩,
  ⟨O.JQ_READ_PTR, [(0, 0)], .u16, .ro, .now, false, 0, [], 0, 0⟩,
  ⟨O.JQ_DITHER_SPAN, [(0, 0)], .u16, .rw, .shot, false, 0x3FF, [(0, 1023)], 0, 0⟩,
  ⟨O.JQ_DITHER_SEED, [(0, 0)], .u32, .rw, .stop, false, 0, [(0, 0xFFFFFFFF)], 0, 0⟩,
  ⟨O.JQ_ANGLE_TOL, [(0, 0)], .u16, .rw, .shot, false, 0x14, [(0, 32767)], 0, 0⟩,
  ⟨O.JQ_AXIS_X_SLOT, [(0, 0)], .u8, .rw, .stop, false, 0, [(0, 3)], 0, 0⟩,
  ⟨O.JQ_AXIS_Y_SLOT, [(0, 0)], .u8, .rw, .stop, false, 0xFF, [(0, 3), (255, 255)], 0, 0⟩,
  ⟨O.JQ_GROUP_POLICY, [(0, 0x1F)], .enum8, .rw, .shot, false, 0, [(0, 2)], 0, 0⟩,
  ⟨O.JQ_THROTTLE_MIN, [(0, 0)], .u8, .rw, .shot, false, 0, [(0, 3)], 0, 0⟩,
  ⟨O.JQ_THROTTLE_LEVEL, [(0, 0)], .u8, .ro, .now, false, 0, [(0, 3)], 0, 0⟩,
  ⟨O.JQ_BANK_0, [(0, 0)], .dom, .rw, .now, false, 0, [], 0, 0⟩,
  ⟨O.JQ_BANK_1, [(0, 0)], .dom, .rw, .now, false, 0, [], 0, 0⟩,
  ⟨O.JQ_PATCH, [(0, 0)], .dom, .wo, .now, false, 0, [], 0, 0⟩,
  ⟨O.JQ_SHOTS, [(0, 0)], .u64, .ro, .now, false, 0, [], 0, 0⟩,
  ⟨O.JQ_SUPP_HAWKMOTH, [(0, 0)], .u32, .rc, .now, false, 0, [], 0, 0⟩,
  ⟨O.JQ_SUPP_ANGLE, [(0, 0)], .u32, .rc, .now, false, 0, [], 0, 0⟩,
  ⟨O.JQ_SUPP_THROTTLE, [(0, 0)], .u32, .rc, .now, false, 0, [], 0, 0⟩,
  ⟨O.JQ_STORE_UNCORR, [(0, 0)], .u32, .rc, .now, false, 0, [], 0, 0⟩,
  ⟨O.JQ_MOVED, [(0, 0)], .u32, .rc, .now, false, 0, [], 0, 0⟩,
  ⟨O.JQ_WAKE_STALLS, [(0, 0)], .u32, .rc, .now, false, 0, [], 0, 0⟩,
  ⟨O.JQ_FRAME_OVERRUN, [(0, 0)], .u32, .rc, .now, false, 0, [], 0, 0⟩,
  ⟨O.JQ_SYNC_MISSED, [(0, 0)], .u32, .rc, .now, false, 0, [], 0, 0⟩,
  ⟨O.JQ_ACC_FORCED, [(0, 0)], .u32, .rc, .now, false, 0, [], 0, 0⟩,
  ⟨O.JQ_PATCH_LATE, [(0, 0)], .u32, .rc, .now, false, 0, [], 0, 0⟩,
  ⟨O.JQ_STORE_CORRECTED, [(0, 0)], .u32, .rc, .now, false, 0, [], 0, 0⟩,
  ⟨O.JQ_BANK_WRAP, [(0, 0)], .u32, .rc, .now, false, 0, [], 0, 0⟩,
  ⟨O.JQ_SUPP_STOP, [(0, 0)], .u32, .rc, .now, false, 0, [], 0, 0⟩,
  ⟨O.JQ_EMPTY_DECODED, [(0, 0)], .u32, .rc, .now, false, 0, [], 0, 0⟩]

/-- The objects of indices 2400 to 24FF. -/
def rows24 : List ObjRow := [
  ⟨O.EM_STATE, [(0, 0)], .enum8, .ro, .now, false, 0, [(0, 4)], 0, 0⟩,
  ⟨O.EM_ZONE_MAP, [(0, 0)], .dom, .rws, .now, false, 0, [], 0, 0⟩,
  ⟨O.EM_BLANK_NS, [(0, 0)], .u16, .rws, .now, false, 0x190, [(200, 5000)], 0, 0⟩,
  ⟨O.EM_FIRE_LEAD, [(0, 0)], .u8, .rws, .now, false, 0, [(0, 63)], 0, 0⟩,
  ⟨O.EM_LEVEL_SET, [(0, 0x7F)], .u16, .rw, .line, false, 0, [(0, 1023)], 0, 0⟩,
  ⟨O.EM_CODE, [(0, 0xF)], .u64, .rw, .frame, false, 0, [], 0, 0xFFFFC00000000000⟩,
  ⟨O.EM_KD_TRIM, [(0, 0xF)], .u8, .rws, .now, false, 0, [(0, 31)], 0, 0⟩,
  ⟨O.EM_AN_PEAK_LAST, [(0, 7)], .u16, .ro, .now, false, 0, [], 0, 0⟩,
  ⟨O.EM_AN_UNDER, [(0, 7)], .u32, .rc, .now, false, 0, [], 0, 0⟩,
  ⟨O.EM_AN_OVER, [(0, 7)], .u32, .rc, .now, false, 0, [], 0, 0⟩,
  ⟨O.EM_BAR_AN, [(0, 0)], .u8, .ro, .now, false, 0, [], 0, 0⟩,
  ⟨O.EM_BAR_KD, [(0, 0)], .u16, .ro, .now, false, 0, [], 0, 0⟩,
  ⟨O.EM_BAR_CLEAR, [(0, 0)], .u8, .wo, .now, false, 0, [(1, 1)], 0, 0⟩,
  ⟨O.EM_TEST_PERIOD, [(0, 0)], .u16, .rw, .now, false, 0x64, [(10, 10000)], 0, 0⟩,
  ⟨O.EM_TEST_REQ, [(0, 0)], .u8, .wo, .now, false, 0, [(1, 1)], 0, 0⟩,
  ⟨O.EM_TEST_LAST_TIME, [(0, 0)], .u64, .ro, .now, false, 0, [], 0, 0⟩,
  ⟨O.EM_TEST_RESULT, [(0, 0)], .bits32, .ro, .now, false, 0, [], 0, 0⟩,
  ⟨O.EM_TEST_STARVED, [(0, 0)], .u32, .rc, .now, false, 0, [], 0, 0⟩,
  ⟨O.EM_TSD_EVENTS, [(0, 0)], .u32, .rc, .now, false, 0, [], 0, 0⟩,
  ⟨O.EM_TSD_ACTIVE, [(0, 0)], .bool, .ro, .now, false, 0, [], 0, 0⟩,
  ⟨O.TW_ENABLE, [(0, 0)], .bool, .rw, .frame, false, 0, [(0, 1)], 0, 0⟩,
  ⟨O.TW_MODULES, [(0, 0)], .u8, .rws, .now, false, 1, [(1, 16)], 0, 0⟩,
  ⟨O.TW_LATCH_NS, [(0, 0)], .u16, .rws, .now, false, 0x4B0, [(1050, 5000)], 0, 0⟩,
  ⟨O.TW_MOD_BIND, [(0, 0xF)], .u8, .rws, .now, false, 0xFF, [(0, 8), (255, 255)], 0, 0⟩,
  ⟨O.TW_MOD_ISET, [(0, 0xF)], .u16, .rw, .frame, false, 0, [(0, 1023)], 0, 0⟩,
  ⟨O.TW_MOD_USER, [(0, 0xF)], .u8, .rw, .frame, false, 0, [], 0, 0⟩,
  ⟨O.TW_STATUS, [(0, 0)], .enum8, .ro, .now, false, 0, [(0, 4)], 0, 0⟩,
  ⟨O.TW_RET_BITS, [(0, 0)], .u16, .ro, .now, false, 0, [], 0, 0⟩,
  ⟨O.TW_STRINGS, [(0, 0)], .u32, .ro, .now, true, 0, [], 0, 0⟩,
  ⟨O.TW_STALLS, [(0, 0)], .u32, .rc, .now, false, 0, [], 0, 0⟩,
  ⟨O.TW_CHECK_FAIL, [(0, 0)], .u32, .rc, .now, false, 0, [], 0, 0⟩]

/-- The objects of indices 2600 to 26FF. -/
def rows26 : List ObjRow := [
  ⟨O.HM_ARM, [(0, 0)], .u8, .wo, .now, false, 0, [(1, 1)], 0, 0⟩,
  ⟨O.HM_DISARM, [(0, 0)], .u8, .wo, .now, false, 0, [], 0, 0⟩,
  ⟨O.HM_STATE, [(0, 0)], .enum8, .ro, .now, false, 0, [(0, 3)], 0, 0⟩,
  ⟨O.HM_ARM_BLOCK, [(0, 0)], .bits32, .ro, .now, false, 0, [], 0, 0⟩,
  ⟨O.HM_DISARM_CAUSE, [(0, 0)], .enum8, .ro, .now, false, 0, [(0, 8)], 0, 0⟩,
  ⟨O.HM_DISARM_TIME, [(0, 0)], .u64, .ro, .now, false, 0, [], 0, 0⟩,
  ⟨O.HM_ARM_TIME, [(0, 0)], .u64, .ro, .now, false, 0, [], 0, 0⟩,
  ⟨O.HM_CONFIG_CRC, [(0, 0)], .u32, .ro, .now, false, 0, [], 0, 0⟩,
  ⟨O.HM_INJECT, [(0, 0)], .bits32, .rw, .now, false, 0, [(0, 63)], 0, 0⟩,
  ⟨O.HM_HB_TIMEOUT_US, [(0, 0)], .u16, .rws, .now, false, 0x7D0, [(500, 20000)], 0, 0⟩,
  ⟨O.HM_HOST_HB_SESSION, [(0, 0)], .u8, .rws, .now, false, 0xFF, [(0, 3), (255, 255)], 0, 0⟩,
  ⟨O.HM_HOST_HB_TIMEOUT_MS, [(0, 0)], .u16, .rws, .now, false, 0x64, [(10, 10000)], 0, 0⟩,
  ⟨O.HM_ARM_CLEAN_MS, [(0, 0)], .u16, .rws, .now, false, 0x64, [(100, 5000)], 0, 0⟩,
  ⟨O.HM_SPEED_WINDOW_US, [(0, 0)], .u16, .rws, .now, false, 0x7D0, [(100, 20000)], 0, 0⟩,
  ⟨O.HM_MIN_TRAVEL, [(0, 0)], .u16, .rws, .now, false, 0xC8, [(1, 10000)], 0, 0⟩,
  ⟨O.HM_BUCKET_LEVEL, [(0, 0x8F), (0x100, 0x18F), (0x200, 0x28F)], .u32, .ro, .now, false, 0, [], 0, 0⟩,
  ⟨O.HM_BUCKET_PEAK, [(0, 0x8F), (0x100, 0x18F), (0x200, 0x28F)], .u32, .rc, .now, false, 0, [], 0, 0⟩,
  ⟨O.HM_BUCKET_LIMIT, [(0, 2)], .u32, .rws, .now, false, 0, [(0, 0xFFFFFFFF)], 0, 0⟩,
  ⟨O.HM_WEIGHT, [(0, 0x8F)], .u8, .rws, .now, false, 0x40, [(1, 255)], 0, 0⟩,
  ⟨O.HM_THROTTLE_EN, [(0, 0)], .bool, .rws, .now, false, 1, [(0, 1)], 0, 0⟩,
  ⟨O.HM_THROTTLE_REQ, [(0, 0)], .u8, .ro, .now, false, 0, [(0, 3)], 0, 0⟩,
  ⟨O.HM_SUPP_CAUSE, [(0, 3)], .u32, .rc, .now, false, 0, [], 0, 0⟩,
  ⟨O.HM_ZONE_REFUSED, [(0, 0x8F)], .u32, .rc, .now, false, 0, [], 0, 0⟩,
  ⟨O.HM_INHIBITS, [(0, 0)], .u32, .rc, .now, false, 0, [], 0, 0⟩,
  ⟨O.HM_CUT_SHOTS, [(0, 0)], .u32, .rc, .now, false, 0, [], 0, 0⟩]

/-- The objects of indices 3000 to 30FF. -/
def rows30 : List ObjRow := [
  ⟨O.RX_GROUP_STATE, [(0, 0x1F)], .enum8, .ro, .now, false, 0, [(0, 4)], 0, 0⟩,
  ⟨O.RX_GROUP_WAKES, [(0, 0x1F)], .u32, .rc, .now, false, 0, [], 0, 0⟩,
  ⟨O.RX_GROUP_RETRY, [(0, 0x1F)], .u8, .wo, .now, false, 0, [(1, 1)], 0, 0⟩,
  ⟨O.RX_GAIN_POLICY, [(0, 0xF)], .bits32, .rw, .shot, false, 0x43EC9, [], 0, 0xFF000000⟩,
  ⟨O.RX_RANGE_FORCE, [(0, 0x1FF)], .enum8, .rw, .shot, false, 0xFF, [(0, 3), (255, 255)], 0, 0⟩,
  ⟨O.RX_RANGE_NOW, [(0, 0x1FF)], .enum8, .ro, .now, false, 2, [(0, 3)], 0, 0⟩,
  ⟨O.RX_RANGE_STEPS, [(0, 0x1FF)], .u32, .rc, .now, false, 0, [], 0, 0⟩,
  ⟨O.RX_SAT_COUNT, [(0, 0x1FF)], .u32, .rc, .now, false, 0, [], 0, 0⟩,
  ⟨O.RX_TH_A_BASE, [(0, 0x1FF)], .u16, .rw, .shot, false, 0x28, [(0, 1023)], 0, 0⟩,
  ⟨O.RX_TH_B_BASE, [(0, 0x1FF)], .u16, .rw, .shot, false, 0xA0, [(0, 1023)], 0, 0⟩,
  ⟨O.RX_TH_C_BASE, [(0, 0x1FF)], .u16, .rw, .shot, false, 0x280, [(0, 1023)], 0, 0⟩,
  ⟨O.RX_TH_LOADED, [(0, 0x1FF)], .bits32, .ro, .now, false, 0, [], 0, 0⟩,
  ⟨O.RX_NF_MODE, [(0, 0)], .enum8, .rw, .frame, false, 1, [(0, 2)], 0, 0⟩,
  ⟨O.RX_NF_LEN_NS, [(0, 0)], .u8, .rw, .frame, false, 6, [(0, 40)], 0, 0⟩,
  ⟨O.RX_NF_TH_OFFSET, [(0, 0)], .u16, .rw, .frame, false, 0xC8, [(0, 1023)], 0, 0⟩,
  ⟨O.RX_VOILE_MODE, [(0, 0)], .enum8, .rw, .frame, false, 0, [(0, 2)], 0, 0⟩,
  ⟨O.RX_VOILE_GROUPS, [(0, 0)], .bits32, .rw, .frame, false, 0xFFFFFFFF, [], 0, 0⟩,
  ⟨O.RX_VOILE_LEAD_NS, [(0, 0)], .u8, .rw, .frame, false, 0, [(0, 20)], 0, 0⟩,
  ⟨O.RX_VOILE_GUARD_NS, [(0, 0)], .u16, .rw, .frame, false, 0x32, [(0, 1000)], 0, 0⟩,
  ⟨O.RX_VOILE_SHOTS, [(0, 0)], .u32, .rc, .now, false, 0, [], 0, 0⟩,
  ⟨O.RX_BIAS_ENABLE, [(0, 7)], .bool, .rw, .now, false, 0, [(0, 1)], 0, 0⟩,
  ⟨O.RX_BIAS_SET_MV, [(0, 7)], .u16, .rw, .frame, false, 0x7530, [(15000, 65000)], 0, 0⟩,
  ⟨O.RX_BIAS_TCO, [(0, 7)], .s16, .rw, .frame, false, 0, [(-1000, 1000)], 0, 0⟩,
  ⟨O.RX_BIAS_TREF, [(0, 7)], .s16, .rw, .frame, false, 0xFA, [(-400, 1250)], 0, 0⟩,
  ⟨O.RX_BIAS_TSRC, [(0, 7)], .u8, .rw, .frame, false, 0xFF, [(0, 15), (32, 79), (255, 255)], 0, 0⟩,
  ⟨O.RX_BIAS_SLEW, [(0, 7)], .u16, .rw, .now, false, 0x1388, [(100, 20000)], 0, 0⟩,
  ⟨O.RX_BIAS_TARGET_MV, [(0, 7)], .u16, .ro, .now, false, 0, [], 0, 0⟩,
  ⟨O.RX_BIAS_V_MEAS, [(0, 7)], .u16, .ro, .now, false, 0, [], 0, 0⟩,
  ⟨O.RX_BIAS_I_MEAS, [(0, 7)], .u16, .ro, .now, false, 0, [], 0, 0⟩,
  ⟨O.RX_BIAS_STATUS, [(0, 7)], .enum8, .ro, .now, false, 0, [(0, 7)], 0, 0⟩,
  ⟨O.RX_INPUT_STATUS, [(0, 0x1FF)], .enum8, .ro, .now, false, 6, [(0, 7)], 0, 0⟩,
  ⟨O.RX_DARK_RATE, [(0, 0x1FF)], .u32, .ro, .now, false, 0, [], 0, 0⟩,
  ⟨O.RX_WATCH_EN, [(0, 0)], .bool, .rw, .now, false, 1, [(0, 1)], 0, 0⟩,
  ⟨O.RX_CH_MUTE, [(0, 0x1FF)], .bool, .rw, .shot, false, 0, [(0, 1)], 0, 0⟩,
  ⟨O.RX_CIN_OPEN_PF, [(0, 0)], .u8, .rw, .now, false, 0xA, [(2, 100)], 0, 0⟩,
  ⟨O.RX_SLICE_OF, [(0, 0x1FF)], .u16, .ro, .now, false, 0, [(0, 0x21F)], 0, 0⟩,
  ⟨O.RX_SKIP_STATE, [(0, 0x1F)], .enum8, .ro, .now, false, 0, [(0, 5)], 0, 0⟩,
  ⟨O.RX_REPAIR, [(0, 0x1F)], .u8, .rw, .frame, false, 0xFF, [(0, 15), (255, 255)], 0, 0⟩,
  ⟨O.RX_SKIP_REQ, [(0, 0x1F)], .u8, .rw, .now, false, 0xFF, [(0, 15), (255, 255)], 0, 0⟩,
  ⟨O.RX_TAKEOVERS, [(0, 0x1F)], .u32, .rc, .now, false, 0, [], 0, 0⟩,
  ⟨O.RX_SLICE_STATUS, [(0, 0x21F)], .enum8, .ro, .now, false, 0, [(0, 2)], 0, 0⟩,
  ⟨O.RX_TAP_SRC, [(0, 0x1F)], .u16, .rw, .shot, false, 0xFFFF, [(0, 511), (65535, 65535)], 0, 0⟩]

/-- The objects of indices 3400 to 34FF. -/
def rows34 : List ObjRow := [
  ⟨O.TDC_HYST, [(0, 2)], .u8, .rw, .frame, false, 6, [(0, 31)], 0, 0⟩,
  ⟨O.TDC_MERGE_CP, [(0, 2)], .u8, .rw, .frame, false, 6, [(0, 63)], 0, 0⟩,
  ⟨O.TDC_ACCEPT_START, [(0, 0)], .u16, .rw, .frame, false, 0, [(0, 16383)], 0, 0⟩,
  ⟨O.TDC_ACCEPT_END, [(0, 0)], .u16, .rw, .frame, false, 0, [(0, 16383)], 0, 0⟩,
  ⟨O.TDC_OVF_WINDOWS, [(0, 0x1FF)], .u32, .rc, .now, false, 0, [], 0, 0⟩,
  ⟨O.TDC_MERGES, [(0, 0x1FF)], .u32, .rc, .now, false, 0, [], 0, 0⟩,
  ⟨O.TDC_OUTSIDE, [(0, 0x1FF)], .u32, .rc, .now, false, 0, [], 0, 0⟩,
  ⟨O.TDC_STAMPS, [(0, 0x1FF)], .u64, .ro, .now, true, 0, [], 0, 0⟩,
  ⟨O.TDC_C1, [(0, 0x21F)], .u16, .ro, .now, false, 0x100, [], 0, 0⟩,
  ⟨O.TDC_C2, [(0, 0x21F)], .u16, .ro, .now, false, 0x200, [], 0, 0⟩,
  ⟨O.TDC_CAL_FAIL, [(0, 0x21F)], .u32, .rc, .now, false, 0, [], 0, 0⟩,
  ⟨O.TDC_SKEW_A, [(0, 0x21F)], .s16, .ro, .now, false, 0, [], 0, 0⟩,
  ⟨O.TDC_SKEW_B, [(0, 0x21F)], .s16, .ro, .now, false, 0, [], 0, 0⟩,
  ⟨O.TDC_SKEW_C, [(0, 0x21F)], .s16, .ro, .now, false, 0, [], 0, 0⟩,
  ⟨O.TDC_SKEW_CH, [(0, 0x1FF)], .s16, .rw, .frame, false, 0, [(-32768, 32767)], 0, 0⟩,
  ⟨O.TDC_T0_OFFSET, [(0, 0)], .s32, .rw, .frame, false, 0, [(-1048576, 1048575)], 0, 0⟩,
  ⟨O.TDC_C_SCALE, [(0, 0)], .u32, .rw, .frame, false, 0x18FB93, [(1600000, 1650000)], 0, 0⟩,
  ⟨O.TDC_EMIT_FINE, [(0, 0)], .u16, .ro, .now, false, 0, [(0, 1023)], 0, 0⟩,
  ⟨O.TDC_EMIT_MISS, [(0, 0)], .u32, .rc, .now, false, 0, [], 0, 0⟩,
  ⟨O.TDC_STAT_CFG, [(0, 0)], .bits32, .rw, .now, false, 0x20000, [], 0, 0xC0000FFF⟩,
  ⟨O.TDC_STAT_GATE_LO, [(0, 0)], .u32, .rw, .now, false, 0, [(0, 524287)], 0, 0⟩,
  ⟨O.TDC_STAT_GATE_HI, [(0, 0)], .u32, .rw, .now, false, 0x7FFFF, [(0, 524287)], 0, 0⟩,
  ⟨O.TDC_STAT_N, [(0, 0)], .u16, .rw, .now, false, 0x400, [(1, 65535)], 0, 0⟩,
  ⟨O.TDC_STAT_START, [(0, 0)], .u8, .rw, .now, false, 0, [(0, 1)], 0, 0⟩,
  ⟨O.TDC_STAT_STATE, [(0, 0)], .enum8, .ro, .now, false, 0, [(0, 2)], 0, 0⟩,
  ⟨O.TDC_STAT_HITS, [(0, 0)], .u32, .ro, .now, false, 0, [], 0, 0⟩,
  ⟨O.TDC_STAT_MISSES, [(0, 0)], .u32, .ro, .now, false, 0, [], 0, 0⟩,
  ⟨O.TDC_STAT_MEAN, [(0, 0)], .s32, .ro, .now, false, 0, [], 0, 0⟩,
  ⟨O.TDC_STAT_DEV, [(0, 0)], .u32, .ro, .now, false, 0, [], 0, 0⟩,
  ⟨O.TDC_STAT_MINMAX, [(0, 0)], .bits32, .ro, .now, false, 0, [], 0, 0⟩,
  ⟨O.TDC_RAW_TAP, [(0, 0x1FF)], .bool, .rw, .frame, false, 0, [(0, 1)], 0, 0⟩]

/-- The objects of indices 3800 to 38FF. -/
def rows38 : List ObjRow := [
  ⟨O.EX_MAX_ECHOES, [(0, 0)], .u8, .rw, .frame, false, 3, [(1, 3)], 0, 0⟩,
  ⟨O.EX_ECHO_POLICY, [(0, 0)], .enum8, .rw, .frame, false, 0, [(0, 2)], 0, 0⟩,
  ⟨O.EX_MIN_WIDTH, [(0, 0)], .u16, .rw, .frame, false, 0, [(0, 1023)], 0, 0⟩,
  ⟨O.EX_CODE_TOL, [(0, 0)], .u16, .rw, .frame, false, 0x30, [(1, 255)], 0, 0⟩,
  ⟨O.EX_SS_MIN_MATCH, [(0, 0)], .u8, .rw, .frame, false, 4, [(1, 4)], 0, 0⟩,
  ⟨O.EX_NEAR_MM, [(0, 0)], .u16, .rw, .frame, false, 0x3E8, [(0, 65535)], 0, 0⟩,
  ⟨O.EX_RETRO_V, [(0, 0)], .u16, .rw, .frame, false, 0x2000, [(4320, 65535)], 0, 0⟩,
  ⟨O.EX_HIST_EDGE, [(0, 0)], .enum8, .rw, .frame, false, 0, [(0, 2)], 0, 0⟩,
  ⟨O.EX_BIN_K, [(0, 0)], .u8, .rw, .frame, false, 0, [(0, 2), (4, 4)], 0, 0⟩,
  ⟨O.EX_HIST_START, [(0, 0)], .u16, .rw, .frame, false, 0, [(0, 12288)], 0, 0⟩,
  ⟨O.EX_PEAK_MIN, [(0, 0)], .u16, .rw, .frame, false, 6, [(1, 4095)], 0, 0⟩,
  ⟨O.EX_PEAK_K, [(0, 0)], .u16, .rw, .frame, false, 0x50, [(16, 1023)], 0, 0⟩,
  ⟨O.EX_LOWSNR_Z, [(0, 0)], .u16, .rw, .frame, false, 0x80, [(16, 4095)], 0, 0⟩,
  ⟨O.EX_INTERP, [(0, 0)], .enum8, .rw, .frame, false, 0, [(0, 1)], 0, 0⟩,
  ⟨O.EX_SIDELOBE, [(0, 0)], .u16, .rw, .frame, false, 0x80, [(0, 256)], 0, 0⟩,
  ⟨O.EX_WALK_COEF, [(0, 0x3B)], .f32, .rw, .frame, false, 0, [], 0, 0⟩,
  ⟨O.EX_WALK_VMIN, [(0, 3)], .u16, .rw, .frame, false, 0, [(0, 65535)], 0, 0⟩,
  ⟨O.EX_WALK_VMAX, [(0, 3)], .u16, .rw, .frame, false, 0x8000, [(1, 65535)], 0, 0⟩,
  ⟨O.EX_WALK_TREF, [(0, 0)], .s16, .rw, .frame, false, 0xFA, [(-400, 1250)], 0, 0⟩,
  ⟨O.EX_WALK_DTMAX, [(0, 0)], .u16, .rw, .frame, false, 0x258, [(0, 1650)], 0, 0⟩,
  ⟨O.EX_TOT_AMP, [(0, 0xFF)], .u16, .rw, .frame, false, 0, [], 0, 0⟩,
  ⟨O.EX_INT_COEF, [(0, 3)], .f32, .rw, .frame, false, 0, [], 0, 0⟩,
  ⟨O.EX_INT_RCOMP, [(0, 0)], .bool, .rw, .frame, false, 0, [(0, 1)], 0, 0⟩,
  ⟨O.EX_INT_RREF, [(0, 0)], .u16, .rw, .frame, false, 0x64, [(1, 1000)], 0, 0⟩,
  ⟨O.EX_FUSE_DIGI, [(0, 0)], .bool, .rw, .frame, false, 1, [(0, 1)], 0, 0⟩,
  ⟨O.EX_SEND_EMPTY, [(0, 0)], .bool, .rw, .frame, false, 1, [(0, 1)], 0, 0⟩,
  ⟨O.EX_OCC_GAIN, [(0, 3)], .f32, .rw, .frame, false, 0x3E800000, [], 0, 0⟩,
  ⟨O.EX_ECHOES, [(0, 0x1FF)], .u64, .ro, .now, true, 0, [], 0, 0⟩,
  ⟨O.EX_SS_UNMATCHED, [(0, 0x1FF)], .u32, .rc, .now, false, 0, [], 0, 0⟩,
  ⟨O.EX_SS_NARROW, [(0, 0x1FF)], .u32, .rc, .now, false, 0, [], 0, 0⟩,
  ⟨O.EX_WALK_CLAMPS, [(0, 0x1FF)], .u32, .rc, .now, false, 0, [], 0, 0⟩,
  ⟨O.EX_HIST_OUTSIDE, [(0, 0)], .u32, .rc, .now, false, 0, [], 0, 0⟩,
  ⟨O.EX_HIST_SAT, [(0, 0)], .u32, .rc, .now, false, 0, [], 0, 0⟩,
  ⟨O.EX_HIST_STALLS, [(0, 0)], .u32, .rc, .now, false, 0, [], 0, 0⟩,
  ⟨O.EX_SIDELOBES, [(0, 0x1FF)], .u32, .rc, .now, false, 0, [], 0, 0⟩,
  ⟨O.EX_DIGI_FALLBACK, [(0, 0)], .u32, .rc, .now, false, 0, [], 0, 0⟩,
  ⟨O.EX_GROUPS, [(0, 0)], .u32, .ro, .now, true, 0, [], 0, 0⟩,
  ⟨O.EX_HIST_CAP_CH, [(0, 0)], .u16, .rw, .now, false, 0xFFFF, [(0, 511), (65535, 65535)], 0, 0⟩,
  ⟨O.EX_HIST_CAPTURE, [(0, 0)], .dom, .ro, .now, false, 0, [], 0, 0⟩]

/-- The objects of indices 3C00 to 3CFF. -/
def rows3C : List ObjRow := [
  ⟨O.RJ_ADAPT_MODE, [(0, 0)], .enum8, .rw, .frame, false, 2, [(0, 2)], 0, 0⟩,
  ⟨O.RJ_DARK_NS, [(0, 0)], .u8, .rw, .frame, false, 0xC8, [(48, 200)], 4, 0⟩,
  ⟨O.RJ_ADAPT_K, [(0, 2)], .u16, .rw, .frame, false, 0x20, [(0, 1023)], 0, 0⟩,
  ⟨O.RJ_ADAPT_MAX, [(0, 0)], .u16, .rw, .frame, false, 0x190, [(0, 1023)], 0, 0⟩,
  ⟨O.RJ_AMB_ATTACK, [(0, 0)], .u8, .rw, .frame, false, 1, [(0, 7)], 0, 0⟩,
  ⟨O.RJ_AMB_RELEASE, [(0, 0)], .u8, .rw, .frame, false, 4, [(0, 7)], 0, 0⟩,
  ⟨O.RJ_RATE_SHIFT, [(0, 0)], .u8, .rw, .frame, false, 3, [(0, 7)], 0, 0⟩,
  ⟨O.RJ_AMB_HIGH, [(0, 0)], .u32, .rw, .frame, false, 0x4E20, [(1, 5000000)], 0, 0⟩,
  ⟨O.RJ_AMB_CURRENT, [(0, 0x1FF)], .u32, .ro, .now, false, 0, [], 0, 0⟩,
  ⟨O.RJ_RATE_A, [(0, 0x1FF)], .u32, .ro, .now, false, 0, [], 0, 0⟩,
  ⟨O.RJ_RATE_B, [(0, 0x1FF)], .u32, .ro, .now, false, 0, [], 0, 0⟩,
  ⟨O.RJ_RATE_C, [(0, 0x1FF)], .u32, .ro, .now, false, 0, [], 0, 0⟩,
  ⟨O.RJ_DARK_SKIPPED, [(0, 0)], .u32, .rc, .now, false, 0, [], 0, 0⟩,
  ⟨O.RJ_INTF_UNM, [(0, 0)], .u8, .rw, .frame, false, 2, [(1, 15)], 0, 0⟩,
  ⟨O.RJ_INTF_WINDOWS, [(0, 0)], .u32, .rc, .now, false, 0, [], 0, 0⟩,
  ⟨O.RJ_INTF_LAST_FRAME, [(0, 0)], .u32, .ro, .now, false, 0, [], 0, 0⟩,
  ⟨O.RJ_INTF_CLASS2, [(0, 0)], .u32, .rc, .now, false, 0, [], 0, 0⟩,
  ⟨O.RJ_WIN_SHIFT, [(0, 0)], .u8, .rw, .frame, false, 6, [(0, 12)], 0, 0⟩,
  ⟨O.RJ_WIN_LEVEL, [(0, 0x1FF)], .u16, .ro, .now, false, 0, [], 0, 0⟩,
  ⟨O.RJ_WIN_WARN, [(0, 0)], .u16, .rw, .now, false, 0x19A, [(1, 65535)], 0, 0⟩,
  ⟨O.RJ_WIN_DIRTY, [(0, 0)], .u16, .ro, .now, false, 0, [], 0, 0⟩,
  ⟨O.RJ_WIN_DIRTY_MIN, [(0, 0)], .u16, .rw, .now, false, 0x20, [(1, 512)], 0, 0⟩]

/-- The objects of indices 3D00 to 3DFF. -/
def rows3D : List ObjRow := [
  ⟨O.RL_ENABLE, [(0, 0)], .bool, .rws, .now, false, 1, [(0, 1)], 0, 0⟩,
  ⟨O.RL_GEOMETRY, [(0, 0)], .enum8, .rws, .now, false, 0, [(0, 2)], 0, 0⟩,
  ⟨O.RL_STATE, [(0, 0)], .enum8, .ro, .now, false, 0, [(0, 2)], 0, 0⟩,
  ⟨O.RL_RESET, [(0, 0)], .u8, .wo, .frame, false, 0, [(1, 1)], 0, 0⟩,
  ⟨O.RL_GEN, [(0, 0)], .u8, .ro, .now, false, 0, [], 0, 0⟩,
  ⟨O.RL_FRAME, [(0, 0)], .u32, .ro, .now, false, 0, [], 0, 0⟩,
  ⟨O.RL_KEEP_MS, [(0, 0)], .u16, .rw, .now, false, 0xC8, [(0, 10000)], 0, 0⟩,
  ⟨O.RL_BASE, [(0, 0)], .u64, .ro, .now, false, 0, [], 0, 0⟩,
  ⟨O.RL_MAX_AGE, [(0, 0)], .u8, .rw, .frame, false, 8, [(1, 32)], 0, 0⟩,
  ⟨O.RL_MATCH_MM, [(0, 0)], .u16, .rw, .frame, false, 0x96, [(0, 10000)], 0, 0⟩,
  ⟨O.RL_MATCH_AGE_MM, [(0, 0)], .u16, .rw, .frame, false, 0x64, [(0, 5000)], 0, 0⟩,
  ⟨O.RL_EGO_MMPF, [(0, 0)], .s16, .rw, .frame, false, 0, [(-5000, 5000)], 0, 0⟩,
  ⟨O.RL_STABLE_HITS, [(0, 0)], .u8, .rw, .frame, false, 2, [(1, 7)], 0, 0⟩,
  ⟨O.RL_VOL_MAX_MM, [(0, 0)], .u32, .rw, .frame, false, 0x9C40, [(0, 1048575)], 0, 0⟩,
  ⟨O.RL_VOL_MAX_INT, [(0, 0)], .u16, .rw, .frame, false, 0x258, [(0, 4095)], 0, 0⟩,
  ⟨O.RL_VOL_MIN, [(0, 0)], .u8, .rw, .frame, false, 2, [(1, 7)], 0, 0⟩,
  ⟨O.RL_MAP_BASE, [(0, 0)], .u64, .ro, .now, false, 0, [], 0, 0⟩,
  ⟨O.RL_MAP_FRAME, [(0, 0)], .u32, .ro, .now, false, 0, [], 0, 0⟩,
  ⟨O.RL_MAP_COL_SEL, [(0, 0)], .u16, .rw, .now, false, 0, [], 0, 0⟩,
  ⟨O.RL_MAP_COL, [(0, 0)], .dom, .ro, .now, false, 0, [], 0, 0⟩,
  ⟨O.RL_OBS, [(0, 0)], .u64, .ro, .now, true, 0, [], 0, 0⟩,
  ⟨O.RL_LATE, [(0, 0)], .u32, .rc, .now, false, 0, [], 0, 0⟩,
  ⟨O.RL_VOID_CHK, [(0, 0)], .u32, .rc, .now, false, 0, [], 0, 0⟩,
  ⟨O.RL_POISON, [(0, 0)], .u32, .rc, .now, false, 0, [], 0, 0⟩,
  ⟨O.RL_CLASS1, [(0, 0)], .u32, .rc, .now, false, 0, [], 0, 0⟩,
  ⟨O.RL_SWEEP_PASS, [(0, 0)], .u32, .ro, .now, false, 0, [], 0, 0⟩,
  ⟨O.RL_CACHE_ERR, [(0, 0)], .u32, .rc, .now, false, 0, [], 0, 0⟩]

/-- The objects of indices 4000 to 40FF. -/
def rows40 : List ObjRow := [
  ⟨O.DG_POWER, [(0, 0x1F)], .bool, .rw, .now, false, 0, [(0, 1)], 0, 0⟩,
  ⟨O.DG_STATE, [(0, 0x1F)], .enum8, .ro, .now, false, 0, [(0, 3)], 0, 0⟩,
  ⟨O.DG_PAIR_MODE, [(0, 0xF)], .bool, .rws, .shot, false, 0, [(0, 1)], 0, 0⟩,
  ⟨O.DG_OFFSET, [(0, 0x1F)], .s16, .ro, .now, false, 0, [], 0, 0⟩,
  ⟨O.DG_GAIN, [(0, 0x1F)], .u16, .ro, .now, false, 0x8000, [(31130, 34406)], 0, 0⟩,
  ⟨O.DG_SKEW_TRIM, [(0, 0x1F)], .s16, .ro, .now, false, 0, [(-127, 127)], 0, 0⟩,
  ⟨O.DG_PAIR_RES, [(0, 0xF)], .bits32, .ro, .now, false, 0, [], 0, 0⟩,
  ⟨O.DG_CLIP, [(0, 0x1F)], .u32, .rc, .now, false, 0, [], 0, 0⟩]

/-- The objects of indices 4100 to 41FF. -/
def rows41 : List ObjRow := [
  ⟨O.FILT_DECIM, [(0, 0x1F)], .enum8, .rws, .shot, false, 0, [(0, 3)], 0, 0⟩,
  ⟨O.FILT_DELAY, [(0, 0x1F)], .u16, .rws, .shot, false, 0, [(0, 4095)], 0, 0⟩,
  ⟨O.FILT_STATE, [(0, 0x1F)], .enum8, .ro, .now, false, 3, [(0, 3)], 0, 0⟩,
  ⟨O.FILT_BANK, [(0, 0x1F)], .u8, .ro, .now, false, 0, [], 0, 0⟩,
  ⟨O.FILT_SWAP_REQ, [(0, 0x1F)], .u8, .rw, .now, false, 0xFF, [(0, 1)], 0, 0⟩,
  ⟨O.FILT_XFADE_LEN, [(0, 0x1F)], .u16, .rw, .now, false, 0x40, [(0, 1023)], 0, 0⟩,
  ⟨O.FILT_SWAP_COALESCED, [(0, 0x1F)], .u32, .rc, .now, false, 0, [], 0, 0⟩,
  ⟨O.FILT_SAT, [(0, 0x1F)], .u32, .rc, .now, false, 0, [], 0, 0⟩,
  ⟨O.FILT_SYNC, [(0, 0)], .bits32, .wo, .now, false, 0, [], 0, 0⟩,
  ⟨O.FILT_SYNC_SRC, [(0, 0)], .enum8, .rw, .now, false, 0, [(0, 2)], 0, 0⟩,
  ⟨O.FILT_SYNCS, [(0, 0x1F)], .u32, .rc, .now, false, 0, [], 0, 0⟩,
  ⟨O.FILT_COEF, [(0, 0x7FF)], .q15, .rw, .now, false, 0, [], 0, 0⟩]

/-- The objects of indices 4200 to 42FF. -/
def rows42 : List ObjRow := [
  ⟨O.ACQ_RUN, [(0, 0)], .enum8, .rw, .now, false, 0, [(0, 1)], 0, 0⟩,
  ⟨O.ACQ_STATE, [(0, 0)], .enum8, .ro, .now, false, 0, [(0, 7)], 0, 0⟩,
  ⟨O.ACQ_MODE, [(0, 0)], .bits32, .rws, .now, false, 0, [(0, 3)], 0, 0⟩,
  ⟨O.ACQ_SRC, [(0, 0x1F)], .enum8, .rws, .now, false, 0, [(0, 2)], 0, 0⟩,
  ⟨O.ACQ_SPAN_START, [(0, 0)], .u16, .rws, .now, false, 0, [(0, 16383)], 0, 0⟩,
  ⟨O.ACQ_SPAN_LEN, [(0, 0)], .u16, .rws, .now, false, 0x1800, [(1, 16384)], 0, 0⟩,
  ⟨O.ACQ_STREAM_MIB, [(0, 0)], .u16, .rws, .now, false, 0x20, [(4, 256)], 0, 0⟩,
  ⟨O.ACQ_SNAP_MIB, [(0, 0)], .u16, .rws, .now, false, 0x100, [], 0, 0⟩,
  ⟨O.ACQ_REC_MAX_BYTES, [(0, 0)], .u32, .ro, .now, false, 0x20, [], 0, 0⟩,
  ⟨O.ACQ_CAPACITY, [(0, 0)], .u32, .ro, .now, false, 0, [], 0, 0⟩,
  ⟨O.ACQ_PRE_COUNT, [(0, 0)], .u32, .rw, .now, false, 0, [], 0, 0⟩,
  ⟨O.ACQ_POST_COUNT, [(0, 0)], .u32, .rw, .now, false, 1, [], 0, 0⟩,
  ⟨O.ACQ_REARM, [(0, 0)], .enum8, .rw, .now, false, 0, [(0, 1)], 0, 0⟩,
  ⟨O.ACQ_ARM, [(0, 0)], .u8, .wo, .now, false, 0, [(1, 1)], 0, 0⟩,
  ⟨O.ACQ_DUMP, [(0, 0)], .u8, .wo, .now, false, 0, [(1, 1)], 0, 0⟩,
  ⟨O.ACQ_TRIG_SRC, [(0, 0)], .bits32, .rw, .now, false, 1, [(0, 15)], 0, 0⟩,
  ⟨O.ACQ_TRIG_FORCE, [(0, 0)], .u8, .wo, .now, false, 0, [], 0, 0⟩,
  ⟨O.ACQ_LEVEL_SLICE, [(0, 0)], .u8, .rw, .now, false, 0, [(0, 31)], 0, 0⟩,
  ⟨O.ACQ_LEVEL, [(0, 0)], .s16, .rw, .now, false, 0xFA0, [(-8192, 8191)], 0, 0⟩,
  ⟨O.ACQ_LEVEL_EDGE, [(0, 0)], .enum8, .rw, .now, false, 0, [(0, 1)], 0, 0⟩,
  ⟨O.ACQ_PRE_CLIPPED, [(0, 0)], .bool, .rc, .now, false, 0, [], 0, 0⟩,
  ⟨O.ACQ_POST_CLIPPED, [(0, 0)], .bool, .rc, .now, false, 0, [], 0, 0⟩,
  ⟨O.ACQ_TRIG_MISSED, [(0, 0)], .u32, .rc, .now, false, 0, [], 0, 0⟩,
  ⟨O.ACQ_CAPTURES, [(0, 0)], .u32, .ro, .now, true, 0, [], 0, 0⟩,
  ⟨O.ACQ_STREAM_DROPPED, [(0, 0)], .u32, .rc, .now, false, 0, [], 0, 0⟩,
  ⟨O.ACQ_FIFO_DROPS, [(0, 0)], .u32, .rc, .now, false, 0, [], 0, 0⟩,
  ⟨O.ACQ_MARKS, [(0, 0)], .u32, .ro, .now, true, 0, [], 0, 0⟩,
  ⟨O.ACQ_MARK_LOST, [(0, 0)], .u32, .rc, .now, false, 0, [], 0, 0⟩,
  ⟨O.ACQ_CAP_HEADER, [(0, 0)], .dom, .ro, .now, false, 0, [], 0, 0⟩]

/-- The objects of indices 4400 to 44FF. -/
def rows44 : List ObjRow := [
  ⟨O.CAL_RUN, [(0, 0)], .bool, .rw, .now, false, 1, [(0, 1)], 0, 0⟩,
  ⟨O.CAL_STATE, [(0, 0)], .enum8, .ro, .now, false, 0, [(0, 2)], 0, 0⟩,
  ⟨O.CAL_CONCURRENT, [(0, 0)], .u8, .rw, .now, false, 2, [(1, 4)], 0, 0⟩,
  ⟨O.CAL_DT_TRIG, [(0, 0)], .u16, .rw, .now, false, 0x1E, [(5, 200)], 0, 0⟩,
  ⟨O.CAL_MAX_AGE_S, [(0, 0)], .u16, .rw, .now, false, 0x258, [(10, 36000)], 0, 0⟩,
  ⟨O.CAL_REPAIRED_MODE, [(0, 0)], .enum8, .rw, .now, false, 0, [(0, 2)], 0, 0⟩,
  ⟨O.CAL_EDGE_MARGIN, [(0, 0)], .u16, .rw, .frame, false, 0x1E, [(0, 100)], 0, 0⟩,
  ⟨O.CAL_SET_MERGE, [(0, 0)], .u16, .rw, .now, false, 0x19, [(5, 100)], 0, 0⟩,
  ⟨O.CAL_WAKE_OFF, [(0, 0)], .bool, .rw, .now, false, 1, [(0, 1)], 0, 0⟩,
  ⟨O.CAL_AUTO_REPAIR, [(0, 0)], .bool, .rw, .now, false, 1, [(0, 1)], 0, 0⟩,
  ⟨O.CAL_SAVE, [(0, 0)], .u8, .wo, .now, false, 0, [(1, 1)], 0, 0⟩,
  ⟨O.CAL_FLASH_PERIOD_S, [(0, 0)], .u16, .rw, .now, false, 0x258, [(60, 65535)], 0, 0⟩,
  ⟨O.CAL_GROUP_TS, [(0, 0x1F)], .u8, .rw, .now, false, 0, [(0, 11)], 0, 0⟩,
  ⟨O.CAL_GROUP_TOFS, [(0, 0x1F)], .s16, .rw, .now, false, 0, [(-200, 200)], 0, 0⟩,
  ⟨O.CAL_GROUP_TEMP, [(0, 0x1F)], .s16, .ro, .now, false, 0, [], 0, 0⟩,
  ⟨O.CAL_GROUP_REQ, [(0, 0x1F)], .u8, .wo, .now, false, 0, [(1, 1)], 0, 0⟩,
  ⟨O.CAL_GROUP_STATE, [(0, 0x1F)], .enum8, .ro, .now, false, 0, [(0, 4)], 0, 0⟩,
  ⟨O.CAL_LAST_PASS_TIME, [(0, 0x1F)], .u64, .ro, .now, false, 0, [], 0, 0⟩,
  ⟨O.CAL_LAST_PASS_TEMP, [(0, 0x1F)], .s16, .ro, .now, false, 0, [], 0, 0⟩,
  ⟨O.CAL_SETS, [(0, 0x1F)], .u8, .ro, .now, false, 0, [(0, 8)], 0, 0⟩,
  ⟨O.CAL_SET_TEMP, [(0, 0xFF)], .s16, .ro, .now, false, 0x7FFF, [], 0, 0⟩,
  ⟨O.CAL_SET_SOURCE, [(0, 0xFF)], .enum8, .ro, .now, false, 0, [(0, 2)], 0, 0⟩,
  ⟨O.CAL_EXTRAP, [(0, 0x1F)], .bool, .ro, .now, false, 0, [], 0, 0⟩,
  ⟨O.CAL_Q_SKEW, [(0, 0x21F)], .u16, .ro, .now, false, 0, [], 0, 0⟩,
  ⟨O.CAL_Q_INL, [(0, 0x21F)], .u16, .ro, .now, false, 0, [], 0, 0⟩,
  ⟨O.CAL_Q_AGE, [(0, 0x21F)], .u32, .ro, .now, false, 0, [], 0, 0⟩,
  ⟨O.CAL_Q_FAILS, [(0, 0x21F)], .u32, .rc, .now, false, 0, [], 0, 0⟩,
  ⟨O.CAL_Q_WORST, [(0, 0)], .u16, .ro, .now, false, 0, [], 0, 0⟩,
  ⟨O.CAL_SKEW_LIMIT, [(0, 0)], .u16, .rw, .now, false, 0x1E, [(8, 64)], 0, 0⟩,
  ⟨O.CAL_PASSES, [(0, 0)], .u32, .ro, .now, true, 0, [], 0, 0⟩,
  ⟨O.CAL_PASS_DISCARD, [(0, 0)], .u32, .rc, .now, false, 0, [], 0, 0⟩,
  ⟨O.CAL_MUTED_WINDOWS, [(0, 0)], .u32, .rc, .now, false, 0, [], 0, 0⟩,
  ⟨O.CAL_STORE_SRC, [(0, 0)], .enum8, .ro, .now, false, 0, [(0, 3)], 0, 0⟩,
  ⟨O.CAL_STORE_SEQ, [(0, 0)], .u32, .ro, .now, false, 0, [], 0, 0⟩,
  ⟨O.CAL_FLASH_WRITES, [(0, 0)], .u32, .ro, .now, true, 0, [], 0, 0⟩,
  ⟨O.CAL_WALK_STALE, [(0, 0)], .bool, .ro, .now, false, 0, [], 0, 0⟩,
  ⟨O.CAL_FACTORY_STORE, [(0, 0)], .dom, .rws, .stop, false, 0, [], 0, 0⟩,
  ⟨O.CAL_RESTORE_FACTORY, [(0, 0)], .u8, .wo, .stop, false, 0, [(1, 1)], 0, 0⟩,
  ⟨O.CAL_DG_DT, [(0, 0)], .u16, .rw, .now, false, 0x14, [(5, 200)], 0, 0⟩,
  ⟨O.CAL_BIAS_ERR, [(0, 7)], .s16, .ro, .now, false, 0, [], 0, 0⟩,
  ⟨O.CAL_DG_AGE, [(0, 0x1F)], .u32, .ro, .now, false, 0, [], 0, 0⟩,
  ⟨O.CAL_INPUT_CHECK_S, [(0, 0)], .u16, .rw, .now, false, 0xA, [(1, 3600)], 0, 0⟩]

/-- The objects of indices 4800 to 48FF. -/
def rows48 : List ObjRow := [
  ⟨O.SB_MODE, [(0, 7)], .enum8, .rws, .now, false, 0, [(0, 2)], 0, 0⟩,
  ⟨O.SB_EXC, [(0, 7)], .enum8, .rws, .now, false, 1, [(0, 1)], 0, 0⟩,
  ⟨O.SB_PGA, [(0, 7)], .enum8, .rws, .now, false, 2, [(0, 3)], 0, 0⟩,
  ⟨O.SB_I_MIN, [(0, 7)], .u16, .rws, .now, false, 0x64, [(0, 20000)], 0, 0⟩,
  ⟨O.SB_I_MAX, [(0, 7)], .u16, .rws, .now, false, 0x1388, [(1, 20000)], 0, 0⟩,
  ⟨O.SB_BLANK, [(0, 7)], .bool, .rw, .now, false, 1, [(0, 1)], 0, 0⟩,
  ⟨O.SB_BLANK_NS, [(0, 0)], .u16, .rw, .now, false, 0x64, [(0, 200)], 0, 0⟩,
  ⟨O.SB_TSRC, [(0, 7)], .u8, .rws, .now, false, 0xFF, [(0, 15), (32, 79), (255, 255)], 0, 0⟩,
  ⟨O.SB_TREF, [(0, 7)], .s16, .rws, .now, false, 0xFA, [(-400, 1250)], 0, 0⟩,
  ⟨O.SB_LIN_COEF, [(0, 0x8F)], .f32, .rws, .now, false, 0, [], 0, 0⟩,
  ⟨O.SB_RESULT, [(0, 7)], .bits32, .ro, .now, false, 0, [], 0, 0⟩,
  ⟨O.SB_ANGLE, [(0, 7)], .s32, .ro, .now, false, 0, [], 0, 0⟩,
  ⟨O.SB_I_MEAS, [(0, 7)], .u16, .ro, .now, false, 0, [], 0, 0⟩,
  ⟨O.SB_STATUS, [(0, 7)], .enum8, .ro, .now, false, 0, [(0, 6)], 0, 0⟩,
  ⟨O.SB_FAULTS, [(0, 7)], .u32, .rc, .now, false, 0, [], 0, 0⟩,
  ⟨O.SB_HOLDS, [(0, 7)], .u32, .rc, .now, false, 0, [], 0, 0⟩,
  ⟨O.PD_RANGE, [(0, 3)], .enum8, .rw, .now, false, 1, [(0, 3)], 0, 0⟩,
  ⟨O.PD_MODE, [(0, 3)], .enum8, .rw, .now, false, 0, [(0, 2)], 0, 0⟩,
  ⟨O.PD_AVG_MS, [(0, 3)], .u16, .rw, .now, false, 0xA, [(1, 1000)], 0, 0⟩,
  ⟨O.PD_VALUE, [(0, 3)], .f32, .ro, .now, false, 0, [], 0, 0⟩,
  ⟨O.PD_STATUS, [(0, 3)], .enum8, .ro, .now, false, 0, [(0, 4)], 0, 0⟩]

/-- The objects of indices 4900 to 49FF. -/
def rows49 : List ObjRow := [
  ⟨O.ATL_MODE, [(0, 3)], .enum8, .rw, .now, false, 0, [(0, 3)], 0, 0⟩,
  ⟨O.ATL_STATE, [(0, 3)], .enum8, .ro, .now, false, 0, [(0, 3)], 0, 0⟩,
  ⟨O.ATL_HOLD_CAUSE, [(0, 3)], .enum8, .ro, .now, false, 0, [(0, 7)], 0, 0⟩,
  ⟨O.ATL_CLEAN_MS, [(0, 3)], .u16, .ro, .now, false, 0, [], 0, 0⟩,
  ⟨O.ATL_FB_A, [(0, 3)], .u8, .rws, .now, false, 0, [(0, 7)], 0, 0⟩,
  ⟨O.ATL_FB_B, [(0, 3)], .u8, .rws, .now, false, 0xFF, [(0, 7), (255, 255)], 0, 0⟩,
  ⟨O.ATL_OUT, [(0, 3)], .enum8, .rws, .now, false, 0, [(0, 3)], 0, 0⟩,
  ⟨O.ATL_PWM_GPIO, [(0, 3)], .u8, .rws, .now, false, 0, [(0, 14)], 2, 0⟩,
  ⟨O.ATL_PWM_FS, [(0, 3)], .u16, .rws, .now, false, 0x190, [(1, 10000)], 0, 0⟩,
  ⟨O.ATL_DIV, [(0, 3)], .u8, .rws, .now, false, 1, [(1, 16)], 0, 0⟩,
  ⟨O.ATL_ANGLE_MIN, [(0, 3)], .s32, .rw, .now, false, 0xFE363C80, [], 0, 0⟩,
  ⟨O.ATL_ANGLE_MAX, [(0, 3)], .s32, .rw, .now, false, 0x1C9C380, [], 0, 0⟩,
  ⟨O.ATL_PARK_ANGLE, [(0, 3)], .s32, .rw, .now, false, 0, [], 0, 0⟩,
  ⟨O.ATL_PARK_RATE, [(0, 3)], .u32, .rw, .now, false, 0x4E20, [(1000, 1000000)], 0, 0⟩,
  ⟨O.ATL_REF_RATE, [(0, 3)], .u32, .rw, .now, false, 0x2FAF080, [(1000, 100000000)], 0, 0⟩,
  ⟨O.ATL_REF_FN, [(0, 3)], .u32, .rw, .now, false, 0x2710, [(8000, 40000)], 0, 0⟩,
  ⟨O.ATL_TARGET, [(0, 3)], .s32, .rw, .now, false, 0, [], 0, 0⟩,
  ⟨O.ATL_MAN_I, [(0, 3)], .s32, .rw, .now, false, 0, [(-400000, 400000)], 0, 0⟩,
  ⟨O.ATL_KP, [(0, 3)], .f32, .rw, .now, false, 0, [], 0, 0⟩,
  ⟨O.ATL_KI, [(0, 3)], .f32, .rw, .now, false, 0, [], 0, 0⟩,
  ⟨O.ATL_KD, [(0, 3)], .f32, .rw, .now, false, 0, [], 0, 0⟩,
  ⟨O.ATL_D_FC, [(0, 3)], .u32, .rw, .now, false, 0x4E20, [(100, 90000)], 0, 0⟩,
  ⟨O.ATL_BIQUAD, [(0, 0x27)], .f32, .rw, .now, false, 0, [], 0, 0⟩,
  ⟨O.ATL_FF_EN, [(0, 3)], .bool, .rw, .now, false, 1, [(0, 1)], 0, 0⟩,
  ⟨O.ATL_MDL_F0, [(0, 3)], .f32, .rw, .now, false, 0x43960000, [], 0, 0⟩,
  ⟨O.ATL_MDL_ZETA, [(0, 3)], .f32, .rw, .now, false, 0x3CA3D70A, [], 0, 0⟩,
  ⟨O.ATL_MDL_GDC, [(0, 3)], .f32, .rw, .now, false, 0x3D4CCCCD, [], 0, 0⟩,
  ⟨O.ATL_OBS_L1, [(0, 3)], .f32, .rw, .now, false, 0x3E4CCCCD, [], 0, 0⟩,
  ⟨O.ATL_OBS_L2, [(0, 3)], .f32, .rw, .now, false, 0x457A0000, [], 0, 0⟩,
  ⟨O.ATL_I_MAX, [(0, 3)], .u16, .rw, .now, false, 0x12C, [(1, 400)], 0, 0⟩,
  ⟨O.ATL_I_SLEW, [(0, 3)], .u32, .rw, .now, false, 0xFA0, [(10, 100000)], 0, 0⟩,
  ⟨O.ATL_RESID_MAX, [(0, 3)], .u32, .rw, .now, false, 0x186A0, [], 0, 0⟩,
  ⟨O.ATL_PAIR_TOL, [(0, 3)], .u32, .rw, .now, false, 0x30D40, [], 0, 0⟩,
  ⟨O.ATL_FREEZE_MOTION, [(0, 3)], .u32, .rw, .now, false, 0xC350, [], 0, 0⟩,
  ⟨O.ATL_ANGLE_NOW, [(0, 3)], .s32, .ro, .now, false, 0, [], 0, 0⟩,
  ⟨O.ATL_I_NOW, [(0, 3)], .s32, .ro, .now, false, 0, [], 0, 0⟩,
  ⟨O.ATL_RESID, [(0, 3)], .s32, .ro, .now, false, 0, [], 0, 0⟩,
  ⟨O.ATL_SAT, [(0, 3)], .u32, .rc, .now, false, 0, [], 0, 0⟩,
  ⟨O.ATL_LIMIT, [(0, 3)], .u32, .rc, .now, false, 0, [], 0, 0⟩,
  ⟨O.ATL_HOLDS, [(0, 3)], .u32, .rc, .now, false, 0, [], 0, 0⟩,
  ⟨O.ATL_EST, [(0, 3)], .u32, .rc, .now, false, 0, [], 0, 0⟩,
  ⟨O.ATL_COIL_STATUS, [(0, 1)], .enum8, .ro, .now, false, 0, [(0, 4)], 0, 0⟩,
  ⟨O.ATL_TR_NODE, [(0, 7)], .u16, .rw, .now, false, 0xFFFF, [], 0, 0⟩,
  ⟨O.ATL_TR_POST, [(0, 0)], .u16, .rw, .now, false, 0x800, [(0, 4095)], 0, 0⟩,
  ⟨O.ATL_TR_TRIG, [(0, 0)], .bits32, .rw, .now, false, 1, [(0, 15)], 0, 0⟩,
  ⟨O.ATL_TR_ARM, [(0, 0)], .u8, .wo, .now, false, 0, [(1, 2)], 0, 0⟩,
  ⟨O.ATL_TR_STATE, [(0, 0)], .enum8, .ro, .now, false, 0, [(0, 3)], 0, 0⟩,
  ⟨O.ATL_TR_DATA, [(0, 0)], .dom, .ro, .now, false, 0, [], 0, 0⟩,
  ⟨O.ATL_TR_TIME, [(0, 0)], .u64, .ro, .now, false, 0, [], 0, 0⟩,
  ⟨O.ATL_INJ_NODE, [(0, 3)], .enum8, .rw, .now, false, 0, [(0, 2)], 0, 0⟩,
  ⟨O.ATL_INJ_WAVE, [(0, 3)], .enum8, .rw, .now, false, 0, [(0, 3)], 0, 0⟩,
  ⟨O.ATL_INJ_AMP, [(0, 3)], .f32, .rw, .now, false, 0, [], 0, 0⟩,
  ⟨O.ATL_INJ_F0, [(0, 3)], .f32, .rw, .now, false, 0x41200000, [], 0, 0⟩,
  ⟨O.ATL_INJ_F1, [(0, 3)], .f32, .rw, .now, false, 0x461C4000, [], 0, 0⟩,
  ⟨O.ATL_INJ_RUN, [(0, 3)], .u8, .rw, .now, false, 0, [(0, 1)], 0, 0⟩]

/-- The objects of indices 5000 to 50FF. -/
def rows50 : List ObjRow := [
  ⟨O.TAP_RUN, [(0, 0)], .enum8, .rw, .frame, false, 0, [(0, 1)], 0, 0⟩,
  ⟨O.TAP_STATE, [(0, 0)], .enum8, .ro, .now, false, 0, [(0, 1)], 0, 0⟩,
  ⟨O.TAP_WIDTH, [(0, 0)], .u16, .rw, .frame, false, 0x400, [(1, 4096)], 0, 0⟩,
  ⟨O.TAP_HEIGHT, [(0, 0)], .u16, .rw, .frame, false, 0x200, [(1, 512)], 0, 0⟩,
  ⟨O.TAP_FMT, [(0, 0)], .enum8, .rw, .frame, false, 1, [(0, 1)], 0, 0⟩,
  ⟨O.TAP_RANGE_SHIFT, [(0, 0)], .u8, .rw, .frame, false, 2, [(0, 4)], 0, 0⟩,
  ⟨O.TAP_ROW_MAP, [(0, 0)], .dom, .rw, .frame, false, 0, [], 0, 0⟩,
  ⟨O.TAP_LINE_NS, [(0, 0)], .u32, .rw, .frame, false, 0, [(0, 0), (1000, 1000000)], 0, 0⟩,
  ⟨O.TAP_POOL_BASE, [(0, 0)], .u64, .ro, .now, false, 0x8000000, [], 0, 0⟩,
  ⟨O.TAP_POOL_HANDLES, [(0, 0)], .u32, .ro, .now, false, 0, [], 0, 0⟩,
  ⟨O.TAP_HOST_WRITE, [(0, 0)], .dom, .wo, .now, false, 0, [], 0, 0⟩,
  ⟨O.TAP_FILL, [(0, 0)], .u64, .wo, .now, false, 0, [], 0, 0⟩,
  ⟨O.TAP_FILL_BUSY, [(0, 0)], .bool, .ro, .now, false, 0, [], 0, 0⟩,
  ⟨O.TAP_ASM_EN, [(0, 3)], .bool, .rw, .frame, false, 0, [(0, 1)], 0, 0⟩,
  ⟨O.TAP_ASM_ACC, [(0, 3)], .enum8, .rw, .frame, false, 0, [(0, 2)], 0, 0⟩,
  ⟨O.TAP_ASM_CLASSES, [(0, 3)], .u8, .rw, .frame, false, 0x3F, [], 0, 0⟩,
  ⟨O.TAP_ASM_COL0, [(0, 3)], .u16, .rw, .frame, false, 0, [(0, 4095)], 0, 0⟩,
  ⟨O.TAP_ASM_WIDTH, [(0, 3)], .u16, .rw, .frame, false, 0x400, [(1, 4096)], 0, 0⟩,
  ⟨O.TAP_ASM_BUF_A, [(0, 3)], .u32, .rw, .frame, false, 0, [], 0, 0⟩,
  ⟨O.TAP_ASM_BUF_B, [(0, 3)], .u32, .rw, .frame, false, 0, [], 0, 0⟩,
  ⟨O.TAP_LAYER_SRC, [(0, 7)], .enum8, .rw, .frame, false, 0, [(0, 3)], 0, 0⟩,
  ⟨O.TAP_LAYER_ASM, [(0, 7)], .u8, .rw, .frame, false, 0, [(0, 3)], 0, 0⟩,
  ⟨O.TAP_LAYER_SEL, [(0, 7)], .enum8, .rw, .frame, false, 0, [(0, 4)], 0, 0⟩,
  ⟨O.TAP_LAYER_BUF, [(0, 7)], .u32, .rw, .frame, false, 0, [], 0, 0⟩,
  ⟨O.TAP_LAYER_STRIDE, [(0, 7)], .u16, .rw, .frame, false, 0x400, [(1, 4096)], 0, 0⟩,
  ⟨O.TAP_LAYER_DST, [(0, 7)], .bits32, .rw, .frame, false, 0, [], 0, 0xF000FE00⟩,
  ⟨O.TAP_LAYER_SIZE, [(0, 7)], .bits32, .rw, .frame, false, 0x4000200, [], 0, 0xE000FC00⟩,
  ⟨O.TAP_LAYER_SRCXY, [(0, 7)], .bits32, .rw, .frame, false, 0, [], 0, 0xF000F000⟩,
  ⟨O.TAP_LAYER_PRIO, [(0, 7)], .u8, .rw, .frame, false, 0, [(0, 15)], 0, 0⟩,
  ⟨O.TAP_LAYER_MODE, [(0, 7)], .enum8, .rw, .frame, false, 0, [(0, 1)], 0, 0⟩,
  ⟨O.TAP_FRAME, [(0, 0)], .u32, .ro, .now, false, 0, [], 0, 0⟩,
  ⟨O.TAP_RETIRED_FRAME, [(0, 0)], .u32, .ro, .now, false, 0xFFFFFFFF, [], 0, 0⟩,
  ⟨O.TAP_LAST_FLIP_TIME, [(0, 0)], .u64, .ro, .now, false, 0, [], 0, 0⟩,
  ⟨O.TAP_SENT, [(0, 0)], .u32, .ro, .now, true, 0, [], 0, 0⟩,
  ⟨O.TAP_DROPPED, [(0, 0)], .u32, .rc, .now, false, 0, [], 0, 0⟩,
  ⟨O.TAP_TORN, [(0, 0)], .u32, .rc, .now, false, 0, [], 0, 0⟩,
  ⟨O.TAP_LATE, [(0, 0)], .u32, .rc, .now, false, 0, [], 0, 0⟩,
  ⟨O.TAP_UNDERRUNS, [(0, 0)], .u32, .rc, .now, false, 0, [], 0, 0⟩,
  ⟨O.TAP_ASM_OUTSIDE, [(0, 0)], .u32, .rc, .now, false, 0, [], 0, 0⟩,
  ⟨O.TAP_CFG_ERR, [(0, 0)], .u32, .rc, .now, false, 0, [], 0, 0⟩,
  ⟨O.TAP_LINE_ERR, [(0, 0)], .u32, .rc, .now, false, 0, [], 0, 0⟩]

/-- The objects of indices 5400 to 54FF. -/
def rows54 : List ObjRow := [
  ⟨O.LINK_ENABLE, [(0, 0)], .bool, .rw, .now, false, 1, [(0, 1)], 0, 0⟩,
  ⟨O.LINK_STATE, [(0, 0)], .enum8, .ro, .now, false, 0, [(0, 3)], 0, 0⟩,
  ⟨O.LINK_RATE, [(0, 0)], .enum8, .rws, .now, false, 3, [(0, 3)], 0, 0⟩,
  ⟨O.LINK_TX_MASK, [(0, 0)], .u8, .rws, .now, false, 0xFF, [(1, 255)], 0, 0⟩,
  ⟨O.LINK_HRX_MASK, [(0, 0)], .u8, .rws, .now, false, 3, [(0, 3)], 0, 0⟩,
  ⟨O.LINK_LOSS_POLICY, [(0, 0)], .enum8, .rw, .now, false, 1, [(0, 1)], 0, 0⟩,
  ⟨O.LINK_MIN_TX_LANES, [(0, 0)], .u8, .rw, .now, false, 4, [(1, 8)], 0, 0⟩,
  ⟨O.LINK_TRAIN_MIN_US, [(0, 0)], .u16, .rws, .now, false, 0x64, [(100, 10000)], 0, 0⟩,
  ⟨O.LINK_RETRAIN, [(0, 0)], .u8, .wo, .now, false, 0, [(1, 1)], 0, 0⟩,
  ⟨O.LINK_ACTIVE_TX, [(0, 0)], .u8, .ro, .now, false, 0, [], 0, 0⟩,
  ⟨O.LINK_ACTIVE_HRX, [(0, 0)], .u8, .ro, .now, false, 0, [], 0, 0⟩,
  ⟨O.LINK_READY_TIME, [(0, 0)], .u64, .ro, .now, false, 0, [], 0, 0⟩,
  ⟨O.LINK_TRAINS, [(0, 0)], .u32, .rc, .now, false, 0, [], 0, 0⟩,
  ⟨O.LINK_RESTRIPES, [(0, 0)], .u32, .rc, .now, false, 0, [], 0, 0⟩,
  ⟨O.LINK_GOP_CREDIT, [(0, 0)], .bool, .rws, .now, false, 0, [(0, 1)], 0, 0⟩,
  ⟨O.LINK_ACQ_CREDIT, [(0, 0)], .bool, .rws, .now, false, 0, [(0, 1)], 0, 0⟩,
  ⟨O.LINK_ACQ_BALANCE, [(0, 0)], .u32, .ro, .now, false, 0, [], 0, 0⟩,
  ⟨O.LINK_NOTIFY_DROPPED, [(0, 0)], .u32, .rc, .now, false, 0, [], 0, 0⟩,
  ⟨O.LINK_TX_SEGMENTS, [(1, 7)], .u64, .ro, .now, true, 0, [], 0, 0⟩,
  ⟨O.LINK_TX_DISCARD, [(1, 7)], .u32, .rc, .now, false, 0, [], 0, 0⟩,
  ⟨O.LINK_TX_ABORTS, [(0, 0)], .u32, .rc, .now, false, 0, [], 0, 0⟩,
  ⟨O.LINK_RX_SEGMENTS, [(0, 0)], .u64, .ro, .now, true, 0, [], 0, 0⟩,
  ⟨O.LINK_RX_DISCARD, [(0, 0)], .u32, .rc, .now, false, 0, [], 0, 0⟩,
  ⟨O.LINK_TS_PERIOD_MS, [(0, 0)], .u16, .rw, .now, false, 0x7D, [(0, 1000)], 0, 0⟩,
  ⟨O.LINK_TS_ASYM_PS, [(0, 0)], .s32, .rw, .now, false, 0, [(-1000000, 1000000)], 0, 0⟩,
  ⟨O.LINK_TS_RESULT, [(0, 0)], .dom, .ro, .now, false, 0, [], 0, 0⟩,
  ⟨O.LINK_TS_MISSED, [(0, 0)], .u32, .rc, .now, false, 0, [], 0, 0⟩,
  ⟨O.LANE_STATE, [(0, 9)], .enum8, .ro, .now, false, 0, [(0, 6)], 0, 0⟩,
  ⟨O.LANE_SWING, [(0, 7)], .u16, .rw, .now, false, 0x320, [(400, 1000)], 50, 0⟩,
  ⟨O.LANE_PRE, [(0, 7)], .u8, .rw, .now, false, 0, [(0, 8)], 0, 0⟩,
  ⟨O.LANE_POST, [(0, 7)], .u8, .rw, .now, false, 0xC, [(0, 20)], 0, 0⟩,
  ⟨O.LANE_CTLE, [(8, 9)], .u8, .rw, .now, false, 0xFF, [(0, 15), (255, 255)], 0, 0⟩,
  ⟨O.LANE_CTLE_NOW, [(8, 9)], .u8, .ro, .now, false, 0, [], 0, 0⟩,
  ⟨O.LANE_POLARITY, [(0, 9)], .bool, .rws, .now, false, 0, [(0, 1)], 0, 0⟩,
  ⟨O.LANE_CV, [(0, 9)], .u32, .rc, .now, false, 0, [], 0, 0⟩,
  ⟨O.LANE_DISP, [(0, 9)], .u32, .rc, .now, false, 0, [], 0, 0⟩,
  ⟨O.LANE_LOSSES, [(0, 9)], .u32, .rc, .now, false, 0, [], 0, 0⟩,
  ⟨O.PRBS_GEN, [(0, 7)], .enum8, .rw, .now, false, 0, [(0, 4)], 0, 0⟩,
  ⟨O.PRBS_CHK, [(0, 9)], .enum8, .rw, .now, false, 0, [(0, 4)], 0, 0⟩,
  ⟨O.PRBS_BITS, [(0, 9)], .u64, .ro, .now, false, 0, [], 0, 0⟩,
  ⟨O.PRBS_ERRS, [(0, 9)], .u64, .ro, .now, false, 0, [], 0, 0⟩,
  ⟨O.PRBS_SYNC, [(0, 9)], .bool, .ro, .now, false, 0, [], 0, 0⟩,
  ⟨O.INJ_KIND, [(0, 7)], .enum8, .rw, .now, false, 0, [(0, 4)], 0, 0⟩,
  ⟨O.INJ_BURST, [(0, 7)], .u8, .rw, .now, false, 8, [(2, 64)], 0, 0⟩,
  ⟨O.INJ_PERIOD, [(0, 7)], .u32, .rw, .now, false, 0, [(0, 1000000)], 0, 0⟩,
  ⟨O.INJ_GO, [(0, 7)], .u8, .rw, .now, false, 0, [(0, 1)], 0, 0⟩,
  ⟨O.INJ_COUNT, [(0, 7)], .u32, .ro, .now, false, 0, [], 0, 0⟩]

/-- The objects of indices 5800 to 58FF. -/
def rows58 : List ObjRow := [
  ⟨O.MEM_STATE, [(0, 0)], .enum8, .ro, .now, false, 0, [(0, 5)], 0, 0⟩,
  ⟨O.MEM_DENSITY, [(0, 0)], .enum8, .ro, .now, false, 0, [(0, 2)], 0, 0⟩,
  ⟨O.MEM_CAPACITY, [(0, 0)], .u64, .ro, .now, false, 0, [], 0, 0⟩,
  ⟨O.MEM_PIN_RATE, [(0, 0)], .u16, .rw, .now, false, 0x6D60, [(16000, 28000)], 2000, 0⟩,
  ⟨O.MEM_RETRAIN, [(0, 0)], .u8, .wo, .stop, false, 0, [(1, 1)], 0, 0⟩,
  ⟨O.MEM_TRACK_MS, [(0, 0)], .u16, .rw, .now, false, 0x32, [(10, 1000)], 0, 0⟩,
  ⟨O.MEM_PASR, [(0, 0)], .enum8, .rw, .now, false, 0, [(0, 2)], 0, 0⟩,
  ⟨O.MEM_REFRESH_MODE, [(0, 0)], .enum8, .rw, .now, false, 0, [(0, 1)], 0, 0⟩,
  ⟨O.MEM_RETAINED_TOP, [(0, 0)], .u64, .ro, .now, false, 0, [], 0, 0⟩,
  ⟨O.MEM_BANK_MASK, [(0, 3)], .u64, .ro, .now, false, 0, [], 0, 0⟩,
  ⟨O.MEM_ACQ_SNAP_BASE, [(0, 0)], .u64, .ro, .now, false, 0, [], 0, 0⟩,
  ⟨O.MEM_ACQ_STREAM_BASE, [(0, 0)], .u64, .ro, .now, false, 0, [], 0, 0⟩,
  ⟨O.MEM_CH_STATE, [(0, 7)], .enum8, .ro, .now, false, 0, [(0, 3)], 0, 0⟩,
  ⟨O.MEM_CH_RD_BYTES, [(0, 7)], .u64, .ro, .now, true, 0, [], 0, 0⟩,
  ⟨O.MEM_CH_WR_BYTES, [(0, 7)], .u64, .ro, .now, true, 0, [], 0, 0⟩,
  ⟨O.MEM_CH_EDC_RD, [(0, 7)], .u32, .rc, .now, false, 0, [], 0, 0⟩,
  ⟨O.MEM_CH_EDC_WR, [(0, 7)], .u32, .rc, .now, false, 0, [], 0, 0⟩,
  ⟨O.MEM_CH_CA, [(0, 7)], .u32, .rc, .now, false, 0, [], 0, 0⟩,
  ⟨O.MEM_CH_POISON, [(0, 7)], .u32, .rc, .now, false, 0, [], 0, 0⟩,
  ⟨O.MEM_CH_RMW, [(0, 7)], .u64, .ro, .now, true, 0, [], 0, 0⟩,
  ⟨O.MEM_CH_ACT, [(0, 7)], .u64, .ro, .now, true, 0, [], 0, 0⟩,
  ⟨O.MEM_CH_POISON_BLOCKS, [(0, 7)], .u8, .ro, .now, false, 0, [(0, 64)], 0, 0⟩,
  ⟨O.MEM_CH_TEMP, [(0, 7)], .s16, .ro, .now, false, 0, [], 0, 0⟩,
  ⟨O.MEM_ERR_LOG, [(0, 0)], .dom, .ro, .now, false, 0, [], 0, 0⟩,
  ⟨O.MEM_ERR_COUNT, [(0, 0)], .u32, .ro, .now, false, 0, [], 0, 0⟩,
  ⟨O.MEM_PEEK_ADDR, [(0, 0)], .u64, .rw, .now, false, 0, [], 0, 0⟩,
  ⟨O.MEM_PEEK, [(0, 0)], .dom, .ro, .now, false, 0, [], 0, 0⟩,
  ⟨O.MEM_ARB_QUANTUM, [(0, 0xF)], .u8, .rw, .now, false, 4, [(1, 16)], 0, 0⟩,
  ⟨O.MEM_ARB_URGENT_MODE, [(0, 0xF)], .enum8, .rw, .now, false, 1, [(0, 2)], 0, 0⟩,
  ⟨O.MEM_ARB_GRANTS, [(0, 0xF)], .u64, .ro, .now, true, 0, [], 0, 0⟩,
  ⟨O.MEM_ARB_WAIT, [(0, 0xF)], .u64, .ro, .now, true, 0, [], 0, 0⟩,
  ⟨O.MEM_ARB_MAXWAIT, [(0, 0xF)], .u32, .rc, .now, false, 0, [], 0, 0⟩,
  ⟨O.MEM_ARB_PROMOTIONS, [(0, 0xF)], .u32, .rc, .now, false, 0, [], 0, 0⟩,
  ⟨O.MEM_ARB_PROMOTE, [(0, 0)], .u16, .rw, .now, false, 0x800, [(64, 65535)], 0, 0⟩]

/-- The objects of indices 6000 to 60FF. -/
def rows60 : List ObjRow := [
  ⟨O.HK_RUN, [(0, 0)], .bool, .rw, .now, false, 1, [(0, 1)], 0, 0⟩,
  ⟨O.HK_STATE, [(0, 0)], .enum8, .ro, .now, false, 1, [(0, 1)], 0, 0⟩,
  ⟨O.HK_SEQ_LEN, [(0, 0)], .u8, .rws, .now, false, 0x18, [(1, 64)], 0, 0⟩,
  ⟨O.HK_SEQ, [(0, 0)], .dom, .rws, .now, false, 0, [], 0, 0⟩,
  ⟨O.HK_SEQ_POS, [(0, 0)], .bits32, .ro, .now, false, 0, [], 0, 0⟩,
  ⟨O.HK_PREEMPTS, [(0, 0)], .u32, .rc, .now, false, 0, [], 0, 0⟩,
  ⟨O.HK_LOOPS, [(0, 0)], .u32, .ro, .now, true, 0, [], 0, 0⟩,
  ⟨O.HK_RING, [(0, 0)], .dom, .ro, .now, false, 0, [], 0, 0⟩,
  ⟨O.HK_RING_COUNT, [(0, 0)], .u64, .ro, .now, false, 0, [], 0, 0⟩,
  ⟨O.HK_OFS, [(0, 0x2F)], .s16, .rw, .now, false, 0, [], 0, 0⟩,
  ⟨O.HK_GAIN, [(0, 0x2F)], .u16, .rw, .now, false, 0x8000, [(29491, 36045)], 0, 0⟩,
  ⟨O.HK_FMT, [(0, 0x2F)], .enum8, .rw, .now, false, 0, [(0, 2)], 0, 0⟩,
  ⟨O.HK_UNIT, [(0, 0x2F)], .enum8, .rw, .now, false, 0, [(0, 1)], 0, 0⟩,
  ⟨O.HK_NTC_BETA, [(0, 0x2F)], .u16, .rw, .now, false, 0xD6B, [(1000, 10000)], 0, 0⟩,
  ⟨O.HK_NTC_R25, [(0, 0x2F)], .u32, .rw, .now, false, 0x2710, [(100, 1000000)], 0, 0⟩,
  ⟨O.HK_NTC_RDIV, [(0, 0x2F)], .u32, .rw, .now, false, 0x2710, [(100, 1000000)], 0, 0⟩,
  ⟨O.HK_LIM_LO, [(0, 0x2F)], .f32, .rw, .now, false, 0xCE6E6B28, [], 0, 0⟩,
  ⟨O.HK_LIM_HI, [(0, 0x2F)], .f32, .rw, .now, false, 0x4E6E6B28, [], 0, 0⟩,
  ⟨O.HK_LIM_N, [(0, 0x2F)], .u8, .rw, .now, false, 0, [(0, 255)], 0, 0⟩,
  ⟨O.HK_LIM_CLASS, [(0, 0x2F)], .enum8, .rw, .now, false, 1, [(0, 2)], 0, 0⟩,
  ⟨O.HK_VALUE, [(0, 0x2F)], .u32, .ro, .now, false, 0, [], 0, 0⟩,
  ⟨O.HK_PHYS, [(0, 0x2F)], .f32, .ro, .now, false, 0, [], 0, 0⟩,
  ⟨O.HK_TIME, [(0, 0x2F)], .u64, .ro, .now, false, 0, [], 0, 0⟩,
  ⟨O.HK_NOW, [(0, 0x2F)], .u32, .ro, .now, false, 0, [], 0, 0⟩,
  ⟨O.HK_CLIP, [(0, 0x2F)], .u32, .rc, .now, false, 0, [], 0, 0⟩]

/-- The objects of indices 6100 to 61FF. -/
def rows61 : List ObjRow := [
  ⟨O.THM_TEMP, [(0, 0xF)], .s16, .ro, .now, false, 0, [], 0, 0⟩,
  ⟨O.THM_RATE, [(0, 0xF)], .s16, .ro, .now, false, 0, [], 0, 0⟩,
  ⟨O.THM_STATUS, [(0, 0xF)], .enum8, .ro, .now, false, 0, [(0, 4)], 0, 0⟩,
  ⟨O.THM_MAX, [(0, 0xF)], .s16, .rc, .now, false, 0xFDDA, [], 0, 0⟩,
  ⟨O.THM_WARN_T, [(0, 0xF)], .s16, .rw, .now, false, 0x47E, [], 0, 0⟩,
  ⟨O.THM_THR1_T, [(0, 0xF)], .s16, .rw, .now, false, 0x49C, [], 0, 0⟩,
  ⟨O.THM_THR2_T, [(0, 0xF)], .s16, .rw, .now, false, 0x4C4, [], 0, 0⟩,
  ⟨O.THM_THR3_T, [(0, 0xF)], .s16, .rw, .now, false, 0x4E2, [], 0, 0⟩,
  ⟨O.THM_SHED_T, [(0, 0xF)], .s16, .rw, .now, false, 0x546, [], 0, 0⟩,
  ⟨O.THM_HYST, [(0, 0)], .u16, .rw, .now, false, 0x1E, [(5, 200)], 0, 0⟩,
  ⟨O.THM_ROR_LIMIT, [(0, 0)], .u16, .rw, .now, false, 0x64, [(5, 500)], 0, 0⟩,
  ⟨O.THM_ROR_EN, [(0, 0)], .bool, .rw, .now, false, 1, [(0, 1)], 0, 0⟩,
  ⟨O.THM_THROTTLE_REQ, [(0, 0)], .u8, .ro, .now, false, 0, [], 0, 0⟩,
  ⟨O.THM_AUTO_RESTART, [(0, 0)], .bool, .rw, .now, false, 1, [(0, 1)], 0, 0⟩,
  ⟨O.THM_SD_COUNT, [(0, 0)], .u32, .ro, .now, false, 0, [], 0, 0⟩,
  ⟨O.THM_SD_TIME, [(0, 0)], .u64, .ro, .now, false, 0, [], 0, 0⟩,
  ⟨O.THM_SHED_EVENTS, [(0, 0)], .u32, .rc, .now, false, 0, [], 0, 0⟩,
  ⟨O.THM_ROR_EVENTS, [(0, 0)], .u32, .rc, .now, false, 0, [], 0, 0⟩,
  ⟨O.THM_SD_SENSOR, [(0, 0)], .u8, .ro, .now, false, 0xFF, [(0, 15), (255, 255)], 0, 0⟩]

/-- The objects of indices 7000 to 70FF. -/
def rows70 : List ObjRow := [
  ⟨O.FLT_LOG, [(0, 0)], .dom, .ro, .now, false, 0, [], 0, 0⟩,
  ⟨O.FLT_NEWEST_SEQ, [(0, 0)], .u32, .ro, .now, false, 0xFFFFFFFF, [], 0, 0⟩,
  ⟨O.FLT_ACK, [(0, 0)], .u32, .wo, .now, false, 0, [], 0, 0⟩,
  ⟨O.FLT_ACKED_SEQ, [(0, 0)], .u32, .ro, .now, false, 0xFFFFFFFF, [], 0, 0⟩,
  ⟨O.FLT_UNACKED, [(0, 0)], .u16, .ro, .now, false, 0, [], 0, 0⟩,
  ⟨O.FLT_FAULT_N, [(0, 0)], .bool, .ro, .now, false, 1, [], 0, 0⟩,
  ⟨O.FLT_FIRST, [(0, 0)], .dom, .ro, .now, false, 0, [], 0, 0⟩,
  ⟨O.FLT_LOST, [(0, 0)], .u32, .rc, .now, false, 0, [], 0, 0⟩,
  ⟨O.FLT_CLASS_COUNT, [(0, 5)], .u32, .ro, .now, true, 0, [], 0, 0⟩,
  ⟨O.FLT_CLEAR, [(0, 0)], .u8, .wo, .now, false, 0, [(1, 1)], 0, 0⟩,
  ⟨O.FLT_MIRROR_STATE, [(0, 0)], .enum8, .ro, .now, false, 0, [(0, 3)], 0, 0⟩]

/-- The rows whose index has the given high byte. -/
def rowsOf (page : Nat) : List ObjRow :=
  if page == 0x10 then rows10
  else if page == 0x11 then rows11
  else if page == 0x12 then rows12
  else if page == 0x20 then rows20
  else if page == 0x24 then rows24
  else if page == 0x26 then rows26
  else if page == 0x30 then rows30
  else if page == 0x34 then rows34
  else if page == 0x38 then rows38
  else if page == 0x3C then rows3C
  else if page == 0x3D then rows3D
  else if page == 0x40 then rows40
  else if page == 0x41 then rows41
  else if page == 0x42 then rows42
  else if page == 0x44 then rows44
  else if page == 0x48 then rows48
  else if page == 0x49 then rows49
  else if page == 0x50 then rows50
  else if page == 0x54 then rows54
  else if page == 0x58 then rows58
  else if page == 0x60 then rows60
  else if page == 0x61 then rows61
  else if page == 0x70 then rows70
  else []

/-- The row of an index, none where no object has it (R85). -/
def rowOf? (idx : Nat) : Option ObjRow := (rowsOf (idx / 256)).find? (fun r => r.idx == idx)

end Sys2Proof.Machine
end

