-- ==== Sys2Proof/Machine/Tab.lean ====
section
/-! DEFINITION. A sparse table in one canonical form: a list of key and value pairs with rising keys and no pair that says
what an unlisted key says anyway. Registers, memories and per-channel state are kept in tables. -/

namespace Sys2Proof.Machine

/-- A sparse table from numbers to values. -/
abbrev Tab (α : Type) := List (Nat × α)

/-- The value of key `k`, `d` where the table does not list it. -/
def tget {α : Type} (d : α) (m : Tab α) (k : Nat) : α :=
  match m with
  | [] => d
  | (k', v) :: t => if k' == k then v else tget d t k

/-- The table without key `k`. -/
def tdel {α : Type} (m : Tab α) (k : Nat) : Tab α :=
  match m with
  | [] => []
  | (k', v) :: t => if k' == k then tdel t k else (k', v) :: tdel t k

/-- The table with a pair put in its place. -/
def tins {α : Type} (m : Tab α) (k : Nat) (v : α) : Tab α :=
  match m with
  | [] => [(k, v)]
  | (k', v') :: t => if k < k' then (k, v) :: (k', v') :: t else (k', v') :: tins t k v

/-- The table with key `k` set to `v`; a value equal to the default `d` is not listed. -/
def tset {α : Type} [DecidableEq α] (d : α) (m : Tab α) (k : Nat) (v : α) : Tab α :=
  if v = d then tdel m k else tins (tdel m k) k v

/-- The table without the keys from `lo` on, `n` of them. -/
def tdrop {α : Type} (m : Tab α) (lo n : Nat) : Tab α :=
  m.filter (fun p => p.1 < lo || lo + n ≤ p.1)

/-- Whether the keys rise strictly. -/
def tsorted {α : Type} : Tab α → Bool
  | [] => true
  | [_] => true
  | (k, _) :: (k', v') :: t => k < k' && tsorted ((k', v') :: t)

/-- Whether the table has the canonical form for the default `d`. -/
def twf {α : Type} [DecidableEq α] (d : α) (m : Tab α) : Bool := tsorted m && m.all (fun p => decide (p.2 ≠ d))

end Sys2Proof.Machine
end

