-- ==== Sys2Proof/Machine/State.lean ====
section
/-! DEFINITION. The state of the block as plain data: every register, queue, buffer, counter, mode and pin the spec gives it,
and the queue of waiting commands. Objects of the dictionary live in `objs` (and DOM objects in `doms`); everything the text
names beside them has a field of its own here. Times of the shot path are in TDC coarse periods (two to a fabric cycle, three
to a nanosecond); device time is in fabric cycles (R53). -/

namespace Sys2Proof.Machine

/-! ### The part and its time -/

/-- The three variants (R6). -/
inductive Variant where
  | jg5124 | jg5122 | jg5120
  deriving DecidableEq, Repr

/-- What no command ever changes: the variant, the fuse words (Table 17-11), the GDDR7 devices fitted on the board and their
density (1: 16 Gb, 2: 24 Gb), the strapped IO voltage in mV and the reference clock source. -/
structure Part where
  variant : Variant
  fuse : List Nat
  fitted : Nat
  density : Nat
  ioMv : Nat
  refSrc : Nat
  deriving DecidableEq, Repr

/-- Device time in fabric cycles, and the 7-bit fraction register of parked mode (R53, R55). -/
structure Clock where
  time : Nat
  frac : Nat
  deriving DecidableEq, Repr

/-- What a command's effect may read beside the device: the part and the device time. -/
structure Env where
  part : Part
  now : Nat
  deriving DecidableEq, Repr

/-- What leaves the package in one command. -/
inductive Out where
  /-- A CAN FD frame: controller, whether its identifier has 29 bits, identifier, payload (R97 to R100). -/
  | can (ctrl : Nat) (ext : Bool) (id : Nat) (payload : Bytes)
  /-- The bytes returned on MISO in one frame (R102, R104). -/
  | miso (data : Bytes)
  /-- A Gaern segment (R697 to R705): the lanes in use, the bytes of each logical lane in order, and its groups with those of the
  alignment pairs inside it, as they stand on the balls (R685, R690, R693). -/
  | segment (lanes : Nat) (perLane : List Bytes) (groups : List (List Nat))
  /-- A column of one special symbol on the lanes in use: 3 alignment, 0 skip, 1 time marker, 7 error (Table 14-1), with the group
  of each logical lane. -/
  | column (k : Nat) (groups : List (List Nat))
  /-- TRAIN sets (Table 14-4): TXMASK, RXMASK, ALIGNED, LOCKED, and the groups of each lane: four sets of a restripe, else those up to
  and with the next K28.3 column, after which 16 sets and a K28.3 column repeat (R723). -/
  | train (tx rx : Nat) (aligned locked : Bool) (groups : List (List Nat))
  /-- A Twill string (R244): the shares and the probe word, and the high time of each 25 ns cell in ns (R241). -/
  | twill (words highs : List Nat)
  /-- The pulses of a shot on the KD outputs (R236, R238): the cathodes with their trims, and each pulse's offset and width in
  coarse periods. -/
  | pulses (kds : List (Nat × Nat)) (ps : List (Nat × Nat))
  /-- The pulses of FIRE_OUT (R251), with its lead in coarse periods. -/
  | fireOut (lead : Nat) (ps : List (Nat × Nat))
  /-- TRIG_OUT high for 100 ns (R197). -/
  | trigOut
  /-- A response of the internal boot session (R885), status and detail. -/
  | boot (status detail : Nat)
  deriving DecidableEq, Repr

/-! ### The object protocol (chapter 02) -/

/-- A stored tag: the request, its response and the time of execution (R118). -/
structure Stored where
  msg : GopMsg
  resp : Bytes
  time : Nat
  deriving DecidableEq, Repr

/-- A READ_BLOCK snapshot (R141, R142). -/
structure Snap where
  index : Nat
  element : Nat
  data : Bytes
  stamp : Nat
  last : Nat
  deriving DecidableEq, Repr

/-- A block write in progress (R145 to R147, R950). -/
structure BlockWrite where
  index : Nat
  element : Nat
  total : Nat
  next : Nat
  data : Bytes
  last : Nat
  deriving DecidableEq, Repr

/-- A CAN FD message being reassembled (R99, R101). -/
structure CanRx where
  len : Nat
  segno : Nat
  data : Bytes
  last : Nat
  deriving DecidableEq, Repr

/-- One session (Table 02-7). Session 4 is the internal boot session (R885). -/
structure Ses where
  /-- Stored tags, newest first. -/
  stored : List Stored := []
  snap : Option Snap := none
  bw : Option BlockWrite := none
  /-- The key of a block write that a swap has discarded (R210). -/
  revoked : Option Nat := none
  /-- Requests waiting for execution, oldest first (R95). -/
  queue : List GopMsg := []
  /-- A request whose execution R207 holds. -/
  held : Option GopMsg := none
  canRx : Option CanRx := none
  /-- Notification sequence (R154). -/
  nseq : Nat := 0
  /-- The CAN FD controller is in bus-off (R951). -/
  busOff : Bool := false
  /-- Messages queued for the SPI poll, oldest first; true marks a notification (R104). -/
  outq : List (Bool × Bytes) := []
  /-- Times of the frames refused since the last SPI carrier failure (R951). -/
  refused : List Nat := []
  deriving DecidableEq, Repr

/-- One subscription (R149 to R152). -/
structure Sub where
  sess : Nat
  index : Nat
  element : Nat
  count : Nat
  mode : Nat
  period : Nat
  /-- Device time of the next periodic notification. -/
  due : Nat
  /-- Device time of the last change notification, none before the first. -/
  last : Option Nat
  /-- A change has not been notified yet. -/
  dirty : Bool
  /-- The run as it was last seen. -/
  seen : List Nat
  deriving DecidableEq, Repr

/-- What a lock has staged, or a commit is to land: values by key, and whole DOM objects by key (R126 to R129). -/
structure Staged where
  vals : Tab (Option Nat) := []
  doms : Tab (Option Bytes) := []
  deriving DecidableEq, Repr

/-- The lock beside LOCK_OWNER: the end of the lease and the staged set (R123 to R129). -/
structure Lock where
  deadline : Nat := 0
  staged : Staged := {}
  deriving DecidableEq, Repr

/-- An accepted commit that waits for its boundary, with the session it came from (R132). -/
structure Commit where
  cls : Cls
  sess : Nat
  set : Staged
  deriving DecidableEq, Repr

/-! ### The fault log (chapter 18) -/

/-- An entry the logger holds (Table 18-3 but SEQ). -/
structure Entry where
  time : Nat
  loc : Nat
  code : Nat
  cls : Nat
  injected : Bool
  detail : Nat
  /-- Repeats that came while the entry was held (R908). -/
  reps : Nat
  deriving DecidableEq, Repr

/-- The logger beside the log slots, which are the bytes of FLT_LOG. -/
structure Flt where
  /-- Held entries, in order of delivery (R909). -/
  held : List Entry := []
  /-- SEQ of the next entry (R911). -/
  next : Nat := 0
  /-- Stamp of the entry written last, for CONCURRENT. -/
  lastTime : Option Nat := none
  /-- SEQs of unacknowledged entries of class INHIBIT or higher (R905). -/
  unacked : List Nat := []
  deriving DecidableEq, Repr

/-! ### The Gaern lanes (chapter 14) -/

/-- A packet waiting for or under transmission. `kind`: 0 plain, 1 response, 2 notification, 3 credits only, 4 dumped capture,
5 the trailer line of a raster, 6 SYNC_FU. `after` is the number of the trigger mark that must leave first (R712); `tag` is the
number of the mark, raster, capture or exchange that the packet stands for. -/
structure Packet where
  ty : Nat
  data : Bytes
  kind : Nat := 0
  after : Option Nat := none
  tag : Nat := 0
  deriving DecidableEq, Repr

/-- A packet of which segments have left: the number of the next one, and the packet's MSEQ. -/
structure Sending where
  pkt : Packet
  seg : Nat
  mseq : Nat
  deriving DecidableEq, Repr

/-- A SYNC_FU (R742 to R746): TSEQ, t1 with its fraction, when it left, and whether it has been answered or counted. -/
structure TsSync where
  tseq : Nat
  t1 : Nat
  frac : Nat
  left : Option Nat
  done : Bool
  deriving DecidableEq, Repr

/-- Symbols put on the lanes together: their first column, the disparities before it, and the symbols of each lane (R685, R705). -/
structure Air where
  start : Nat
  disp : Tab Bool
  syms : List (Nat × List LineSym)
  deriving DecidableEq, Repr

/-- An alignment pair that stands inside such symbols (R693, R694): its number, whether it carries the time marker, and the groups of
its two columns. -/
structure PairCol where
  num : Nat
  marker : Bool
  first : List (List Nat)
  second : List (List Nat)
  deriving DecidableEq, Repr

/-- A receive lane: its running disparity once a group has come (R686), the column of the last K28.3 accepted or expected and the
expected ones missing since (R695), and the columns of its latest errors (R733). -/
structure RxLane where
  rd : Option Bool := none
  mark : Option Nat := none
  missed : Nat := 0
  errs : List Nat := []
  deriving DecidableEq, Repr

/-- A segment that is arriving: the bytes of each logical lane and whether the lane has ended, and an error in it (R705, R707). -/
structure RxAir where
  lanes : List (Bytes × Bool)
  bad : Bool
  deriving DecidableEq, Repr

/-- A received packet of which segments are still to come, or of which the rest is discarded (R702, R707). -/
structure RxPart where
  ty : Nat
  mseq : Nat
  seg : Nat
  data : Bytes
  drop : Bool
  deriving DecidableEq, Repr

/-- The link beside its objects. -/
structure Link where
  /-- Packets waiting, in order of formation. -/
  txq : List Packet := []
  /-- Packets of which a first segment has left, one per type. -/
  part : List Sending := []
  /-- The segment in flight (header, payload and CRC), its type and packet, the end of its last column, what was put on the lanes last,
  and the alignment pairs inside it. -/
  flight : Option (Packet × Bytes) := none
  endAt : Nat := 0
  air : Option Air := none
  inner : List PairCol := []
  mseq : Tab Nat := []
  /-- GOP credits owed to the host (R714) and host credits held (R718). -/
  owed : Nat := 0
  held : Nat := 0
  /-- Entry into READY or DEGRADED and alignment pairs sent since (R694). -/
  readyAt : Nat := 0
  pairs : Nat := 0
  /-- Entry into TRAIN, and whether 50 ms in it have been logged (R732). -/
  trainAt : Nat := 0
  trainLong : Bool := false
  /-- The device sets ALIGNED in its sets (R727). -/
  alignedOk : Bool := false
  /-- Receive lanes locked and aligned (bit n for HRX_n), and the logical number each lane's sets carry (R726). -/
  locked : Nat := 0
  aligned : Nat := 0
  number : Tab Nat := []
  /-- Swing and taps in force per lane (R689): those of the objects' defaults until the first alignment column. -/
  taps : List (Nat × Nat × Nat) := List.replicate 8 (800, 0, 12)
  /-- Running disparity of each transmit lane, positive where true (R685), and the columns accounted for since the entry into
  READY or DEGRADED, and since the entry into TRAIN. -/
  disp : Tab Bool := []
  cols : Nat := 0
  trainCols : Nat := 0
  /-- The TRAIN sets being sent: TXMASK, RXMASK, ALIGNED, LOCKED, and when ALIGNED was set (R728). -/
  sets : Nat × Nat × Bool × Bool := (0, 0, false, false)
  alignedAt : Nat := 0
  /-- Last injection and last count of checked bits per lane, and the bit errors of its latest 1,024 bits (R749, R750, R753). -/
  injAt : Tab Nat := []
  prbsAt : Tab Nat := []
  prbsErrs : Tab (List (Nat × Nat)) := []
  /-- Receive lanes by ball, columns received since READY or DEGRADED, the segment that arrives, and packets that are not complete. -/
  rxLanes : Tab RxLane := []
  rxCol : Nat := 0
  rxAir : Option RxAir := none
  rxParts : List RxPart := []
  /-- Next TSEQ, the time from which the next marker is due, the SYNC_FUs by TSEQ, oldest first, and the latest host marker (R741 to
  R746). -/
  tseq : Nat := 0
  tsNext : Nat := 0
  syncs : List TsSync := []
  marker : Option (Nat × Nat) := none
  deriving DecidableEq, Repr

/-! ### Jacquard (chapter 03) -/

/-- One decoded shot, or a MOVE, in the lookahead queue. -/
structure Shot where
  /-- The 128-bit entry, its bank and index, the repeat and the ordinal of its decode. -/
  ent : Nat
  bank : Nat
  idx : Nat
  rep : Nat
  ord : Nat
  move : Bool
  /-- Dither in ns (R172), frame origin, planned emission, all but the dither in coarse periods (R175). -/
  dither : Nat
  origin : Nat
  planned : Nat
  moved : Bool
  /-- Suppressed at decode (R193). -/
  thinned : Bool
  frameFirst : Bool
  swap : Bool
  lineChange : Bool
  lineDone : Bool
  /-- Accumulation group instance, and whether this shot is the last of it. -/
  acc : Option Nat
  accLast : Bool
  /-- The channels it lights, as of its decode. -/
  chans : Nat
  /-- Shot header SEQ (R441). -/
  hseq : Nat
  wakeStall : Bool
  twStall : Bool
  histStall : Bool
  deriving DecidableEq, Repr

/-- An open accumulation group (R186 to R190). -/
structure AccGroup where
  inst : Nat
  id : Nat
  code : Nat
  wclass : Nat
  /-- The channels it lights, one bit each. -/
  chans : Nat
  shots : Nat
  /-- Its last decoded shot, for the result header (R443). -/
  last : Shot
  deriving DecidableEq, Repr

/-- The shot in flight: from its boundary to the close of its windows. -/
structure Flight where
  shot : Shot
  /-- Shot boundary and emission in coarse periods. -/
  bound : Nat
  emit : Nat
  committed : Bool := false
  /-- Passed fire commit. -/
  fires : Bool := false
  /-- An inhibit or a driver shutdown has come since fire commit (R281). -/
  inhibited : Bool := false
  /-- SUPP_CAUSE of a shot that passed fire commit and emits no pulse (R40). -/
  supp : Option Nat := none
  emitted : Bool := false
  cut : Bool := false
  /-- Effective line and cathode masks (R219, R261). -/
  an : Nat := 0
  kd : Nat := 0
  /-- Calibrated emission stamp E16 and its miss flag (R380 to R383), and whether the shot yields no records (R383). -/
  stamp : Int := 0
  miss : Bool := false
  /-- BLANK_N was low at emission, or Voile touched a window (R319). -/
  blanked : Bool := false
  /-- Windows are open. -/
  wins : Bool := false
  /-- What its dark gate has measured, until it is evaluated (R453 to R455). -/
  dark : Option BoundMeas := none
  deriving DecidableEq, Repr

/-- The dark gate of a shot that the fire commit has refused: what it measured, the shot's emission in coarse periods, its channels
with their ranges, and the coarse period from which every masked span that can meet the gate is known (R317, R320). -/
structure DarkLate where
  meas : BoundMeas
  emit : Nat
  chans : List (Nat × Nat)
  due : Nat
  deriving DecidableEq, Repr

/-- The walk's next step in time: what the next plan counts from (R175). -/
structure PlanRef where
  /-- T_ref, and of the previous SHOT its emission, window and AN_MASK; none before the first shot of a start. -/
  tref : Nat
  last : Option (Nat × Nat × Nat)
  deriving DecidableEq, Repr

/-- Jacquard beside its objects. -/
structure Jq where
  queue : List Shot := []
  flight : Option Flight := none
  /-- The next entry to decode, whether it begins a frame, and whether decoding goes on. -/
  bank : Nat := 0
  next : Nat := 0
  newFrame : Bool := false
  decoding : Bool := false
  /-- A stop at once has been written (R201). -/
  stopNow : Bool := false
  /-- Whether the last frame decision took a swap (R205); none before the first one of a start. -/
  decided : Option Bool := none
  /-- The next SHOT decoded is the first of its frame. -/
  firstDue : Bool := false
  ord : Nat := 0
  /-- Origin of the frame last begun and of the next one where an edge or a miss has fixed it, in coarse periods. -/
  origin : Nat := 0
  originNext : Option Nat := none
  /-- Origins of later frames that edges or misses have fixed before the next frame's decision (R169, R170). -/
  originLater : List Nat := []
  /-- Start instant, and the plan of the last decoded shot or MOVE. -/
  start : Nat := 0
  plan : PlanRef := { tref := 0, last := none }
  /-- The plan as of the shot last taken to its boundary, from which queued shots are planned again (R176). -/
  base : PlanRef := { tref := 0, last := none }
  lfsr : Nat := 0
  /-- Open accumulation groups and the next instance number. -/
  acc : List AccGroup := []
  accNext : Nat := 0
  /-- Next shot header SEQ (R441). -/
  hseq : Nat := 0
  /-- The last shot boundary, in coarse periods. -/
  bound : Nat := 0
  /-- The line boundary after a shot that opened no windows: when they would have closed, in coarse periods (R44, R178). -/
  lineDue : Option Nat := none
  /-- Jacquard has reached STOPPED in this command: shadows and a pending commit are still to land. -/
  settle : Bool := false
  deriving DecidableEq, Repr

/-! ### Emitter drive (chapter 04) -/

/-- A Twill string on the wire (R241 to R244): its words, the shares without SEQ and CHK, and the end of the latch hold in
coarse periods. -/
structure TwWire where
  words : List Nat
  shares : List Nat
  latchAt : Nat
  deriving DecidableEq, Repr

/-- The emitter drive beside its objects. -/
structure Em where
  /-- Closed anode switches, the line set in force and the loaded line setpoints. -/
  closed : Nat := 0
  lines : Nat := 0
  setp : List Nat := [0, 0, 0, 0, 0, 0, 0, 0]
  /-- VHV as last reported, in mV. -/
  vhvMv : Int := 24000
  /-- Lines opened by over-current for the rest of the shot (R231). -/
  tripped : Nat := 0
  /-- Per line: shots that fired it, those at which over-current events came, and consecutive under-current shots (R233). -/
  fired : Tab Nat := []
  /-- Per line the largest peak measured in the shot that last fired it (R230). -/
  peaks : Tab Nat := []
  overs : Tab (List Nat) := []
  unders : Tab Nat := []
  /-- Test pass under way since, last start, last completion, requests (R257 to R262). -/
  pass : Option Nat := none
  passLast : Option Nat := none
  passDone : Option Nat := none
  req : Bool := false
  barClear : Bool := false
  /-- The pass under way lifts bars: it was requested by EM_BAR_CLEAR before its start (R262). -/
  passClear : Bool := false
  startPass : Bool := false
  starveAt : Nat := 0
  /-- Twill: shares latched last without SEQ and CHK, next SEQ, the string on the wire, failed checks in a row, the last check
  passed, a string is to be sent again. -/
  latched : List Nat := []
  twSeq : Nat := 0
  wire : Option TwWire := none
  lastEmit : Nat := 0
  twFails : Nat := 0
  twOk : Bool := false
  resend : Bool := false
  deriving DecidableEq, Repr

/-! ### Hawkmoth (chapter 05) -/

/-- Hawkmoth beside its objects. -/
structure Hm where
  /-- EMIT_EN as the ball stands after its deglitch. -/
  emitEn : Bool := false
  armAt : Nat := 0
  /-- Firmware heartbeat: the last value, the last correct stroke, alive (R275). -/
  fwVal : Nat := 0
  fwAt : Nat := 0
  fwAlive : Bool := true
  /-- Host heartbeat: last renewal and alive (R276). -/
  hostAt : Nat := 0
  hostAlive : Bool := true
  /-- Second configuration copy (R289), whether the copies disagree, and the last comparison. -/
  copy : Tab Nat := []
  mismatch : Bool := false
  compareAt : Nat := 0
  /-- The last test pass found a drive fault of class INHIBIT. -/
  hvDrive : Bool := false
  /-- Reported Atlas samples within the longest window, newest first: time, slot, angle in µ° (R279). -/
  samples : List (Nat × Nat × Int) := []
  /-- Per slot the time and PLAUSIBLE bit of the latest report (R278, R628). -/
  report : Tab (Nat × Bool) := []
  /-- Bucket levels by bucket × 256 + set, and the grid steps each bucket has taken (R284). -/
  levels : Tab Nat := []
  steps : Tab Nat := []
  /-- Buckets whose limit has been written since reset, and the last emission in the always-on domain (R287). -/
  limitSet : Nat := 0
  lastEmit : Nat := 0
  /-- Per bucket set, of the last logged refusal four times one more than its time, plus its bucket (R285). -/
  logged : Tab Nat := []
  deriving DecidableEq, Repr


/-! ### Receive front end and echo timing (chapters 06 and 07) -/

/-- One stamp of a window, before IDX is given (Table 07-1). `s16` counts 1/16 LSB from window zero (R353). -/
structure Stamp where
  th : Nat
  rise : Bool
  s16 : Int
  nf : Bool
  sat : Bool
  trunc : Bool
  deriving DecidableEq, Repr

/-- One comparator of an open window. -/
structure Cmp where
  high : Bool := false
  /-- Its rising crossing was refused under R371: ignored until it falls. -/
  ignored : Bool := false
  /-- The rising stamp of the present pulse has been taken. -/
  stamped : Bool := false
  /-- The saturation detector has tripped in the present pulse (R305). -/
  sat : Bool := false
  /-- The present pulse has its falling stamp from the end of the stamp span, and is still high (R360, R361). -/
  cut : Bool := false
  /-- The falling stamp under merge hold-off (R364). -/
  hold : Option Stamp := none
  deriving DecidableEq, Repr

/-- The window of one lit channel. -/
structure Win where
  chan : Nat
  slice : Nat
  range : Nat
  /-- The window takes no stamps (R318, R333, R357, R378). -/
  silent : Bool
  /-- The channel gives no record (R328, R333, R574), and it is muted: it appears in no acquisition record either (R333, R570). -/
  noRecords : Bool
  muted : Bool := false
  /-- The saturation detector tripped in the window (R306). -/
  sat : Bool := false
  cmps : List Cmp := [{}, {}, {}]
  /-- Stamps taken, newest first; once the window has closed, in order of leaving (R368, R372). -/
  stamps : List Stamp := []
  /-- The acceptance span has opened and closed (R356 to R362). -/
  opened : Bool := false
  closed : Bool := false
  ovf : Bool := false
  deriving DecidableEq, Repr

/-- A serving-slice change that waits for its boundary (R336): the channel and its new slice. -/
structure SwitchReq where
  chan : Nat
  slice : Nat
  deriving DecidableEq, Repr

/-- One detector bias output beside its objects. -/
structure Bias where
  /-- Entry into current limit, and the status it left. -/
  limitAt : Nat := 0
  back : Nat := 2
  /-- Turned off because VHV is low; it restarts by itself (Table 06-5, R861). -/
  vhvOff : Bool := false
  /-- Start of the ramp and the voltage it started from, in mV. -/
  rampAt : Nat := 0
  rampFrom : Nat := 0
  /-- The target of the last housekeeping round, which waits for a frame boundary (R324). -/
  next : Option Nat := none
  deriving DecidableEq, Repr

/-- The receive front end beside its objects. -/
structure Rx where
  /-- Per group: time of the wake request, state it wakes from (0 OFF, 2 STANDBY), held step-down (0 none, 1 OFF, 2 STANDBY). -/
  wakeAt : Tab Nat := []
  wakeFrom : Tab Nat := []
  stepHeld : Tab Nat := []
  /-- Groups whose domain calibration holds on (R563). -/
  calHold : Nat := 0
  /-- Range index and quiet count of each channel (R310), and the channels that have one since the start (R313). -/
  rIdx : Tab Nat := []
  quiet : Tab Nat := []
  rSet : Nat := 0
  /-- Channels with a window before (R311). -/
  hadWin : Nat := 0
  /-- Range held by an open accumulation group, per channel: one more than the instance, and the range (R314). -/
  held : Tab (Nat × Nat) := []
  /-- Adaptation in force of each channel (R459). -/
  adapt : Tab (Int × Int × Int) := []
  /-- Voile: stamp of the falling edge while BLANK_N is low, and the masked spans measured, in LSB. -/
  blankLow : Option Nat := none
  spans : List (Nat × Nat) := []
  bias : Tab Bias := []
  /-- VHV is below 9 V or locked out for the bias outputs. -/
  vhvLow : Bool := false
  /-- Dark-rate watch: counts and windows of the running sub-interval per channel, of the last nine, newest first, and the
  start of the running sub-interval (R331). -/
  dkCount : Tab Nat := []
  dkWins : Tab Nat := []
  dkHist : Tab (List (Nat × Nat)) := []
  watchAt : Nat := 0
  /-- Inputs isolated (R329). -/
  isolated : Nat := 0
  /-- Requested switches (R336); per group who holds the Skipper: 0 none, 1 calibration, 2 host, 3 repair; status of the home
  slice before its repair. -/
  switches : List SwitchReq := []
  holder : Tab Nat := []
  homeStatus : Tab Nat := []
  windows : List Win := []
  /-- Slices whose calibration for the shot under way is not plausible (R377). -/
  badCal : List Nat := []
  /-- The dark gate that waits for the masked spans (R320, R453). -/
  darkLate : Option DarkLate := none
  deriving DecidableEq, Repr

/-- Echo timing beside its objects. -/
structure Tdc where
  /-- Consecutive implausible calibrations per slice (R378, R379). -/
  implaus : Tab Nat := []
  /-- Linearisation tables: slice × 32 + j (R376). -/
  q : Tab Int := []
  /-- Last plausible C1 and C2 of the emission TDC, in 1/8 code (R374, R377, R380). -/
  emitC1 : Nat := 256
  emitC2 : Nat := 512
  /-- Consecutive emission misses and the time of the last log (R383). -/
  misses : Nat := 0
  missLog : Option Nat := none
  /-- Statistics: S1, S2, minimum, maximum (R396). -/
  s1 : Int := 0
  s2 : Nat := 0
  tmin : Int := 0
  tmax : Int := 0
  deriving DecidableEq, Repr

/-! ### Echo extraction and Ringlet (chapters 08 and 09) -/

/-- One echo as extraction hands it to Ringlet (R464). Amplitude in 1/4,096. -/
structure Echo where
  range : Nat
  inten : Nat
  v : Nat
  m : Nat
  cls : Nat
  sat : Bool
  walk : Bool
  lowsnr : Bool
  digi : Bool
  deriving DecidableEq, Repr

/-- One observation (R475). -/
structure Obs where
  chan : Nat
  rangeG : Nat
  echoes : List Echo
  /-- Pulses of the code, NP + 1. -/
  np : Nat
  unm : Nat
  skipper : Bool
  extrap : Bool
  /-- AMB of the ambient rate in force at the observation (R484). -/
  amb : Nat
  /-- Serial of the header it belongs to, the index of its ring, and the RL_FRAME value of its frame. -/
  hdr : Nat
  ring : Nat
  frame : Nat
  deriving DecidableEq, Repr

/-- A header whose observations are still with Ringlet (R440 to R444). -/
structure Job where
  serial : Nat
  /-- The header word, REC_LOST apart. -/
  word : Nat
  /-- It carries ACC_RESULT. -/
  result : Bool
  /-- Channels still to read out or to classify, and the records formed. -/
  left : Nat
  records : List Nat
  lost : Bool
  deriving DecidableEq, Repr

/-- One channel of an accumulation group: its window count (R413), the slice and range the group holds (R437), whether a binned
window tripped saturation (R436), and from the group's close the frozen temperature (R429), EXTRAP, the rate of the binned
threshold (R460), the ambient verdict (R461) and AMB (R484). -/
structure GChan where
  nc : Nat := 0
  slice : Nat := 0
  range : Nat := 0
  sat : Bool := false
  tg : Int := 0
  extrap : Bool := false
  lam : Nat := 0
  amb : Bool := false
  level : Nat := 0
  /-- A window counted in n_c gives no records (R328, R383, R574). -/
  withheld : Bool := false
  deriving DecidableEq, Repr

/-- An accumulation group as extraction holds it. -/
structure ExGroup where
  code : Nat
  wclass : Nat
  chans : Nat
  column : Nat := 0
  ch : Tab GChan := []
  /-- A shot of the group added nothing (ACC_SHORT); windows overflowed or were blanked (R443). -/
  short : Bool := false
  ovf : Bool := false
  blanked : Bool := false
  /-- EMIT_TIME of the last shot that emitted, and the header word of the last shot without its flags. -/
  emit : Option Nat := none
  word : Nat := 0
  /-- Place in the order of decoding of the shot that `word` and `column` come from (R443). -/
  wordKey : Nat := 0
  frame : Nat := 0
  /-- Verdicts of the last shot: channel, policy word, saturated, peak in µV (R314). -/
  verdicts : List (Nat × Nat × Bool × Nat) := []
  closed : Bool := false
  closeAt : Nat := 0
  /-- Serial of the result header, channels still to read out, and observations that wait for a lower channel. -/
  serial : Nat := 0
  toRead : Nat := 0
  wait : List Obs := []
  deriving DecidableEq, Repr

/-- Extraction beside its objects. -/
structure Ex where
  /-- Accumulation groups by instance. -/
  groups : List (Nat × ExGroup) := []
  /-- Histogram bins: channel × 4,096 + bin (R408). -/
  bins : Tab Nat := []
  /-- Observations that Ringlet has not classified, oldest first, and the headers they belong to. -/
  obs : List Obs := []
  jobs : List Job := []
  serial : Nat := 0
  /-- Completed headers without records waiting in a shot header packet, and when the first came (R446). -/
  hdrs : List Nat := []
  hdrAt : Nat := 0
  /-- Records dropped (R52). -/
  dropped : Nat := 0
  /-- When the record buffer is empty again, in 1/16 fabric cycle (R51). -/
  bufEmpty : Nat := 0
  deriving DecidableEq, Repr

/-- An observation whose ring had not arrived, with its final entry fields (R41): serial, ring, frame, and the entry without
OSEQ, PER and CHK. -/
structure LateObs where
  serial : Nat
  ring : Nat
  word : Nat
  necho : Nat
  deriving DecidableEq, Repr

/-- Ringlet beside its objects, its rings and maps (which are GDDR7 bytes). -/
structure Rl where
  /-- Blocks in the ring cache with their places, most recently used first, and blocks requested (R485). -/
  cache : List (Nat × Nat) := []
  wanted : List Nat := []
  /-- Slots, as ring × 8 + slot, whose entries are void after poison or a cache error, and the rings poisoned (R488, R489). -/
  voided : List Nat := []
  poisonedRings : List Nat := []
  /-- Slots of cached rings whose entry stands in the cache alone, its write having gone to an OFFLINE channel, with their entries. -/
  copy : Tab (Option Nat) := []
  late : List LateObs := []
  /-- Blocks still requested when a header's first echo came, by serial: observations of their rings are late (R486). -/
  lateFor : List (Nat × List Nat) := []
  /-- Next 32nd to sweep and the frame of the last sweep (R491). -/
  sweep : Nat := 0
  sweepFrame : Option Nat := none
  /-- Device time Jacquard last reached STOPPED (R493). -/
  stopAt : Option Nat := none
  /-- Interfered windows of the present frame (R463), and the hysteresis of R467. -/
  intf : Nat := 0
  dirtyLogged : Bool := false
  /-- Who wrote the entries of the current shots or groups: serial and ring × 8 + slot (R478). -/
  mine : List (Nat × Nat) := []
  /-- Frames whose maps wait for their last observation, oldest first (R498). -/
  mapDue : List Nat := []
  deriving DecidableEq, Repr


/-! ### Digitisers, filter chains, acquisition (chapter 10) -/

/-- A change of bank of a filter chain: the index of its first output, the bank it goes to, and the length of its fade (R520, R521). -/
structure Fade where
  start : Nat := 0
  target : Nat := 0
  len : Nat := 0
  deriving DecidableEq, Repr

/-- A filter chain from one synchronisation to the next (R523): the coarse periods of its input index 0 and of its end, none while it
runs; input samples to a coarse period, log2 D and FILT_DELAY in force; and its bank at the start with the changes since, oldest
first. -/
structure Epoch where
  syncAt : Nat := 0
  stop : Option Nat := none
  rate : Nat := 1
  dm : Nat := 0
  delay : Nat := 0
  bank : Nat := 0
  fades : List Fade := []
  deriving DecidableEq, Repr

/-- The coefficients of a bank before a write, and the coarse period of the write: earlier outputs of the open windows were computed
with them (R514). -/
structure CoefPast where
  bank : Nat
  at_ : Nat
  coefs : List Int
  deriving DecidableEq, Repr

/-- A filter chain beside its objects: its epochs, newest first, as far back as a window may reach, and the coefficients that writes
during the shot in flight have replaced, oldest first. -/
structure Chain where
  eps : List Epoch := []
  past : List CoefPast := []
  deriving DecidableEq, Repr

/-- A trigger that has not been taken (R533, R534): stamp, source as in Table 10-5, and the RSEQ of its trigger record. -/
structure Trig where
  time : Nat
  src : Nat
  rseq : Nat
  deriving DecidableEq, Repr

/-- A record held in the snapshot area: RSEQ, place, length, DROP. -/
structure SnapRec where
  rseq : Nat
  slot : Nat
  len : Nat
  drop : Bool
  deriving DecidableEq, Repr

/-- Digitisers, chains and acquisition beside their objects. -/
structure Acq where
  chains : Tab Chain := []
  /-- Synchronisations that are due: the chains, one bit each, and the coarse period (R525). -/
  syncs : List (Nat × Nat) := []
  /-- Power-up of each slice (R504). -/
  wakeAt : Tab Nat := []
  /-- RSEQ of the next record, and whether a streamed record has been dropped since the last (R531, R537). -/
  rseq : Nat := 0
  gap : Bool := false
  /-- Next byte of the staging buffer. -/
  stagePtr : Nat := 0
  /-- Triggers that wait; the RSEQ and number of the last mark (R536). -/
  trigs : List Trig := []
  lastMark : Option (Nat × Nat) := none
  /-- Records held, oldest first, and records ever put into the area. -/
  held : List SnapRec := []
  count : Nat := 0
  /-- The capture under way: its trigger, records before and from the trigger record on, clips of its arming (R543). -/
  trig : Option Trig := none
  preAct : Nat := 0
  posted : Nat := 0
  preClip : Bool := false
  postClip : Bool := false
  /-- The trigger of the capture came in FILLING (R547). -/
  short : Bool := false
  deriving DecidableEq, Repr

/-! ### Calibration, Atlas, Tapestry (chapters 11 to 13) -/

/-- A pass under way (R564 to R571). -/
structure Pass where
  /-- Position under calibration: 16 the Skipper, then 0 to 15. -/
  pos : Nat := 16
  /-- Started with Jacquard STOPPED: all 17 slices at once (R567). -/
  all : Bool := false
  /-- T_g at the start, in 0.1 °C. -/
  t0 : Int := 0
  /-- How the present slice is calibrated: 0 with the Skipper's help, 1 GAP, 2 MUTE, and when its measurement began; none while
  it waits for a switch or for gaps. -/
  mode : Nat := 0
  since : Option Nat := none
  /-- GAP: time measured in chunks, in ns, and the end of the last chunk with its settling. -/
  gapNs : Nat := 0
  chunkEnd : Nat := 0
  /-- Records of the slices done, by position. -/
  recs : Tab SliceRec := []
  /-- T_pass in 0.1 °C once every slice has been measured; the pass then waits for its last channel to return (R565). -/
  tPass : Option Int := none
  deriving DecidableEq, Repr

/-- Calibration beside its objects. -/
structure Cal where
  /-- Sets by group, in element order; passes by group. -/
  sets : Tab (List CalSet) := []
  pass : Tab (Option Pass) := []
  /-- Groups with a host request, and groups due for another reason (R560). -/
  req : Nat := 0
  due : Nat := 0
  /-- The item values in force of each slice (R577), slices clamped at the edge of their span (R578). -/
  force : Tab SliceRec := []
  extrap : Nat := 0
  /-- Per slice, time of its last valid record. -/
  validAt : Tab Nat := []
  /-- Channels logged as without records (R574). -/
  noRepair : Nat := 0
  /-- Per channel, one more than the time of its last test-current check (R557). -/
  checkAt : Tab Nat := []
  /-- Digitiser slices: values that wait for a frame boundary, time of the last calibration plus one, sensor reading then,
  failures in a row. -/
  dgNew : Tab (Option (Int × Int × Int)) := []
  dgAt : Tab Nat := []
  dgTemp : Tab Int := []
  dgFails : Tab Nat := []
  /-- Bias monitors: corrections in mV and the time of the last comparison. -/
  biasCorr : Tab Int := []
  biasAt : Nat := 0
  /-- The stores: the copy retained while parked, the field slots, the factory store, and field slots that a reset cut. -/
  retained : Option CalStore := none
  slotA : Option CalStore := none
  slotB : Option CalStore := none
  factory : Option CalStore := none
  factoryLen : Nat := 0
  badSlots : Nat := 0
  /-- What the flash write under way writes; a write is wanted once the flash is free; a set or repair has changed since the
  last write, and when that was. -/
  writing : Option CalStore := none
  saveDue : Bool := false
  /-- An erase of both field slots waits for the flash (R585). -/
  eraseDue : Bool := false
  changed : Bool := false
  flashAt : Nat := 0
  deriving DecidableEq, Repr
/-- A bridge channel beside its objects (R597 to R602). -/
structure Bridge where
  /-- Failing and passing blocks in a row, and the kind of the last failing one. -/
  fails : Nat := 0
  passes : Nat := 0
  kind : Nat := 0
  /-- The declared fault, 0 none; one more than the end of the last failing block. -/
  fault : Nat := 0
  failAt : Nat := 0
  /-- Results that are still to carry STALE, the last good X, the last X of the modulator. -/
  stale : Nat := 0
  good : Int := 0
  rawX : Int := 0
  /-- The block boundary after which results come: of the last result, of the power-up, or of the next frame's start (R595 to R597). -/
  resultBlk : Nat := 0
  /-- SB_EXC and SB_PGA that the channel converts with (R591, R592, R597), and earlier SB_PGA with the instants of their ends. -/
  exc : Nat := 1
  pga : Nat := 2
  gains : List (Nat × Nat) := []
  /-- The modulator's input, signal and sense pair in nV, as a hold keeps it (R604), and its latest outputs, newest first (R594). -/
  input : Int × Int := (0, 0)
  line : List Rat := []
  /-- The angle in degrees as a binary32 word. -/
  theta : Nat := 0
  deriving DecidableEq, Repr

/-- A stage of Table 12-4: mantissas and the shared exponent (R623). -/
structure Stage where
  m : List Int := []
  e : Int := 0
  deriving DecidableEq, Repr

/-- A loop sample between its result and its report (Table 12-3): its stamp, whether its feedback is usable, the coil current in µA,
the hold that it declares with its cell (Table 12-5), and whether it counts as clean (R636). -/
structure Sample where
  time : Nat
  usable : Bool
  current : Int
  decl : Option (Nat × Nat)
  clean : Bool
  deriving DecidableEq, Repr

/-- A loop slot beside its objects. -/
structure Slot where
  /-- The seven stages of Table 12-4. 1: θ_m, θ_A, θ_B, advance. 2: r, θ_r, θ_r′, θ_r″. 3: θ̂_p, θ̂, ω̂, res. 4: e, p, i, d, state of
  dm. 5: four states, u_bq. 6: i_ff, u. 7: u after limiting. -/
  st : List Stage := [{}, {}, {}, {}, {}, {}, {}]
  /-- Targets in order of their planned times: angle in µ°, planned time in coarse periods (R617); r holds after a stop (R619). -/
  targets : List (Int × Nat) := []
  hold : Bool := false
  /-- Results of ATL_FB_A since the last sample, and one more than the time of that sample. -/
  results : Nat := 0
  sampleAt : Nat := 0
  usable : Bool := false
  /-- The ESTIMATED bit of the last report (R628). -/
  est : Bool := false
  /-- The sample that is still to be reported. -/
  due : Option Sample := none
  /-- Samples in a row that meet a test of Table 12-5, and of the last 16 samples raw X of both channels and motion. -/
  badRun : Nat := 0
  residRun : Nat := 0
  pairRun : Nat := 0
  hist : List (Int × Int × Rat) := []
  /-- The sign in which a limiter acted in the last sample (R621). -/
  limited : Int := 0
  /-- The command ramps to 0 on the way to OFF. -/
  ramp : Bool := false
  /-- Start of the present run of clean samples (R636); start of an injection. -/
  cleanAt : Option Nat := none
  injAt : Option Nat := none
  deriving DecidableEq, Repr

/-- Atlas and the sensor bridge beside their objects. -/
structure Atl where
  bridges : Tab Bridge := []
  /-- The last block boundary, and how many there have been (R593). -/
  blockAt : Nat := 0
  blocks : Nat := 0
  /-- Spans from a fire commit to SB_BLANK_NS after the emission, and the holds they make, channel, start and end (R604); in coarse
  periods. -/
  blanks : List (Nat × Nat) := []
  holds : List (Nat × Nat × Nat) := []
  slots : Tab Slot := []
  /-- Trace rings, newest sample first, and samples still to take after the trigger (R637, R638). -/
  rings : Tab (List Nat) := []
  post : Nat := 0
  /-- Photocurrent channels: last publication; in a new range that has not converted for 2 ms, the cycles converted and the start of
  the present stretch; start of SAT, those whose SAT has been logged, and those with a shot since their last publication. -/
  pdAt : Tab Nat := []
  pdStale : Tab (Option (Nat × Nat)) := []
  pdSat : Tab (Option Nat) := []
  pdLogged : Nat := 0
  pdShot : Nat := 0
  deriving DecidableEq, Repr
/-- A raster from its frame's boundary to its end (R665 to R675). -/
structure Raster where
  num : Nat
  /-- Configuration in force at the boundary: objects 5002 to 5029 and the row map. -/
  cfg : Tab Nat
  rows : Tab Byte
  /-- RL_FRAME, JQ_FRAME_NUMBER and the device time of the frame's boundary. -/
  frame : Nat
  jqFrame : Nat
  start : Nat
  /-- 0 its frame runs, 1 waits for its last record, 2 flipped, 3 scan-out, 4 trailer formed. -/
  stage : Nat := 0
  flip : Nat := 0
  scan : Nat := 0
  line : Nat := 0
  /-- Targets disabled by R655, layers that take part (R660), tag readings of R674. -/
  badTargets : Nat := 0
  layers : Nat := 0
  tagStart : List Nat := []
  tagEnd : List Nat := []
  partly : Bool := false
  late : Bool := false
  err : Bool := false
  under : Nat := 0
  placed : Nat := 0
  outside : Nat := 0
  deriving DecidableEq, Repr

/-- Tapestry beside its objects: rasters, oldest first; rasters dropped since the last one sent; the fill under way. -/
structure Tap where
  rasters : List Raster := []
  dropped : Nat := 0
  fill : Option (Nat × Nat) := none
  deriving DecidableEq, Repr

/-! ### GDDR7 memory and the fabric (chapter 15) -/

/-- A request for one 256-byte block (R772) on its way to a bank: its requester, the block, whether it writes, and whether it is
a read-modify-write (R773) whose read is still to do. `since` is its arrival at the port, and from its bank queue on its arrival
there; `promoted` stays with it (R794). -/
structure Burst where
  requester : Nat
  blk : Nat
  write : Bool
  rmw : Bool
  since : Nat
  promoted : Bool := false
  deriving DecidableEq, Repr

/-- What a requester wants at a port: its requests there, in order of issue (R776, R794, R798). -/
structure Waiter where
  port : Nat
  requester : Nat
  bursts : List Burst
  deriving DecidableEq, Repr

/-- The memory controller and the arbiter beside their objects. -/
structure Mem where
  /-- Address ranges `[lo, hi)` whose content is undefined, each with the loss that made it so (R784, Table 17-5). -/
  undef : List (Nat × Nat × Nat) := [(0, 0x200000000, 0)]
  epoch : Nat := 0
  /-- Per channel, one more than the epoch at which R767 filled it with zeros. -/
  filled : Tab Nat := []
  /-- The poison tables: the 256-byte blocks listed (R788). -/
  poison : List Nat := []
  /-- Per channel, the time of the last kind-2 error and of the last range-edge entry (Table 15-8, R765). -/
  kind2 : Tab (Option Nat) := []
  edgeAt : Tab (Option Nat) := []
  trackAt : Tab Nat := []
  /-- Start of the full training under way, and the pin rate in Mb/s that the last one set (R762). -/
  trainAt : Option Nat := none
  rate : Nat := 0
  /-- Devices that report more than 85 °C (R782). -/
  hot : Nat := 0
  /-- Last refresh per channel × 16 + bank (R781). -/
  refAt : Tab Nat := []
  /-- Trained settings in the always-on domain: devices found and density (R785). -/
  trained : Option (Nat × Nat) := none
  /-- Requests waiting at the ports, in order of arrival; owner, bursts left and start of each port's tenure. -/
  waiting : List Waiter := []
  owner : Tab (Option Nat) := []
  left : Tab Nat := []
  grantAt : Tab Nat := []
  /-- The request buffer of each port (R775), and the requesters whose own condition held at the last arbitration (R793). -/
  buffer : Tab (List Burst) := []
  own : List Nat := []
  /-- Per channel × 16 + bank: the queue (R774), one more than the open row, 0 none, and the last time the queue held a request to
  it (R780). -/
  queue : Tab (List Burst) := []
  row : Tab Nat := []
  rowUse : Tab Nat := []
  /-- Per channel: the bank pointer (R777), whether the data bus writes, and bursts since its last turn (R779). -/
  ptr : Tab Nat := []
  writes : Tab Bool := []
  turned : Tab Nat := []
  deriving DecidableEq, Repr

/-! ### Housekeeping and thermal protection (chapter 16) -/

/-- A conversion under way or about to begin. Inputs 0 to 47 are HK inputs, 0x100 + t is sensor TS_t. -/
structure Conv where
  input : Nat
  /-- Sequence entry and repeat; none for an urgent conversion. -/
  seqEnt : Option (Nat × Nat)
  /-- Source of an urgent conversion: 0 Hawkmoth, 1 thermal, 2 host. -/
  src : Nat
  start : Nat
  /-- An urgent conversion that began during a DELAY: the next repeat waits for its end (R826). -/
  inDelay : Bool := false
  deriving DecidableEq, Repr

/-- An urgent request (R822). -/
structure Urgent where
  src : Nat
  input : Nat
  deriving DecidableEq, Repr

/-- Housekeeping and thermal protection beside their objects. -/
structure Hk where
  adc0 : Option Conv := none
  adc1 : Option Conv := none
  /-- The second conversion of an interleaved repeat, while ADC_1 still runs the one before. -/
  second : Option Conv := none
  /-- Conversions of die-1 inputs that have ended and whose results are still on the die-to-die link (R806), each with its
  converter, oldest first. -/
  late : List (Nat × Conv) := []
  /-- Urgent requests, in the order of R822. -/
  urgent : List Urgent := []
  /-- Entry and repeat that start next, and when. -/
  ent : Nat := 0
  rep : Nat := 0
  due : Nat := 0
  /-- The next repeat was interrupted and waits for the urgent conversions to end (R825). -/
  again : Bool := false
  /-- The sequencer is to stop when the conversions in progress end (R820). -/
  stopping : Bool := false
  /-- Per input: consecutive results below and above the window, and whether the window has logged (R835, R836). -/
  below : Tab Nat := []
  above : Tab Nat := []
  logged : Tab Nat := []
  /-- Last 108 results of each sensor, newest first, in 0.1 °C (R841). -/
  hist : Tab (List Int) := []
  outside : Tab Nat := []
  inside : Tab Nat := []
  /-- Stages each sensor is in (Table 16-5): bit 0 WARN, bits 1 to 3 THROTTLE 1 to 3, bit 4 SHED; and the FAILED sensors. -/
  stages : Tab Nat := []
  failed : Nat := 0
  /-- Rate level of the device and the time of its last entry (R842). -/
  rate : Nat := 0
  rateLog : Option Nat := none
  /-- Next VHV check (R829) and consecutive disagreements. -/
  vhvAt : Nat := 0
  vhvBad : Nat := 0
  /-- ARMING has been entered and its VHV check is not yet requested (R829). -/
  vhvArm : Bool := false
  /-- Per sensor: one more than the millisecond of its last request (R837). -/
  rounds : Tab Nat := []
  deriving DecidableEq, Repr

/-! ### Power, clocks, reset and start-up (chapter 17) -/

/-- What the always-on domain holds the device in. -/
inductive PMode where
  /-- In reset, waiting for the rails (R858). -/
  | rails
  /-- In a clock reset, waiting for the reference (R869). -/
  | clock
  /-- Running start-up or further. -/
  | up
  /-- Parked (R895). -/
  | parked
  /-- Shut down by a temperature (R848). -/
  | shutdown
  deriving DecidableEq, Repr

/-- Power, clocks, reset and start-up beside their objects. -/
structure Pwr where
  mode : PMode := .rails
  /-- The fabric clock runs (R871). -/
  fabric : Bool := false
  /-- The start under way is a warm start; sources of a wake that came before the entry into parked mode had ended (R897). -/
  warm : Bool := false
  wakeLatched : Nat := 0
  /-- Start of the present phase, and slots of FW_LOAD tried (bit s). -/
  phaseAt : Nat := 0
  tried : Nat := 0
  /-- Device time at which fuse load began (R918). -/
  fuseAt : Nat := 0
  /-- Boot configuration entries left, and those to repeat after training (R885, R886). -/
  cfg : List Bytes := []
  retry : List Bytes := []
  /-- Boot writes held until READY, in their order (R887). -/
  heldWrites : List GopMsg := []
  /-- A software reset is due: the session that asked and when (R874). -/
  rstDue : Option (Nat × Nat) := none
  /-- End of the entry into parked mode, for the wake timer; shutdown instant. -/
  parkAt : Nat := 0
  coolAt : Nat := 0
  /-- The start of each domain's last ramp (R863). -/
  rampAt : Tab Nat := []
  /-- VHV lockout in force: 0 none, 1 under, 2 over, 3 reverse. -/
  lockout : Nat := 0
  /-- Flash operation under way: 0 none, 1 slot erase (with the slot in `flashArg`), 2 calibration write, 3 calibration erase. -/
  flashOp : Nat := 0
  flashArg : Nat := 0
  /-- The slot whose image GDDR7 holds as the retained copy (R881, R901). -/
  copy : Option Nat := none
  /-- Kind of the last reset (Table 17-5), and for a supervisor reset its cause (0 lockstep, 1 watchdog, 2 supply) and core. -/
  kind : Nat := 1
  supCause : Nat := 0
  supCore : Nat := 0
  /-- The ball PWR_EN. -/
  pwrEn : Bool := true
  deriving DecidableEq, Repr


/-! ### The device -/

/-- Everything a command may change but device time and the queue. -/
structure Dev where
  /-- Objects of the dictionary in force, by key `index × 4,096 + element`, as raw words; a value equal to its default is not
  listed. -/
  objs : Tab Nat := []
  /-- Shadows (R79) and the accepted commit that waits (R132). -/
  shadows : Tab (Option Nat) := []
  domShadows : Tab (Option Bytes) := []
  commit : Option Commit := none
  /-- Bytes of DOM objects, by key and offset. -/
  doms : Tab Byte := []
  /-- GDDR7 bytes that are not zero, and QSPI flash bytes that are not 0xFF. -/
  gddr : Tab Byte := []
  flash : Tab Byte := []
  /-- The next free value (values the spec leaves open are `Config.free` of this counter). -/
  free : Nat := 0
  /-- What left the package in the last command. -/
  sent : List Out := []
  ses : List Ses := [{}, {}, {}, {}, {}]
  subs : List Sub := []
  lock : Lock := {}
  flt : Flt := {}
  link : Link := {}
  jq : Jq := {}
  em : Em := {}
  hm : Hm := {}
  rx : Rx := {}
  tdc : Tdc := {}
  ex : Ex := {}
  rl : Rl := {}
  acq : Acq := {}
  cal : Cal := {}
  atl : Atl := {}
  tap : Tap := {}
  mem : Mem := {}
  hk : Hk := {}
  pwr : Pwr := {}
  deriving DecidableEq, Repr

/-- The block: the part, device time, the commands that wait, and the device. -/
structure State where
  part : Part
  clock : Clock
  /-- Waiting commands, first in, first out. -/
  pending : List Instr
  dev : Dev
  deriving DecidableEq, Repr

/-- Why the machine may stop with a fault. No command of this block stops it: every row has an effect in the spec. -/
inductive Fault where
  /-- Raised by no command; safe. -/
  | none
  deriving DecidableEq, Repr

/-- Why a command may have no meaning. -/
inductive Refusal where
  /-- The command whose row has this mnemonic has no meaning in the model yet. Raised by `exec`; safe. -/
  | notModelled (mnemonic : String)
  deriving DecidableEq, Repr

/-- The identity of the part the model starts from (Table 17-11; lot, wafer and position are DESIGN CHOICE, assumption 2). -/
def partAtReset : Part :=
  { variant := .jg5124, fuse := [0x0A7C, 0x5124, 0x24, 0x4231, 0x41414141, 0x41414141, 1, 0],
    fitted := 2, density := 1, ioMv := 3300, refSrc := 0 }

/-- The block right after the power-on reset has been released (R53, R872, Table 17-5): device time 0, every object at its
default, nothing waiting. -/
def State.reset : State := { part := partAtReset, clock := { time := 0, frac := 0 }, pending := [], dev := {} }

end Sys2Proof.Machine
end

