-- ==== Sys2Proof/Machine/Objects.lean ====
section
/-! DEFINITION. The values of objects: widths, defaults that differ between elements, reading and writing one element in force,
counters, bytes of DOM objects, and which objects exist on the part (chapters 00 and 02). -/

namespace Sys2Proof.Machine

/-- The width of an element in bytes (Table 00-6); STR and DOM have none. -/
def OTy.bytes : OTy → Nat
  | .bool => 1
  | .u8 => 1
  | .enum8 => 1
  | .u16 => 2
  | .s16 => 2
  | .q15 => 2
  | .u32 => 4
  | .s32 => 4
  | .bits32 => 4
  | .f32 => 4
  | .u64 => 8
  | .str => 0
  | .dom => 0

/-- The key of an element in the object store (R20: a 16-bit index and a 12-bit element). -/
def okey (idx el : Nat) : Nat := idx * 4096 + el

/-! ### Defaults -/

/-- The default pulse codes (Table 04-2): pulses, OFF_2 and OFF_3; every width is 12 periods. -/
def codeTable : List (Nat × Nat × Nat) :=
  [(1, 0, 0), (3, 24, 60), (3, 30, 105), (3, 36, 126), (3, 42, 87), (3, 48, 150), (3, 54, 99), (3, 66, 141),
   (3, 72, 117), (3, 78, 168), (3, 84, 132), (3, 90, 156), (3, 96, 144), (3, 102, 165), (3, 108, 162), (3, 114, 159)]

/-- The EM_CODE word of a row of Table 04-2 in the layout of Table 04-1. -/
def codeWord (r : Nat × Nat × Nat) : Nat :=
  if r.1 == 1 then 12 <<< 2 else 2 + (12 <<< 2) + (12 <<< 7) + (12 <<< 12) + (r.2.1 <<< 22) + (r.2.2 <<< 30)

/-- The default windows of the housekeeping inputs in mV (Table 16-1); HK_36 for a strapped IO voltage of 3.3 V. -/
def hkWindow (i : Nat) : Option (Nat × Nat) :=
  if i == 32 || i == 44 then some (700, 800)
  else if i == 33 || i == 45 then some (1710, 1890)
  else if i == 34 || i == 36 || i == 37 then some (3135, 3465)
  else if i == 35 then some (1140, 1260)
  else if i == 38 then some (9000, 60000)
  else if i == 39 then some (4750, 5250)
  else if i == 42 then some (1188, 1212)
  else if i == 43 then some (0, 10)
  else if i == 47 then some (1245, 1255)
  else none

/-- The default of an element: its row's, or where the spec gives elements defaults of their own, that one. -/
def dflt (idx el : Nat) : Nat :=
  if idx == O.EM_CODE then codeWord ((codeTable[el]?).getD (1, 0, 0))
  else if idx == O.EX_TOT_AMP then 256 * (el % 64)
  else if idx == O.EX_INT_COEF then (if el == 1 then 0x41000000 else 0)
  else if idx == O.RX_SLICE_OF then el
  else if idx == O.CAL_GROUP_TS then 3 * el / 8
  else if idx == O.SB_LIN_COEF then (if el % 18 == 6 then 0x3F800000 else 0)
  else if idx == O.ATL_FB_A then 2 * el
  else if idx == O.ATL_BIQUAD then (if el % 5 == 0 then 0x3F800000 else 0)
  else if idx == O.CAN_GOP_BASE_ID then 0x640 + 16 * el
  else if idx == O.FILT_COEF then (if el % 32 == 0 then 32767 else 0)
  else if idx == O.HK_LIM_LO then
    (match hkWindow el with
     | some w => f32Of ((w.1 : Rat) / 1000)
     | none => 0xCE6E6B28)
  else if idx == O.HK_LIM_HI then
    (match hkWindow el with
     | some w => f32Of ((w.2 : Rat) / 1000)
     | none => 0x4E6E6B28)
  else if idx == O.HK_LIM_N then (if (hkWindow el).isSome then 4 else 0)
  else if idx == O.THM_WARN_T then (if el < 12 then 1150 else 1300)
  else if idx == O.THM_THR1_T then (if el < 12 then 1180 else 1350)
  else if idx == O.THM_THR2_T then (if el < 12 then 1220 else 1400)
  else if idx == O.THM_THR3_T then (if el < 12 then 1250 else 1450)
  else if idx == O.THM_SHED_T then (if el < 12 then 1350 else 1550)
  else
    match rowOf? idx with
    | some r => r.dflt
    | none => 0

/-! ### Elements in force -/

/-- The value in force of an element, as a raw word. -/
def Dev.o (d : Dev) (idx : Nat) (el : Nat := 0) : Nat := tget (dflt idx el) d.objs (okey idx el)

/-- Whether a BOOL or a one-bit element is set. -/
def Dev.ob (d : Dev) (idx : Nat) (el : Nat := 0) : Bool := d.o idx el != 0

/-- The device with the value in force of an element changed. -/
def Dev.so (d : Dev) (idx el v : Nat) : Dev := { d with objs := tset (dflt idx el) d.objs (okey idx el) v }

/-- A 16-bit two's complement element. -/
def Dev.os16 (d : Dev) (idx : Nat) (el : Nat := 0) : Int := toS 16 (d.o idx el)

/-- A 32-bit two's complement element. -/
def Dev.os32 (d : Dev) (idx : Nat) (el : Nat := 0) : Int := toS 32 (d.o idx el)

/-- An F32 element as the number it stands for. -/
def Dev.of32 (d : Dev) (idx : Nat) (el : Nat := 0) : Rat := f32Val (d.o idx el)

/-- The width of a counter in bits: MEM_ARB_GRANTS and MEM_ARB_WAIT count in 48 bits (R801). -/
def ctrBits (r : ObjRow) : Nat :=
  if r.idx == O.MEM_ARB_GRANTS || r.idx == O.MEM_ARB_WAIT then 48 else 8 * r.ty.bytes

/-- A counter raised by `n`: it wraps where its row says so; past the width of any other counter its value is open. -/
def ctrAdd (idx el v n : Nat) : Nat :=
  match rowOf? idx with
  | some r =>
    let m := 2 ^ ctrBits r
    if v + n < m then v + n else if r.wrap then (v + n) % m else Config.ctrOverflow idx el (v + n) % m
  | none => v + n

/-- The device with a counter raised. -/
def Dev.inc (d : Dev) (idx : Nat) (el : Nat := 0) (n : Nat := 1) : Dev := d.so idx el (ctrAdd idx el (d.o idx el) n)

/-- The device with several elements set. -/
def Dev.sos (d : Dev) (l : List (Nat × Nat × Nat)) : Dev := l.foldl (fun d p => d.so p.1 p.2.1 p.2.2) d

/-- An open value of `n` bits, and the device that has used it up. -/
def Dev.freeVal (d : Dev) (n : Nat) : Nat × Dev := (Config.free d.free % 2 ^ n, { d with free := d.free + 1 })

/-! ### Bytes of DOM objects -/

/-- The key of a byte of a DOM object. -/
def dkey (idx el off : Nat) : Nat := okey idx el * 0x2000000 + off

/-- The default of a byte of a DOM object: the identity maps of R221 and R648, the default sequence of chapter 16, else 0. -/
def domDflt (idx off : Nat) : Byte :=
  if idx == O.EM_ZONE_MAP then BitVec.ofNat 8 off
  else if idx == O.TAP_ROW_MAP then BitVec.ofNat 8 (if off % 2 == 0 then off / 2 % 256 else off / 2 / 256)
  else if idx == O.HK_SEQ then
    (if off < 192 then
       (if off % 8 == 7 then BitVec.ofNat 8 ((24 + off / 8) * 4)
        else if off % 8 == 5 then BitVec.ofNat 8 (4996 / 256)
        else if off % 8 == 4 then BitVec.ofNat 8 (4996 % 256)
        else if off % 8 == 0 then 1 else 0)
     else 0)
  else 0

/-- A byte of a DOM object. -/
def Dev.domByte (d : Dev) (idx el off : Nat) : Byte := tget (domDflt idx off) d.doms (dkey idx el off)

/-- `n` bytes of a DOM object from byte `off` on. -/
def Dev.domBytes (d : Dev) (idx el off n : Nat) : Bytes := (List.range n).map (fun i => d.domByte idx el (off + i))

/-- The number that `n` bytes of a DOM object hold. -/
def Dev.domNat (d : Dev) (idx el off n : Nat) : Nat := leNat (d.domBytes idx el off n)

/-- The device with bytes of a DOM object written. -/
def Dev.setDom (d : Dev) (idx el off : Nat) : Bytes → Dev
  | [] => d
  | b :: bs =>
    { d with doms := tset (domDflt idx off) (d.setDom idx el (off + 1) bs).doms (dkey idx el off) b }

/-- The device with every byte of a DOM object back at its default. -/
def Dev.clearDom (d : Dev) (idx el : Nat) : Dev := { d with doms := tdrop d.doms (dkey idx el 0) 0x2000000 }

/-! ### The part -/

/-- Receive groups present (Table 00-1). -/
def Env.groups (e : Env) : Nat := if e.part.variant = .jg5122 then 16 else 32

/-- Logical receive channels present. -/
def Env.channels (e : Env) : Nat := 16 * e.groups

/-- Digitiser slices present. -/
def Env.digis (e : Env) : Nat :=
  match e.part.variant with
  | .jg5124 => 32
  | .jg5122 => 16
  | .jg5120 => 0

/-- Atlas loop slots present. -/
def Env.slots (e : Env) : Nat := if e.part.variant = .jg5122 then 2 else 4

/-- Whether the variant has the units that only the JG5120 lacks: digitisers, Tapestry and Twill. -/
def Env.full (e : Env) : Bool := e.part.variant != .jg5120

/-- GDDR7 device positions supported. -/
def Env.memMax (e : Env) : Nat := if e.part.variant = .jg5122 then 1 else 2

/-- Bias outputs present. -/
def Env.biases (e : Env) : Nat := if e.part.variant = .jg5122 then 4 else 8

/-- Whether a physical slice is present (R25, Table 00-4). -/
def Env.slicePresent (e : Env) (s : Nat) : Bool := if s < 512 then s < e.channels else s < 512 + e.groups

/-- The part's name (Table 17-12). -/
def partName (v : Variant) : List Nat :=
  match v with
  | .jg5124 => [74, 71, 53, 49, 50, 52]
  | .jg5122 => [74, 71, 53, 49, 50, 50]
  | .jg5120 => [74, 71, 53, 49, 50, 48]

/-! ### Presence -/

/-- What an access finds at an index and element. -/
inductive Pres where
  | ok | notDefined | unitAbsent | notReady
  deriving DecidableEq, Repr

/-- Whether an element belongs to the row. -/
def ObjRow.has (r : ObjRow) (el : Nat) : Bool := r.els.any (fun p => p.1 ≤ el && el ≤ p.2)

/-- Objects that depend on the number of GDDR7 devices (R16, R803). -/
def needsFit (idx : Nat) : Bool :=
  [O.MEM_DENSITY, O.MEM_CAPACITY, O.MEM_RETAINED_TOP, O.MEM_BANK_MASK, O.MEM_ACQ_SNAP_BASE, O.MEM_ACQ_STREAM_BASE,
   O.TAP_POOL_HANDLES, O.ACQ_SNAP_MIB, O.ACQ_CAPACITY, O.MEM_PEEK].contains idx || (0x5820 ≤ idx && idx ≤ 0x5832)

/-- Elements that the JG5122 lacks (Table 00-4): the upper half of every per-channel, per-slice, per-group and per-digitiser
object, of the bias outputs, the memory channels and the Atlas slots. -/
def absent5122 (r : ObjRow) (el : Nat) : Bool :=
  let i := r.idx
  if r.els == [(0, 511)] then 256 ≤ el
  else if r.els == [(0, 543)] then (256 ≤ el && el < 512) || 528 ≤ el
  else if r.els == [(0, 31)] then 16 ≤ el
  else if i == O.CAL_SET_TEMP || i == O.CAL_SET_SOURCE then 128 ≤ el
  else if i == O.FILT_COEF then 1024 ≤ el
  else if i == O.DG_PAIR_MODE || i == O.DG_PAIR_RES then 8 ≤ el
  else if (O.RX_BIAS_ENABLE ≤ i && i ≤ O.RX_BIAS_STATUS) || i == O.CAL_BIAS_ERR then 4 ≤ el
  else if 0x5820 ≤ i && i ≤ 0x5832 then 4 ≤ el
  else if i == O.ATL_BIQUAD then 20 ≤ el
  else if i / 256 == 0x49 && r.els == [(0, 3)] then 2 ≤ el
  else false

/-- Objects that the JG5120 lacks (Table 00-4). -/
def absent5120 (idx : Nat) : Bool :=
  (0x4000 ≤ idx && idx < 0x4400) || (0x5000 ≤ idx && idx < 0x5400) || (O.TW_ENABLE ≤ idx && idx ≤ O.TW_CHECK_FAIL) ||
    [O.RX_TAP_SRC, O.TDC_RAW_TAP, O.EX_FUSE_DIGI, O.CAL_DG_DT, O.CAL_DG_AGE].contains idx || idx == O.MEM_ACQ_SNAP_BASE || idx == O.MEM_ACQ_STREAM_BASE

/-- Elements of the Twill modules among Hawkmoth's objects (Table 05-5). -/
def moduleSet (idx el : Nat) : Bool :=
  (idx == O.HM_BUCKET_LEVEL || idx == O.HM_BUCKET_PEAK || idx == O.HM_WEIGHT || idx == O.HM_ZONE_REFUSED) && 128 ≤ el % 256

/-- What an access to an element finds (R10, R11, R15, R16, R85). -/
def Dev.pres (e : Env) (d : Dev) (idx el : Nat) : Pres :=
  match rowOf? idx with
  | none => .notDefined
  | some r =>
    if !r.has el then .notDefined
    else if e.part.variant = .jg5120 ∧ absent5120 idx then .unitAbsent
    else if e.part.variant = .jg5120 ∧ moduleSet idx el then .unitAbsent
    else if e.part.variant = .jg5122 ∧ absent5122 r el then .unitAbsent
    else if needsFit idx && d.o O.CAP_GDDR7_FOUND == 0 then .notReady
    else if 0x5820 ≤ idx && idx ≤ 0x5832 && 4 ≤ el && d.o O.CAP_GDDR7_FOUND == 1 then .unitAbsent
    else .ok

end Sys2Proof.Machine
end

