-- ==== Sys2Proof/Machine/Memory0.lean ====
section
/-! DEFINITION. GDDR7 as the requesters see it: the map (Tables 15-6 and 15-7), the split of an address into channel, row and
bank (Tables 15-3 to 15-5), reads and writes of bytes with the poison table, OFFLINE channels and traffic counters. -/

namespace Sys2Proof.Machine

/-- Devices found by training, 0 before it ends. -/
def Dev.found (d : Dev) : Nat := d.o O.CAP_GDDR7_FOUND

/-- Capacity in bytes (Table 15-7): 2 GiB or 3 GiB a device. -/
def capacityOf (found density : Nat) : Nat :=
  if density == 1 then found * 0x80000000 else if density == 2 then found * 0xC0000000 else 0

/-- Capacity in force. -/
def Dev.capacity (d : Dev) : Nat := d.o O.MEM_CAPACITY

/-- The size of the Tapestry pool, P of Table 15-6. -/
def poolSize (found cap : Nat) : Nat := cap - 384 * 0x100000 - 1024 * found * 0x100000

/-- Region bases of Table 15-6. -/
def fwCopyBase : Nat := 0
def calCacheBase : Nat := 0x1000000
def mirrorBase : Nat := 0x1100000
def warmBase : Nat := 0x1110000
def ringBase : Nat := 0x2000000
def ringSize : Nat := 0x4000000
def mapBase : Nat := 0x6000000
def mapSize : Nat := 0x300000
def poolBase : Nat := 0x8000000

/-- Base of the snapshot area. -/
def Dev.snapBase (d : Dev) : Nat := poolBase + poolSize d.found d.capacity

/-- Base of the stream staging. -/
def Dev.stageBase (d : Dev) : Nat := d.capacity - 0x10000000

/-- The channel of an address: the 256-byte interleave of Tables 15-3 and 15-4. -/
def Dev.chanOf (d : Dev) (a : Nat) : Nat := if d.found == 2 then bits a 8 3 else bits a 8 2

/-- The row of an address. -/
def Dev.rowAt (d : Dev) (a : Nat) : Nat := if d.found == 2 then bits a 18 15 else bits a 17 16

/-- The parity of a word. -/
def parity (w : Nat) : Nat := popcount 64 w % 2

/-- The mask of bank bit `i` (Table 15-5). -/
def bankMask (found i : Nat) : Nat := if found == 2 then 0x444000 <<< i else 0x222000 <<< i

/-- The bank of an address (R769). -/
def Dev.bankOf (d : Dev) (a : Nat) : Nat :=
  (List.range 4).foldl (fun b i => b + (parity (a &&& bankMask d.found i) <<< i)) 0

/-- The port that serves a channel (R758). -/
def Dev.portOf (d : Dev) (ch : Nat) : Nat := if d.found == 2 then ch / 2 else ch

/-- Address intervals without `[lo, hi)`. -/
def cutOut (l : List (Nat × Nat × Nat)) (lo hi : Nat) : List (Nat × Nat × Nat) :=
  l.flatMap (fun p =>
    (if p.1 < min p.2.1 lo then [(p.1, min p.2.1 lo, p.2.2)] else []) ++
    (if max p.1 hi < p.2.1 then [(max p.1 hi, p.2.1, p.2.2)] else []))

/-- The byte that GDDR7 holds at an address: listed, undefined, or zero. A channel that R767 has filled holds zeros. -/
def Dev.gByte (d : Dev) (a : Nat) : Byte :=
  match d.mem.undef.find? (fun p => p.1 ≤ a && a < p.2.1) with
  | some p => if p.2.2 < tget 0 d.mem.filled (d.chanOf a) then tget 0 d.gddr a else Config.undefByte p.2.2 a
  | none => tget 0 d.gddr a

/-- GDDR7 in its one canonical form: addresses rise and no listed byte is zero, what an unlisted address reads as. -/
def Memory.wf (m : Tab Byte) : Bool := twf 0 m

/-- A byte put into GDDR7. -/
def Dev.gSet (d : Dev) (a : Nat) (b : Byte) : Dev :=
  { d with gddr := tset 0 d.gddr a b, mem := { d.mem with undef := cutOut d.mem.undef a (a + 1) } }

/-- Bytes put into GDDR7 from an address on. -/
def gPut (m : Tab Byte) (a : Nat) : Bytes → Tab Byte
  | [] => m
  | b :: bs => tset 0 (gPut m (a + 1) bs) a b

/-- An address range zeroed. -/
def Dev.gZero (d : Dev) (a n : Nat) : Dev :=
  { d with gddr := tdrop d.gddr a n, mem := { d.mem with undef := cutOut d.mem.undef a (a + n) } }

/-- The content of an address range lost: undefined from now on (R784, Table 17-5). -/
def Dev.gLose (d : Dev) (lo hi : Nat) : Dev :=
  { d with gddr := tdrop d.gddr lo (hi - lo),
           mem := { d.mem with epoch := d.mem.epoch + 1,
                               undef := (lo, hi, d.mem.epoch + 1) :: cutOut d.mem.undef lo hi } }

/-- The 256-byte blocks that `n` bytes from `a` touch. -/
def blocksOf (a n : Nat) : List Nat :=
  if n == 0 then [] else (List.range ((a + n - 1) / 256 - a / 256 + 1)).map (fun i => a / 256 + i)

/-- Bytes of an access within one block, in whole 32-byte atoms (R772). -/
def atomBytes (a n blk : Nat) : Nat :=
  let lo := max a (blk * 256)
  let hi := min (a + n) (blk * 256 + 256)
  ((hi + 31) / 32 - lo / 32) * 32

/-- Whether a channel is OFFLINE. -/
def Dev.chOffline (d : Dev) (ch : Nat) : Bool := d.o O.MEM_CH_STATE ch == 3

/-- Whether a block answers a read with poison: the channel is OFFLINE or the block is listed (R788, R789). -/
def Dev.blkPoison (d : Dev) (blk : Nat) : Bool := d.chOffline (d.chanOf (blk * 256)) || d.mem.poison.contains blk

/-- An entry of the memory log (R790): kind, address, requester, repeats. -/
def Dev.memLog (e : Env) (d : Dev) (kind addr req reps : Nat) : Dev :=
  let n := d.o O.MEM_ERR_COUNT
  let bs := leBytes 8 e.now ++ leBytes 8 addr ++ leBytes 1 kind ++ leBytes 1 (d.chanOf addr) ++ leBytes 1 (d.bankOf addr) ++
    leBytes 1 req ++ leBytes 1 reps ++ zeros 3 ++ leBytes 4 (d.rowAt addr) ++ zeros 4
  (d.setDom O.MEM_ERR_LOG 0 (n % 32 * 32) bs).inc O.MEM_ERR_COUNT

/-- A read's traffic in one block: bytes counted, and the poisoned response (R787). -/
def Dev.rdCount (d : Dev) (a n blk : Nat) : Dev :=
  let ch := d.chanOf (blk * 256)
  let d := d.inc O.MEM_CH_RD_BYTES ch (atomBytes a n blk)
  if d.blkPoison blk then d.inc O.MEM_CH_POISON ch else d

/-- A request that a requester makes at a port joins those it already waits for, in order of issue (R776, R795). -/
def burstIns (port : Nat) (b : Burst) : List Waiter → List Waiter
  | [] => [{ port := port, requester := b.requester, bursts := [b] }]
  | w :: l =>
    if w.port == port && w.requester == b.requester then { w with bursts := w.bursts ++ [b] } :: l else w :: burstIns port b l

/-- Whether a write of one block is a read-modify-write: how many of its atoms it covers in part (R773). -/
def partAtoms (a n blk : Nat) : Nat :=
  let lo := max a (blk * 256)
  let hi := min (a + n) (blk * 256 + 256)
  if lo / 32 == (hi - 1) / 32 then (if lo % 32 == 0 && hi % 32 == 0 then 0 else 1)
  else (if lo % 32 == 0 then 0 else 1) + (if hi % 32 == 0 then 0 else 1)

/-- The requests of an access arrive at their ports, one for each block (R772). What an access reads and writes takes effect in
the order of the commands (log entry 104); its way through the arbiter and the bank queues follows in ARB_HANDOVER and in the
clock's steps. -/
def Dev.arrive (e : Env) (d : Dev) (req a n : Nat) (write : Bool) : Dev :=
  { d with mem := { d.mem with waiting := (blocksOf a n).foldl (fun l b =>
      burstIns (d.portOf (d.chanOf (b * 256)))
        { requester := req, blk := b, write := write, rmw := write && 0 < partAtoms a n b, since := e.now } l) d.mem.waiting } }

/-- `n` bytes read from GDDR7 at `a` by a requester: the bytes, none where any block answered with poison. -/
def Dev.memRd (e : Env) (d : Dev) (req a n : Nat) : Option Bytes × Dev :=
  if d.capacity < a + n then (none, d.memLog e 5 a req 0)
  else
    let bad := (blocksOf a n).any d.blkPoison
    let d' := (blocksOf a n).foldl (fun d b => d.rdCount a n b) d
    (if bad then none else some ((List.range n).map (fun i => d.gByte (a + i))), d'.arrive e req a n false)

/-- A write's traffic in one block, and the block's leaving the poison table when all of it is written (R788). -/
def Dev.wrCount (d : Dev) (a n blk : Nat) : Dev :=
  let ch := d.chanOf (blk * 256)
  let d := (d.inc O.MEM_CH_WR_BYTES ch (atomBytes a n blk)).inc O.MEM_CH_RMW ch (partAtoms a n blk)
  if a ≤ blk * 256 && blk * 256 + 256 ≤ a + n && d.mem.poison.contains blk then
    ({ d with mem := { d.mem with poison := d.mem.poison.erase blk } }).so O.MEM_CH_POISON_BLOCKS ch
      (d.o O.MEM_CH_POISON_BLOCKS ch - 1)
  else d

/-- The bytes of a write that reach their cells: an OFFLINE channel discards its own (R789). -/
def Dev.gWrite (d : Dev) (a : Nat) : Bytes → Dev
  | [] => d
  | b :: bs =>
    let d := d.gWrite (a + 1) bs
    if d.chOffline (d.chanOf a) then d else d.gSet a b

/-- Bytes written to GDDR7 at `a` by a requester. -/
def Dev.memWr (e : Env) (d : Dev) (req a : Nat) (bs : Bytes) : Dev :=
  if d.capacity < a + bs.length then d.memLog e 5 a req 0
  else ((blocksOf a bs.length).foldl (fun d b => d.wrCount a bs.length b) (d.gWrite a bs)).arrive e req a bs.length true

end Sys2Proof.Machine
end

