-- ==== Sys2Proof/Machine/Faults.lean ====
section
/-! DEFINITION. The fault log: location codes (R63 to R66), delivery to the logger, batches and their order (R909), slots and
sequence numbers (R911), repeats (R908), acknowledgement (R913), clearing (R915) and the mirror (R919 to R921). -/

namespace Sys2Proof.Machine

/-- A location code (Table 01-7). -/
def locCode (die sub grp tile slice cell : Nat) : Nat :=
  (die <<< 30) + (sub <<< 25) + (grp <<< 19) + (tile <<< 13) + (slice <<< 6) + cell

/-- A location on die 0 of which only the subsystem, group and cell apply. -/
def locG (sub grp cell : Nat) : Nat := locCode 0 sub grp 63 127 cell

/-- The location of subsystem 14 that names nothing else (Table 18-4). -/
def loc14 (cell : Nat) : Nat := locG 14 63 cell

/-- The source rank of an entry (R60, R909), 0 highest. -/
def rankOf (en : Entry) : Nat :=
  let s := bits en.loc 25 5
  if s == 3 then 0
  else if s == 14 then (if 0x0E00 ≤ en.code && en.code ≤ 0x0E05 then 1 else 10)
  else if s == 10 then 2
  else if s == 1 || s == 2 then 3
  else if s == 4 || s == 5 || s == 8 || s == 9 then 4
  else if s == 6 then 5
  else if s == 7 then 6
  else if s == 11 then 7
  else if s == 12 then 8
  else 9

/-- A fault delivered to the logger (R903): held, or lost when 64 entries wait (R912). -/
def Dev.deliver (d : Dev) (en : Entry) : Dev :=
  if 64 ≤ d.flt.held.length then d.inc O.FLT_LOST else { d with flt := { d.flt with held := d.flt.held ++ [en] } }

/-- A fault with code, location, class and detail, stamped now. -/
def Dev.log (e : Env) (d : Dev) (code loc cls : Nat) (detail : Nat := 0) (inj : Bool := false) : Dev :=
  d.deliver { time := e.now, loc := loc, code := code, cls := cls, injected := inj, detail := detail, reps := 0 }

/-! ### Slots -/

/-- The 32 bytes of an entry (Table 18-3). -/
def entryBytes (en : Entry) (seq : Nat) (conc : Bool) : Bytes :=
  leBytes 8 en.time ++ leBytes 4 en.loc ++ leBytes 2 en.code ++ leBytes 1 en.cls ++ zeros 1 ++ leBytes 4 seq ++
    leBytes 1 (b2n en.injected + 2 * b2n conc) ++ zeros 1 ++ leBytes 2 en.reps ++ leBytes 8 en.detail

/-- Whether a slot holds an entry: no code of Table 18-4 is 0. -/
def Dev.slotUsed (d : Dev) (n : Nat) : Bool := d.domNat O.FLT_LOG 0 (32 * n + 12) 2 != 0

/-- Whether a SEQ lies above the highest acknowledged one; none lies below 0 (R913). -/
def Dev.seqAbove (d : Dev) (seq : Nat) : Bool :=
  d.o O.FLT_ACKED_SEQ == 0xFFFFFFFF || d.o O.FLT_ACKED_SEQ < seq

/-- The concurrency window in fabric cycles: 12, and one tick of the slow clock in parked mode, by which stamps rise there by
45,776 or 45,777 (R55, R59, R60, R62). -/
def Dev.concWindow (d : Dev) : Nat := if d.pwr.mode = .parked then 45777 else 12

/-- Whether two stamps lie within the concurrency window. -/
def Dev.concurrent (d : Dev) (a b : Nat) : Bool := a ≤ b + d.concWindow && b ≤ a + d.concWindow

/-- One entry written to its slot (R911, R912, R916). -/
def Dev.writeEntry (d : Dev) (en : Entry) : Dev :=
  let n := d.flt.next
  if n == 0xFFFFFFFF then d.inc O.FLT_LOST
  else
    let slot := n % 256
    let d := if d.slotUsed slot && d.seqAbove (d.domNat O.FLT_LOG 0 (32 * slot + 16) 4) then d.inc O.FLT_LOST else d
    let conc := match d.flt.lastTime with
      | some t => d.concurrent t en.time
      | none => false
    let bs := entryBytes en n conc
    let d := d.setDom O.FLT_LOG 0 (32 * slot) bs
    let d := (d.so O.FLT_NEWEST_SEQ 0 n).inc O.FLT_CLASS_COUNT en.cls
    let d := if 3 ≤ en.cls && d.flt.unacked == [] then d.setDom O.FLT_FIRST 0 0 bs else d
    { d with flt := { d.flt with next := n + 1, lastTime := some en.time,
                                 unacked := if 3 ≤ en.cls then d.flt.unacked ++ [n] else d.flt.unacked } }

/-! ### The mirror -/

/-- The bytes of ID_FUSE in element order. -/
def fuseBytes (p : Part) : Bytes := p.fuse.flatMap (leBytes 4)

/-- The header of the mirror without its check (R920). -/
def Dev.mirrorHead (d : Dev) : Bytes :=
  leBytes 4 0x4D4C4C46 ++ leBytes 4 (d.o O.FLT_NEWEST_SEQ) ++ leBytes 4 (d.o O.FLT_ACKED_SEQ) ++ leBytes 4 (d.o O.FLT_LOST) ++
    zeros 44

/-- The log copied into the mirror region through requester FLOG once memory is trained (R919, R920). -/
def Dev.mirror (e : Env) (d : Dev) : Dev :=
  if d.found == 0 then d
  else
    let h := d.mirrorHead
    let s := d.domBytes O.FLT_LOG 0 0 8192
    d.memWr e 10 mirrorBase (h ++ leBytes 4 (crc32 (h ++ s ++ fuseBytes e.part)) ++ s)

/-- The log restored from the mirror on a warm start (R921): whether magic and check match, and the restored device. -/
def Dev.mirrorRestore (e : Env) (d : Dev) : Dev :=
  let r := d.memRd e 10 mirrorBase 8256
  let bad := (r.2.so O.FLT_MIRROR_STATE 0 3).log e 0x0E1C (loc14 28) 0
  match r.1 with
  | none => bad
  | some bs =>
    if fieldAt bs 0 4 == 0x4D4C4C46 &&
        fieldAt bs 60 4 == crc32 (bs.take 60 ++ bs.drop 64 ++ fuseBytes e.part) then
      let d := (r.2.setDom O.FLT_LOG 0 0 (bs.drop 64)).sos
        [(O.FLT_NEWEST_SEQ, 0, fieldAt bs 4 4), (O.FLT_ACKED_SEQ, 0, fieldAt bs 8 4), (O.FLT_LOST, 0, fieldAt bs 12 4),
         (O.FLT_MIRROR_STATE, 0, 2)]
      let newest := fieldAt bs 4 4
      let acked := fieldAt bs 8 4
      let seqs := (List.range 256).filterMap (fun n =>
        let s := d.domNat O.FLT_LOG 0 (32 * n + 16) 4
        if d.slotUsed n && 3 ≤ d.domNat O.FLT_LOG 0 (32 * n + 14) 1 && (acked == 0xFFFFFFFF || acked < s) then some s else none)
      { d with flt := { d.flt with next := if newest == 0xFFFFFFFF then 0 else newest + 1, unacked := seqs } }
    else bad

/-! ### Batches -/

/-- An entry put into a list in order of rank, behind those of its own rank. -/
def rankIns (en : Entry) : List Entry → List Entry
  | [] => [en]
  | x :: xs => if rankOf en < rankOf x then en :: x :: xs else x :: rankIns en xs

/-- The entries in order of rank, entries of one source in their own order (R60, R61). -/
def rankSort (l : List Entry) : List Entry := l.foldl (fun acc en => rankIns en acc) []

/-- The stamp of the oldest held entry. -/
def oldest (l : List Entry) : Option Nat :=
  l.foldl (fun m en => match m with
    | none => some en.time
    | some t => some (min t en.time)) none

/-- A batch: the oldest held entry, stamped at `t`, and every entry stamped at most 12 cycles after it, in parked mode one slow tick
(R62), are written in rank order (R909). -/
def Dev.writeBatch (d : Dev) (t : Nat) : Dev :=
  let w := d.concWindow
  let b := d.flt.held.filter (fun en => en.time ≤ t + w)
  let d := { d with flt := { d.flt with held := d.flt.held.filter (fun en => t + w < en.time) } }
  (rankSort b).foldl Dev.writeEntry d

/-- FAULT_LOG_BATCH_WRITE (R909): when the hold of the oldest entry has ended, its batch is written, and the mirror follows. -/
def Dev.batch (e : Env) (d : Dev) : Dev :=
  match oldest d.flt.held with
  | none => d
  | some t => if e.now < t + 256 then d else (d.writeBatch t).mirror e

/-- Every held entry written, batch after batch. -/
def Dev.flushLog (d : Dev) : Dev :=
  (List.range d.flt.held.length).foldl (fun d _ => match oldest d.flt.held with
    | none => d
    | some t => d.writeBatch t) d

/-! ### Repeats, acknowledgement, clearing -/

/-- The slot of the newest entry with a code and location. -/
def Dev.newestOf (d : Dev) (code loc : Nat) : Option Nat :=
  ((List.range 256).foldl (fun (m : Option (Nat × Nat)) n =>
    if d.domNat O.FLT_LOG 0 (32 * n + 12) 2 == code && d.domNat O.FLT_LOG 0 (32 * n + 8) 4 == loc then
      let s := d.domNat O.FLT_LOG 0 (32 * n + 16) 4
      match m with
      | some (_, s') => if s' < s then some (n, s) else m
      | none => some (n, s)
    else m) none).map Prod.fst

/-- Whether a held entry has a code and location. -/
def Dev.heldOf (d : Dev) (code loc : Nat) : Bool := d.flt.held.any (fun en => en.code == code && en.loc == loc)

/-- REPEATS of the newest held entry with a code and location raised. -/
def raiseHeld (code loc : Nat) : List Entry → List Entry
  | [] => []
  | en :: l =>
    if l.any (fun x => x.code == code && x.loc == loc) then en :: raiseHeld code loc l
    else if en.code == code && en.loc == loc then { en with reps := satN 65535 (en.reps + 1) } :: l
    else en :: l

/-- A repeat that its source rule withholds from logging (R908). -/
def Dev.logRepeat (e : Env) (d : Dev) (code loc cls : Nat) (detail : Nat := 0) : Dev :=
  if d.heldOf code loc then { d with flt := { d.flt with held := raiseHeld code loc d.flt.held } }
  else
    match d.newestOf code loc with
    | some n =>
      (d.setDom O.FLT_LOG 0 (32 * n + 22) (leBytes 2 (satN 65535 (d.domNat O.FLT_LOG 0 (32 * n + 22) 2 + 1)))).mirror e
    | none => d.log e code loc cls detail

/-- Acknowledgement of every entry with SEQ up to `n` (R913, R916): the caller has checked the range. -/
def Dev.ack (e : Env) (d : Dev) (n : Nat) : Dev :=
  if !d.seqAbove n then d
  else
    let u := d.flt.unacked.filter (fun s => n < s)
    let d1 := { (d.so O.FLT_ACKED_SEQ 0 n) with flt := { d.flt with unacked := u } }
    (if u == [] then d1.clearDom O.FLT_FIRST 0 else d1).mirror e

/-- Every slot emptied to zero (R915). -/
def Dev.fltClear (e : Env) (d : Dev) : Dev := (d.clearDom O.FLT_LOG 0).mirror e

/-- FAULT_N is low (R905). -/
def Dev.faultLow (d : Dev) : Bool := d.o O.SU_STATE != 7 || d.flt.unacked != []

end Sys2Proof.Machine
end

