-- ==== Sys2Proof/Machine/Base.lean ====
section
/-! DEFINITION. Operations that several subsystems share: power domains (R862 to R864), the lock's end (R137, R138), and the
Gaern packets that wait (R710, R719, R721). -/

namespace Sys2Proof.Machine

/-! ### Power domains -/

/-- The four latest of some instants, latest first, with one more of them. -/
def latest4 (x : Nat) (l : List Nat) : List Nat := (insDesc l).take 4
where
  /-- The instant put into its place. -/
  insDesc : List Nat → List Nat
    | [] => [x]
    | y :: ys => if x < y then y :: insDesc ys else x :: y :: ys

/-- The start of the next ramp: no more than four domains start within any 1 µs (R863). -/
def Dev.rampStart (e : Env) (d : Dev) : Nat :=
  match (d.pwr.rampAt.foldl (fun l p => latest4 p.2 l) [])[3]? with
  | some t => max e.now (t + 1500)
  | none => e.now

/-- A domain switched on: its ramp starts at once, or as soon as the stagger of R863 lets it (R862); it reads RAMP until it is on.
-/
def Dev.domOn (e : Env) (d : Dev) (n : Nat) : Dev :=
  if d.o O.PWR_DOM_STATE n == 1 || d.o O.PWR_DOM_STATE n == 2 then d
  else
    let d := (d.so O.PWR_DOM_STATE n 1).inc O.PWR_DOM_SWITCHES n
    { d with pwr := { d.pwr with rampAt := tset 0 d.pwr.rampAt n (d.rampStart e) } }

/-- A domain switched off. -/
def Dev.domOff (d : Dev) (n : Nat) : Dev := d.so O.PWR_DOM_STATE n 0

/-- A domain switched on or off. -/
def Dev.domSet (e : Env) (d : Dev) (n : Nat) (on : Bool) : Dev := if on then d.domOn e n else d.domOff n

/-- Whether a domain is on. -/
def Dev.domIsOn (d : Dev) (n : Nat) : Bool := d.o O.PWR_DOM_STATE n == 2

/-! ### The lock -/

/-- The staged set discarded and the lock freed (R136, R137). -/
def Dev.freeLock (d : Dev) : Dev := { (d.so O.LOCK_OWNER 0 0xFF) with lock := {} }

/-- The lock lost by a lease's end or a carrier's failure (R138). -/
def Dev.loseLock (e : Env) (d : Dev) : Dev :=
  let s := d.o O.LOCK_OWNER
  (d.freeLock.inc O.LOCK_LOST).log e 0x0E0F (loc14 15) 0 s

/-- The carrier of a session fails (Table 02-7, R951). -/
def Dev.carrierFail (e : Env) (d : Dev) (s : Nat) : Dev := if d.o O.LOCK_OWNER == s then d.loseLock e else d

/-! ### Gaern packets -/

/-- The link carries packets: READY or DEGRADED. -/
def Dev.linkUp (d : Dev) : Bool := d.o O.LINK_STATE == 2 || d.o O.LINK_STATE == 3

/-- A packet discarded, counted by its type (R721, R740). -/
def Dev.discard (d : Dev) (p : Packet) : Dev := d.inc O.LINK_TX_DISCARD p.ty

/-- GOP packets that wait, in order; those beyond the credits held wait for one (R718). -/
def Dev.waitingGop (d : Dev) : List Packet := d.link.txq.filter (fun p => p.ty == 6 && p.kind != 3)

/-- Notifications that wait for a credit. -/
def Dev.waitingNotes (d : Dev) : Nat := ((d.waitingGop.drop d.link.held).filter (fun p => p.kind == 2)).length

/-- A packet formed: queued while the link carries packets, else discarded (R721). A notification that finds 16 waiting for
credits is dropped (R719); a transmit-only link sends no GOP packets and answers no time exchange (R730). -/
def Dev.enq (d : Dev) (p : Packet) : Dev :=
  if !d.linkUp then d.discard p
  else if p.ty == 6 && d.o O.LINK_ACTIVE_HRX == 0 then d
  else if p.kind == 2 && d.ob O.LINK_GOP_CREDIT && d.link.held ≤ d.waitingGop.length && 16 ≤ d.waitingNotes then d.inc O.LINK_NOTIFY_DROPPED
  else { d with link := { d.link with txq := d.link.txq ++ [p] } }

/-- A packet of a kind and tag has not left yet. -/
def Dev.pktWaits (d : Dev) (kind tag : Nat) : Bool :=
  d.link.txq.any (fun p => p.kind == kind && p.tag == tag) || d.link.part.any (fun s => s.pkt.kind == kind && s.pkt.tag == tag)

/-- Something leaves the package. -/
def Dev.send (d : Dev) (o : Out) : Dev := { d with sent := d.sent ++ [o] }

end Sys2Proof.Machine
end

