-- ==== Sys2Proof/Machine/Gaern.lean ====
section
/-! DEFINITION. The Gaern lanes (chapter 14): segments, striping, scheduling and credits, bring-up, lane loss, time
synchronisation and the test facilities. -/

namespace Sys2Proof.Machine

/-! ### Segments -/

/-- The priority of a packet (Table 14-3), 1 the highest. -/
def pktPrio (p : Packet) : Nat :=
  if p.ty == 1 || p.ty == 2 then 1
  else if p.ty == 7 then 2
  else if p.ty == 5 then 3
  else if p.ty == 6 then 4
  else if p.ty == 3 then 5
  else if p.kind == 4 then 7 else 6

/-- The payload of a packet's segment: echo stream packets are one segment, others are cut at 820 bytes (R701). -/
def segPayload (p : Packet) (seg : Nat) : Bytes := if p.ty == 1 then p.data else (p.data.drop (820 * seg)).take 820

/-- Whether a segment is the packet's last. -/
def segLast (p : Packet) (seg : Nat) : Bool := p.ty == 1 || p.data.length ≤ 820 * (seg + 1)

/-- A segment header (Table 14-2). -/
def segHeader (ty : Nat) (first last : Bool) (len seg mseq gcr acr : Nat) : Bytes :=
  leBytes 8 ((ty <<< 60) + (b2n first <<< 59) + (b2n last <<< 58) + (len <<< 40) + (seg <<< 24) + (mseq <<< 16) +
    (gcr <<< 12) + acr)

/-- A segment: header, payload and CRC-32 (R697, R699). -/
def segBytes (hdr payload : Bytes) : Bytes := hdr ++ payload ++ leBytes 4 (crc32 (hdr ++ payload))

/-- The bytes of a segment on logical lane `j` of `n` (R704). -/
def laneBytes (n j : Nat) (bs : Bytes) : Bytes :=
  (List.range ((bs.length + n - 1 - j) / n)).map (fun c => (bs[c * n + j]?).getD 0)

/-- A segment striped over `n` logical lanes (R704). -/
def stripe (n : Nat) (bs : Bytes) : List Bytes := (List.range n).map (fun j => laneBytes n j bs)

/-- Lanes in use for transmission. -/
def Dev.txLanes (d : Dev) : Nat := popcount 8 (d.o O.LINK_ACTIVE_TX)

/-- Fabric cycles of `c` columns at the rate in force, rounded down: 0.8333 ns a column at 12.0 Gb/s (R684). -/
def Dev.colCycles (d : Dev) (c : Nat) : Nat := c * 5 * 2 ^ (3 - d.o O.LINK_RATE) / 4

/-- The lanes of a mask in ascending order: logical lane j is the j-th (R704). -/
def laneList (mask : Nat) : List Nat := (List.range 8).filter (bit mask)

/-- Symbols coded on lanes, each with its own running disparity (R685): the groups of each lane, and the lanes' disparities. -/
def codeLanes (disp : Tab Bool) : List (Nat × List LineSym) → List (List Nat) × Tab Bool
  | [] => ([], disp)
  | p :: l =>
    let c := codeSyms (tget false disp p.1) p.2
    let r := codeLanes (tset false disp p.1 c.2) l
    (c.1 :: r.1, r.2)

/-- Lanes that have sent a number of symbols which turn the disparity: an odd number turns it. -/
def turnLanes (disp : Tab Bool) (n : Nat → Nat) (lanes : List Nat) : Tab Bool :=
  lanes.foldl (fun m l => tset false m l ((tget false m l) != (n l % 2 == 1))) disp

/-- The columns that have gone by since an instant, at the rate in force. -/
def Dev.columnsSince (e : Env) (d : Dev) (t : Nat) : Nat := (e.now - t) * 4 / (5 * 2 ^ (3 - d.o O.LINK_RATE))

/-- The first column since READY or DEGRADED that has not begun. -/
def Dev.nextColumn (e : Env) (d : Dev) : Nat :=
  let k := 5 * 2 ^ (3 - d.o O.LINK_RATE)
  ((e.now - d.link.readyAt) * 4 + k - 1) / k

/-- The fabric cycle by which the columns before column `c` have ended. -/
def Dev.columnEnd (d : Dev) (c : Nat) : Nat := d.link.readyAt + (c * 5 * 2 ^ (3 - d.o O.LINK_RATE) + 3) / 4

/-- Groups of lanes as they stand on the balls: a lane of swapped polarity sends every bit inverted (R690). -/
def Dev.onBalls (d : Dev) (lanes : List Nat) (gs : List (List Nat)) : List (List Nat) :=
  (lanes.zip gs).map (fun p => if d.ob O.LANE_POLARITY p.1 then p.2.map (fun g => 1023 - g) else p.2)

/-- The lanes in use idle with K28.5 up to a column (R685, R705). -/
def Dev.idleTo (d : Dev) (c : Nat) : Dev :=
  { d with link := { d.link with disp := turnLanes d.link.disp (fun _ => c - d.link.cols) (laneList (d.o O.LINK_ACTIVE_TX)),
                                 cols := max c d.link.cols } }

/-- The alignment pair with a number carries the time marker, as far as its column tells (R741). -/
def Dev.pairMarked (d : Dev) (m : Nat) : Bool :=
  d.o O.LINK_TS_PERIOD_MS != 0 && d.link.tsNext ≤ d.link.readyAt + d.colCycles (2048 * m)

/-- Symbols of lanes from column `c` on with the alignment pairs that fall among them (R693, R694): at most `n` pairs from number `m`
on, of which one at most carries the marker. -/
def Dev.withPairs (d : Dev) (c : Nat) : Nat → Nat → Bool → List (List LineSym) → List (Nat × Bool) × List (List LineSym)
  | 0, _, _, l => ([], l)
  | n + 1, m, used, l =>
    let i := 2048 * m - c
    if 2048 * m < c || ((l.head?).map List.length).getD 0 ≤ i then ([], l)
    else
      let mk := !used && d.pairMarked m
      let r := d.withPairs c n (m + 1) (used || mk)
        (l.map (fun s => s.take i ++ [.special 3, .special (if mk then 1 else 0)] ++ s.drop i))
      ((m, mk) :: r.1, r.2)

/-- Symbols put on lanes from the next free column on: the groups on the balls. -/
def Dev.putSyms (d : Dev) (l : List (Nat × List LineSym)) : List (List Nat) × Dev :=
  let c := d.link.cols
  let r := d.withPairs c 16 d.link.pairs false (l.map Prod.snd)
  let lanes := l.map Prod.fst
  let syms := lanes.zip r.2
  let g := codeLanes d.link.disp syms
  let out := d.onBalls lanes g.1
  let col := fun (i : Nat) => out.map (fun x => [(x[i]?).getD 0])
  let inner := r.1.map (fun p => { num := p.1, marker := p.2, first := col (2048 * p.1 - c), second := col (2048 * p.1 - c + 1) })
  (out, { d with link := { d.link with disp := g.2, cols := c + ((r.2.head?).map List.length).getD 0,
                                       air := some { start := c, disp := d.link.disp, syms := syms },
                                       inner := d.link.inner ++ inner } })

/-- The lanes as they stand where the symbols put on them last are cut short at the next column (R736, R740). -/
def Dev.cutAir (e : Env) (d : Dev) : Dev :=
  match d.link.air with
  | none => d
  | some a =>
    let c := max a.start (d.nextColumn e)
    if d.link.cols ≤ c then d
    else
      { d with link := { d.link with disp := (codeLanes a.disp (a.syms.map (fun p => (p.1, p.2.take (c - a.start))))).2, cols := c,
                                     air := none, inner := d.link.inner.filter (fun p => 2048 * p.num + 1 < c) } }

/-- A segment put on the lanes: its start column, its data columns and the column after them, with the alignment pairs inside (R705,
R706). -/
def Dev.launch (e : Env) (d : Dev) (p : Packet) (bs : Bytes) : Dev :=
  let n := d.txLanes
  let cols := (bs.length + n - 1) / n
  let d := d.idleTo (d.nextColumn e)
  let (g, d) := d.putSyms ((laneList (d.o O.LINK_ACTIVE_TX)).zip ((stripe n bs).map (segSyms cols)))
  let d := d.send (.segment (d.o O.LINK_ACTIVE_TX) (stripe n bs) g)
  { d with link := { d.link with flight := some (p, bs), endAt := d.columnEnd d.link.cols } }

/-- A column of a special symbol on the lanes in use, no earlier than column `c` (R692, R694). -/
def Dev.sendColumn (d : Dev) (c k : Nat) : Dev :=
  let d := d.idleTo c
  let lanes := laneList (d.o O.LINK_ACTIVE_TX)
  let g := codeLanes d.link.disp (lanes.map (fun l => (l, [.special k])))
  let d := d.send (.column k (d.onBalls lanes g.1))
  { d with link := { d.link with disp := g.2, cols := d.link.cols + 1 } }

/-- The symbols of a lane's TRAIN sets (Table 14-4). -/
def Dev.setSyms (d : Dev) (lane : Nat) : List LineSym :=
  let s := d.link.sets
  trainSet lane s.1 s.2.1 (d.o O.LINK_RATE) (d.o O.LINK_LOSS_POLICY == 1) s.2.2.1 s.2.2.2

/-- TRAIN sets and their K28.3 columns of the columns gone by since the entry into TRAIN: 129 columns to 16 sets (R723). -/
def setsIn (cols : Nat) : Nat × Nat := (cols / 129 * 16 + min 16 (cols % 129 / 8), cols / 129)

/-- Swing and taps after an alignment column on the lanes of a mask: those take what the objects give (R689). -/
def Dev.tapsSet (d : Dev) (mask : Nat) : List (Nat × Nat × Nat) :=
  (List.range 8).map (fun l => if bit mask l then (d.o O.LANE_SWING l, d.o O.LANE_PRE l, d.o O.LANE_POST l)
    else (d.link.taps[l]?).getD (800, 0, 12))

/-- The training lanes brought up to now: their disparity, and at a K28.3 column that has gone by the swing and taps (R689). -/
def Dev.trainTo (e : Env) (d : Dev) : Dev :=
  let c := d.columnsSince e d.link.trainAt
  let a := setsIn d.link.trainCols
  let b := setsIn c
  let turns := fun l => (b.1 - a.1) * ((d.setSyms l).filter (fun s => popcount 10 (s.group false) != 5)).length + (b.2 - a.2)
  { d with link := { d.link with disp := turnLanes d.link.disp turns (laneList d.link.sets.1), trainCols := max c d.link.trainCols,
                                 taps := if a.2 < b.2 then d.tapsSet d.link.sets.1 else d.link.taps } }

/-- New TRAIN sets from now on (R723). -/
def Dev.sendTrain (e : Env) (d : Dev) (tx rx : Nat) (aligned locked : Bool) : Dev :=
  let d := d.trainTo e
  let d := { d with link := { d.link with sets := (tx, rx, aligned, locked) } }
  let n := 16 - (setsIn d.link.trainCols).1 % 16
  let syms := fun l => (List.replicate n (d.setSyms l)).flatten ++ [.special 3]
  d.send (.train tx rx aligned locked (d.onBalls (laneList tx) (codeLanes d.link.disp ((laneList tx).map (fun l => (l, syms l)))).1))

/-- Four TRAIN sets on the lanes left of a restripe (R736). -/
def Dev.sendFour (e : Env) (d : Dev) (tx rx : Nat) : Dev :=
  let d := d.idleTo (d.nextColumn e)
  let d := { d with link := { d.link with sets := (tx, rx, true, true) } }
  let (g, d) := d.putSyms ((laneList tx).map (fun l => (l, (List.replicate 4 (d.setSyms l)).flatten)))
  d.send (.train tx rx true true g)

/-! ### Scheduling -/

/-- The next segment of a type: of the packet under way, else of the first packet of that type that waits. -/
def Dev.nextOf (d : Dev) (p : Packet) : Nat :=
  match d.link.part.find? (fun s => s.pkt.ty == p.ty) with
  | some s => s.seg
  | none => 0

/-- Whether a packet's next segment may start: no other packet of its type is under way (R702), the mark of its trigger has
left (R712), and its credits suffice (R718, R720). -/
def Dev.ready (d : Dev) (p : Packet) : Bool :=
  (match p.after with
   | some m => !(d.link.txq.any (fun q => q.ty == 5 && q.tag == m))
   | none => true) &&
  (if p.ty == 6 && p.kind != 3 && d.ob O.LINK_GOP_CREDIT && d.nextOf p == 0 then 0 < d.link.held else true) &&
  (if p.ty == 4 && d.ob O.LINK_ACQ_CREDIT then (segPayload p (d.nextOf p)).length ≤ d.o O.LINK_ACQ_BALANCE else true)

/-- Two packets leave in the order of their formation: those of one priority (R700, R711), but for a packet that only carries credits,
which waits for none (R716). -/
def sameQueue (p q : Packet) : Bool := pktPrio p == pktPrio q && (p.kind == 3) == (q.kind == 3)

/-- The packets that may send next: those under way, and of each queue the first, unless a packet of its type is under way (R702). -/
def Dev.heads (d : Dev) : List Packet :=
  d.link.part.map (fun s => s.pkt) ++
    (d.link.txq.foldl (fun (acc : List Packet) p =>
      if d.link.part.any (fun s => s.pkt.ty == p.ty) || acc.any (sameQueue p) then acc else acc ++ [p]) [])

/-- The ready packet of highest priority (R710). -/
def Dev.choose (d : Dev) : Option Packet :=
  (d.heads.filter d.ready).foldl (fun m p => match m with
    | none => some p
    | some q => if pktPrio p < pktPrio q then some p else some q) none

/-- The next MSEQ of a type. -/
def Dev.mseqOf (d : Dev) (ty : Nat) : Nat := tget 0 d.link.mseq ty

/-- One segment of a chosen packet starts (R700 to R703, R714, R718, R720). -/
def Dev.startSeg (e : Env) (d : Dev) (p : Packet) : Dev :=
  let run := d.link.part.find? (fun s => s.pkt.ty == p.ty)
  let seg := d.nextOf p
  let mseq := match run with
    | some s => s.mseq
    | none => d.mseqOf p.ty
  let pay := segPayload p seg
  let last := segLast p seg
  let gcr := satN 15 d.link.owed
  let bs := segBytes (segHeader p.ty (seg == 0) last pay.length seg mseq gcr 0) pay
  let l := d.link
  let part' := (l.part.filter (fun s => s.pkt.ty != p.ty)) ++ (if last then [] else [{ pkt := p, seg := seg + 1, mseq := mseq }])
  let l := { l with part := part',
                    txq := if seg == 0 then l.txq.erase p else l.txq,
                    mseq := if seg == 0 then tset 0 l.mseq p.ty ((mseq + 1) % 256) else l.mseq,
                    owed := l.owed - gcr,
                    held := if p.ty == 6 && p.kind != 3 && d.ob O.LINK_GOP_CREDIT && seg == 0 then l.held - 1 else l.held }
  let d := ({ d with link := l }).inc O.LINK_TX_SEGMENTS p.ty
  let d := if p.ty == 4 && d.ob O.LINK_ACQ_CREDIT then
      d.so O.LINK_ACQ_BALANCE 0 (d.o O.LINK_ACQ_BALANCE - pay.length) else d
  let d := d.launch e p bs
  if p.kind == 6 then
    { d with link := { d.link with syncs := d.link.syncs.map (fun (t : TsSync) => if t.tseq == p.tag then { t with left := some d.link.endAt } else t) } }
  else d

/-- TX_SEGMENT_START (R710): when the segment before has ended, the ready segment of highest priority starts. -/
def Dev.txStart (e : Env) (d : Dev) : Dev :=
  if !d.linkUp || (d.link.flight.isSome && e.now < d.link.endAt) then d
  else
    match d.choose with
    | some p => d.startSeg e p
    | none => { d with link := { d.link with flight := none } }

/-- CREDIT_ONLY_PACKET (R716): credits owed and no segment for 10 µs. -/
def Dev.creditOnly (e : Env) (d : Dev) : Dev :=
  if d.linkUp && 0 < d.link.owed && d.link.endAt + 15000 ≤ e.now && !(d.link.txq.any (fun p => p.kind == 3)) then
    d.enq { ty := 6, data := [], kind := 3 } else d

/-! ### Entering and leaving TRAIN -/

/-- Every packet waiting or under way discarded (R740, R721); a SYNC_FU among them never leaves. -/
def Dev.dropQueues (e : Env) (d : Dev) : Dev :=
  let inFlight := match d.link.flight with
    | some (p, _) => if d.link.part.any (fun s => s.pkt.ty == p.ty) then [] else [p]
    | none => []
  let all := d.link.txq ++ d.link.part.map (fun s => s.pkt) ++ inFlight
  let d := all.foldl Dev.discard d
  { d with link := { d.link with txq := [], part := [], flight := none,
                                 syncs := d.link.syncs.filter (fun t => t.left.any (· ≤ e.now)) } }

/-- Line bits of a lane in one fabric cycle. -/
def Dev.bitsPerCycle (d : Dev) : Nat := 2 ^ d.o O.LINK_RATE

/-- The bits that a lane's checker has checked since they were counted last (R750). -/
def Dev.prbsNew (e : Env) (d : Dev) (l : Nat) : Nat :=
  if d.ob O.PRBS_SYNC l then (e.now - tget 0 d.link.prbsAt l) * d.bitsPerCycle else 0

/-- The bits checked on a lane brought up to now (R750). -/
def Dev.prbsCount (e : Env) (d : Dev) (l : Nat) : Dev :=
  if d.ob O.PRBS_SYNC l then
    { (d.inc O.PRBS_BITS l (d.prbsNew e l)) with link := { d.link with prbsAt := tset 0 d.link.prbsAt l e.now } }
  else d

/-- A lane's test facilities back at 0 (R752); what it has checked stays counted. -/
def Dev.laneTestOff (e : Env) (d : Dev) (l : Nat) : Dev :=
  let d := ((d.prbsCount e l).so O.PRBS_CHK l 0).so O.PRBS_SYNC l 0
  if l < 8 then (d.so O.PRBS_GEN l 0).so O.INJ_GO l 0 else d

/-- TRAIN begins (R723): every configured lane trains, its tests are off (R752), its domain is on (Table 17-3). -/
def Dev.startTrain (e : Env) (d : Dev) : Dev :=
  let tx := d.o O.LINK_TX_MASK
  let rx := d.o O.LINK_HRX_MASK
  let lanes := (List.range 10).filter (fun l => if l < 8 then bit tx l else bit rx (l - 8))
  let d := lanes.foldl (fun d l => (d.laneTestOff e l).so O.LANE_STATE l 1) d
  let d := ((List.range 10).filter (fun l => !lanes.contains l)).foldl
    (fun d l => if d.o O.LANE_STATE l == 6 then d else d.so O.LANE_STATE l 0) d
  let d := (List.range 8).foldl (fun d l => d.domSet e (72 + l) (bit tx l)) d
  let d := d.domSet e 90 (rx != 0)
  let d := d.sos [(O.LINK_STATE, 0, 1), (O.LINK_ACTIVE_TX, 0, 0), (O.LINK_ACTIVE_HRX, 0, 0)]
  let d := { d with link := { d.link with trainAt := e.now, trainLong := false, alignedOk := false, locked := 0, aligned := 0,
                                          number := [], disp := [], trainCols := 0, air := none, inner := [],
                                          rxLanes := [], rxAir := none, rxParts := [] } }
  d.sendTrain e tx 0 false false

/-- TRAIN entered from READY or DEGRADED (R740): the segment in flight is aborted, queues are dropped, the carrier of session 3
fails. -/
def Dev.enterTrain (e : Env) (d : Dev) : Dev :=
  let d := if d.link.flight.isSome && e.now < d.link.endAt then ((d.cutAir e).sendColumn 0 7).inc O.LINK_TX_ABORTS
    else { d with link := { d.link with flight := none } }
  let d := ((d.dropQueues e).inc O.LINK_TRAINS).log e 0x0C07 (locG 12 63 6) 1
  (d.carrierFail e 3).startTrain e

/-- LINK_RETRAIN written 1 (R739). -/
def Dev.linkRetrain (e : Env) (d : Dev) : Dev := if d.linkUp then d.enterTrain e else d

/-- RETRAIN_REQUEST (R738). -/
def Dev.retrainReq (e : Env) (d : Dev) : Dev := if d.linkUp && d.o O.LINK_ACTIVE_HRX != 0 then d.enterTrain e else d

/-- LINK_ENABLE written 1, or start-up at lane bring-up (Table 14-6). -/
def Dev.linkEnable (e : Env) (d : Dev) : Dev :=
  if d.o O.LINK_STATE == 0 && d.ob O.LINK_ENABLE && 5 ≤ d.o O.SU_STATE && d.o O.SU_STATE ≤ 7 then d.startTrain e else d

/-- LINK_ENABLE written 0 (Table 14-6): drivers off, nothing waits (R721), session 3 loses its carrier. -/
def Dev.linkDisable (e : Env) (d : Dev) : Dev :=
  let up := d.linkUp
  let d := if e.now < d.link.endAt then d else { d with link := { d.link with flight := none } }
  let d := if up then (d.dropQueues e).carrierFail e 3 else d
  let d := (List.range 10).foldl (fun d l => if d.o O.LANE_STATE l == 6 then d else d.so O.LANE_STATE l 0) d
  let d := ((List.range 8).foldl (fun d l => d.domOff (72 + l)) d).domOff 90
  d.sos [(O.LINK_STATE, 0, 0), (O.LINK_ACTIVE_TX, 0, 0), (O.LINK_ACTIVE_HRX, 0, 0)]

/-- The lane number of HRX_n: the one its TRAIN sets carry (R726). -/
def Dev.hrxNumber (d : Dev) (n : Nat) : Nat := tget n d.link.number n

/-- A mask of receive balls as the mask of their lane numbers (R726). -/
def Dev.byNumber (d : Dev) (mask : Nat) : Nat :=
  (List.range 2).foldl (fun m n => if bit mask n then setBit m (d.hrxNumber n) true else m) 0

/-- The ball of the receive lane with a number. -/
def Dev.hrxBall (d : Dev) (k : Nat) : Nat := ((List.range 2).find? (fun n => d.hrxNumber n == k)).getD k

/-- The balls of the receive lanes in use, in the order of their lane numbers. -/
def Dev.hrxInUse (d : Dev) : List Nat := ((List.range 2).filter (bit (d.o O.LINK_ACTIVE_HRX))).map d.hrxBall

/-- A receive lane beside its objects. -/
def Dev.rxLane (d : Dev) (n : Nat) : RxLane := tget {} d.link.rxLanes n

/-- A receive lane changed. -/
def Dev.setRxLane (d : Dev) (n : Nat) (x : RxLane) : Dev := { d with link := { d.link with rxLanes := tset {} d.link.rxLanes n x } }

/-- A group on the balls of HRX_n (R685, R686, R690): its symbol, whether it is valid, and the error counted. A receiver takes its
running disparity from the first group that comes (log entry 240). -/
def Dev.rxGroup (d : Dev) (n g : Nat) : (Option LineSym × Bool) × Dev :=
  let g := if d.ob O.LANE_POLARITY (8 + n) then 1023 - g else g
  let x := d.rxLane n
  let rd := x.rd.getD (!groupValid false g)
  let k := groupKind rd g
  let errs := x.errs.filter (fun c => d.link.rxCol < c + 2048)
  let x := { x with rd := some (rdRecv rd g), errs := if k = .valid then errs else d.link.rxCol :: errs }
  let d := d.setRxLane n x
  match k with
  | .valid => ((symOf rd g, true), d)
  | .disparity => ((symOf rd g, false), d.inc O.LANE_DISP (8 + n))
  | .violation => ((none, false), d.inc O.LANE_CV (8 + n))

/-- Groups of one lane after one another: their symbols, and whether each is valid. -/
def Dev.rxGroups (d : Dev) (n : Nat) : List Nat → List (Option LineSym × Bool) × Dev
  | [] => ([], d)
  | g :: l =>
    let x := d.rxGroup n g
    let r := x.2.rxGroups n l
    (x.1 :: r.1, r.2)

/-- The lane number of eight valid TRAIN sets at the end of what a lane has received, K28.3 columns apart (R723, R724). -/
def lockNumber (rate : Nat) (l : List (Option LineSym × Bool)) : Option Nat :=
  let l := l.filter (fun p => p.1 != some (.special 3))
  let s := (l.drop (l.length - 64)).filterMap (fun p => if p.2 then p.1 else none)
  let ns := (setsOf 8 s).map (setNumber rate)
  if s.length == 64 && ns.all Option.isSome then (ns.getLast?).getD none else none

/-- LANE_LOCKED (R724, R726): a configured receive lane has received groups, of which the last eight sets are valid; they carry its lane
number, and under AUTO its peaking is found. LOCKED follows in the device's sets (R723). -/
def Dev.laneLocked (e : Env) (d : Dev) (lane : Nat) (groups : List Nat) (ctle : Nat) : Dev :=
  if d.o O.LINK_STATE == 1 && (lane == 8 || lane == 9) && bit (d.o O.LINK_HRX_MASK) (lane - 8) then
    let x := d.rxGroups (lane - 8) groups
    let d := x.2
    match lockNumber (d.o O.LINK_RATE) x.1 with
    | none => d
    | some k =>
      if 2 ≤ k then d
      else
        let d := (d.so O.LANE_STATE lane 2).so O.LANE_CTLE_NOW lane
          (if d.o O.LANE_CTLE lane == 0xFF then satN 15 ctle else d.o O.LANE_CTLE lane)
        let d := { d with link := { d.link with locked := setBit d.link.locked (lane - 8) true,
                                                number := tset (lane - 8) d.link.number (lane - 8) k } }
        d.sendTrain e (d.o O.LINK_TX_MASK) (d.byNumber d.link.aligned) d.link.alignedOk (d.link.locked == d.o O.LINK_HRX_MASK)
  else d

/-- LINK_LOSS_POLICY landed: DEGRADE_OK follows in TRAIN sets (R723). -/
def Dev.policyLanded (e : Env) (d : Dev) (v : Nat) : Dev :=
  if d.o O.LINK_STATE == 1 && v != d.o O.LINK_LOSS_POLICY then
    let d := (d.trainTo e).so O.LINK_LOSS_POLICY 0 v
    let s := d.link.sets
    d.sendTrain e s.1 s.2.1 s.2.2.1 s.2.2.2
  else d.so O.LINK_LOSS_POLICY 0 v

/-- ALIGNED of the device's sets, and when it was set (R727, R728). -/
def Dev.setAligned (e : Env) (d : Dev) (on : Bool) : Dev :=
  { d with link := { d.link with alignedAt := if on && !d.link.alignedOk then e.now else d.link.alignedAt, alignedOk := on } }

/-- LANE_ALIGNED (R725, R727): a locked lane is deskewed; ALIGNED is set once the mask is complete. -/
def Dev.laneAligned (e : Env) (d : Dev) (lane : Nat) : Dev :=
  if d.o O.LINK_STATE == 1 && (lane == 8 || lane == 9) && bit d.link.locked (lane - 8) then
    let m := setBit d.link.aligned (lane - 8) true
    let ok := d.byNumber m == d.o O.LINK_HRX_MASK || (d.o O.LINK_LOSS_POLICY == 1 && d.link.trainAt + 1500000 ≤ e.now)
    let d := d.so O.LANE_STATE lane 3
    let d := d.setAligned e (d.link.alignedOk || ok)
    let d := { d with link := { d.link with aligned := m } }
    d.sendTrain e (d.o O.LINK_TX_MASK) (d.byNumber m) d.link.alignedOk (d.link.locked == d.o O.LINK_HRX_MASK)
  else d

/-- ALIGNED_TIMEOUT (R727): under DEGRADE, 1 ms in TRAIN with an aligned lane sets ALIGNED. -/
def Dev.alignedTimeout (e : Env) (d : Dev) : Dev :=
  if d.o O.LINK_STATE == 1 && d.o O.LINK_LOSS_POLICY == 1 && d.link.aligned != 0 && d.link.trainAt + 1500000 ≤ e.now then
    let d := d.setAligned e true
    d.sendTrain e (d.o O.LINK_TX_MASK) (d.byNumber d.link.aligned) true (d.link.locked == d.o O.LINK_HRX_MASK)
  else d

/-- READY or DEGRADED entered with the lanes in use, receive lanes by their numbers (R726, R728 to R730, Table 14-6): MSEQ and credits
start afresh (R703, R715, R718, R720). -/
def Dev.linkReady (e : Env) (d : Dev) (tx rx : Nat) (full : Bool) : Dev :=
  let d := d.trainTo e
  let d := (List.range 8).foldl (fun d l =>
    if bit tx l then d.so O.LANE_STATE l 4 else if bit (d.o O.LINK_TX_MASK) l then d.so O.LANE_STATE l 5 else d) d
  let d := (List.range 2).foldl (fun d n =>
    if bit rx (d.hrxNumber n) then d.so O.LANE_STATE (8 + n) 4 else if bit (d.o O.LINK_HRX_MASK) n then d.so O.LANE_STATE (8 + n) 5 else d) d
  let d := d.sos [(O.LINK_STATE, 0, if full then 2 else 3), (O.LINK_ACTIVE_TX, 0, tx), (O.LINK_ACTIVE_HRX, 0, rx),
    (O.LINK_READY_TIME, 0, e.now), (O.LINK_ACQ_BALANCE, 0, 0)]
  { d with link := { d.link with mseq := [], owed := 0, held := 0, readyAt := e.now, cols := 0, pairs := 0, endAt := e.now, flight := none,
                                 air := none, inner := [], rxLanes := [], rxCol := 0, rxAir := none, rxParts := [],
                                 tsNext := e.now + 1500000 * d.o O.LINK_TS_PERIOD_MS } }

/-- TRAIN_EXIT (R728 to R730) with the masks of the host's last sets. -/
def Dev.trainExit (e : Env) (d : Dev) (hostTx hostRx : Nat) : Dev :=
  if d.o O.LINK_STATE != 1 || e.now < d.link.trainAt + 1500 * d.o O.LINK_TRAIN_MIN_US then d
  else if d.o O.LINK_HRX_MASK == 0 then d.linkReady e (d.o O.LINK_TX_MASK) 0 true
  else
    let tx := d.o O.LINK_TX_MASK &&& hostRx
    let rx := d.byNumber d.link.aligned &&& hostTx
    if d.link.alignedOk && d.link.alignedAt + d.colCycles 129 ≤ e.now && rx != 0 && d.o O.LINK_MIN_TX_LANES ≤ popcount 8 tx then
      d.linkReady e tx rx (tx == d.o O.LINK_TX_MASK && rx == d.o O.LINK_HRX_MASK)
    else d

/-- TRAIN_TIMEOUT_NOTIFY (R732). -/
def Dev.trainTimeout (e : Env) (d : Dev) : Dev :=
  if d.o O.LINK_STATE == 1 && !d.link.trainLong && d.link.trainAt + 75000000 ≤ e.now then
    ({ d with link := { d.link with trainLong := true } }).log e 0x0C08 (locG 12 63 7) 1
  else d

/-! ### Lane loss -/

/-- A lost lane counted and logged (R734). -/
def Dev.laneLost (e : Env) (d : Dev) (lane cause : Nat) : Dev :=
  ((d.inc O.LANE_LOSSES lane).so O.LANE_STATE lane 5).log e (0x0C01 + cause) (locG 12 lane cause) 2

/-- Lanes left: restripe under R735 and R736, else TRAIN. -/
def Dev.restripeOr (e : Env) (d : Dev) (tx rx : Nat) : Dev :=
  if d.o O.LINK_LOSS_POLICY == 1 && d.o O.LINK_MIN_TX_LANES ≤ popcount 8 tx && rx != 0 then
    let fly := d.link.flight.isSome && e.now < d.link.endAt
    let d := d.sos [(O.LINK_ACTIVE_TX, 0, tx), (O.LINK_ACTIVE_HRX, 0, rx), (O.LINK_STATE, 0, 3)]
    let d := if fly then ((d.cutAir e).sendColumn 0 7).inc O.LINK_TX_ABORTS else d
    let d := (d.sendFour e tx rx).inc O.LINK_RESTRIPES
    match d.link.flight with
    | some (p, bs) => if fly then d.launch e p bs else d
    | none => d
  else d.enterTrain e

/-- A cause of Table 14-5 that what a receive lane has received bears out: two expected K28.3 columns missing, 16 errors within 2,048
columns. The loss of its signal is no group. -/
def Dev.lossSeen (d : Dev) (n cause : Nat) : Bool :=
  cause == 0 || (cause == 1 && 2 ≤ (d.rxLane n).missed) ||
    (cause == 2 && 16 ≤ ((d.rxLane n).errs.filter (fun c => d.link.rxCol ≤ c + 2048)).length)

/-- A lane that is lost for a cause (R733 to R736): causes 0 to 2 of a receive lane in use, 3 and 4 of a transmit lane in use. -/
def Dev.laneGone (e : Env) (d : Dev) (lane cause : Nat) : Dev :=
  let tx := d.o O.LINK_ACTIVE_TX
  let rx := d.o O.LINK_ACTIVE_HRX
  if !d.linkUp then d
  else if lane < 8 && bit tx lane && (cause == 3 || cause == 4) then
    (d.laneLost e lane cause).restripeOr e (setBit tx lane false) rx
  else if (lane == 8 || lane == 9) && bit rx (d.hrxNumber (lane - 8)) && d.lossSeen (lane - 8) cause then
    (d.laneLost e lane cause).restripeOr e tx (setBit rx (d.hrxNumber (lane - 8)) false)
  else d

/-- HOST_LOSS_ANNOUNCEMENT (R737): the masks of the announcement are adopted, missing transmit lanes are lost with cause 5, and a
receive lane that is no longer among them shows LOST. -/
def Dev.hostLoss (e : Env) (d : Dev) (hostTx hostRx : Nat) : Dev :=
  if !d.linkUp || d.o O.LINK_ACTIVE_HRX == 0 then d
  else
    let tx := d.o O.LINK_ACTIVE_TX
    let gone := (List.range 8).filter (fun l => bit tx l && !bit hostRx l)
    let d := gone.foldl (fun d l => d.laneLost e l 5) d
    let rx := d.o O.LINK_ACTIVE_HRX &&& hostTx
    let d := (d.hrxInUse.filter (fun n => !bit rx (d.hrxNumber n))).foldl (fun d n => d.so O.LANE_STATE (8 + n) 5) d
    d.restripeOr e (tx &&& hostRx) rx

/-! ### Alignment columns and the time exchange -/

/-- A marker of the time exchange is due (R741). -/
def Dev.tsDue (e : Env) (d : Dev) : Bool := d.o O.LINK_TS_PERIOD_MS != 0 && d.link.tsNext ≤ e.now

/-- The next alignment pair is due (R694). -/
def Dev.pairDue (e : Env) (d : Dev) : Bool := d.linkUp && d.link.readyAt + d.colCycles (2048 * d.link.pairs) ≤ e.now

/-- The swing and taps written take effect on the lanes in use (R689). -/
def Dev.loadTaps (d : Dev) : Dev :=
  { d with link := { d.link with taps := d.tapsSet (d.o O.LINK_ACTIVE_TX), pairs := d.link.pairs + 1 } }

/-- The next alignment pair where it stands among symbols that are on the lanes. -/
def Dev.pairInner (d : Dev) : Option PairCol := d.link.inner.find? (fun p => p.num == d.link.pairs)

/-- The next alignment pair carries the time marker. -/
def Dev.pairMarks (e : Env) (d : Dev) : Bool :=
  match d.pairInner with
  | some p => p.marker
  | none => d.tsDue e

/-- The columns of the next alignment pair, with which swing and taps take effect (R689, R694). -/
def Dev.sendPair (d : Dev) (marker : Bool) : Dev :=
  match d.pairInner with
  | some p =>
    let d := (d.send (.column 3 p.first)).send (.column (if p.marker then 1 else 0) p.second)
    ({ d with link := { d.link with inner := d.link.inner.filter (fun q => q.num != p.num) } }).loadTaps
  | none => ((d.sendColumn (2048 * d.link.pairs) 3).sendColumn 0 (if marker then 1 else 0)).loadTaps

/-- A swing or tap is written (R689): in TRAIN the columns before it have taken the values before. -/
def Dev.tapsWrite (e : Env) (d : Dev) (idx el v : Nat) : Dev := (if d.o O.LINK_STATE == 1 then d.trainTo e else d).so idx el v

/-- LANE_CTLE written (R691): a fixed peaking is in force at once; AUTO holds the peaking outside TRAIN. -/
def Dev.ctleWrite (d : Dev) (el v : Nat) : Dev :=
  let d := d.so O.LANE_CTLE el v
  if v == 0xFF then d else d.so O.LANE_CTLE_NOW el v

/-- ALIGNMENT_COLUMN (R694): K28.3 and K28.0, unless this pair carries the time marker. -/
def Dev.alignCol (e : Env) (d : Dev) : Dev :=
  if d.pairDue e && !d.pairMarks e then d.sendPair false else d

/-- The payload of a time sync packet (Table 14-7). -/
def tsPayload (kind : Nat) (noMarker : Bool) (tseq frac s1 s2 : Nat) : Bytes :=
  leBytes 1 kind ++ leBytes 1 (b2n noMarker) ++ leBytes 2 tseq ++ leBytes 2 frac ++ zeros 2 ++ leBytes 8 s1 ++ leBytes 8 s2 ++
    zeros 8

/-- TS_MARKER_TX (R741, R742): K28.1 in place of the skip of an alignment pair, stamped t1, and a SYNC_FU with the next TSEQ. -/
def Dev.tsMarkerTx (e : Env) (d : Dev) (frac : Nat) : Dev :=
  if d.pairDue e && d.pairMarks e then
    let d := d.sendPair true
    let n := d.link.tseq
    let t : TsSync := { tseq := n, t1 := e.now, frac := frac % 65536, left := none, done := false }
    let d := { d with link := { d.link with
      tseq := (n + 1) % 65536, tsNext := d.link.tsNext + 1500000 * d.o O.LINK_TS_PERIOD_MS,
      syncs := d.link.syncs.filter (fun (x : TsSync) => x.tseq != n) ++ [t] } }
    d.enq { ty := 7, data := tsPayload 1 false n (frac % 65536) e.now 0, kind := 6, tag := n }
  else d

/-- TS_MARKER_RX (R744): a host marker stamped t4. -/
def Dev.tsMarkerRx (e : Env) (d : Dev) (frac : Nat) : Dev :=
  if d.linkUp && d.o O.LINK_ACTIVE_HRX != 0 then { d with link := { d.link with marker := some (e.now, frac % 65536) } } else d

/-- Device time with its fraction in ps (R746). -/
def devPs (t frac : Nat) : Rat := ((t : Rat) + (frac : Rat) / 65536) * 2000 / 3

/-- A number of picoseconds as an integer; the spec fixes no rounding of a fraction, so the neighbour is free. -/
def Dev.psInt (d : Dev) (q : Rat) : Int × Dev :=
  if q.den == 1 then (q.num, d) else let (b, d) := d.freeVal 1; (q.floor + b, d)

/-- The result of an exchange computed (R746). -/
def Dev.tsResult (d : Dev) (t : TsSync) (t4 f4 t2 t3 : Nat) : Dev :=
  let d1 : Rat := (t2 : Rat) - devPs t.t1 t.frac
  let d2 : Rat := devPs t4 f4 - (t3 : Rat)
  let (off, d) := d.psInt ((d1 - d2 - (d.os32 O.LINK_TS_ASYM_PS : Rat)) / 2)
  let (del, d) := d.psInt ((d1 + d2) / 2)
  d.setDom O.LINK_TS_RESULT 0 0 (leBytes 2 t.tseq ++ zeros 2 ++ leBytes 4 (ofS 32 del) ++ leBytes 8 t.t1 ++ leBytes 8 t4 ++
    leBytes 8 (ofS 64 off))

/-- The latest host marker where it came after a SYNC_FU had left (R744). -/
def Dev.markerAfter (d : Dev) (t : TsSync) : Option (Nat × Nat) :=
  match t.left, d.link.marker with
  | some l, some m => if l ≤ m.1 then some m else none
  | _, _ => none

/-- The SYNC_FU with a TSEQ, and the latest that has left. -/
def Dev.syncOf (d : Dev) (tseq : Nat) : Option TsSync := d.link.syncs.find? (fun t => t.tseq == tseq)

/-- The latest SYNC_FU that has left. -/
def Dev.syncLast (d : Dev) : Option TsSync := d.link.syncs.reverse.find? (fun t => t.left.isSome)

/-- A SYNC_FU that is answered, or counted as missed. -/
def Dev.syncDone (d : Dev) (tseq : Nat) : Dev :=
  { d with link := { d.link with syncs := d.link.syncs.map (fun (t : TsSync) => if t.tseq == tseq then { t with done := true } else t) } }

/-- A DELAY_REQ answered (R744, R746): the result comes of one that matches the latest SYNC_FU and has a marker. -/
def Dev.delayReq (d : Dev) (p : Bytes) : Dev :=
  let tseq := fieldAt p 2 2
  let m := (d.syncOf tseq).bind d.markerAfter
  let d' := d.syncDone tseq
  let d' := match m, d.syncOf tseq with
    | some m, some t =>
      if d.syncLast == some t then d'.tsResult t m.1 m.2 (fieldAt p 8 8) (fieldAt p 16 8) else d'.inc O.LINK_TS_MISSED
    | _, _ => d'.inc O.LINK_TS_MISSED
  d'.enq { ty := 7, data := tsPayload 3 m.isNone tseq ((m.map Prod.snd).getD 0) ((m.map Prod.fst).getD 0) 0 }

/-- TS_EXCHANGE_TIMEOUT (R746): every SYNC_FU unanswered for 10 ms counts once. -/
def Dev.tsTimeout (e : Env) (d : Dev) : Dev :=
  let late := d.link.syncs.filter (fun t => !t.done && t.left.any (fun x => x + 15000000 ≤ e.now))
  if late == [] then d
  else (late.foldl (fun (d : Dev) t => d.syncDone t.tseq) d).inc O.LINK_TS_MISSED 0 late.length

/-! ### Receiving -/

/-- K28.3 columns of a lane expected up to a column (R695): one that has not come within 2,052 columns is missing. -/
def RxLane.expect (x : RxLane) (c : Nat) : RxLane :=
  match x.mark with
  | none => x
  | some r =>
    if c ≤ r + 2052 then x
    else
      let k := (c - r - 2052 + 2047) / 2048
      { x with mark := some (r + 2048 * k), missed := x.missed + k }

/-- A K28.3 column of a lane (R695): accepted 2,044 to 2,052 columns after the one before, or as the first. -/
def RxLane.marked (x : RxLane) (c : Nat) : RxLane :=
  match x.mark with
  | none => { x with mark := some c, missed := 0 }
  | some r => if r + 2044 ≤ c && c ≤ r + 2052 then { x with mark := some c, missed := 0 } else x

/-- The bytes of a segment from those of its logical lanes (R704). -/
def RxAir.bytes (a : RxAir) : Bytes :=
  let n := a.lanes.length
  (List.range (a.lanes.foldl (fun s p => s + p.1.length) 0)).map (fun k => (((a.lanes[k % n]?).getD ([], true)).1[k / n]?).getD 0)

/-- Every logical lane has ended where striping ends it. -/
def RxAir.even (a : RxAir) : Bool := (stripe a.lanes.length a.bytes) == a.lanes.map Prod.fst

/-- The segment that arrives is at its end, as far as it goes: its bytes, and whether R707 discards it for what was received. -/
def Dev.rxEnd (d : Dev) (aborted : Bool) : List (Bytes × Bool) × Dev :=
  match d.link.rxAir with
  | none => ([], d)
  | some a =>
    let whole := a.lanes.all Prod.snd && a.even
    ([(a.bytes, aborted || a.bad || !whole)], { d with link := { d.link with rxAir := none } })

/-- One symbol of a lane inside a segment, with its error. -/
def rxPut (p : Bytes × Bool) (s : Option LineSym × Bool) : (Bytes × Bool) × Bool :=
  if p.2 then (p, !s.2)
  else
    match s.1 with
    | some (.data b) => ((p.1 ++ [b], false), !s.2)
    | some (.special k) => ((p.1, true), !(s.2 && k == 29))
    | none => ((p.1 ++ [0], false), true)

/-- The columns of K28.5 before a received column: every lane in use turns its disparity with each, and a segment has no such column. -/
def Dev.rxIdle (d : Dev) (n : Nat) : List (Bytes × Bool) × Dev :=
  if n == 0 then ([], d)
  else
    let r := d.rxEnd false
    let d := { r.2 with link := { r.2.link with rxCol := r.2.link.rxCol + n } }
    (r.1, d.hrxInUse.foldl (fun d l =>
      let x := d.rxLane l
      d.setRxLane l (({ x with rd := x.rd.map (fun b => b != (n % 2 == 1)) }).expect d.link.rxCol)) d)

/-- The symbols of a column on the lanes in use. -/
def Dev.rxSyms (d : Dev) (gs : List Nat) : List Nat → List (Option LineSym × Bool) × Dev
  | [] => ([], d)
  | n :: l =>
    let x := d.rxGroup n ((gs[n]?).getD 0)
    let r := x.2.rxSyms gs l
    (x.1 :: r.1, r.2)

/-- What a column means (Table 14-1, R692, R693, R705): a marker column is removed, K30.7 aborts, K27.7 opens a segment, and else each
lane adds its symbol to the segment that arrives. -/
def Dev.rxMeaning (d : Dev) (syms : List (Option LineSym × Bool)) : List (Bytes × Bool) × Dev :=
  let has := fun k => syms.any (fun s => s.1 == some (.special k))
  if has 3 || has 0 || has 1 then ([], d)
  else if has 7 then d.rxEnd true
  else if has 27 then
    let r := d.rxEnd false
    (r.1, { r.2 with link := { r.2.link with rxAir := some { lanes := syms.map (fun _ => ([], false)), bad := syms.any (fun s => !s.2) } } })
  else
    match d.link.rxAir with
    | none => ([], d)
    | some a =>
      let l := (a.lanes.zip syms).map (fun p => rxPut p.1 p.2)
      let d := { d with link := { d.link with rxAir := some { lanes := l.map Prod.fst, bad := a.bad || l.any Prod.snd } } }
      if l.all (fun p => p.1.2) then d.rxEnd false else ([], d)

/-- A received column with the idle columns before it: the segments it ends. -/
def Dev.rxColumn (d : Dev) (c : RxCol) : List (Bytes × Bool) × Dev :=
  let i := d.rxIdle c.idle
  let lanes := i.2.hrxInUse
  let x := i.2.rxSyms c.groups lanes
  let d := (lanes.zip x.1).foldl (fun d p =>
    let y := (d.rxLane p.1).expect d.link.rxCol
    d.setRxLane p.1 (if p.2.1 == some (.special 3) then y.marked d.link.rxCol else y)) x.2
  let r := d.rxMeaning x.1
  (i.1 ++ r.1, { r.2 with link := { r.2.link with rxCol := r.2.link.rxCol + 1 } })

/-- Received columns: the segments they end. -/
def Dev.rxColumns (d : Dev) : List RxCol → List (Bytes × Bool) × Dev
  | [] => ([], d)
  | c :: l =>
    let x := d.rxColumn c
    let r := x.2.rxColumns l
    (x.1 ++ r.1, r.2)

/-- A received segment keeps the conditions of R707 but for R702: nothing wrong in it, a length that agrees, its CRC, a type that the
device takes, a GOP length within R709. -/
def segOk (bad : Bool) (bs : Bytes) : Bool :=
  let h := fieldAt bs 0 8
  let len := bits h 40 16
  !bad && bs.length == len + 12 && fieldAt bs (8 + len) 4 == crc32 (bs.take (8 + len)) &&
    (bits h 60 4 == 7 || (bits h 60 4 == 6 && len ≤ 1040))

/-- What an accepted packet carries: GOP message, time sync payload. -/
structure RxSeg where
  ty : Nat
  payload : Bytes
  deriving DecidableEq, Repr

/-- The packet of a type that is not complete, or discarded. -/
def Dev.rxPart (d : Dev) (ty : Nat) : Option RxPart := d.link.rxParts.find? (fun p => p.ty == ty)

/-- The packet of a type replaced. -/
def Dev.setRxPart (d : Dev) (ty : Nat) (p : Option RxPart) : Dev :=
  { d with link := { d.link with rxParts := d.link.rxParts.filter (fun q => q.ty != ty) ++ p.toList } }

/-- A segment discarded with the rest of its packet, which counts once (R707). -/
def Dev.rxDrop (d : Dev) (ty mseq : Nat) (last : Bool) : Dev :=
  let again := (d.rxPart ty).any (fun p => p.drop && p.mseq == mseq)
  let d := if again then d else d.inc O.LINK_RX_DISCARD
  d.setRxPart ty (if last then none else some { ty := ty, mseq := mseq, seg := 0, data := [], drop := true })

/-- The credits of an accepted segment (R718, R720). -/
def Dev.rxCredits (d : Dev) (h : Nat) : Dev :=
  let d := d.inc O.LINK_RX_SEGMENTS
  let d := d.so O.LINK_ACQ_BALANCE 0 (satN 0xFFFFFFFF (d.o O.LINK_ACQ_BALANCE + 4096 * bits h 0 12))
  if d.ob O.LINK_GOP_CREDIT then { d with link := { d.link with held := d.link.held + bits h 12 4 } } else d

/-- A segment received on the lanes (R702, R707): the packet it completes. A first segment ends a packet of its type that was not
complete, which is discarded (log entry 241). -/
def Dev.rxSeg (d : Dev) (bad : Bool) (bs : Bytes) : Option RxSeg × Dev :=
  let h := fieldAt bs 0 8
  let ty := bits h 60 4
  let mseq := bits h 16 8
  let last := bit h 58
  let pay := (bs.drop 8).take (bits h 40 16)
  let take := fun (d : Dev) (data : Bytes) =>
    let d := d.rxCredits h
    if last then (some { ty := ty, payload := data ++ pay }, d.setRxPart ty none)
    else (none, d.setRxPart ty (some { ty := ty, mseq := mseq, seg := bits h 24 16 + 1, data := data ++ pay, drop := false }))
  if !segOk bad bs then (none, d.rxDrop ty mseq last)
  else if bit h 59 then
    (if bits h 24 16 != 0 then (none, d.rxDrop ty mseq last)
     else take (if (d.rxPart ty).any (fun p => !p.drop) then d.inc O.LINK_RX_DISCARD else d) [])
  else
    match d.rxPart ty with
    | some p => if !p.drop && p.mseq == mseq && p.seg == bits h 24 16 then take d p.data else (none, d.rxDrop ty mseq last)
    | none => (none, d.rxDrop ty mseq last)

/-! ### Test facilities -/

/-- A lane is in use: it carries data, or trains (R751). -/
def Dev.laneInUse (d : Dev) (l : Nat) : Bool :=
  let st := d.o O.LANE_STATE l
  (1 ≤ st && st ≤ 4) && d.o O.LINK_STATE != 0

/-- PRBS_GEN written (R747). -/
def Dev.prbsGen (d : Dev) (l v : Nat) : Dev :=
  let d := d.so O.PRBS_GEN l v
  if d.laneInUse l then d else d.so O.LANE_STATE l (if v == 0 && d.o O.PRBS_CHK l == 0 then 0 else 6)

/-- PRBS_CHK written (R748, R750): the sequence chosen, both counts cleared. -/
def Dev.prbsChk (d : Dev) (l v : Nat) : Dev :=
  let d := d.sos [(O.PRBS_CHK, l, v), (O.PRBS_BITS, l, 0), (O.PRBS_ERRS, l, 0), (O.PRBS_SYNC, l, 0)]
  if d.laneInUse l then d
  else d.so O.LANE_STATE l (if v == 0 && (8 ≤ l || d.o O.PRBS_GEN l == 0) then 0 else 6)

/-- PRBS_SYNC_GAIN (R749): a transmit lane's checker sees that lane's own output (R748). -/
def Dev.prbsGain (e : Env) (d : Dev) (l : Nat) : Dev :=
  if l < 10 && d.o O.PRBS_CHK l != 0 && !d.ob O.PRBS_SYNC l && (8 ≤ l || d.o O.PRBS_GEN l == d.o O.PRBS_CHK l) then
    { (d.so O.PRBS_SYNC l 1) with link := { d.link with prbsAt := tset 0 d.link.prbsAt l e.now,
                                                         prbsErrs := tset [] d.link.prbsErrs l [] } }
  else d

/-- Bit errors that a checker in sync has found (R749, R750): it drops sync after more than 32 within 1,024 bits. -/
def Dev.prbsLoss (e : Env) (d : Dev) (l errs : Nat) : Dev :=
  if l < 10 && d.ob O.PRBS_SYNC l then
    let d := (d.prbsCount e l).inc O.PRBS_ERRS l errs
    let near := (e.now, errs) :: (tget [] d.link.prbsErrs l).filter (fun p => (e.now - p.1) * d.bitsPerCycle < 1024)
    let d := { d with link := { d.link with prbsErrs := tset [] d.link.prbsErrs l near } }
    if 32 < near.foldl (fun s p => s + p.2) 0 then d.so O.PRBS_SYNC l 0 else d
  else d

/-- One error injected on a lane (R753): kinds 3 and 4 act on coded groups only; the lane's own checkers see it through the
loopback (R686, R748). -/
def Dev.inject (e : Env) (d : Dev) (l : Nat) : Dev :=
  let k := d.o O.INJ_KIND l
  let raw := d.o O.PRBS_GEN l != 0
  if k == 0 || (raw && 3 ≤ k) then d
  else
    let d := d.inc O.INJ_COUNT l
    let d := { d with link := { d.link with injAt := tset 0 d.link.injAt l e.now } }
    if raw then
      if d.o O.PRBS_CHK l == d.o O.PRBS_GEN l then d.prbsLoss e l (if k == 1 then 1 else d.o O.INJ_BURST l) else d
    else if k == 3 then d.inc O.LANE_DISP l
    else if k == 4 then d.inc O.LANE_CV l
    else let (b, d) := d.freeVal 1; d.inc O.LANE_CV l b

/-- INJ_GO written 1 (R753). -/
def Dev.injStart (e : Env) (d : Dev) (l : Nat) : Dev :=
  let d := d.so O.INJ_GO l 1
  if d.o O.INJ_PERIOD l == 0 then d.inject e l else { d with link := { d.link with injAt := tset 0 d.link.injAt l e.now } }

/-- INJ_PERIODIC (R753): INJ_PERIOD groups after the last injection. -/
def Dev.injPeriodic (e : Env) (d : Dev) (l : Nat) : Dev :=
  if l < 8 && d.ob O.INJ_GO l && d.o O.INJ_PERIOD l != 0 &&
      tget 0 d.link.injAt l + d.colCycles (d.o O.INJ_PERIOD l) ≤ e.now then d.inject e l else d

end Sys2Proof.Machine
end

