-- ==== Sys2Proof/Machine/Entry.lean ====
section
/-! DEFINITION. The Jacquard entry (Table 03-1): its fields, the conditions of R163, the entry stores, and the zones, channels
and groups a shot lights (R218 to R220). -/

namespace Sys2Proof.Machine

/-- ANGLE_X in 0.001°. -/
def entX (w : Nat) : Int := toS 16 (bits w 112 16)
/-- ANGLE_Y in 0.01°. -/
def entY (w : Nat) : Int := toS 12 (bits w 100 12)
/-- TIME. -/
def entTime (w : Nat) : Nat := bits w 84 16
/-- TMODE: 1 absolute. -/
def entAbs (w : Nat) : Bool := bit w 83
/-- AN_MASK. -/
def entAn (w : Nat) : Nat := bits w 75 8
/-- KD_MASK. -/
def entKd (w : Nat) : Nat := bits w 59 16
/-- LEVEL. -/
def entLevel (w : Nat) : Nat := bits w 55 4
/-- CODE. -/
def entCode (w : Nat) : Nat := bits w 51 4
/-- WCLASS. -/
def entWclass (w : Nat) : Nat := bits w 48 3
/-- GAIN. -/
def entGain (w : Nat) : Nat := bits w 44 4
/-- ACC. -/
def entAcc (w : Nat) : Nat := bits w 38 6
/-- ACC_CLOSE. -/
def entAccClose (w : Nat) : Bool := bit w 37
/-- COLUMN. -/
def entColumn (w : Nat) : Nat := bits w 25 12
/-- REPEAT. -/
def entRepeat (w : Nat) : Nat := bits w 19 6
/-- KIND: 0 SHOT, 1 MOVE, 2 END, 3 reserved. -/
def entKind (w : Nat) : Nat := bits w 17 2
/-- NODITHER. -/
def entNoDither (w : Nat) : Bool := bit w 16
/-- TRIG_OUT. -/
def entTrig (w : Nat) : Bool := bit w 15
/-- LINK. -/
def entLink (w : Nat) : Nat := bits w 0 15

/-- The window of a class in coarse periods (Table 03-2). -/
def windowCp (c : Nat) : Nat :=
  if c == 0 then 2048 else if c == 1 then 4096 else if c == 2 then 6144 else if c == 3 then 8192 else if c == 4 then 12288
  else 16384

/-- The bits a MOVE may set: ANGLE_X, ANGLE_Y, TIME, TMODE and KIND. -/
def moveBits : Nat := (2 ^ 128 - 2 ^ 83) + (3 <<< 17)

/-- The bits an END may set: KIND and LINK. -/
def endBits : Nat := (3 <<< 17) + 0x7FFF

/-- Whether an entry is accepted (R163). -/
def entryOk (w : Nat) : Bool :=
  if w == 0 then true
  else if entKind w == 3 || entWclass w == 6 || entWclass w == 7 then false
  else if entAccClose w && entAcc w == 0 then false
  else if entKind w == 0 then entAn w != 0 && entKd w != 0 && entLink w == 0
  else if entKind w == 1 then w &&& moveBits == w
  else w &&& endBits == w

/-- Entry `i` of a bank (R162). -/
def Dev.entry (d : Dev) (bank i : Nat) : Nat := d.domNat (O.JQ_BANK_0 + bank) 0 (16 * i) 16

/-- The entries a byte string holds. -/
def entriesOf (bs : Bytes) : List Nat := (List.range (bs.length / 16)).map (fun i => fieldAt bs (16 * i) 16)

/-! ### Zones, channels, groups -/

/-- The quad of channels that a zone lights (R220). -/
def Dev.quadOf (d : Dev) (z : Nat) : Nat := (d.domByte O.EM_ZONE_MAP 0 z).toNat

/-- The zones in the product of two masks (R218, R219). -/
def zonesOf (an kd : Nat) : List Nat := (List.range 128).filter (fun z => bit an (z / 16) && bit kd (z % 16))

/-- The channels that an entry's masks light, one bit each, of those present. -/
def Dev.litChans (e : Env) (d : Dev) (an kd : Nat) : Nat :=
  (zonesOf an kd).foldl (fun m z => m ||| (15 <<< (4 * d.quadOf z))) 0 % 2 ^ e.channels

/-- The channels of a mask in ascending order. -/
def chanList (m : Nat) : List Nat := (List.range 512).filter (bit m)

/-- The groups that hold a channel of a mask (R182). -/
def groupsOf (m : Nat) : List Nat := (List.range 32).filter (fun g => bits m (16 * g) 16 != 0)

/-- The channels that an entry lights: none of a FAILED group (R322). -/
def Dev.entChans (e : Env) (d : Dev) (w : Nat) : Nat :=
  (List.range 32).foldl (fun m g => if d.o O.RX_GROUP_STATE g == 4 then m - (bits m (16 * g) 16 <<< (16 * g)) else m)
    (d.litChans e (entAn w) (entKd w))

/-- Groups that a shot of identifier `a` with these channels, code and class closes before it is collected (R188). -/
def AccGroup.closedBy (g : AccGroup) (a chans code wclass : Nat) : Bool :=
  if g.id == a then g.code != code || g.wclass != wclass else g.chans &&& chans != 0

/-- What the entries of the walk from `i` on, which are not decoded yet, will add to an open accumulation group: the channels of each
(R186 to R188). -/
def Dev.accAhead (e : Env) (d : Dev) : Nat → Nat → AccGroup → List Nat
  | 0, _, _ => []
  | n + 1, i, g =>
    let w := d.entry d.jq.bank i
    let next := (i + 1) % 32768
    if w == 0 || entKind w == 2 then []
    else if entKind w == 1 || entAcc w == 0 then d.accAhead e n next g
    else
      let c := d.entChans e w
      if g.closedBy (entAcc w) c (entCode w) (entWclass w) then []
      else if entAcc w != g.id then d.accAhead e n next g
      else
        let g : AccGroup := { g with chans := g.chans ||| c, shots := g.shots + entRepeat w + 1 }
        c :: (if entAccClose w || 64 ≤ g.shots then [] else d.accAhead e n next g)

/-- The channels of an accumulation group's shots at or after the present instant: queued, in flight, or of entries that the walk has
yet to decode (R337). -/
def Dev.accLater (e : Env) (d : Dev) (inst : Nat) : List Nat :=
  ((d.jq.queue ++ (d.jq.flight.map Flight.shot).toList).filter (fun s => s.acc == some inst)).map Shot.chans ++
    (match d.jq.acc.find? (fun g => g.inst == inst) with
     | some g => if d.jq.decoding && !d.jq.newFrame then d.accAhead e 32768 d.jq.next g else []
     | none => [])

/-- The accumulation groups that are open at a shot boundary, each with the channels of its shots to come: those with a shot before
it and a shot at or after it (R337; DEDUCED, log entry 191: entries of the walk that are not decoded yet count). -/
def Dev.openGroups (e : Env) (d : Dev) : List (ExGroup × List Nat) :=
  (d.ex.groups.filter (fun p => !p.2.closed)).filterMap (fun p =>
    match d.accLater e p.1 with
    | [] => none
    | l => some (p.2, l))

/-- The channels that belong to an open accumulation group, one bit each (R337). -/
def Dev.openChans (e : Env) (d : Dev) : Nat :=
  (d.openGroups e).foldl (fun m p => p.2.foldl (fun x y => x ||| y) (m ||| p.1.chans)) 0

/-- The channels that belong to an open accumulation group and hold its range and codes: a shot of it has lit them (R303, R314,
R459). -/
def Dev.heldChans (e : Env) (d : Dev) : Nat := (d.openGroups e).foldl (fun m p => m ||| p.1.chans) 0

/-- The lowest zone of the effective masks that lights a channel. -/
def Dev.zoneOfChan (d : Dev) (c : Nat) : Option Nat := (List.range 128).find? (fun z => d.quadOf z == c / 4)

/-- Entries held in the queue: all shots of one entry count once (R179). -/
def Dev.queued (d : Dev) : Nat := (d.jq.queue.foldl (fun (l : List Nat) s => if l.contains s.ord then l else s.ord :: l) []).length

/-! ### Pulse codes -/

/-- Pulses of a code word (Table 04-1). -/
def codeNp (w : Nat) : Nat := bits w 0 2 + 1
/-- Leading edge of pulse `i` after the first, in coarse periods. -/
def codeOff (w i : Nat) : Nat := if i == 0 then 0 else bits w (22 + 8 * (i - 1)) 8
/-- Width of pulse `i` in coarse periods. -/
def codeW (w i : Nat) : Nat := bits w (2 + 5 * i) 5
/-- The pulses of a code: offsets and widths. -/
def codePulses (w : Nat) : List (Nat × Nat) := (List.range (codeNp w)).map (fun i => (codeOff w i, codeW w i))
/-- The sum of a code's pulse widths, W of R282. -/
def codeSum (w : Nat) : Nat := (codePulses w).foldl (fun s p => s + p.2) 0

/-- Whether a code word is accepted (R235; R31 for the reserved bits). -/
def codeOk (w : Nat) : Bool :=
  let n := codeNp w
  bits w 46 18 == 0 &&
  (List.range n).all (fun i => 3 ≤ codeW w i) &&
  (List.range n).all (fun i => i == 0 || codeOff w (i - 1) + codeW w (i - 1) + 3 ≤ codeOff w i) &&
  codeOff w (n - 1) + codeW w (n - 1) ≤ 180 &&
  (List.range 4).all (fun i => i < n || (codeW w i == 0 && codeOff w i == 0))

end Sys2Proof.Machine
end

