-- ==== Sys2Proof/Machine/Hawkmoth.lean ====
section
/-! DEFINITION. Hawkmoth (chapter 05): conditions and states, the arming block, heartbeats, mirror plausibility and travel,
the energy buckets and the throttle. -/

namespace Sys2Proof.Machine

/-! ### Conditions (Table 05-3) -/

/-- A bit of HM_INJECT: the condition is raised as if it were real (R291). -/
def Dev.injected (d : Dev) (b : Nat) : Bool := bit (d.o O.HM_INJECT) b

/-- VHV lies outside 10.0 V to 48.0 V (R229). -/
def Dev.vhvOut (d : Dev) : Bool := d.em.vhvMv < 10000 || 48000 < d.em.vhvMv

/-- A non-latching condition is present. -/
def Dev.hmPassing (d : Dev) : Bool := d.vhvOut || d.ob O.EM_TSD_ACTIVE

/-- The slots configured as mirror axes (R278). -/
def Dev.axisSlots (d : Dev) : List Nat :=
  d.o O.JQ_AXIS_X_SLOT :: (if d.o O.JQ_AXIS_Y_SLOT == 0xFF then [] else [d.o O.JQ_AXIS_Y_SLOT])

/-- The loop period of a slot in fabric cycles: 200 kHz, or 66.7 kHz under single-cycle settling, divided by ATL_DIV (R610). -/
def Dev.loopPeriod (d : Dev) (s : Nat) : Nat :=
  (if d.o O.SB_MODE (d.o O.ATL_FB_A s) == 2 then 22500 else 7500) * d.o O.ATL_DIV s

/-- A slot supports plausibility: closed loop, latest report plausible and no older than 3 loop periods (R278). -/
def Dev.slotPlausible (e : Env) (d : Dev) (s : Nat) : Bool :=
  let r := tget (0, false) d.hm.report s
  d.o O.ATL_STATE s == 2 && r.2 && e.now ≤ r.1 + 3 * d.loopPeriod s

/-- The mirror is plausible (R278). -/
def Dev.mirrorPlausible (e : Env) (d : Dev) : Bool := d.axisSlots.all (d.slotPlausible e)

/-- The host heartbeat is configured and not alive (R276). -/
def Dev.hostHbDead (d : Dev) : Bool := d.o O.HM_HOST_HB_SESSION != 0xFF && !d.hm.hostAlive

/-- The latching causes that are present, each with whether only an injection raises it. -/
def Dev.hmLatching (e : Env) (d : Dev) : List (Nat × Bool) :=
  (if !d.hm.emitEn then [(2, false)] else if d.injected 0 then [(2, true)] else []) ++
  (if !d.hm.fwAlive then [(3, false)] else if d.injected 1 then [(3, true)] else []) ++
  (if d.hostHbDead then [(4, false)] else if d.injected 2 then [(4, true)] else []) ++
  (if !d.mirrorPlausible e then [(5, false)] else if d.injected 3 then [(5, true)] else []) ++
  (if d.hm.hvDrive then [(6, false)] else if d.injected 4 then [(6, true)] else []) ++
  (if d.hm.mismatch then [(8, false)] else if d.injected 5 then [(8, true)] else [])

/-- The log class of a disarm cause (Table 05-3). -/
def causeClass (c : Nat) : Nat := if c == 1 then 0 else if c == 2 || c == 4 then 1 else 3

/-- HM_ARM_BLOCK (Table 05-2, R269). -/
def Dev.armBlock (e : Env) (d : Dev) : Nat :=
  let clean := d.axisSlots.all (fun s => d.o O.ATL_STATE s == 2 && d.o O.HM_ARM_CLEAN_MS ≤ d.o O.ATL_CLEAN_MS s)
  let zero := (List.range 3).any (fun k => d.o O.HM_BUCKET_LIMIT k == 0)
  let lat := d.hmLatching e
  let has := fun c => lat.any (fun p => p.1 == c)
  b2n (has 2) + 2 * b2n (has 3) + 4 * b2n (d.hmPassing || has 6) + 8 * b2n (!clean || d.injected 3) +
    16 * b2n (d.flt.unacked != []) + 32 * b2n zero + 64 * b2n (has 8) + 128 * b2n (has 4)

/-! ### States (Table 05-1) -/

/-- The inhibit path is asserted: in every state but ARMED (R956). -/
def Dev.inhibited (d : Dev) : Bool := d.o O.HM_STATE != 2

/-- Every KD output low and every anode switch open; a shot past fire commit is stopped (R239, R281). -/
def Dev.cutDrive (d : Dev) : Dev :=
  { d with em := { d.em with closed := 0 },
           jq := { d.jq with flight := d.jq.flight.map (fun f => if f.committed && !f.emitted then { f with inhibited := true } else f) } }

/-- From a condition on die 0 to the stamp of its inhibit: 40 ns, 60 fabric cycles (Table 05-4, R57). A heartbeat's end, an
implausible mirror, copies that disagree and every injected condition arise where they are found; EMIT_EN low beyond its deglitch, a
condition of die 1 (R957), the host's write and the self-test are stamped where their command stands (log entry 229). -/
def inhibitLag (cause : Nat) (inj : Bool) : Nat := if inj || [3, 4, 5, 8].contains cause then 60 else 0

/-- Hawkmoth disarmed with a cause (Table 05-1, R271), stamped where the inhibit asserts. -/
def Dev.disarm (e : Env) (d : Dev) (cause cls : Nat) (inj : Bool) : Dev :=
  let e := { e with now := e.now + inhibitLag cause inj }
  let d := d.sos [(O.HM_STATE, 0, 0), (O.HM_DISARM_CAUSE, 0, cause), (O.HM_DISARM_TIME, 0, e.now)]
  ((d.inc O.HM_INHIBITS).cutDrive).log e (0x0300 + cause) (locCode 0 3 63 63 127 cause) cls cause inj

/-- The conditions act on the state (R266, R273): a latching one disarms, a passing one holds, and HOLD ends when none
remains. -/
def Dev.hmEval (e : Env) (d : Dev) : Dev :=
  let st := d.o O.HM_STATE
  if st == 0 then d
  else
    match d.hmLatching e with
    | (c, inj) :: _ => d.disarm e c (causeClass c) inj
    | [] =>
      if st == 2 && d.hmPassing then ((d.so O.HM_STATE 0 3).inc O.HM_INHIBITS).cutDrive
      else if st == 3 && !d.hmPassing then d.so O.HM_STATE 0 2
      else d

/-- HM_ARM written 1 where the write is not blocked (Table 05-1). -/
def Dev.hmArm (e : Env) (d : Dev) : Dev :=
  if d.o O.HM_STATE == 0 && d.armBlock e == 0 then { (d.so O.HM_STATE 0 1) with hm := { d.hm with armAt := e.now }, hk := { d.hk with vhvArm := true } }
  else d

/-- HM_DISARM written (R271). -/
def Dev.hmDisarm (e : Env) (d : Dev) : Dev := if d.o O.HM_STATE == 0 then d else d.disarm e 1 0 false

/-- HM_SELFTEST_END (R268, Table 05-1): a latching condition disarms, and only ARMED and HOLD take an arming time. An entry to HOLD
counts in HM_INHIBITS. -/
def Dev.selfTestEnd (e : Env) (d : Dev) (passed : Bool) : Dev :=
  if d.o O.HM_STATE != 1 then d
  else if !passed then d.disarm e 7 3 false
  else
    match d.hmLatching e with
    | (c, inj) :: _ => d.disarm e c (causeClass c) inj
    | [] =>
      let d := d.so O.HM_ARM_TIME 0 e.now
      if d.hmPassing then (d.so O.HM_STATE 0 3).inc O.HM_INHIBITS else d.so O.HM_STATE 0 2

/-- EMIT_EN low beyond its deglitch (R277): the drive is off on both dies, whatever Hawkmoth's state. -/
def Dev.emitEnLow (e : Env) (d : Dev) : Dev := ({ d with hm := { d.hm with emitEn := false } }).cutDrive.hmEval e

/-- EMIT_EN high again (R269). -/
def Dev.emitEnHigh (e : Env) (d : Dev) : Dev := ({ d with hm := { d.hm with emitEn := true } }).hmEval e

/-- FW_HEARTBEAT_STROKE (R275): a value that alternates is a correct stroke. -/
def Dev.fwStroke (e : Env) (d : Dev) (v : Nat) : Dev :=
  if v == d.hm.fwVal || 2 ≤ v then d
  else { d with hm := { d.hm with fwVal := v, fwAt := e.now, fwAlive := true } }

/-- FW_HEARTBEAT_EXPIRY (R275). -/
def Dev.fwExpiry (e : Env) (d : Dev) : Dev :=
  if d.hm.fwAlive && d.hm.fwAt + 1500 * d.o O.HM_HB_TIMEOUT_US ≤ e.now then
    ({ d with hm := { d.hm with fwAlive := false } }).hmEval e
  else d

/-- HOST_HEARTBEAT_EXPIRY (R276). -/
def Dev.hostExpiry (e : Env) (d : Dev) : Dev :=
  if d.o O.HM_HOST_HB_SESSION != 0xFF && d.hm.hostAlive && d.hm.hostAt + 1500000 * d.o O.HM_HOST_HB_TIMEOUT_MS ≤ e.now then
    ({ d with hm := { d.hm with hostAlive := false } }).hmEval e
  else d

/-- A complete request has reached a session: it renews the host heartbeat (R276). -/
def Dev.hostRenew (e : Env) (d : Dev) (s : Nat) : Dev :=
  if d.o O.HM_HOST_HB_SESSION == s then { d with hm := { d.hm with hostAt := e.now, hostAlive := true } } else d

/-- D2D_LINK_FAULT (R957, Table 05-3): the die-to-die link fails; the entry names die 1, cell 19 (Table 18-4). -/
def Dev.d2dFault (e : Env) (d : Dev) : Dev :=
  let d := (d.cutDrive).log e 0x0E13 (locCode 1 14 63 63 127 19) 3
  if d.o O.HM_STATE == 0 then d else d.disarm e 6 3 false

/-! ### Configuration copies (R289, R290) -/

/-- The objects of which Hawkmoth keeps two copies, with their elements and widths, in index order. -/
def hmConfig (e : Env) : List (Nat × Nat × Nat) :=
  [(O.HM_HB_TIMEOUT_US, 0, 2), (O.HM_HOST_HB_SESSION, 0, 1), (O.HM_HOST_HB_TIMEOUT_MS, 0, 2), (O.HM_ARM_CLEAN_MS, 0, 2),
   (O.HM_SPEED_WINDOW_US, 0, 2), (O.HM_MIN_TRAVEL, 0, 2)] ++
  (List.range 3).map (fun k => (O.HM_BUCKET_LIMIT, k, 4)) ++
  (List.range (if e.full then 144 else 128)).map (fun z => (O.HM_WEIGHT, z, 1))

/-- HM_CONFIG_CRC (R290). -/
def Dev.configCrc (e : Env) (d : Dev) : Nat := crc32 ((hmConfig e).flatMap (fun p => leBytes p.2.2 (d.o p.1 p.2.1)))

/-- The second copy's value of an element. -/
def Dev.copyOf (d : Dev) (idx el : Nat) : Nat := tget (dflt idx el) d.hm.copy (okey idx el)

/-- A value landed in both copies. -/
def Dev.copySet (d : Dev) (idx el v : Nat) : Dev :=
  { d with hm := { d.hm with copy := tset (dflt idx el) d.hm.copy (okey idx el) v } }

/-- HM_CONFIG_COMPARE (R289): every 1 ms; `upset` lists what has changed in the second copy by itself. -/
def Dev.configCompare (e : Env) (d : Dev) (upset : List (Nat × Nat × Nat)) : Dev :=
  if e.now < d.hm.compareAt + 1500000 then d
  else
    let d := upset.foldl (fun d p => if (hmConfig e).any (fun q => q.1 == p.1 && q.2.1 == p.2.1) then d.copySet p.1 p.2.1 p.2.2 else d) d
    let bad := (hmConfig e).any (fun p => d.copyOf p.1 p.2.1 != d.o p.1 p.2.1)
    ({ d with hm := { d.hm with mismatch := bad, compareAt := e.now } }).hmEval e

/-! ### Energy buckets (R282 to R288) -/

/-- The step period of a bucket in fabric cycles (R284). -/
def leakPeriod (k : Nat) : Nat := if k == 0 then 1500 else if k == 1 then 150000 else 15000000

/-- One leak step (R284). -/
def leakOnce (b : Nat) : Nat := b - (b * 1298) >>> 16

/-- `n` leak steps. -/
def leakN : Nat → Nat → Nat
  | 0, b => b
  | n + 1, b => leakN n (leakOnce b)

/-- Grid steps of a bucket that device time has passed and the levels have not taken. A level no longer moves after 2,000. -/
def Dev.leakDue (e : Env) (d : Dev) (k : Nat) : Nat := min 2000 (e.now / leakPeriod k - tget 0 d.hm.steps k)

/-- The level of a bucket at the present device time. -/
def Dev.level (e : Env) (d : Dev) (k s : Nat) : Nat := leakN (d.leakDue e k) (tget 0 d.hm.levels (k * 256 + s))

/-- Every level of a bucket after one step. -/
def leakTab (k : Nat) (m : Tab Nat) : Tab Nat :=
  m.foldl (fun acc p => if p.1 / 256 == k then tset 0 acc p.1 (leakOnce p.2) else acc) m

/-- The throttle level that a fill of `b` in `l` reaches: 75 %, 87.5 %, 95 % (R288). -/
def fillLevel (b l : Nat) : Nat :=
  if 95 * l ≤ 100 * b then 3 else if 875 * l ≤ 1000 * b then 2 else if 75 * l ≤ 100 * b then 1 else 0

/-- Whether a fill lies at or below the threshold of a level less 5 percentage points. -/
def fillBelow (b l lev : Nat) : Bool :=
  if lev == 3 then 100 * b ≤ 90 * l else if lev == 2 then 1000 * b ≤ 825 * l else 100 * b ≤ 70 * l

/-- The fills of buckets 1 and 2, level and limit: bucket 1 as its step leaves it, bucket 2 with the steps that are due. -/
def Dev.fills (e : Env) (d : Dev) : List (Nat × Nat) :=
  d.hm.levels.filterMap (fun p =>
    if p.1 / 256 == 1 then some (p.2, d.o O.HM_BUCKET_LIMIT 1)
    else if p.1 / 256 == 2 then some (d.level e 2 (p.1 % 256), d.o O.HM_BUCKET_LIMIT 2)
    else none)

/-- THROTTLE_EVALUATION (R288). -/
def Dev.throttleEval (e : Env) (d : Dev) : Dev :=
  if !d.ob O.HM_THROTTLE_EN then d
  else
    let now := d.o O.HM_THROTTLE_REQ
    let hi := (d.fills e).foldl (fun m p => max m (fillLevel p.1 p.2)) 0
    if now < hi then d.so O.HM_THROTTLE_REQ 0 hi
    else if 0 < now && (d.fills e).all (fun p => fillBelow p.1 p.2 now) then d.so O.HM_THROTTLE_REQ 0 (now - 1)
    else d

/-- `n` steps of a bucket, each followed for bucket 1 by the throttle's evaluation. -/
def Dev.leakSteps (e : Env) (k : Nat) : Nat → Dev → Dev
  | 0, d => d
  | n + 1, d =>
    let d := { d with hm := { d.hm with levels := leakTab k d.hm.levels } }
    Dev.leakSteps e k n (if k == 1 then d.throttleEval e else d)

/-- Every step of a bucket that is due (R284). -/
def Dev.leakTo (e : Env) (d : Dev) (k : Nat) : Dev :=
  let d' := Dev.leakSteps e k (d.leakDue e k) d
  { d' with hm := { d'.hm with steps := tset 0 d'.hm.steps k (e.now / leakPeriod k) } }

/-- A level set, and the peak raised to it (R958). -/
def Dev.setLevel (d : Dev) (k s v : Nat) : Dev :=
  let el := k * 256 + s
  let d := { d with hm := { d.hm with levels := tset 0 d.hm.levels el v } }
  if d.o O.HM_BUCKET_PEAK el < v then d.so O.HM_BUCKET_PEAK el v else d

/-- The location of a bucket entry (R292). -/
def bucketLoc (k s : Nat) : Nat :=
  if s < 128 then locCode 0 3 (s / 16) k (s % 16) 0 else locCode 0 3 8 k (s - 128) 0

/-- A parity error found at an access: the bucket takes its limit (R286). -/
def Dev.bucketParity (e : Env) (d : Dev) (ks : Nat) : Dev :=
  (d.setLevel (ks / 256) (ks % 256) (d.o O.HM_BUCKET_LIMIT (ks / 256))).log e 0x0311 (bucketLoc (ks / 256) (ks % 256)) 2

/-- BUCKET_LEAK_STEP (R284): the steps due of one bucket. -/
def Dev.bucketStep (e : Env) (d : Dev) (k : Nat) (parity : List Nat) : Dev :=
  if 3 ≤ k || d.leakDue e k == 0 then d
  else ((parity.filter (fun p => p / 256 == k && p % 256 < 144)).foldl (fun d p => d.bucketParity e p) d).leakTo e k

/-- A bucket limit landed (R287): at the first since reset the bucket starts at 0 or at its limit. -/
def Dev.limitWritten (e : Env) (d : Dev) (k v : Nat) : Dev :=
  if bit d.hm.limitSet k then d
  else
    let d := { d with hm := { d.hm with limitSet := setBit d.hm.limitSet k true } }
    let tau := if k == 0 then 75000 else if k == 1 then 7500000 else 750000000
    if d.hm.lastEmit + 5 * tau ≤ e.now then d
    else (List.range (if e.full then 144 else 128)).foldl (fun d s => d.setLevel k s v)
      ({ d with hm := { d.hm with steps := tset 0 d.hm.steps k (e.now / leakPeriod k) } })

/-- The ceiling of a quotient. -/
def ceilDiv (a b : Nat) : Nat := if b == 0 then 0 else (a + b - 1) / b

/-- The charge of each bucket set that a shot fires (R282): zones of its effective masks, and the modules whose FIRE_EN stands
in the latched string. -/
def Dev.charges (d : Dev) (an kd lev w : Nat) : List (Nat × Nat) :=
  let n := popcount 16 kd
  (zonesOf an kd).map (fun z =>
    (z, ceilDiv (d.o O.EM_LEVEL_SET (8 * lev + z / 16) * w * d.o O.HM_WEIGHT z) (64 * n))) ++
  (if d.ob O.TW_ENABLE then
    (List.range d.em.latched.length).filterMap (fun m =>
      let sh := (d.em.latched[m]?).getD 0
      if bit sh 31 then some (128 + m, ceilDiv (bits sh 21 10 * w * d.o O.HM_WEIGHT (128 + m)) 64) else none)
   else [])

/-- Whether every bucket of a set has room for a charge. -/
def Dev.hasRoom (d : Dev) (sq : Nat × Nat) : Bool :=
  (List.range 3).all (fun k => tget 0 d.hm.levels (k * 256 + sq.1) + sq.2 ≤ d.o O.HM_BUCKET_LIMIT k)

/-- BUCKET_TEST (R283): passes when every bucket of every set has room. -/
def Dev.bucketTest (d : Dev) (qs : List (Nat × Nat)) : Bool := qs.all d.hasRoom

/-- Every bucket of every set gains its charge. -/
def Dev.charge (d : Dev) (qs : List (Nat × Nat)) : Dev :=
  qs.foldl (fun d sq => (List.range 3).foldl (fun d k =>
    d.setLevel k sq.1 (tget 0 d.hm.levels (k * 256 + sq.1) + sq.2)) d) d

/-- A set without room: counted, and logged at most once per 1,000 ms (R285). A failure withheld repeats the set's entry, whichever of
its buckets fails now (R908). -/
def Dev.zoneRefused (e : Env) (d : Dev) (sq : Nat × Nat) : Dev :=
  let s := sq.1
  let d := d.inc O.HM_ZONE_REFUSED s
  let k := ((List.range 3).find? (fun k => d.o O.HM_BUCKET_LIMIT k < tget 0 d.hm.levels (k * 256 + s) + sq.2)).getD 0
  let t := tget 0 d.hm.logged s
  if t == 0 || t / 4 - 1 + 1500000000 ≤ e.now then
    ({ d with hm := { d.hm with logged := tset 0 d.hm.logged s (4 * (e.now + 1) + k) } }).log e 0x0310 (bucketLoc k s) 0
  else d.logRepeat e 0x0310 (bucketLoc (t % 4) s) 0

/-! ### Travel (R279) -/

/-- The span of a list of angles. -/
def spanOf (l : List Int) : Int :=
  match l with
  | [] => 0
  | x :: xs => xs.foldl max x - xs.foldl min x

/-- The 1/64 of a window of `w` fabric cycles in which an instant lies, counted from device time 0 (R279; the grid's place is the
model's choice, log entry 13). -/
def windowStep (w t : Nat) : Nat := 64 * t / w

/-- The travel over the configured slots in the present 1/64 of the window and the 63 before it, in µ° (R279). -/
def Dev.travel (e : Env) (d : Dev) : Int :=
  let w := 1500 * d.o O.HM_SPEED_WINDOW_US
  d.axisSlots.foldl (fun t s =>
    t + spanOf (d.hm.samples.filterMap (fun p =>
      if p.2.1 == s && windowStep w e.now < windowStep w p.1 + 64 then some p.2.2 else none))) 0

/-- The mirror travel test passes. -/
def Dev.travelOk (e : Env) (d : Dev) : Bool := (1000 * d.o O.HM_MIN_TRAVEL : Nat) ≤ d.travel e

end Sys2Proof.Machine
end

