-- ==== Sys2Proof/Machine/Emitter.lean ====
section
/-! DEFINITION. Emitter drive and the Twill chain (chapter 04): anode switches and bars, the VHV window, driver shutdown, test
passes, shares, strings and the chain check. -/

namespace Sys2Proof.Machine

/-- The location of an anode line's fault (chapter 04): die 1, the line, slice 127. -/
def lineLoc (line cell : Nat) : Nat := locCode 1 2 line 63 127 cell

/-- The location of a cathode's fault: die 1, group 63, the cathode. -/
def kdLoc (k cell : Nat) : Nat := locCode 1 2 63 63 k cell

/-- The location of a fault of the HV die as a whole. -/
def hvLoc (cell : Nat) : Nat := locCode 1 2 63 63 127 cell

/-! ### Switches and masks -/

/-- The drive may act: Hawkmoth releases the inhibit path, EMIT_EN is high, VHV is in its window and no driver shutdown is in
force (R228, R229, R239, R277, R956). -/
def Dev.driveFree (d : Dev) : Bool := !d.inhibited && d.hm.emitEn && !d.vhvOut && !d.ob O.EM_TSD_ACTIVE

/-- Lines of a mask that are not barred (R219, R261). -/
def Dev.effAn (d : Dev) (an : Nat) : Nat := an &&& (0xFF - d.o O.EM_BAR_AN)

/-- Cathodes of a mask that are not barred. -/
def Dev.effKd (d : Dev) (kd : Nat) : Nat := kd &&& (0xFFFF - d.o O.EM_BAR_KD)

/-- The switches of the line set in force close where the drive may act (R226, R240). -/
def Dev.closeLines (d : Dev) : Dev :=
  { d with em := { d.em with closed := if d.driveFree then d.effAn d.em.lines else 0 } }

/-- The setpoints of a level loaded into the line DACs (R222, R223). -/
def Dev.loadLevel (d : Dev) (lev : Nat) : Dev :=
  { d with em := { d.em with setp := (List.range 8).map (fun a => d.o O.EM_LEVEL_SET (8 * lev + a)), tripped := 0 } }

/-- A new line set in force: its switches change and its setpoints load (R223, R226). -/
def Dev.lineSet (d : Dev) (an lev : Nat) : Dev := (({ d with em := { d.em with lines := an } }).loadLevel lev).closeLines

/-- EM_STATE: 0 OFF, 1 READY, 2 TEST, 3 TSD, 4 INHIBIT. -/
def Dev.emState (d : Dev) : Nat :=
  if d.em.pass.isSome then 2 else if d.ob O.EM_TSD_ACTIVE then 3 else if d.o O.JQ_STATE == 0 then 0
  else if d.inhibited then 4 else 1

/-! ### VHV window and driver shutdown -/

/-- VHV leaves the anode window, or is found outside it (R229). -/
def Dev.vhvWindowLog (e : Env) (d : Dev) : Dev := (d.cutDrive.log e 0x020C (hvLoc 8) 1 (ofS 64 d.em.vhvMv)).hmEval e

/-- VHV as reported in mV: entry into the state outside the window is logged, return clears the fault (R229). Before the end of
fuse load the voltage is only kept: the report starts there. -/
def Dev.vhvReport (e : Env) (d : Dev) (mv : Int) : Dev :=
  let was := d.vhvOut
  let d := { d with em := { d.em with vhvMv := mv } }
  if d.vhvOut && !was && d.o O.SU_STATE != 0 then d.vhvWindowLog e else d.hmEval e

/-- VHV_ANODE_WINDOW_EXIT. -/
def Dev.vhvExit (e : Env) (d : Dev) (mv : Int) : Dev := if mv < 10000 || 48000 < mv then d.vhvReport e mv else d

/-- VHV_ANODE_WINDOW_RETURN. -/
def Dev.vhvReturn (e : Env) (d : Dev) (mv : Int) : Dev := if mv < 10000 || 48000 < mv then d else d.vhvReport e mv

/-- DRIVER_TSD_TRIP (R263): a die-1 sensor, 12 to 15. -/
def Dev.tsdTrip (e : Env) (d : Dev) (sensor : Nat) : Dev :=
  if sensor < 12 || 16 ≤ sensor || d.ob O.EM_TSD_ACTIVE then d
  else ((((d.so O.EM_TSD_ACTIVE 0 1).inc O.EM_TSD_EVENTS).cutDrive).log e 0x020A (hvLoc 6) 3 sensor).hmEval e

/-- DRIVER_TSD_RESTART (R264). -/
def Dev.tsdRestart (e : Env) (d : Dev) : Dev := if d.ob O.EM_TSD_ACTIVE then (d.so O.EM_TSD_ACTIVE 0 0).hmEval e else d

/-! ### Over-current, under-current, bars -/

/-- A peak that trips a line: above 125 % of its setpoint, or above 1,100 codes (R231). -/
def Dev.tripsAt (d : Dev) (line peak : Nat) : Bool := 5 * (d.em.setp[line]?).getD 0 < 4 * peak || 1100 < peak

/-- PULSE_OVERCURRENT (R231): the line's switch opens for the rest of the shot, which carries CUT; the peak is one of the shot's
(R230). -/
def Dev.overCurrent (d : Dev) (line peak : Nat) : Dev :=
  match d.jq.flight with
  | some f =>
    if d.tripsAt line peak && f.emitted && f.wins && f.supp.isNone && line < 8 && bit f.an line && !bit d.em.tripped line then
      let d := d.inc O.EM_AN_OVER line
      let n := tget 0 d.em.fired line
      { d with jq := { d.jq with flight := some { f with cut := true } },
               em := { d.em with peaks := tset 0 d.em.peaks line (max peak (tget 0 d.em.peaks line)), tripped := setBit d.em.tripped line true, closed := setBit d.em.closed line false,
                                 overs := tset [] d.em.overs line (n :: tget [] d.em.overs line) } }
    else d
  | none => d

/-- Three over-current events within 16 consecutive shots that fire the line (R233). -/
def Dev.overDue (d : Dev) (line : Nat) : Bool :=
  let n := tget 0 d.em.fired line
  3 ≤ ((tget [] d.em.overs line).filter (fun m => n < m + 16)).length

/-- Three consecutive under-current shots (R233). -/
def Dev.underDue (d : Dev) (line : Nat) : Bool := 3 ≤ tget 0 d.em.unders line

/-- LINE_BAR (R233, Table 04-6). -/
def Dev.lineBar (e : Env) (d : Dev) (line : Nat) : Dev :=
  if 8 ≤ line || !(d.overDue line || d.underDue line) then d
  else
    let isOver := d.overDue line
    let d := d.so O.EM_BAR_AN 0 (setBit (d.o O.EM_BAR_AN) line true)
    let d := { d with em := { d.em with overs := tset [] d.em.overs line [], unders := tset 0 d.em.unders line 0,
                                        closed := setBit d.em.closed line false } }
    if isOver then d.log e 0x0209 (lineLoc line 5) 2 else d.log e 0x0208 (lineLoc line 4) 2

/-- A shot fires its lines: each counts it, and has the largest peak measured so far (R230, R233). A fired line that is not listed
had no current. -/
def Dev.peakStart (d : Dev) (an : Nat) (peaks : List (Nat × Nat)) : Dev :=
  ((List.range 8).filter (bit an)).foldl (fun d l =>
    { d with em := { d.em with fired := tset 0 d.em.fired l (tget 0 d.em.fired l + 1),
                               peaks := tset 0 d.em.peaks l (((peaks.find? (fun p => p.1 == l)).map Prod.snd).getD 0) } }) d

/-- The largest peaks of a shot stored and its under-current checked, after its last pulse (R230, R232): with the close of its windows
(log entry 230). -/
def Dev.peakCheck (d : Dev) (an : Nat) : Dev :=
  ((List.range 8).filter (bit an)).foldl (fun d l =>
    let pk := tget 0 d.em.peaks l
    let sp := (d.em.setp[l]?).getD 0
    let d := d.so O.EM_AN_PEAK_LAST l (satN 65535 pk)
    if 64 ≤ sp && 2 * pk < sp then
      let d := d.inc O.EM_AN_UNDER l
      { d with em := { d.em with unders := tset 0 d.em.unders l (tget 0 d.em.unders l + 1) } }
    else { d with em := { d.em with unders := tset 0 d.em.unders l 0 } }) d

/-! ### Test passes (R257 to R262) -/

/-- A pass is due: a start, a request, or a period since the last start (R257, R258). -/
def Dev.passWanted (e : Env) (d : Dev) : Bool :=
  d.em.startPass || d.em.req ||
  (match d.em.passLast with
   | some t => t + 1500000 * d.o O.EM_TEST_PERIOD ≤ e.now
   | none => true)

/-- A test pass starts: every anode switch open. -/
def Dev.passStart (e : Env) (d : Dev) : Dev :=
  let d := d.domOn e 93
  { d with em := { d.em with pass := some e.now, passLast := some e.now, req := false, startPass := false, closed := 0,
                             passClear := d.em.barClear, barClear := false } }

/-- A drive fault of Table 04-6, row `r` from 1 on, at a line or cathode: bar and entry. -/
def Dev.driveFault (e : Env) (d : Dev) (r i : Nat) : Dev :=
  if r == 1 || r == 2 then
    (d.so O.EM_BAR_KD 0 (setBit (d.o O.EM_BAR_KD) i true)).log e (0x0200 + r) (kdLoc i (r - 1)) 2
  else if r == 3 || r == 4 then d.log e (0x0200 + r) (kdLoc i (r - 1)) 3
  else if r == 5 || r == 6 then
    (d.so O.EM_BAR_AN 0 (setBit (d.o O.EM_BAR_AN) i true)).log e (0x0200 + r) (lineLoc i (r - 5)) 2
  else if r == 7 then d.log e (0x0200 + r) (lineLoc i 2) 3
  else d

/-- The faults of a pass that name an output the part has. -/
def passFaults (l : List (Nat × Nat)) : List (Nat × Nat) :=
  l.filter (fun p => (1 ≤ p.1 && p.1 ≤ 4 && p.2 < 16) || (5 ≤ p.1 && p.1 ≤ 7 && p.2 < 8))

/-- TEST_PASS_END (R260, R262): 40 µs after the start. -/
def Dev.passEnd (e : Env) (d : Dev) (faults : List (Nat × Nat)) : Dev :=
  match d.em.pass with
  | none => d
  | some t =>
    if e.now < t + 60000 then d
    else
      let fs := passFaults faults
      let kd := fs.foldl (fun m p => if p.1 ≤ 4 then setBit m p.2 true else m) 0
      let an := fs.foldl (fun m p => if 5 ≤ p.1 then setBit m p.2 true else m) 0
      let d := if d.em.passClear then d.sos [(O.EM_BAR_AN, 0, d.o O.EM_BAR_AN &&& an), (O.EM_BAR_KD, 0, d.o O.EM_BAR_KD &&& kd)]
        else d
      let d := fs.foldl (fun d p => d.driveFault e p.1 p.2) d
      let d := d.sos [(O.EM_TEST_LAST_TIME, 0, e.now), (O.EM_TEST_RESULT, 0, (kd <<< 8) + an)]
      let d := { d with em := { d.em with pass := none, passDone := some e.now, passClear := false },
                        hm := { d.hm with hvDrive := fs.any (fun p => p.1 == 3 || p.1 == 4 || p.1 == 7) } }
      let d := if d.o O.JQ_STATE == 0 then d.domOff 93 else d
      d.hmEval e

/-- EM_TEST_STARVED (R259): another second without a completed pass while Jacquard runs. Table 18-4 has no row for its entry: of
its code the subsystem 2 is given (Table 18-3) and the index is free, of its location the subsystem, the tile 63 and the zero
of [31] are given (Tables 01-7 and 01-8) and the other fields are free. -/
def Dev.testStarved (e : Env) (d : Dev) : Dev :=
  let from_ := max d.em.starveAt ((d.em.passDone).getD 0)
  if d.o O.JQ_STATE != 0 && from_ + 1500000000 ≤ e.now then
    let d := ({ d with em := { d.em with starveAt := e.now } }).inc O.EM_TEST_STARVED
    let (c, d) := d.freeVal 8
    let (l, d) := d.freeVal 20
    d.log e (0x0200 + c) (locCode (l % 2) 2 (bits l 1 6) 63 (bits l 7 7) (bits l 14 6)) 0
  else d

/-- EM_BAR_CLEAR written 1 (R262). -/
def Dev.barClearReq (d : Dev) : Dev := { d with em := { d.em with req := true, barClear := true } }

/-- EM_TEST_REQ written 1 (R258). -/
def Dev.testReq (d : Dev) : Dev := { d with em := { d.em with req := true } }

/-! ### Twill -/

/-- The share of a module without SEQ and CHK (Table 04-4, R246). -/
def Dev.shareOf (d : Dev) (an lev m : Nat) : Nat :=
  let b := d.o O.TW_MOD_BIND m
  let user := d.o O.TW_MOD_USER m <<< 8
  if b < 8 then
    (if bit (d.effAn an) b then (1 <<< 31) + (d.o O.EM_LEVEL_SET (8 * lev + b) <<< 21) + user
     else (d.o O.EM_LEVEL_SET (8 * lev + b) <<< 21) + user)
  else if b == 8 then (1 <<< 31) + (d.o O.TW_MOD_ISET m <<< 21) + user
  else user

/-- The shares of a shot. -/
def Dev.sharesOf (d : Dev) (an lev : Nat) : List Nat := (List.range (d.o O.TW_MODULES)).map (d.shareOf an lev)

/-- The shares of the string at a start: every FIRE_EN 0 (R256). DESIGN CHOICE (log entry 232): their other fields are those of the
start entry's LEVEL and of the modules' own objects. -/
def Dev.sharesIdle (d : Dev) (an lev : Nat) : List Nat := (d.sharesOf an lev).map (fun s => setBit s 31 false)

/-- XOR of the seven nibbles [31:4]. -/
def twChk (w : Nat) : Nat := (List.range 7).foldl (fun x i => x ^^^ bits w (4 + 4 * i) 4) 0

/-- A word with SEQ and CHK put in. -/
def twWord (w seq : Nat) : Nat := w + (seq <<< 4) + twChk (w + (seq <<< 4))

/-- The words of a string: the shares and the probe (R244, R247). -/
def twWords (shares : List Nat) (seq : Nat) : List Nat := shares.map (twWord · seq) ++ [twWord 0xC396A500 seq]

/-- The duration of a string and its latch hold in coarse periods (R241, R242). -/
def Dev.twCp (d : Dev) : Nat :=
  let n := d.o O.TW_MODULES
  3 * ((n + 1) * 800 + max (d.o O.TW_LATCH_NS) (1050 + 50 * n))

/-- The high time of a bit's 25 ns cell in ns (R241). -/
def twHigh (b : Bool) : Nat := if b then 16 else 8

/-- The cells of a word on TWL_OUT, most significant bit first (R241). -/
def twCells (w : Nat) : List Nat := (List.range 32).map (fun i => twHigh (bit w (31 - i)))

/-- What a high time on TWL_RET reads as: '0' below 12 ns, '1' up to 20 ns, none a code violation (R243). -/
def twRead (ns : Nat) : Option Bool := if ns < 12 then some false else if ns ≤ 20 then some true else none

/-- The word that returned cells spell, the first bit the most significant. -/
def twReadWord (highs : List Nat) : Nat := highs.foldl (fun w h => 2 * w + b2n ((twRead h).getD false)) 0

/-- A string starts on TWL_OUT at a coarse period (R248, R249). -/
def Dev.twStart (d : Dev) (t : Nat) (shares : List Nat) : Dev :=
  let words := twWords shares d.em.twSeq
  let d := (d.inc O.TW_STRINGS).send (.twill words (words.flatMap twCells))
  { d with em := { d.em with twSeq := (d.em.twSeq + 1) % 16, resend := false,
                             wire := some { words := words, shares := shares, latchAt := t + d.twCp } } }

/-- Whether a shot's shares still need a string of their own (R248, R254). -/
def Dev.twNeeds (d : Dev) (s : Shot) : Bool :=
  d.ob O.TW_ENABLE && (d.em.resend || d.sharesOf (entAn s.ent) (entLevel s.ent) != d.em.latched)

/-- The earliest shot boundary that the shot's string allows (R250): none while its string has not started. -/
def Dev.twBound (d : Dev) (s : Shot) (prefire : Nat) : Option Nat :=
  if !d.ob O.TW_ENABLE then some 0
  else
    match d.em.wire with
    | some w => if w.shares == d.sharesOf (entAn s.ent) (entLevel s.ent) then some (w.latchAt + 240 - prefire) else none
    | none => if d.twNeeds s then none else some 0

/-- TWILL_CHAIN_CHECK (R243, R252 to R254): at the end of the latch hold the string latches and the cells returned, by their high
times in ns, are checked. A high that still lasts is no bit that has arrived; longer than 20 ns it is a code violation already. DESIGN CHOICE (log entry
233): a completed high longer than 20 ns counts as a bit that has arrived. -/
def Dev.twCheck (e : Env) (d : Dev) (highs : List Nat) (high : Option Nat) : Dev :=
  match d.em.wire with
  | none => d
  | some w =>
    if 2 * e.now + 1 < w.latchAt then d
    else
      let n := highs.length
      let ok := n == 32 && (highs ++ high.toList).all (fun h => (twRead h).isSome) && twReadWord highs == (w.words.getLast?).getD 0
      let st := if ok then 0 else if 64 ≤ n then 1 else if n == 0 then 2 else 3
      let d := d.sos [(O.TW_RET_BITS, 0, satN 65535 n), (O.TW_STATUS, 0, st)]
      let d := if ok then d else d.inc O.TW_CHECK_FAIL
      { d with em := { d.em with wire := none, latched := w.shares, twOk := ok, resend := !ok,
                                 twFails := if ok then 0 else d.em.twFails + 1 } }

/-- TWILL_DISABLE (R255): three failed checks in a row. -/
def Dev.twDisable (e : Env) (d : Dev) : Dev :=
  if 3 ≤ d.em.twFails && d.ob O.TW_ENABLE then
    let d := d.sos [(O.TW_ENABLE, 0, 0), (O.TW_STATUS, 0, 4)]
    ({ d with em := { d.em with twOk := false, wire := none } }).log e 0x020B (locCode 0 2 63 63 16 7) 2
  else d

/-- TW_ENABLE landed: written 1 it ends a disabling fault (Table 18-4), whose failed check still asks for the string again (R254);
written 0 it ends the string on the wire. Whether the last check passed, and the shares latched last, stay as they are (R248,
R251). -/
def Dev.twEnabled (d : Dev) (v : Nat) : Dev :=
  let d := if v == 1 && d.o O.TW_STATUS == 4 then { (d.so O.TW_STATUS 0 0) with em := { d.em with twFails := 0 } } else d
  let d := d.so O.TW_ENABLE 0 v
  if v == 1 then d else { d with em := { d.em with wire := none } }

end Sys2Proof.Machine
end

