-- ==== Sys2Proof/Machine/Receive.lean ====
section
/-! DEFINITION. The receive front end (chapter 06): group power, gain policies and ranges, verdicts, thresholds, Voile spans,
detector bias, input faults and the dark-rate watch, Skipper takeover and repair. -/

namespace Sys2Proof.Machine

/-- A location of subsystem 4 or 5 in a receive group (Table 01-8). -/
def rxLoc (sub g pos cell : Nat) : Nat := locCode 0 sub g 63 pos cell

/-! ### Group power states (Table 06-3) -/

/-- Domains of a group and of its histogram tile follow the group's state (Table 17-3). -/
def Dev.groupDom (e : Env) (d : Dev) (g : Nat) : Dev :=
  let on := fun (k : Nat) => d.o O.RX_GROUP_STATE k != 0 || bit d.rx.calHold k
  let t := g / 4
  (d.domSet e g (on g)).domSet e (64 + t) ((List.range 4).any (fun i => on (4 * t + i)))

/-- A group put into a state. -/
def Dev.groupSet (e : Env) (d : Dev) (g st : Nat) : Dev := (d.so O.RX_GROUP_STATE g st).groupDom e g

/-- A wake request for a group (R182, R321, R959). -/
def Dev.groupWake (e : Env) (d : Dev) (g : Nat) : Dev :=
  let st := d.o O.RX_GROUP_STATE g
  if st == 0 || st == 2 then
    let d := if st == 0 then d.inc O.RX_GROUP_WAKES g else d
    let d := { d with rx := { d.rx with wakeAt := tset 0 d.rx.wakeAt g e.now, wakeFrom := tset 0 d.rx.wakeFrom g st,
                                        stepHeld := tset 0 d.rx.stepHeld g 0 } }
    d.groupSet e g 1
  else if st == 1 then { d with rx := { d.rx with stepHeld := tset 0 d.rx.stepHeld g 0 } }
  else d

/-- A step-down to OFF or STANDBY (R183, R185, R959); a pass holds its group ACTIVE (R563). -/
def Dev.groupDown (e : Env) (d : Dev) (g : Nat) (off : Bool) : Dev :=
  let st := d.o O.RX_GROUP_STATE g
  if bit d.rx.calHold g then d
  else if st == 3 then d.groupSet e g (if off then 0 else 2)
  else if st == 2 && off then d.groupSet e g 0
  else if st == 1 then { d with rx := { d.rx with stepHeld := tset 0 d.rx.stepHeld g (if off then 1 else 2) } }
  else d

/-- GROUP_WAKE_DONE: 200 ns after a wake from STANDBY; 40 µs after one from OFF, when the self-check passes. -/
def Dev.groupWakeDone (e : Env) (d : Dev) (g : Nat) (ok : Bool) : Dev :=
  let t := tget 0 d.rx.wakeAt g
  let cold := tget 0 d.rx.wakeFrom g == 0
  if d.o O.RX_GROUP_STATE g != 1 then d
  else if (if cold then !ok || e.now < t + 60000 else e.now < t + 300) then d
  else
    let held := tget 0 d.rx.stepHeld g
    let d := ({ d with rx := { d.rx with stepHeld := tset 0 d.rx.stepHeld g 0 } }).groupSet e g 3
    if held == 0 then d else d.groupDown e g (held == 1)

/-- GROUP_WAKE_FAIL: 100 µs after a wake from OFF without a pass. -/
def Dev.groupWakeFail (e : Env) (d : Dev) (g : Nat) : Dev :=
  if d.o O.RX_GROUP_STATE g == 1 && tget 0 d.rx.wakeFrom g == 0 && tget 0 d.rx.wakeAt g + 150000 ≤ e.now then
    (({ d with rx := { d.rx with stepHeld := tset 0 d.rx.stepHeld g 0 } }).groupSet e g 4).log e 0x0406 (rxLoc 4 g 127 5) 2
  else d

/-- RX_GROUP_RETRY written 1 (Table 06-3, R960). -/
def Dev.groupRetry (e : Env) (d : Dev) (g : Nat) : Dev := if d.o O.RX_GROUP_STATE g == 4 then d.groupSet e g 0 else d

/-! ### Gain policies and ranges (R307 to R314) -/

/-- RSTART, RMIN, RMAX and MODE of a policy word (Table 06-2). -/
def polStart (p : Nat) : Nat := bits p 2 2
def polMin (p : Nat) : Nat := bits p 4 2
def polMax (p : Nat) : Nat := bits p 6 2
def polMode (p : Nat) : Nat := bits p 0 2
/-- HIGH and LOW of a policy word in µV, and HOLD. -/
def polHigh (p : Nat) : Nat := bits p 8 4 * 31250
def polLow (p : Nat) : Nat := bits p 12 4 * 31250
def polHold (p : Nat) : Nat := bits p 16 8

/-- Whether a policy word is accepted (R308, R31). -/
def policyOk (p : Nat) : Bool :=
  bits p 24 8 == 0 && polMode p < 2 && polMin p ≤ polStart p && polStart p ≤ polMax p && polHold p != 0 &&
    4 * bits p 12 4 < bits p 8 4

/-- The range of a channel under R311, for the policy word of the shot. -/
def Dev.rangeOf (d : Dev) (ch pol : Nat) : Nat :=
  let f := d.o O.RX_RANGE_FORCE ch
  if f ≤ 3 then f
  else if polMode pol == 0 then polStart pol
  else min (max (tget 0 d.rx.rIdx ch) (polMin pol)) (polMax pol)

/-- The range index of a channel's first shot since the start (R313). -/
def Dev.rangeInit (d : Dev) (pol ch : Nat) : Dev :=
  if bit d.rx.rSet ch then d
  else { d with rx := { d.rx with rIdx := tset 0 d.rx.rIdx ch (polStart pol), quiet := tset 0 d.rx.quiet ch 0,
                                  rSet := setBit d.rx.rSet ch true } }

/-- The range of a channel for a shot, and the range its accumulation group holds (R314): a shot of no group that lights a channel
of an open group runs in the range which that group holds. -/
def Dev.shotRange (d : Dev) (ch pol : Nat) (acc : Option Nat) : Nat × Dev :=
  let r := d.rangeOf ch pol
  let h := tget (0, 0) d.rx.held ch
  match acc with
  | none => (if d.ex.groups.any (fun p => p.1 + 1 == h.1 && !p.2.closed && bit p.2.chans ch) then h.2 else r, d)
  | some i =>
    if h.1 == i + 1 then (h.2, d) else (r, { d with rx := { d.rx with held := tset (0, 0) d.rx.held ch (i + 1, r) } })

/-- A verdict on a channel's range index and quiet count under policy AUTO (R310, R312). -/
def Dev.verdict (d : Dev) (ch pol : Nat) (sat : Bool) (peak : Nat) : Dev :=
  if polMode pol != 1 || d.o O.RX_RANGE_FORCE ch ≤ 3 then d
  else
    let r := tget 0 d.rx.rIdx ch
    let q := tget 0 d.rx.quiet ch
    let p : Nat × Nat :=
      if sat then (max (r - 2) (polMin pol), 0)
      else if polHigh pol ≤ peak then (max (r - 1) (polMin pol), 0)
      else if peak < polLow pol then
        (if polHold pol ≤ q + 1 then (min (r + 1) (polMax pol), 0) else (r, q + 1))
      else (r, 0)
    { d with rx := { d.rx with rIdx := tset 0 d.rx.rIdx ch p.1, quiet := tset 0 d.rx.quiet ch p.2 } }

/-- A force lifted: r goes on from the last forced range (R312), also where no shot since the start has lit the channel (R313). -/
def Dev.forceLanded (d : Dev) (ch old new : Nat) : Dev :=
  if old ≤ 3 && 3 < new then
    { d with rx := { d.rx with rIdx := tset 0 d.rx.rIdx ch old, quiet := tset 0 d.rx.quiet ch 0, rSet := setBit d.rx.rSet ch true } }
  else d

/-- The range of a window shown and its change counted (R311). -/
def Dev.rangeShow (d : Dev) (ch r : Nat) : Dev :=
  let d' := if bit d.rx.hadWin ch && d.o O.RX_RANGE_NOW ch != r then d.inc O.RX_RANGE_STEPS ch else d
  { (d'.so O.RX_RANGE_NOW ch r) with rx := { d'.rx with hadWin := setBit d'.rx.hadWin ch true } }

/-! ### Thresholds -/

/-- The codes loaded for a channel: base plus adaptation, clamped and put in order (R303, R304). -/
def Dev.loadCodes (d : Dev) (ch : Nat) (adapt : Int × Int × Int) : Dev :=
  let c := fun (idx : Nat) (a : Int) => (clampI 0 1023 ((d.o idx ch : Int) + a)).toNat
  let ca := c O.RX_TH_A_BASE adapt.1
  let cb := max (c O.RX_TH_B_BASE adapt.2.1) ca
  let cc := max (c O.RX_TH_C_BASE adapt.2.2) cb
  d.so O.RX_TH_LOADED ch ((cc <<< 20) + (cb <<< 10) + ca)

/-! ### Detector bias -/

/-- The channels of an output may yield records (R328). -/
def Dev.biasGood (d : Dev) (b : Nat) : Bool := [2, 3, 7].contains (d.o O.RX_BIAS_STATUS b)

/-- The channel yields records: its bias output regulates and it is not muted (R328, R333). -/
def Dev.muted (d : Dev) (ch : Nat) : Bool :=
  d.ob O.RX_CH_MUTE ch || [2, 3, 4].contains (d.o O.RX_INPUT_STATUS ch)

/-- RX_INPUT_STATUS as a READ gives it (R328): the stored status stays as R332 says. -/
def Dev.inputStatus (d : Dev) (ch : Nat) : Nat := if d.biasGood (ch / 64) then d.o O.RX_INPUT_STATUS ch else 7

/-- A bias source's latest sample in 0.1 °C; none without a source (R323), nor from an input that is not under NTC (R814). -/
def Dev.biasTemp (d : Dev) (src : Nat) : Option Rat :=
  if src < 16 then some (d.os16 O.THM_TEMP src)
  else if src == 0xFF || d.o O.HK_UNIT (src - 0x20) != 1 then none
  else some (10 * d.of32 O.HK_PHYS (src - 0x20))

/-- The target of an output in mV (R323). -/
def Dev.biasTarget (d : Dev) (b : Nat) : Nat :=
  let v : Int := match d.biasTemp (d.o O.RX_BIAS_TSRC b) with
    | none => d.o O.RX_BIAS_SET_MV b
    | some t => roundHE ((d.o O.RX_BIAS_SET_MV b : Rat) + (d.os16 O.RX_BIAS_TCO b : Rat) * (t - (d.os16 O.RX_BIAS_TREF b : Rat)) / 100)
  (clampI 15000 65000 v).toNat

/-- A bias output as the device keeps it beside its objects. -/
def Dev.biasOut (d : Dev) (b : Nat) : Bias := tget {} d.rx.bias b

/-- A bias output replaced. -/
def Dev.setBias (d : Dev) (b : Nat) (x : Bias) : Dev := { d with rx := { d.rx with bias := tset {} d.rx.bias b x } }

/-- An output starts a ramp from a voltage. -/
def Dev.biasRamp (e : Env) (d : Dev) (b v : Nat) : Dev :=
  (d.so O.RX_BIAS_STATUS b 1).setBias b { (d.biasOut b) with vhvOff := false, rampAt := e.now, rampFrom := v }

/-- An output turned off with a status. -/
def Dev.biasOff (d : Dev) (b st : Nat) (vhv : Bool) : Dev :=
  (d.so O.RX_BIAS_STATUS b st).setBias b { (d.biasOut b) with vhvOff := vhv }

/-- Where the ramp of an output stands, in mV: the slew in force since its start, never past the target (R325). -/
def Dev.biasPos (e : Env) (d : Dev) (b : Nat) : Nat :=
  let x := d.biasOut b
  let t := d.o O.RX_BIAS_TARGET_MV b
  let dv := (e.now - x.rampAt) * d.o O.RX_BIAS_SLEW b / 1500000
  if t < x.rampFrom then max t (x.rampFrom - dv) else min t (x.rampFrom + dv)

/-- A new target of an output in force (R324, R325): one that regulates ramps to it, one that ramps goes on from where it stands,
and one in its limit ramps once it leaves the limit. -/
def Dev.biasRetarget (e : Env) (d : Dev) (b v : Nat) : Dev :=
  let old := d.o O.RX_BIAS_TARGET_MV b
  let pos := d.biasPos e b
  let st := d.o O.RX_BIAS_STATUS b
  let x := { (d.biasOut b) with next := none }
  let d := (d.so O.RX_BIAS_TARGET_MV b v).setBias b x
  if v == old then d
  else if st == 2 || st == 7 then d.biasRamp e b old
  else if st == 1 then d.biasRamp e b pos
  else if st == 3 && x.back != 1 then d.setBias b { x with back := 1, rampFrom := old }
  else d

/-- The targets computed and put in force at once (R323). -/
def Dev.biasTargets (e : Env) (d : Dev) : Dev := (List.range e.biases).foldl (fun d b => d.biasRetarget e b (d.biasTarget b)) d

/-- The targets recomputed in a housekeeping round: while Jacquard runs they wait for a frame boundary (R324). -/
def Dev.biasRound (e : Env) (d : Dev) : Dev :=
  if d.o O.JQ_STATE == 0 then d.biasTargets e
  else (List.range e.biases).foldl (fun d b => d.setBias b { (d.biasOut b) with next := some (d.biasTarget b) }) d

/-- The targets of the last round come into force: at a frame boundary, and where Jacquard has stopped (R324). -/
def Dev.biasLand (e : Env) (d : Dev) : Dev :=
  (List.range e.biases).foldl (fun d b => match (d.biasOut b).next with
    | some v => d.biasRetarget e b v
    | none => d) d

/-- RX_BIAS_SLEW landed: a ramp under way goes on from where it stands. -/
def Dev.biasSlew (e : Env) (d : Dev) (b v : Nat) : Dev :=
  let pos := d.biasPos e b
  let d := if d.o O.RX_BIAS_STATUS b == 1 then d.biasRamp e b pos else d
  d.so O.RX_BIAS_SLEW b v

/-- The bias domain follows the enables (Table 17-3). -/
def Dev.biasDom (e : Env) (d : Dev) : Dev := d.domSet e 94 ((List.range 8).any (fun b => d.ob O.RX_BIAS_ENABLE b))

/-- RX_BIAS_ENABLE landed (R327): 1 restarts an output that is off or in a fault, and ends the open warning (chapter 18). -/
def Dev.biasEnable (e : Env) (d : Dev) (b v : Nat) : Dev :=
  let st := d.o O.RX_BIAS_STATUS b
  let d := (d.so O.RX_BIAS_ENABLE b v).biasDom e
  if v == 0 then d.biasOff b 0 false
  else if [0, 4, 5, 6].contains st then
    (if d.rx.vhvLow then d.biasOff b 0 true
     else ((d.so O.RX_BIAS_TARGET_MV b (if d.o O.JQ_STATE == 0 || d.o O.RX_BIAS_TARGET_MV b == 0 then d.biasTarget b else d.o O.RX_BIAS_TARGET_MV b))).biasRamp e b 0)
  else if st == 7 then d.so O.RX_BIAS_STATUS b 2
  else d

/-- BIAS_RAMP_DONE (R325): no earlier than the slew allows. -/
def Dev.biasRampDone (e : Env) (d : Dev) (b : Nat) : Dev :=
  let x := tget {} d.rx.bias b
  let t := d.o O.RX_BIAS_TARGET_MV b
  let dv := if t < x.rampFrom then x.rampFrom - t else t - x.rampFrom
  if d.o O.RX_BIAS_STATUS b == 1 && x.rampAt * d.o O.RX_BIAS_SLEW b + dv * 1500000 ≤ e.now * d.o O.RX_BIAS_SLEW b then
    d.so O.RX_BIAS_STATUS b 2
  else d

/-- BIAS_CURRENT_LIMIT (Table 06-5): an output enters or leaves its limit. A ramp that its limit stops goes on from where it stood. -/
def Dev.biasLimit (e : Env) (d : Dev) (b : Nat) (enter : Bool) : Dev :=
  let st := d.o O.RX_BIAS_STATUS b
  let x := tget {} d.rx.bias b
  if enter && (st == 1 || st == 2 || st == 7) then
    (d.so O.RX_BIAS_STATUS b 3).setBias b
      { x with limitAt := e.now, back := st, rampFrom := if st == 1 then d.biasPos e b else x.rampFrom }
  else if !enter && st == 3 then (d.so O.RX_BIAS_STATUS b x.back).setBias b { x with rampAt := e.now }
  else d

/-- The location of a bias fault (chapter 06): die 1, group 32 + b. -/
def biasLoc (b cell : Nat) : Nat := locCode 1 4 (32 + b) 63 127 cell

/-- BIAS_OVERCURRENT_FAULT: 1 ms in limit. -/
def Dev.biasOc (e : Env) (d : Dev) (b : Nat) : Dev :=
  if d.o O.RX_BIAS_STATUS b == 3 && (tget {} d.rx.bias b).limitAt + 1500000 ≤ e.now then
    (d.biasOff b 4 false).log e 0x0410 (biasLoc b 0) 2
  else d

/-- BIAS_OVERVOLTAGE_FAULT. -/
def Dev.biasOv (e : Env) (d : Dev) (b : Nat) : Dev :=
  if [1, 2, 3, 7].contains (d.o O.RX_BIAS_STATUS b) then (d.biasOff b 5 false).log e 0x0411 (biasLoc b 1) 2 else d

/-- BIAS_UNDERVOLTAGE_FAULT: after the ramp and not in limit. -/
def Dev.biasUv (e : Env) (d : Dev) (b : Nat) : Dev :=
  if [2, 7].contains (d.o O.RX_BIAS_STATUS b) then (d.biasOff b 6 false).log e 0x0412 (biasLoc b 2) 2 else d

/-- BIAS_OPEN_WARN: while any fed group is ACTIVE. -/
def Dev.biasOpen (e : Env) (d : Dev) (b : Nat) : Dev :=
  if d.o O.RX_BIAS_STATUS b == 2 && (List.range 4).any (fun i => d.o O.RX_GROUP_STATE (4 * b + i) == 3) then
    (d.so O.RX_BIAS_STATUS b 7).log e 0x0413 (biasLoc b 3) 0
  else d

/-- BIAS_VHV_LOW: every output that is on turns off until VHV recovers. -/
def Dev.biasVhvLow (d : Dev) : Dev :=
  (List.range 8).foldl (fun d b => if [1, 2, 3, 7].contains (d.o O.RX_BIAS_STATUS b) then d.biasOff b 0 true else d)
    { d with rx := { d.rx with vhvLow := true } }

/-- BIAS_VHV_RECOVERY, and the end of a VHV lockout (R861): an output that VHV turned off ramps again. -/
def Dev.biasVhvBack (e : Env) (d : Dev) (b : Nat) : Dev :=
  let d := { d with rx := { d.rx with vhvLow := false } }
  if (tget {} d.rx.bias b).vhvOff && d.ob O.RX_BIAS_ENABLE b then d.biasRamp e b 0 else d

/-! ### Input faults and the dark-rate watch -/

/-- An input status set and logged (Table 06-7). -/
def Dev.inputSet (e : Env) (d : Dev) (ch st : Nat) : Dev :=
  let d := d.so O.RX_INPUT_STATUS ch st
  let loc := rxLoc 4 (ch / 16) (ch % 16) 4
  if 1 ≤ st && st ≤ 4 then d.log e 0x0405 loc 2 st else if st == 5 then d.log e 0x0405 loc 1 st else d

/-- INPUT_SHORT_BIAS (R329): in every group state but OFF. -/
def Dev.inputShort (e : Env) (d : Dev) (ch : Nat) : Dev :=
  if e.channels ≤ ch || d.o O.RX_GROUP_STATE (ch / 16) == 0 || d.o O.RX_INPUT_STATUS ch == 3 then d
  else ({ d with rx := { d.rx with isolated := setBit d.rx.isolated ch true } }).inputSet e ch 3

/-- A number put into a rising list. -/
def insNat (x : Nat) : List Nat → List Nat
  | [] => [x]
  | y :: ys => if x ≤ y then x :: y :: ys else y :: insNat x ys

/-- A list in rising order. -/
def sortNat (l : List Nat) : List Nat := l.foldl (fun a x => insNat x a) []

/-- The counts of a channel over the last nine sub-intervals. -/
def Dev.darkSum (d : Dev) (ch : Nat) : Nat := (tget [] d.rx.dkHist ch).foldl (fun s p => s + p.1) 0

/-- Whether the watch suspects a channel's input to be open (R331). -/
def Dev.openSuspect (d : Dev) (ch : Nat) : Bool :=
  let h := tget [] d.rx.dkHist ch
  let g := ch / 16
  let others := ((List.range 16).map (fun i => 16 * g + i)).filter (· != ch)
  h.length == 9 && d.darkSum ch == 0 && 900 ≤ h.foldl (fun s p => s + p.2) 0 &&
    8 ≤ ((sortNat (others.map d.darkSum))[7]?).getD 0

/-- DARK_RATE_WATCH (R331): the end of a sub-interval of 100 ms. -/
def Dev.darkWatch (e : Env) (d : Dev) : Dev :=
  if !d.ob O.RX_WATCH_EN || e.now < d.rx.watchAt + 150000000 then d
  else
    let hist := (List.range e.channels).foldl (fun (h : Tab (List (Nat × Nat))) c =>
      tset [] h c (((tget 0 d.rx.dkCount c, tget 0 d.rx.dkWins c) :: tget [] d.rx.dkHist c).take 9)) d.rx.dkHist
    let d := { d with rx := { d.rx with dkHist := hist, dkCount := [], dkWins := [], watchAt := d.rx.watchAt + 150000000 } }
    (List.range e.channels).foldl (fun d c =>
      let n := d.darkSum c
      let st := d.o O.RX_INPUT_STATUS c
      let d := d.so O.RX_DARK_RATE c n
      if st == 5 then (if 0 < n then d.so O.RX_INPUT_STATUS c 0 else d)
      else if (st == 0 || st == 6) && d.openSuspect c then d.inputSet e c 5
      else d) d

/-- RX_WATCH_EN landed: the watch starts its sub-intervals afresh. -/
def Dev.watchEnable (e : Env) (d : Dev) (v : Nat) : Dev :=
  if v == 1 && !d.ob O.RX_WATCH_EN then
    { (d.so O.RX_WATCH_EN 0 1) with rx := { d.rx with dkCount := [], dkWins := [], dkHist := [], watchAt := e.now } }
  else d.so O.RX_WATCH_EN 0 v

/-! ### Voile (R317 to R320) -/

/-- BLANK_N_FALL, with its stamp in LSB. -/
def Dev.blankFall (d : Dev) (t : Nat) : Dev :=
  if d.rx.blankLow.isSome then d else { d with rx := { d.rx with blankLow := some t } }

/-- BLANK_N_RISE: a low pulse shorter than 10 ns makes no span (R317). Spans that no later window can meet are dropped. -/
def Dev.blankRise (e : Env) (d : Dev) (t : Nat) : Dev :=
  match d.rx.blankLow with
  | none => d
  | some f =>
    let keep := d.rx.spans.filter (fun p => 64 * e.now ≤ p.2 + 2000000)
    let sp := if t < f + 960 then keep
      else keep ++ [(f - 96 * d.o O.RX_VOILE_LEAD_NS, t + 96 * d.o O.RX_VOILE_GUARD_NS)]
    { d with rx := { d.rx with blankLow := none, spans := sp } }

/-- The masked spans known at a time in LSB, the one under way included. -/
def Dev.maskSpans (d : Dev) (now : Nat) : List (Nat × Nat) :=
  match d.rx.blankLow with
  | some f => if f + 960 ≤ now then d.rx.spans ++ [(f - 96 * d.o O.RX_VOILE_LEAD_NS, now + 2000000)] else d.rx.spans
  | none => d.rx.spans

/-! ### Serving slices, takeover and repair (R334 to R344) -/

/-- The Skipper slice of a group. -/
def skipperOf (g : Nat) : Nat := 512 + g

/-- The value that a pending commit is to land for an element. -/
def Dev.committed (d : Dev) (k : Nat) : Option Nat := d.commit.bind (fun c => tget none c.set.vals k)

/-- A repair write of the group waits: in its shadow or in a commit that waits for its frame boundary (R340, R342). -/
def Dev.repairPending (d : Dev) (g : Nat) : Bool :=
  (tget none d.shadows (okey O.RX_REPAIR g)).isSome || (d.committed (okey O.RX_REPAIR g)).isSome

/-- RX_SKIP_STATE: REPAIR_PENDING while a repair write waits (R342), FAULTY, or who holds the Skipper. -/
def Dev.skipState (d : Dev) (g : Nat) : Nat :=
  if d.repairPending g then 4
  else if d.o O.RX_SLICE_STATUS (skipperOf g) == 1 then 5
  else tget 0 d.rx.holder g

/-- A pass of the calibration manager runs in the group. -/
def Dev.inPass (d : Dev) (g : Nat) : Bool := (tget none d.cal.pass g).isSome

/-- The channel that the Skipper of a group serves or is to serve. -/
def Dev.skipChan (d : Dev) (g : Nat) : Option Nat :=
  ((List.range 16).map (fun p => 16 * g + p)).find? (fun c =>
    match d.rx.switches.find? (fun r => r.chan == c) with
    | some r => r.slice == skipperOf g
    | none => d.o O.RX_SLICE_OF c == skipperOf g)

/-- One change of serving slice lands; a takeover is counted. -/
def Dev.serve (d : Dev) (ch s : Nat) : Dev :=
  let d := d.so O.RX_SLICE_OF ch s
  if 512 ≤ s then d.inc O.RX_TAKEOVERS (ch / 16) else d

/-- The Skipper of a group that serves no channel and is to serve none is given up; the calibration manager keeps it while its pass
runs, but for a repair that waits (R340). -/
def Dev.serveDone (d : Dev) (g : Nat) : Dev :=
  if (d.skipChan g).isSome || d.rx.switches.any (fun r => r.chan / 16 == g) ||
    (tget 0 d.rx.holder g == 1 && d.inPass g && !d.repairPending g) then d
  else { d with rx := { d.rx with holder := tset 0 d.rx.holder g 0 } }

/-- The requested changes that are ready land (R336, R339). -/
def Dev.serveThese (d : Dev) (ready : List SwitchReq) : Dev :=
  let d := { d with rx := { d.rx with switches := d.rx.switches.filter (fun r => !ready.contains r) } }
  ready.foldl (fun d r => d.serveDone (r.chan / 16)) (ready.foldl (fun d r => d.serve r.chan r.slice) d)

/-- Requested changes land at a boundary where no channel of the group with a request belongs to an open accumulation group (R336,
R565), and all of them while Jacquard is STOPPED (R339). -/
def Dev.serveLand (e : Env) (d : Dev) : Dev :=
  if d.rx.switches == [] then d
  else if d.o O.JQ_STATE == 0 then d.serveThese d.rx.switches
  else
    let held := d.openChans e
    d.serveThese (d.rx.switches.filter (fun r => !d.rx.switches.any (fun x => x.chan / 16 == r.chan / 16 && bit held x.chan)))

/-- A change of serving slice requested; it lands at once while Jacquard is STOPPED. -/
def Dev.serveReq (d : Dev) (ch s : Nat) : Dev :=
  let d := { d with rx := { d.rx with switches := d.rx.switches.filter (fun r => r.chan != ch) ++ [{ chan := ch, slice := s }] } }
  if d.o O.JQ_STATE == 0 then d.serveThese d.rx.switches else d

/-- The Skipper of a group is free for a takeover (R335, R342, R344). -/
def Dev.skipFree (d : Dev) (g : Nat) : Bool := d.skipState g == 0

/-- A takeover of a position by a holder: 1 calibration, 2 host. -/
def Dev.takeover (d : Dev) (g pos who : Nat) : Dev :=
  ({ d with rx := { d.rx with holder := tset 0 d.rx.holder g who } }).serveReq (16 * g + pos) (skipperOf g)

/-- The taken-over channel of a group goes back to its home slice. A switch that has not landed is withdrawn; the Skipper is held
until the channel is home. -/
def Dev.takeBack (d : Dev) (g : Nat) : Dev :=
  match d.skipChan g with
  | none => if d.rx.switches.any (fun r => r.chan / 16 == g) then d else { d with rx := { d.rx with holder := tset 0 d.rx.holder g 0 } }
  | some c => d.serveReq c c

/-- RX_SKIP_REQ written a position (R344): the value checks have found the Skipper free. -/
def Dev.skipTake (d : Dev) (g pos : Nat) : Dev := (d.so O.RX_SKIP_REQ g pos).takeover g pos 2

/-- The repair write of a group that waits. -/
def Dev.repairNext (d : Dev) (g : Nat) : Option Nat :=
  match tget none d.shadows (okey O.RX_REPAIR g) with
  | some v => some v
  | none => d.committed (okey O.RX_REPAIR g)

/-- A channel whose serving slice reads FAULTY and that no repair can help (R574): the group's Skipper reads FAULTY as well, or it
serves or is to serve the repair of another position. -/
def Dev.noRepair (d : Dev) (g c : Nat) : Bool :=
  d.o O.RX_SLICE_STATUS (d.o O.RX_SLICE_OF c) == 1 &&
    (d.o O.RX_SLICE_STATUS (skipperOf g) == 1 ||
      (match d.repairNext g with
       | some v => v < 16 && v != c % 16
       | none => d.o O.RX_REPAIR g < 16))

/-- The channels of a group that stay without records are logged, each once (R574). -/
def Dev.repairLost (e : Env) (d : Dev) (g : Nat) : Dev :=
  (List.range 16).foldl (fun d pos =>
    let c := 16 * g + pos
    if !d.noRepair g c || bit d.cal.noRepair c then d
    else ({ d with cal := { d.cal with noRepair := setBit d.cal.noRepair c true } }).log e 0x0407 (rxLoc 4 g pos 63) 2) d

/-- The repair in force of a group changes (R340): the old channel goes home and the new one to the Skipper. -/
def Dev.repairLand (e : Env) (d : Dev) (g v : Nat) : Dev :=
  let old := d.o O.RX_REPAIR g
  let d :=
    if old < 16 then
      let c := 16 * g + old
      let d := (d.so O.RX_SLICE_STATUS c (tget 0 d.rx.homeStatus g)).so O.RX_SLICE_OF c c
      { d with rx := { d.rx with holder := tset 0 d.rx.holder g 0 } }
    else d
  let d := d.so O.RX_REPAIR g v
  let d :=
    if v < 16 then
      let c := 16 * g + v
      let d := { d with rx := { d.rx with holder := tset 0 d.rx.holder g 3, homeStatus := tset 0 d.rx.homeStatus g (d.o O.RX_SLICE_STATUS c) } }
      (((d.so O.RX_SLICE_STATUS c 2).so O.RX_SLICE_OF c (skipperOf g))).inc O.RX_TAKEOVERS g
    else d
  d.repairLost e g

/-- A repair that is to land waits while the Skipper is in takeover (R340). -/
def Dev.repairWaits (d : Dev) (g : Nat) : Bool := tget 0 d.rx.holder g == 1 || tget 0 d.rx.holder g == 2

/-- A repair that waited for the Skipper lands while Jacquard is STOPPED (R340, R81). -/
def Dev.repairSettle (e : Env) (d : Dev) (g : Nat) : Dev :=
  match tget none d.shadows (okey O.RX_REPAIR g) with
  | some v =>
    if d.o O.JQ_STATE == 0 && !d.repairWaits g then
      ({ d with shadows := tset none d.shadows (okey O.RX_REPAIR g) none }).repairLand e g v
    else d
  | none => d

/-- RX_SKIP_REQ written 0xFF: the host's takeover returns, and a repair that waited for it may land. -/
def Dev.skipReturn (e : Env) (d : Dev) (g : Nat) : Dev :=
  let d := d.so O.RX_SKIP_REQ g 0xFF
  if tget 0 d.rx.holder g == 2 then (d.takeBack g).repairSettle e g else d

/-! ### Shots and groups -/

/-- The channels a shot lights: none for a MOVE or a shot suppressed at decode (R195), none of a FAILED group (R322). -/
def Dev.shotChans (e : Env) (d : Dev) (s : Shot) : Nat := if s.move || s.thinned then 0 else d.entChans e s.ent

/-- A shot lights a group. -/
def Dev.shotLights (e : Env) (d : Dev) (s : Shot) (g : Nat) : Bool := bits (d.shotChans e s) (16 * g) 16 != 0

/-- A group that no window holds ACTIVE steps down: under R185 while Jacquard is STOPPED, else under R183 and R184. -/
def Dev.groupIdle (e : Env) (d : Dev) (g : Nat) : Dev :=
  let pol := d.o O.JQ_GROUP_POLICY g
  if d.o O.JQ_STATE == 0 then d.groupDown e g (pol == 0)
  else if pol == 2 || d.jq.flight.any (fun f => d.shotLights e f.shot g) then d
  else
    match d.jq.queue.filter (fun s => !s.move) with
    | [] => d.groupDown e g (pol == 0)
    | s :: rest =>
      if d.shotLights e s g then d
      else if rest.any (fun x => d.shotLights e x g) then d.groupDown e g false
      else d.groupDown e g (pol == 0)

end Sys2Proof.Machine
end

