-- ==== Sys2Proof/Machine/Timing.lean ====
section
/-! DEFINITION. Echo timing (chapter 07): the interpolator and its calibration, comparator edges, merges and the stamp limit,
acceptance spans, Voile masking, times of flight, the emission stamp and the statistics engine. -/

namespace Sys2Proof.Machine

/-! ### Interpolator -/

/-- A calibration is plausible (R375), in 1/8 code. -/
def calOk (c1 c2 : Nat) : Bool := 192 ≤ c1 && c1 ≤ 384 && c1 + 192 ≤ c2 && c2 ≤ c1 + 384

/-- Position of a code inside its period in 1/512 (R376): clamped to [0, 1], rounded half to even. -/
def interpU (c1 c2 r : Nat) : Int :=
  let f : Rat := (8 * (r : Rat) - c1) / ((c2 : Rat) - c1)
  roundHE (512 * (if f < 0 then 0 else if 1 < f then 1 else f))

/-- S16 of a crossing in coarse period `k` with code `r` on a slice (R376). -/
def Dev.s16Of (d : Dev) (slice k r : Nat) : Int :=
  let u := interpU (d.o O.TDC_C1 slice) (d.o O.TDC_C2 slice) r
  let j := (clampI 0 31 (u / 16)).toNat
  512 * ((k : Int) + 1) - (u + tget 0 d.tdc.q (slice * 32 + j))

/-- The 19-bit time of a stamp (R353). -/
def timeOf (s16 : Int) : Int := divHE s16 16

/-- The calibration of a slice in the pre-fire sequence (R374 to R377): `m` lists the measured codes; a slice that is not listed
measures its last plausible ones. -/
def Dev.interpCal (d : Dev) (m : List (Nat × Nat × Nat)) (slice : Nat) : Dev :=
  let c := (m.find? (fun p => p.1 == slice)).map Prod.snd
  let p := c.getD (d.o O.TDC_C1 slice, d.o O.TDC_C2 slice)
  if calOk p.1 p.2 then
    let d := (d.so O.TDC_C1 slice p.1).so O.TDC_C2 slice p.2
    { d with tdc := { d.tdc with implaus := tset 0 d.tdc.implaus slice 0 } }
  else
    { d with tdc := { d.tdc with implaus := tset 0 d.tdc.implaus slice (tget 0 d.tdc.implaus slice + 1) },
             rx := { d.rx with badCal := slice :: d.rx.badCal } }

/-- The slice yields no stamps (R378). -/
def Dev.stalled (d : Dev) (slice : Nat) : Bool := 8 ≤ tget 0 d.tdc.implaus slice

/-- INTERP_CAL_STALL (R378): the open windows of the slice, too, yield no stamps. -/
def Dev.calStall (d : Dev) (slice : Nat) : Dev :=
  if d.stalled slice then
    { d with rx := { d.rx with windows := d.rx.windows.map (fun w =>
        if w.slice == slice then { w with silent := true, stamps := [] } else w) } }
  else d

/-- SLICE_INTERP_FAULTY (R379). -/
def Dev.sliceFaulty (e : Env) (d : Dev) (slice : Nat) : Dev :=
  if slice < 544 && 1024 ≤ tget 0 d.tdc.implaus slice && d.o O.RX_SLICE_STATUS slice != 1 then
    let g := if slice < 512 then slice / 16 else slice - 512
    let pos := if slice < 512 then slice % 16 else 16
    (d.so O.RX_SLICE_STATUS slice 1).log e 0x0501 (rxLoc 5 g pos 63) 2
  else d

/-! ### Windows -/

/-- The end of the acceptance span in coarse periods, for a window of `l` (R356). -/
def Dev.acceptEnd (d : Dev) (l : Nat) : Nat :=
  let a := d.o O.TDC_ACCEPT_END
  if a == 0 || l < a then l else a

/-- The near-field gate in LSB from window zero: 96 LSB to a nanosecond. -/
def Dev.nfGate (d : Dev) : Nat := 96 * d.o O.RX_NF_LEN_NS

/-- The stamp span of a window in LSB: the acceptance span, of which a MUTE gate takes the start (R315, R362). -/
def Dev.stampLo (d : Dev) : Nat :=
  let a := 32 * d.o O.TDC_ACCEPT_START
  if d.o O.RX_NF_MODE == 2 then max a d.nfGate else a

/-- The end of the stamp span. -/
def Dev.stampHi (d : Dev) (l : Nat) : Nat := 32 * d.acceptEnd l

/-- A stamp at an S16 carries the near-field mark (R316). -/
def Dev.nfMark (d : Dev) (s16 : Int) : Bool := d.o O.RX_NF_MODE == 1 && timeOf s16 < d.nfGate

/-- Comparator `th` of a window. -/
def Win.cmp (w : Win) (th : Nat) : Cmp := (w.cmps[th]?).getD {}

/-- A window with a comparator changed. -/
def Win.setCmp (w : Win) (th : Nat) (c : Cmp) : Win := { w with cmps := w.cmps.set th c }

/-- A window with a stamp taken. -/
def Win.push (w : Win) (s : Stamp) : Win := { w with stamps := s :: w.stamps }

/-- Stamps taken and falling stamps reserved: one for each stamped comparator that is high, and the held ones (R369). -/
def Win.load (w : Win) : Nat :=
  w.stamps.length + (w.cmps.filter (fun c => (c.high && c.stamped) || c.hold.isSome)).length

/-- The stamp span of a window opens: comparators that are high get a rising stamp (R359, R361, R362). -/
def Dev.spanOpen (d : Dev) (w : Win) : Win :=
  let lo : Int := 16 * d.stampLo
  if w.opened then w
  else
    (List.range 3).foldl (fun w th =>
      let c := w.cmp th
      if c.high && !c.ignored then
        (w.push { th := th, rise := true, s16 := lo, nf := d.nfMark lo, sat := false, trunc := true }).setCmp th { c with stamped := true }
      else w) { w with opened := true }

/-- The stamp span of a window closes: a held stamp leaves as measured, a high comparator gets a falling stamp at the last LSB
(R360, R361, R366). -/
def Dev.spanClose (d : Dev) (l : Nat) (w : Win) : Win :=
  let hi : Int := 16 * ((d.stampHi l : Int) - 1)
  if w.closed then w
  else
    (List.range 3).foldl (fun w th =>
      let c := w.cmp th
      match c.hold with
      | some s => (w.push s).setCmp th { c with hold := none }
      | none =>
        if c.high && c.stamped then
          (w.push { th := th, rise := false, s16 := hi, nf := d.nfMark hi, sat := c.sat, trunc := true }).setCmp th
            { c with stamped := false, cut := true }
        else w) { w with closed := true }

/-- The stamp span of a window up to a time in LSB: its opening and its close where they have come. An empty span has neither
(R357). -/
def Dev.spanTo (d : Dev) (l : Nat) (t : Int) (w : Win) : Win :=
  if d.stampHi l ≤ d.stampLo then w
  else
    let w := if (d.stampLo : Int) ≤ t then d.spanOpen w else w
    if (d.stampHi l : Int) ≤ t then d.spanClose l w else w

/-- The saturation detector has tripped in the pulse of comparator `th` that the end of the stamp span has cut: its falling stamp
carries SAT (R305). -/
def Win.satCut (w : Win) (th : Nat) : Win :=
  if (w.cmp th).cut then
    { w with stamps := w.stamps.map (fun s => if s.th == th && !s.rise && s.trunc then { s with sat := true } else s) }
  else w

/-- The saturation detector has tripped in the pulse of comparator `th` that is high (R305). -/
def Win.trip (w : Win) (th : Nat) : Win :=
  let c := w.cmp th
  if c.high then ((w.satCut th).setCmp th { c with sat := true }) else w

/-- A rising crossing inside the stamp span (R364, R369, R371): the window, whether it merged, whether it overflowed. -/
def Dev.riseIn (d : Dev) (w : Win) (th : Nat) (s16 : Int) : Win × Bool × Bool :=
  let c := w.cmp th
  let merged := match c.hold with
    | some s => decide (s16 < s.s16 + 512 * (d.o O.TDC_MERGE_CP th : Int))
    | none => false
  if merged then
    (w.setCmp th { c with hold := none, high := true, stamped := true, sat := ((c.hold.map Stamp.sat).getD false) }, true, false)
  else
    let w := match c.hold with
      | some s => (w.push s).setCmp th { c with hold := none }
      | none => w
    let c := { (w.cmp th) with sat := false }
    if w.load + 2 ≤ 24 then
      ((w.push { th := th, rise := true, s16 := s16, nf := d.nfMark s16, sat := false, trunc := false }).setCmp th
        { c with high := true, stamped := true }, false, false)
    else ({ (w.setCmp th { c with high := true, ignored := true, stamped := false }) with ovf := true }, false, !w.ovf)

/-- A falling crossing inside the stamp span (R364, R371). -/
def Dev.fallIn (d : Dev) (w : Win) (th : Nat) (s16 : Int) (sat : Bool) : Win :=
  let c := w.cmp th
  if c.ignored then w.setCmp th { c with ignored := false, high := false, sat := false }
  else if c.high && c.stamped then
    let s : Stamp := { th := th, rise := false, s16 := s16, nf := d.nfMark s16, sat := sat || c.sat, trunc := false }
    let c := { c with high := false, stamped := false, sat := false }
    if d.o O.TDC_MERGE_CP th == 0 then (w.push s).setCmp th c else w.setCmp th { c with hold := some s }
  else w.setCmp th { c with high := false, sat := false }

/-- The window of a channel. -/
def Dev.win (d : Dev) (ch : Nat) : Option Win := d.rx.windows.find? (fun w => w.chan == ch)

/-- The window of a channel replaced. -/
def Dev.setWin (d : Dev) (w : Win) : Dev :=
  { d with rx := { d.rx with windows := d.rx.windows.map (fun x => if x.chan == w.chan then w else x) } }

/-- COMPARATOR_CROSSING: coarse period `k` from window zero and sampled code `r`; `sat` says that the saturation detector
tripped in the pulse that ends here (R305). -/
def Dev.crossing (d : Dev) (ch th : Nat) (rise : Bool) (k r : Nat) (sat : Bool) : Dev :=
  match d.jq.flight, d.win ch with
  | some f, some w =>
    let l := windowCp (entWclass f.shot.ent)
    let s16 := d.s16Of w.slice k r
    let t := timeOf s16
    if !f.wins || 3 ≤ th || t < 0 || 32 * (l : Int) ≤ t then d
    else
      let w := { w with sat := w.sat || (sat && !rise) }
      if w.silent || d.muted ch then d.setWin w
      else
        let w := d.spanTo l t w
        let w := if sat && !rise then w.satCut th else w
        let outside := t < 32 * (d.o O.TDC_ACCEPT_START : Int) || (d.stampHi l : Int) ≤ t
        let d := if outside then d.inc O.TDC_OUTSIDE ch else d
        if t < (d.stampLo : Int) || (d.stampHi l : Int) ≤ t then
          d.setWin (w.setCmp th { (w.cmp th) with high := rise, ignored := false, sat := false, cut := false })
        else if rise then
          let x := d.riseIn w th s16
          let d := if x.2.1 then d.inc O.TDC_MERGES ch else d
          let d := if x.2.2 then d.inc O.TDC_OVF_WINDOWS ch else d
          d.setWin x.1
        else d.setWin (d.fallIn w th s16 sat)
  | _, _ => d

/-- MERGE_HOLD_EXPIRY (R364): the held stamp leaves when its hold has ended. -/
def Dev.holdExpiry (e : Env) (d : Dev) (ch th : Nat) : Dev :=
  match d.jq.flight, d.win ch with
  | some f, some w =>
    let c := w.cmp th
    (match c.hold with
     | some s =>
       if 512 * (f.emit : Int) + s.s16 + 512 * (d.o O.TDC_MERGE_CP th : Int) ≤ 1024 * (e.now : Int) + 1023 then
         d.setWin ((w.push s).setCmp th { c with hold := none })
       else d
     | none => d)
  | _, _ => d

/-! ### The stamps that leave (R368, R372, R373, R318) -/

/-- Place of a stamp among stamps of equal S16 (R368). -/
def Stamp.rank (s : Stamp) : Nat := if s.rise then s.th else 5 - s.th

/-- Whether a stamp leaves before another. -/
def Stamp.before (a b : Stamp) : Bool := a.s16 < b.s16 || (a.s16 == b.s16 && a.rank < b.rank)

/-- A stamp put into a list in order of leaving. -/
def stampIns (s : Stamp) : List Stamp → List Stamp
  | [] => [s]
  | x :: xs => if s.before x then s :: x :: xs else x :: stampIns s xs

/-- Stamps in order of leaving. -/
def stampSort (l : List Stamp) : List Stamp := l.foldl (fun a s => stampIns s a) []

/-- Voile on the pairs of one comparator: a discarded stamp marks its partner TRUNC (R373). -/
def voilePairs (masked : Stamp → Bool) : List Stamp → List Stamp
  | a :: b :: t =>
    (if masked a then [] else [{ a with trunc := a.trunc || masked b }]) ++
    (if masked b then [] else [{ b with trunc := b.trunc || masked a }]) ++ voilePairs masked t
  | [a] => if masked a then [] else [a]
  | [] => []

/-- A stamp of a shot that emitted at coarse period `emit` lies in a masked span (R318). -/
def inSpans (spans : List (Nat × Nat)) (emit : Nat) (s : Stamp) : Bool :=
  let t := 512 * (emit : Int) + s.s16
  spans.any (fun p => 16 * (p.1 : Int) ≤ t && t ≤ 16 * (p.2 : Int))

/-- The channel of a window gives no record: it is muted (R333), its bias output does not regulate (R328), or its serving slice is
FAULTY (R573). -/
def Dev.unrecorded (d : Dev) (w : Win) : Bool :=
  d.muted w.chan || !d.biasGood (w.chan / 64) || d.o O.RX_SLICE_STATUS w.slice == 1

/-- A window closes: its last edges, then the stamps in order of leaving after Voile, and whether Voile touched it. `trips` lists the
comparators whose pulse is still high and saturated (R305). A channel muted since the window opened has taken no stamps (R333). -/
def Dev.closeWin (e : Env) (d : Dev) (f : Flight) (trips : List (Nat × Nat)) (w : Win) : Win × Bool :=
  let l := windowCp (entWclass f.shot.ent)
  let w := { w with noRecords := w.noRecords || d.unrecorded w, sat := w.sat || trips.any (fun p => p.1 == w.chan) }
  let w := if d.muted w.chan then { w with stamps := [], silent := true, muted := true } else w
  let w := ((List.range 3).filter (fun th => trips.contains (w.chan, th))).foldl Win.trip w
  let w := if w.silent then w else d.spanTo l (d.stampHi l) w
  let spans := d.maskSpans (64 * e.now + 63)
  let mode := if bit (d.o O.RX_VOILE_GROUPS) (w.chan / 16) then d.o O.RX_VOILE_MODE else 0
  let hit := spans.any (fun p => p.1 < 32 * (f.emit + l) && 32 * f.emit ≤ p.2)
  let all := stampSort w.stamps
  if mode == 2 && hit then ({ w with stamps := [] }, true)
  else if mode == 1 then
    let kept := stampSort ((List.range 3).flatMap (fun th => voilePairs (inSpans spans f.emit) (all.filter (fun s => s.th == th))))
    ({ w with stamps := kept }, kept.length < all.length)
  else ({ w with stamps := all }, false)

/-- The stamp word of Table 07-1 with its IDX. -/
def stampWord (s : Stamp) (idx : Nat) : Nat :=
  (b2n s.nf <<< 31) + (b2n s.sat <<< 30) + (b2n s.trunc <<< 29) + (s.th <<< 27) + (b2n s.rise <<< 26) + (idx <<< 21) +
    ofS 19 (timeOf s.s16)

/-- The time of flight of a stamp in 1/16 LSB (R384). -/
def Dev.t16 (d : Dev) (e16 : Int) (slice ch : Nat) (s : Stamp) : Int :=
  s.s16 - e16 - d.os16 (O.TDC_SKEW_A + s.th) slice - d.os16 O.TDC_SKEW_CH ch - d.os32 O.TDC_T0_OFFSET

/-- The range of a time of flight in mm (R388). -/
def Dev.rangeMm (d : Dev) (t : Int) : Nat := ((t * (d.o O.TDC_C_SCALE : Int) + 2 ^ 23) / 2 ^ 24).toNat

/-! ### Emission stamp (R380 to R383) -/

/-- The calibration of the emission TDC in the pre-fire sequence (R374, R375): a code pair that is not plausible leaves the last
plausible one (R377, read for the emission TDC: log entry 183). -/
def Dev.emitCal (d : Dev) (m : Option (Nat × Nat)) : Dev :=
  match m with
  | some p => if calOk p.1 p.2 then { d with tdc := { d.tdc with emitC1 := p.1, emitC2 := p.2 } } else d
  | none => d

/-- E16 of a launch edge in coarse period `k` with sampled code `r`: the arithmetic of R376 with the emission TDC's own calibration;
it has no linearisation table, which R376 gives to serving slices (R380, log entry 183). -/
def Dev.emitS16 (d : Dev) (k r : Nat) : Int := 512 * ((k : Int) + 1) - interpU d.tdc.emitC1 d.tdc.emitC2 r

/-- The emission stamp of a shot: the one in force and whether it missed. -/
def Dev.emitStamp (d : Dev) (m : Option (Nat × Nat)) : Int × Bool × Dev :=
  match m with
  | some p =>
    let v := d.emitS16 p.1 p.2
    if 0 ≤ v && v ≤ 1023 then (v, false, { (d.so O.TDC_EMIT_FINE 0 v.toNat) with tdc := { d.tdc with misses := 0 } })
    else (d.o O.TDC_EMIT_FINE, true, { (d.inc O.TDC_EMIT_MISS) with tdc := { d.tdc with misses := d.tdc.misses + 1 } })
  | none => (d.o O.TDC_EMIT_FINE, true, { (d.inc O.TDC_EMIT_MISS) with tdc := { d.tdc with misses := d.tdc.misses + 1 } })

/-- EMIT_STAMP_LOSS (R383): logged at most once per 1,000 ms. -/
def Dev.stampLoss (e : Env) (d : Dev) : Dev :=
  let due := match d.tdc.missLog with
    | none => true
    | some t => decide (t + 1500000000 ≤ e.now)
  if 16 ≤ d.tdc.misses && due then
    ({ d with tdc := { d.tdc with missLog := some e.now } }).log e 0x0502 (locG 5 63 63) 2
  else d

/-- The emission time of the header (R381): `emit` is window zero in coarse periods. -/
def emitTime (emit : Nat) (e16 : Int) : Nat := ofS 48 (32 * (emit : Int) + divHE e16 16)

/-! ### Statistics (R391 to R396) -/

/-- The results of the statistics engine presented. -/
def Dev.statShow (d : Dev) : Dev :=
  let h := d.o O.TDC_STAT_HITS
  let s1 := d.tdc.s1
  let mean := if h == 0 then 0 else ofS 32 (divHE s1 h)
  let v : Rat := if h < 2 then 0 else ((d.tdc.s2 : Rat) - (s1 : Rat) * s1 / h) / ((h : Rat) - 1)
  -- 1/16 LSB to 1/256 LSB is a factor 16; the root is rounded to the nearest.
  let dev := (isqrt (v * 1024).floor.toNat + 1) / 2
  let lo := (clampI 0 0xFFFF (d.tdc.tmin / 16)).toNat
  let hi := (clampI 0 0xFFFF (d.tdc.tmax / 16)).toNat
  ((d.so O.TDC_STAT_MEAN 0 mean).so O.TDC_STAT_DEV 0 (bits dev 0 32)).so O.TDC_STAT_MINMAX 0 (if h == 0 then 0 else (hi <<< 16) + lo)

/-- TDC_STAT_START written 1: from IDLE and DONE only (Table 07-4). -/
def Dev.statStart (d : Dev) : Dev :=
  if d.o O.TDC_STAT_STATE == 1 then d.so O.TDC_STAT_START 0 1
  else
    ({ (d.sos [(O.TDC_STAT_STATE, 0, 1), (O.TDC_STAT_HITS, 0, 0), (O.TDC_STAT_MISSES, 0, 0), (O.TDC_STAT_START, 0, 1)]) with
       tdc := { d.tdc with s1 := 0, s2 := 0, tmin := 0, tmax := 0 } }).statShow

/-- TDC_STAT_START written 0. -/
def Dev.statAbandon (d : Dev) : Dev :=
  let d := d.so O.TDC_STAT_START 0 0
  if d.o O.TDC_STAT_STATE == 1 then d.so O.TDC_STAT_STATE 0 0 else d

/-- Jacquard reaches STOPPED (Table 07-4). -/
def Dev.statStopped (d : Dev) : Dev := if d.o O.TDC_STAT_STATE == 1 then d.so O.TDC_STAT_STATE 0 0 else d

/-- The value a window gives the engine (R393), none for a miss. Under SRC 1 it is the interval C1 of the slice's calibration in force,
512 to the C2 - C1 of one period (R376, log entry 25). -/
def Dev.statValue (d : Dev) (e16 : Int) (w : Win) : Option Int :=
  let c := d.o O.TDC_STAT_CFG
  if bit c 29 then
    let c1 := d.o O.TDC_C1 w.slice
    some (roundHE ((512 * c1 : Nat) / ((d.o O.TDC_C2 w.slice : Rat) - c1)))
  else
    let m := w.stamps.filter (fun s => s.th == bits c 18 2 && s.rise == bit c 17 &&
      (d.o O.TDC_STAT_GATE_LO : Int) ≤ timeOf s.s16 && timeOf s.s16 ≤ (d.o O.TDC_STAT_GATE_HI : Int))
    (m[bits c 12 5]?).map (d.t16 e16 w.slice w.chan)

/-- The sums of the engine with a hit taken in. -/
def Tdc.hit (t : Tdc) (first : Bool) (v : Int) : Tdc :=
  { t with s1 := t.s1 + v, s2 := t.s2 + v.natAbs * v.natAbs,
           tmin := if first || v < t.tmin then v else t.tmin, tmax := if first || t.tmax < v then v else t.tmax }

/-- A hit or a miss counted (R393). -/
def Dev.statCount (d : Dev) (x : Option Int) : Dev :=
  match x with
  | some t =>
    let d' := d.so O.TDC_STAT_HITS 0 (d.o O.TDC_STAT_HITS + 1)
    { d' with tdc := d.tdc.hit (d.o O.TDC_STAT_HITS == 0) t }
  | none => d.so O.TDC_STAT_MISSES 0 (d.o O.TDC_STAT_MISSES + 1)

/-- STAT_ENGINE_SAMPLE: a window of the selected channel counted. -/
def Dev.statSample (d : Dev) (e16 : Int) (w : Win) : Dev :=
  if d.o O.TDC_STAT_STATE != 1 || bits (d.o O.TDC_STAT_CFG) 20 9 != w.chan then d
  else
    let d := d.statCount (d.statValue e16 w)
    let full := d.o O.TDC_STAT_N ≤ d.o O.TDC_STAT_HITS + d.o O.TDC_STAT_MISSES
    (if full then d.so O.TDC_STAT_STATE 0 2 else d).statShow

end Sys2Proof.Machine
end

