-- ==== Sys2Proof/Machine/Extract.lean ====
section
/-! DEFINITION. Echo extraction (chapter 08): pulses, code matching, amplitude, walk, intensity and class, selection,
histograms and peaks, and the headers and packets that carry the records. -/

namespace Sys2Proof.Machine

/-! ### Logarithm and root -/

/-- `n` terms of the series of the inverse hyperbolic tangent, in units of `2 ^ -80`: `x` is the next power, `x2` the square. -/
def atanhGo : Nat → Nat → Nat → Nat → Nat
  | 0, _, _, _ => 0
  | n + 1, x, x2, k => x / k + atanhGo n (x * x2 / 2 ^ 80) x2 (k + 2)

/-- The natural logarithm of `y`, for `1 ≤ y < 2`, in units of `2 ^ -80`. -/
def lnUnit (y : Rat) : Nat :=
  let z := ((y - 1) / (y + 1) * 2 ^ 80).floor.toNat
  2 * atanhGo 40 z (z * z / 2 ^ 80) 1

/-- The natural logarithm of a number from 1 on, exact to `2 ^ -70`. -/
def lnGe1 (y : Rat) : Rat :=
  let k := (ilog2 y).toNat
  ((k * lnUnit (3 / 2) + k * lnUnit (4 / 3) + lnUnit (y / 2 ^ k) : Nat) : Rat) / 2 ^ 80

/-! ### Pulses (R400 to R402) -/

/-- A pulse of a window. -/
structure Pulse where
  tr : Int
  tf : Int
  top : Nat
  sat : Bool
  nf : Bool
  rTrunc : Bool
  fTrunc : Bool
  deriving DecidableEq, Repr

/-- One stamp taken into the pulses of a window. -/
def pulseStep (t : Stamp → Int) (st : Option Pulse × List Pulse) (s : Stamp) : Option Pulse × List Pulse :=
  if s.th == 0 && s.rise then
    (some { tr := t s, tf := t s, top := 0, sat := s.sat, nf := s.nf, rTrunc := s.trunc, fTrunc := false }, st.2)
  else
    match st.1 with
    | none => st
    | some p =>
      if s.th == 0 then (none, st.2 ++ [{ p with tf := t s, sat := p.sat || s.sat, fTrunc := s.trunc }])
      else (some { p with top := if s.rise then max p.top s.th else p.top, sat := p.sat || s.sat }, st.2)

/-- The pulses of a window's stamps (R400). -/
def pulsesOf (t : Stamp → Int) (l : List Stamp) : List Pulse := (l.foldl (pulseStep t) (none, [])).2

/-- The width of a pulse in whole LSB. -/
def Pulse.width (p : Pulse) : Int := divHE (p.tf - p.tr) 16

/-- A pulse that R402 discards. -/
def Dev.narrow (d : Dev) (p : Pulse) : Bool := p.top == 0 && p.width < (d.o O.EX_MIN_WIDTH : Int)

/-! ### Amplitude, walk, intensity (R424 to R432) -/

/-- The loaded code of a threshold of a channel. -/
def Dev.loaded (d : Dev) (ch th : Nat) : Nat := bits (d.o O.RX_TH_LOADED ch) (10 * th) 10

/-- E(r, i) of R426. -/
def Dev.totAmp (d : Dev) (r i : Nat) : Rat := (d.o O.EX_TOT_AMP (64 * r + i) : Rat) / 4096

/-- The amplitude of a pulse from its time over threshold, and whether the table ended before it (R426). -/
def Dev.ampTot (d : Dev) (ch r : Nat) (p : Pulse) : Rat × Bool :=
  let w : Rat := (p.width : Rat) / 96
  let i := w.floor.toNat
  let past := (63 : Rat) ≤ w
  let v := if past then d.totAmp r 63 else d.totAmp r i + (d.totAmp r (i + 1) - d.totAmp r i) * (w - i)
  let lo : Rat := if p.sat then 540 / 512 else (d.loaded ch p.top : Rat) / 1024
  let hi : Option Rat :=
    if p.sat then none else if p.top == 2 then some (540 / 512) else some ((d.loaded ch (p.top + 1) : Rat) / 1024 - 1 / 4096)
  let v := match hi with
    | some h => if h < v then h else v
    | none => v
  (if v < lo then lo else v, past)

/-- A pulse with its amplitude: the source and flags of Table 08-1. -/
structure AmpPulse where
  p : Pulse
  v : Rat
  digi : Bool
  clamp : Bool
  deriving DecidableEq, Repr

/-- The amplitude of a pulse (R424, R425): `dg` is the digitiser's answer for the pulse's span, none where the channel is not
tapped, `some none` where it fails a condition. -/
def Dev.ampOf (d : Dev) (ch r : Nat) (dg : Option (Option Rat)) (p : Pulse) : AmpPulse :=
  match dg with
  | some (some v) => { p := p, v := v, digi := true, clamp := p.fTrunc }
  | _ =>
    let a := d.ampTot ch r p
    { p := p, v := a.1, digi := false, clamp := a.2 || p.fTrunc }

/-- A rational clamped to an interval. -/
def clampQ (lo hi x : Rat) : Rat := if x < lo then lo else if hi < x then hi else x

/-- The walk correction in 1/16 LSB at amplitude `v` and group temperature `tg` in 0.1 °C, and whether a clamp acted
(R428 to R430). -/
def Dev.walk (d : Dev) (r : Nat) (v : Rat) (tg : Int) : Int × Bool :=
  let v' := clampQ ((d.o O.EX_WALK_VMIN r : Rat) / 4096) ((d.o O.EX_WALK_VMAX r : Rat) / 4096) v
  let dt := tg - d.os16 O.EX_WALK_TREF
  let m : Int := d.o O.EX_WALK_DTMAX
  let dt' := clampI (-m) m dt
  let q : Rat := (dt' : Rat) / 10
  let s := (List.range 15).foldl (fun (s : Rat) k => s + d.of32 O.EX_WALK_COEF (15 * r + k) * v' ^ (k / 3) * q ^ (k % 3)) 0
  (roundHE (1536 * s), decide (v' ≠ v) || dt' != dt)

/-- The intensity of an echo (R432). -/
def Dev.intensity (d : Dev) (r : Nat) (v : Rat) (rangeMm : Nat) : Nat :=
  let a := v * 512 / (4 ^ r : Nat)
  let a' :=
    if d.ob O.EX_INT_RCOMP then
      let x := (rangeMm : Rat) / (1000 * d.o O.EX_INT_RREF : Nat)
      a * (if 256 < x * x then 256 else x * x)
    else a
  let c := fun i => d.of32 O.EX_INT_COEF i
  (clampI 0 4095 (roundHE (c 0 + c 1 * a' + c 2 * a' ^ 2 + c 3 * a' ^ 3))).toNat

/-! ### Echoes and their selection -/

/-- An echo with its time, the key of its selection and its amplitude. -/
structure Cand where
  t : Int
  key : Rat
  v : Rat
  e : Echo
  deriving DecidableEq, Repr

/-- The preliminary class of an echo (R433); a negative range is a near-field echo (chapter 07). -/
def Dev.prelim (d : Dev) (t : Int) (rg : Nat) (v : Rat) (nf sat low amb : Bool) : Nat :=
  if t * (d.o O.TDC_C_SCALE : Int) + 2 ^ 23 < 0 || rg < d.o O.EX_NEAR_MM || nf then 4
  else if sat && (d.o O.EX_RETRO_V : Rat) ≤ v * 4096 then 5
  else if low && amb then 3 else 0

/-- An echo formed from its time and amplitude: RANGE, intensity and preliminary class (R431 to R433). -/
def Dev.formEcho (d : Dev) (r : Nat) (t : Int) (v : Rat) (m : Nat) (nf sat walk low digi amb : Bool) : Echo :=
  let rg := satN 0xFFFFF (d.rangeMm t)
  let v4 := (roundHE (v * 4096)).toNat
  { range := rg, inten := d.intensity r v rg, v := v4, m := m, cls := d.prelim t rg v nf sat low amb, sat := sat, walk := walk, lowsnr := low, digi := digi }

/-- The first of the candidates with the largest key. -/
def strongest : List Cand → Option Cand
  | [] => none
  | c :: l =>
    match strongest l with
    | none => some c
    | some b => if c.key < b.key then some b else some c

/-- The `n` strongest candidates, the earlier on a tie. -/
def takeStrong : Nat → List Cand → List Cand
  | 0, _ => []
  | n + 1, l =>
    match strongest l with
    | none => []
    | some c => c :: takeStrong n (l.erase c)

/-- The echoes kept of a window's candidates in order of time (R406, R420). -/
def selectEchoes (policy max : Nat) (l : List Cand) : List Cand :=
  if l.length ≤ max then l
  else if policy == 1 then l.take max
  else if policy == 2 then
    (match l with
     | [] => []
     | f :: rest =>
       if max == 1 then [f]
       else
         match rest.getLast? with
         | none => [f]
         | some z => if max == 2 then [f, z] else f :: z :: takeStrong 1 rest.dropLast)
  else takeStrong max l

/-- An echo put in its place: ascending RANGE, then time (R407). -/
def candIns (c : Cand) : List Cand → List Cand
  | [] => [c]
  | x :: xs => if c.e.range < x.e.range || (c.e.range == x.e.range && c.t < x.t) then c :: x :: xs else x :: candIns c xs

/-- Kept echoes in ECHO order. -/
def echoOrder (l : List Cand) : List Echo := (l.foldl (fun a c => candIns c a) []).map Cand.e

/-! ### Single-shot path (R403 to R407, R961) -/

/-- The offset of pulse `i` of a code word in 1/16 LSB. -/
def offS16 (w i : Nat) : Int := 512 * codeOff w i

/-- The nearest pulse to a time within a tolerance among those free, the earlier on a tie: index of the pulse. -/
def nearest (ps : List AmpPulse) (free : Nat → Bool) (t tol : Int) : Option Nat :=
  ((List.range ps.length).foldl (fun (b : Option (Nat × Nat)) i =>
    match ps[i]? with
    | none => b
    | some p =>
      let dist := (p.p.tr - t).natAbs
      if !free i || tol < (dist : Int) then b
      else match b with
        | none => some (i, dist)
        | some (_, bd) => if dist < bd then some (i, dist) else b) none).map Prod.fst

/-- The matched set of an anchor under hypothesis `h`: pulse index and code position. -/
def matchHyp (ps : List AmpPulse) (used : List Nat) (w : Nat) (tol : Int) (a : Nat) (ta : Int) (h : Nat) : List (Nat × Nat) :=
  (List.range (codeNp w)).foldl (fun set i =>
    if i == h then set
    else
      match nearest ps (fun k => !used.contains k && !set.any (fun q => q.1 == k)) (ta + (offS16 w i - offS16 w h)) tol with
      | some b => set ++ [(b, i)]
      | none => set) [(a, h)]

/-- The best set of an anchor: the largest, the smaller hypothesis on a tie. -/
def matchBest (ps : List AmpPulse) (used : List Nat) (w : Nat) (tol : Int) (a : Nat) (ta : Int) : List (Nat × Nat) :=
  (List.range (codeNp w)).foldl (fun best h =>
    let s := matchHyp ps used w tol a ta h
    if best.length < s.length then s else best) []

/-- The sets of a window (R403): pulses used, and the sets in order of their anchors. -/
def matchSets (ps : List AmpPulse) (w need : Nat) (tol : Int) : List Nat × List (List (Nat × Nat)) :=
  (List.range ps.length).foldl (fun (st : List Nat × List (List (Nat × Nat))) a =>
    match ps[a]? with
    | none => st
    | some p =>
      if st.1.contains a then st
      else
        let s := matchBest ps st.1 w tol a p.p.tr
        if need ≤ s.length then (st.1 ++ s.map Prod.fst, st.2 ++ [s]) else st) ([], [])

/-- The echo of a matched set (R404, R405, R961, R435). -/
def Dev.setEcho (d : Dev) (r w : Nat) (tg : Int) (amb : Bool) (ps : List AmpPulse) (set : List (Nat × Nat)) : Cand × Bool :=
  let l := set.filterMap (fun q => (ps[q.1]?).map (fun p => (p, q.2)))
  let n := l.length
  let ts := l.map (fun q => let k := d.walk r q.1.v tg; (q.1.p.tr - offS16 w q.2 - k.1, k.2))
  let t := divHE (ts.foldl (fun s x => s + x.1) 0) n
  let v4 := roundHE (4096 * (l.foldl (fun (s : Rat) q => s + q.1.v) 0) / n)
  let v : Rat := (v4 : Rat) / 4096
  let walked := ts.any Prod.snd
  let nf := l.any (fun q => q.2 == 0 && q.1.p.nf)
  let low := n < codeNp w || !l.any (fun q => 0 < q.1.p.top)
  let e := d.formEcho r t v n nf (l.any (fun q => q.1.p.sat)) (walked || l.any (fun q => q.1.clamp)) low
    (l.all (fun q => q.1.digi)) amb
  ({ t := t, key := v, v := v, e := e }, walked)

/-- A candidate put into order of time. -/
def timeIns (c : Cand) : List Cand → List Cand
  | [] => [c]
  | x :: xs => if c.t < x.t then c :: x :: xs else x :: timeIns c xs

/-- One window of the single-shot path: its kept echoes in ECHO order and its unmatched count (R402 to R407, R462). `dg` gives
the digitiser's answer for a pulse. -/
def Dev.singleShot (d : Dev) (win : Win) (w : Nat) (e16 : Int) (tg : Int) (amb : Bool) (dg : Pulse → Option (Option Rat)) :
    List Echo × Nat × Dev :=
  let ch := win.chan
  let all := (pulsesOf (d.t16 e16 win.slice ch) win.stamps).filter (fun p => !p.rTrunc)
  let d := d.inc O.EX_SS_NARROW ch (all.filter d.narrow).length
  let ps0 := all.filter (fun p => !d.narrow p)
  let ps := ps0.map (fun p => d.ampOf ch win.range (dg p) p)
  let d := d.inc O.EX_DIGI_FALLBACK 0 (ps0.filter (fun p => dg p == some none)).length
  let need := min (d.o O.EX_SS_MIN_MATCH) (codeNp w)
  let m := matchSets ps w need (16 * d.o O.EX_CODE_TOL)
  let unm := ps.length - m.1.length
  let cs := m.2.map (d.setEcho win.range w tg amb ps)
  let d := d.inc O.EX_WALK_CLAMPS ch (cs.filter Prod.snd).length
  let d := d.inc O.EX_SS_UNMATCHED ch unm
  let ordered := cs.foldl (fun a c => timeIns c.1 a) []
  (echoOrder (selectEchoes (d.o O.EX_ECHO_POLICY) (d.o O.EX_MAX_ECHOES) ordered), unm, d)

/-! ### Histograms (R408 to R417) -/

/-- The bin width in coarse periods (R409). -/
def Dev.binK (d : Dev) (wclass : Nat) : Nat :=
  let k := d.o O.EX_BIN_K
  let need := windowCp wclass - d.o O.EX_HIST_START
  if k != 0 then k else if need ≤ 4096 then 1 else if need ≤ 8192 then 2 else 4

/-- The key of a bin. -/
def binKey (ch b : Nat) : Nat := ch * 4096 + b

/-- One stamp binned (R410 to R412). -/
def Dev.binStamp (d : Dev) (ch k : Nat) (t : Int) : Dev :=
  let b := (t - 512 * (d.o O.EX_HIST_START : Int)) / (512 * (k : Int))
  if b < 0 || 4095 < b then d.inc O.EX_HIST_OUTSIDE
  else
    let n := tget 0 d.ex.bins (binKey ch b.toNat)
    if 4095 ≤ n then d.inc O.EX_HIST_SAT
    else { d with ex := { d.ex with bins := tset 0 d.ex.bins (binKey ch b.toNat) (n + 1) } }

/-- The binned stamps of a window (R410). -/
def Dev.binWin (d : Dev) (win : Win) (wclass : Nat) (e16 : Int) : Dev :=
  let k := d.binK wclass
  (win.stamps.filter (fun s => s.rise && s.th == d.o O.EX_HIST_EDGE && !s.trunc)).foldl
    (fun d s => d.binStamp win.chan k (d.t16 e16 win.slice win.chan s)) d

/-- Count of a bin, zero past the histogram. -/
def Dev.binAt (d : Dev) (ch b : Nat) : Nat := if b < 4096 then tget 0 d.ex.bins (binKey ch b) else 0

/-- The template's taps (R416). -/
def tapsOf (w k : Nat) : List Nat := (List.range (codeNp w)).map (fun i => if i == 0 then 0 else (divHE (codeOff w i) k).toNat)

/-- Corrected correlation of a bin in 1/16 counts (R416, R417). -/
def Dev.corr (d : Dev) (ch : Nat) (taps : List Nat) (base : Int) (b : Int) : Int :=
  if b < 0 || 4095 < b then 0
  else 16 * (taps.foldl (fun s p => s + d.binAt ch (b.toNat + p)) 0 : Nat) - base

/-- The expected ambient count of a bin in 1/16 counts (R460). -/
def betaOf (lam nc k : Nat) : Int := divHE (16 * lam * nc * k) 3000000

/-- The counted bins of a channel. -/
def Dev.binsOf (d : Dev) (ch : Nat) : List Nat :=
  (d.ex.bins.filter (fun p => p.1 / 4096 == ch)).map (fun p => p.1 % 4096)

/-- Bins at which a correlation can be above zero: a counted bin less a tap, in rising order, each once. -/
def Dev.peakBins (d : Dev) (ch : Nat) (taps : List Nat) : List Nat :=
  ((sortNat ((d.binsOf ch).flatMap (fun b => (taps.filter (fun p => p ≤ b)).map (fun p => b - p)))).eraseDups)

/-- `x` is at least `(k / 16) × sqrt(max(1, base))`, both in 1/16 counts (R418, R435). -/
def overRoot (x base : Int) (k : Nat) : Bool :=
  let q : Rat := if base < 16 then 1 else (base : Rat) / 16
  0 ≤ x && (k : Rat) * k * q ≤ (x : Rat) * x

/-- A peak: its bin and corrected correlation. -/
abbrev Peak := Nat × Int

/-- The peaks of a channel (R418). -/
def Dev.peaks (d : Dev) (ch : Nat) (taps : List Nat) (base : Int) : List Peak :=
  let c := d.corr ch taps base
  ((d.peakBins ch taps).filter (fun (b : Nat) =>
    let x := c b
    c (b - 1) ≤ x && c (b + 1) < x && 16 * (d.o O.EX_PEAK_MIN : Int) ≤ x && overRoot x base (d.o O.EX_PEAK_K))).map (fun b => (b, c b))

/-- A peak put into descending order of correlation, the earlier bin first on a tie. -/
def peakIns (p : Peak) : List Peak → List Peak
  | [] => [p]
  | x :: xs => if x.2 < p.2 then p :: x :: xs else x :: peakIns p xs

/-- A peak is a sidelobe of an accepted one (R419). -/
def isSidelobe (taps : List Nat) (limit : Nat) (acc p : Peak) : Bool :=
  p.2 * 256 < acc.2 * limit &&
  (List.range taps.length).any (fun i => (List.range taps.length).any (fun j =>
    i != j &&
    let s : Int := ((taps[i]?).getD 0 : Int) - ((taps[j]?).getD 0 : Int)
    (((p.1 : Int) - acc.1) - s).natAbs ≤ 1))

/-- The peaks that remain and the sidelobes discarded (R419). -/
def dropSidelobes (taps : List Nat) (limit : Nat) (l : List Peak) : List Peak × Nat :=
  (l.foldl (fun a p => peakIns p a) []).foldl (fun (st : List Peak × Nat) p =>
    if st.1.any (fun a => isSidelobe taps limit a p) then (st.1, st.2 + 1) else (st.1 ++ [p], st.2)) ([], 0)

/-- The place of a peak within its bin (R421). -/
def Dev.delta (d : Dev) (c : Int → Int) (b : Nat) : Rat :=
  let x : Rat :=
    if d.o O.EX_INTERP == 0 then
      let den := 2 * (c (b - 1) - 2 * c b + c (b + 1))
      if den == 0 then 0 else ((c (b - 1) - c (b + 1) : Int) : Rat) / (den : Rat)
    else
      let m := fun (j : Int) => max (c (b + j)) 0
      let s := m (-2) + m (-1) + m 0 + m 1 + m 2
      if s == 0 then 0 else ((-2 * m (-2) - m (-1) + m 1 + 2 * m 2 : Int) : Rat) / (s : Rat)
  clampQ (-(1 / 2)) (1 / 2) x

/-- The echo of a peak (R421, R427, R428, R435). -/
def Dev.peakEcho (d : Dev) (g : GChan) (w k : Nat) (base : Int) (c : Int → Int) (p : Peak) : Cand × Bool :=
  let tp := roundHE ((512 * d.o O.EX_HIST_START : Nat) + ((p.1 : Rat) + 1 / 2 + d.delta c p.1) * (512 * k : Nat))
  let b : Int := p.1
  let occ : Rat := ((max (c (b - 1)) 0 + max (c b) 0 + max (c (b + 1)) 0 : Int) : Rat) / (16 * g.nc * codeNp w : Nat)
  let pc := clampQ 0 (63 / 64) occ
  let v := d.of32 O.EX_OCC_GAIN g.range * lnGe1 (1 / (1 - pc))
  let wk := d.walk g.range v g.tg
  let low := !overRoot p.2 base (d.o O.EX_LOWSNR_Z)
  let e := d.formEcho g.range (tp - wk.1) v (codeNp w) false false (wk.2 || decide (pc ≠ occ)) low false g.amb
  ({ t := tp - wk.1, key := p.2, v := v, e := e }, wk.2)

/-- Kept multi-shot echoes of a channel in which the saturation detector tripped: the one of largest correlation carries SAT (R436),
and its class follows (R433). -/
def Dev.satStrongest (d : Dev) (g : GChan) (l : List Cand) : List Cand :=
  let l := l.foldl (fun a c => timeIns c a) []
  let top := strongest l
  l.map (fun c =>
    if g.sat && some c == top then
      { c with e := { c.e with sat := true, cls := d.prelim c.t c.e.range c.v false true c.e.lowsnr g.amb } }
    else c)

/-- MULTI_SHOT_EXTRACTION: the kept echoes of a channel's histogram in ECHO order (R416 to R422). -/
def Dev.multiShot (d : Dev) (ch w wclass : Nat) (g : GChan) : List Echo × Dev :=
  let k := d.binK wclass
  let taps := tapsOf w k
  let base : Int := codeNp w * betaOf g.lam g.nc k
  let c := d.corr ch taps base
  let ps := dropSidelobes taps (d.o O.EX_SIDELOBE) (d.peaks ch taps base)
  let cs := ps.1.map (d.peakEcho g w k base c)
  let d := (d.inc O.EX_SIDELOBES ch ps.2).inc O.EX_WALK_CLAMPS ch (cs.filter Prod.snd).length
  let ordered := cs.foldl (fun a c => timeIns c.1 a) []
  (echoOrder (d.satStrongest g (selectEchoes (d.o O.EX_ECHO_POLICY) (d.o O.EX_MAX_ECHOES) ordered)), d)

/-! ### Headers, records and packets (R438 to R448) -/

/-- The header word of a shot (Table 08-3) without EMIT_TIME and FLAGS. -/
def hdrWord (s : Shot) : Nat :=
  (entColumn s.ent <<< 68) + (entAn s.ent <<< 60) + (entKd s.ent <<< 44) + (entCode s.ent <<< 40) + (entLevel s.ent <<< 36) +
    (entGain s.ent <<< 32) + (s.bank <<< 31) + (s.idx <<< 16) + ((s.hseq % 16) <<< 12)

/-- A record word (Table 08-2). -/
def recordWord (o : Obs) (e : Echo) (n cls conf seq : Nat) : Nat :=
  (e.range <<< 44) + (e.inten <<< 32) + (o.chan <<< 23) + (n <<< 21) + (cls <<< 18) + (conf <<< 12) + (o.rangeG <<< 10) +
    (b2n e.sat <<< 9) + (b2n e.walk <<< 8) + (b2n o.skipper <<< 7) + (b2n o.extrap <<< 6) + (b2n e.lowsnr <<< 5) +
    (b2n e.digi <<< 4) + seq

/-- The shot header packet under way closes (R446). -/
def Dev.flushHdrs (d : Dev) : Dev :=
  if d.ex.hdrs == [] then d
  else ({ d with ex := { d.ex with hdrs := [] } }).enq { ty := 2, data := d.ex.hdrs.flatMap (leBytes 16) }

/-- A completed header leaves with its records, or joins a shot header packet (R445 to R447). -/
def Dev.hdrDone (e : Env) (d : Dev) (word : Nat) (result : Bool) (records : List Nat) : Dev :=
  if records != [] then (d.flushHdrs).enq { ty := 1, data := leBytes 16 word ++ records.flatMap (leBytes 8) }
  else if !result && !d.ob O.EX_SEND_EMPTY then d
  else
    let d := { d with ex := { d.ex with hdrs := d.ex.hdrs ++ [word], hdrAt := if d.ex.hdrs == [] then e.now else d.ex.hdrAt } }
    if 32 ≤ d.ex.hdrs.length then d.flushHdrs else d

/-- SHOT_HEADER_PACKET_TIMEOUT (R446). -/
def Dev.hdrTimeout (e : Env) (d : Dev) : Dev :=
  if d.ex.hdrs != [] && d.ex.hdrAt + 15000 ≤ e.now then d.flushHdrs else d

/-- The header of a shot that yields no observation leaves (R440, R441). -/
def Dev.bareHdr (e : Env) (d : Dev) (s : Shot) (emit flags : Nat) : Dev := d.hdrDone e ((emit <<< 80) + hdrWord s + flags) false []

/-- Fabric cycles, in sixteenths, that one record stays at the head of the record buffer: 64 M records/s (R51). -/
def recordCycles16 : Nat := 375

/-- Records in the record buffer: Ringlet's writing back empties it at 64 M records/s (R51, assumption 196). -/
def Dev.buffered (e : Env) (d : Dev) : Nat := (d.ex.bufEmpty - 16 * e.now + (recordCycles16 - 1)) / recordCycles16

/-- Records put into the record buffer. -/
def Dev.buffer (e : Env) (d : Dev) (n : Nat) : Dev :=
  { d with ex := { d.ex with bufEmpty := max d.ex.bufEmpty (16 * e.now) + recordCycles16 * n } }

/-- A job opened: a header that waits for its observations. -/
def Dev.openJob (d : Dev) (word : Nat) (result : Bool) (left : Nat) : Nat × Dev :=
  (d.ex.serial, { d with ex := { d.ex with serial := d.ex.serial + 1, jobs := d.ex.jobs ++
    [{ serial := d.ex.serial, word := word, result := result, left := left, records := [], lost := false }] } })

/-- One channel of a job done, with its records: those that find no room are dropped (R52). A job with none left completes. -/
def Dev.jobStep (e : Env) (d : Dev) (serial : Nat) (recs : List Nat) : Dev :=
  match d.ex.jobs.find? (fun j => j.serial == serial) with
  | none => d
  | some j =>
    let room := 16384 - d.buffered e
    let kept := recs.take room
    let j := { j with left := j.left - 1, records := j.records ++ kept, lost := j.lost || kept.length < recs.length }
    let d := { d.buffer e kept.length with ex := { (d.buffer e kept.length).ex with dropped := d.ex.dropped + (recs.length - kept.length) } }
    if j.left == 0 then
      let d := { d with ex := { d.ex with jobs := d.ex.jobs.filter (fun x => x.serial != serial) },
                        rl := { d.rl with mine := d.rl.mine.filter (fun x => x.1 != serial),
                                          lateFor := d.rl.lateFor.filter (fun x => x.1 != serial) } }
      d.hdrDone e (j.word + (b2n j.lost <<< 7)) j.result j.records
    else { d with ex := { d.ex with jobs := d.ex.jobs.map (fun x => if x.serial == serial then j else x) } }

/-! ### Groups -/

/-- A group takes header word and COLUMN from a shot, unless it has them from one decoded later (R443, R475). -/
def ExGroup.takeWord (g : ExGroup) (s : Shot) (w : Nat) : ExGroup :=
  let key := 64 * s.ord + s.rep
  if key < g.wordKey then g else { g with word := w, column := entColumn s.ent, wordKey := key }

/-- AMB of an ambient rate (Table 09-2). -/
def ambLevel (lam : Nat) : Nat := min 15 (Nat.log2 ((100 + lam) / 100))

/-- An open or unread accumulation group. -/
def Dev.group (d : Dev) (inst : Nat) : Option ExGroup := (d.ex.groups.find? (fun p => p.1 == inst)).map Prod.snd

/-- An accumulation group put or replaced. -/
def Dev.setGroup (d : Dev) (inst : Nat) (g : ExGroup) : Dev :=
  let l := d.ex.groups
  let l' := if l.any (fun p => p.1 == inst) then l.map (fun p => if p.1 == inst then (inst, g) else p) else l ++ [(inst, g)]
  { d with ex := { d.ex with groups := l' } }

/-- The histogram capture of R449. -/
def Dev.capture (e : Env) (d : Dev) (g : ExGroup) : Dev :=
  let ch := d.o O.EX_HIST_CAP_CH
  if ch == 0xFFFF || !bit g.chans ch then d
  else
    let bs := (List.range 4096).flatMap (fun b => leBytes 2 (d.binAt ch b)) ++ leBytes 2 (tget {} g.ch ch).nc ++
      leBytes 2 (d.binK g.wclass) ++ leBytes 2 (d.o O.EX_HIST_START) ++ leBytes 8 e.now
    d.setDom O.EX_HIST_CAPTURE 0 0 bs

/-- A group closes in extraction (R414, R443, R449): its verdicts take effect, its result header is opened, its histograms are
to be read out. `tg` and `ex` give the frozen temperature and EXTRAP of a serving slice. -/
def Dev.closeGroup (e : Env) (d : Dev) (inst : Nat) (tg : Nat → Int) (ext : Nat → Bool) : Dev :=
  match d.group inst with
  | none => d
  | some g =>
    if g.closed then d
    else
      let d := (d.inc O.EX_GROUPS).capture e g
      let d := g.verdicts.foldl (fun d v => d.verdict v.1 v.2.1 v.2.2.1 v.2.2.2) d
      let chs := chanList g.chans
      let edge := d.o O.EX_HIST_EDGE
      let fix := fun (m : Tab GChan) c =>
        let x := tget {} m c
        tset {} m c { x with tg := tg x.slice, extrap := ext x.slice, lam := d.o (O.RJ_RATE_A + edge) c,
                             amb := d.o O.RJ_AMB_HIGH ≤ d.o O.RJ_RATE_A c, level := ambLevel (d.o O.RJ_RATE_A c) }
      let flags := 32 + (b2n g.short <<< 4) + (b2n g.ovf <<< 8) + (b2n g.blanked <<< 9)
      let word := ((g.emit.getD (g.word >>> 80)) <<< 80) + g.word % 2 ^ 80 + flags
      if chs == [] then
        ({ d with ex := { d.ex with groups := d.ex.groups.filter (fun p => p.1 != inst) } }).hdrDone e word true []
      else
        let (ser, d) := d.openJob word true chs.length
        d.setGroup inst { g with ch := chs.foldl fix g.ch, closed := true, closeAt := e.now, serial := ser, toRead := g.chans }

/-- A channel has a histogram that is still to be read out (R415). -/
def Dev.unread (d : Dev) (chans : Nat) : Bool := d.ex.groups.any (fun p => p.2.closed && (p.2.toRead &&& chans) != 0)

/-- Channels of a tile below a channel in a mask: its place in the tile's readout (R414). -/
def tilePlace (mask ch : Nat) : Nat := popcount 64 (bits mask (ch / 64 * 64) (ch % 64))

/-- Observations of a group that no lower channel still holds back, in ascending order (R476). -/
def releaseObs (toRead : Nat) (l : List Obs) : List Obs × List Obs :=
  let low := fun (o : Obs) => toRead % 2 ^ o.chan == 0
  (l.filter low, l.filter (fun o => !low o))

/-- An observation put in ascending channel order. -/
def obsIns (o : Obs) : List Obs → List Obs
  | [] => [o]
  | x :: xs => if o.chan < x.chan then o :: x :: xs else x :: obsIns o xs

end Sys2Proof.Machine
end

