-- ==== Sys2Proof/Machine/Ringlet.lean ====
section
/-! DEFINITION. Rejection and persistence (chapter 09): the dark gate, threshold adaptation, Ringlet's rings, classes and
confidence, the ring cache, the sweep, generations and the persistence map. -/

namespace Sys2Proof.Machine

/-! ### Dark gate and adaptation (R452 to R461) -/

/-- The transimpedance of a range in kΩ (Table 06-1). -/
def tiaZ (r : Nat) : Nat := 4 ^ r

/-- A span put into order of its start. -/
def spanIns (p : Nat × Nat) : List (Nat × Nat) → List (Nat × Nat)
  | [] => [p]
  | x :: xs => if p.1 ≤ x.1 then p :: x :: xs else x :: spanIns p xs

/-- What spans in order of their start cover from a place on, each place once. -/
def coverFrom : Nat → List (Nat × Nat) → Nat
  | _, [] => 0
  | a, p :: l => (p.2 - max a p.1) + coverFrom (max a p.2) l

/-- The exposure of a shot's dark gate in LSB: its length less what masked spans cover of it (R453, R320). Under RX_VOILE_MODE 0
BLANK_N has no effect (R318). `emit` is the emission in coarse periods, `now` the present time in LSB. -/
def Dev.darkLsb (d : Dev) (emit now : Nat) : Nat :=
  let hi := 32 * emit - 96 * 80
  let lo := hi - 96 * d.o O.RJ_DARK_NS
  let spans := if d.o O.RX_VOILE_MODE == 0 then [] else (d.maskSpans now).map (fun p => (p.1, min hi p.2))
  (hi - lo) - coverFrom lo (spans.foldl (fun a p => spanIns p a) [])

/-- The dark gate of one channel in a range (R455): `b` in 1/16 codes, the crossings of TH_A, TH_B and TH_C. -/
def Dev.darkGate (d : Dev) (lsb ch r b da db dc : Nat) : Dev :=
  let inew := b * 500 / tiaZ r
  let ib := d.o O.RJ_AMB_CURRENT ch
  let ib' := if ib < inew then ib + (inew - ib) >>> d.o O.RJ_AMB_ATTACK else ib - (ib - inew) >>> d.o O.RJ_AMB_RELEASE
  let d := d.so O.RJ_AMB_CURRENT ch (bits ib' 0 32)
  let rate := fun (d : Dev) (idx n : Nat) =>
    let rx : Int := ((min n 63) * 96 * 1000000 / lsb : Nat)
    let l : Int := d.o idx ch
    d.so idx ch (l + (rx - l) / 2 ^ d.o O.RJ_RATE_SHIFT).toNat
  let d := rate (rate (rate d O.RJ_RATE_A da) O.RJ_RATE_B db) O.RJ_RATE_C dc
  { d with rx := { d.rx with dkCount := tset 0 d.rx.dkCount ch (tget 0 d.rx.dkCount ch + min da 63) } }

/-- Whether `n` is at most `b + (k / 16) × sqrt b + 1 / 2`. -/
def belowRoot (n b : Rat) (k : Nat) : Bool :=
  let x := n - b - 1 / 2
  x ≤ 0 || x * x * 256 ≤ (k : Rat) * k * b

/-- `b + (k / 16) × sqrt b` rounded to the nearest integer. -/
def adaptRound (b : Rat) (k : Nat) : Nat :=
  let est := (b + (k : Rat) / 16 * ((isqrt (b * 2 ^ 32).floor.toNat : Rat) / 2 ^ 16) + 1 / 2).floor.toNat
  if belowRoot (est + 1 : Nat) b k then est + 1 else if belowRoot est b k then est else est - 1

/-- The ambient adaptation of a threshold of a channel in a range (R457, R458). -/
def Dev.adapt (d : Dev) (ch r x : Nat) : Int :=
  let mode := d.o O.RJ_ADAPT_MODE
  let b : Rat := (d.o O.RJ_AMB_CURRENT ch : Rat) * (tiaZ r : Nat) / 8000
  if mode == 0 then 0
  else
    let v := if mode == 1 then adaptRound b 0 else adaptRound b (d.o O.RJ_ADAPT_K x)
    (min (d.o O.RJ_ADAPT_MAX) v : Nat)

/-- The codes of a lit channel loaded at a shot boundary (R303, R457): inside an open accumulation group the adaptation of the
group's first shot stays (R459). -/
def Dev.loadChan (d : Dev) (ch r : Nat) (held : Bool) : Dev :=
  let a := if held then tget (0, 0, 0) d.rx.adapt ch else (d.adapt ch r 0, d.adapt ch r 1, d.adapt ch r 2)
  ({ d with rx := { d.rx with adapt := tset (0, 0, 0) d.rx.adapt ch a } }).loadCodes ch a

/-- The channel-window is ambient-high (R461). -/
def Dev.ambHigh (d : Dev) (ch : Nat) : Bool := d.o O.RJ_AMB_HIGH ≤ d.o O.RJ_RATE_A ch

/-! ### Geometry (R468, R469) -/

/-- Rows of the geometry in force. -/
def Dev.rlRows (d : Dev) : Nat := 512 / 2 ^ d.o O.RL_GEOMETRY

/-- Columns of the geometry in force. -/
def Dev.rlCols (d : Dev) : Nat := 1024 * 2 ^ d.o O.RL_GEOMETRY

/-- The ring of a channel in a column. -/
def Dev.ringOf (d : Dev) (col ch : Nat) : Nat := col * d.rlRows + ch / 2 ^ d.o O.RL_GEOMETRY

/-- The address of a ring. -/
def ringAddr (ring : Nat) : Nat := ringBase + 128 * ring

/-- The address of a cell's map word in a frame's buffer (R496, R497). -/
def mapAddr (frame ring : Nat) : Nat := mapBase + (frame % 3) * 0x100000 + 2 * ring

/-! ### Entries (R470 to R477) -/

/-- XOR of the low `n` bytes of a word. -/
def xorBytes : Nat → Nat → Nat
  | 0, _ => 0
  | n + 1, w => w % 256 ^^^ xorBytes n (w / 256)

/-- CHK of an entry under a generation. -/
def ringChk (gen w : Nat) : Nat := xorBytes 15 (w / 256) ^^^ gen ^^^ 0xA5

/-- A non-zero entry fails its check (R473). -/
def Dev.badChk (d : Dev) (w : Nat) : Bool := w != 0 && w % 256 != ringChk (d.o O.RL_GEN) w

/-- An entry is void (R473). -/
def Dev.entVoid (d : Dev) (w : Nat) : Bool := w == 0 || d.badChk w

/-- OSEQ, FTAG, NECHO and UNM of an entry. -/
def reOseq (w : Nat) : Nat := bits w 120 8
def reFtag (w : Nat) : Nat := bits w 112 8
def reNecho (w : Nat) : Nat := bits w 20 2
def reUnm (w : Nat) : Nat := bits w 12 4
/-- RNG, PER and CLS of an echo slot. -/
def reRng (w j : Nat) : Nat := bits w (94 - 18 * j) 18
def rePer (w j : Nat) : Nat := bits w (37 - 3 * j) 3
def reCls (w j : Nat) : Nat := bits w (28 - 3 * j) 3

/-- The newest OSEQ of a ring's valid entries (R477). -/
def newestSeq (l : List Nat) : Option Nat := l.find? (fun v => l.all (fun o => (v + 256 - o) % 256 ≤ 7))

/-- The eight entries of a ring as the cache holds them: those of GDDR7, but for entries that an OFFLINE channel has not taken
(R476, R789). -/
def Dev.ringEntries (d : Dev) (ring : Nat) : List Nat :=
  (List.range 8).map (fun j =>
    if d.rl.voided.contains (8 * ring + j) then 0
    else (tget none d.rl.copy (8 * ring + j)).getD (leNat ((List.range 16).map (fun i => d.gByte (ringAddr ring + 16 * j + i)))))

/-- The slots of a ring. -/
def slotsOf (ring : Nat) : List Nat := (List.range 8).map (fun j => 8 * ring + j)

/-- An entry with its OSEQ and CHK put in. -/
def Dev.sealEntry (d : Dev) (w oseq : Nat) : Nat :=
  let w := w + (oseq <<< 120)
  w + ringChk (d.o O.RL_GEN) w

/-- The entries of a write that an OFFLINE channel will discard stand in the cache (R476, R789): that of a slot, and after poison the
zeros of the others (R488). -/
def Dev.keepCopy (d : Dev) (ring slot word : Nat) : Dev :=
  if !d.chOffline (d.chanOf (ringAddr ring)) then d
  else
    let others := if d.rl.poisonedRings.contains ring then (slotsOf ring).map (fun x => (x, 0)) else []
    { d with rl := { d.rl with
        copy := (others ++ [(8 * ring + slot, word)]).foldl (fun (m : Tab (Option Nat)) p => tset none m p.1 (some p.2)) d.rl.copy } }

/-- An entry written into its ring (R477, R483, R487): a poisoned ring is written whole (R488). The entry's slot is noted for
R478. -/
def Dev.putEntry (e : Env) (d : Dev) (serial ring word : Nat) : Dev :=
  let valid := (d.ringEntries ring).filter (fun w => !d.entVoid w)
  let oseq := match newestSeq (valid.map reOseq) with
    | some v => (v + 1) % 256
    | none => 0
  let slot := oseq % 8
  let word := d.sealEntry word oseq
  let bs := leBytes 16 word
  let d := d.keepCopy ring slot word
  let d :=
    if d.rl.poisonedRings.contains ring then
      let d := { (d.inc O.RL_POISON) with
        rl := { d.rl with voided := d.rl.voided.filter (fun x => !(slotsOf ring).contains x), poisonedRings := d.rl.poisonedRings.erase ring } }
      d.memWr e 0 (ringAddr ring) (zeros (16 * slot) ++ bs ++ zeros (112 - 16 * slot))
    else ({ d with rl := { d.rl with voided := d.rl.voided.erase (8 * ring + slot) } }).memWr e 0 (ringAddr ring + 16 * slot) bs
  { d with rl := { d.rl with mine := (serial, ring * 8 + slot) :: d.rl.mine } }

/-! ### Matching and class (R478 to R482) -/

/-- A candidate entry with its age. -/
abbrev RCand := Nat × Nat

/-- The candidate entries of an observation (R480, R478). -/
def Dev.candidates (d : Dev) (o : Obs) (ents : List Nat) : List RCand :=
  (List.range 8).filterMap (fun j =>
    match ents[j]? with
    | none => none
    | some w =>
      let age := (o.frame + 256 - reFtag w) % 256
      if d.entVoid w || d.rl.mine.contains (o.hdr, o.ring * 8 + j) || d.o O.RL_MAX_AGE < age then none else some (w, age))

/-- An entry holds a slot that matches a range (R479). -/
def Dev.matches (d : Dev) (range : Nat) (c : RCand) : Bool :=
  (List.range (reNecho c.1)).any (fun j =>
    let x : Int := (range : Int) - (4 * (reRng c.1 j : Int) - (c.2 : Int) * d.os16 O.RL_EGO_MMPF)
    x.natAbs ≤ d.o O.RL_MATCH_MM + c.2 * d.o O.RL_MATCH_AGE_MM)

/-- An entry has volumetric evidence. -/
def Dev.volumetric (d : Dev) (w : Nat) : Bool :=
  (List.range (reNecho w)).any (fun j => reCls w j == 1 || (rePer w j == 0 && 4 * reRng w j < d.o O.RL_VOL_MAX_MM))

/-- The final class of an echo with its evidence count and its hits (Table 09-3). -/
def Dev.classify1 (d : Dev) (o : Obs) (cs : List RCand) (x : Echo) : Nat × Nat × Nat :=
  let h := (cs.filter (d.matches x.range)).length
  let itf := (cs.filter (fun c => d.o O.RJ_INTF_UNM ≤ reUnm c.1)).length
  let vol := (cs.filter (fun c => d.volumetric c.1)).length
  if x.cls == 4 || x.cls == 5 then (x.cls, h, h)
  else if d.o O.RL_STABLE_HITS ≤ h then (x.cls, h, h)
  else if x.m < o.np && d.o O.RJ_INTF_UNM ≤ o.unm then (2, itf, h)
  else if x.range < d.o O.RL_VOL_MAX_MM && x.inten < d.o O.RL_VOL_MAX_INT && d.o O.RL_VOL_MIN ≤ vol then (1, vol, h)
  else (x.cls, h, h)

/-- CONF (R482). -/
def confOf (e n : Nat) : Nat := if n == 0 then 0 else 63 * (e + 1) / (n + 1)

/-- The entry of an observation without OSEQ and CHK (Table 09-2); `fin` lists final class and hits of each echo. -/
def entryWord (o : Obs) (fin : List (Nat × Nat)) : Nat :=
  let n := o.echoes.length
  let slot := fun (j : Nat) =>
    match o.echoes[j]?, fin[j]? with
    | some x, some f => ((x.range / 4) <<< (94 - 18 * j)) + ((x.inten / 64) <<< (52 - 6 * j)) + (min 7 f.2 <<< (37 - 3 * j)) + (f.1 <<< (28 - 3 * j))
    | _, _ => 0
  ((o.frame % 256) <<< 112) + slot 0 + slot 1 + slot 2 + (n <<< 20) + (o.amb <<< 16) +
    (min 15 o.unm <<< 12) + (b2n (o.echoes.any (fun x => x.cls == 4)) <<< 11) + (b2n (o.echoes.any (fun x => x.sat)) <<< 10) +
    (o.rangeG <<< 8)

/-- The echo that the map word names: most hits, the nearer on a tie. -/
def mapEcho : List (Nat × Nat) → Nat × Nat
  | [] => (0, 0)
  | f :: l => l.foldl (fun b x => if b.2 < x.2 then x else b) f

/-- The map word of an observation (Table 09-4). -/
def Dev.mapWord (d : Dev) (o : Obs) (fin : List (Nat × Nat)) : Nat :=
  let b := mapEcho fin
  (b.1 <<< 13) + (min 7 b.2 <<< 10) + (o.echoes.length <<< 8) + (o.amb <<< 4) +
    (b2n (d.o O.RJ_INTF_UNM ≤ o.unm) <<< 3) + (b2n (o.echoes.any (fun x => x.cls == 4)) <<< 2) +
    (b2n (o.echoes.any (fun x => x.sat)) <<< 1) + 1

/-! ### Window level (R465 to R467) -/

/-- Present channels whose level is at the warning mark. -/
def Dev.dirtyCount (e : Env) (d : Dev) : Nat :=
  ((List.range e.channels).filter (fun c => d.o O.RJ_WIN_WARN ≤ d.o O.RJ_WIN_LEVEL c)).length

/-- RJ_WIN_DIRTY taken again, after an observation or a write of its limits, and WINDOW_DIRTY_NOTIFY where it has risen to the
minimum or more (R466, R467). A rise that the rule withholds is a repeat (R908). -/
def Dev.dirtyCheck (e : Env) (d : Dev) : Dev :=
  let old := d.o O.RJ_WIN_DIRTY
  let n := d.dirtyCount e
  let m := d.o O.RJ_WIN_DIRTY_MIN
  let d := d.so O.RJ_WIN_DIRTY 0 n
  if m ≤ n && old < n && !d.rl.dirtyLogged then
    ({ d with rl := { d.rl with dirtyLogged := true } }).log e 0x0701 (locG 7 63 32) 1
  else if old < m && m ≤ n then d.logRepeat e 0x0701 (locG 7 63 32) 1
  else if 2 * n < m then { d with rl := { d.rl with dirtyLogged := false } }
  else d

/-- The window level of an observation's channel. -/
def Dev.winLevel (e : Env) (d : Dev) (o : Obs) : Dev :=
  if d.o O.RX_NF_MODE == 2 then d
  else
    let w := (o.echoes.filter (fun x => x.cls == 4 && x.range < d.o O.EX_NEAR_MM)).foldl (fun m x => max m x.v) 0
    let l : Int := d.o O.RJ_WIN_LEVEL o.chan
    (d.so O.RJ_WIN_LEVEL o.chan (satN 65535 (l + ((w : Int) - l) / 2 ^ d.o O.RJ_WIN_SHIFT).toNat)).dirtyCheck e

/-! ### Ring cache (R485 to R489) -/

/-- The cache block of a ring. -/
def blockOf (ring : Nat) : Nat := ring / 32

/-- A block is in the cache. -/
def Dev.cached (d : Dev) (blk : Nat) : Bool := d.rl.cache.any (fun p => p.1 == blk)

/-- A block used: it becomes the most recent. -/
def Dev.touch (d : Dev) (blk : Nat) : Dev :=
  match d.rl.cache.find? (fun p => p.1 == blk) with
  | some p => { d with rl := { d.rl with cache := p :: d.rl.cache.erase p } }
  | none => d

/-- A block holds the ring of one of some channels in a column. -/
def Dev.cellsIn (d : Dev) (col chans blk : Nat) : Bool := (chanList chans).any (fun c => blockOf (d.ringOf col c) == blk)

/-- A shot that may still emit observes a ring of the block. -/
def Dev.shotPins (d : Dev) (blk : Nat) (s : Shot) : Bool := !s.move && !s.thinned && d.cellsIn (entColumn s.ent) s.chans blk

/-- A write of Ringlet to a ring of the block is still queued in the fabric (R485). -/
def Dev.ringWrites (d : Dev) (blk : Nat) : Bool :=
  let lo := ringAddr (32 * blk) / 256
  let mine := fun (l : List Burst) => l.any (fun b => b.requester == 0 && b.write && lo ≤ b.blk && b.blk < lo + 16)
  d.mem.waiting.any (fun w => mine w.bursts) || d.mem.buffer.any (fun p => mine p.2) || d.mem.queue.any (fun p => mine p.2)

/-- An observation of one of the block's rings is pending: formed, to be formed of a group or a histogram, or of a shot that is decoded
and not over (log entry 204); or a write of one of its entries is still queued in the fabric (R485). -/
def Dev.pinned (d : Dev) (blk : Nat) : Bool :=
  d.ringWrites blk || d.ex.obs.any (fun o => blockOf o.ring == blk) ||
    d.ex.groups.any (fun g => g.2.wait.any (fun o => blockOf o.ring == blk) ||
      d.cellsIn g.2.column (if g.2.closed then g.2.toRead else g.2.chans) blk) ||
    d.jq.queue.any (d.shotPins blk) || d.jq.flight.any (fun f => d.shotPins blk f.shot)

/-- RING_PREFETCH (R181, R485): the blocks of the cells that a shot's channels light are requested. -/
def Dev.prefetch (d : Dev) (col chans : Nat) : Dev :=
  if !d.ob O.RL_ENABLE then d
  else
    (chanList chans).foldl (fun d c =>
      let b := blockOf (d.ringOf col c)
      if d.cached b then d.touch b
      else if d.rl.wanted.contains b then d
      else { d with rl := { d.rl with wanted := d.rl.wanted ++ [b] } }) d

/-- The place that a new block takes: a free one, else that of the least recently used block that is not pinned. -/
def Dev.cachePlace (d : Dev) : Option (Nat × Option Nat) :=
  match (List.range 128).find? (fun n => !d.rl.cache.any (fun p => p.2 == n)) with
  | some n => some (n, none)
  | none => (d.rl.cache.reverse.find? (fun p => !d.pinned p.1)).map (fun p => (p.2, some p.1))

/-- The rings of a block. -/
def ringsOf (blk : Nat) : List Nat := (List.range 32).map (fun i => 32 * blk + i)

/-- Late entries whose block has arrived are written; their PER is open. Each reads its ring (R473). -/
def Dev.lateWrite (e : Env) (d : Dev) (blk : Nat) : Dev :=
  let mineL := d.rl.late.filter (fun l => blockOf l.ring == blk)
  let d := { d with rl := { d.rl with late := d.rl.late.filter (fun l => blockOf l.ring != blk) } }
  mineL.foldl (fun d l =>
    let d := d.inc O.RL_VOID_CHK 0 ((d.ringEntries l.ring).filter d.badChk).length
    let (v, d) := d.freeVal 9
    let per := (List.range l.necho).foldl (fun s j => s + (bits v (3 * j) 3 <<< (37 - 3 * j))) 0
    d.putEntry e l.serial l.ring (l.word + per)) d

/-- An uncorrectable error of a cache block at an access (R489): `lane` is the failing byte lane. -/
def Dev.cacheError (e : Env) (d : Dev) (blk lane : Nat) : Dev :=
  match d.rl.cache.find? (fun p => p.1 == blk) with
  | none => d
  | some p =>
    let all := (ringsOf blk).flatMap slotsOf
    let d := { d with rl := { d.rl with voided := all ++ d.rl.voided.filter (fun x => !all.contains x) } }
    (d.inc O.RL_CACHE_ERR).log e 0x0702 (locCode 0 7 63 63 p.2 (lane % 16)) 0

/-- The cache error of an access, if it has one. -/
def Dev.cacheEcc (e : Env) (d : Dev) (blk : Nat) (ecc : Option Nat) : Dev :=
  match ecc with
  | some lane => d.cacheError e blk lane
  | none => d

/-- RING_BLOCK_ARRIVAL: a requested block comes from GDDR7; `poisoned` says that the whole answer is poisoned. While RL_ENABLE is 0
Ringlet reads no ring (R495). `ecc` is the byte lane of an uncorrectable cache error where late observations read the block (R489). -/
def Dev.blockArrive (e : Env) (d : Dev) (blk : Nat) (poisoned : Bool) (ecc : Option Nat) : Dev :=
  if !d.rl.wanted.contains blk || !d.ob O.RL_ENABLE then d
  else
    match d.cachePlace with
    | none => d
    | some (n, out) =>
      let d := (d.memRd e 0 (ringAddr (32 * blk)) 4096).2
      let gone := match out with
        | some b => ringsOf b
        | none => []
      let bad := (ringsOf blk).filter (fun r => poisoned || d.blkPoison (ringAddr r / 256))
      let d := { d with rl := { d.rl with
        wanted := d.rl.wanted.erase blk,
        cache := (blk, n) :: d.rl.cache.filter (fun p => some p.1 != out),
        copy := d.rl.copy.filter (fun p => !gone.contains (p.1 / 8)),
        voided := bad.flatMap slotsOf ++ d.rl.voided.filter (fun x => !gone.contains (x / 8)),
        poisonedRings := bad ++ d.rl.poisonedRings.filter (fun r => !gone.contains r) } }
      let d := if d.rl.late.any (fun l => blockOf l.ring == blk) then d.cacheEcc e blk ecc else d
      d.lateWrite e blk

/-! ### Persistence map -/

/-- A closed group has observations that are still to be formed or to be released: a channel with n_c 0 makes none (R475). -/
def ExGroup.pending (g : ExGroup) : Bool := g.wait != [] || (chanList g.toRead).any (fun c => (tget {} g.ch c).nc != 0)

/-- Whether an observation of a frame is still to be written. -/
def Dev.framePending (d : Dev) (f : Nat) : Bool :=
  d.ex.obs.any (fun o => o.frame == f) || d.ex.groups.any (fun g => g.2.frame == f && (!g.2.closed || g.2.pending))

/-- MAP_PUBLISH (R498): each frame that waits and of which nothing is pending, the oldest first. -/
def Dev.publish (d : Dev) : Dev :=
  d.rl.mapDue.foldl (fun d f =>
    if d.framePending f then d
    else { (d.so O.RL_MAP_FRAME 0 f) with rl := { d.rl with mapDue := d.rl.mapDue.erase f } }) d

/-- The bytes of a range within one block zeroed; an OFFLINE channel discards its own (R789). -/
def Dev.zeroBlock (d : Dev) (a n blk : Nat) : Dev :=
  let lo := max a (256 * blk)
  (if d.chOffline (d.chanOf (256 * blk)) then d else d.gZero lo (min (a + n) (256 * blk + 256) - lo)).wrCount a n blk

/-- An address range zeroed by a requester, block by block. -/
def Dev.memZero (d : Dev) (a n : Nat) : Dev := (blocksOf a n).foldl (fun d b => d.zeroBlock a n b) d

/-- A frame is over: complete, its interfered windows are those of the last complete frame; broken by a stop, they count nowhere
(R463). -/
def Dev.intfFrame (d : Dev) (complete : Bool) : Dev :=
  let d' := if complete then d.so O.RJ_INTF_LAST_FRAME 0 d.rl.intf else d
  { d' with rl := { d'.rl with intf := 0 } }

/-- Ringlet at a frame boundary (R463, R490, R496, R498). The first frame of a start completes none. -/
def Dev.ringFrame (d : Dev) : Dev :=
  let f := d.o O.RL_FRAME
  let d := (d.intfFrame (1 < d.o O.JQ_FRAME_NUMBER)).so O.RL_FRAME 0 ((f + 1) % 2 ^ 32)
  let d := { d with rl := { d.rl with mapDue := d.rl.mapDue ++ [f] } }
  let d := if d.ob O.RL_ENABLE && d.found != 0 then d.memZero (mapAddr (f + 2) 0) 0x100000 else d
  d.publish

/-! ### Classification -/

/-- The records of an observation under final classes and confidences. -/
def obsRecords (o : Obs) (seq : Nat) (fin : List (Nat × Nat)) : List Nat :=
  (List.range o.echoes.length).filterMap (fun j =>
    match o.echoes[j]?, fin[j]? with
    | some x, some f => some (recordWord o x j f.1 f.2 seq)
    | _, _ => none)

/-- The SEQ of an observation's header. -/
def Dev.jobSeq (d : Dev) (serial : Nat) : Nat :=
  match d.ex.jobs.find? (fun j => j.serial == serial) with
  | some j => bits j.word 12 4
  | none => 0

/-- An observation with its ring (R479 to R484): the classes and confidences of its records. -/
def Dev.classifyRing (e : Env) (d : Dev) (o : Obs) : List (Nat × Nat) × Dev :=
  let ents := d.ringEntries o.ring
  let d := d.inc O.RL_VOID_CHK 0 (ents.filter d.badChk).length
  let ents := if (newestSeq ((ents.filter (fun w => !d.entVoid w)).map reOseq)).isSome then ents else List.replicate 8 0
  let cs := d.candidates o ents
  let r := o.echoes.map (d.classify1 o cs)
  let d := d.inc O.RL_CLASS1 0 ((o.echoes.zip r).filter (fun p => p.2.1 == 1 && p.1.cls != 1)).length
  let d := d.inc O.RJ_INTF_CLASS2 0 ((o.echoes.zip r).filter (fun p => p.2.1 == 2 && p.1.cls != 2)).length
  let hits := r.map (fun x => (x.1, x.2.2))
  let d := d.putEntry e o.hdr o.ring (entryWord o hits)
  let d := d.memWr e 1 (mapAddr o.frame o.ring) (leBytes 2 (d.mapWord o hits))
  (r.map (fun x => (x.1, confOf x.2.1 cs.length)), d)

/-- An observation whose ring had not arrived (R41, R486): its entry is written when the ring arrives, at once where it has by now.
A block that is neither in the cache nor requested is requested. -/
def Dev.classifyLate (e : Env) (d : Dev) (o : Obs) (ecc : Option Nat) : List (Nat × Nat) × Dev :=
  let prelim := o.echoes.map (fun x => (x.cls, 0))
  let d := d.inc O.RL_LATE
  let blk := blockOf o.ring
  let l : LateObs := { serial := o.hdr, ring := o.ring, word := entryWord o prelim, necho := o.echoes.length }
  let d := { d with rl := { d.rl with late := d.rl.late ++ [l] } }
  let d :=
    if d.cached blk then (d.cacheEcc e blk ecc).lateWrite e blk
    else if d.rl.wanted.contains blk then d else { d with rl := { d.rl with wanted := d.rl.wanted ++ [blk] } }
  (prelim, d.memWr e 1 (mapAddr o.frame o.ring) (leBytes 2 (d.mapWord o prelim)))

/-- The first observation of a header that holds an echo finds which blocks are still requested: what lies in them is late (R486). -/
def Dev.lateMark (d : Dev) (o : Obs) : Dev :=
  if o.echoes == [] || d.rl.lateFor.any (fun p => p.1 == o.hdr) then d
  else { d with rl := { d.rl with lateFor := (o.hdr, d.rl.wanted) :: d.rl.lateFor } }

/-- An observation is handled under R41: its ring had not arrived when its shot's first echo reached Ringlet, or is not there. -/
def Dev.isLate (d : Dev) (o : Obs) : Bool :=
  !d.cached (blockOf o.ring) || d.rl.lateFor.any (fun p => p.1 == o.hdr && p.2.contains (blockOf o.ring))

/-- ECHO_CLASSIFY on the oldest observation. `ecc` is the byte lane of an uncorrectable cache error at this access. What is
placed into assembly targets is `place`'s concern (chapter 13). -/
def Dev.classify (e : Env) (d : Dev) (ecc : Option Nat) (place : Dev → Obs → List (Nat × Nat) → Dev) : Dev :=
  match d.ex.obs with
  | [] => d
  | o :: rest =>
    let d := { d with ex := { d.ex with obs := rest } }
    let d := ((d.inc O.RL_OBS).winLevel e o).lateMark o
    let blk := blockOf o.ring
    let r :=
      if !d.ob O.RL_ENABLE || 0x80000 ≤ o.ring then (o.echoes.map (fun x => (x.cls, 0)), d)
      else if !d.isLate o then
        ((d.touch blk).cacheEcc e blk ecc).classifyRing e o
      else d.classifyLate e o ecc
    let d := place r.2 o r.1
    (d.jobStep e o.hdr (obsRecords o (d.jobSeq o.hdr) r.1)).publish

/-! ### Observations formed -/

/-- HISTOGRAM_READOUT_DONE (R414, R923): the histogram of a channel of a closed group; a tile reads its channels in ascending
order. -/
def Dev.readout (e : Env) (d : Dev) (ch : Nat) (parity : Bool) : Dev :=
  match d.ex.groups.find? (fun p => p.2.closed && bit p.2.toRead ch) with
  | none => d
  | some (inst, g) =>
    if bits g.toRead (ch / 64 * 64) (ch % 64) != 0 || e.now < g.closeAt + 128 * (tilePlace g.chans ch + 1) then d
    else
      let x := tget {} g.ch ch
      let w := d.o O.EM_CODE g.code
      let r := if x.nc == 0 || parity then ([], d) else d.multiShot ch w g.wclass x
      let echoes := if x.withheld || d.muted ch || !d.biasGood (ch / 64) || d.o O.RX_SLICE_STATUS x.slice == 1 then [] else r.1
      let d := r.2.inc O.EX_ECHOES ch echoes.length
      let d := if parity then d.log e 0x0601 (locCode 0 6 (ch / 16) (ch / 64) (ch % 16) 63) 0 else d
      let left := setBit g.toRead ch false
      let o : Obs := { chan := ch, rangeG := x.range, echoes := echoes, np := codeNp w, unm := 0, skipper := 512 ≤ x.slice,
                       extrap := x.extrap, amb := x.level, hdr := g.serial, ring := d.ringOf g.column ch, frame := g.frame }
      let wait := if x.nc == 0 then g.wait else obsIns o g.wait
      let rel := releaseObs left wait
      let d := { d with ex := { d.ex with bins := tdrop d.ex.bins (binKey ch 0) 4096, obs := d.ex.obs ++ rel.1 } }
      let d :=
        if left == 0 then { d with ex := { d.ex with groups := d.ex.groups.filter (fun p => p.1 != inst) } }
        else d.setGroup inst { g with toRead := left, wait := rel.2 }
      if x.nc == 0 then (d.jobStep e g.serial []).publish else d

/-! ### Sweep, generations, clearing -/

/-- A ring of the sweep written back, with its dead entries zero. -/
def Dev.sweepRing (e : Env) (d : Dev) (ring : Nat) (dead : List Nat) : Dev :=
  let bs := (List.range 8).flatMap (fun j =>
    if dead.contains (8 * ring + j) then zeros 16 else (List.range 16).map (fun i => d.gByte (ringAddr ring + 16 * j + i)))
  d.memWr e 0 (ringAddr ring) bs

/-- The rings of a block of GDDR7 whose read the sweep finds poisoned are void and are written back as zeros (R488, log entry 35). -/
def Dev.sweepPoison (e : Env) (d : Dev) (blk : Nat) : Dev := (d.inc O.RL_POISON 0 2).memWr e 0 (256 * blk) (zeros 256)

/-- RINGLET_SWEEP (R491): once a frame, one 32nd of the rings. Only bytes that are not zero can belong to an entry to clear. -/
def Dev.sweepStep (e : Env) (d : Dev) : Dev :=
  let f := d.o O.RL_FRAME
  if d.o O.JQ_STATE == 0 || d.o O.RL_STATE != 2 || !d.ob O.RL_ENABLE || d.rl.sweepFrame == some f then d
  else
    let lo := ringAddr (16384 * d.rl.sweep)
    let hi := ringAddr (16384 * (d.rl.sweep + 1))
    let bad := (blocksOf lo (hi - lo)).filter d.blkPoison
    let d := bad.foldl (fun d b => d.sweepPoison e b) (d.memRd e 0 lo (hi - lo)).2
    let slots := (((d.gddr.filter (fun p => lo ≤ p.1 && p.1 < hi && !bad.contains (p.1 / 256))).map (fun p => p.1 / 16))).eraseDups
    let word := fun (d : Dev) (s : Nat) => leNat ((List.range 16).map (fun i => d.gByte (16 * s + i)))
    let dead := slots.filter (fun s => let w := word d s; d.badChk w || 64 < (f + 256 - reFtag w) % 256)
    let d := d.inc O.RL_VOID_CHK 0 (dead.filter (fun s => d.badChk (word d s))).length
    let mine := dead.map (fun s => s - ringBase / 16)
    let d := ((mine.map (fun x => x / 8)).eraseDups).foldl (fun d r => d.sweepRing e r mine) d
    let next := (d.rl.sweep + 1) % 32
    let d := if next == 0 then d.inc O.RL_SWEEP_PASS else d
    { d with rl := { d.rl with sweep := next, sweepFrame := some f } }

/-- A generation step (R474, R492). -/
def Dev.genStep (d : Dev) : Dev :=
  let g := (d.o O.RL_GEN + 1) % 256
  d.so O.RL_GEN 0 (if g == 0xA5 then 0xA6 else g)

/-- RL_GEOMETRY landed (R493). -/
def Dev.geometry (d : Dev) (v : Nat) : Dev := if v == d.o O.RL_GEOMETRY then d else (d.so O.RL_GEOMETRY 0 v).genStep

/-- RL_ENABLE landed: while it is 0 no request and no late entry stands (R495). -/
def Dev.ringEnable (d : Dev) (v : Nat) : Dev :=
  let d := d.so O.RL_ENABLE 0 v
  if v == 0 then { d with rl := { d.rl with wanted := [], late := [] } } else d

/-- Jacquard reaches STOPPED: a stop after the frame completes it, a stop at once breaks it (R463, R493). -/
def Dev.ringStop (e : Env) (d : Dev) : Dev :=
  let d := d.intfFrame (!d.jq.stopNow)
  { d with rl := { d.rl with stopAt := some e.now } }

/-- A Jacquard start after a stop longer than RL_KEEP_MS (R493). -/
def Dev.ringStart (e : Env) (d : Dev) : Dev :=
  match d.rl.stopAt with
  | some t => if t + 1500000 * d.o O.RL_KEEP_MS < e.now then d.genStep else d
  | none => d

/-- Ringlet after GDDR7 training (R494): it clears its region; nothing is cached. When Jacquard last stopped and the hysteresis of R467
stay (R467, R493). -/
def Dev.ringTrained (d : Dev) : Dev :=
  { (d.so O.RL_STATE 0 1) with rl := { stopAt := d.rl.stopAt, dirtyLogged := d.rl.dirtyLogged } }

/-- RINGLET_CLEAR_DONE (R494). -/
def Dev.ringCleared (d : Dev) : Dev :=
  if d.o O.RL_STATE == 1 then ((d.memZero ringBase ringSize).memZero mapBase mapSize).so O.RL_STATE 0 2 else d

/-- The column of the published map that RL_MAP_COL shows (R499): poisoned words read as 0. -/
def Dev.mapColumn (e : Env) (d : Dev) : Bytes × Dev :=
  let f := d.o O.RL_MAP_FRAME
  let col := d.o O.RL_MAP_COL_SEL
  let rows := d.rlRows
  let r := (List.range rows).foldl (fun (st : Bytes × Dev) i =>
    let x := st.2.memRd e 1 (mapAddr f (col * rows + i)) 2
    (st.1 ++ x.1.getD (zeros 2), x.2)) ([], d)
  (r.1 ++ leBytes 4 f, r.2)

end Sys2Proof.Machine
end

