-- ==== Sys2Proof/Machine/Waveform.lean ====
section
/-! DEFINITION. Waveform digitisers, filter chains and acquisition (chapter 10). -/

namespace Sys2Proof.Machine

/-! ### Digitiser slices (R500 to R513) -/

/-- The pair of a slice is interleaved. -/
def Dev.paired (d : Dev) (s : Nat) : Bool := d.ob O.DG_PAIR_MODE (s / 2)

/-- The chain that filters a slice's samples (R511). -/
def Dev.chainOf (d : Dev) (s : Nat) : Nat := if d.paired s then s / 2 * 2 else s

/-- Samples are taken for a chain: its slice is READY, or both slices of its pair (R504, R510). -/
def Dev.chainOn (d : Dev) (c : Nat) : Bool :=
  if d.paired c then c % 2 == 0 && d.o O.DG_STATE c == 2 && d.o O.DG_STATE (c + 1) == 2 else d.o O.DG_STATE c == 2

/-- Input samples of a chain to a coarse period. -/
def Dev.chainRate (d : Dev) (c : Nat) : Nat := if d.paired c then 2 else 1

/-- A chain's state beside its objects. -/
def Dev.chain (d : Dev) (c : Nat) : Chain := tget {} d.acq.chains c

/-- A chain's state changed. -/
def Dev.setChain (d : Dev) (c : Nat) (x : Chain) : Dev := { d with acq := { d.acq with chains := tset {} d.acq.chains c x } }

/-- The latest epoch of a chain. -/
def Chain.now (x : Chain) : Epoch := (x.eps.head?).getD {}

/-- The latest epoch of a chain changed. -/
def Chain.setNow (x : Chain) (ep : Epoch) : Chain := { x with eps := ep :: x.eps.drop 1 }

/-- The coarse period of a chain's input index 0. -/
def Chain.syncAt (x : Chain) : Nat := x.now.syncAt

/-- The bank that a list of changes leads to. -/
def bankAfter (b : Nat) (l : List Fade) : Nat := l.foldl (fun _ f => f.target) b

/-- The last change of bank of a chain: where it starts, how long it fades, the banks it goes from and to. -/
def Chain.last (x : Chain) : Fade := (x.now.fades.getLast?).getD { target := x.now.bank }
def Chain.start (x : Chain) : Nat := x.last.start
def Chain.len (x : Chain) : Nat := x.last.len
def Chain.target (x : Chain) : Nat := x.last.target
def Chain.old (x : Chain) : Nat := bankAfter x.now.bank x.now.fades.dropLast

/-- The decimation of a chain. -/
def Dev.decim (d : Dev) (c : Nat) : Nat := 2 ^ d.o O.FILT_DECIM c

/-- The running epoch of a chain ends at a coarse period. -/
def Chain.stopAt (x : Chain) (t : Nat) : Chain :=
  match x.eps with
  | ep :: l => { x with eps := (if ep.stop.isNone then { ep with stop := some t } else ep) :: l }
  | [] => x

/-- An epoch that the windows of the shot in flight, or later ones, can still reach: it ended no longer than 1,024 coarse periods
before them. -/
def Dev.epochKept (d : Dev) (at_ : Nat) (x : Epoch) : Bool :=
  let from_ := (d.jq.flight.map Flight.emit).getD at_
  match x.stop with
  | some s => decide (from_ ≤ s + 1024)
  | none => true

/-- A synchronisation of a chain at a coarse period (R523): a running fade ends with its target, a pending swap is applied. A chain
without samples is IDLE and has no input index to restart. -/
def Dev.syncChain (d : Dev) (c at_ : Nat) : Dev :=
  let p := d.o O.FILT_SWAP_REQ c
  let b := if p != 0xFF then p else if d.o O.FILT_STATE c == 2 then (d.chain c).target else d.o O.FILT_BANK c
  let on := d.chainOn c
  let d := (d.inc O.FILT_SYNCS c).sos [(O.FILT_BANK, c, b), (O.FILT_SWAP_REQ, c, 0xFF), (O.FILT_STATE, c, if on then 0 else 3)]
  let x := (d.chain c).stopAt at_
  let ep : Epoch := { syncAt := at_, rate := d.chainRate c, dm := d.o O.FILT_DECIM c, delay := d.o O.FILT_DELAY c, bank := b }
  d.setChain c (if on then { x with eps := ep :: x.eps.filter (d.epochKept at_) } else x)

/-- Every present chain of a mask synchronised on one input sample (R526). -/
def Dev.syncMask (e : Env) (d : Dev) (m at_ : Nat) : Dev :=
  (List.range e.digis).foldl (fun d c => if bit m c then d.syncChain c at_ else d) d

/-- A synchronisation ordered for a coarse period. -/
def Dev.syncLater (d : Dev) (m at_ : Nat) : Dev := { d with acq := { d.acq with syncs := d.acq.syncs ++ [(m, at_)] } }

/-- A synchronisation put in its place among others in order of time. -/
def syncIns (p : Nat × Nat) : List (Nat × Nat) → List (Nat × Nat)
  | [] => [p]
  | q :: l => if p.2 < q.2 then p :: q :: l else q :: syncIns p l

/-- The synchronisations that are due, in order of time (R525). -/
def Dev.syncStep (e : Env) (d : Dev) : Dev :=
  let due := d.acq.syncs.filter (fun p => p.2 ≤ 2 * e.now + 1)
  if due == [] then d
  else
    let d := { d with acq := { d.acq with syncs := d.acq.syncs.filter (fun p => !(p.2 ≤ 2 * e.now + 1)) } }
    (due.foldl (fun l p => syncIns p l) []).foldl (fun d p => d.syncMask e p.1 p.2) d

/-- Samples of a chain end (R504). -/
def Dev.chainOff (e : Env) (d : Dev) (c : Nat) : Dev := (d.so O.FILT_STATE c 3).setChain c ((d.chain c).stopAt (2 * e.now))

/-- The acquisition domain follows the digitisers' (Table 17-3). -/
def Dev.acqDom (e : Env) (d : Dev) : Dev := d.domSet e 87 ((List.range 32).any (fun s => d.o O.PWR_DOM_STATE (32 + s) != 0))

/-- DG_POWER written 1: OFF to WAKING (R504). -/
def Dev.digiOn (e : Env) (d : Dev) (s : Nat) : Dev :=
  let d := d.so O.DG_POWER s 1
  if d.o O.DG_STATE s != 0 then d
  else
    let d := ((d.so O.DG_STATE s 1).domOn e (32 + s)).acqDom e
    { d with acq := { d.acq with wakeAt := tset 0 d.acq.wakeAt s e.now } }

/-- DG_POWER written 0. -/
def Dev.digiOff (e : Env) (d : Dev) (s : Nat) : Dev :=
  (((d.sos [(O.DG_POWER, s, 0), (O.DG_STATE, s, 0)]).chainOff e (d.chainOf s)).domOff (32 + s)).acqDom e

/-- DIGITISER_READY (R504, R525): 20 µs after power-up. -/
def Dev.digiReady (e : Env) (d : Dev) (s : Nat) : Dev :=
  if d.o O.DG_STATE s == 1 && tget 0 d.acq.wakeAt s + 30000 ≤ e.now then
    let d := d.so O.DG_STATE s 2
    if d.chainOn (d.chainOf s) then d.syncChain (d.chainOf s) (2 * e.now + 1) else d
  else d

/-- DIGITISER_FAILED (R505): not READY 100 µs after power-up. -/
def Dev.digiFailed (e : Env) (d : Dev) (s : Nat) : Dev :=
  if d.o O.DG_STATE s == 1 && tget 0 d.acq.wakeAt s + 150000 ≤ e.now then
    (d.so O.DG_STATE s 3).log e 0x0801 (locCode 0 8 63 (d.chainOf s) s 0) 2
  else d

/-- A change of DG_PAIR_MODE, FILT_DECIM or FILT_DELAY of some chains has landed: synchronisation 72 ns after the shot boundary, and
at once while Jacquard is STOPPED, where no boundary is (R525, log entry 205). -/
def Dev.chainLanded (e : Env) (d : Dev) (m : Nat) : Dev :=
  if d.o O.JQ_STATE == 0 then d.syncMask e m (2 * e.now) else d.syncLater m (d.jq.bound + 216)

/-- FILT_DECIM or FILT_DELAY landed: a change synchronises its chain. -/
def Dev.filtLanded (e : Env) (d : Dev) (idx c v : Nat) : Dev :=
  if d.o idx c == v then d else (d.so idx c v).chainLanded e (2 ^ c)

/-- DG_PAIR_MODE landed (R511): a change synchronises both chains; the idle one reads IDLE. -/
def Dev.pairLanded (e : Env) (d : Dev) (p v : Nat) : Dev :=
  if d.o O.DG_PAIR_MODE p == v then d
  else (d.so O.DG_PAIR_MODE p v).chainLanded e (3 * 2 ^ (2 * p))

/-! ### Banks and cross-fades (R518 to R522) -/

/-- The index of the output that a chain emits at a coarse period of an epoch. -/
def Epoch.index (x : Epoch) (t : Nat) : Nat := (t - x.syncAt) * x.rate / 2 ^ x.dm

/-- The index of the output a chain emits at a coarse period. -/
def Dev.outIndex (d : Dev) (c t : Nat) : Nat := ((d.chain c).now).index t

/-- A change of bank joins an epoch; the oldest of more than 64 is taken into the epoch's bank. -/
def Epoch.fade (x : Epoch) (f : Fade) : Epoch :=
  match x.fades with
  | g :: l => if 63 ≤ l.length then { x with bank := g.target, fades := l ++ [f] } else { x with fades := x.fades ++ [f] }
  | [] => { x with fades := [f] }

/-- A change of bank of a chain, with an output index for its start. -/
def Dev.addFade (d : Dev) (c start b len : Nat) : Dev :=
  d.setChain c ((d.chain c).setNow (((d.chain c).now).fade { start := start, target := b, len := len }))

/-- A fade to a bank starts at an output (R521). -/
def Dev.fadeStart (d : Dev) (c start b : Nat) : Dev :=
  let l := d.o O.FILT_XFADE_LEN c
  (if l == 0 then d.so O.FILT_BANK c b else d.so O.FILT_STATE c 2).addFade c start b l

/-- FILT_SWAP_REQ written (R520). A chain without samples takes the bank at once. -/
def Dev.swapReq (e : Env) (d : Dev) (c b : Nat) : Dev :=
  let st := d.o O.FILT_STATE c
  let next := d.outIndex c (2 * e.now + 1) + 1
  if st == 2 then
    let d := if d.o O.FILT_SWAP_REQ c != 0xFF then d.inc O.FILT_SWAP_COALESCED c else d
    d.so O.FILT_SWAP_REQ c b
  else if st == 3 then d.so O.FILT_BANK c b
  else if st == 0 then (d.so O.FILT_BANK c b).addFade c next b 0
  else if b != d.o O.FILT_BANK c then d.fadeStart c next b
  else d

/-- FILT_FADE_END: after the last sample of a fade; a pending swap's fade follows on the next one (R520). -/
def Dev.fadeEnd (e : Env) (d : Dev) (c : Nat) : Dev :=
  let x := d.chain c
  if d.o O.FILT_STATE c == 2 && x.start + x.len ≤ d.outIndex c (2 * e.now + 1) then
    let p := d.o O.FILT_SWAP_REQ c
    let d := d.sos [(O.FILT_BANK, c, x.target), (O.FILT_STATE, c, 1), (O.FILT_SWAP_REQ, c, 0xFF)]
    if p != 0xFF && p != x.target then d.fadeStart c (x.start + x.len) p else d
  else d

/-- Invalid outputs after the synchronisation that begins an epoch (R524). -/
def Epoch.fill (x : Epoch) : Nat := (31 + 2 ^ x.dm - 1) / 2 ^ x.dm + x.delay / 64

/-- Invalid outputs of a chain after its last synchronisation. -/
def Dev.fillLen (d : Dev) (c : Nat) : Nat := ((d.chain c).now).fill

/-- FILT_FILL_DONE (R524). -/
def Dev.fillDone (e : Env) (d : Dev) (c : Nat) : Dev :=
  if d.o O.FILT_STATE c == 0 && (d.chain c).syncAt ≤ 2 * e.now + 1 && d.fillLen c ≤ d.outIndex c (2 * e.now + 1) then d.so O.FILT_STATE c 1
  else d

/-- A FILT_COEF element belongs to a bank in force, in a running fade, or the target of a pending swap (R519). -/
def Dev.coefBusy (d : Dev) (el : Nat) : Bool :=
  let c := el / 64
  let b := el % 64 / 32
  b == d.o O.FILT_BANK c || d.o O.FILT_SWAP_REQ c == b || (d.o O.FILT_STATE c == 2 && ((d.chain c).old == b || (d.chain c).target == b))

/-! ### Outputs (R502, R514 to R517, R521, R524) -/

/-- The raw code of a TIA output in µV above its calibrated zero (R501); of two nearest codes the even one (log entry 205). -/
def adcCode (uv : Int) : Int := clampI 0 1023 (64 + divHE uv 600)

/-- Raw code `n` of a slice in a window; a sample that is not listed is at its calibrated zero. -/
def rawCode (m : List (Nat × Nat × List Int)) (s : Nat) (n : Int) : Int :=
  match m.find? (fun p => p.1 == s) with
  | none => 64
  | some (_, lead, l) => if n + lead < 0 then 64 else adcCode ((l[(n + lead).toNat]?).getD 0)

/-- A corrected sample (R502). -/
def Dev.corrected (d : Dev) (s : Nat) (code : Int) : Int :=
  roundHE (((code - 64) * 32 * (d.o O.DG_GAIN s : Int) : Int) / 32768 + (d.os16 O.DG_OFFSET s : Rat))

/-- Corrected sample `n` of a chain's input in a window, at its input samples to a coarse period (R507). -/
def Dev.chainIn (d : Dev) (m : List (Nat × Nat × List Int)) (c rate : Nat) (n : Int) : Int :=
  if rate == 2 then
    let s := if n % 2 == 0 then c else c + 1
    d.corrected s (rawCode m s (n / 2))
  else d.corrected c (rawCode m c n)

/-- Raw code `n` of a chain's input in a window. -/
def Dev.chainRaw (d : Dev) (m : List (Nat × Nat × List Int)) (c : Nat) (n : Int) : Int :=
  if d.paired c then rawCode m (if n % 2 == 0 then c else c + 1) (n / 2) else rawCode m c n

/-- The coefficients of a bank as they stand. -/
def Dev.bankCoefs (d : Dev) (c b : Nat) : List Int := (List.range 32).map (fun t => d.os16 O.FILT_COEF (64 * c + 32 * b + t))

/-- The coefficients of a bank at a coarse period: those that the first later write replaced, else those that stand (R514). -/
def Dev.coefsAt (d : Dev) (c b at_ : Nat) : List Int :=
  match (d.chain c).past.find? (fun p => p.bank == b && at_ < p.at_) with
  | some p => p.coefs
  | none => d.bankCoefs c b

/-- FILT_COEF landed. While a shot is in flight the bank's coefficients are kept for the outputs before the write (R514). -/
def Dev.coefLanded (e : Env) (d : Dev) (el v : Nat) : Dev :=
  let c := el / 64
  let b := el % 64 / 32
  let x := d.chain c
  let past := if d.jq.flight.isSome then x.past ++ [{ bank := b, at_ := 2 * e.now + 1, coefs := d.bankCoefs c b }] else []
  (if past == x.past then d else d.setChain c { x with past := past }).so O.FILT_COEF el v

/-- Coefficient `t` of a set at a fractional delay (R516). -/
def coefOf (cs : List Int) (f t : Nat) : Int := if f == 0 then (cs[t]?).getD 0 else Config.polyphase cs f t

/-- The sum of R514 on a set of coefficients in an epoch: `i0` is the epoch's index of window zero, `k` the index of the newest input
sample. Samples from before the synchronisation are cleared. -/
def Dev.firSum (d : Dev) (m : List (Nat × Nat × List Int)) (c : Nat) (cs : List Int) (x : Epoch) (i0 k : Int) : Int :=
  (List.range 32).foldl (fun (s : Int) (t : Nat) =>
    s + (if k - (t : Int) < 0 then 0 else coefOf cs (x.delay % 64) t * d.chainIn m c x.rate (k - (t : Int) - i0))) 0

/-- The rounded and saturated output of a sum, and whether it saturated (R515). -/
def firOut (s : Int) : Int × Bool :=
  let y := divHE s 131072
  (clampI (-8192) 8191 y, y < -8192 || 8191 < y)

/-- One output of a chain: attributed time in 1/64 input sample from window zero, the newest input sample of its sum counted from
there, value, XFADE, VALID, saturated. -/
structure ChainOut where
  at_ : Int
  newest : Int
  y : Int
  fade : Bool
  valid : Bool
  sat : Bool
  deriving DecidableEq, Repr

/-- The bank of output `i` under changes from a bank on, and where a fade is under way its target, the output's number in it from 1
and its length. -/
def bankAt (i : Nat) : Nat → List Fade → Nat × Option (Nat × Nat × Nat)
  | b, [] => (b, none)
  | b, f :: l =>
    if i < f.start then (b, none)
    else if i < f.start + f.len then (b, some (f.target, i - f.start + 1, f.len))
    else bankAt i f.target l

/-- Output `i` of an epoch of a chain (R514 to R517, R521, R524). -/
def Dev.outAt (d : Dev) (m : List (Nat × Nat × List Int)) (c : Nat) (x : Epoch) (i0 : Int) (i : Nat) : ChainOut :=
  let dm : Nat := 2 ^ x.dm
  let k : Int := ((i : Int) - (x.delay / 64 : Nat)) * dm
  let t : Int := 64 * ((i * dm : Nat) - i0) + (x.delay % 64 * dm : Nat)
  let fir := fun b => firOut (d.firSum m c (d.coefsAt c b (x.syncAt + i * dm / x.rate)) x i0 k)
  if i < x.fill then { at_ := t, newest := k - i0, y := 0, fade := false, valid := false, sat := false }
  else
    match bankAt i x.bank x.fades with
    | (b, none) => let y := fir b; { at_ := t, newest := k - i0, y := y.1, fade := false, valid := true, sat := y.2 }
    | (b, some (g, j, l)) =>
      let yo := fir b
      let yn := fir g
      let a : Nat := 65536 * j / (l + 1)
      { at_ := t, newest := k - i0, y := divHE (65536 * yo.1 + (a : Int) * (yn.1 - yo.1)) 65536, fade := true, valid := true,
        sat := yo.2 || yn.2 }

/-- The outputs of one epoch of a chain whose attributed times lie in `[lo, hi)`, in 1/512 coarse period from window zero. An epoch
emits no output from its end on. -/
def Dev.outsOf (d : Dev) (m : List (Nat × Nat × List Int)) (c emit : Nat) (lo hi : Int) (x : Epoch) : List ChainOut :=
  let i0 : Int := ((emit : Int) - x.syncAt) * x.rate
  let dm : Int := (2 ^ x.dm : Nat)
  let idx := fun (t : Int) => (t * x.rate / 512 + i0) / dm
  let first := (idx lo - 2).toNat
  let past := match x.stop with
    | some s => min (idx hi + 3).toNat (((s - x.syncAt) * x.rate + 2 ^ x.dm - 1) / 2 ^ x.dm)
    | none => (idx hi + 3).toNat
  ((List.range (past - first)).map (fun j => d.outAt m c x i0 (first + j))).filter
    (fun o => lo * (64 * x.rate : Nat) ≤ o.at_ * 512 && o.at_ * 512 < hi * (64 * x.rate : Nat))

/-- The outputs of a chain whose attributed times lie in `[lo, hi)`, in 1/512 coarse period from window zero, across its
synchronisations. -/
def Dev.outsIn (d : Dev) (m : List (Nat × Nat × List Int)) (c emit : Nat) (lo hi : Int) : List ChainOut :=
  ((d.chain c).eps.reverse).flatMap (d.outsOf m c emit lo hi)

/-- Samples of a chain are taken at a coarse period counted from window zero (R504, R510). -/
def Dev.takenAt (d : Dev) (c emit : Nat) (t : Int) : Bool :=
  (d.chain c).eps.any (fun x => (x.syncAt : Int) ≤ emit + t && (match x.stop with
    | some s => decide ((emit : Int) + t < s)
    | none => true))

/-- The listed samples of a chain's slices, as coarse periods `[lo, hi)` from window zero; none where none are listed. -/
def Dev.listed (d : Dev) (m : List (Nat × Nat × List Int)) (c : Nat) : Option (Int × Int) :=
  (m.filter (fun p => d.chainOf p.1 == c)).foldl (fun (r : Option (Int × Int)) p =>
    let lo : Int := -(p.2.1 : Int)
    let hi : Int := lo + p.2.2.length
    match r with
    | none => some (lo, hi)
    | some x => some (min x.1 lo, max x.2 hi)) none

/-- Clipped codes and saturated outputs counted (R503, R515): of every sample listed, and of every output that sums a listed
sample. -/
def Dev.digiCounts (e : Env) (d : Dev) (m : List (Nat × Nat × List Int)) (emit : Nat) : Dev :=
  let d := (m.filter (fun p => p.1 < e.digis)).foldl (fun d p =>
    let n := ((List.range p.2.2.length).filter (fun (j : Nat) =>
      let t : Int := (j : Int) - p.2.1
      let x := rawCode m p.1 t
      d.takenAt (d.chainOf p.1) emit t && (x == 0 || x == 1023))).length
    d.inc O.DG_CLIP p.1 n) d
  (List.range e.digis).foldl (fun d c =>
    match d.listed m c with
    | none => d
    | some (lo, hi) =>
      let r := d.chainRate c
      let outs := (d.outsIn m c emit (512 * lo) (512 * (hi + 544))).filter (fun o => lo * r ≤ o.newest && o.newest < hi * r + 31)
      d.inc O.FILT_SAT c (outs.filter ChainOut.sat).length) d

/-- The slices that a channel is tapped to (R346). -/
def Dev.tapsTo (e : Env) (d : Dev) (ch : Nat) : List Nat := (List.range e.digis).filter (fun s => d.o O.RX_TAP_SRC s == ch)

/-- The digitiser peak of a pulse by one route (R425, R527): none where the route has not captured the pulse's whole span, or the
span reaches full scale. A sample reaches extraction within a pipeline of at most 178.67 ns (R506), so within the 200 ns. -/
def Dev.routePeak (d : Dev) (m : List (Nat × Nat × List Int)) (emit : Nat) (p : Pulse) (s : Nat) : Option Rat :=
  let c := d.chainOf s
  let lo := p.tr - 1536
  let hi := p.tf + 1536
  let r := d.chainRate c
  let periods := (List.range (hi / 512 - lo / 512 + 1).toNat).map (fun (j : Nat) => lo / 512 + (j : Int))
  -- attributed times in 1/64 input sample; a coarse period has 512 units of the pulse
  let outs := (d.outsIn m c emit lo (hi + 1)).filter (fun o => o.at_ * 512 ≤ hi * (64 * r : Nat))
  let raws := periods.flatMap (fun t => (List.range r).map (fun (j : Nat) => t * r + (j : Int)))
  let full := raws.any (fun n => lo * (r : Int) ≤ n * 512 && n * 512 ≤ hi * (r : Int) && d.chainRaw m c n == 1023)
  if !periods.all (d.takenAt c emit) || outs == [] || outs.any (fun o => !o.valid) || full then none
  else some ((outs.foldl (fun x o => max x o.y) (-8192) : Int) * 75 / 512000)

/-- The digitiser's answer for a pulse of a channel (R425): that of its first route which captured the pulse. -/
def Dev.digiPeak (e : Env) (d : Dev) (m : List (Nat × Nat × List Int)) (emit ch : Nat) (p : Pulse) : Option (Option Rat) :=
  if !d.ob O.EX_FUSE_DIGI || !e.full || d.tapsTo e ch == [] then none
  else some ((d.tapsTo e ch).findSome? (d.routePeak m emit p))

/-! ### Records (R528 to R532) -/

/-- Whether a slice is a source: for an interleaved pair the even slice governs. -/
def Dev.acqSource (d : Dev) (s : Nat) : Nat := if d.paired s && s % 2 == 1 then 0 else d.o O.ACQ_SRC s

/-- Bytes padded with zeros to a multiple of eight (R530). -/
def pad8 (bs : Bytes) : Bytes := bs ++ zeros ((8 - bs.length % 8) % 8)

/-- Raw codes in words of three (Table 10-4). -/
def packRaw : List Int → Bytes
  | [] => []
  | [a] => leBytes 4 a.toNat
  | [a, b] => leBytes 4 (a.toNat + b.toNat * 1024)
  | a :: b :: c :: t => leBytes 4 (a.toNat + b.toNat * 1024 + c.toNat * 1048576) ++ packRaw t

/-- A filtered output's word. -/
def outWord (o : ChainOut) : Nat := (ofS 14 o.y <<< 2) + 2 * b2n o.fade + b2n o.valid

/-- A block header (Table 10-3). -/
def blockHead (kind slice chan : Nat) (pair : Bool) (range : Nat) (skipper : Bool) (dexp first count : Nat) (trunc sync : Bool) : Nat :=
  (kind <<< 62) + (slice <<< 57) + (chan <<< 48) + (b2n pair <<< 47) + (range <<< 45) + (b2n skipper <<< 44) + (dexp <<< 42) +
    ((first % 2 ^ 22) <<< 20) + (count <<< 4) + (b2n trunc <<< 3) + (b2n sync <<< 2)

/-- A block: its header and data; one that cannot enter the FIFO whole has COUNT 0 and no data (R532). -/
structure Block where
  bytes : Bytes
  empty : Bytes
  deriving DecidableEq, Repr

/-- The coarse periods of a window that a waveform block covers (R529). -/
def Dev.blockSpan (d : Dev) (f : Flight) : Nat × Nat :=
  let lo := d.o O.ACQ_SPAN_START
  (lo, min (windowCp (entWclass f.shot.ent)) (lo + d.o O.ACQ_SPAN_LEN))

/-- The waveform block of a lit source slice (R529), none where the slice took no samples (R504). -/
def Dev.waveBlock (d : Dev) (m : List (Nat × Nat × List Int)) (f : Flight) (w : Win) (s : Nat) : Option Block :=
  let (lo, hi) := d.blockSpan f
  let trunc := windowCp (entWclass f.shot.ent) < lo + d.o O.ACQ_SPAN_LEN
  let r := d.chainRate s
  let skip := 512 ≤ w.slice
  let pair := d.paired s
  let taken := (List.range (max hi (lo + 1) - lo)).any (fun (j : Nat) => d.takenAt s f.emit ((lo + j : Nat) : Int))
  if !taken then none
  else if d.acqSource s == 1 then
    let ns := (List.range ((hi - lo) * r)).filter (fun n => d.takenAt s f.emit ((lo + n / r : Nat) : Int))
    let codes := ns.map (fun n => d.chainRaw m s ((lo * r + n : Nat) : Int))
    let head := fun (first n : Nat) => leBytes 8 (blockHead 0 s w.chan pair w.range skip 0 first n trunc false)
    some { bytes := head (match ns with
             | [] => 0
             | n :: _ => 64 * (lo * r + n)) codes.length ++ pad8 (packRaw codes), empty := head 0 0 }
  else
    let outs := d.outsIn m s f.emit (512 * lo : Nat) (512 * max lo hi : Nat)
    let head := fun (first n : Nat) (sync : Bool) => leBytes 8 (blockHead 1 s w.chan pair w.range skip (d.o O.FILT_DECIM s) first n trunc sync)
    some { bytes := head (match outs with
             | [] => 0
             | o :: _ => o.at_.toNat) outs.length (outs.any (fun o => !o.valid)) ++ pad8 (outs.flatMap (fun o => leBytes 2 (outWord o))),
           empty := head 0 0 false }

/-- Stamp words with their IDX. -/
def stampWords (l : List Stamp) : List Nat := (List.range l.length).filterMap (fun i => (l[i]?).map (fun s => stampWord s i))

/-- The stamp block of a lit stamp channel. -/
def stampBlock (w : Win) : Block :=
  let head := fun (n : Nat) => leBytes 8 (blockHead 2 0 w.chan false w.range (512 ≤ w.slice) 0 0 n false false)
  { bytes := head w.stamps.length ++ pad8 ((stampWords w.stamps).flatMap (leBytes 4)), empty := head 0 }

/-- Bytes in the on-die FIFO (R532): those of the acquisition's writes that GDDR7 has not taken yet, counted in whole blocks of 256
bytes at the ports and in the bank queues; a record that is both streamed and held is in it once (log entry 44). -/
def Dev.fifoFill (d : Dev) : Nat :=
  let count := fun (r : Nat) =>
    let mine := fun (l : List Burst) => (l.filter (fun b => b.requester == r)).length
    d.mem.waiting.foldl (fun n w => n + mine w.bursts) 0 + d.mem.buffer.foldl (fun n p => n + mine p.2) 0 +
      d.mem.queue.foldl (fun n p => n + mine p.2) 0
  256 * max (count 4) (count 5)

/-- Blocks put into a FIFO with some room, in order: those that fit enter whole, the others with COUNT 0. Answers the bytes and how
many were lost. -/
def fifoBlocks : Nat → List Block → Bytes × Nat
  | _, [] => ([], 0)
  | room, b :: l =>
    if b.bytes.length ≤ room then
      let r := fifoBlocks (room - b.bytes.length) l
      (b.bytes ++ r.1, r.2)
    else
      let r := fifoBlocks (room - b.empty.length) l
      (b.empty ++ r.1, r.2 + 1)

/-- ACQ_REC_MAX_BYTES (R540). -/
def Dev.recMax (e : Env) (d : Dev) : Nat :=
  let pad := fun n => (n + 7) / 8 * 8
  let wave := (List.range e.digis).foldl (fun t s =>
    let n := d.o O.ACQ_SPAN_LEN * d.chainRate s
    if d.acqSource s == 0 then t
    else if d.acqSource s == 1 then t + 8 + pad ((n + 2) / 3 * 4)
    else t + 8 + pad (2 * ((n + d.decim s - 1) / d.decim s))) 0
  32 + wave + 104 * ((List.range e.channels).filter (fun c => d.ob O.TDC_RAW_TAP c)).length

/-- ACQ_CAPACITY (R540); 0 while no GDDR7 has been found (Table 10-9). -/
def Dev.acqCapacity (e : Env) (d : Dev) : Nat := if d.found == 0 then 0 else d.o O.ACQ_SNAP_MIB * 1048576 / d.recMax e

/-! ### Streaming, marks, the snapshot -/

/-- Bytes of live records in the staging buffer: waiting for the lanes, or sent in part (R537). A packet carries a prefix of eight bytes
before its record. -/
def Dev.staged (d : Dev) : Nat :=
  let inFlight := match d.link.flight with
    | some (p, _) => if d.link.part.any (fun s => s.pkt.ty == p.ty) then [] else [p]
    | none => []
  ((d.link.txq ++ d.link.part.map (fun s => s.pkt) ++ inFlight).filter (fun p => p.ty == 4 && p.kind == 0)).foldl
    (fun n p => n + (p.data.length - 8)) 0

/-- The prefix of an acquisition stream packet (R538). -/
def acqPrefix (kind capture : Nat) : Bytes := leBytes 8 ((kind <<< 56) + ((capture % 65536) <<< 32))

/-- A record's bytes with DROP set and all blocks zero: what a poisoned read gives (Table 15-9). -/
def poisonRecord (bs : Bytes) : Bytes :=
  let h := leNat (bs.take 32)
  leBytes 32 (h ||| (1 <<< 13)) ++ zeros (bs.length - 32)

/-- A record streamed (R537): through the staging buffer, or dropped whole. -/
def Dev.streamRec (e : Env) (d : Dev) (rseq : Nat) (bs : Bytes) : Dev :=
  let size := d.o O.ACQ_STREAM_MIB * 1048576
  if size < d.staged + bs.length then { (d.inc O.ACQ_STREAM_DROPPED) with acq := { d.acq with gap := true } }
  else
    let bs := if d.acq.gap then leBytes 32 (leNat (bs.take 32) ||| (1 <<< 14)) ++ bs.drop 32 else bs
    let a := if size < d.acq.stagePtr + bs.length then 0 else d.acq.stagePtr
    let d := d.memWr e 5 (d.stageBase + a) bs
    let r := d.memRd e 6 (d.stageBase + a) bs.length
    let d := { r.2 with acq := { r.2.acq with gap := false, stagePtr := a + bs.length } }
    let out := r.1.getD (poisonRecord bs)
    let after := match d.acq.lastMark with
      | some (q, n) => if q == rseq then some n else none
      | none => none
    d.enq { ty := 4, data := acqPrefix 0 0 ++ out, after := after }

/-- The place of a record in the snapshot area. -/
def Dev.snapAddr (e : Env) (d : Dev) (slot : Nat) : Nat := d.snapBase + slot * d.recMax e

/-- A record put into the snapshot area. -/
def Dev.snapPut (e : Env) (d : Dev) (rseq : Nat) (bs : Bytes) (drop : Bool) : Dev :=
  let slot := d.acq.count % max 1 (d.acqCapacity e)
  let d := d.memWr e 4 (d.snapAddr e slot) bs
  { d with acq := { d.acq with count := d.acq.count + 1,
                               held := d.acq.held ++ [{ rseq := rseq, slot := slot, len := bs.length, drop := drop }] } }

/-- The snapshot takes a new record in FILLING, ARMED and POST (Table 10-6, R548). -/
def Dev.snapRec (e : Env) (d : Dev) (rseq : Nat) (bs : Bytes) (drop : Bool) : Dev :=
  let st := d.o O.ACQ_STATE
  let pre := d.o O.ACQ_PRE_COUNT
  if st == 2 then
    let d := d.snapPut e rseq bs drop
    if pre ≤ d.acq.held.length then d.so O.ACQ_STATE 0 3 else d
  else if st == 3 then
    let d := d.snapPut e rseq bs drop
    { d with acq := { d.acq with held := d.acq.held.drop (d.acq.held.length - pre) } }
  else if st == 4 && d.acq.posted < d.o O.ACQ_POST_COUNT then
    let d := d.snapPut e rseq bs drop
    { d with acq := { d.acq with posted := d.acq.posted + 1 } }
  else d

/-- A trigger raised at its source with its stamp (R533). Its trigger record is the next record formed, which is that of the open
windows when there are any (R539). -/
def Dev.raiseAt (d : Dev) (src time : Nat) : Dev :=
  { d with acq := { d.acq with trigs := d.acq.trigs ++ [{ time := time, src := src, rseq := d.acq.rseq }] } }

/-- A trigger raised now. -/
def Dev.raiseTrig (e : Env) (d : Dev) (src : Nat) : Dev := d.raiseAt src e.now

/-- Whether a trigger is taken before another (R534). -/
def Trig.before (a b : Trig) : Bool := a.time < b.time || (a.time == b.time && a.src < b.src)

/-- The trigger to be taken next. -/
def nextTrig : List Trig → Option Trig
  | [] => none
  | t :: l =>
    match nextTrig l with
    | none => some t
    | some u => if u.before t then some u else some t

/-- The mark of a trigger (R535, R536). -/
def Dev.mark (d : Dev) (t : Trig) (started missed : Bool) : Dev :=
  if !bit (d.o O.ACQ_MODE) 0 then d
  else
    let n := d.o O.ACQ_MARKS
    let w := (t.time <<< 64) + (t.src <<< 60) + (d.o O.ACQ_STATE <<< 56) + ((n % 65536) <<< 32) + (t.rseq <<< 16) +
      2 * b2n started + b2n missed
    let d := d.inc O.ACQ_MARKS
    if 256 ≤ (d.link.txq.filter (fun p => p.ty == 5)).length then d.inc O.ACQ_MARK_LOST
    else ({ d with acq := { d.acq with lastMark := some (t.rseq, n) } }).enq { ty := 5, data := leBytes 16 w, tag := n }

/-- Records beyond ACQ_PRE_COUNT released, oldest first (Table 10-6, R539). -/
def Dev.releasePre (d : Dev) : Dev :=
  { d with acq := { d.acq with held := d.acq.held.drop (d.acq.held.length - d.o O.ACQ_PRE_COUNT) } }

/-- ACQ_TRIGGER: the next trigger is taken (R534, R535, Table 10-6). Its capture holds no more than ACQ_PRE_COUNT records before its
trigger record (R539). -/
def Dev.takeTrig (d : Dev) : Dev :=
  match nextTrig d.acq.trigs with
  | none => d
  | some t =>
    let d := { d with acq := { d.acq with trigs := d.acq.trigs.erase t } }
    let st := d.o O.ACQ_STATE
    let started := st == 2 || st == 3
    let missed := st == 1 || st == 4 || st == 5 || st == 6
    let d := d.mark t started missed
    if started then
      let d := d.releasePre
      { (d.so O.ACQ_STATE 0 4) with acq := { d.acq with trig := some t, preAct := d.acq.held.length, posted := 0, short := st == 2 } }
    else if missed then d.inc O.ACQ_TRIG_MISSED
    else d

/-- Every raised trigger taken. -/
def Dev.takeTrigs (d : Dev) : Dev := (List.range d.acq.trigs.length).foldl (fun d _ => d.takeTrig) d

/-- ACQ_RECORD_FORM at the close of a shot's windows (R528, R531). `word` is the shot header, `ws` the closed windows, of which muted
ones appear in no record (R333). -/
def Dev.acqRecord (e : Env) (d : Dev) (m : CloseMeas) (f : Flight) (word : Nat) (ws : List Win) : Dev :=
  if d.o O.ACQ_STATE == 0 || !e.full then d
  else
    let ws := ws.filter (fun w => !w.muted)
    let winOf := fun (c : Nat) => ws.find? (fun w => w.chan == c)
    let srcs := (List.range e.digis).filterMap (fun s =>
      if d.acqSource s == 0 then none else (winOf (d.o O.RX_TAP_SRC s)).map (fun w => (s, w)))
    let sts := ws.filter (fun w => d.ob O.TDC_RAW_TAP w.chan)
    if srcs == [] && sts == [] then d
    else
      let d := d.takeTrigs
      let blocks := srcs.filterMap (fun p => d.waveBlock m.samples f p.2 p.1) ++ sts.map stampBlock
      let (data, nlost) := fifoBlocks (524288 - 32 - d.fifoFill) blocks
      let rseq := d.acq.rseq
      let trec := d.o O.ACQ_STATE == 4 && d.acq.posted == 0
      let head := (word <<< 128) + (((32 * f.emit) % 2 ^ 48) <<< 80) + (blocks.length <<< 64) +
        ((32 + data.length) <<< 32) + (rseq <<< 16) + (b2n trec <<< 15) + (b2n (nlost != 0) <<< 13)
      let bs := leBytes 32 head ++ data
      let d := (d.inc O.ACQ_FIFO_DROPS 0 nlost)
      let d := { d with acq := { d.acq with rseq := (rseq + 1) % 65536 } }
      let d := d.snapRec e rseq bs (nlost != 0)
      if bit (d.o O.ACQ_MODE) 0 then d.streamRec e rseq bs else d

/-! ### States (Table 10-6) -/

/-- Entry into REARM (R543). -/
def Dev.rearm (e : Env) (d : Dev) : Dev :=
  let c := d.acqCapacity e
  let pre := min (d.o O.ACQ_PRE_COUNT) (c - 1)
  let post := min (d.o O.ACQ_POST_COUNT) (c - pre)
  let pc := pre != d.o O.ACQ_PRE_COUNT
  let qc := post != d.o O.ACQ_POST_COUNT
  let d := if pc then d.so O.ACQ_PRE_CLIPPED 0 1 else d
  let d := if qc then d.so O.ACQ_POST_CLIPPED 0 1 else d
  let d := d.sos [(O.ACQ_PRE_COUNT, 0, pre), (O.ACQ_POST_COUNT, 0, post), (O.ACQ_STATE, 0, 1)]
  { d with acq := { d.acq with held := [], count := 0, preClip := pc, postClip := qc, trig := none, posted := 0 } }

/-- ACQ_RUN written 1 (R544, R545): the value check has found a capacity. Triggers raised before it are taken in STOPPED. -/
def Dev.acqStart (e : Env) (d : Dev) : Dev :=
  let d := d.so O.ACQ_RUN 0 1
  if d.o O.ACQ_STATE != 0 then d
  else
    let d := d.takeTrigs
    if bit (d.o O.ACQ_MODE) 1 then d.rearm e else d.so O.ACQ_STATE 0 7

/-- ACQ_RUN written 0. Triggers raised before it are taken first: every one yields its mark (R535). -/
def Dev.acqStop (d : Dev) : Dev :=
  let d := if d.o O.ACQ_STATE == 0 then d else d.takeTrigs
  { (d.sos [(O.ACQ_RUN, 0, 0), (O.ACQ_STATE, 0, 0)]) with acq := { d.acq with held := [], trig := none, posted := 0 } }

/-- ACQ_PRE_COUNT landed: a FILLING snapshot that holds as many records is ARMED, and an ARMED one keeps no more (Table 10-6). -/
def Dev.preLanded (d : Dev) (v : Nat) : Dev :=
  let d := d.so O.ACQ_PRE_COUNT 0 v
  let d := if d.o O.ACQ_STATE == 2 && v ≤ d.acq.held.length then d.so O.ACQ_STATE 0 3 else d
  if d.o O.ACQ_STATE == 3 then d.releasePre else d

/-- ACQ_REARM_DONE. -/
def Dev.rearmDone (d : Dev) : Dev :=
  if d.o O.ACQ_STATE == 1 then d.so O.ACQ_STATE 0 (if d.o O.ACQ_PRE_COUNT == 0 then 3 else 2) else d

/-- The capture header (Table 10-7). -/
def Dev.capHeader (d : Dev) (t : Trig) (captures : Nat) : Nat :=
  (t.time <<< 192) + (d.acq.preAct <<< 160) + (d.acq.posted <<< 128) + (d.o O.ACQ_PRE_COUNT <<< 96) +
    (d.acq.held.foldl (fun n r => n + r.len) 0 <<< 64) + (((d.acq.held.head?).map SnapRec.rseq).getD 0 <<< 48) +
    ((captures % 65536) <<< 32) + (t.src <<< 28) + (b2n (d.acq.held.any SnapRec.drop) <<< 3) + (b2n d.acq.postClip <<< 2) +
    (b2n d.acq.preClip <<< 1) + b2n d.acq.short

/-- A dump starts (R549): the capture header, then the records, oldest first, each read from GDDR7. -/
def Dev.dump (e : Env) (d : Dev) : Dev :=
  let n := d.o O.ACQ_CAPTURES
  let d := (d.so O.ACQ_STATE 0 6).enq { ty := 4, data := acqPrefix 2 n ++ d.domBytes O.ACQ_CAP_HEADER 0 0 32, kind := 4 }
  d.acq.held.foldl (fun d r =>
    let x := d.memRd e 6 (d.snapAddr e r.slot) r.len
    let bs := match x.1 with
      | some bs => bs
      | none => poisonRecord ((List.range r.len).map (fun i => d.gByte (d.snapAddr e r.slot + i)))
    x.2.enq { ty := 4, data := acqPrefix 1 n ++ bs, kind := 4 }) d

/-- ACQ_CAPTURE_DONE: post records have been written. Under AUTO the dump follows. -/
def Dev.captureDone (e : Env) (d : Dev) : Dev :=
  match d.acq.trig with
  | none => d
  | some t =>
    if d.o O.ACQ_STATE == 4 && d.o O.ACQ_POST_COUNT ≤ d.acq.posted then
      let d := d.inc O.ACQ_CAPTURES
      let d := (d.so O.ACQ_STATE 0 5).setDom O.ACQ_CAP_HEADER 0 0 (leBytes 32 (d.capHeader t (d.o O.ACQ_CAPTURES)))
      if d.o O.ACQ_REARM == 1 then d.dump e else d
    else d

/-- ACQ_DUMP_DONE: the last byte of the capture has been sent, its last segment included. -/
def Dev.dumpDone (e : Env) (d : Dev) : Dev :=
  if d.o O.ACQ_STATE == 6 && !d.link.txq.any (fun p => p.kind == 4) && !d.link.part.any (fun s => s.pkt.kind == 4) &&
      !(d.link.flight.any (fun p => p.1.kind == 4) && e.now < d.link.endAt) then
    (if d.o O.ACQ_REARM == 1 then d.rearm e else d.so O.ACQ_STATE 0 5)
  else d

/-- ACQ_ARM written 1 (R546). -/
def Dev.acqArm (e : Env) (d : Dev) : Dev := if d.o O.ACQ_STATE == 5 then d.rearm e else d

/-- ACQ_DUMP written 1 (R546). -/
def Dev.acqDump (e : Env) (d : Dev) : Dev := if d.o O.ACQ_STATE == 5 then d.dump e else d

/-- ACQ_REARM landed: AUTO dumps a capture that is DONE. -/
def Dev.acqRearmMode (e : Env) (d : Dev) (v : Nat) : Dev :=
  let d := d.so O.ACQ_REARM 0 v
  if v == 1 && d.o O.ACQ_STATE == 5 then d.dump e else d

/-- TRIG_IN_EDGE. -/
def Dev.trigIn (e : Env) (d : Dev) : Dev := if bit (d.o O.ACQ_TRIG_SRC) 0 then d.raiseTrig e 0 else d

/-- ACQ_TRIG_FORCE written. -/
def Dev.trigForce (e : Env) (d : Dev) : Dev := if bit (d.o O.ACQ_TRIG_SRC) 1 then d.raiseTrig e 3 else d

/-- The output of a value crosses the level in the direction of ACQ_LEVEL_EDGE, from the value before it. -/
def Dev.crosses (d : Dev) (before y : Int) : Bool :=
  let v := d.os16 O.ACQ_LEVEL
  if d.o O.ACQ_LEVEL_EDGE == 0 then before < v && v ≤ y else v < before && y ≤ v

/-- ACQ_LEVEL_CROSSING (R533): output `i` of the level chain since its synchronisation, VALID, has the value `y` after `before` and
crosses the level inside the span of the open windows. Its trigger is stamped at its attributed time (R517). -/
def Dev.trigLevel (e : Env) (d : Dev) (i : Nat) (before y : Int) : Dev :=
  let c := d.o O.ACQ_LEVEL_SLICE
  let x := (d.chain c).now
  match d.jq.flight with
  | none => d
  | some f =>
    -- the attributed time in 1/64 coarse period from device time 0
    let t := 64 * x.syncAt + (64 * i + x.delay % 64) * 2 ^ x.dm / x.rate
    let s := d.blockSpan f
    if bit (d.o O.ACQ_TRIG_SRC) 2 && f.wins && d.chainOn c && x.stop.isNone && x.fill ≤ i && i ≤ x.index (2 * e.now + 1) &&
        d.crosses before y && 64 * (f.emit + s.1) ≤ t && t < 64 * (f.emit + s.2) then d.raiseAt 1 (t / 128)
    else d

/-- TRIG_OUT at an emission (R533). -/
def Dev.trigOut (e : Env) (d : Dev) : Dev := if bit (d.o O.ACQ_TRIG_SRC) 3 then d.raiseTrig e 2 else d

end Sys2Proof.Machine
end

