-- ==== Sys2Proof/Machine/Calibration.lean ====
section
/-! DEFINITION. Self-calibration (chapter 11): group temperatures and due groups, passes with and without a takeover, pass limits
and repairs, sets and their interpolation, stores, start-up calibration, digitisers and bias monitors. -/

namespace Sys2Proof.Machine

/-! ### Temperatures and due groups (R558 to R562) -/

/-- T_g in 0.1 °C (R558). -/
def Dev.groupTemp (d : Dev) (g : Nat) : Int := d.os16 O.THM_TEMP (d.o O.CAL_GROUP_TS g) + d.os16 O.CAL_GROUP_TOFS g

/-- The pass of a group. -/
def Dev.calPass (d : Dev) (g : Nat) : Option Pass := tget none d.cal.pass g

/-- The pass of a group set or ended. -/
def Dev.setPass (d : Dev) (g : Nat) (p : Option Pass) : Dev := { d with cal := { d.cal with pass := tset none d.cal.pass g p } }

/-- CRC-32 of EX_WALK_COEF in force (R579). -/
def Dev.walkCrc (d : Dev) : Nat := crc32 ((List.range 60).flatMap (fun i => leBytes 4 (d.o O.EX_WALK_COEF i)))

/-- CAL_WALK_STALE (R579). -/
def Dev.walkStale (d : Dev) : Bool := d.cal.sets.any (fun p => p.2.any (fun s => s.walk != d.walkCrc))

/-- A group made due. -/
def Dev.calDue (d : Dev) (g : Nat) : Dev := { d with cal := { d.cal with due := setBit d.cal.due g true } }

/-- How far a group's temperature is from its last pass. -/
def Dev.passDelta (d : Dev) (g : Nat) : Nat := (d.groupTemp g - d.os16 O.CAL_LAST_PASS_TEMP g).natAbs

/-- A group is due (R560): it has become so, or a condition holds now. -/
def Dev.isDue (e : Env) (d : Dev) (g : Nat) : Bool :=
  bit d.cal.due g || bit d.cal.req g || d.o O.CAL_DT_TRIG ≤ d.passDelta g ||
    d.o O.CAL_LAST_PASS_TIME g + d.o O.CAL_MAX_AGE_S * 1500000000 ≤ e.now || d.walkStale

/-- The temperature condition of R560 after a sample of sensor `t`. -/
def Dev.calTempDue (e : Env) (d : Dev) (t : Nat) : Dev :=
  (List.range e.groups).foldl (fun d g =>
    if d.o O.CAL_GROUP_TS g == t && d.o O.CAL_DT_TRIG ≤ d.passDelta g then d.calDue g else d) d

/-- CAL_AGE_DUE (R560). -/
def Dev.calAgeDue (e : Env) (d : Dev) (g : Nat) : Dev :=
  if g < e.groups && d.o O.CAL_LAST_PASS_TIME g + d.o O.CAL_MAX_AGE_S * 1500000000 ≤ e.now then d.calDue g else d

/-- EX_WALK_COEF has landed: while a set is stale, every group is due (R560, R579). -/
def Dev.calWalkLanded (e : Env) (d : Dev) : Dev := if d.walkStale then (List.range e.groups).foldl Dev.calDue d else d

/-- CAL_GROUP_REQ written 1 (R560). -/
def Dev.calReq (d : Dev) (g : Nat) : Dev := { d with cal := { d.cal with req := setBit d.cal.req g true } }

/-- The start-up calibration runs (R586). -/
def Dev.calStartup (d : Dev) : Bool := d.o O.SU_STATE == 6

/-- The Skipper of a group can take a channel over for calibration: it serves no repair and is not FAULTY. -/
def Dev.calSkipper (d : Dev) (g : Nat) : Bool :=
  d.o O.RX_SLICE_STATUS (skipperOf g) != 1 && d.o O.RX_REPAIR g == 0xFF

/-- The manager runs no pass in a group without a free Skipper under mode HOLD (R571); the start-up calibration runs its one pass of
every group whatever the mode (R586; DEDUCED, log entry 235). -/
def Dev.calHeld (d : Dev) (g : Nat) : Bool := !d.calStartup && !d.calSkipper g && d.o O.CAL_REPAIRED_MODE == 2

/-- The manager starts no pass in a group that is FAILED, whose Skipper is with the host or to serve a repair, or while CAL_RUN is 0
(R562, R571). -/
def Dev.calAllowed (d : Dev) (g : Nat) : Bool :=
  d.ob O.CAL_RUN && d.o O.RX_GROUP_STATE g != 4 && tget 0 d.rx.holder g != 2 && !d.repairPending g && !d.calHeld g

/-- The ramps of the start-up calibration are over: no enabled bias output ramps (R586). -/
def Dev.rampsDone (e : Env) (d : Dev) : Bool :=
  (List.range e.biases).all (fun b => !d.ob O.RX_BIAS_ENABLE b || d.o O.RX_BIAS_STATUS b != 1)

/-- Every present input has been checked since the reset (R557, R586). -/
def Dev.checksDone (e : Env) (d : Dev) : Bool := (List.range e.channels).all (fun c => tget 0 d.cal.checkAt c != 0)

/-- The start-up calibration has come to its passes: ramps and input checks are over. A warm start has none (R586, Table 17-10). -/
def Dev.passesOpen (e : Env) (d : Dev) : Bool := !d.pwr.warm && d.rampsDone e && d.checksDone e

/-- The manager may start a pass in a group (R562, R563, R571, R586). -/
def Dev.calMayStart (e : Env) (d : Dev) (g : Nat) : Bool :=
  g < e.groups && d.isDue e g && (d.calPass g).isNone && d.calAllowed g &&
    (if d.calStartup then d.passesOpen e else d.ob O.CAL_WAKE_OFF || d.o O.RX_GROUP_STATE g != 0)

/-- A due group is started before another (R561). -/
def Dev.calBefore (d : Dev) (a b : Nat) : Bool :=
  let ra := bit d.cal.req a
  let rb := bit d.cal.req b
  if ra != rb then ra
  else if d.passDelta a != d.passDelta b then d.passDelta b < d.passDelta a
  else if d.o O.CAL_LAST_PASS_TIME a != d.o O.CAL_LAST_PASS_TIME b then d.o O.CAL_LAST_PASS_TIME a < d.o O.CAL_LAST_PASS_TIME b
  else a < b

/-- Groups with a pass. -/
def Dev.calRunning (d : Dev) : Nat := (d.cal.pass.filter (fun p => p.2.isSome)).length

/-- The group to start next, none while the concurrency is used up (R561, R586). -/
def Dev.calNext (e : Env) (d : Dev) : Option Nat :=
  if (if d.calStartup then 8 else d.o O.CAL_CONCURRENT) ≤ d.calRunning then none
  else
    ((List.range 32).filter (d.calMayStart e)).foldl (fun (m : Option Nat) g =>
      match m with
      | none => some g
      | some x => if d.calBefore g x then some g else some x) none

/-- CAL_GROUP_STATE (Table 11-6). -/
def Dev.calGroupState (e : Env) (d : Dev) (g : Nat) : Nat :=
  match d.calPass g with
  | some p => if p.mode == 1 && p.chunkEnd ≤ e.now then 3 else 2
  | none =>
    if !d.isDue e g then 0
    else if d.calHeld g then 4 else 1

/-- CAL_STATE (Table 11-6, R550). -/
def Dev.calState (d : Dev) : Nat := if d.calStartup then 1 else if d.o O.JQ_STATE != 0 then 2 else 0

/-! ### Sets (R576 to R580) -/

/-- The physical slice of a position of a group. -/
def sliceAt (g pos : Nat) : Nat := if pos == 16 then skipperOf g else 16 * g + pos

/-- CAL_SETS, CAL_SET_TEMP and CAL_SET_SOURCE of a group shown. -/
def Dev.calShow (d : Dev) (g : Nat) : Dev :=
  let l := tget [] d.cal.sets g
  (List.range 8).foldl (fun d i =>
    match l[i]? with
    | some s => (d.so O.CAL_SET_TEMP (8 * g + i) (ofS 16 s.temp)).so O.CAL_SET_SOURCE (8 * g + i) s.source
    | none => (d.so O.CAL_SET_TEMP (8 * g + i) 0x7FFF).so O.CAL_SET_SOURCE (8 * g + i) 0) (d.so O.CAL_SETS g l.length)

/-- The place of the set nearest a temperature, the first of several. -/
def nearestSet (t : Int) (l : List CalSet) : Option (Nat × Nat) :=
  (List.range l.length).foldl (fun (m : Option (Nat × Nat)) i =>
    let dt := (((l[i]?).map CalSet.temp).getD 0 - t).natAbs
    match m with
    | none => some (i, dt)
    | some x => if dt < x.2 then some (i, dt) else m) none

/-- A set put among a group's sets (R576). -/
def commitSet (merge : Nat) (s : CalSet) (l : List CalSet) : List CalSet :=
  match nearestSet s.temp l with
  | some (i, dt) => if dt ≤ merge || 8 ≤ l.length then l.set i s else l ++ [s]
  | none => [s]

/-- The skews of a valid record at T_pass (R555): A_ref is 3,072, v_ref 0.5 in G1. -/
def Dev.calSkew (d : Dev) (t : Int) (r : SliceRec) : SliceRec :=
  if r.valid then { r with skew := r.skew.map (fun x => x - 3072 - (d.walk 1 (1 / 2) t).1) } else r

/-- CAL_SET_COMMIT (R576). -/
def Dev.calCommit (e : Env) (d : Dev) (g : Nat) (t : Int) (recs : Tab SliceRec) : Dev :=
  let s : CalSet := { temp := t, source := 2, walk := d.walkCrc, time := e.now,
                      recs := (List.range 17).map (fun p => d.calSkew t (tget {} recs p)) }
  let c := d.cal
  let va := (List.range 17).foldl (fun m p => if (tget {} recs p).valid then tset 0 m (sliceAt g p) e.now else m) c.validAt
  let d := { d with cal := { c with sets := tset [] c.sets g (commitSet (d.o O.CAL_SET_MERGE) s (tget [] c.sets g)),
                                    validAt := va, changed := true, due := setBit c.due g false } }
  let d := (((d.so O.CAL_LAST_PASS_TIME g e.now).so O.CAL_LAST_PASS_TEMP g (ofS 16 t)).inc O.CAL_PASSES).calShow g
  if d.walkStale then d.calDue g else d

/-! ### Passes (R563 to R571) -/

/-- The gap condition of a group (R568). -/
def Dev.gapOk (e : Env) (d : Dev) (g : Nat) : Bool :=
  d.o O.JQ_STATE == 0 || (!d.jq.queue.any (fun s => d.shotLights e s g) && d.queued < 32)

/-- A slice is under calibration: it takes no stamps for any channel (R553). -/
def Dev.underCal (e : Env) (d : Dev) (slice : Nat) : Bool :=
  let g := if slice < 512 then slice / 16 else slice - 512
  match d.calPass g with
  | some p => if p.all then true else sliceAt g p.pos == slice && (p.since.isSome || (p.mode == 1 && e.now < p.chunkEnd))
  | none => false

/-- A slice is calibrated under MUTE while it serves a channel (R570). -/
def Dev.mutedByCal (d : Dev) (slice : Nat) : Bool :=
  let g := if slice < 512 then slice / 16 else slice - 512
  match d.calPass g with
  | some p => p.mode == 2 && p.since.isSome && sliceAt g p.pos == slice
  | none => false

/-- A slice comes under calibration: a window that it has open takes no further stamps (R553). Under MUTE the window is muted, gives
no record, and counts as lost (R570); under GAP it keeps the stamps it has taken. -/
def Dev.calTakes (d : Dev) (slice : Nat) (mute : Bool) : Dev :=
  if !d.jq.flight.any Flight.wins then d
  else
    let d := if mute && d.rx.windows.any (fun w => w.slice == slice) then d.inc O.CAL_MUTED_WINDOWS else d
    { d with rx := { d.rx with windows := d.rx.windows.map (fun w =>
        if w.slice != slice then w
        else if mute then { w with silent := true, muted := true, noRecords := true, stamps := [] }
        else { w with silent := true, stamps := w.cmps.foldl (fun l c => c.hold.toList ++ l) w.stamps }) } }

/-- The reference path and oscillator have their supply while calibration measures (Table 17-3): while a pass holds a group. -/
def Dev.calRefDom (e : Env) (d : Dev) : Dev := d.domSet e 85 (d.rx.calHold != 0)

/-- A group is held ACTIVE for its pass (R563). -/
def Dev.calHoldOn (e : Env) (d : Dev) (g : Nat) : Dev :=
  (({ d with rx := { d.rx with calHold := setBit d.rx.calHold g true } }).calRefDom e).groupWake e g

/-- The hold of a group ends. -/
def Dev.calHoldOff (e : Env) (d : Dev) (g : Nat) : Dev :=
  ((({ d with rx := { d.rx with calHold := setBit d.rx.calHold g false } }).calRefDom e).groupIdle e g).groupDom e g

/-- A pass is dropped without a set; its group stays due (R562, R571). -/
def Dev.calDrop (e : Env) (d : Dev) (g : Nat) : Dev :=
  if (d.calPass g).isNone then d
  else
    let d := (d.setPass g none).calDue g
    (if tget 0 d.rx.holder g == 1 then d.takeBack g else d).calHoldOff e g

/-- The calibration manager takes hold of a Skipper that nobody holds. -/
def Dev.claim (d : Dev) (g : Nat) : Dev :=
  if tget 0 d.rx.holder g == 0 then { d with rx := { d.rx with holder := tset 0 d.rx.holder g 1 } } else d

/-- A pass has ended with a set (R576). -/
def Dev.calFinish (e : Env) (d : Dev) (g : Nat) (p : Pass) (t : Int) : Dev :=
  let d := (d.setPass g none).calCommit e g t p.recs
  let d := if tget 0 d.rx.holder g == 1 then d.takeBack g else d
  (d.calHoldOff e g).repairSettle e g

/-- The slice of a pass that waits starts its measurement as soon as it may, its group being ACTIVE: a home slice once its takeover has landed, the
Skipper once it serves no channel, a slice without a Skipper's help under CAL_REPAIRED_MODE (R564 to R571). It waits while the
host has the Skipper (R344). A pass that has measured its last slice ends when that slice's channel is home. -/
def Dev.calAdvance (e : Env) (d : Dev) (g : Nat) : Dev :=
  match d.calPass g with
  | none => d.repairSettle e g
  | some p =>
    if let some t := p.tPass then (if (d.skipChan g).isSome || d.rx.switches.any (fun r => r.chan / 16 == g) then d else d.calFinish e g p t)
    else if d.calHeld g then d.calDrop e g
    else if d.o O.RX_GROUP_STATE g != 3 then d else
    let go := fun (d : Dev) (m : Nat) =>
      let d := d.setPass g (some { p with mode := m, since := some e.now })
      if p.all then (List.range 17).foldl (fun d pos => d.calTakes (sliceAt g pos) false) d else d.calTakes (sliceAt g p.pos) (m == 2)
    if p.since.isSome then d
    else if p.all then go d 0
    else if p.mode == 1 && 0 < p.gapNs then d
    else if tget 0 d.rx.holder g == 2 then d
    else if d.calSkipper g && !d.repairPending g then
      (if p.pos == 16 then
         (if d.rx.switches.any (fun r => r.chan / 16 == g) || (d.skipChan g).isSome then d else go (d.claim g) 0)
       else
         let c := 16 * g + p.pos
         if d.o O.RX_SLICE_OF c == skipperOf g then go d 0
         else if d.rx.switches.any (fun r => r.chan == c) then d
         else
           let d := d.takeover g p.pos 1
           if d.o O.RX_SLICE_OF c == skipperOf g then go d 0 else d)
    else if d.repairPending g then
      -- The takeover returns so that the repair can land (R340, R342).
      ((if tget 0 d.rx.holder g == 1 then d.takeBack g else d).repairSettle e g)
    else if d.o O.CAL_REPAIRED_MODE == 1 || d.o O.JQ_STATE == 0 then go d 2
    else d.setPass g (some { p with mode := 1, since := none })

/-- A pass of a group begins (R564, R566, R567). -/
def Dev.calBegin (e : Env) (d : Dev) (g : Nat) : Dev :=
  let all := d.o O.JQ_STATE == 0
  let d := { d with cal := { d.cal with due := setBit d.cal.due g false, req := setBit d.cal.req g false } }
  let d := if !all && d.calSkipper g then d.claim g else d
  ((d.calHoldOn e g).setPass g (some { all := all, t0 := d.groupTemp g })).calAdvance e g

/-- CAL_PASS_START (R561 to R564): the group that is next in order. -/
def Dev.calPassStart (e : Env) (d : Dev) (g : Nat) : Dev := if d.calNext e == some g then d.calBegin e g else d

/-- CAL_GAP_CHUNK (R569): a chunk of at most 32 µs and 8 µs of settling. -/
def Dev.calGapChunk (e : Env) (d : Dev) (g ns : Nat) : Dev :=
  match d.calPass g with
  | some p =>
    if p.mode == 1 && p.chunkEnd ≤ e.now && ns ≤ 32000 && d.gapOk e g && d.o O.RX_GROUP_STATE g == 3 then
      (d.setPass g (some { p with gapNs := p.gapNs + ns, chunkEnd := e.now + (ns + 8000) * 3 / 2 })).calTakes (sliceAt g p.pos) false
    else d
  | none => d

/-! ### Pass limits and failures (R555, R556, R572 to R575, Table 11-4) -/

/-- Q[j] before its clamp, and the hits before j (R556). -/
def calQ (hits : List Nat) (j : Nat) : Int :=
  let before : Nat := (hits.take j).foldl (· + ·) 0
  roundHE ((512 * (2 * before + (hits[j]?).getD 0 : Nat) : Rat) / 32768 - (16 * j + 8 : Nat))

/-- Item `i` of a list of integers. -/
def intAt (l : List Int) (i : Nat) : Int := (l[i]?).getD 0

/-- The first item of Table 11-4 that a slice fails, and for item 1 the threshold. -/
def Dev.calFails (d : Dev) (m : CalMeas) : Option (Nat × Nat) :=
  if (List.range 4).any (fun i => 80 < (intAt m.zero i).natAbs) then some (0, 0)
  else
    match (List.range 3).find? (fun i =>
        32 < (intAt m.ofs i).natAbs || 98304 < 100 * (((m.gain[i]?).getD 0 : Int) - 32768).natAbs) with
    | some i => some (1, i)
    | none =>
      if !calOk m.c1 m.c2 || 40 < m.dnl || (List.range 32).any (fun j => 64 < (calQ m.hits j).natAbs) then some (2, 0)
      else if (List.range 3).any (fun i => d.o O.CAL_SKEW_LIMIT < (m.resid[i]?).getD 0) then some (3, 0)
      else none

/-- The record of a slice that passed (R556); its skews still hold D_X, from which R555 takes the rest at the end of the pass. -/
def calRecord (m : CalMeas) (gap : Bool) : SliceRec :=
  { skew := (List.range 3).map (intAt m.delay),
    q := (List.range 32).map (fun j => clampI (-64) 64 (calQ m.hits j)),
    zero := m.zero, ofs := m.ofs, gain := m.gain.map (fun (x : Nat) => (x : Int)),
    qSkew := (m.resid.map Int.ofNat).foldl max 0, qInl := m.inl, valid := true, gap := gap }

/-- What a slice that has become FAULTY sets off: a repair, the return of a takeover under calibration, and channels that stay without
records (R573 to R575). Under CAL_AUTO_REPAIR 0 a repair by the host is possible while the Skipper is free. -/
def Dev.calFaulty (e : Env) (d : Dev) (slice : Nat) : Dev :=
  let g := if slice < 512 then slice / 16 else slice - 512
  let d :=
    if slice < 512 then
      (if d.o O.RX_REPAIR g != slice % 16 && d.ob O.CAL_AUTO_REPAIR && d.calSkipper g && !d.repairPending g then
         let d := { d with cal := { d.cal with changed := true } }
         if d.o O.JQ_STATE == 0 && !d.repairWaits g then d.repairLand e g (slice % 16)
         else { d with shadows := tset none d.shadows (okey O.RX_REPAIR g) (some (slice % 16)) }
       else d)
    else if 16 ≤ d.o O.RX_REPAIR g && tget 0 d.rx.holder g == 1 then d.takeBack g
    else d
  d.repairLost e g

/-- SLICE_INTERP_FAULTY (R379) with its repair. -/
def Dev.calSliceFaulty (e : Env) (d : Dev) (slice : Nat) : Dev :=
  let d' := d.sliceFaulty e slice
  if d'.o O.RX_SLICE_STATUS slice == 1 && d.o O.RX_SLICE_STATUS slice != 1 then d'.calFaulty e slice else d'

/-- A slice fails an item twice (R572). -/
def Dev.calFail (e : Env) (d : Dev) (g pos item th : Nat) : Dev :=
  let s := sliceAt g pos
  let d := (d.so O.RX_SLICE_STATUS s 1).inc O.CAL_Q_FAILS s
  let d :=
    if item == 0 then d.log e 0x0404 (rxLoc 4 g pos 3) 2
    else if item == 1 then d.log e (0x0401 + th) (rxLoc 4 g pos th) 2
    else d.log e (0x0900 + item) (rxLoc 9 g pos item) 2
  d.calFaulty e s

/-- The last slice of a pass is done: discarded and begun anew when the temperature moved by more than 1.0 °C, else committed as soon
as its channel is home (R565, R566). -/
def Dev.calEnd (e : Env) (d : Dev) (g : Nat) (p : Pass) : Dev :=
  let t1 := d.groupTemp g
  let d := d.setPass g none
  if 10 < (t1 - p.t0).natAbs then
    let d := d.inc O.CAL_PASS_DISCARD
    let d := if (d.skipChan g).isSome && tget 0 d.rx.holder g == 1 then d.takeBack g else d
    if d.calAllowed g then d.calBegin e g else (d.calDue g).calHoldOff e g
  else
    let t := divHE (p.t0 + t1) 2
    if (d.skipChan g).isSome && tget 0 d.rx.holder g == 1 then
      ((d.setPass g (some { p with tPass := some t, since := none })).takeBack g).calAdvance e g
    else d.calFinish e g p t

/-- CAL_SLICE_DONE (R564, R565, R572): the present slice of a pass has been measured for 2,436 µs. -/
def Dev.calSliceDone (e : Env) (d : Dev) (g : Nat) (m : CalMeas) : Dev :=
  match d.calPass g with
  | none => d
  | some p =>
    let ended := if p.mode == 1 && !p.all then 2436000 ≤ p.gapNs && p.chunkEnd ≤ e.now else
      match p.since with
      | some t => decide (t + 3654000 ≤ e.now)
      | none => false
    if !ended || p.tPass.isSome || d.o O.RX_GROUP_STATE g != 3 then d
    else
      let s := sliceAt g p.pos
      let r : SliceRec := match d.calFails m with
        | some _ => {}
        | none => calRecord m (p.mode == 1 && !p.all)
      let d := match d.calFails m with
        | some x => d.calFail e g p.pos x.1 x.2
        | none =>
          let d := if d.o O.RX_SLICE_STATUS s == 1 then d.so O.RX_SLICE_STATUS s 0 else d
          if s < 512 then { d with cal := { d.cal with noRepair := setBit d.cal.noRepair s false } } else d
      let p := { p with recs := tset {} p.recs p.pos r }
      if p.pos == 15 then d.calEnd e g p
      else
        let next := if p.pos == 16 then 0 else p.pos + 1
        let q := { p with pos := next, since := if p.all then p.since else none, mode := 0, gapNs := 0 }
        let d := d.setPass g (some q)
        let d := if !p.all && p.pos < 16 && d.o O.RX_SLICE_OF (16 * g + p.pos) == skipperOf g && tget 0 d.rx.holder g == 1 then
            d.serveReq (16 * g + p.pos) (16 * g + p.pos) else d
        d.calAdvance e g

/-! ### Values in force (R559, R577, R578, R580) -/

/-- A set put in rising order of temperature. -/
def setIns (s : CalSet) : List CalSet → List CalSet
  | [] => [s]
  | x :: xs => if s.temp ≤ x.temp then s :: x :: xs else x :: setIns s xs

/-- One item interpolated (R577): pairs of temperature and value in rising order. -/
def interpItem (dflt : Int) (l : List (Int × Int)) (t : Int) : Int :=
  match l with
  | [] => dflt
  | [(_, x)] => x
  | (t1, x1) :: (t2, x2) :: rest =>
    if t ≤ t1 then x1
    else if t < t2 then roundHE ((x1 : Rat) + ((x2 - x1 : Int) : Rat) * ((t - t1 : Int) : Rat) / ((t2 - t1 : Int) : Rat))
    else interpItem dflt ((t2, x2) :: rest) t

/-- The record in force of a slice at a temperature from its valid records (R577). -/
def interpRec (l : List (Int × SliceRec)) (t : Int) : SliceRec :=
  let f := fun (x0 : Int) (g : SliceRec → Int) => interpItem x0 (l.map (fun p => (p.1, g p.2))) t
  { skew := (List.range 3).map (fun i => f 0 (fun r => intAt r.skew i)),
    q := (List.range 32).map (fun i => f 0 (fun r => intAt r.q i)),
    zero := (List.range 4).map (fun i => f 0 (fun r => intAt r.zero i)),
    ofs := (List.range 3).map (fun i => f 0 (fun r => intAt r.ofs i)),
    gain := (List.range 3).map (fun i => f 32768 (fun r => intAt r.gain i)),
    qSkew := f 0 SliceRec.qSkew, qInl := f 0 SliceRec.qInl, valid := l != [], gap := false }

/-- The valid records of a slice with their temperatures, rising. -/
def Dev.validRecs (d : Dev) (g pos : Nat) : List (Int × SliceRec) :=
  let l := (tget [] d.cal.sets g).foldl (fun a s => setIns s a) []
  l.filterMap (fun s => match s.recs[pos]? with
    | some r => if r.valid then some (s.temp, r) else none
    | none => none)

/-- A slice is clamped at the edge of its temperature span (R578). -/
def Dev.atEdge (d : Dev) (l : List (Int × SliceRec)) (t : Int) : Bool :=
  match l with
  | [] => false
  | p :: _ =>
    let hi := ((l.getLast?).map Prod.fst).getD p.1
    decide (t < p.1 - (d.o O.CAL_EDGE_MARGIN : Int)) || decide (hi + (d.o O.CAL_EDGE_MARGIN : Int) < t)

/-- The values in force of one slice put in force. -/
def Dev.putRec (d : Dev) (slice : Nat) (r : SliceRec) (edge : Bool) : Dev :=
  let d := d.sos [(O.TDC_SKEW_A, slice, ofS 16 (intAt r.skew 0)), (O.TDC_SKEW_A + 1, slice, ofS 16 (intAt r.skew 1)),
    (O.TDC_SKEW_A + 2, slice, ofS 16 (intAt r.skew 2)), (O.CAL_Q_SKEW, slice, ofS 16 r.qSkew), (O.CAL_Q_INL, slice, ofS 16 r.qInl)]
  let q := (List.range 32).foldl (fun (m : Tab Int) j => tset 0 m (slice * 32 + j) (intAt r.q j)) d.tdc.q
  { d with tdc := { d.tdc with q := q },
           cal := { d.cal with force := tset {} d.cal.force slice r, extrap := setBit d.cal.extrap slice edge } }

/-- One group's temperature frozen and its slices interpolated. -/
def Dev.calFrameGroup (d : Dev) (g : Nat) : Dev :=
  let t := d.groupTemp g
  let d := d.so O.CAL_GROUP_TEMP g (ofS 16 t)
  let t := d.os16 O.CAL_GROUP_TEMP g
  let d := (List.range 17).foldl (fun d pos =>
    let l := d.validRecs g pos
    d.putRec (sliceAt g pos) (interpRec l t) (d.atEdge l t)) d
  d.so O.CAL_EXTRAP g (b2n ((List.range 17).any (fun pos => bit d.cal.extrap (sliceAt g pos))))

/-- The digitiser values that waited land (R512). -/
def Dev.dgLand (d : Dev) : Dev :=
  let d' := d.cal.dgNew.foldl (fun d p =>
    match p.2 with
    | some v => d.sos [(O.DG_OFFSET, p.1, ofS 16 v.1), (O.DG_GAIN, p.1, ofS 16 v.2.1), (O.DG_SKEW_TRIM, p.1, ofS 16 v.2.2)]
    | none => d) d
  { d' with cal := { d'.cal with dgNew := [] } }

/-- The frame boundary's share of calibration (R559, R577 to R580, R512). -/
def Dev.calFrame (e : Env) (d : Dev) : Dev :=
  let d := ((List.range e.groups).foldl Dev.calFrameGroup d).dgLand
  let worst := (List.range 544).foldl (fun m s => if e.slicePresent s then max m (d.o O.CAL_Q_SKEW s) else m) 0
  let d := d.so O.CAL_Q_WORST 0 worst
  (List.range e.groups).foldl (fun d g => d.calAdvance e g) d

/-! ### Stores (R581 to R585) -/

/-- The device items a store holds. -/
def calItemIdx : List Nat := [O.EX_WALK_COEF, O.EX_TOT_AMP, O.EX_OCC_GAIN, O.TDC_SKEW_CH, O.TDC_T0_OFFSET]

/-- The field cache: the sets in force, the repairs and the device items. -/
def Dev.calCache (e : Env) (d : Dev) : CalStore :=
  { ident := e.part.fuse, sound := true, seq := d.o O.CAL_STORE_SEQ, sets := d.cal.sets,
    repairs := (List.range e.groups).filterMap (fun g => if d.o O.RX_REPAIR g < 16 then some (g, d.o O.RX_REPAIR g) else none),
    items := d.objs.filterMap (fun p => if calItemIdx.contains (p.1 / 4096) then some (p.1 / 4096, p.1 % 4096, p.2) else none) }

/-- The store that an image holds, none for one whose CRC-32, version or identity does not match the device (R581). -/
def storeOf (fuse : List Nat) (bs : Bytes) : Option CalStore :=
  let h := Config.storeHdr bs
  let body := Config.storeBody bs
  let st : CalStore :=
    { ident := h.ident,
      sound := h.version == Config.storeVersion && Config.storeHdrLen ≤ h.len && h.len ≤ bs.length &&
        h.crc == crc32 ((bs.take h.len).drop Config.storeHdrLen),
      seq := h.seq, sets := body.1, repairs := body.2.1, items := body.2.2 }
  if st.valid fuse then some st else none

/-- The sequence number of a field slot that holds a valid store. -/
def Env.slotSeq (e : Env) (s : Option CalStore) : Option Nat :=
  match s with
  | some x => if x.valid e.part.fuse then some x.seq else none
  | none => none

/-- The field slot that a write of the field cache takes, A 0 and B 1, and the number it gives it: the slot with the lower sequence
number, and that number plus 1 (R583). DESIGN CHOICE (log entry 58): of equal numbers A counts as the lower and B as the newer; a
slot without a valid store counts as written before the other, A with the other's number and B with one less. -/
def Dev.calSlot (e : Env) (d : Dev) : Nat × Nat :=
  match e.slotSeq d.cal.slotA, e.slotSeq d.cal.slotB with
  | some a, some b => if b < a then (1, b + 1) else (0, a + 1)
  | some a, none => (1, a)
  | none, some b => (0, b + 1)
  | none, none => (0, 1)

/-- A write of the field cache begins in the field slot with the lower sequence number (R583); while the flash is busy it waits. -/
def Dev.calSave (e : Env) (d : Dev) : Dev :=
  if d.pwr.flashOp != 0 then { d with cal := { d.cal with saveDue := true } }
  else
    let p := d.calSlot e
    let st := { (d.calCache e) with seq := p.2 }
    let d := d.so O.FW_FLASH_BUSY 0 1
    { d with cal := { d.cal with writing := some st, saveDue := false, changed := false, flashAt := e.now },
             pwr := { d.pwr with flashOp := 2, flashArg := p.1 } }

/-- CAL_FLASH_PERIOD (R583). -/
def Dev.calFlashPeriod (e : Env) (d : Dev) : Dev :=
  if d.cal.changed && d.pwr.flashOp == 0 && d.cal.flashAt + d.o O.CAL_FLASH_PERIOD_S * 1500000000 ≤ e.now then d.calSave e else d

/-- The erase of both field slots begins (R585); while the flash is busy it waits. -/
def Dev.calErase (d : Dev) : Dev :=
  if d.pwr.flashOp != 0 then { d with cal := { d.cal with eraseDue := true } }
  else { (d.so O.FW_FLASH_BUSY 0 1) with pwr := { d.pwr with flashOp := 3 }, cal := { d.cal with eraseDue := false } }

/-- An erase or a write that waited for the flash begins. -/
def Dev.calSaveNext (e : Env) (d : Dev) : Dev :=
  if d.pwr.flashOp != 0 then d
  else if d.cal.eraseDue then d.calErase
  else if d.cal.saveDue then d.calSave e
  else d

/-- CAL_FLASH_WRITE_DONE (R583, R585). -/
def Dev.calFlashDone (e : Env) (d : Dev) : Dev :=
  if d.pwr.flashOp == 2 then
    let st := d.cal.writing
    let d := (d.inc O.CAL_FLASH_WRITES).sos [(O.FW_FLASH_BUSY, 0, 0), (O.CAL_STORE_SEQ, 0, ((st.map CalStore.seq).getD 0) % 2 ^ 32)]
    let c := d.cal
    let c := if d.pwr.flashArg == 0 then { c with slotA := st, badSlots := setBit c.badSlots 0 false }
      else { c with slotB := st, badSlots := setBit c.badSlots 1 false }
    ({ d with cal := { c with writing := none }, pwr := { d.pwr with flashOp := 0 } }).calSaveNext e
  else if d.pwr.flashOp == 3 then
    let d := d.so O.FW_FLASH_BUSY 0 0
    ({ d with cal := { d.cal with slotA := none, slotB := none, badSlots := 0 }, pwr := { d.pwr with flashOp := 0 } }).calSaveNext e
  else d

/-- The repair of a group as a store has it lands, once the group's Skipper is free (R340, R343). -/
def Dev.repairTake (e : Env) (d : Dev) (g v : Nat) : Dev :=
  if d.o O.RX_REPAIR g == v then d
  else if d.repairWaits g then { d with shadows := tset none d.shadows (okey O.RX_REPAIR g) (some v) }
  else d.repairLand e g v

/-- The content of a store put in force: sets, repairs and device items, those that it does not list at their defaults (R343, R582,
R585). -/
def Dev.calTake (e : Env) (d : Dev) (st : CalStore) (src : Nat) : Dev :=
  let sets := st.sets.foldl (fun (m : Tab (List CalSet)) (p : Nat × List CalSet) => if p.1 < e.groups then tset [] m p.1 p.2 else m) []
  let d := { d with cal := { d.cal with sets := sets }, objs := d.objs.filter (fun p => !calItemIdx.contains (p.1 / 4096)) }
  let d := st.items.foldl (fun d p => if calItemIdx.contains p.1 then d.so p.1 p.2.1 p.2.2 else d) d
  let d := (List.range e.groups).foldl (fun d g =>
    d.repairTake e g (((st.repairs.find? (fun p => p.1 == g)).map Prod.snd).getD 0xFF)) d
  (List.range e.groups).foldl Dev.calShow (d.sos [(O.CAL_STORE_SRC, 0, src), (O.CAL_STORE_SEQ, 0, st.seq % 2 ^ 32)])

/-- A field slot that a reset cut is found invalid at the load. -/
def Dev.calBadSlots (e : Env) (d : Dev) : Dev :=
  (List.range 2).foldl (fun d i => if bit d.cal.badSlots i then d.log e 0x0907 (locCode 0 9 63 63 127 7) 0 else d) d

/-- The calibration items loaded at start-up from the first valid source (R582). -/
def Dev.calLoad (e : Env) (d : Dev) (warm : Bool) : Dev :=
  match (if warm then d.cal.retained.filter (fun st => st.valid e.part.fuse) else none) with
  | some st => d.calTake e st 3
  | none =>
    let d := d.calBadSlots e
    let best := match e.slotSeq d.cal.slotA, e.slotSeq d.cal.slotB with
      | some a, some b => if b < a then d.cal.slotA else d.cal.slotB
      | some _, none => d.cal.slotA
      | none, some _ => d.cal.slotB
      | none, none => none
    match best, d.cal.factory with
    | some st, _ => d.calTake e st 2
    | none, some st => d.calTake e st 1
    | none, none => d.so O.CAL_STORE_SRC 0 0

/-- CAL_FACTORY_STORE programmed with an image that R581 calls valid (R584). -/
def Dev.calFactory (d : Dev) (bs : Bytes) (st : CalStore) : Dev :=
  let d := (d.clearDom O.CAL_FACTORY_STORE 0).setDom O.CAL_FACTORY_STORE 0 0 bs
  { d with cal := { d.cal with factory := some st, factoryLen := bs.length } }

/-- CAL_RESTORE_FACTORY written 1 (R585): the field cache is the factory store, the field slots are erased. -/
def Dev.calRestore (e : Env) (d : Dev) : Dev :=
  let d := d.calTake e (d.cal.factory.getD { ident := e.part.fuse, sound := true, seq := 0, sets := [], repairs := [], items := [] }) (if d.cal.factory.isSome then 1 else 0)
  ({ d with cal := { d.cal with changed := false } }).calErase

/-! ### Input checks, digitisers, bias monitors (R557, R588 to R590) -/

/-- INPUT_CHECK (R330, R557): the input capacitance from the slope in pF, the response and that of the neighbours below and above
in percent of the expected step. The input is on its serving slice where that slice is not under calibration (R553); in the start-up
calibration the checks follow the ramps (R586). -/
def Dev.inputCheck (e : Env) (d : Dev) (ch capPf resp lo hi : Nat) : Dev :=
  let t := tget 0 d.cal.checkAt ch
  let due := if d.calStartup then d.rampsDone e else t == 0 || t - 1 + d.o O.CAL_INPUT_CHECK_S * 1500000000 ≤ e.now
  if e.channels ≤ ch || !due || !d.gapOk e (ch / 16) || d.underCal e (d.o O.RX_SLICE_OF ch) then d
  else
    let d := { d with cal := { d.cal with checkAt := tset 0 d.cal.checkAt ch (e.now + 1) } }
    let near := (if 25 < lo && ch != 0 then [ch - 1] else []) ++ (if 25 < hi && ch + 1 < e.channels then [ch + 1] else [])
    let st := if capPf < d.o O.RX_CIN_OPEN_PF then 1 else if resp < 5 then 2 else if 25 < lo || 25 < hi then 4 else 0
    let put := fun (d : Dev) (c st : Nat) =>
      let d := { d with rx := { d.rx with isolated := setBit d.rx.isolated c false } }
      if d.o O.RX_INPUT_STATUS c == st then d else d.inputSet e c st
    if st == 4 then near.foldl (fun d c => put d c 4) (put d ch 4) else put d ch st

/-- A digitiser slice or pair may be calibrated: it is READY and no channel is routed to it or to its pair (R588). -/
def Dev.dgMay (e : Env) (d : Dev) (s : Nat) : Bool :=
  let free := fun (x : Nat) => d.o O.RX_TAP_SRC x == 0xFFFF
  s < e.digis && d.o O.DG_STATE s == 2 && free s && free (if s % 2 == 0 then s + 1 else s - 1) &&
    (!d.paired s || (d.o O.DG_STATE (s / 2 * 2) == 2 && d.o O.DG_STATE (s / 2 * 2 + 1) == 2))

/-- The passes of the start-up calibration are over: none runs and no due group may start (R586). -/
def Dev.passesDone (e : Env) (d : Dev) : Bool := d.passesOpen e && d.calRunning == 0 && (d.calNext e).isNone

/-- A digitiser slice or pair may be calibrated and is due (R588); in the start-up calibration every one is, after the passes
(R586). -/
def Dev.dgDue (e : Env) (d : Dev) (s : Nat) (temp : Int) : Bool :=
  let at_ := tget 0 d.cal.dgAt s
  d.dgMay e s &&
    (if d.calStartup then d.passesDone e else at_ == 0 || d.o O.CAL_DG_DT ≤ (temp - tget 0 d.cal.dgTemp s).natAbs ||
      at_ - 1 + d.o O.CAL_MAX_AGE_S * 1500000000 ≤ e.now)

/-- New digitiser values: at a frame boundary while Jacquard runs, else at once (R512). -/
def Dev.dgPut (e : Env) (d : Dev) (s : Nat) (temp : Int) (v : Int × Int × Int) : Dev :=
  let c := d.cal
  let d := { d with cal := { c with dgNew := tset none c.dgNew s (some v), dgAt := tset 0 c.dgAt s (e.now + 1),
                                    dgTemp := tset 0 c.dgTemp s temp } }
  if d.o O.JQ_STATE == 0 then d.dgLand else d

/-- DIGITISER_CALIBRATION (R588, R589): the reading of the slice's sensor, offset, gain and sampling instant of the slice or of
both slices of its pair, and the pair's mismatches in 0.001 %, 0.01 ps and 0.01 code (R513). -/
def Dev.dgCal (e : Env) (d : Dev) (s : Nat) (temp : Int) (vals : List (Int × Int × Int)) (gain timing offset : Nat) : Dev :=
  if !d.dgDue e s temp then d
  else if !d.paired s then
    -- Only a pair has its sampling instant measured: the trim of another slice stays (R588).
    let v := (vals[0]?).getD (0, 32768, 0)
    d.dgPut e s temp (v.1, v.2.1, toS 16 (d.o O.DG_SKEW_TRIM s))
  else
    let p := s / 2
    let d := d.so O.DG_PAIR_RES p ((satN 65535 gain <<< 16) + satN 65535 timing)
    if timing ≤ 100 && gain ≤ 100 && offset ≤ 50 then
      let d := { d with cal := { d.cal with dgFails := tset 0 d.cal.dgFails p 0 } }
      (d.dgPut e (2 * p) temp ((vals[0]?).getD (0, 32768, 0))).dgPut e (2 * p + 1) temp ((vals[1]?).getD (0, 32768, 0))
    else
      let n := tget 0 d.cal.dgFails p + 1
      if n < 2 then { d with cal := { d.cal with dgFails := tset 0 d.cal.dgFails p n } }
      else
        let c := d.cal
        let d := { d with cal := { c with dgFails := tset 0 c.dgFails p 0,
                                          dgAt := tset 0 (tset 0 c.dgAt (2 * p) (e.now + 1)) (2 * p + 1) (e.now + 1),
                                          dgTemp := tset 0 (tset 0 c.dgTemp (2 * p) temp) (2 * p + 1) temp } }
        d.log e 0x0802 (locCode 0 8 63 (2 * p) (2 * p) 1) 2

/-- BIAS_MONITOR_COMPARE (R590): the monitors' readings in mV before their corrections. The correction is by the difference in whole
mV; the residual is what remains of it, as in step 5 of Table 11-2 (DEDUCED, log entry 64). -/
def Dev.biasCompare (e : Env) (d : Dev) (readings : List Int) : Dev :=
  if e.now < d.cal.biasAt + 15000000000 then d
  else
    let d := { d with cal := { d.cal with biasAt := e.now } }
    (List.range e.biases).foldl (fun d b =>
      if !d.ob O.RX_BIAS_ENABLE b then d
      else
        let hk : Rat := 1000 * d.of32 O.HK_PHYS (24 + b)
        let v : Rat := ((intAt readings b + tget 0 d.cal.biasCorr b : Int) : Rat)
        let diff := v - hk
        let d := { d with cal := { d.cal with biasCorr := tset 0 d.cal.biasCorr b (tget 0 d.cal.biasCorr b - roundHE diff) } }
        let rest := diff - (roundHE diff : Rat)
        let d := d.so O.RX_BIAS_V_MEAS b (clampI 0 65535 (roundHE (v - (roundHE diff : Rat)))).toNat
        let err : Int := if hk = 0 then 0 else clampI (-32768) 32767 (roundHE (10000 * rest / hk))
        let d := d.so O.CAL_BIAS_ERR b (ofS 16 err)
        if (if diff < 0 then -diff else diff) * 100 > hk then d.log e 0x0414 (biasLoc b 6) 1 else d) d

/-! ### Start-up calibration (R586) -/

/-- The start-up calibration begins: enabled outputs ramp, and after a cold start every group and digitiser is due. -/
def Dev.calStart (e : Env) (d : Dev) (warm : Bool) : Dev :=
  let d := (List.range e.biases).foldl (fun d b => if d.ob O.RX_BIAS_ENABLE b && d.o O.RX_BIAS_STATUS b == 0 then d.biasEnable e b 1 else d) d
  if warm then d else (List.range e.groups).foldl Dev.calDue d

/-- Nothing of the start-up calibration is left (R586): the ramps and input checks, and after a cold start the passes and the
digitisers that may be calibrated. -/
def Dev.calIdle (e : Env) (d : Dev) : Bool :=
  d.rampsDone e && d.checksDone e &&
    (d.pwr.warm || (d.passesDone e && (List.range e.digis).all (fun s => !d.dgMay e s || tget 0 d.cal.dgAt s != 0)))

end Sys2Proof.Machine
end

