-- ==== Sys2Proof/Machine/Atlas.lean ====
section
/-! DEFINITION. Atlas and the sensor bridge (chapter 12): bridge blocks, faults and results, photocurrent channels, loop samples
in block-floating arithmetic, supervision, modes, trace and injection. -/

namespace Sys2Proof.Machine

/-! ### Bridge channels (R594 to R605) -/

/-- A bridge channel beside its objects. -/
def Dev.bridge (d : Dev) (n : Nat) : Bridge := tget {} d.atl.bridges n

/-- A bridge channel changed. -/
def Dev.setBridge (d : Dev) (n : Nat) (b : Bridge) : Dev := { d with atl := { d.atl with bridges := tset {} d.atl.bridges n b } }

/-- A channel is powered. -/
def Dev.sbOn (d : Dev) (n : Nat) : Bool := n < 8 && d.o O.SB_MODE n != 0

/-- SB_STATUS shown (Table 12-7). -/
def Dev.sbShow (d : Dev) (n : Nat) : Dev :=
  let b := d.bridge n
  d.so O.SB_STATUS n (if !d.sbOn n then 0 else if b.fault != 0 then 2 + b.fault else if b.stale != 0 then 2 else 1)

/-- A change of a channel (R597). -/
def Dev.sbChange (d : Dev) (n : Nat) : Dev :=
  (d.setBridge n { (d.bridge n) with stale := if d.o O.SB_MODE n == 1 then 3 else 0 }).sbShow n

/-- The block boundaries between which a channel's results fall: every second one in fast mode, every sixth in single-cycle-settling
mode (R595, R596). -/
def Dev.sbBlocks (d : Dev) (n : Nat) : Nat := if d.o O.SB_MODE n == 2 then 6 else 2

/-- A channel that converts with the settings of its objects from now on. -/
def Dev.sbTake (e : Env) (d : Dev) (n : Nat) (b : Bridge) : Bridge :=
  let g := d.o O.SB_PGA n
  { b with exc := d.o O.SB_EXC n, pga := g,
           gains := if g == b.pga then b.gains else b.gains.filter (fun p => e.now ≤ p.1 + 30000) ++ [(e.now, b.pga)] }

/-- A landed write of SB_MODE, SB_EXC or SB_PGA (R597). In single-cycle-settling mode a change takes effect at the start of the next
frame. -/
def Dev.sbLanded (e : Env) (d : Dev) (idx n v : Nat) : Dev :=
  let old := d.o idx n
  let d := d.so idx n v
  let next := (d.atl.blocks / 6 + 1) * 6
  let from_ := if d.o O.SB_MODE n == 2 then next else d.atl.blocks
  if idx == O.SB_MODE && v == 0 then (d.setBridge n {}).sbShow n
  else if idx == O.SB_MODE && old == 0 then (d.setBridge n { (d.sbTake e n {}) with resultBlk := from_, gains := [] }).sbChange n
  else if !d.sbOn n then d
  else if idx == O.SB_MODE && v != old then (d.setBridge n { (d.sbTake e n (d.bridge n)) with resultBlk := from_ }).sbChange n
  else (if d.o O.SB_MODE n == 2 then d else d.setBridge n (d.sbTake e n (d.bridge n))).sbChange n

/-- The first check of Table 12-2 that a block fails, 0 none. -/
def Dev.blockFault (d : Dev) (m : BridgeMeas) : Nat :=
  let v := if (d.bridge m.chan).exc == 0 then 1250 else 2500
  let out := fun (x : Int) => 10 * x < 2 * (m.sense : Int) || 8 * (m.sense : Int) < 10 * x
  if d.o O.SB_I_MAX m.chan < m.iMax || m.limited then 1
  else if m.iEnd < d.o O.SB_I_MIN m.chan then 2
  else if 20 * m.sense < 19 * v || 21 * v < 20 * m.sense then 3
  else if out m.cmP || out m.cmN then 4 else 0

/-- The checks of a channel at a block's end (R599). -/
def Dev.blockCheck (e : Env) (d : Dev) (n : Nat) (ms : List BridgeMeas) : Dev :=
  let b := d.bridge n
  match ms.find? (fun m => m.chan == n) with
  | none => d.setBridge n { b with fails := 0, passes := b.passes + 1 }
  | some m =>
    let f := d.blockFault m
    let d := d.so O.SB_I_MEAS n (satN 65535 m.iEnd)
    if f == 0 then d.setBridge n { b with fails := 0, passes := b.passes + 1 }
    else d.setBridge n { b with fails := b.fails + 1, passes := 0, kind := if b.fails < 2 then f else b.kind, failAt := e.now + 1 }

/-- BRIDGE_BLOCK_END (R593, R599): a block is 2.5 µs. Every sixth begins a frame, with which a channel in single-cycle-settling mode
takes its settings (R596, R597). -/
def Dev.blockEnd (e : Env) (d : Dev) (ms : List BridgeMeas) : Dev :=
  if e.now < d.atl.blockAt + 3750 then d
  else
    let d := { d with atl := { d.atl with blockAt := e.now, blocks := d.atl.blocks + 1 } }
    (List.range 8).foldl (fun d n =>
      if !d.sbOn n then d
      else
        let d := d.blockCheck e n ms
        if d.o O.SB_MODE n == 2 && d.atl.blocks % 6 == 0 then d.setBridge n (d.sbTake e n (d.bridge n)) else d) d

/-- BRIDGE_FAULT_DECLARED (R600, R603). -/
def Dev.bridgeFault (e : Env) (d : Dev) (n : Nat) : Dev :=
  let b := d.bridge n
  if d.sbOn n && b.fault == 0 && 2 ≤ b.fails then
    (((d.setBridge n { b with fault := b.kind }).sbShow n).inc O.SB_FAULTS n).log e (0x0A00 + b.kind)
      (locCode 1 10 (8 + n) n 127 (b.kind - 1)) 2
  else d

/-- BRIDGE_FAULT_END (R602): SB_STATUS reads OK until the first STALE result. -/
def Dev.bridgeOk (d : Dev) (n : Nat) : Dev :=
  let b := d.bridge n
  if d.sbOn n && b.fault != 0 && 64 ≤ b.passes then ((d.setBridge n { b with fault := 0 }).sbChange n).so O.SB_STATUS n 1 else d

/-- The angle of a channel as binary32 (R605): x in Q1.23, evaluated exactly and rounded once. -/
def Dev.linearise (d : Dev) (n : Nat) (x : Int) : Nat :=
  let dt : Rat := match d.biasTemp (d.o O.SB_TSRC n) with
    | none => 0
    | some t => (t - (d.os16 O.SB_TREF n : Rat)) / 10
  let xr : Rat := (x : Rat) / 2 ^ 23
  f32Of ((List.range 18).foldl (fun (s : Rat) k => s + d.of32 O.SB_LIN_COEF (18 * n + k) * xr ^ (k % 6) * dt ^ (k / 6)) 0)

/-- Degrees as µ° in 32 bits. -/
def microDeg (q : Rat) : Int := clampI (-2147483648) 2147483647 (roundHE (q * 1000000))

/-- A blanking hold of a channel falls into the 142 modulator clocks before now (R594, R604). -/
def Dev.blankIn (e : Env) (d : Dev) (n : Nat) : Bool :=
  d.atl.holds.any (fun p => p.1 == n && p.2.1 < p.2.2 && 2 * e.now ≤ p.2.2 + 33281 && p.2.1 ≤ 2 * e.now)

/-- A shot's blanking span, in coarse periods, with the holds of the channels whose SB_BLANK is 1 (R604). -/
def Dev.addBlank (d : Dev) (lo hi : Nat) : Dev :=
  { d with atl := { d.atl with
    blanks := d.atl.blanks.filter (fun p => lo ≤ p.2 + 100000) ++ [(lo, hi)],
    holds := d.atl.holds.filter (fun p => lo ≤ p.2.2 + 100000) ++
      ((List.range 8).filter (fun n => d.ob O.SB_BLANK n)).map (fun n => (n, lo, hi)) } }

/-- The span and the holds of a shot that emits nothing after all (R604). -/
def Dev.dropBlank (d : Dev) (lo hi : Nat) : Dev :=
  { d with atl := { d.atl with blanks := d.atl.blanks.filter (fun p => p.1 != lo),
                               holds := d.atl.holds.filter (fun p => p.2.1 < lo || hi < p.2.1) } }

/-- SB_BLANK landed: a hold lasts while it is 1 (R604). -/
def Dev.blankLanded (e : Env) (d : Dev) (n v : Nat) : Dev :=
  let t := 2 * e.now
  let a := d.atl
  let hs := if v == 0 then a.holds.map (fun p => if p.1 == n && t < p.2.2 then (n, p.2.1, max p.2.1 t) else p)
    else if d.ob O.SB_BLANK n then a.holds
    else a.holds ++ (a.blanks.filter (fun p => t < p.2)).map (fun p => (n, max p.1 t, p.2))
  { (d.so O.SB_BLANK n v) with atl := { a with holds := hs } }

/-- Item `i` of a list of rationals. -/
def ratAt (l : List Rat) (i : Nat) : Rat := (l[i]?).getD 0

/-! #### Modulator and filter (R592, R594, R596) -/

/-- The gain of a channel at an instant in sixteenths of a coarse period. -/
def Bridge.gainAt (b : Bridge) (t : Nat) : Nat := ((b.gains.find? (fun p => t < 32 * p.1)).map Prod.snd).getD b.pga

/-- The output of a channel's modulator for one clock (R592): the ratio of the signal to the sense pair, in its gain; `v` where there
is no sense pair voltage. -/
def modOut (pga : Nat) (x : Int × Int) (v : Rat) : Rat := if x.2 = 0 then v else (x.1 * 4 ^ pga : Int) / (x.2 : Rat)

/-- The clocks of a list of runs, oldest first, at most one frame of them. -/
def modClocks (l : List BridgeRun) : List (Int × Int) :=
  let c := l.flatMap (fun r => List.replicate (min r.clocks 192) (r.diff, r.sense))
  c.drop (c.length - 192)

/-- A channel after modulator clocks that end now. A held input stays as it was (R604); an end without a sense pair voltage takes `v`.
A clock is 3,750 sixteenths of a coarse period. -/
def Dev.modulate (e : Env) (d : Dev) (n : Nat) (v : Rat) (b : Bridge) (cs : List (Int × Int)) : Bridge :=
  (List.range cs.length).foldl (fun (b : Bridge) i =>
    let t := 32 * e.now - 3750 * (cs.length - 1 - i)
    let held := d.atl.holds.any (fun p => p.1 == n && 16 * p.2.1 ≤ t && t < 16 * p.2.2)
    let x := if held then b.input else (cs[i]?).getD b.input
    { b with input := x, line := modOut (b.gainAt t) x v :: b.line }) b

/-- The coefficients of a sinc³ stage that decimates by 8, over 22 clocks (R594). -/
def sinc3 : List Rat := [1, 3, 6, 10, 15, 21, 28, 36, 42, 46, 48, 48, 46, 42, 36, 28, 21, 15, 10, 6, 3, 1]

/-- An output of the sinc³ stage whose newest clock is clock `k` before the present one; what lies before the tape is 0. -/
def sincOut (tape : List Rat) (k : Nat) : Rat :=
  ((List.range 22).foldl (fun (s : Rat) j => s + ratAt sinc3 j * ratAt tape (k + j)) 0) / 512

/-- A tap of the FIR: symmetric, for its delay is 71 clocks of 142, and all alike where they would sum to 0 (R594). -/
def firTap (i : Nat) : Int :=
  if (List.range 8).foldl (fun (s : Int) j => s + Config.sbTap j) 0 = 0 then 1 else Config.sbTap (min i (15 - i))

/-- A chain's output over the 142 clocks of its line (R594), with a gain of 1 at 0 Hz, for X is the ratio (R598). -/
def chainOut (line : List Rat) : Rat :=
  ((List.range 16).foldl (fun (s : Rat) i => s + (firTap i : Rat) * sincOut line (8 * i)) 0) /
    ((List.range 16).foldl (fun (s : Rat) i => s + (firTap i : Rat)) 0)

/-- A channel after the clocks that end with a result: in single-cycle-settling mode a frame discards its first 48 and restarts the
filter (R596). -/
def Dev.sbClocks (e : Env) (d : Dev) (n : Nat) (l : List BridgeRun) (v : Rat) : Bridge :=
  let b := d.bridge n
  let b := d.modulate e n v b (modClocks l)
  { b with line := b.line.take (if d.o O.SB_MODE n == 2 then min 144 (modClocks l).length else 142) }

/-- The channel with its clocks, and X in Q1.23: the free part is the modulator's output without a sense pair voltage. -/
def Dev.bridgeX (e : Env) (d : Dev) (n : Nat) (l : List BridgeRun) : Bridge × Int × Dev :=
  let (v, d) := if l.any (fun r => r.sense = 0) then (let (v, d) := d.freeVal 24; ((toS 24 v : Rat) / 8388608, d)) else (0, d)
  let b := d.sbClocks e n l v
  (b, clampI (-8388608) 8388607 (roundHE (chainOut b.line * 8388608)), d)

/-- BRIDGE_RESULT (R592, R594 to R601, R605): what the modulator's inputs were since the last result, oldest first. Results of all
channels fall on common instants. -/
def Dev.bridgeResult (e : Env) (d : Dev) (n : Nat) (l : List BridgeRun) : Dev :=
  let k := d.sbBlocks n
  if !d.sbOn n || d.atl.blocks / k * k ≤ (d.bridge n).resultBlk then d
  else
    let (b, x, d) := d.bridgeX e n l
    let hold := b.fault != 0 || (b.failAt != 0 && 8 * e.now < 8 * (b.failAt - 1) + 133125)
    let xs := if hold then b.good else x
    let word := (ofS 24 xs <<< 8) + (b2n (b.stale != 0) <<< 7) + (b2n hold <<< 6) +
      (b2n (d.blankIn e n) <<< 5) + (b.fault <<< 2)
    let th := d.linearise n xs
    let d := (d.so O.SB_RESULT n word).so O.SB_ANGLE n (ofS 32 (microDeg (f32Val th)))
    let d := if hold then d.inc O.SB_HOLDS n else d
    let d := d.setBridge n { b with stale := b.stale - 1, good := xs, rawX := x, resultBlk := d.atl.blocks / k * k, theta := th }
    let d := d.sbShow n
    (List.range 4).foldl (fun d s =>
      if d.o O.ATL_FB_A s == n then
        let q := tget {} d.atl.slots s
        { d with atl := { d.atl with slots := tset {} d.atl.slots s { q with results := q.results + 1 } } }
      else d) d

/-! ### Photocurrent channels (R606 to R609) -/

/-- Cycles for which a channel has converted in a range that is still STALE (R608). -/
def Dev.pdConv (e : Env) (d : Dev) (p : Nat) : Option Nat :=
  (tget none d.atl.pdStale p).map (fun x => x.1 + (if d.o O.PD_MODE p == 0 then 0 else e.now - x.2))

/-- A channel without a saturation. -/
def Dev.pdNoSat (d : Dev) (p : Nat) : Dev :=
  { d with atl := { d.atl with pdSat := tset none d.atl.pdSat p none, pdLogged := setBit d.atl.pdLogged p false } }

/-- PD_RANGE landed (R608): an OFF channel is STALE once it converts. -/
def Dev.pdRange (e : Env) (d : Dev) (p v : Nat) : Dev :=
  let old := d.o O.PD_RANGE p
  let d := d.so O.PD_RANGE p v
  if v == old then d
  else
    let d := { d with atl := { d.atl with pdStale := tset none d.atl.pdStale p (some (0, e.now)) } }
    if d.o O.PD_MODE p == 0 then d else (d.so O.PD_STATUS p 2).pdNoSat p

/-- PD_MODE landed. A channel converts, and its STALE runs, while it is not OFF (R608). -/
def Dev.pdMode (e : Env) (d : Dev) (p v : Nat) : Dev :=
  if v == d.o O.PD_MODE p then d
  else
    let c := d.pdConv e p
    let d := (d.so O.PD_MODE p v).so O.PD_STATUS p (if v == 0 then 0 else if c.isSome then 2 else 1)
    ({ d with atl := { d.atl with pdAt := tset 0 d.atl.pdAt p e.now, pdShot := setBit d.atl.pdShot p false,
                                  pdStale := tset none d.atl.pdStale p (c.map (fun x => (x, e.now))) } }).pdNoSat p

/-- The TIA of a channel stands above 90 % of its range, or no longer (R609). SAT shows outside STALE, over NO_SHOT. -/
def Dev.pdTia (e : Env) (d : Dev) (p : Nat) (sat : Bool) : Dev :=
  let st := d.o O.PD_STATUS p
  if !sat then (if st == 3 then d.so O.PD_STATUS p 1 else d).pdNoSat p
  else
    let d := if (tget none d.atl.pdSat p).isSome then d
      else { d with atl := { d.atl with pdSat := tset none d.atl.pdSat p (some e.now) } }
    if st == 2 then d else d.so O.PD_STATUS p 3

/-- PD_PUBLISH (R606, R607, R609): the mean in the channel's unit as binary32, and whether the TIA is above 90 % of its range at this
instant. Before PD_AVG_MS have passed only the latter acts (log entry 236). -/
def Dev.pdPublish (e : Env) (d : Dev) (p value : Nat) (sat : Bool) : Dev :=
  let m := d.o O.PD_MODE p
  if 4 ≤ p || m == 0 then d
  else
    let d := d.pdTia e p sat
    if e.now < tget 0 d.atl.pdAt p + d.o O.PD_AVG_MS p * 1500000 then d
    else
      let shot := bit d.atl.pdShot p
      let d := { d with atl := { d.atl with pdAt := tset 0 d.atl.pdAt p e.now, pdShot := setBit d.atl.pdShot p false } }
      if d.o O.PD_STATUS p == 2 then d
      else if m == 2 && !shot then (if sat then d else d.so O.PD_STATUS p 4)
      else (d.so O.PD_VALUE p value).so O.PD_STATUS p (if sat then 3 else 1)

/-- PD_STALE_END (R608): 2 ms of conversion in the new range. A saturation that stands shows from now on. -/
def Dev.pdStaleEnd (e : Env) (d : Dev) (p : Nat) : Dev :=
  if d.o O.PD_STATUS p == 2 && 3000000 ≤ (d.pdConv e p).getD 0 then
    let sat := (tget none d.atl.pdSat p).isSome
    { (d.so O.PD_STATUS p (if sat then 3 else 1)) with
      atl := { d.atl with pdStale := tset none d.atl.pdStale p none,
                          pdSat := tset none d.atl.pdSat p (if sat then some e.now else none) } }
  else d

/-- PD_SAT_HOLD (R609): SAT held for 1 s, once for as long as it lasts. -/
def Dev.pdSatHold (e : Env) (d : Dev) (p : Nat) : Dev :=
  match tget none d.atl.pdSat p with
  | some t =>
    if d.o O.PD_STATUS p == 3 && !bit d.atl.pdLogged p && t + 1500000000 ≤ e.now then
      ({ d with atl := { d.atl with pdLogged := setBit d.atl.pdLogged p true } }).log e 0x0A20 (locCode 1 10 (16 + p) 63 127 10) 0
    else d
  | none => d

/-! ### Block-floating arithmetic (R623 to R626) -/

/-- A value in a format: its mantissa, saturated. -/
def qMant (e : Int) (v : Rat) : Int := clampI (-8388607) 8388607 (roundHE (v * pow2 (23 - e)))

/-- A value rounded to a format (R624). -/
def qz (e : Int) (v : Rat) : Rat := (qMant e v : Rat) * pow2 (e - 23)

/-- Whether a value saturates in a format. -/
def qSat (e : Int) (v : Rat) : Nat := if 8388607 < (roundHE (v * pow2 (23 - e))).natAbs then 1 else 0

/-- Saturations among the values of a stage. -/
def qSats (e : Int) (l : List Rat) : Nat := l.foldl (fun n v => n + qSat e v) 0

/-- Value `i` of a stage. -/
def Stage.val (s : Stage) (i : Nat) : Rat := ((s.m[i]?).getD 0 : Rat) * pow2 (s.e - 23)

/-- The values of a stage in its format (R624). -/
def Stage.put (s : Stage) (l : List Rat) : Stage := { s with m := l.map (qMant s.e) }

/-- A stage after a sample: rescaled by at most one step (R625). -/
def Stage.rescale (s : Stage) : Stage :=
  if s.m.any (fun m => 4194304 ≤ m.natAbs) && s.e < 127 then { m := s.m.map (fun m => divHE m 2), e := s.e + 1 }
  else if s.m.all (fun m => m.natAbs < 1048576) && -128 < s.e then { m := s.m.map (fun m => 2 * m), e := s.e - 1 }
  else s

/-- The largest magnitude of a list. -/
def topOf (l : List Rat) : Rat := l.foldl (fun (t : Rat) x => if t < |x| then |x| else t) 0

/-- A stage that a preset gives its values: the exponent in which the largest has its leading bit in place 21, the present one where
all are 0 (R634; DESIGN CHOICE, log entry 237). -/
def Stage.fit (s : Stage) (l : List Rat) : Stage :=
  let top := topOf l
  ({ s with e := if top = 0 then s.e else clampI (-128) 127 (ilog2 top + 2) }).put l

/-- The coefficients of a stage with one exponent, the largest magnitude, once rounded, in [2^22, 2^23) (R626). -/
def coefQ (l : List Rat) : List Rat :=
  let top := topOf l
  if top = 0 then l.map (fun _ => 0)
  else
    let s := pow2 (22 - ilog2 top)
    let s := if roundHE (top * s) < 8388608 then s else s / 2
    l.map (fun x => (roundHE (x * s) : Rat) / s)

/-! ### A slot -/

/-- A slot beside its objects. -/
def Dev.slot (d : Dev) (s : Nat) : Slot := tget {} d.atl.slots s

/-- A slot changed. -/
def Dev.setSlot (d : Dev) (s : Nat) (x : Slot) : Dev := { d with atl := { d.atl with slots := tset {} d.atl.slots s x } }

/-- Stage `n` of a slot, 1 to 7. -/
def Slot.stage (x : Slot) (n : Nat) : Stage := (x.st[n - 1]?).getD {}

/-- A slot whose sample has ended (R625). -/
def Slot.rescale (x : Slot) : Slot := { x with st := x.st.map Stage.rescale }

/-- A slot with a stage changed. -/
def Slot.setStage (x : Slot) (n : Nat) (s : Stage) : Slot := { x with st := x.st.set (n - 1) s }

/-- The command in mA. -/
def Slot.u (x : Slot) : Rat := (x.stage 7).val 0

/-- The loop period in seconds (R610). -/
def Dev.loopSec (d : Dev) (s : Nat) : Rat := (d.loopPeriod s : Rat) / 1500000000

/-- An angle object in degrees. -/
def Dev.deg (d : Dev) (idx s : Nat) : Rat := (d.os32 idx s : Rat) / 1000000

/-- π to 16 digits. -/
def piQ : Rat := 3141592653589793 / 1000000000000000

/-- The channels a slot uses. -/
def Dev.slotChans (d : Dev) (s : Nat) : List Nat :=
  d.o O.ATL_FB_A s :: (if d.o O.ATL_FB_B s == 0xFF then [] else [d.o O.ATL_FB_B s])

/-- The feedforward current (R620): one exponent for its three coefficients. -/
def Dev.feedforward (d : Dev) (s : Nat) (th th1 th2 : Rat) : Rat :=
  let w0 := 2 * piQ * d.of32 O.ATL_MDL_F0 s
  let g := d.of32 O.ATL_MDL_GDC s
  let c := coefQ [1 / g, 2 * d.of32 O.ATL_MDL_ZETA s / (w0 * g), 1 / (w0 * w0 * g)]
  ratAt c 0 * th + ratAt c 1 * th1 + ratAt c 2 * th2

/-- The coefficients of the biquads of a slot, with one exponent. -/
def Dev.biquads (d : Dev) (s : Nat) : List Rat := coefQ ((List.range 10).map (fun i => d.of32 O.ATL_BIQUAD (10 * s + i)))

/-- One biquad: output and new states for coefficients b0, b1, b2, a1, a2 from place `k` on. -/
def biquadStep (c : List Rat) (k : Nat) (x s1 s2 : Rat) : Rat × Rat × Rat :=
  let y := ratAt c k * x + s1
  (y, ratAt c (k + 1) * x - ratAt c (k + 3) * y + s2, ratAt c (k + 2) * x - ratAt c (k + 4) * y)

/-- The DC gain of a biquad. -/
def biquadGain (c : List Rat) (k : Nat) : Rat :=
  (ratAt c k + ratAt c (k + 1) + ratAt c (k + 2)) / (1 + ratAt c (k + 3) + ratAt c (k + 4))

/-- The steady states of a biquad for a constant input. -/
def biquadSteady (c : List Rat) (k : Nat) (x : Rat) : Rat × Rat :=
  let y := biquadGain c k * x
  (ratAt c (k + 1) * x - ratAt c (k + 3) * y + (ratAt c (k + 2) * x - ratAt c (k + 4) * y), ratAt c (k + 2) * x - ratAt c (k + 4) * y)

/-! ### Trace (R637 to R639) -/

/-- A trigger of the trace, by its bit in ATL_TR_TRIG. -/
def Dev.traceTrig (e : Env) (d : Dev) (b : Nat) : Dev :=
  if d.o O.ATL_TR_STATE == 1 && bit (d.o O.ATL_TR_TRIG) b then
    { (d.sos [(O.ATL_TR_STATE, 0, 2), (O.ATL_TR_TIME, 0, e.now)]) with atl := { d.atl with post := d.o O.ATL_TR_POST } }
  else d

/-- ATL_TR_ARM written 1 or 2. -/
def Dev.traceArm (e : Env) (d : Dev) (v : Nat) : Dev := if v == 1 then d.so O.ATL_TR_STATE 0 1 else d.traceTrig e 2

/-- TRACE_FREEZE (R638). -/
def Dev.traceFreeze (d : Dev) : Dev := if d.o O.ATL_TR_STATE == 2 && d.atl.post == 0 then d.so O.ATL_TR_STATE 0 3 else d

/-- The nodes of a slot in order of their numbers, as binary32. -/
def Slot.nodes (x : Slot) (upid : Rat) (current : Int) : List Nat :=
  [f32Of ((x.stage 2).val 0), f32Of ((x.stage 2).val 1), f32Of ((x.stage 1).val 0), f32Of ((x.stage 1).val 1),
   f32Of ((x.stage 1).val 2), f32Of ((x.stage 3).val 1), f32Of ((x.stage 3).val 3), f32Of ((x.stage 4).val 0),
   f32Of ((x.stage 4).val 2), f32Of upid, f32Of ((x.stage 5).val 4), f32Of ((x.stage 6).val 0), f32Of x.u,
   f32Of ((current : Rat) / 1000)]

/-- A sample of a slot recorded in the traces that name it. -/
def Dev.traceSample (d : Dev) (s : Nat) (nodes : List Nat) : Dev :=
  if d.o O.ATL_TR_STATE == 3 || (d.o O.ATL_TR_STATE == 2 && d.atl.post == 0) then d
  else
    let rings := (List.range 8).foldl (fun (m : Tab (List Nat)) k =>
      let w := d.o O.ATL_TR_NODE k
      if w / 256 == s then
        (match nodes[w % 256]? with
         | some v => tset [] m k ((v :: tget [] m k).take 4096)
         | none => m)
      else m) d.atl.rings
    let post := if d.o O.ATL_TR_STATE == 2 && d.o O.ATL_TR_NODE 0 / 256 == s then d.atl.post - 1 else d.atl.post
    { d with atl := { d.atl with rings := rings, post := post } }

/-- The bytes of ATL_TR_DATA: eight rings of 4,096 values, oldest first. -/
def Dev.traceBytes (d : Dev) : Bytes :=
  (List.range 8).flatMap (fun k =>
    let l := tget [] d.atl.rings k
    zeros (4 * (4096 - l.length)) ++ l.reverse.flatMap (leBytes 4))

/-! ### Modes (Table 12-6, R630 to R635) -/

/-- The coil of a slot: 0 MCOIL_A, 1 MCOIL_B. -/
def Dev.coilOf (d : Dev) (s : Nat) : Option Nat :=
  if d.o O.ATL_OUT s == 1 then some 0 else if d.o O.ATL_OUT s == 2 then some 1 else none

/-- The status of a slot's coil. -/
def Dev.coilSet (d : Dev) (s v : Nat) : Dev :=
  match d.coilOf s with
  | some c => d.so O.ATL_COIL_STATUS c v
  | none => d

/-- A slot put into OFF with its driver off at once. -/
def Dev.slotOff (e : Env) (d : Dev) (s status : Nat) : Dev :=
  let x := d.slot s
  let d := ((d.so O.ATL_STATE s 0).so O.ATL_CLEAN_MS s 0).coilSet s status
  (d.setSlot s { (x.setStage 7 {}) with ramp := false, cleanAt := none, limited := 0 }).hmEval e

/-- A slot on its way to OFF: its command ramps to 0. -/
def Dev.slotDown (e : Env) (d : Dev) (s : Nat) : Dev :=
  if d.o O.ATL_STATE s == 0 then d
  else
    let d := (d.so O.ATL_STATE s 0).so O.ATL_CLEAN_MS s 0
    (d.setSlot s { (d.slot s) with ramp := true, cleanAt := none }).hmEval e

/-- ATL_OFF_RAMP_DONE (R630): the command has reached 0. -/
def Dev.rampDone (e : Env) (d : Dev) (s : Nat) : Dev :=
  if d.o O.ATL_STATE s == 0 && (d.slot s).ramp && (d.slot s).u = 0 then d.slotOff e s 0 else d

/-- The output stage on the way out of OFF: u is 0, in a format that holds ATL_I_MAX (R621; DESIGN CHOICE, log entry 237). -/
def Dev.outFresh (d : Dev) (s : Nat) (x : Slot) : Slot := x.setStage 7 (((x.stage 7).fit [(d.o O.ATL_I_MAX s : Rat)]).put [0])

/-- The bumpless preset on entry to CLOSED (R634). -/
def Dev.preset (d : Dev) (s : Nat) (fromOff : Bool) : Dev :=
  let x := d.slot s
  let th := (x.stage 1).val 0
  let om := (x.stage 3).val 2
  let c := d.biquads s
  let g := biquadGain c 0 * biquadGain c 5
  let ff := if d.ob O.ATL_FF_EN s then d.feedforward s th om 0 else 0
  let i0 : Rat × Dev :=
    if fromOff then (0, d)
    else if g = 0 then let (v, d) := d.freeVal 32; (toS 32 v, d)
    else ((x.u - ff) / g, d)
  let i := i0.1
  let b1 := biquadSteady c 0 i
  let b2 := biquadSteady c 5 (biquadGain c 0 * i)
  let v := [[th, th, om, 0], [0, 0, i, 0, th], [b1.1, b1.2, b2.1, b2.2, g * i], [ff, x.u]]
  let fitted := [2, 4, 5, 6].zip v |>.map (fun p => (p.1, (x.stage p.1).fit p.2, p.2))
  let sats := fitted.foldl (fun n p => n + qSats p.2.1.e p.2.2) 0
  let x := fitted.foldl (fun (x : Slot) p => x.setStage p.1 p.2.1) (if fromOff then d.outFresh s x else x)
  let d := if sats == 0 then i0.2 else i0.2.inc O.ATL_SAT s sats
  d.setSlot s { x with cleanAt := none, badRun := 0, residRun := 0, pairRun := 0, hist := [], limited := 0, ramp := false }

/-- A slot enters CLOSED. -/
def Dev.slotClose (e : Env) (d : Dev) (s : Nat) : Dev :=
  let was := d.o O.ATL_STATE s
  ((((d.preset s (was == 0)).so O.ATL_STATE s 2).so O.ATL_CLEAN_MS s 0).coilSet s 1).hmEval e

/-- The log entry of a slot's entry to MODEL_HOLD, with the cell of Table 12-5. -/
def Dev.holdLog (e : Env) (d : Dev) (s cell : Nat) : Dev := d.log e 0x0A10 (locCode 0 10 s 63 127 cell) 2

/-- A slot enters MODEL_HOLD with a cause (Table 12-6, R635). -/
def Dev.slotHold (e : Env) (d : Dev) (s cause : Nat) : Dev :=
  let x := d.slot s
  let th := (x.stage 3).val 1
  let st2 := x.stage 2
  let d := if qSat st2.e th == 0 then d else d.inc O.ATL_SAT s
  let x := x.setStage 2 (st2.put [th, st2.val 1, st2.val 2, st2.val 3])
  let d := (d.setSlot s { x with cleanAt := none }).sos
    [(O.ATL_STATE, s, 3), (O.ATL_HOLD_CAUSE, s, cause), (O.ATL_CLEAN_MS, s, 0)]
  ((d.inc O.ATL_HOLDS s).traceTrig e 0).hmEval e

/-- ATL_MODE landed (Table 12-6); the value checks have refused what R630 refuses. -/
def Dev.atlMode (e : Env) (d : Dev) (s v : Nat) : Dev :=
  let st := d.o O.ATL_STATE s
  let d := d.so O.ATL_MODE s v
  let bound := d.o O.ATL_OUT s != 0
  if v == st then d
  else if v == 0 then d.slotDown e s
  else if v == 1 then
    (if st == 0 then (if bound then ((d.so O.ATL_STATE s 1).coilSet s 1).setSlot s { (if (d.slot s).ramp then d.slot s else d.outFresh s (d.slot s)) with ramp := false }
       else d)
     else
       let d := d.so O.ATL_MAN_I s (ofS 32 (roundHE ((d.slot s).u * 1000)))
       ((d.so O.ATL_STATE s 1).so O.ATL_CLEAN_MS s 0).hmEval e)
  else if v == 2 then (if bound then d.slotClose e s else d)
  else if v == 3 then (if st == 2 then (d.holdLog e s 63).slotHold e s 6 else d)
  else d

/-- A write of ATL_MODE 2 is refused (Table 12-6): feedback unusable, or less than 100 ms clean in MODEL_HOLD. -/
def Dev.closeRefused (d : Dev) (s : Nat) : Bool :=
  let st := d.o O.ATL_STATE s
  if st == 3 then d.o O.ATL_CLEAN_MS s < 100 else if st == 0 || st == 1 then !(d.slot s).usable else false

/-- The slot that a coil serves. -/
def Dev.slotOfCoil (d : Dev) (c : Nat) : Option Nat := (List.range 4).find? (fun s => d.coilOf s == some c)

/-- A coil fault (R632, R633): the driver is off at once, also where no slot names the coil any more. -/
def Dev.coilFault (e : Env) (d : Dev) (c status cell : Nat) : Dev :=
  match d.slotOfCoil c with
  | some s => (d.slotOff e s status).log e 0x0A11 (locCode 1 10 s 63 127 cell) 2
  | none => (d.so O.ATL_COIL_STATUS c status).log e 0x0A11 (locCode 1 10 63 63 127 cell) 2

/-- ATL_OUT landed: a slot that still ramps to OFF lets go of its coil, whose driver is off (DESIGN CHOICE, log entry 238). -/
def Dev.outLanded (d : Dev) (s v : Nat) : Dev :=
  if v == d.o O.ATL_OUT s || !(d.slot s).ramp then d.so O.ATL_OUT s v
  else ((d.coilSet s 0).setSlot s { ((d.slot s).setStage 7 {}) with ramp := false }).so O.ATL_OUT s v

/-- The driver of a coil is on. -/
def Dev.coilOn (d : Dev) (c : Nat) : Bool := d.o O.ATL_COIL_STATUS c == 1 || d.o O.ATL_COIL_STATUS c == 4

/-- COIL_OVERCURRENT (R632). -/
def Dev.coilOc (e : Env) (d : Dev) (c : Nat) : Dev := if d.coilOn c then d.coilFault e c 2 8 else d

/-- COIL_OPEN (R633): a command of at least 20 mA. -/
def Dev.coilOpen (e : Env) (d : Dev) (c : Nat) : Dev :=
  match d.slotOfCoil c with
  | some s => if d.coilOn c && 20 ≤ |(d.slot s).u| then d.coilFault e c 3 9 else d
  | none => d

/-- COIL_COMPLIANCE (R633). -/
def Dev.coilCompliance (d : Dev) (c : Nat) (reached : Bool) : Dev :=
  if d.coilOn c then d.so O.ATL_COIL_STATUS c (if reached then 1 else 4) else d

/-- A VHV lockout or the thermal shutdown turns the coil drivers off (R861). -/
def Dev.coilsOff (e : Env) (d : Dev) : Dev :=
  (List.range 4).foldl (fun d s => if (d.coilOf s).isSome then d.slotOff e s 0 else d) d

/-- The duty and the sign on the PWM pair of a slot, both low while it is OFF (R613). -/
def Dev.pwmOut (d : Dev) (s : Nat) : Nat × Bool :=
  if d.o O.ATL_OUT s != 3 || d.o O.ATL_STATE s == 0 then (0, false)
  else ((clampI 0 16383 (roundHE (|(d.slot s).u| * 16384 / d.o O.ATL_PWM_FS s))).toNat, decide ((d.slot s).u < 0))

/-! ### Reference (R617 to R619, R635) -/

/-- A target handed over by Jacquard, in the order of planned times (R180, R617). One whose planned time has passed takes effect at
once, in the place of those passed before it (R618). -/
def Dev.addTarget (e : Env) (d : Dev) (s : Nat) (ang : Int) (t : Nat) : Dev :=
  if 4 ≤ s then d
  else
    let x := d.slot s
    let l := x.targets.filter (fun p => 2 * e.now < t && p.2 ≤ t) ++ [(ang, t)] ++
      x.targets.filter (fun p => t < p.2 && (2 * e.now < t || 2 * e.now < p.2))
    d.setSlot s { x with targets := l.drop (l.length - 32), hold := false }

/-- A Jacquard stop empties the queues; r holds (R619). -/
def Dev.targetsStop (d : Dev) : Dev :=
  (List.range 4).foldl (fun d s => d.setSlot s { (d.slot s) with targets := [], hold := true }) d

/-- ATL_TARGET landed (R619). -/
def Dev.atlTarget (d : Dev) (s v : Nat) : Dev := (d.so O.ATL_TARGET s v).setSlot s { (d.slot s) with hold := false }

/-- The raw reference from queued targets at a time in coarse periods, none before the first (R617). -/
def targetAt (tt : Rat) : List (Int × Nat) → Option Rat
  | [] => none
  | [(a, t)] => if (t : Rat) ≤ tt then some ((a : Rat) / 1000000) else none
  | (a, t) :: (b, u) :: rest =>
    if (u : Rat) ≤ tt then targetAt tt ((b, u) :: rest)
    else if (t : Rat) ≤ tt then some (((a : Rat) + ((b - a : Int) : Rat) * (tt - t) / ((u : Rat) - t)) / 1000000)
    else none

/-- Targets without those that no later sample needs. -/
def targetsKeep (tt : Rat) : List (Int × Nat) → List (Int × Nat)
  | (a, t) :: (b, u) :: rest => if (u : Rat) ≤ tt then targetsKeep tt ((b, u) :: rest) else (a, t) :: (b, u) :: rest
  | l => l

/-- A step of `r` towards a value by at most `m`. -/
def stepTo (r x m : Rat) : Rat := if r + m < x then r + m else if x < r - m then r - m else x

/-- The raw reference of a sample after its limits (R617 to R619, R635). -/
def Dev.rawRef (e : Env) (d : Dev) (s : Nat) : Rat :=
  let x := d.slot s
  let r := (x.stage 2).val 0
  let ts := d.loopSec s
  let lo := d.deg O.ATL_ANGLE_MIN s
  let hi := d.deg O.ATL_ANGLE_MAX s
  let tt : Rat := 2 * (e.now : Rat) + 3000000000 / (piQ * (d.o O.ATL_REF_FN s : Rat))
  let want : Rat :=
    if d.o O.ATL_STATE s == 3 then stepTo r (d.deg O.ATL_PARK_ANGLE s) ((d.o O.ATL_PARK_RATE s : Rat) / 1000 * ts)
    else if d.o O.JQ_STATE == 0 then (if x.hold then r else d.deg O.ATL_TARGET s)
    else (targetAt tt x.targets).getD r
  let r' := stepTo r want ((d.o O.ATL_REF_RATE s : Rat) / 1000 * ts)
  if r' < lo then lo else if hi < r' then hi else r'

/-! ### Injection (R640, R641) -/

/-- The sine of a phase in turns, to about 16 digits: the phase folded into a quarter turn either side of 0, and eleven terms of the
series (DESIGN CHOICE, log entry 223). -/
def sine (t : Rat) : Rat :=
  let f := t - (t.floor : Rat)
  let q := if 4 * f ≤ 1 then f else if 4 * f ≤ 3 then 1 / 2 - f else f - 1
  let y := 2 * piQ * q
  y * [10, 9, 8, 7, 6, 5, 4, 3, 2, 1].foldl (fun (a : Rat) k => 1 - y * y / ((2 * k * (2 * k + 1) : Nat) : Rat) * a) 1

/-- The test signal of a sample in mA or degrees; the spec gives no PRBS polynomial and no continuation of the chirp. -/
def Dev.injValue (e : Env) (d : Dev) (s : Nat) : Rat × Dev :=
  match (d.slot s).injAt with
  | none => (0, d)
  | some t0 =>
    let t : Rat := ((e.now - t0 : Nat) : Rat) / 1500000000
    let amp := d.of32 O.ATL_INJ_AMP s / (if d.o O.ATL_INJ_NODE s == 2 then 1000 else 1000000)
    let f0 := d.of32 O.ATL_INJ_F0 s
    let f1 := d.of32 O.ATL_INJ_F1 s
    let w := d.o O.ATL_INJ_WAVE s
    if w == 0 then (amp, d)
    else if w == 1 then (amp * sine (f0 * t), d)
    else if w == 2 then let (v, d) := d.freeVal 1; (if v == 1 then amp else -amp, d)
    else if t < 1 then (amp * sine (f0 * t + (f1 - f0) * t * t / 2), d)
    else let (v, d) := d.freeVal 32; (amp * (toS 32 v : Rat) / 2147483648, d)

/-- ATL_INJ_RUN landed (R641). -/
def Dev.injRun (e : Env) (d : Dev) (s v : Nat) : Dev :=
  let d := d.so O.ATL_INJ_RUN s v
  let x := d.slot s
  if v == 0 then d.setSlot s { x with injAt := none }
  else if x.injAt.isSome then d
  else ((d.setSlot s { x with injAt := some e.now }).traceTrig e 3).hmEval e

/-! ### A loop sample (Table 12-3) -/

/-- The word of a result is good for feedback: neither STALE, HOLD nor FAULT, and |x| below 0.97 (R616). -/
def resultGood (w : Nat) : Bool := bits w 6 2 == 0 && bits w 2 3 == 0 && 100 * (toS 24 (bits w 8 24)).natAbs < 97 * 8388608

/-- The converted coefficients of the observer: ATL_MDL_F0, ATL_MDL_ZETA, ATL_MDL_GDC, ATL_OBS_L1, ATL_OBS_L2 (R626;
log entry 239). -/
def Dev.observerCoef (d : Dev) (s : Nat) : List Rat :=
  coefQ [d.of32 O.ATL_MDL_F0 s, d.of32 O.ATL_MDL_ZETA s, d.of32 O.ATL_MDL_GDC s, d.of32 O.ATL_OBS_L1 s, d.of32 O.ATL_OBS_L2 s]

/-- The prediction of the mirror model θ″ = −ω0² θ − 2ζω0 θ′ + ω0² g_dc u over a loop period (R622). -/
def predict (c : List Rat) (ts : Rat) (x : Rat × Rat) (u : Rat) : Rat × Rat :=
  let w0 := 2 * piQ * ratAt c 0
  Config.oscillate (w0 * w0) (2 * ratAt c 1 * w0) (w0 * w0 * ratAt c 2) ts x u

/-- Feedback and observer of a sample (R615, R616, R622): the slot, whether θ_m is in range, whether feedback is usable, and the
saturations. -/
def Dev.feedback (d : Dev) (s : Nat) (x : Slot) (fresh : Bool) : Slot × Bool × Bool × Nat :=
  let cs := d.slotChans s
  let ang := cs.map (fun c => f32Val (d.bridge c).theta)
  let s1 := x.stage 1
  let s3 := x.stage 3
  let adv := (5547 : Rat) / 1000000000 * s3.val 2
  let mean := ang.foldl (· + ·) 0 / ((ang.length : Nat) : Rat)
  let thm := if fresh then qz s1.e (mean + adv) else s1.val 0
  let tol := fun (lo hi : Rat) => decide (lo - 1 ≤ thm) && decide (thm ≤ hi + 1)
  let inRange := tol (d.deg O.ATL_ANGLE_MIN s) (d.deg O.ATL_ANGLE_MAX s)
  let ok := fresh && cs.all (fun c => resultGood (d.o O.SB_RESULT c)) && inRange
  let l := d.observerCoef s
  let p := predict l (d.loopSec s) (s3.val 1, s3.val 2) x.u
  let thp := qz s3.e p.1
  let res := qz s3.e (thm - thp)
  let v1 := [mean + adv, ratAt ang 0, if ang.length == 2 then ratAt ang 1 else ratAt ang 0, adv]
  let v3 := [p.1, if ok then thp + ratAt l 3 * res else thp, if ok then p.2 + ratAt l 4 * res else p.2, thm - thp]
  let x1 := if fresh then x.setStage 1 (s1.put v1) else x
  ((x1.setStage 3 (s3.put v3)), inRange, ok, (if fresh then qSats s1.e v1 else 0) + qSats s3.e v3)

/-- The critically damped second-order filter of the reference over a loop period, θ″ = ω² (r − θ) − 2ω θ′ (R619): θ_r, θ_r′, θ_r″. -/
def refFilter (fn ts r : Rat) (x : Rat × Rat) : Rat × Rat × Rat :=
  let w := 2 * piQ * fn
  let y := Config.oscillate (w * w) (2 * w) (w * w) ts x r
  (y.1, y.2, w * w * (r - y.1) - 2 * w * y.2)

/-- The derivative of θ_m, low-passed at a corner: that of a first-order low-pass of θ_m, whose state R634 presets to θ_m (R620). dm and
the new state. -/
def dFilter (fc ts thm x : Rat) : Rat × Rat :=
  let w := 2 * piQ * fc
  let y := Config.lag w ts x thm
  (w * (thm - y), y)

/-- The reference, controller and feedforward of a sample in CLOSED or MODEL_HOLD (R617 to R620, R635): the slot, u_pid, the
command before limiting, the saturations, and the device. -/
def Dev.control (e : Env) (d : Dev) (s : Nat) (x0 : Slot) : Slot × Rat × Rat × Nat × Dev :=
  let closed := d.o O.ATL_STATE s == 2
  let ts := d.loopSec s
  let (inj, d) := d.injValue e s
  let node := d.o O.ATL_INJ_NODE s
  let x : Slot := { x0 with targets := targetsKeep (2 * (e.now : Rat)) x0.targets }
  let s2 := x.stage 2
  let r := d.rawRef e s
  let rIn := r + (if node == 0 then inj else 0)
  let f := refFilter (d.o O.ATL_REF_FN s) ts rIn (s2.val 1, s2.val 2)
  let v2 := [r, f.1, f.2.1, f.2.2]
  let th := qz s2.e f.1
  let th1 := qz s2.e f.2.1
  let th2 := qz s2.e f.2.2
  let s4 := x.stage 4
  let k := coefQ [d.of32 O.ATL_KP s, d.of32 O.ATL_KI s, d.of32 O.ATL_KD s]
  let thm := (x.stage 1).val 0
  let er := qz s4.e (th - thm + (if node == 1 then inj else 0))
  let dm := dFilter (d.o O.ATL_D_FC s) ts thm (s4.val 4)
  let wind := (0 < x.limited && decide (0 < er)) || (x.limited < 0 && decide (er < 0))
  let iNew := if !closed || wind then s4.val 2 else s4.val 2 + ratAt k 1 * ts * er
  let v4 := if closed then [th - thm + (if node == 1 then inj else 0), ratAt k 0 * er, iNew, -(ratAt k 2 * dm.1), dm.2]
    else [s4.val 0, 0, s4.val 2, 0, s4.val 4]
  let upid := (v4.drop 1).take 3 |>.foldl (fun (a : Rat) v => a + qz s4.e v) 0
  let s5 := x.stage 5
  let c := d.biquads s
  let s6 := x.stage 6
  let ff := d.feedforward s th th1 th2
  let b1 := biquadStep c 0 (if closed then upid else upid + qz s6.e ff) (s5.val 0) (s5.val 1)
  let b2 := biquadStep c 5 b1.1 (s5.val 2) (s5.val 3)
  let v5 := [b1.2.1, b1.2.2, b2.2.1, b2.2.2, b2.1]
  let u := qz s5.e b2.1 + (if d.ob O.ATL_FF_EN s && closed then qz s6.e ff else 0) + (if node == 2 then inj else 0)
  let v6 := [ff, u]
  let x := (((x.setStage 2 (s2.put v2)).setStage 4 (s4.put v4)).setStage 5 (s5.put v5)).setStage 6 (s6.put v6)
  (x, upid, qz s6.e u, qSats s2.e v2 + qSats s4.e v4 + qSats s5.e v5 + qSats s6.e v6, d)

/-- The limiters (R621): the slot with its new command, whether one acted, and the saturations. -/
def Dev.limit (d : Dev) (s : Nat) (x : Slot) (u : Rat) : Slot × Bool × Nat :=
  let m : Rat := d.o O.ATL_I_MAX s
  let c := if u < -m then -m else if m < u then m else u
  let y := stepTo x.u c ((d.o O.ATL_I_SLEW s : Rat) * 1000 * d.loopSec s)
  let acted := decide (y ≠ u)
  ({ (x.setStage 7 ((x.stage 7).put [y])) with limited := if !acted then 0 else if y < u then 1 else -1 }, acted, qSat (x.stage 7).e y)

/-- The tests of Table 12-5 in order: cause and cell of the first that declares. -/
def Dev.superviseTest (d : Dev) (s : Nat) (x : Slot) (inRange missing : Bool) : Option (Nat × Nat) :=
  let cs := d.slotChans s
  let frozen := fun (f : (Int × Int × Rat) → Int) =>
    x.hist.length == 16 && x.hist.all (fun h => f h == ((x.hist.head?).map f).getD 0)
  let motion := x.hist.foldl (fun (a : Rat) h => a + h.2.2) 0
  match cs.find? (fun c => (d.bridge c).fault != 0) with
  | some c => some (1, (d.bridge c).fault - 1)
  | none =>
    if !inRange then some (5, 4)
    else if 3 ≤ x.badRun then some (1, 11)
    else if (frozen (fun h => h.1) || (cs.length == 2 && frozen (fun h => h.2.1))) && (d.o O.ATL_FREEZE_MOTION s : Rat) < motion * 1000000 then
      some (2, 5)
    else if 4 ≤ x.residRun && x.injAt.isNone then some (3, 6)
    else if 3 ≤ x.pairRun then some (4, 7)
    else if missing then some (7, 11) else none

/-- The runs of Table 12-5 after a sample: `th0` is θ̂ before it. -/
def Dev.runs (d : Dev) (s : Nat) (x : Slot) (th0 : Rat) (usable : Bool) : Slot :=
  let cs := d.slotChans s
  let raw := fun i => ((cs[i]?).map (fun c => (d.bridge c).rawX)).getD 0
  let s3 := x.stage 3
  let pair := cs.length == 2 && (d.o O.ATL_PAIR_TOL s : Rat) < |(x.stage 1).val 1 - (x.stage 1).val 2| * 1000000
  { x with badRun := if usable then 0 else x.badRun + 1,
           residRun := if (d.o O.ATL_RESID_MAX s : Rat) < |s3.val 3| * 1000000 then x.residRun + 1 else 0,
           pairRun := if pair then x.pairRun + 1 else 0,
           hist := ((raw 0, raw 1, |s3.val 0 - th0|) :: x.hist).take 16 }

/-- The report of a sample to Jacquard and Hawkmoth, with its stamp (R628, R629). Hawkmoth keeps the samples of the longest window,
20 ms (R279). -/
def Dev.report (e : Env) (d : Dev) (s time : Nat) (usable : Bool) : Dev :=
  let x := d.slot s
  let closed := d.o O.ATL_STATE s == 2
  let ang := microDeg (if usable then (x.stage 1).val 0 else (x.stage 3).val 1)
  let d := d.so O.ATL_ANGLE_NOW s (ofS 32 ang)
  let d := if closed && !usable then d.inc O.ATL_EST s else d
  let d := d.setSlot s { (d.slot s) with est := closed && !usable }
  let h := d.hm
  ({ d with hm := { h with report := tset (0, false) h.report s (time, closed && x.injAt.isNone),
                           samples := (time, s, ang) :: h.samples.filter (fun p => e.now ≤ p.1 + 30000000) } }).hmEval e

/-- ATL_CLEAN_MS after the sample of a time (R636). -/
def Dev.cleanCount (d : Dev) (s time : Nat) (good : Bool) : Dev :=
  let st := d.o O.ATL_STATE s
  let x := d.slot s
  if st != 2 && st != 3 then d
  else if !good then (d.setSlot s { x with cleanAt := none }).so O.ATL_CLEAN_MS s 0
  else
    match x.cleanAt with
    | none => (d.setSlot s { x with cleanAt := some time }).so O.ATL_CLEAN_MS s 0
    | some t => d.so O.ATL_CLEAN_MS s (satN 65535 ((time - t) / 1500000))

/-- The command of a sample in the mode in force, and the trace; then every stage is rescaled (R625). -/
def Dev.drive (e : Env) (d : Dev) (s : Nat) (current : Int) : Dev :=
  let st := d.o O.ATL_STATE s
  let x := d.slot s
  if st == 0 && !x.ramp then (d.traceSample s (x.nodes 0 current)).setSlot s x.rescale
  else
    let c : Slot × Rat × Rat × Nat × Dev :=
      if st == 2 || st == 3 then d.control e s x
      else if st == 1 then
        let (inj, d) := d.injValue e s
        (x, 0, (d.os32 O.ATL_MAN_I s : Rat) / 1000 + (if d.o O.ATL_INJ_NODE s == 2 then inj else 0), 0, d)
      else (x, 0, 0, 0, d)
    let (y, acted, sat) := d.limit s c.1 c.2.2.1
    let d := c.2.2.2.2.setSlot s y.rescale
    let d := if acted then d.inc O.ATL_LIMIT s else d
    let sats := c.2.2.2.1 + sat
    let d := if sats == 0 then d else d.inc O.ATL_SAT s sats
    d.traceSample s (y.nodes c.2.1 current)

/-- LOOP_SAMPLE (R610, Table 12-3): every ATL_DIV-th result, or a sample without one once three loop periods have passed
(Table 12-5); `current` is the measured coil current in µA. A declaration is logged with the sample's stamp (R57); the sample is
reported 400 ns after it (R37, R629). -/
def Dev.loopSample (e : Env) (d : Dev) (s : Nat) (current : Int) : Dev :=
  let x := d.slot s
  let fresh := d.o O.ATL_DIV s ≤ x.results
  let missing := (d.o O.ATL_STATE s == 2 || d.o O.ATL_STATE s == 3) && x.sampleAt - 1 + 3 * d.loopPeriod s ≤ e.now
  if e.slots ≤ s || !(fresh || missing) then d
  else
    let th0 := (x.stage 3).val 1
    let (x, inRange, usable, sats) := d.feedback s x fresh
    let x := d.runs s { x with results := if fresh then 0 else x.results, sampleAt := e.now + 1, usable := usable } th0 usable
    let d := (d.setSlot s x).sos
      [(O.ATL_RESID, s, ofS 32 (microDeg ((x.stage 3).val 3))), (O.ATL_I_NOW, s, ofS 32 current)]
    let d := if sats == 0 then d else d.inc O.ATL_SAT s sats
    let st := d.o O.ATL_STATE s
    let decl := if (st == 2 || st == 3) && d.o O.ATL_OUT s != 0 then d.superviseTest s x inRange missing else none
    let d := match decl with
      | some c => if st == 2 then d.holdLog e s c.2 else d
      | none => d
    let chansOk := (d.slotChans s).all (fun c => d.o O.SB_STATUS c == 1)
    d.setSlot s { x with due := some { time := e.now, usable := usable, current := current, decl := decl,
                                       clean := usable && decl.isNone && chansOk } }

/-- The report of a slot's sample, 400 ns after its result has left the chain, with the hold that it declares and the command
computed from it (Table 12-3). -/
def Dev.sampleReport (e : Env) (d : Dev) (s : Nat) (p : Sample) : Dev :=
  let e := { e with now := p.time + 600 }
  let d := d.setSlot s { (d.slot s) with due := none }
  let d := match p.decl with
    | some c => if d.o O.ATL_STATE s == 2 then d.slotHold e s c.1 else d
    | none => d
  (((d.cleanCount s p.time p.clean).report e s p.time p.usable).drive { e with now := p.time } s p.current)

/-- The sample of a slot is reported once its 400 ns have passed. -/
def Dev.sampleDue (e : Env) (d : Dev) (s : Nat) : Dev :=
  match (d.slot s).due with
  | some p => if p.time + 600 ≤ e.now then d.sampleReport e s p else d
  | none => d

/-- The samples that fall due are reported. -/
def Dev.sampleStep (e : Env) (d : Dev) : Dev := (List.range 4).foldl (fun d s => d.sampleDue e s) d

end Sys2Proof.Machine
end

