-- ==== Sys2Proof/Machine/Tapestry.lean ====
section
/-! DEFINITION. Tapestry (chapter 13): the pool, frame assembly, layers and pixels, rasters, scan-out and packets. -/

namespace Sys2Proof.Machine

/-! ### The pool (R642 to R647, R683) -/

/-- The size of the pool in bytes. -/
def Dev.poolBytes (d : Dev) : Nat := 4096 * d.o O.TAP_POOL_HANDLES

/-- The GDDR7 address of a byte of a buffer (R642). -/
def Dev.bufAddr (d : Dev) (h off : Nat) : Nat := d.o O.TAP_POOL_BASE + 4096 * h + off

/-- `n` bytes from a byte of a buffer on lie within the pool. -/
def Dev.inPool (d : Dev) (h off n : Nat) : Bool := 4096 * h + off + n ≤ d.poolBytes

/-- A TAP_HOST_WRITE is accepted (R646, Table 13-1, R683). -/
def Dev.hostWriteOk (d : Dev) (bs : Bytes) : Bool :=
  let h := fieldAt bs 0 4
  let off := fieldAt bs 4 4
  let n := bs.length - 16
  20 ≤ bs.length && n % 4 == 0 && n ≤ 65536 && off % 4 == 0 && fieldAt bs 8 8 == 0 && h < d.o O.TAP_POOL_HANDLES && d.inPool h off n

/-- TAP_HOST_WRITE (R645). -/
def Dev.hostWrite (e : Env) (d : Dev) (bs : Bytes) : Dev := d.memWr e 11 (d.bufAddr (fieldAt bs 0 4) (fieldAt bs 4 4)) (bs.drop 16)

/-- A TAP_FILL is in range (R646, R647). -/
def Dev.fillOk (d : Dev) (v : Nat) : Bool := v / 2 ^ 32 < d.o O.TAP_POOL_HANDLES && d.inPool (v / 2 ^ 32) 256 (v % 2 ^ 32)

/-- TAP_FILL written (R647). -/
def Dev.fillStart (d : Dev) (v : Nat) : Dev :=
  { (d.so O.TAP_FILL_BUSY 0 1) with tap := { d.tap with fill := some (v / 2 ^ 32, v % 2 ^ 32) } }

/-- TAP_FILL_DONE (R647): the bytes from 256 on are zero, the tag is unchanged. -/
def Dev.tapFillDone (d : Dev) : Dev :=
  match d.tap.fill with
  | some (h, n) => { ((d.memZero (d.bufAddr h 256) n).so O.TAP_FILL_BUSY 0 0) with tap := { d.tap with fill := none } }
  | none => d

/-- A TAP_ROW_MAP is accepted: rows 0 to 511 or 0xFFFF, and no row twice among the channels present (R648). -/
def rowMapOk (channels : Nat) (bs : Bytes) : Bool :=
  let rows := ((List.range channels).map (fun n => fieldAt bs (2 * n) 2)).filter (· != 0xFFFF)
  rows.all (· < 512) && (List.range 512).all (fun r => (rows.filter (· == r)).length ≤ 1)

/-! ### A raster's configuration -/

/-- An object as in force at the boundary of a raster's frame (R666). -/
def Raster.o (r : Raster) (idx : Nat) (el : Nat := 0) : Nat := tget (dflt idx el) r.cfg (okey idx el)

/-- The row of a channel in a raster, 0xFFFF for none (R648). -/
def Raster.row (r : Raster) (ch : Nat) : Nat :=
  let b := fun i => (tget (domDflt O.TAP_ROW_MAP i) r.rows (dkey O.TAP_ROW_MAP 0 i)).toNat
  b (2 * ch) + 256 * b (2 * ch + 1)

/-- The buffer of a target for a raster. -/
def Raster.target (r : Raster) (t : Nat) : Nat := r.o (if r.num % 2 == 0 then O.TAP_ASM_BUF_A else O.TAP_ASM_BUF_B) t

/-- A target assembles for a raster. -/
def Raster.assembles (r : Raster) (t : Nat) : Bool := r.o O.TAP_ASM_EN t != 0 && !bit r.badTargets t

/-- A raster replaced in the list. -/
def Dev.setRaster (d : Dev) (r : Raster) : Dev :=
  { d with tap := { d.tap with rasters := d.tap.rasters.map (fun x => if x.num == r.num then r else x) } }

/-! ### Assembly (R649 to R655) -/

/-- An echo slot of Table 13-2: class of the record in force. -/
def slotWord (x : Echo) (cls : Nat) : Nat := (x.range <<< 16) + (x.inten <<< 4) + (cls <<< 1) + b2n x.lowsnr

/-- A cell of Table 13-2. -/
def cellWord (num : Nat) (slots : List Nat) : Nat :=
  ((num % 65536) <<< 112) + (slots.length <<< 110) + ((slots[2]?).getD 0 <<< 72) + ((slots[1]?).getD 0 <<< 36) + (slots[0]?).getD 0

/-- One channel-window placed into one target of a raster (R649, R650, R655). -/
def Dev.placeTarget (e : Env) (d : Dev) (o : Obs) (fin : List (Nat × Nat)) (col : Nat) (result : Bool) (num t : Nat) : Dev :=
  match d.tap.rasters.find? (fun r => r.num == num) with
  | none => d
  | some r =>
    let acc := r.o O.TAP_ASM_ACC t
    let echoes := (o.echoes.zip fin).filter (fun p => bit (r.o O.TAP_ASM_CLASSES t) p.2.1)
    if r.o O.TAP_ASM_EN t == 0 || (acc == 1 && result) || (acc == 2 && !result) || echoes == [] then d
    else
      let c0 := r.o O.TAP_ASM_COL0 t
      let w := r.o O.TAP_ASM_WIDTH t
      let row := r.row o.chan
      if col < c0 || c0 + w ≤ col || row == 0xFFFF then
        (d.inc O.TAP_ASM_OUTSIDE 0 echoes.length).setRaster { r with outside := r.outside + echoes.length }
      else if bit r.badTargets t then d.inc O.TAP_ASM_OUTSIDE 0 echoes.length
      else
        let slots := (echoes.take 3).map (fun p => slotWord p.1 p.2.1)
        let d := d.memWr e 2 (d.bufAddr (r.target t) (256 + 16 * (row * w + (col - c0)))) (leBytes 16 (cellWord r.num slots))
        d.setRaster { r with placed := r.placed + slots.length }

/-- RECORD_PLACEMENT (R649): a classified observation placed for the raster of its frame. -/
def Dev.placeObs (e : Env) (d : Dev) (o : Obs) (fin : List (Nat × Nat)) : Dev :=
  match d.tap.rasters.find? (fun r => r.frame == o.frame), d.ex.jobs.find? (fun j => j.serial == o.hdr) with
  | some r, some j =>
    (List.range 4).foldl (fun d t => d.placeTarget e o fin (bits j.word 68 12) j.result r.num t) d
  | _, _ => d

/-- The sweep of one buffer for a raster (R653): cells whose age exceeds 16,384 are zeroed. -/
def Dev.tapSweep (e : Env) (d : Dev) (num h w : Nat) : Dev :=
  let n := 512 * w
  let k := num % 1024
  let lo := n * k / 1024
  let hi := n * (k + 1) / 1024
  let d := (d.memRd e 2 (d.bufAddr h (256 + 16 * lo)) (16 * (hi - lo))).2
  (List.range (hi - lo)).foldl (fun d i =>
    let a := d.bufAddr h (256 + 16 * (lo + i))
    let tag := (d.gByte (a + 14)).toNat + 256 * (d.gByte (a + 15)).toNat
    if 16384 < (num + 65536 - tag) % 65536 then d.memWr e 2 a (zeros 16) else d) d

/-! ### Flips (R667 to R673) -/

/-- A raster number is newer than another (R672). -/
def rasterNewer (a b : Nat) : Bool := (a + 2 ^ 32 - b) % 2 ^ 32 - 1 < 2 ^ 31 - 1 && a != b

/-- A raster retires; TAP_RETIRED_FRAME keeps the newest (R671). -/
def Dev.retire (d : Dev) (num : Nat) : Dev :=
  let d := if rasterNewer num (d.o O.TAP_RETIRED_FRAME) then d.so O.TAP_RETIRED_FRAME 0 num else d
  { d with tap := { d.tap with rasters := d.tap.rasters.filter (fun r => r.num != num) } }

/-- A raster flips; an older one whose scan-out has not started is dropped (R670). -/
def Dev.flipRaster (e : Env) (d : Dev) (r : Raster) (partly : Bool) : Dev :=
  let gone := (d.tap.rasters.filter (fun x => x.stage == 2)).map Raster.num
  let d := gone.foldl (fun d n =>
    let d := (d.retire n).inc O.TAP_DROPPED
    { d with tap := { d.tap with dropped := satN 65535 (d.tap.dropped + 1) } }) d
  (d.so O.TAP_LAST_FLIP_TIME 0 e.now).setRaster { r with stage := 2, flip := e.now, partly := partly }

/-- The oldest raster whose frame has ended flips once its last record is placed. -/
def Dev.flipNext (e : Env) (d : Dev) : Dev :=
  match d.tap.rasters.find? (fun r => r.stage == 1) with
  | some r => if d.framePending r.frame then d else d.flipRaster e r false
  | none => d

/-- RASTER_FLIP (R667): rasters whose frame has ended and whose last record is placed, oldest first. -/
def Dev.tryFlip (e : Env) (d : Dev) : Dev := (List.range d.tap.rasters.length).foldl (fun d _ => d.flipNext e) d

/-- The frame boundary's share for the raster of the frame that ends (R667). -/
def Dev.tapFrameEnd (e : Env) (d : Dev) : Dev :=
  let d := { d with tap := { d.tap with rasters := d.tap.rasters.map (fun (r : Raster) => if r.stage == 0 then { r with stage := 1 } else r) } }
  d.tryFlip e

/-- A raster whose scan-out has not ended at the boundary that begins the frame of the raster two later is LATE (R673). -/
def Dev.tapLate (d : Dev) (next : Nat) : Dev :=
  d.tap.rasters.foldl (fun (d : Dev) (r : Raster) =>
    if r.stage ≤ 3 && !r.late && (r.num + 2) % 2 ^ 32 == next then (d.inc O.TAP_LATE).setRaster { r with late := true } else d) d

/-- The new frame's raster (R665, R655, R653). -/
def Dev.tapFrameBegin (e : Env) (d : Dev) : Dev :=
  if d.o O.TAP_STATE != 1 then d
  else
    let num := d.o O.TAP_FRAME
    let d := d.tapLate num
    let r : Raster := { num := num, frame := d.o O.RL_FRAME, jqFrame := d.o O.JQ_FRAME_NUMBER, start := e.now,
                        cfg := d.objs.filter (fun p => 0x5002 ≤ p.1 / 4096 && p.1 / 4096 ≤ 0x5029),
                        rows := d.doms.filter (fun p => p.1 / 0x2000000 == okey O.TAP_ROW_MAP 0) }
    let d := d.so O.TAP_FRAME 0 ((num + 1) % 2 ^ 32)
    let bad := (List.range 4).filter (fun t =>
      r.o O.TAP_ASM_EN t != 0 && !d.inPool (r.target t) 0 (256 + 16 * r.o O.TAP_ASM_WIDTH t * 512))
    let d := bad.foldl (fun d t => (d.inc O.TAP_CFG_ERR).log e 0x0B04 (locG 11 (8 + t) 3) 0) d
    let r := { r with badTargets := bad.foldl (fun m t => setBit m t true) 0 }
    let d := { d with tap := { d.tap with rasters := d.tap.rasters ++ [r] } }
    (List.range 4).foldl (fun d t =>
      if r.o O.TAP_ASM_EN t == 0 then d
      else [O.TAP_ASM_BUF_A, O.TAP_ASM_BUF_B].foldl (fun d b =>
        let w := r.o O.TAP_ASM_WIDTH t
        if d.inPool (r.o b t) 0 (256 + 16 * w * 512) then d.tapSweep e num (r.o b t) w else d) d) d

/-- Jacquard reaches STOPPED (R668). -/
def Dev.tapStopped (e : Env) (d : Dev) : Dev :=
  let d := match d.tap.rasters.find? (fun r => r.stage == 1) with
    | some r => d.flipRaster e r false
    | none => d
  match d.tap.rasters.find? (fun r => r.stage == 0) with
  | some r => d.flipRaster e r true
  | none => d

/-- TAP_RUN landed (R665). -/
def Dev.tapRun (d : Dev) (v : Nat) : Dev := (d.so O.TAP_RUN 0 v).so O.TAP_STATE 0 v

/-! ### Layers and pixels (R656 to R664) -/

/-- The no-return pixel (R657). -/
def noReturn (fmt : Nat) : Nat := if fmt == 0 then 0xFFFF else 0xFFFF0000

/-- RANGE16 (Table 13-3). -/
def range16 (shift range : Nat) : Nat := min (range >>> shift) 0xFFFE

/-- The bytes of a pixel. -/
def pixBytes (fmt : Nat) : Nat := if fmt == 0 then 2 else 4

/-- The buffer of an ASM or HOST layer. -/
def Raster.layerBuf (r : Raster) (l : Nat) : Option Nat :=
  if r.o O.TAP_LAYER_SRC l == 1 then some (r.target (r.o O.TAP_LAYER_ASM l))
  else if r.o O.TAP_LAYER_SRC l == 3 then some (r.o O.TAP_LAYER_BUF l) else none

/-- A layer that is not OFF takes part (R660). -/
def Dev.layerOk (d : Dev) (r : Raster) (l : Nat) : Bool :=
  let src := r.o O.TAP_LAYER_SRC l
  let h := bits (r.o O.TAP_LAYER_SIZE l) 0 10
  let y := bits (r.o O.TAP_LAYER_SRCXY l) 0 12
  if src == 1 then r.assembles (r.o O.TAP_LAYER_ASM l)
  else if src == 3 then
    d.inPool (r.o O.TAP_LAYER_BUF l) 256 (pixBytes (r.o O.TAP_FMT) * (r.o O.TAP_LAYER_STRIDE l * (y + h)))
  else src == 2

/-- The rank of a layer (R661): the greater one ranks above. -/
def Raster.rank (r : Raster) (l : Nat) : Nat := 8 * r.o O.TAP_LAYER_PRIO l + l

/-- A layer put in order of rank, the highest first. -/
def Raster.rankIns (r : Raster) (l : Nat) : List Nat → List Nat
  | [] => [l]
  | x :: xs => if r.rank x < r.rank l then l :: x :: xs else x :: r.rankIns l xs

/-- The layers that take part, the highest-ranked first. -/
def Raster.ranked (r : Raster) : List Nat := ((List.range 8).filter (bit r.layers)).foldl (fun a l => r.rankIns l a) []

/-- A layer covers a pixel of the raster. -/
def Raster.covers (r : Raster) (l x line : Nat) : Bool :=
  let dx := bits (r.o O.TAP_LAYER_DST l) 16 12
  let dy := bits (r.o O.TAP_LAYER_DST l) 0 9
  let w := bits (r.o O.TAP_LAYER_SIZE l) 16 13
  let h := bits (r.o O.TAP_LAYER_SIZE l) 0 10
  dx ≤ x && x < dx + w && dy ≤ line && line < dy + h

/-- A layer stops fetches beneath it (R664). -/
def Raster.stops (r : Raster) (l : Nat) : Bool := r.o O.TAP_LAYER_MODE l == 0 || r.o O.TAP_LAYER_SRC l == 2

/-- The layers fetched for a pixel, the highest-ranked first (R664). -/
def Raster.fetchGo (r : Raster) (x line : Nat) : List Nat → List Nat
  | [] => []
  | l :: ls => if !r.covers l x line then r.fetchGo x line ls else if r.stops l then [l] else l :: r.fetchGo x line ls

/-- The layers fetched for a pixel. -/
def Raster.fetchAt (r : Raster) (x line : Nat) : List Nat := r.fetchGo x line r.ranked

/-- The source coordinates of a pixel in a layer. -/
def Raster.srcXY (r : Raster) (l x line : Nat) : Nat × Nat :=
  let dst := r.o O.TAP_LAYER_DST l
  let s := r.o O.TAP_LAYER_SRCXY l
  (bits s 16 12 + (x - bits dst 16 12), bits s 0 12 + (line - bits dst 0 9))

/-- The GDDR7 bytes of a pixel's source, none outside the source (R658, R659). -/
def Dev.srcAddr (d : Dev) (r : Raster) (l x line : Nat) : Option (Nat × Nat) :=
  let p := r.srcXY l x line
  let src := r.o O.TAP_LAYER_SRC l
  if src == 1 then
    let t := r.o O.TAP_LAYER_ASM l
    let w := r.o O.TAP_ASM_WIDTH t
    if p.1 < w && p.2 < 512 then some (d.bufAddr (r.target t) (256 + 16 * (p.2 * w + p.1)), 16) else none
  else if src == 2 then
    (if p.1 < d.rlCols && p.2 < d.rlRows then some (mapAddr r.frame (p.1 * d.rlRows + p.2), 2) else none)
  else
    let st := r.o O.TAP_LAYER_STRIDE l
    let n := pixBytes (r.o O.TAP_FMT)
    if p.1 < st then some (d.bufAddr (r.o O.TAP_LAYER_BUF l) (256 + n * (p.2 * st + p.1)), n) else none

/-- The echo slot that a layer chooses of a cell's NECHO echoes (R658). -/
def chooseSlot (sel necho cell : Nat) : Option Nat :=
  let inten := fun i => bits cell (36 * i + 4) 12
  let pick := if sel < 3 then sel else if sel == 3 then necho - 1 else
    (List.range necho).foldl (fun b i => if inten b < inten i then i else b) 0
  if pick < necho then some (bits cell (36 * pick) 36) else none

/-- The pixel that the bytes of a source give (R656, R658). -/
def Raster.pixelOf (r : Raster) (l v : Nat) : Nat :=
  let fmt := r.o O.TAP_FMT
  let src := r.o O.TAP_LAYER_SRC l
  if src == 2 then (if fmt == 0 then v else 0xFFFF0000 + v)
  else if src == 3 then v
  else if bits v 112 16 != r.num % 65536 then noReturn fmt
  else
    match chooseSlot (r.o O.TAP_LAYER_SEL l) (bits v 110 2) v with
    | none => noReturn fmt
    | some s =>
      let g := range16 (r.o O.TAP_RANGE_SHIFT) (bits s 16 20)
      if fmt == 0 then g else (g <<< 16) + bits s 0 16

/-- A pixel of a KEYED layer is transparent (R662). -/
def Raster.transparent (r : Raster) (l p : Nat) : Bool :=
  !r.stops l && (if r.o O.TAP_FMT == 0 then p == 0xFFFF else p / 65536 == 0xFFFF)

/-- A raster pixel from the layers fetched for it, and whether poisoned data touch it (R663, R679). -/
def Dev.rasterPixel (d : Dev) (r : Raster) (x line : Nat) : List Nat → Nat × Bool
  | [] => (noReturn (r.o O.TAP_FMT), false)
  | l :: ls =>
    match d.srcAddr r l x line with
    | none =>
      if r.transparent l (noReturn (r.o O.TAP_FMT)) then d.rasterPixel r x line ls else (noReturn (r.o O.TAP_FMT), false)
    | some (a, n) =>
      if (blocksOf a n).any d.blkPoison then (noReturn (r.o O.TAP_FMT), true)
      else
        let p := r.pixelOf l (leNat ((List.range n).map (fun i => d.gByte (a + i))))
        if r.transparent l p then d.rasterPixel r x line ls else (p, false)

/-- Adjacent address ranges joined. -/
def joinRanges : List (Nat × Nat) → List (Nat × Nat)
  | [] => []
  | (a, n) :: rest =>
    match joinRanges rest with
    | (b, m) :: l => if a + n == b then (a, n + m) :: l else (a, n) :: (b, m) :: l
    | [] => [(a, n)]

/-- The address ranges that a line fetches from a layer. -/
def Dev.lineRanges (d : Dev) (r : Raster) (l line : Nat) : List (Nat × Nat) :=
  joinRanges ((List.range (r.o O.TAP_WIDTH)).filterMap (fun x =>
    if (r.fetchAt x line).contains l then d.srcAddr r l x line else none))

/-- A layer is fetched on a line. -/
def Dev.fetched (d : Dev) (r : Raster) (l line : Nat) : Bool := d.lineRanges r l line != []

/-! ### Scan-out and packets (R669, R674 to R681) -/

/-- A tag reading of a layer (R674): poisoned data leave it open. -/
def Dev.readTag (e : Env) (d : Dev) (r : Raster) (l : Nat) : Nat × Dev :=
  match (if bit r.layers l then r.layerBuf l else none) with
  | none => (0, d)
  | some h =>
    let x := d.memRd e 3 (d.bufAddr h 0) 4
    match x.1 with
    | some bs => (leNat bs, x.2)
    | none => x.2.freeVal 32

/-- The line header (Table 13-4). -/
def lineHdr (r : Raster) (line width kind : Nat) (under err : Bool) (layers time : Nat) : Bytes :=
  leBytes 16 ((r.num <<< 96) + (line <<< 80) + (width <<< 64) + (kind <<< 62) + (r.o O.TAP_FMT <<< 60) + (b2n under <<< 59) +
    (b2n err <<< 58) + (layers <<< 50) + time % 2 ^ 48)

/-- The frame header body (Table 13-5). -/
def headBody (r : Raster) : Bytes :=
  leBytes 8 r.flip ++ leBytes 8 r.start ++ leBytes 4 r.jqFrame ++ leBytes 2 (r.o O.TAP_WIDTH) ++ leBytes 2 (r.o O.TAP_HEIGHT) ++
    leBytes 1 (r.o O.TAP_FMT) ++ leBytes 1 (r.o O.TAP_RANGE_SHIFT) ++ leBytes 1 r.layers ++ zeros 5 ++ r.tagStart.flatMap (leBytes 4)

/-- The layers whose tag readings differ (R675). -/
def Raster.torn (r : Raster) : Nat :=
  (List.range 8).foldl (fun m l => if (r.tagStart[l]?).getD 0 != (r.tagEnd[l]?).getD 0 then setBit m l true else m) 0

/-- The trailer body (Table 13-6). -/
def trailBody (r : Raster) (time dropped : Nat) : Bytes :=
  let w := (r.torn <<< 8) + (b2n r.err <<< 4) + (b2n r.partly <<< 3) + (b2n (r.under != 0) <<< 2) + (b2n r.late <<< 1) + b2n (r.torn != 0)
  leBytes 8 time ++ leBytes 4 w ++ leBytes 2 r.under ++ leBytes 2 dropped ++ leBytes 4 r.placed ++ leBytes 4 r.outside ++ zeros 8 ++
    r.tagEnd.flatMap (leBytes 4)

/-- A layer left out of a raster counted and logged (R660). -/
def Dev.layerErr (e : Env) (d : Dev) (l : Nat) : Dev := (d.inc O.TAP_CFG_ERR).log e 0x0B01 (locG 11 l 0) 0

/-- SCAN_OUT_START (R669, R674): the flipped raster with this number, once no scan-out is under way. -/
def Dev.scanStart (e : Env) (d : Dev) (num : Nat) : Dev :=
  match d.tap.rasters.find? (fun r => r.stage == 2) with
  | none => d
  | some r =>
    if r.num != num || d.tap.rasters.any (fun x => x.stage == 3) then d
    else
      let on := (List.range 8).filter (fun l => r.o O.TAP_LAYER_SRC l != 0)
      let ok := on.filter (d.layerOk r)
      let d := (on.filter (fun l => !ok.contains l)).foldl (fun d l => d.layerErr e l) d
      let r := { r with stage := 3, scan := e.now, layers := ok.foldl (fun m l => setBit m l true) 0 }
      let t := (List.range 8).foldl (fun (x : List Nat × Dev) l =>
        let y := x.2.readTag e r l
        (x.1 ++ [y.1], y.2)) ([], d)
      let r := { r with tagStart := t.1, tagEnd := t.1 }
      (t.2.setRaster r).enq { ty := 3, data := lineHdr r 0xFFFF 0 0 false false 0 e.now ++ headBody r, tag := num }

/-- The tags read again after the last line that fetches from a buffer (R674). -/
def Dev.tagsAfter (e : Env) (d : Dev) (r : Raster) (line : Nat) : Raster × Dev :=
  let later := fun h => (List.range (r.o O.TAP_HEIGHT - (line + 1))).any (fun i =>
    (List.range 8).any (fun l => r.layerBuf l == some h && d.fetched r l (line + 1 + i)))
  (List.range 8).foldl (fun (x : Raster × Dev) l =>
    match (if d.fetched r l line then r.layerBuf l else none) with
    | some h =>
      if later h then x
      else
        -- Every layer of this buffer takes the reading.
        let y := x.2.readTag e r l
        ({ x.1 with tagEnd := (List.range 8).map (fun k =>
            if r.layerBuf k == some h && bit r.layers k then y.1 else (x.1.tagEnd[k]?).getD 0) }, y.2)
    | none => x) (r, d)

/-- The trailer formed after the last line (R680). -/
def Dev.trailer (e : Env) (d : Dev) (r : Raster) : Dev :=
  if r.line < r.o O.TAP_HEIGHT then d
  else
    let d := if r.torn != 0 then d.inc O.TAP_TORN else d
    let d := (d.setRaster { r with stage := 4 }).enq
      { ty := 3, data := lineHdr r 0xFFFF 0 2 false false 0 e.now ++ trailBody r e.now d.tap.dropped, kind := 5, tag := r.num }
    { d with tap := { d.tap with dropped := 0 } }

/-- A line leaves (R676 to R681): `bad` lists the pixels that a line-buffer error touches, `unfetched` those not fetched. -/
def Dev.lineOut (e : Env) (d : Dev) (r : Raster) (bad unfetched : List Nat) (under : Bool) : Dev :=
  let w := r.o O.TAP_WIDTH
  let fmt := r.o O.TAP_FMT
  let px := (List.range w).map (fun x =>
    if unfetched.contains x then (noReturn fmt, false)
    else
      let p := d.rasterPixel r x r.line (r.fetchAt x r.line)
      if bad.contains x then (noReturn fmt, p.2) else p)
  let poison := px.any Prod.snd
  let hurt := bad.any (· < w)
  let ls := (List.range 8).filter (fun l => d.fetched r l r.line)
  let d' := ls.foldl (fun d l => (d.lineRanges r l r.line).foldl (fun d p => (d.memRd e 3 p.1 p.2).2) d) d
  let d' := if poison || hurt then d'.inc O.TAP_LINE_ERR else d'
  let d' := if hurt then d'.log e 0x0B02 (locCode 0 11 63 63 (r.line % 4) 1) 0 else d'
  let d' := if poison then d'.log e 0x0B03 (locCode 0 11 63 63 (r.line % 4) 2) 0 else d'
  let d' := if under then d'.inc O.TAP_UNDERRUNS else d'
  let slot := if r.o O.TAP_LINE_NS == 0 then e.now else r.scan + r.line * r.o O.TAP_LINE_NS * 3 / 2
  let body := px.flatMap (fun p => leBytes (pixBytes fmt) p.1)
  let data := lineHdr r r.line w 1 under (poison || hurt) (ls.foldl (fun m l => setBit m l true) 0) slot ++ body ++
    zeros ((4 - body.length % 4) % 4)
  let x := d'.tagsAfter e r r.line
  let r := { x.1 with line := r.line + 1, err := r.err || poison || hurt, under := r.under + b2n under }
  ((x.2.setRaster r).enq { ty := 3, data := data, tag := r.num }).trailer e r

/-- TAPESTRY_LINE_SEND (R676): the next line of the scan-out, not before its slot. -/
def Dev.lineSend (e : Env) (d : Dev) (bad : List Nat) : Dev :=
  match d.tap.rasters.find? (fun r => r.stage == 3) with
  | some r => if 2 * e.now < 2 * r.scan + 3 * (r.line * r.o O.TAP_LINE_NS) then d else d.lineOut e r bad [] false
  | none => d

/-- LINE_UNDERRUN (R677, R679): a paced line at slot + P, with the pixels that a line-buffer error touches. -/
def Dev.lineUnderrun (e : Env) (d : Dev) (bad unfetched : List Nat) : Dev :=
  match d.tap.rasters.find? (fun r => r.stage == 3) with
  | some r =>
    if r.o O.TAP_LINE_NS == 0 || unfetched == [] || 2 * e.now < 2 * r.scan + 3 * ((r.line + 1) * r.o O.TAP_LINE_NS) then d
    else d.lineOut e r bad unfetched true
  | none => d

/-- A packet of a kind and tag is still on the lanes. -/
def Dev.pktFlies (e : Env) (d : Dev) (kind tag : Nat) : Bool :=
  d.link.flight.any (fun p => p.1.kind == kind && p.1.tag == tag) && e.now < d.link.endAt

/-- RASTER_RETIRE (R671): the trailer has reached the TX balls, its last segment whole. -/
def Dev.rasterRetire (e : Env) (d : Dev) : Dev :=
  match d.tap.rasters.find? (fun r => r.stage == 4) with
  | some r => if d.pktWaits 5 r.num || d.pktFlies e 5 r.num then d else (d.retire r.num).inc O.TAP_SENT
  | none => d

/-- The pool cleared after training (R644): every channel's share is counted as written. The JG5120 has no pool (Table 00-4). -/
def Dev.poolClear (d : Dev) : Dev :=
  let n := d.poolBytes
  let chs := if d.found == 2 then 8 else 4
  let d := d.gZero (d.o O.TAP_POOL_BASE) n
  (List.range chs).foldl (fun d c => d.inc O.MEM_CH_WR_BYTES c (n / chs)) d

end Sys2Proof.Machine
end

