-- ==== Sys2Proof/Machine/Jacquard.lean ====
section
/-! DEFINITION. Jacquard (chapter 03): the bank check, patches, the dither generator, plans, the decode of an entry with its
hand-offs, accumulation groups, wake requests, frame origins, and starting and stopping. What happens at a shot boundary stands
in Machine/Boundary.lean. -/

namespace Sys2Proof.Machine

/-! ### Banks (R202 to R217) -/

/-- The columns that no SHOT entry may reach: the column count of the geometry in force. -/
def Dev.colLimit (d : Dev) : Nat := d.rlCols

/-- An entry is a SHOT entry: of kind SHOT and not empty (R953). -/
def isShot (w : Nat) : Bool := w != 0 && entKind w == 0

/-- Whether entry `i` of a bank fails the bank check (R202). -/
def Dev.entryFails (d : Dev) (bank i : Nat) : Bool :=
  let w := d.entry bank i
  (i == d.o O.JQ_START_ENTRY bank && !isShot w) ||
    (w != 0 && entKind w == 2 && !isShot (d.entry bank (entLink w))) ||
    (isShot w && d.colLimit ≤ entColumn w)

/-- The bank check: none when it passes, else what JQ_SWAP_FAULT_ENTRY takes. -/
def Dev.bankCheck (d : Dev) (bank : Nat) : Option Nat :=
  if !(List.range 32768).any (fun i => d.entry bank i != 0 && entKind (d.entry bank i) == 2) then some 0xFFFE
  else (List.range 32768).find? (d.entryFails bank)

/-- JQ_SWAP_FAULT_ENTRY after a bank check. -/
def Dev.bankFault (d : Dev) (r : Option Nat) : Dev := d.so O.JQ_SWAP_FAULT_ENTRY 0 (r.getD 0xFFFF)

/-- A swap is pending (R204): JQ_SWAP_REQ holds 1 in its shadow, in the lock's staged set, or in a commit that waits. -/
def Dev.swapPending (d : Dev) : Bool :=
  let k := okey O.JQ_SWAP_REQ 0
  tget none d.shadows k == some 1 || tget none d.lock.staged.vals k == some 1 ||
    (match d.commit with
     | some c => tget none c.set.vals k == some 1
     | none => false)

/-- The inactive bank. -/
def Dev.otherBank (d : Dev) : Nat := 1 - d.o O.JQ_ACTIVE_BANK

/-- A bank that block writes and start entries may not touch: active or incoming (R209, R211). -/
def Dev.bankBusy (d : Dev) (bank : Nat) : Bool := bank == d.o O.JQ_ACTIVE_BANK || d.swapPending

/-- The next `n` entries of the walk from an entry on, LINKs followed (R214, R953). -/
def Dev.walkFrom (d : Dev) (bank : Nat) : Nat → Nat → List Nat
  | 0, _ => []
  | n + 1, i =>
    let w := d.entry bank i
    let next := if w == 0 then d.o O.JQ_START_ENTRY bank else if entKind w == 2 then entLink w else (i + 1) % 32768
    i :: d.walkFrom bank n next

/-- The header and entries of a patch lie in range (R163, R213). -/
def patchOk (bs : Bytes) : Bool :=
  let n := fieldAt bs 1 1
  fieldAt bs 0 1 < 2 && 1 ≤ n && n ≤ 31 && fieldAt bs 2 2 + n ≤ 32768 && fieldAt bs 4 12 == 0 &&
    bs.length == 16 + 16 * n && (entriesOf (bs.drop 16)).all entryOk

/-- A patch of the active or incoming bank touches the next 64 entries of its walk (R214): the entry decoded last and the 63 that
the walker will decode after it, from a start entry where Jacquard is STOPPED. Once a swap's frame is decided the walk reads the
incoming bank, and both places of that bank count. -/
def Dev.patchClose (d : Dev) (bs : Bytes) : Bool :=
  let bank := fieldAt bs 0 1
  let first := fieldAt bs 2 2
  let n := fieldAt bs 1 1
  let p := d.o O.JQ_READ_PTR
  let stopped := d.o O.JQ_STATE == 0
  let wbank := if stopped then d.o O.JQ_ACTIVE_BANK else d.jq.bank
  let next := if stopped then d.o O.JQ_START_ENTRY wbank else d.jq.next
  let walk := (if bank == p / 32768 then [p % 32768] else []) ++ (if bank == wbank then d.walkFrom bank 63 next else []) ++
    (if d.swapPending && bank == d.otherBank then d.walkFrom bank 64 (d.o O.JQ_START_ENTRY bank) else [])
  d.bankBusy bank && walk.any (fun i => first ≤ i && i < first + n)

/-- A patch written (R215). -/
def Dev.patchWrite (d : Dev) (bs : Bytes) : Dev :=
  d.setDom (O.JQ_BANK_0 + fieldAt bs 0 1) 0 (16 * fieldAt bs 2 2) (bs.drop 16)

/-- A staged patch lands (R217): one that has come too close writes nothing. -/
def Dev.patchLand (e : Env) (d : Dev) (bs : Bytes) : Dev :=
  if d.patchClose bs then
    (d.inc O.JQ_PATCH_LATE).log e 0x0102 (locCode 0 1 (fieldAt bs 0 1) 63 (fieldAt bs 2 2 / 256) 63) 0
  else d.patchWrite bs

/-! ### The dither generator (R173, R954) -/

/-- One step of the generator: the register after it, and the bit it yields. -/
def lfsrStep (x : Nat) : Nat × Nat :=
  let b := (x >>> 30 ^^^ x >>> 27) % 2
  ((2 * x + b) % 2 ^ 31, b)

/-- A draw of `k` bits, the first yielded the most significant. -/
def lfsrDraw : Nat → Nat → Nat → Nat × Nat
  | 0, x, v => (v, x)
  | k + 1, x, v => lfsrDraw k (lfsrStep x).1 (2 * v + (lfsrStep x).2)

/-- The dither of a draw in ns (R172). -/
def ditherNs (r span : Nat) : Nat := r * (span + 1) / 1024

/-! ### Plans (R42, R43, R175) -/

/-- The pre-fire sequence in coarse periods (R36). -/
def Dev.prefireCp (d : Dev) : Nat := 3 * (252 + d.o O.RJ_DARK_NS)

/-- The earliest emission that R42 permits after the shot before. -/
def Dev.earliest (d : Dev) (ref : PlanRef) (an : Nat) : Nat :=
  match ref.last with
  | none => d.jq.start
  | some (em, win, an') => max (em + 7500) (em + win + (if an == an' then 0 else 3 * d.o O.EM_BLANK_NS) + d.prefireCp)

/-- A plan: scheduled and planned time, whether R43 moved the shot, and what the next plan counts from. -/
structure Plan where
  sched : Nat
  planned : Nat
  moved : Bool
  ref : PlanRef
  deriving DecidableEq, Repr

/-- The plan of repeat `rep` of an entry with frame origin `f` and dither `dit` in coarse periods (R175). -/
def Dev.planOf (d : Dev) (ref : PlanRef) (f w rep dit : Nat) : Plan :=
  let t := if entAbs w then f + 3000 * entTime w else ref.tref + 12 * entTime w
  if entKind w == 1 then { sched := t, planned := t, moved := false, ref := { ref with tref := t } }
  else
    let ear := d.earliest ref (entAn w)
    let sched := if 0 < rep then ear else if entAbs w then t else max t ear
    let moved := decide (sched + dit < ear)
    let p := if moved then ear else sched + dit
    { sched := sched, planned := p, moved := moved, ref := { tref := p, last := some (p, windowCp (entWclass w), entAn w) } }

/-- Queued shots planned again from what has happened (R176): a shot that the delay moves past its slot counts as moved. -/
def Dev.replanGo (ref : PlanRef) : List Shot → Dev → PlanRef × List Shot × Dev
  | [], d => (ref, [], d)
  | s :: l, d =>
    let p := d.planOf ref s.origin s.ent s.rep (3 * s.dither)
    let new := p.moved && !s.moved
    let d := if new then (if s.frameFirst then (d.inc O.JQ_MOVED).inc O.JQ_FRAME_OVERRUN else d.inc O.JQ_MOVED) else d
    let r := Dev.replanGo p.ref l d
    (r.1, { s with planned := p.planned, moved := p.moved } :: r.2.1, r.2.2)

/-- The queue planned again from `base`. -/
def Dev.replan (d : Dev) : Dev :=
  let r := Dev.replanGo d.jq.base d.jq.queue d
  { r.2.2 with jq := { d.jq with queue := r.2.1, plan := r.1 } }

/-! ### Accumulation groups (R186 to R190) -/

/-- The receive group of a slice. -/
def sliceGroup (s : Nat) : Nat := if s < 512 then s / 16 else s - 512

/-- A group closes in extraction, with its temperatures frozen (R429). -/
def Dev.exClose (e : Env) (d : Dev) (inst : Nat) : Dev :=
  d.closeGroup e inst (fun s => d.os16 O.CAL_GROUP_TEMP (sliceGroup s)) (fun s => bit d.cal.extrap s)

/-- The last queued shot of a group marked, where one is queued. -/
def markLast (inst : Nat) : List Shot → List Shot
  | [] => []
  | s :: l =>
    if s.acc == some inst && !l.any (fun x => x.acc == some inst) then { s with accLast := true } :: l
    else s :: markLast inst l

/-- An open group closes with the last of its shots already decoded: extraction closes it once that shot is done. -/
def Dev.accClose (e : Env) (d : Dev) (inst : Nat) (forced : Bool) : Dev :=
  let d := { d with jq := { d.jq with acc := d.jq.acc.filter (fun (g : AccGroup) => g.inst != inst) } }
  let d := if forced then d.inc O.JQ_ACC_FORCED else d
  if d.jq.queue.any (fun s => s.acc == some inst) then { d with jq := { d.jq with queue := markLast inst d.jq.queue } }
  else
    match d.jq.flight with
    | some f =>
      if f.shot.acc == some inst then { d with jq := { d.jq with flight := some { f with shot := { f.shot with accLast := true } } } }
      else d.exClose e inst
    | none => d.exClose e inst

/-- Every open group closed under R188. -/
def Dev.accCloseAll (e : Env) (d : Dev) : Dev := d.jq.acc.foldl (fun d (g : AccGroup) => d.accClose e g.inst true) d

/-- A decoded shot collected into its group, which opens where none is open (R186, R189). The shot is the last of the queue. DESIGN
CHOICE (log entry 231): a 64th shot that is also the last of an ACC_CLOSE entry closes its group as that entry asks, and counts in no
JQ_ACC_FORCED (R188). -/
def Dev.accTake (e : Env) (d : Dev) (s : Shot) (chans : Nat) : Dev :=
  let a := entAcc s.ent
  if a == 0 then { d with jq := { d.jq with queue := d.jq.queue ++ [s] } }
  else
    let d := (d.jq.acc.filter (fun g => g.closedBy a chans (entCode s.ent) (entWclass s.ent))).foldl
      (fun d (g : AccGroup) => d.accClose e g.inst true) d
    let g : AccGroup := (d.jq.acc.find? (fun g => g.id == a)).getD
      { inst := d.jq.accNext, id := a, code := entCode s.ent, wclass := entWclass s.ent, chans := 0, shots := 0, last := s }
    let s := { s with acc := some g.inst }
    let g : AccGroup := { g with chans := g.chans ||| chans, shots := g.shots + 1, last := s }
    let d := { d with jq := { d.jq with queue := d.jq.queue ++ [s], accNext := max d.jq.accNext (g.inst + 1),
                                        acc := d.jq.acc.filter (fun x => x.inst != g.inst) ++ [g] } }
    if entAccClose s.ent && s.rep == entRepeat s.ent then d.accClose e g.inst false
    else if 64 ≤ g.shots then d.accClose e g.inst true
    else d

/-! ### Wake requests (R182) -/

/-- The lead of a wake request before the planned boundary in coarse periods: 250 ns from STANDBY, 41,000 ns from OFF. -/
def wakeLead (st : Nat) : Nat := if st == 2 then 750 else 123000

/-- The state that a wake request finds: a waking group counts as in the state that its held step-down orders (R959). -/
def Dev.wakeState (d : Dev) (g : Nat) : Nat :=
  let st := d.o O.RX_GROUP_STATE g
  let held := tget 0 d.rx.stepHeld g
  if st == 1 && held != 0 then (if held == 1 then 0 else 2) else st

/-- A wake request for a group is due for a shot. -/
def Dev.wakeDue (e : Env) (d : Dev) (s : Shot) (g : Nat) : Bool :=
  let st := d.wakeState g
  (st == 0 || st == 2) && s.planned ≤ 2 * e.now + wakeLead st + d.prefireCp

/-- WAKE_REQUEST: for the first queued shot that lights the group. -/
def Dev.wakeRequest (e : Env) (d : Dev) (g : Nat) : Dev :=
  match d.jq.queue.find? (fun s => d.shotLights e s g) with
  | some s => if d.wakeDue e s g then d.groupWake e g else d
  | none => d

/-- The requests that a decode issues because their instant has passed. -/
def Dev.wakeLate (e : Env) (d : Dev) (s : Shot) : Dev :=
  (groupsOf (d.shotChans e s)).foldl (fun d g => if d.wakeDue e s g then d.groupWake e g else d) d

/-! ### Decode (R163 to R182, R193) -/

/-- The throttle level L (R192). -/
def Dev.throttle (d : Dev) : Nat := max (d.o O.JQ_THROTTLE_MIN) (max (d.o O.HM_THROTTLE_REQ) (d.o O.THM_THROTTLE_REQ))

/-- The targets of an entry handed to Atlas (R180). -/
def Dev.handTargets (e : Env) (d : Dev) (w t : Nat) : Dev :=
  let d := d.addTarget e (d.o O.JQ_AXIS_X_SLOT) (1000 * entX w) t
  if d.o O.JQ_AXIS_Y_SLOT == 0xFF then d else d.addTarget e (d.o O.JQ_AXIS_Y_SLOT) (10000 * entY w) t

/-- One shot of a SHOT entry decoded: its draws, its plan, its hand-offs, its place in the queue and in its group. -/
def Dev.decodeShot (e : Env) (w bank idx : Nat) (d : Dev) (rep : Nat) : Dev :=
  let t := lfsrDraw 2 d.jq.lfsr 0
  let r := lfsrDraw 10 t.2 0
  let thin := decide (4 ≤ t.1 + d.throttle)
  let dit := if entNoDither w then 0 else ditherNs r.1 (d.o O.JQ_DITHER_SPAN)
  let p := d.planOf d.jq.plan d.jq.origin w rep (3 * dit)
  let first := d.jq.firstDue
  let change := match d.jq.plan.last with
    | some (_, _, an) => entAn w != an
    | none => true
  let d := d.inc O.JQ_SHOTS
  let d := if p.moved then d.inc O.JQ_MOVED else d
  let d := if p.moved && first then d.inc O.JQ_FRAME_OVERRUN else d
  let d := if thin then d.inc O.JQ_SUPP_THROTTLE else d
  let s : Shot :=
    { ent := w, bank := bank, idx := idx, rep := rep, ord := d.jq.ord, move := false, dither := dit, origin := d.jq.origin,
      planned := p.planned, moved := p.moved, thinned := thin, frameFirst := first,
      swap := first && d.jq.decided == some true, lineChange := change, lineDone := false, acc := none, accLast := false, chans := 0,
      hseq := d.o O.JQ_SHOTS % 16, wakeStall := false, twStall := false, histStall := false }
  let d := { d with jq := { d.jq with lfsr := r.2, plan := p.ref, firstDue := false, hseq := s.hseq } }
  let d := (d.handTargets e w p.planned).prefetch (entColumn w) (d.litChans e (entAn w) (entKd w))
  let s := { s with chans := d.shotChans e s }
  (d.accTake e s s.chans).wakeLate e s

/-- A MOVE decoded. -/
def Dev.decodeMove (e : Env) (d : Dev) (w bank idx : Nat) : Dev :=
  let p := d.planOf d.jq.plan d.jq.origin w 0 0
  let s : Shot :=
    { ent := w, bank := bank, idx := idx, rep := 0, ord := d.jq.ord, move := true, dither := 0, origin := d.jq.origin,
      planned := p.planned, moved := false, thinned := false, frameFirst := false, swap := false, lineChange := false,
      lineDone := false, acc := none, accLast := false, chans := 0, hseq := 0, wakeStall := false, twStall := false, histStall := false }
  { (d.handTargets e w p.planned) with jq := { d.jq with plan := p.ref, queue := d.jq.queue ++ [s] } }

/-- A frame ends with a LINK: its groups close, and after a stop after the frame no further entry is decoded. -/
def Dev.frameEnd (e : Env) (d : Dev) (link : Nat) : Dev :=
  let d := d.accCloseAll e
  { d with jq := { d.jq with next := link, newFrame := true, decoding := d.o O.JQ_STATE != 3 } }

/-- The origin of the next frame once it is known (R168 to R170). -/
def Dev.nextOrigin (d : Dev) : Option Nat :=
  match d.jq.originNext with
  | some f => some f
  | none => if d.o O.JQ_FRAME_SYNC == 0 then some (d.jq.origin + 3000 * d.o O.JQ_FRAME_PERIOD) else none

/-- The frame decision (R205): the next entry comes from the incoming bank's start entry when a swap is pending. -/
def Dev.frameDecision (d : Dev) (f : Nat) : Dev :=
  let sw := d.swapPending
  { d with jq := { d.jq with bank := if sw then d.otherBank else d.jq.bank,
                             next := if sw then d.o O.JQ_START_ENTRY d.otherBank else d.jq.next,
                             origin := f, originNext := d.jq.originLater.head?, originLater := d.jq.originLater.drop 1, newFrame := false, firstDue := true,
                             decided := some sw } }

/-- The device as a decode finds it: after the frame decision where the entry begins a frame; none while its origin is open. -/
def Dev.decodeAt (d : Dev) : Option Dev :=
  if d.jq.newFrame then d.nextOrigin.map d.frameDecision else some d

/-- The index after an entry, which wraps within the frame (R166). -/
def Dev.advance (d : Dev) : Dev :=
  let d := if d.jq.next == 32767 then d.inc O.JQ_BANK_WRAP else d
  { d with jq := { d.jq with next := (d.jq.next + 1) % 32768 } }

/-- The entry at the walk decoded. `ecc`: 0 sound, 1 corrected, 2 uncorrectable. -/
def Dev.decodeEntry (e : Env) (d : Dev) (ecc : Nat) : Dev :=
  let bank := d.jq.bank
  let idx := d.jq.next
  let w := d.entry bank idx
  let d := (d.so O.JQ_READ_PTR 0 (32768 * bank + idx)).so O.JQ_THROTTLE_LEVEL 0 d.throttle
  let d := { d with jq := { d.jq with ord := d.jq.ord + 1 } }
  if ecc == 2 then
    ((d.inc O.JQ_STORE_UNCORR).log e 0x0101 (locCode 0 1 bank 63 (idx / 256) 63) 2).frameEnd e (d.o O.JQ_START_ENTRY bank)
  else
    let d := if ecc == 1 then d.inc O.JQ_STORE_CORRECTED else d
    if w == 0 then (d.inc O.JQ_EMPTY_DECODED).frameEnd e (d.o O.JQ_START_ENTRY bank)
    else if entKind w == 2 then d.frameEnd e (entLink w)
    else if entKind w == 1 then (d.decodeMove e w bank idx).advance
    else ((List.range (entRepeat w + 1)).foldl (Dev.decodeShot e w bank idx) d).advance

/-- The entry may be decoded now: an END at once, another entry when its time before dither lies no more than 48 µs ahead. -/
def Dev.decodeTimely (e : Env) (d : Dev) (ecc : Nat) : Bool :=
  let w := d.entry d.jq.bank d.jq.next
  ecc == 2 || w == 0 || entKind w == 2 || (d.planOf d.jq.plan d.jq.origin w 0 0).sched ≤ 2 * e.now + 144000

/-! ### Starting and stopping (Table 03-3) -/

/-- The register's load at a start (R173). -/
def Dev.lfsrLoad (d : Dev) : Dev :=
  let seed := d.o O.JQ_DITHER_SEED
  let p := if seed == 0 then d.freeVal 31 else (seed % 2 ^ 31, d)
  { p.2 with jq := { p.2.jq with lfsr := if p.1 == 0 then 0x7FFFFFFF else p.1 } }

/-- Jacquard starts: the bank check has passed. DESIGN CHOICE (log entry 232): a string that is still on the wire gives way to that of
the start, and is not checked (R256). -/
def Dev.jqStart (e : Env) (d : Dev) : Dev :=
  let bank := d.o O.JQ_ACTIVE_BANK
  let first := d.o O.JQ_START_ENTRY bank
  let d := ((d.ringStart e).lfsrLoad).sos [(O.JQ_STATE, 0, 1), (O.JQ_FRAME_NUMBER, 0, 0)]
  let d := { d with jq := { d.jq with queue := [], flight := none, bank := bank, next := first, newFrame := true,
                                      decoding := true, stopNow := false, decided := none, firstDue := false,
                                      origin := 2 * e.now, originNext := some (2 * e.now + 150000), originLater := [], lineDue := none, start := 2 * e.now,
                                      plan := { tref := 2 * e.now, last := none }, base := { tref := 2 * e.now, last := none },
                                      acc := [], settle := false },
                    rx := { d.rx with rSet := 0 },
                    em := { d.em with startPass := true, starveAt := e.now } }
  let d := d.domOn e 93
  let w := d.entry bank first
  if d.ob O.TW_ENABLE then d.twStart (2 * e.now) (d.sharesIdle (entAn w) (entLevel w)) else d

/-- Jacquard reaches STOPPED: the shadows and a pending commit land at the end of the same command, and the groups step down after
them (R185). -/
def Dev.jqStopped (e : Env) (d : Dev) : Dev :=
  let d := d.so O.JQ_STATE 0 0
  let d := { d with jq := { d.jq with queue := [], flight := none, decoding := false, decided := none, firstDue := false, lineDue := none, settle := true },
                    em := { d.em with lines := 0, closed := 0 } }
  let d := (((d.ringStop e).statStopped).targetsStop).tapStopped e
  if d.em.pass.isNone then d.domOff 93 else d

/-- STOPPING ends when nothing is left to happen: no shot queued, no window open, no decode to come. -/
def Dev.stopCheck (e : Env) (d : Dev) : Dev :=
  if d.o O.JQ_STATE == 3 && !d.jq.decoding && d.jq.queue.all Shot.move && d.jq.flight.isNone then d.jqStopped e else d

/-- MOVEs at the head of a queue that are done: each is what the next plan counts from. -/
def Dev.movesGo (d : Dev) (done : Shot → Bool) : List Shot → PlanRef → List Shot × PlanRef
  | [], r => ([], r)
  | s :: l, r => if s.move && done s then d.movesGo done l (d.planOf r s.origin s.ent 0 0).ref else (s :: l, r)

/-- MOVEs at the head of the queue leave it. -/
def Dev.dropMoves (d : Dev) (done : Shot → Bool) : Dev :=
  let r := d.movesGo done d.jq.queue d.jq.base
  { d with jq := { d.jq with queue := r.1, base := r.2 } }

/-- ENTRY_DECODE. A MOVE holds its place in the queue until its planned time (R179). -/
def Dev.entryDecode (e : Env) (d : Dev) (ecc : Nat) : Dev :=
  let d := d.dropMoves (fun s => s.planned ≤ 2 * e.now + 1)
  if d.o O.JQ_STATE == 0 || !d.jq.decoding || 32 ≤ d.queued then d
  else
    match d.decodeAt with
    | none => d
    | some d' => if d'.decodeTimely e ecc then (d'.decodeEntry e ecc).stopCheck e else d

/-- The group of a shot as extraction keeps it, made where no boundary has made it yet. -/
def Dev.groupOr (d : Dev) (s : Shot) (inst : Nat) : ExGroup :=
  (d.group inst).getD { code := entCode s.ent, wclass := entWclass s.ent, chans := 0, column := entColumn s.ent }

/-- The header word of a shot with its planned emission time and no flags (R442). -/
def plannedWord (s : Shot) : Nat := (emitTime s.planned 0 <<< 80) + hdrWord s

/-- The group of a shot that adds nothing to it: ACC_SHORT, and the fields of the last decoded shot (R443). -/
def Dev.groupShort (d : Dev) (s : Shot) : Dev :=
  match s.acc with
  | some i => d.setGroup i ({ (d.groupOr s i) with short := true }.takeWord s (plannedWord s))
  | none => d

/-- The header of a suppressed shot leaves (R196, R440 to R442). -/
def Dev.suppHdr (e : Env) (d : Dev) (s : Shot) (cause : Nat) : Dev :=
  d.bareHdr e s (emitTime s.planned 0)
    (2048 + (if entAcc s.ent == 0 then 0 else 64) + (b2n s.moved <<< 3) + cause)

/-- A queued shot discarded by a stop at once (R201). -/
def Dev.discardShot (e : Env) (d : Dev) (s : Shot) : Dev :=
  if s.move then d
  else ((d.inc O.JQ_SUPP_STOP).groupShort s).suppHdr e s (if s.thinned then 0 else 3)

/-- Every group that extraction still holds open closes, but for the one of the shot in flight. -/
def Dev.closeRest (e : Env) (d : Dev) : Dev :=
  let fl := d.jq.flight.bind (fun f => f.shot.acc)
  (d.ex.groups.filter (fun g => !g.2.closed)).foldl (fun d g =>
    if fl == some g.1 then
      { d with jq := { d.jq with flight := d.jq.flight.map (fun (f : Flight) => { f with shot := { f.shot with accLast := true } }) } }
    else d.exClose e g.1) d

/-- JQ_RUN written 0 while Jacquard runs: queued shots discarded, open groups closed (R188, R201). -/
def Dev.jqStopNow (e : Env) (d : Dev) : Dev :=
  let q := d.jq.queue
  let d := { d with jq := { d.jq with queue := [], decoding := false, stopNow := true, acc := [] } }.inc O.JQ_ACC_FORCED 0 d.jq.acc.length
  let d := d.so O.JQ_STATE 0 3
  ((q.foldl (fun d s => d.discardShot e s) d).closeRest e).stopCheck e

/-- JQ_RUN landed with a value other than a start (Table 03-3, R199). -/
def Dev.jqStop (e : Env) (d : Dev) (v : Nat) : Dev :=
  let st := d.o O.JQ_STATE
  if v == 0 then (if st == 0 || (st == 3 && d.jq.stopNow) then d else d.jqStopNow e)
  else if v == 2 && st == 2 then (d.so O.JQ_STATE 0 3)
  else d

/-! ### Frame synchronisation (R169, R170) -/

/-- Jacquard takes its frame origins from SYNC_IN. -/
def Dev.awaitsSync (d : Dev) : Bool := d.o O.JQ_STATE != 0 && d.o O.JQ_FRAME_SYNC == 1

/-- The latest origin that is fixed: of the frame last begun, or of a later one. -/
def Dev.lastOrigin (d : Dev) : Nat := (d.jq.originLater.getLast?).getD (d.jq.originNext.getD d.jq.origin)

/-- The origin of the frame after those whose origins are fixed. -/
def Dev.addOrigin (d : Dev) (f : Nat) : Dev :=
  if d.jq.originNext.isNone then { d with jq := { d.jq with originNext := some f } }
  else { d with jq := { d.jq with originLater := d.jq.originLater ++ [f] } }

/-- A frame without an edge: its origin lies one period after the one before (R170). -/
def Dev.missOrigin (d : Dev) : Dev := (d.addOrigin (d.lastOrigin + 3000 * d.o O.JQ_FRAME_PERIOD)).inc O.JQ_SYNC_MISSED

/-- The frames that have missed their edge before an instant, at most `n`. -/
def Dev.missBefore (t : Nat) : Nat → Dev → Dev
  | 0, d => d
  | n + 1, d => if d.lastOrigin + 4500 * d.o O.JQ_FRAME_PERIOD < t then Dev.missBefore t n d.missOrigin else d

/-- SYNC_IN_EDGE (R169, R170): the first edge later than the latest fixed origin plus half a period, and no later than that origin
plus 1.5 periods, fixes the next one; frames whose edge is past due have missed it. -/
def Dev.syncEdge (e : Env) (d : Dev) : Dev :=
  if !d.awaitsSync then d
  else
    let t := 2 * e.now
    let d := Dev.missBefore t ((t - d.lastOrigin) / (3000 * d.o O.JQ_FRAME_PERIOD) + 1) d
    if d.lastOrigin + 1500 * d.o O.JQ_FRAME_PERIOD < t then d.addOrigin (t + 150000) else d

/-- FRAME_SYNC_MISSED: no such edge by the latest fixed origin plus 1.5 periods. -/
def Dev.syncMissed (e : Env) (d : Dev) : Dev :=
  if d.awaitsSync && d.lastOrigin + 4500 * d.o O.JQ_FRAME_PERIOD ≤ 2 * e.now then d.missOrigin else d

/-! ### Test passes of the emitter drive (R257) -/

/-- No shot is queued or in flight and the next entry's time lies at least 48 µs ahead, or Jacquard is STOPPED. -/
def Dev.passRoom (e : Env) (d : Dev) : Bool :=
  d.o O.JQ_STATE == 0 ||
    (d.jq.flight.isNone && d.jq.queue.all Shot.move &&
      (match d.decodeAt with
       | none => true
       | some d' => !d.jq.decoding ||
           decide (2 * e.now + 144000 ≤ (d'.planOf d'.jq.plan d'.jq.origin (d'.entry d'.jq.bank d'.jq.next) 0 0).sched)))

/-- TEST_PASS_START (R257, R258): a pass is due and there is room for it. -/
def Dev.testPass (e : Env) (d : Dev) : Dev :=
  if d.em.pass.isNone && d.passWanted e && d.passRoom e then d.passStart e else d

end Sys2Proof.Machine
end

