-- ==== Sys2Proof/Machine/Memory.lean ====
section
/-! DEFINITION. GDDR7 and the fabric (chapter 15): training and retraining, tracking, refresh, errors and their tables, and the
arbiters. Reads and writes stand in Machine/Memory0.lean. -/

namespace Sys2Proof.Machine

/-! ### Training (R759 to R767) -/

/-- The location of a memory fault: channel, bank, port and kind (R791). -/
def memLoc (ch bank port kind : Nat) : Nat := locCode 0 13 ch bank port kind

/-- The class of a kind of Table 15-8. -/
def kindClass (k : Nat) : Nat := if k == 3 || k == 4 then 2 else if k == 6 || k == 7 then 1 else 0

/-- Nothing waits at the ports or in a bank queue, every row is closed, and no port has an owner. -/
def Mem.clearQueues (m : Mem) : Mem :=
  { m with waiting := [], owner := [], left := [], grantAt := [], buffer := [], own := [], queue := [], row := [], rowUse := [],
           ptr := [], writes := [], turned := [] }

/-- Every row of every bank closed. -/
def Mem.closeRows (m : Mem) : Mem := { m with row := [], rowUse := [] }

/-- Full training begins (R763): at start-up or under R767. -/
def Dev.trainStart (e : Env) (d : Dev) (st : Nat) : Dev :=
  let d := d.domOn e 80
  let d := if e.memMax == 2 then d.domOn e 81 else d
  { (d.so O.MEM_STATE 0 st) with mem := { d.mem.closeRows with trainAt := some e.now } }

/-- The training scratch region holds what its pattern test has left. -/
def Dev.loseScratch (d : Dev) : Dev := d.gLose 0x1120000 0x1220000

/-- A fit comes into force: capacity, channels and regions (R759, R760, R771). -/
def Dev.fitSet (e : Env) (d : Dev) (found : Nat) : Dev :=
  let cap := capacityOf found e.part.density
  let d := d.sos [(O.CAP_GDDR7_FOUND, 0, found), (O.MEM_DENSITY, 0, e.part.density), (O.MEM_CAPACITY, 0, cap),
    (O.MEM_STATE, 0, 2), (O.TAP_POOL_HANDLES, 0, poolSize found cap / 4096)]
  let d := (List.range 8).foldl (fun d c => d.so O.MEM_CH_STATE c (if c < 4 * found then 1 else 0)) d
  let d := if found == 1 then d.domOff 81 else d
  { d with mem := { d.mem.clearQueues with trainAt := none, trained := some (found, e.part.density), poison := [] } }

/-- A channel that was OFFLINE is filled with zeros and returns to OK (R767). -/
def Dev.fillChan (d : Dev) (ch : Nat) : Dev :=
  if d.chOffline ch then
    { (d.so O.MEM_CH_STATE ch 1).so O.MEM_CH_POISON_BLOCKS ch 0 with
      gddr := d.gddr.filter (fun p => d.chanOf p.1 != ch),
      mem := { d.mem with filled := tset 0 d.mem.filled ch (d.mem.epoch + 1),
                          poison := d.mem.poison.filter (fun b => d.chanOf (b * 256) != ch) } }
  else d

/-- MEM_TRAINING_DONE: the outcome per device. `ok1` is false too where the density of DEV_1 differs (R760). -/
def Dev.trainDone (e : Env) (d : Dev) (ok0 ok1 : Bool) : Dev :=
  match d.mem.trainAt with
  | none => d
  | some _ =>
    if !ok0 then
      ({ (d.so O.MEM_STATE 0 5) with mem := { d.mem with trainAt := none } }).log e 0x0D10 (memLoc 63 63 127 63) 4
    else
      let two := e.memMax == 2 && e.part.fitted == 2
      let d := if two && !ok1 then d.log e 0x0D06 (memLoc 63 63 127 6) 1 else d
      let found := if two && ok1 then 2 else 1
      let d := { d.loseScratch with mem := { d.loseScratch.mem with rate := d.o O.MEM_PIN_RATE } }
      let d := if d.o O.FLT_MIRROR_STATE == 0 then d.so O.FLT_MIRROR_STATE 0 1 else d
      if d.o O.MEM_STATE == 4 && d.found == found then
        { ((List.range 8).foldl Dev.fillChan d).so O.MEM_STATE 0 2 with mem := { ((List.range 8).foldl Dev.fillChan d).mem with trainAt := none } }
      else (let d := (d.fitSet e found).ringTrained; if e.full then d.poolClear else d).mirror e

/-- MEM_RETRAIN written 1 (R767). -/
def Dev.memRetrain (e : Env) (d : Dev) : Dev := if d.o O.MEM_STATE == 2 then d.trainStart e 4 else d

/-- MEM_TRACKING (R764, R765, R782): one channel's tracking step, with the temperature of its device in 0.1 °C. -/
def Dev.memTrack (e : Env) (d : Dev) (ch : Nat) (temp : Int) (edge : Bool) : Dev :=
  if 8 ≤ ch || d.o O.MEM_STATE != 2 || d.o O.MEM_CH_STATE ch != 1 || e.now < tget 0 d.mem.trackAt ch + 1500000 * d.o O.MEM_TRACK_MS
  then d
  else
    let dev := ch / 4
    let d := (List.range 4).foldl (fun d i => d.so O.MEM_CH_TEMP (4 * dev + i) (ofS 16 temp)) d
    let d := { d with mem := { d.mem with trackAt := tset 0 d.mem.trackAt ch e.now, hot := setBit d.mem.hot dev (850 < temp) } }
    if !edge then d
    else
      let loc := memLoc ch 63 (d.portOf ch) 7
      let quiet := match tget none d.mem.edgeAt ch with
        | some t => decide (e.now < t + 15000000000)
        | none => false
      if quiet then d.logRepeat e 0x0D07 loc 1
      else ({ d with mem := { d.mem with edgeAt := tset none d.mem.edgeAt ch (some e.now) } }).log e 0x0D07 loc 1

/-- MEM_REFRESH (R781): a bank under mode 0, every bank of the channel under mode 1. A refreshed bank's row closes (R780). -/
def Dev.memRefresh (e : Env) (d : Dev) (ch bank : Nat) : Dev :=
  if 8 ≤ ch || 16 ≤ bank || d.o O.MEM_STATE != 2 || d.o O.MEM_CH_STATE ch == 0 then d
  else
    let banks := if d.o O.MEM_REFRESH_MODE == 1 then List.range 16 else [bank]
    { d with mem := { d.mem with refAt := banks.foldl (fun m b => tset 0 m (16 * ch + b) e.now) d.mem.refAt,
                                 row := banks.foldl (fun m b => tset 0 m (16 * ch + b) 0) d.mem.row } }

/-! ### Errors (Table 15-8) -/

/-- An entry of both logs. -/
def Dev.memFault (e : Env) (d : Dev) (kind addr req reps : Nat) : Dev :=
  let ch := d.chanOf addr
  (d.memLog e kind addr req reps).log e (0x0D00 + kind) (memLoc ch (d.bankOf addr) (d.portOf ch) kind) (kindClass kind)

/-- A channel's requests are answered at once (R789): its queues are empty and its rows closed. -/
def Dev.dropChan (d : Dev) (ch : Nat) : Dev :=
  { d with mem := { d.mem with
      buffer := d.mem.buffer.map (fun p => (p.1, p.2.filter (fun b => d.chanOf (b.blk * 256) != ch))) |>.filter (fun p => p.2 != []),
      queue := d.mem.queue.filter (fun p => p.1 / 16 != ch), row := d.mem.row.filter (fun p => p.1 / 16 != ch),
      rowUse := d.mem.rowUse.filter (fun p => p.1 / 16 != ch) } }

/-- A channel goes OFFLINE with an entry (kinds 3 and 4). -/
def Dev.goOffline (e : Env) (d : Dev) (kind addr req reps : Nat) : Dev :=
  ((d.so O.MEM_CH_STATE (d.chanOf addr) 3).memFault e kind addr req reps).dropChan (d.chanOf addr)

/-- A block entered in its channel's poison table (R788): a full table takes the channel OFFLINE. -/
def Dev.poisonBlock (e : Env) (d : Dev) (addr req reps : Nat) : Dev :=
  let ch := d.chanOf addr
  let b := addr / 256
  if d.mem.poison.contains b then d
  else if 64 ≤ d.o O.MEM_CH_POISON_BLOCKS ch then d.goOffline e 4 addr req reps
  else
    ({ d with mem := { d.mem with poison := d.mem.poison ++ [b] } }).so O.MEM_CH_POISON_BLOCKS ch
      (d.o O.MEM_CH_POISON_BLOCKS ch + 1)

/-- What a requester does on a poisoned response beside what its own reads do (Table 15-9). -/
def Dev.onPoison (e : Env) (d : Dev) (req : Nat) : Dev :=
  if req == 9 then { d with cal := { d.cal with retained := none } }
  else if req == 10 then d.mirror e
  else d

/-- An error may be reported: an address of a channel in use. -/
def Dev.memLive (d : Dev) (req addr : Nat) : Bool :=
  req < 16 && addr < d.capacity && (d.o O.MEM_CH_STATE (d.chanOf addr) == 1)

/-- MEM_READ_EDC_ERROR: `n` mismatches of one read; the fourth comes after 3 repeats. -/
def Dev.readEdc (e : Env) (d : Dev) (req addr n : Nat) : Dev :=
  if !d.memLive req addr || n == 0 then d
  else
    let ch := d.chanOf addr
    let d := d.inc O.MEM_CH_EDC_RD ch (min n 4)
    if n < 4 then d else ((d.inc O.MEM_CH_POISON ch).memFault e 0 addr req 3).onPoison e req

/-- MEM_WRITE_EDC_ERROR. -/
def Dev.writeEdc (e : Env) (d : Dev) (req addr n : Nat) : Dev :=
  if !d.memLive req addr || n == 0 then d
  else
    let d := d.inc O.MEM_CH_EDC_WR (d.chanOf addr) (min n 4)
    if n < 4 then d else (d.memFault e 1 addr req 3).poisonBlock e addr req 3

/-- MEM_CA_ERROR: after 3 reissues the channel retrains its command/address path, or a second time within 1 s goes OFFLINE. -/
def Dev.caError (e : Env) (d : Dev) (req addr n : Nat) (read : Bool) : Dev :=
  if !d.memLive req addr || n == 0 then d
  else
    let ch := d.chanOf addr
    let d := d.inc O.MEM_CH_CA ch (min n 4)
    if n < 4 then d
    else
      let d := d.memFault e 2 addr req 3
      let d := if read then (d.inc O.MEM_CH_POISON ch).onPoison e req else d.poisonBlock e addr req 3
      let again := match tget none d.mem.kind2 ch with
        | some t => decide (e.now ≤ t + 1500000000)
        | none => false
      let d := { d with mem := { d.mem with kind2 := tset none d.mem.kind2 ch (some e.now) } }
      if again then d.goOffline e 3 addr req 3
      else if d.chOffline ch then d else d.so O.MEM_CH_STATE ch 2

/-- MEM_CA_RETRAIN_DONE. A failed retrain names no address: that of its entry is the channel's lowest. -/
def Dev.caRetrained (e : Env) (d : Dev) (ch : Nat) (ok : Bool) : Dev :=
  if 8 ≤ ch || d.o O.MEM_CH_STATE ch != 2 then d
  else if ok then d.so O.MEM_CH_STATE ch 1
  else d.goOffline e 3 (256 * ch) 13 0

/-! ### Arbitration (R793 to R801) -/

/-- A requester whose own condition of Table 15-9 always holds. -/
def alwaysUrgent (r : Nat) : Bool := r == 10 || r == 13

/-- A requester is urgent (R793). `own` lists the requesters whose own condition holds. -/
def Dev.reqUrgent (d : Dev) (own : List Nat) (r : Nat) : Bool :=
  let m := d.o O.MEM_ARB_URGENT_MODE r
  m == 2 || (m == 1 && (alwaysUrgent r || own.contains r))

/-- What a requester wants at a port is urgent: the requester is, or a request of it has been promoted (R794). -/
def Dev.urgent (d : Dev) (own : List Nat) (w : Waiter) : Bool :=
  d.reqUrgent own w.requester || w.bursts.any Burst.promoted

/-- How far a requester lies behind the previous owner in rotating order. -/
def rotDist (prev r : Nat) : Nat := (r + 15 - prev) % 16

/-- The first of a list in rotating order. -/
def rotFirst (prev : Nat) : List Waiter → Option Waiter
  | [] => none
  | w :: l =>
    match rotFirst prev l with
    | none => some w
    | some x => if rotDist prev x.requester < rotDist prev w.requester then some x else some w

/-- The next owner of a port (R798). -/
def Dev.nextOwner (d : Dev) (own : List Nat) (port prev : Nat) : Option Waiter :=
  let all := d.mem.waiting.filter (fun w => w.port == port)
  let urg := all.filter (d.urgent own)
  rotFirst prev (if urg == [] then all else urg)

/-- A burst served: a requester's first request at a port leaves it. -/
def burstDone (port req : Nat) : List Waiter → List Waiter
  | [] => []
  | w :: l =>
    if w.port == port && w.requester == req then (if w.bursts.length ≤ 1 then l else { w with bursts := w.bursts.drop 1 } :: l)
    else w :: burstDone port req l

/-- A tenure granted and counted (R801). -/
def Dev.grant (e : Env) (d : Dev) (port : Nat) (w : Waiter) : Dev :=
  let r := w.requester
  { (d.inc O.MEM_ARB_GRANTS r) with
    mem := { d.mem with owner := tset none d.mem.owner port (some r), left := tset 0 d.mem.left port (d.o O.MEM_ARB_QUANTUM r),
                        grantAt := tset 0 d.mem.grantAt port e.now } }

/-- A request's wait counted: from its arrival at the port to its grant, the start of the tenure that serves it, and nothing
where it came during that tenure (R801; when a tenure's requests are counted is the model's choice, log entry 104). -/
def Dev.countWait (d : Dev) (port : Nat) (b : Burst) : Dev :=
  let wait := tget 0 d.mem.grantAt port - b.since
  let d := d.inc O.MEM_ARB_WAIT b.requester wait
  if d.o O.MEM_ARB_MAXWAIT b.requester < wait then d.so O.MEM_ARB_MAXWAIT b.requester (satN 0xFFFFFFFF wait) else d

/-! ### Bank queues (R774 to R780) -/

/-- The key of a request's bank: channel × 16 + bank. -/
def Dev.bankKey (d : Dev) (b : Burst) : Nat := 16 * d.chanOf (b.blk * 256) + d.bankOf (b.blk * 256)

/-- Requests of a port's buffer enter their bank queues in order of arrival while these hold fewer than 8; one whose queue is full
waits, later ones to other banks pass it, and none to its own bank, so none to its block, does (R774, R775). An OFFLINE channel
answers its own at once (R789). Answers the requests that wait on and the queues. -/
def Dev.fillQueues (e : Env) (d : Dev) : List Burst → Tab (List Burst) → List Burst × Tab (List Burst)
  | [], q => ([], q)
  | b :: l, q =>
    if d.chOffline (d.chanOf (b.blk * 256)) then d.fillQueues e l q
    else
      let k := d.bankKey b
      if 8 ≤ (tget [] q k).length then let r := d.fillQueues e l q; (b :: r.1, r.2)
      else d.fillQueues e l (tset [] q k (tget [] q k ++ [{ b with since := e.now }]))

/-- A port's buffer emptied into the bank queues as far as they have room. -/
def Dev.drainPort (e : Env) (d : Dev) (port : Nat) : Dev :=
  let r := d.fillQueues e (tget [] d.mem.buffer port) d.mem.queue
  { d with mem := { d.mem with buffer := tset [] d.mem.buffer port r.1, queue := r.2 } }

/-- The burst that ends at a port's burst boundary: the owner's first request goes into the port's buffer. A full buffer of 32
takes none. -/
def Dev.serveBurst (e : Env) (d : Dev) (port r : Nat) : Dev :=
  match d.mem.waiting.find? (fun w => w.port == port && w.requester == r) with
  | none => d
  | some w =>
    match w.bursts with
    | [] => d
    | b :: _ =>
      if 32 ≤ (tget [] d.mem.buffer port).length then d
      else
        let d := d.countWait port b
        ({ d with mem := { d.mem with buffer := tset [] d.mem.buffer port (tget [] d.mem.buffer port ++ [b]),
                                      waiting := burstDone port r d.mem.waiting,
                                      left := tset 0 d.mem.left port (tget 0 d.mem.left port - 1) } }).drainPort e port

/-- What a bank's head request needs next. -/
inductive BankCmd where
  /-- Its row is closed: an activate. -/
  | activate
  /-- Another row is open: a precharge. -/
  | precharge
  /-- Its row is open: the burst itself, a read or a write. -/
  | column (write : Bool)
  deriving DecidableEq, Repr

/-- The next command of a head request, by the row that its bank has open. -/
def Dev.bankCmd (d : Dev) (k : Nat) (b : Burst) : BankCmd :=
  let r := tget 0 d.mem.row k
  if r == 0 then .activate else if r == d.rowAt (b.blk * 256) + 1 then .column (b.write && !b.rmw) else .precharge

/-- The head request of a bank. -/
def Dev.bankHead (d : Dev) (ch bank : Nat) : Option Burst := (tget [] d.mem.queue (16 * ch + bank)).head?

/-- Whether a head request needs the data bus in a direction. -/
def Burst.inDir (b : Burst) (write : Bool) : Bool := (b.write && !b.rmw) == write

/-- The head requests of a channel whose banks the device's timing allows a command in this slot: bit b of `timing` for bank b. -/
def Dev.headsIn (d : Dev) (ch timing : Nat) (write : Bool) : List Burst :=
  (List.range 16).filterMap (fun b => if timing.testBit b then (d.bankHead ch b).filter (fun q => q.inDir write) else none)

/-- The data bus turns after 32 bursts in one direction, earlier when no head request of that direction is ready and one of the
other is there, and at once when a head request of the other has waited 512 fabric cycles (R779). -/
def Dev.turnBus (e : Env) (d : Dev) (ch timing : Nat) : Dev :=
  let w := tget false d.mem.writes ch
  let other := (List.range 16).filterMap (fun b => (d.bankHead ch b).filter (fun q => q.inDir (!w)))
  if 32 ≤ tget 0 d.mem.turned ch || (d.headsIn ch timing w == [] && other != []) || other.any (fun q => q.since + 512 ≤ e.now) then
    { d with mem := { d.mem with writes := tset false d.mem.writes ch (!w), turned := tset 0 d.mem.turned ch 0 } }
  else d

/-- A bank may be given its head request's command in this slot: the device's timing allows it, and a burst goes in the direction
of the data bus. -/
def Dev.bankReady (d : Dev) (ch timing bank : Nat) : Bool :=
  match d.bankHead ch bank with
  | none => false
  | some q => timing.testBit bank && (match d.bankCmd (16 * ch + bank) q with
      | .column w => w == tget false d.mem.writes ch
      | _ => true)

/-- A bank's head request is urgent (R778, R794). -/
def Dev.bankUrgent (d : Dev) (ch bank : Nat) : Bool :=
  match d.bankHead ch bank with
  | none => false
  | some q => q.promoted || d.reqUrgent d.mem.own q.requester

/-- The bank that a command slot serves: of the ready ones with an urgent head request, else of all ready ones, the first in
rotating order from the channel's pointer (R777, R778). -/
def Dev.nextBank (d : Dev) (ch timing : Nat) : Option Nat :=
  let order := (List.range 16).map (fun i => (tget 0 d.mem.ptr ch + i) % 16)
  let ready := order.filter (d.bankReady ch timing)
  match ready.find? (d.bankUrgent ch) with
  | some b => some b
  | none => ready.head?

/-- The command of a bank's head request issued (R773, R777, R780): an activate is counted, a burst leaves the queue, and the read of
a read-modify-write leaves its write at the head. -/
def Dev.bankIssue (e : Env) (d : Dev) (ch bank : Nat) : Dev :=
  let k := 16 * ch + bank
  let d := { d with mem := { d.mem with ptr := tset 0 d.mem.ptr ch ((bank + 1) % 16) } }
  match tget [] d.mem.queue k with
  | [] => d
  | q :: l =>
    match d.bankCmd k q with
    | .activate =>
      { (d.inc O.MEM_CH_ACT ch) with
        mem := { d.mem with row := tset 0 d.mem.row k (d.rowAt (q.blk * 256) + 1), rowUse := tset 0 d.mem.rowUse k e.now } }
    | .precharge => { d with mem := { d.mem with row := tset 0 d.mem.row k 0 } }
    | .column _ =>
      ({ d with mem := { d.mem with queue := tset [] d.mem.queue k (if q.rmw then { q with rmw := false } :: l else l),
                                    turned := tset 0 d.mem.turned ch (tget 0 d.mem.turned ch + 1),
                                    rowUse := tset 0 d.mem.rowUse k e.now } }).drainPort e (d.portOf ch)

/-- An open row of a bank: used while its queue holds a request to it, closed 64 controller cycles after that (R780). -/
def Dev.ageRow (e : Env) (d : Dev) (k : Nat) : Dev :=
  let r := tget 0 d.mem.row k
  if r == 0 then d
  else if (tget [] d.mem.queue k).any (fun q => d.rowAt (q.blk * 256) + 1 == r) then
    { d with mem := { d.mem with rowUse := tset 0 d.mem.rowUse k e.now } }
  else if tget 0 d.mem.rowUse k + Config.rowHold ≤ e.now then { d with mem := { d.mem with row := tset 0 d.mem.row k 0 } }
  else d

/-- A channel has requests in its queues. -/
def Dev.chanQueued (d : Dev) (ch : Nat) : Bool := (List.range 16).any (fun b => (d.bankHead ch b).isSome)

/-- A command slot of a channel (R777 to R780). Which banks the device's timing allows a command is open. -/
def Dev.cmdSlot (e : Env) (d : Dev) (ch : Nat) : Dev :=
  let d := (List.range 16).foldl (fun d b => d.ageRow e (16 * ch + b)) d
  if !d.chanQueued ch || d.o O.MEM_CH_STATE ch != 1 then d
  else
    let x := d.freeVal 16
    let d := x.2.turnBus e ch x.1
    match d.nextBank ch x.1 with
    | some b => d.bankIssue e ch b
    | none => d

/-- The command slots of a step of the fabric clock, one for each channel (log entry 19). -/
def Dev.cmdSlots (e : Env) (d : Dev) : Dev :=
  if !d.pwr.fabric || d.o O.MEM_STATE != 2 then d else (List.range 8).foldl (fun d c => d.cmdSlot e c) d

/-- The tenure of a port's owner goes on (R795, R797): bursts left, a request ready, no urgent one before it. -/
def Dev.tenure (d : Dev) (own : List Nat) (port r : Nat) : Bool :=
  match d.mem.waiting.find? (fun w => w.port == port && w.requester == r) with
  | none => false
  | some w => 0 < tget 0 d.mem.left port &&
      (d.urgent own w || !d.mem.waiting.any (fun x => x.port == port && x.requester != r && d.urgent own x))

/-- ARB_HANDOVER (R796 to R799): at a burst boundary of a port. -/
def Dev.handover (e : Env) (d : Dev) (port : Nat) (own : List Nat) : Dev :=
  if 4 ≤ port then d
  else
    let prev := (tget none d.mem.owner port)
    let d := { d with mem := { d.mem with own := own } }
    let d := match prev with
      | some r => d.serveBurst e port r
      | none => d
    let keeps := match prev with
      | some r => d.tenure own port r
      | none => false
    if keeps then d
    else
      match d.nextOwner own port (prev.getD 15) with
      | some w => d.grant e port w
      | none => { d with mem := { d.mem with left := tset 0 d.mem.left port 0 } }

/-- The first request of a list that is not yet promoted becomes so; none where it came after `due`. -/
def promoteFirst (due : Nat) : List Burst → Option (List Burst)
  | [] => none
  | b :: l =>
    if b.promoted then (promoteFirst due l).map (b :: ·)
    else if b.since ≤ due then some ({ b with promoted := true } :: l) else none

/-- REQUEST_PROMOTION (R794): the requester's oldest request at the port that has not been promoted, once it has waited. -/
def Dev.promote (e : Env) (d : Dev) (port req : Nat) : Dev :=
  match d.mem.waiting.find? (fun w => w.port == port && w.requester == req) with
  | none => d
  | some w =>
    if e.now < d.o O.MEM_ARB_PROMOTE then d
    else
      match promoteFirst (e.now - d.o O.MEM_ARB_PROMOTE) w.bursts with
      | none => d
      | some l =>
        ({ d with mem := { d.mem with waiting := d.mem.waiting.map (fun (x : Waiter) =>
            if x.port == port && x.requester == req then { x with bursts := l } else x) } }).inc O.MEM_ARB_PROMOTIONS req

/-- The wait hint of a requester at a port (R800). -/
def Dev.waitHint (d : Dev) (own : List Nat) (port req : Nat) : Nat :=
  let prev := (tget none d.mem.owner port).getD 15
  let all := d.mem.waiting.filter (fun w => w.port == port)
  let mine := all.any (fun w => w.requester == req && d.urgent own w)
  let before := all.filter (fun w => w.requester != req &&
    ((d.urgent own w && !mine) || (d.urgent own w == mine && rotDist prev w.requester < rotDist prev req)))
  satN 1023 (4 * tget 0 d.mem.left port + before.foldl (fun n w => n + 4 * d.o O.MEM_ARB_QUANTUM w.requester) 0)

/-! ### Self-refresh (R783, R784) -/

/-- The last retained address (R783). -/
def Dev.retainedTop (d : Dev) : Nat := d.capacity / 2 ^ (3 - min 2 (d.o O.MEM_PASR)) - 1

/-- Self-refresh entered: queued requests are complete, and all beyond the retained part is undefined from now on. -/
def Dev.selfRefresh (d : Dev) : Dev :=
  if d.found == 0 then d.gLose 0 0x200000000
  else
    let d := (d.so O.MEM_STATE 0 3).gLose (d.retainedTop + 1) 0x200000000
    { d with mem := d.mem.clearQueues }

end Sys2Proof.Machine
end

