-- ==== Sys2Proof/Machine/Housekeeping.lean ====
section
/-! DEFINITION. Housekeeping conversion and thermal protection (chapter 16): the sequencer and its ring, urgent conversions,
correction and formats, windows, the VHV check, and the temperature stages. -/

namespace Sys2Proof.Machine

/-! ### Inputs (Table 16-1) -/

/-- An input is differential. -/
def hkDiff (i : Nat) : Bool := 16 ≤ i && i ≤ 23

/-- An input lies on die 1. -/
def hkDie1 (i : Nat) : Bool := (24 ≤ i && i ≤ 31) || [38, 39, 40, 41, 45].contains i

/-- The full scale of an input in V, or A for HK_46; of a differential input its whole span. One LSB is a 65,536th of it. -/
def hkScale (i : Nat) : Rat :=
  if 24 ≤ i && i ≤ 31 then 80
  else if i == 33 || i == 34 || i == 36 || i == 37 || i == 45 then 5
  else if i == 38 || i == 40 then 80
  else if i == 39 then 10
  else if i == 41 then 40
  else if i == 46 then 25
  else 5 / 2

/-- The ends of an input's raw range (R807). -/
def hkLo (i : Nat) : Int := if hkDiff i then -32768 else 0
def hkHi (i : Nat) : Int := if hkDiff i then 32767 else 65535

/-- The corrected result before its clamp (R807). -/
def Dev.hkFix (d : Dev) (i : Nat) (c : Int) : Int :=
  divHE ((c - d.os16 O.HK_OFS i) * (d.o O.HK_GAIN i : Int)) 32768

/-- The corrected result (R807). -/
def Dev.hkVal (d : Dev) (i : Nat) (c : Int) : Int := clampI (hkLo i) (hkHi i) (d.hkFix i c)

/-- The conversion is clipped (R808). -/
def Dev.hkClipped (d : Dev) (i : Nat) (c : Int) : Bool := c ≤ hkLo i || hkHi i ≤ c || d.hkFix i c != d.hkVal i c

/-- A result in a format of Table 16-2: what HK_VALUE and HK_NOW read (R810). -/
def hkFormat (fmt i : Nat) (v : Int) : Nat :=
  let h := ofS 16 v
  let o := if hkDiff i then h ^^^ 0x8000 else h
  if fmt == 1 then o * 65536 else if fmt == 2 then o else ofS 32 v

/-- The natural logarithm of a positive number. -/
def lnPos (y : Rat) : Rat := if 1 ≤ y then lnGe1 y else -lnGe1 (1 / y)

/-- The temperature of an NTC input in °C (R813): none where its logarithm or a denominator has no value. -/
def Dev.ntcTemp (d : Dev) (i : Nat) (v : Int) : Option Rat :=
  let x : Rat := (v : Rat) / 65536
  if v ≤ 0 || 65536 ≤ v then none
  else
    let r := (d.o O.HK_NTC_RDIV i : Rat) * x / (1 - x)
    let k := 100 / (29815 : Rat) + lnPos (r / (d.o O.HK_NTC_R25 i : Rat)) / (d.o O.HK_NTC_BETA i : Rat)
    if k == 0 then none else some (1 / k - 27315 / 100)

/-- HK_PHYS after a result (R811, R813). -/
def Dev.hkPhys (d : Dev) (i : Nat) (v : Int) (clipped : Bool) : Dev :=
  if d.o O.HK_UNIT i == 0 then d.so O.HK_PHYS i (f32Of ((v : Rat) * hkScale i / 65536))
  else if clipped then d
  else
    match d.ntcTemp i v with
    | some t => d.so O.HK_PHYS i (f32Of t)
    | none =>
      let p := d.freeVal 32
      p.2.so O.HK_PHYS i p.1

/-! ### Windows (R835, R836) -/

/-- The location of a housekeeping input's entry. -/
def hkLoc (i cell : Nat) : Nat := locCode (b2n (hkDie1 i)) 14 (16 + i) 63 127 cell

/-- HK_LIM_N results beyond one side of the window. -/
def Dev.hkBeyond (e : Env) (d : Dev) (i cell : Nat) : Dev :=
  let cls := d.o O.HK_LIM_CLASS i
  if tget 0 d.hk.logged i == 1 then d.logRepeat e (0x0E00 + cell) (hkLoc i cell) cls
  else ({ d with hk := { d.hk with logged := tset 0 d.hk.logged i 1 } }).log e (0x0E00 + cell) (hkLoc i cell) cls

/-- The window of an input compared with its HK_PHYS. -/
def Dev.hkWindowCheck (e : Env) (d : Dev) (i : Nat) : Dev :=
  let n := d.o O.HK_LIM_N i
  if n == 0 then d
  else
    let x := d.of32 O.HK_PHYS i
    if x < d.of32 O.HK_LIM_LO i then
      let b := tget 0 d.hk.below i + 1
      let d := { d with hk := { d.hk with above := tset 0 d.hk.above i 0, below := tset 0 d.hk.below i (if n ≤ b then 0 else b) } }
      if n ≤ b then d.hkBeyond e i 8 else d
    else if d.of32 O.HK_LIM_HI i < x then
      let a := tget 0 d.hk.above i + 1
      let d := { d with hk := { d.hk with below := tset 0 d.hk.below i 0, above := tset 0 d.hk.above i (if n ≤ a then 0 else a) } }
      if n ≤ a then d.hkBeyond e i 9 else d
    else { d with hk := { d.hk with below := tset 0 d.hk.below i 0, above := tset 0 d.hk.above i 0,
                                    logged := tset 0 d.hk.logged i 0 } }

/-! ### Results of housekeeping inputs -/

/-- Hawkmoth's check of HK_38 against the comparator of R229 (R829). -/
def Dev.vhvAgree (e : Env) (d : Dev) : Dev :=
  let x := d.of32 O.HK_PHYS 38
  let bad := if d.vhvOut then 11 < x && x < 47 else x < 9 || 49 < x
  let n := if bad then d.hk.vhvBad + 1 else 0
  let d' := { d with hk := { d.hk with vhvBad := if 3 ≤ n then 0 else n } }
  if 3 ≤ n then d'.log e 0x0E0A (hkLoc 38 10) 2 else d'

/-- A conversion of an HK input has ended with a raw code: value in the native format, clip count and window (R807 to R813, R827,
R835). A code outside the converter's range is taken at its end. -/
def Dev.hkResult (e : Env) (d : Dev) (i : Nat) (c : Int) : Dev :=
  let c := clampI (hkLo i) (hkHi i) c
  let v := d.hkVal i c
  let clip := d.hkClipped i c
  let d := if clip then d.inc O.HK_CLIP i else d
  let d := (d.so O.HK_VALUE i (ofS 32 v)).so O.HK_TIME i e.now
  (d.hkPhys i v clip).hkWindowCheck e i

/-- The ring entry of a sequence conversion (Table 16-4). -/
def Dev.ringEntry (d : Dev) (adc : Nat) (cv : Conv) (c : Int) (ent : Nat) : Nat :=
  let c := clampI (hkLo cv.input) (hkHi cv.input) c
  let tag := d.o O.HK_RING_COUNT / 2048 % 16
  (tag <<< 60) + (cv.input <<< 54) + (ent <<< 48) + (ofS 16 (d.hkVal cv.input c) <<< 32) + (tag <<< 28) + (adc <<< 27) +
    (b2n (d.hkClipped cv.input c) <<< 26) + (cv.start + 180) / 150 % 2 ^ 24

/-! ### The sequence table (Table 16-3) -/

/-- Sequence entry `n` as a 64-bit word. -/
def Dev.seqWord (d : Dev) (n : Nat) : Nat := d.domNat O.HK_SEQ 0 (8 * n) 8
def seqInput (w : Nat) : Nat := bits w 58 6
def seqConv (w : Nat) : Nat := bits w 56 2
def seqRepeat (w : Nat) : Nat := bits w 48 8
def seqDelay (w : Nat) : Nat := bits w 32 16
def seqRing (w : Nat) : Bool := bit w 0

/-- Whether a write of the table is accepted (R816). -/
def seqOk (bs : Bytes) : Bool :=
  (List.range (bs.length / 8)).all (fun n =>
    let w := fieldAt bs (8 * n) 8
    seqInput w ≤ 47 && seqConv w != 3 && bits w 1 31 == 0)

/-- A write of part of the table from a byte on leaves every entry acceptable. -/
def Dev.seqRunOk (d : Dev) (off : Nat) (bs : Bytes) : Bool :=
  let old := d.domBytes O.HK_SEQ 0 0 512
  seqOk (old.take off ++ bs ++ old.drop (off + bs.length))

/-- The entry after an entry in the loop (R819). -/
def Dev.seqNext (d : Dev) (ent : Nat) : Nat := if ent + 1 < d.o O.HK_SEQ_LEN then ent + 1 else 0

/-- HK_SEQ_POS. -/
def Dev.seqPos (d : Dev) (ent rep : Nat) : Dev := d.so O.HK_SEQ_POS 0 (256 * ent + rep)

/-- A repeat has completed: the position moves on, and a loop is counted with its round of bias targets (R324, R819). -/
def Dev.repeatDone (e : Env) (d : Dev) (ent rep : Nat) : Dev :=
  if rep < seqRepeat (d.seqWord ent) then d.seqPos ent (rep + 1)
  else
    let n := d.seqNext ent
    let d := d.seqPos n 0
    if n == 0 then (d.inc O.HK_LOOPS).biasRound e else d

/-- The sequencer runs. -/
def Dev.seqRuns (d : Dev) : Bool := d.o O.HK_STATE == 1 && !d.hk.stopping && d.pwr.mode = .up

/-- A converter's conversion is of the sequence. -/
def isSeq (c : Option Conv) : Bool :=
  match c with
  | some x => x.seqEnt.isSome
  | none => false

/-- A converter's conversion is urgent. -/
def isUrgent (c : Option Conv) : Bool :=
  match c with
  | some x => x.seqEnt.isNone
  | none => false

/-- A converter's conversion is an urgent one that began during a DELAY (R826). -/
def inDelay (c : Option Conv) : Bool :=
  match c with
  | some x => x.inDelay
  | none => false

/-- The converters that a repeat needs are free of other work, and no urgent conversion that began in the DELAY before it runs
(R826). -/
def Dev.seqFree (d : Dev) (conv : Nat) : Bool :=
  !inDelay d.hk.adc0 && !inDelay d.hk.adc1 &&
    (match conv with
     | 0 => d.hk.adc0.isNone
     | 1 => d.hk.adc1.isNone
     | _ => d.hk.adc0.isNone && d.hk.second.isNone && !isUrgent d.hk.adc1)

/-- A converter is done with a conversion of a die-1 input, whose result comes 200 ns later (R806). -/
def overtaken (e : Env) (c : Option Conv) : Bool :=
  match c with
  | some x => hkDie1 x.input && decide (x.start + 600 ≤ e.now)
  | none => false

/-- The converter `n` of a conversion that goes over to the link. -/
def lateOf (n : Nat) (c : Option Conv) : List (Nat × Conv) :=
  match c with
  | some x => [(n, x)]
  | none => []

/-- The conversion of an interrupted repeat abandoned, on both converters (R824). -/
def Dev.interrupt (d : Dev) (ent rep : Nat) : Dev :=
  let mine := fun (c : Option Conv) => match c with
    | some x => if x.seqEnt == some (ent, rep) then none else c
    | none => none
  ({ d with hk := { d.hk with ent := ent, rep := rep, again := true, adc1 := mine d.hk.adc1, second := none } }).inc O.HK_PREEMPTS

/-- The next urgent request starts where a converter is idle or its conversion may be abandoned (R823). -/
def Dev.urgentStart (e : Env) (d : Dev) : Dev :=
  match d.hk.urgent with
  | [] => d
  | u :: rest =>
    let cv : Conv := { input := u.input, seqEnt := none, src := u.src, start := e.now,
                       inDelay := !isSeq d.hk.adc0 && !isSeq d.hk.adc1 && d.hk.second.isNone && !d.hk.again }
    match d.hk.adc0 with
    | none => { d with hk := { d.hk with adc0 := some cv, urgent := rest } }
    | some x =>
      if d.hk.adc1.isNone then { d with hk := { d.hk with adc1 := some cv, urgent := rest } }
      else
        match x.seqEnt with
        | some (ent, rep) =>
          let d := d.interrupt ent rep
          { d with hk := { d.hk with adc0 := some cv, urgent := rest } }
        | none => d

/-- After a conversion: the next urgent request, the interrupted repeat, the sequencer's stop. -/
def Dev.hkAfter (e : Env) (d : Dev) : Dev :=
  let d := d.urgentStart e
  let d := if d.hk.again && !isUrgent d.hk.adc0 && !isUrgent d.hk.adc1 then
    { d with hk := { d.hk with again := false, due := e.now } } else d
  if d.hk.stopping && !isSeq d.hk.adc0 && !isSeq d.hk.adc1 && d.hk.second.isNone then
    { (d.so O.HK_STATE 0 0) with hk := { d.hk with stopping := false, again := false } }
  else d

/-- The converters that are done with a die-1 input are free again: their results come from the link (R806), and what waits for
the end of a conversion goes on. -/
def Dev.hkShift (e : Env) (d : Dev) : Dev :=
  let o0 := overtaken e d.hk.adc0
  let o1 := overtaken e d.hk.adc1
  if !o0 && !o1 then d
  else
    let late := d.hk.late ++ (if o0 then lateOf 0 d.hk.adc0 else []) ++ (if o1 then lateOf 1 d.hk.adc1 else [])
    ({ d with hk := { d.hk with late := late, adc0 := if o0 then none else d.hk.adc0,
                                adc1 := if o1 then d.hk.second else d.hk.adc1,
                                second := if o1 then none else d.hk.second } }).hkAfter e

/-- HK_REPEAT_START (R817, R818). -/
def Dev.hkRepeat (e : Env) (d : Dev) : Dev :=
  let d := d.hkShift e
  let ent := d.hk.ent
  let w := d.seqWord ent
  if !d.seqRuns || e.now < d.hk.due || d.hk.urgent != [] || d.hk.again || !d.seqFree (seqConv w) then d
  else
    let cv : Conv := { input := seqInput w, seqEnt := some (ent, d.hk.rep), src := 0, start := e.now }
    let cv1 : Conv := { cv with start := e.now + 300 }
    let last := seqRepeat w ≤ d.hk.rep
    let h := { d.hk with ent := if last then d.seqNext ent else ent, rep := if last then 0 else d.hk.rep + 1,
                         due := e.now + 600 + 150 * seqDelay w }
    if seqConv w == 0 then { d with hk := { h with adc0 := some cv } }
    else if seqConv w == 1 then { d with hk := { h with adc1 := some cv } }
    else if h.adc1.isNone then { d with hk := { h with adc0 := some cv, adc1 := some cv1 } }
    else { d with hk := { h with adc0 := some cv, second := some cv1 } }

/-! ### Urgent requests (R822 to R827) -/

/-- A request put behind those of its own and higher rank. -/
def urgIns (u : Urgent) : List Urgent → List Urgent
  | [] => [u]
  | x :: l => if u.src < x.src then u :: x :: l else x :: urgIns u l

/-- An urgent request made. -/
def Dev.urgentReq (e : Env) (d : Dev) (src input : Nat) : Dev :=
  let d := d.hkShift e
  ({ d with hk := { d.hk with urgent := urgIns { src := src, input := input } d.hk.urgent } }).urgentStart e

/-- The clocks run and the device is not parked or parking (R854). -/
def Dev.hkAlive (d : Dev) : Bool := d.pwr.mode = .up && d.o O.SU_STATE != 8

/-- THERMAL_ROUND (R837): TS_t is requested once in each millisecond of device time, from t times 62.5 µs into it on. -/
def Dev.thermalRound (e : Env) (d : Dev) (t : Nat) : Dev :=
  let ms := e.now / 1500000
  if t < 16 && d.hkAlive && decide (93750 * t ≤ e.now % 1500000) && tget 0 d.hk.rounds t ≤ ms then
    ({ d with hk := { d.hk with rounds := tset 0 d.hk.rounds t (ms + 1) } }).urgentReq e 1 (0x100 + t)
  else d

/-- HM_VHV_CHECK (R829): once at each entry to ARMING, and every 10 ms while ARMED or in HOLD. -/
def Dev.vhvCheck (e : Env) (d : Dev) : Dev :=
  let st := d.o O.HM_STATE
  if d.hkAlive && (d.hk.vhvArm || ((st == 2 || st == 3) && d.hk.vhvAt ≤ e.now)) then
    ({ d with hk := { d.hk with vhvAt := e.now + 15000000, vhvArm := false } }).urgentReq e 0 38
  else d

/-- HK_RUN written 0 (R820). -/
def Dev.hkStop (e : Env) (d : Dev) : Dev :=
  let d := (d.so O.HK_RUN 0 0).hkShift e
  if isSeq d.hk.adc0 || isSeq d.hk.adc1 then { d with hk := { d.hk with stopping := true } }
  else { (d.so O.HK_STATE 0 0) with hk := { d.hk with second := none, again := false } }

/-- HK_RUN written 1 (R820): the sequencer restarts at entry 0, repeat 1. -/
def Dev.hkStart (e : Env) (d : Dev) : Dev :=
  if d.ob O.HK_RUN && d.o O.HK_STATE == 1 && !d.hk.stopping then d
  else
    { ((d.so O.HK_RUN 0 1).so O.HK_STATE 0 1).seqPos 0 0 with
      hk := { d.hk with ent := 0, rep := 0, due := e.now, again := false, stopping := false } }

/-! ### Temperatures (R837 to R847) -/

/-- The location of a thermal entry: the sensor's die and number, and a cell of Table 16-5. -/
def thmLoc (t cell : Nat) : Nat := locCode (b2n (12 ≤ t)) 14 t 63 127 cell

/-- The threshold of stage `k` of a sensor: WARN, THROTTLE 1 to 3, SHED. -/
def Dev.stageT (d : Dev) (k t : Nat) : Int := d.os16 (O.THM_WARN_T + k) t

/-- The stages a sensor is in after a result (R843). -/
def Dev.stagesAt (d : Dev) (t : Nat) (temp : Int) : Nat :=
  let was := tget 0 d.hk.stages t
  (List.range 5).foldl (fun m k =>
    setBit m k (if bit was k then d.stageT k t - (d.o O.THM_HYST : Int) ≤ temp else d.stageT k t ≤ temp)) 0

/-- The temperature level of a set of stages. -/
def levelOf (m : Nat) : Nat := if bit m 3 then 3 else if bit m 2 then 2 else if bit m 1 then 1 else 0

/-- THM_STATUS of a set of stages. -/
def statusOf (m : Nat) : Nat := if bit m 4 then 3 else if 0 < levelOf m then 2 else if bit m 0 then 1 else 0

/-- A sensor enters SHED (R845): Jacquard stops after the frame and every digitiser slice powers down. -/
def Dev.shed (e : Env) (d : Dev) (t : Nat) : Dev :=
  let d := (d.inc O.THM_SHED_EVENTS).log e 0x0E03 (thmLoc t 3) 4
  let d := (List.range 32).foldl (fun d s => if d.ob O.DG_POWER s then d.digiOff e s else d) d
  d.jqStop e 2

/-- A sensor enters a stage. -/
def Dev.stageEnter (e : Env) (d : Dev) (t k : Nat) : Dev :=
  if k == 4 then d.shed e t else if k == 0 then d.log e 0x0E00 (thmLoc t 0) 1 else d.log e 0x0E01 (thmLoc t 1) 1

/-- Some sensor is in SHED (R846). -/
def Dev.anyShed (d : Dev) : Bool := (List.range 16).any (fun t => bit (tget 0 d.hk.stages t) 4)

/-- The level that thermal protection requests (R844). -/
def Dev.thermalReq (d : Dev) : Dev :=
  let lev := (List.range 16).foldl (fun m t => if bit d.hk.failed t then m else max m (levelOf (tget 0 d.hk.stages t))) 0
  d.so O.THM_THROTTLE_REQ 0 (max lev (if d.ob O.THM_ROR_EN then d.hk.rate else 0))

/-- The stages of a sensor that is OK (R843). -/
def Dev.stageStep (e : Env) (d : Dev) (t : Nat) (temp : Int) : Dev :=
  let was := tget 0 d.hk.stages t
  let m := d.stagesAt t temp
  let d := { (d.so O.THM_STATUS t (statusOf m)) with hk := { d.hk with stages := tset 0 d.hk.stages t m } }
  ((List.range 5).filter (fun k => bit m k && !bit was k)).foldl (fun d k => d.stageEnter e t k) d

/-- THM_RATE of a sensor with 108 results (R841). -/
def rateOf (l : List Int) : Int :=
  let sum := fun (x : List Int) => x.foldl (· + ·) 0
  divHE (10 * (sum (l.take 8) - sum ((l.drop 100).take 8))) 8

/-- The sensor with the largest rate of those that are OK and have 108 results. -/
def Dev.topRate (e : Env) (d : Dev) : Option (Nat × Int) :=
  let _ := e
  (List.range 16).foldl (fun (m : Option (Nat × Int)) t =>
    if bit d.hk.failed t || (tget [] d.hk.hist t).length < 108 then m
    else
      let r := d.os16 O.THM_RATE t
      match m with
      | some (_, x) => if x < r then some (t, r) else m
      | none => some (t, r)) none

/-- The rate level (R842): entered at 1, 2 or 4 times the limit, left below 0.8 times that. -/
def Dev.rateLevel (d : Dev) (rate : Int) : Nat :=
  let lim : Int := d.o O.THM_ROR_LIMIT
  let on := fun (l : Nat) (m : Int) => m * lim ≤ rate || (l ≤ d.hk.rate && 4 * m * lim ≤ 5 * rate)
  if on 3 4 then 3 else if on 2 2 then 2 else if on 1 1 then 1 else 0

/-- The rate level after a result, its events and entries. -/
def Dev.rateStep (e : Env) (d : Dev) : Dev :=
  if !d.ob O.THM_ROR_EN then { d with hk := { d.hk with rate := 0 } }
  else
    match d.topRate e with
    | none => { d with hk := { d.hk with rate := 0 } }
    | some (t, r) =>
      let l := d.rateLevel r
      let rises := d.hk.rate < l
      let d := { d with hk := { d.hk with rate := l } }
      if !rises then d
      else
        let d := d.inc O.THM_ROR_EVENTS
        let quiet := match d.hk.rateLog with
          | some x => decide (e.now < x + 15000000000)
          | none => false
        if quiet then d.logRepeat e 0x0E02 (thmLoc t 2) 1
        else ({ d with hk := { d.hk with rateLog := some e.now } }).log e 0x0E02 (thmLoc t 2) 1

/-- A sensor's result outside the range of R839: the third in a row makes it FAILED. -/
def Dev.sensorOut (e : Env) (d : Dev) (t : Nat) : Dev :=
  let n := tget 0 d.hk.outside t + 1
  let d := { d with hk := { d.hk with outside := tset 0 d.hk.outside t n, inside := tset 0 d.hk.inside t 0 } }
  if n == 3 && !bit d.hk.failed t then
    ({ (d.so O.THM_STATUS t 4) with hk := { d.hk with failed := setBit d.hk.failed t true, stages := tset 0 d.hk.stages t 0 } }).log e
      0x0E05 (thmLoc t 5) 2
  else d

/-- A sensor's result inside the range: the hundredth in a row ends FAILED (R840). -/
def Dev.sensorIn (d : Dev) (t : Nat) : Dev :=
  let n := tget 0 d.hk.inside t + 1
  let d := { d with hk := { d.hk with outside := tset 0 d.hk.outside t 0, inside := tset 0 d.hk.inside t (min n 100) } }
  if 100 ≤ n && bit d.hk.failed t then
    { (d.so O.THM_STATUS t 0) with hk := { d.hk with failed := setBit d.hk.failed t false } }
  else d

/-- A sensor's conversion has ended with a temperature in 0.1 °C (R838 to R844): what follows from it. -/
def Dev.sensorResult (e : Env) (d : Dev) (t : Nat) (temp : Int) : Dev :=
  let temp := clampI (-32768) 32767 temp
  let h := (temp :: tget [] d.hk.hist t).take 108
  let d := { (d.so O.THM_TEMP t (ofS 16 temp)) with hk := { d.hk with hist := tset [] d.hk.hist t h } }
  let d := if d.os16 O.THM_MAX t < temp then d.so O.THM_MAX t (ofS 16 temp) else d
  let d := if h.length == 108 then d.so O.THM_RATE t (ofS 16 (clampI (-32768) 32767 (rateOf h))) else d
  let d := if temp < -550 || 2000 < temp then d.sensorOut e t else d.sensorIn t
  let d := if bit d.hk.failed t then d else d.stageStep e t temp
  let d := ((d.rateStep e).thermalReq).calTempDue e t
  if t == 15 then d.biasRound e else d

/-- Whether a sensor's thresholds stand in order (R847), with one of them replaced. -/
def thrOrder (get : Nat → Int) : Bool := (List.range 4).all (fun k => get k ≤ get (k + 1))

/-! ### The end of a conversion -/

/-- A sequence conversion's ring entry and repeat (R830 to R833). -/
def Dev.seqResult (e : Env) (d : Dev) (adc : Nat) (cv : Conv) (c : Int) (ent rep : Nat) : Dev :=
  let w := d.seqWord ent
  let d :=
    if seqRing w then
      (d.setDom O.HK_RING 0 (8 * (d.o O.HK_RING_COUNT % 2048)) (leBytes 8 (d.ringEntry adc cv c ent))).inc O.HK_RING_COUNT
    else d
  let d := d.hkResult e cv.input c
  if seqConv w == 2 && adc == 0 then d else d.repeatDone e ent rep

/-- An urgent conversion's result. -/
def Dev.urgentResult (e : Env) (d : Dev) (cv : Conv) (c : Int) : Dev :=
  if 0x100 ≤ cv.input then d.sensorResult e (cv.input - 0x100) c
  else
    let d := d.hkResult e cv.input c
    if cv.src == 0 then d.vhvAgree e else d

/-- The result of a conversion. -/
def Dev.convResult (e : Env) (d : Dev) (adc : Nat) (cv : Conv) (c : Int) : Dev :=
  match cv.seqEnt with
  | some (ent, rep) => d.seqResult e adc cv c ent rep
  | none => d.urgentResult e cv c

/-- HK_CONVERSION_DONE (R804, R806): 400 ns after its start, or for a die-1 input 600 ns, with the raw code, or for a sensor its
temperature in 0.1 °C. A result that the link still carries comes before that of the converter's next conversion. -/
def Dev.hkDone (e : Env) (d : Dev) (adc : Nat) (c : Int) : Dev :=
  let d := d.hkShift e
  match d.hk.late.find? (fun x => x.1 == adc) with
  | some x =>
    if e.now < x.2.start + 900 then d
    else (({ d with hk := { d.hk with late := d.hk.late.erase x } }).convResult e adc x.2 c).hkAfter e
  | none =>
    match (if adc == 0 then d.hk.adc0 else if adc == 1 then d.hk.adc1 else none) with
    | none => d
    | some cv =>
      if e.now < cv.start + 600 then d
      else
        let d := if adc == 0 then { d with hk := { d.hk with adc0 := none } }
          else { d with hk := { d.hk with adc1 := d.hk.second, second := none } }
        (d.convResult e adc cv c).hkAfter e

/-- One element of a READ of HK_NOW converted (R828): a code that is not given is free. -/
def Dev.hkNowOne (e : Env) (d : Dev) (i : Nat) (c : Option Int) : Dev :=
  let d := d.hkShift e
  let d := match d.hk.adc0, d.hk.adc1 with
    | some x, some _ => (match x.seqEnt with
      | some (ent, rep) => { (d.interrupt ent rep) with hk := { (d.interrupt ent rep).hk with adc0 := none, again := false, due := e.now } }
      | none => d)
    | _, _ => d
  match c with
  | some c => d.hkResult e i c
  | none =>
    let p := d.freeVal 16
    p.2.hkResult e i (hkLo i + (p.1 : Int))

/-- HK_NOW's values of a run: each element converted urgently, in element order, then sampled. -/
def Dev.hkNow (e : Env) (d : Dev) (el n : Nat) (codes : List Int) : Dev :=
  (List.range n).foldl (fun d k => d.hkNowOne e (el + k) (codes[k]?)) d

/-! ### Hardware shutdown (R848, R849) -/

/-- THERMAL_SHUTDOWN_TRIP: instant, sensor and count in the always-on domain; the reset state follows in Machine/Power.lean. -/
def Dev.tripRecord (e : Env) (d : Dev) (t : Nat) : Dev :=
  (d.sos [(O.THM_SD_TIME, 0, e.now), (O.THM_SD_SENSOR, 0, t)]).inc O.THM_SD_COUNT

end Sys2Proof.Machine
end

