-- ==== Sys2Proof/Machine/Power.lean ====
section
/-! DEFINITION. Supplies, power domains, clocks, reset and start-up (chapter 17): what each reset keeps, the phases of a start,
firmware images, VHV, parked mode and wake. What runs through the object protocol (the boot configuration, the held writes)
stands in Machine/Boot.lean. -/

namespace Sys2Proof.Machine

/-! ### Resets (Table 17-5, R873) -/

/-- The always-on objects. -/
def aonIdx : List Nat :=
  [O.CLK_SLOW_FAILS, O.RST_CAUSE, O.RST_COUNT, O.PWR_WAKE_EN, O.PWR_WAKE_CAUSE, O.PWR_WAKE_TIMER_S, O.PWR_GPIO_WAKE,
   O.THM_AUTO_RESTART, O.THM_SD_COUNT, O.THM_SD_TIME, O.THM_SD_SENSOR, O.DEV_TIME_SLOWSRC]

/-- The domains of Table 17-3 that are on always but in parked mode. -/
def alwaysDoms : List Nat := [82, 83, 84, 88, 89, 91, 92, 95]

/-- The defaults that the IO strap decides: the window of HK_36, ±5 % of 1.8 V where that is strapped (Table 16-1). -/
def Env.strapDflt (e : Env) (idx el : Nat) : Option Nat :=
  if e.part.ioMv != 1800 || el != 36 then none
  else if idx == O.HK_LIM_LO then some (f32Of (171 / 100))
  else if idx == O.HK_LIM_HI then some (f32Of (189 / 100))
  else none

/-- A device whose objects stand at the defaults that the IO strap decides. -/
def Dev.strapDefaults (e : Env) (d : Dev) : Dev :=
  [O.HK_LIM_LO, O.HK_LIM_HI].foldl (fun d i => match e.strapDflt i 36 with
    | some v => d.so i 36 v
    | none => d) d

/-- A device whose objects are at their defaults but for the always-on ones; balls, flash and the counter of free values go on. -/
def Dev.fresh (e : Env) (d : Dev) : Dev :=
  let n : Dev :=
    { objs := d.objs.filter (fun p => aonIdx.contains (p.1 / 4096)), flash := d.flash, gddr := d.gddr, free := d.free,
      doms := d.doms.filter (fun p => p.1 / 0x2000000 == okey O.CAL_FACTORY_STORE 0),
      sent := d.sent,
      em := { vhvMv := d.em.vhvMv },
      hm := { emitEn := d.hm.emitEn, lastEmit := d.hm.lastEmit, fwAt := e.now, hostAt := e.now, compareAt := e.now,
              steps := [(0, e.now / 1500), (1, e.now / 150000), (2, e.now / 15000000)] },
      rx := { blankLow := d.rx.blankLow, vhvLow := d.rx.vhvLow },
      cal := { slotA := d.cal.slotA, slotB := d.cal.slotB, factory := d.cal.factory, factoryLen := d.cal.factoryLen,
               badSlots := d.cal.badSlots, retained := d.cal.retained },
      mem := { undef := d.mem.undef, epoch := d.mem.epoch, filled := d.mem.filled, trained := d.mem.trained, rate := d.mem.rate },
      pwr := { lockout := d.pwr.lockout, copy := d.pwr.copy, supCause := d.pwr.supCause, supCore := d.pwr.supCore,
               kind := d.pwr.kind } }
  (n.so O.PWR_VHV_STATE 0 d.pwr.lockout).strapDefaults e

/-- A field slot that a reset cuts while it is written is no longer valid. -/
def Dev.cutFlash (d : Dev) : Dev :=
  if d.pwr.flashOp == 2 then
    let cut := d.cal.writing.map (fun (x : CalStore) => { x with sound := false })
    (if d.pwr.flashArg == 0 then { d with cal := { d.cal with slotA := cut, badSlots := setBit d.cal.badSlots 0 true } }
     else { d with cal := { d.cal with slotB := cut, badSlots := setBit d.cal.badSlots 1 true } })
  else if d.pwr.flashOp == 3 then
    let cut := Option.map (fun (x : CalStore) => { x with sound := false })
    { d with cal := { d.cal with slotA := cut d.cal.slotA, slotB := cut d.cal.slotB, badSlots := 3 } }
  else d

/-- What every reset but a warm start takes from GDDR7: its content and all that was retained there. -/
def Dev.loseGddr (d : Dev) : Dev :=
  let d := d.gLose 0 0x200000000
  { d with mem := { d.mem with trained := none, rate := 0 }, cal := { d.cal with retained := none }, pwr := { d.pwr with copy := none } }

/-- Fuse load begins: the domains that are always on start their ramps, and the entry of the reset is delivered (R918). -/
def Dev.fuseStart (e : Env) (d : Dev) : Dev :=
  let k := d.pwr.kind
  let d := d.sos [(O.SU_STATE, 0, 0), (O.SU_START_KIND, 0, if k == 7 then 1 else if k == 5 || k == 6 then 2 else 0)]
  let d := { d with pwr := { d.pwr with mode := .up, phaseAt := e.now, fuseAt := e.now, pwrEn := true }, hk := { d.hk with due := e.now } }
  let d := alwaysDoms.foldl (fun d n => d.domOn e n) d
  let rec_ := fun (code cell slice cls time : Nat) =>
    d.deliver { time := time, loc := locCode 0 14 63 63 slice cell, code := code, cls := cls, injected := false, detail := k, reps := 0 }
  if k == 1 then rec_ 0x0E14 20 127 0 e.now
  else if k == 2 then rec_ 0x0E15 21 127 0 e.now
  else if k == 3 then rec_ 0x0E16 22 127 0 e.now
  else if k == 4 then
    (if d.pwr.supCause == 0 then rec_ 0x0E17 23 d.pwr.supCore 5 e.now
     else if d.pwr.supCause == 1 then rec_ 0x0E18 24 d.pwr.supCore 5 e.now
     else rec_ 0x0E19 25 127 5 e.now)
  else if k == 5 then rec_ 0x0E1A 26 127 5 e.now
  else if k == 6 then
    d.deliver { time := d.o O.THM_SD_TIME, loc := thmLoc (d.o O.THM_SD_SENSOR) 4, code := 0x0E04, cls := 5, injected := false,
                detail := k, reps := 0 }
  else d

/-- A reset of a kind from 2 on: what it keeps, its cause and its count. `mode` is where start-up resumes. -/
def Dev.resetTo (e : Env) (d : Dev) (k : Nat) (mode : PMode) : Dev :=
  let d := d.cutFlash.fresh e
  let d := if k == 7 then d else d.loseGddr
  let d := (d.so O.RST_CAUSE 0 k).inc O.RST_COUNT k
  let d := { d with pwr := { d.pwr with kind := k, mode := mode, warm := k == 7 } }
  if mode = .up then d.fuseStart e else d

/-- The device after a power-on reset: device time is 0, the always-on objects are at their defaults. -/
def Dev.powerOn (e : Env) (d : Dev) : Dev :=
  let d := { (d.cutFlash.fresh e).loseGddr with objs := [] }
  let d := (d.so O.PWR_VHV_STATE 0 d.pwr.lockout).strapDefaults e
  { d with hm := { emitEn := d.hm.emitEn }, pwr := { lockout := d.pwr.lockout, kind := 1 } }

/-- Where a reset resumes: the rails must be awaited after parked mode or a shutdown, the reference in a clock reset. -/
def PMode.after (m : PMode) : PMode :=
  match m with
  | .up => .up
  | .clock => .clock
  | _ => .rails

/-- RESET_N_LOW (R872, R875). -/
def Dev.resetN (e : Env) (d : Dev) : Dev := d.resetTo e 2 d.pwr.mode.after

/-- The response to the write of RST_REQ has left, or the millisecond of R874 ends. -/
def Dev.rstNow (e : Env) (d : Dev) (s t : Nat) : Bool :=
  t + 1400000 ≤ e.now ||
    (if s == 3 then !(d.link.txq.any (fun p => p.kind == 1)) && !(d.link.part.any (fun x => x.pkt.kind == 1)) &&
        (match d.link.flight with
         | some (p, _) => p.kind != 1 || d.link.endAt ≤ e.now
         | none => true)
     else if s == 2 then (tget2 d s).outq == []
     else true)
where
  /-- A session, empty where there is none. -/
  tget2 (d : Dev) (s : Nat) : Ses := (d.ses[s]?).getD {}

/-- The software reset that is due (R874). -/
def Dev.rstStep (e : Env) (d : Dev) : Dev :=
  match d.pwr.rstDue with
  | some (s, t) => if d.rstNow e s t then d.resetTo e 3 .up else d
  | none => d

/-- SUPERVISOR_RESET: lockstep, watchdog, or a supply below its threshold, which start-up then awaits (R858). -/
def Dev.supReset (e : Env) (d : Dev) (cause core : Nat) : Dev :=
  if d.pwr.mode = .up then
    ({ d with pwr := { d.pwr with supCause := min cause 2, supCore := core % 4 } }).resetTo e 4 (if 2 ≤ cause then .rails else .up)
  else d

/-- CLOCK_LOSS (R869). -/
def Dev.clockLoss (e : Env) (d : Dev) : Dev := if d.pwr.mode = .up then d.cutDrive.resetTo e 5 .clock else d

/-- THERMAL_SHUTDOWN_TRIP (R848, R849): every domain off but the always-on one, GDDR7 lost. -/
def Dev.thermalTrip (e : Env) (d : Dev) (t : Nat) : Dev :=
  if 16 ≤ t || d.pwr.mode = .shutdown then d
  else
    let d := (d.tripRecord e t).cutFlash.fresh e
    let d := d.loseGddr
    { d with pwr := { d.pwr with mode := .shutdown, coolAt := e.now } }

/-- THERMAL_AUTO_RESTART (R850, R852). -/
def Dev.thermalRestart (e : Env) (d : Dev) : Dev :=
  if d.pwr.mode = .shutdown && d.ob O.THM_AUTO_RESTART && d.pwr.coolAt + 3000000000 ≤ e.now then d.resetTo e 6 .up else d

/-- SLOW_CRYSTAL_FAIL (R870). -/
def Dev.crystalFail (e : Env) (d : Dev) : Dev :=
  if d.o O.DEV_TIME_SLOWSRC == 0 then
    ((d.so O.DEV_TIME_SLOWSRC 0 1).inc O.CLK_SLOW_FAILS).log e 0x0E0C (loc14 12) 1
  else d

/-! ### Phases (Table 17-8) -/

/-- The next phase: the time of the one that ends is recorded. -/
def Dev.phase (e : Env) (d : Dev) (p : Nat) : Dev :=
  let s := d.o O.SU_STATE
  let d := if s < 7 then d.so O.SU_PHASE_US s (satN 0xFFFFFFFF ((e.now - d.pwr.phaseAt) / 1500)) else d
  { (d.so O.SU_STATE 0 p) with pwr := { d.pwr with phaseAt := e.now } }

/-- RAILS_IN_RANGE (R858). -/
def Dev.railsUp (e : Env) (d : Dev) : Dev := if d.pwr.mode = .rails then d.fuseStart e else d

/-- FUSE_LOAD_DONE. VHV that stands outside the anode window at the end of fuse load is reported then (R229). -/
def Dev.fuseDone (e : Env) (d : Dev) : Dev :=
  if d.pwr.mode = .up && d.o O.SU_STATE == 0 then
    let d := d.phase e 1
    if d.vhvOut then d.vhvWindowLog e else d
  else d

/-! ### Firmware images (R878 to R884) -/

/-- The base of a slot in the flash (Table 17-6). -/
def slotBase (s : Nat) : Nat := 0x200000 * s

/-- Bytes of the flash: an unwritten byte is 0xFF. -/
def Dev.flashBytes (d : Dev) (a n : Nat) : Bytes := (List.range n).map (fun i => tget 0xFF d.flash (a + i))

/-- FW_SLOT_STATUS of an image (R879): 1 VALID, 2 CRC_BAD, 3 INVALID, 4 ERASED. `get` reads bytes from an offset on. -/
def imageStatus (stepping : Nat) (get : Nat → Nat → Bytes) : Nat :=
  let h := get 0 64
  let n := fieldAt h 16 4 + fieldAt h 20 4
  if h.all (fun b => b == 0xFF) then 4
  else if fieldAt h 0 4 != 0x4746474A || fieldAt h 4 4 != 1 || fieldAt h 24 4 != stepping || 1572864 < 64 + n then 3
  else if crc32 (h.take 60 ++ get 64 n) == fieldAt h 60 4 then 1
  else 2

/-- The stepping of the part (Table 17-11). -/
def Env.stepping (e : Env) : Nat := (e.part.fuse[3]?).getD 0

/-- The status of a slot's image. -/
def Dev.slotStatus (e : Env) (d : Dev) (s : Nat) : Nat := imageStatus e.stepping (fun o n => d.flashBytes (slotBase s + o) n)

/-- The entries of a boot configuration (R885): each a length and a request of that length. -/
def cfgEntries : Nat → Bytes → List Bytes
  | 0, _ => []
  | n + 1, bs =>
    if bs.length < 2 then []
    else
      let l := fieldAt bs 0 2
      if bs.length < 2 + l then [] else (bs.drop 2).take l :: cfgEntries n (bs.drop (2 + l))

/-- An image in force: its version, its boot configuration; the calibration items load and BOOT_CONFIG begins. -/
def Dev.runImage (e : Env) (d : Dev) (s : Nat) (image : Bytes) : Dev :=
  let fw := fieldAt image 16 4
  let cfg := (image.drop (64 + fw)).take (fieldAt image 20 4)
  let d := d.sos [(O.FW_SLOT_RUNNING, 0, s), (O.ID_FW_VERSION, 0, fieldAt image 12 4)]
  let d := { d with pwr := { d.pwr with cfg := cfgEntries cfg.length cfg, retry := [], tried := 0 } }
  (d.calLoad e d.pwr.warm).phase e 3

/-- The whole image of a slot in the flash. -/
def Dev.slotImage (d : Dev) (s : Nat) : Bytes :=
  let h := d.flashBytes (slotBase s) 64
  d.flashBytes (slotBase s) (64 + fieldAt h 16 4 + fieldAt h 20 4)

/-- Both headers read (R880); an erased slot shows SEQ 0 and VERSION 0 (assumption 130). -/
def Dev.readHeaders (d : Dev) : Dev :=
  (List.range 2).foldl (fun d s =>
    let h := d.flashBytes (slotBase s) 64
    if h.all (fun b => b == 0xFF) then d.sos [(O.FW_SLOT_SEQ, s, 0), (O.FW_SLOT_VERSION, s, 0)]
    else d.sos [(O.FW_SLOT_SEQ, s, fieldAt h 8 4), (O.FW_SLOT_VERSION, s, fieldAt h 12 4)]) d

/-- The slot that FW_LOAD tries next: the higher SEQ, slot A on a tie, then the other. -/
def Dev.nextSlot (d : Dev) : Nat :=
  let first := if d.o O.FW_SLOT_SEQ 0 < d.o O.FW_SLOT_SEQ 1 then 1 else 0
  if bit d.pwr.tried first then 1 - first else first

/-- A slot loaded from the flash and checked (R880, R882). -/
def Dev.loadSlot (e : Env) (d : Dev) (s : Nat) : Dev :=
  let st := d.slotStatus e s
  let d := d.so O.FW_SLOT_STATUS s st
  if st == 1 then d.runImage e s (d.slotImage s)
  else
    let d := d.log e 0x0E0D (loc14 13) 1
    let d := { d with pwr := { d.pwr with tried := setBit d.pwr.tried s true } }
    if d.pwr.tried == 3 then d.so O.SU_STATE 0 9 else d

/-- The image read from the retained copy; none where the copy is poisoned or not valid (R901). -/
def Dev.copyImage (e : Env) (d : Dev) : Option Bytes × Dev :=
  let h := d.memRd e 7 fwCopyBase 64
  match h.1 with
  | none => (none, h.2)
  | some hb =>
    let n := fieldAt hb 16 4 + fieldAt hb 20 4
    if 1572864 < 64 + n then (none, h.2)
    else
      let r := h.2.memRd e 7 fwCopyBase (64 + n)
      match r.1 with
      | none => (none, r.2)
      | some bs => (if imageStatus e.stepping (fun o k => (bs.drop o).take k) == 1 then some bs else none, r.2)

/-- FW_SLOT_CHECKED: the slot that FW_LOAD tries; on a warm start first the retained copy, whatever slot it came from. -/
def Dev.slotChecked (e : Env) (d : Dev) (s : Nat) : Dev :=
  if d.pwr.mode != .up || d.o O.SU_STATE != 2 then d
  else
    match d.pwr.copy with
    | some c =>
      let r := d.copyImage e
      match r.1 with
      | some bs => (r.2.so O.FW_SLOT_STATUS c 1).runImage e c bs
      | none => { r.2 with pwr := { r.2.pwr with copy := none } }
    | none => if s == d.nextSlot then d.loadSlot e s else d

/-- The image copied into its region after training (R881). -/
def Dev.imageCopy (e : Env) (d : Dev) : Dev :=
  let s := d.o O.FW_SLOT_RUNNING
  { (d.memWr e 7 fwCopyBase (d.slotImage s)) with pwr := { d.pwr with copy := some s } }

/-- FW_SLOT_ERASE written 1 (R883). -/
def Dev.slotErase (d : Dev) (s : Nat) : Dev :=
  { (d.so O.FW_FLASH_BUSY 0 1) with pwr := { d.pwr with flashOp := 1, flashArg := s } }

/-- FW_ERASE_DONE. -/
def Dev.eraseDone (e : Env) (d : Dev) (s : Nat) : Dev :=
  if d.pwr.flashOp == 1 && d.pwr.flashArg == s then
    let d := d.sos [(O.FW_FLASH_BUSY, 0, 0), (O.FW_SLOT_STATUS, s, 4), (O.FW_SLOT_SEQ, s, 0), (O.FW_SLOT_VERSION, s, 0)]
    ({ d with flash := tdrop d.flash (slotBase s) 0x200000, pwr := { d.pwr with flashOp := 0 } }).calSaveNext e
  else d

/-- Bytes programmed into the flash: programming clears bits. -/
def flashPut (m : Tab Byte) (a : Nat) : Bytes → Tab Byte
  | [] => m
  | b :: bs => let m := flashPut m (a + 1) bs; tset 0xFF m a (tget 0xFF m a &&& b)

/-- An image programmed into a slot, with its status after the check (R883). -/
def Dev.slotProgram (e : Env) (d : Dev) (s : Nat) (bs : Bytes) : Bool × Dev :=
  let d := { d with flash := flashPut d.flash (slotBase s) bs }
  let h := d.flashBytes (slotBase s) 64
  if d.slotStatus e s == 1 then
    (true, d.sos [(O.FW_SLOT_STATUS, s, 1), (O.FW_SLOT_SEQ, s, fieldAt h 8 4), (O.FW_SLOT_VERSION, s, fieldAt h 12 4)])
  else (false, d.so O.FW_SLOT_STATUS s 3)

/-- REF_QUALIFIED (R866, R869): the reference qualifies and the main PLL locks. -/
def Dev.refOk (e : Env) (d : Dev) : Dev :=
  if d.pwr.mode = .clock then d.fuseStart e
  else if d.pwr.mode = .up && d.o O.SU_STATE == 1 then
    let d := { d with pwr := { d.pwr with fabric := true, tried := 0 } }
    if d.pwr.warm then d.phase e 4 else (d.readHeaders).phase e 2
  else d

/-- Start-up goes on once a phase has nothing left (Tables 17-8 and 17-10). -/
def Dev.suStep (e : Env) (d : Dev) : Dev :=
  let s := d.o O.SU_STATE
  let done := d.pwr.cfg == [] && d.pwr.retry == [] && d.o O.MEM_STATE == 2 && d.o O.RL_STATE == 2
  if s == 3 && !d.pwr.warm && d.pwr.cfg == [] then (d.phase e 4).trainStart e 1
  else if s == 3 && d.pwr.warm && done then (d.phase e 5).linkEnable e
  else if s == 4 && !d.pwr.warm && done then (d.phase e 5).linkEnable e
  else d

/-- MEM_TRAINING_DONE in start-up: SAFE_STOP where DEV_0 fails (R892), else the image copy (R881). -/
def Dev.suTrained (e : Env) (d : Dev) : Dev :=
  if d.o O.SU_STATE != 4 then d
  else if d.o O.MEM_STATE == 5 then d.so O.SU_STATE 0 10
  else if d.o O.MEM_STATE != 2 then d
  else if d.pwr.warm then (d.readHeaders).phase e 2
  else (d.imageCopy e).suStep e

/-- SELF_REFRESH_EXIT (R785, R921): the trained settings come back with the content, the log from the mirror, and the warm start is
recorded (R918). -/
def Dev.refreshExit (e : Env) (d : Dev) : Dev :=
  if !(d.pwr.warm && d.o O.SU_STATE == 4 && d.o O.MEM_STATE == 0) then d
  else
    let record := fun (d : Dev) => d.deliver { time := d.pwr.fuseAt, loc := loc14 27, code := 0x0E1B, cls := 0, injected := false, detail := 7, reps := 0 }
    match d.mem.trained with
    | none => (record d).trainStart e 1
    | some (n, _) =>
      let d := d.domOn e 80
      let d := if n == 2 then d.domOn e 81 else d
      let d := (d.fitSet e n).mirrorRestore e
      let d := { d with mem := { d.mem with trackAt := (List.range (4 * n)).map (fun c => (c, e.now)) } }
      let d := (record d).ringTrained
      ((if e.full then d.poolClear else d).readHeaders).phase e 2

/-- LINK_PHASE_END: the link is READY, or 5 ms have passed. -/
def Dev.linkPhaseEnd (e : Env) (d : Dev) : Dev :=
  if d.o O.SU_STATE == 5 && (d.o O.LINK_STATE == 2 || d.pwr.phaseAt + 7500000 ≤ e.now) then (d.phase e 6).calStart e d.pwr.warm else d

/-- The start-up calibration may end: it has nothing left to do, or its 300 ms have passed, 40 ms after a warm start (R586,
Table 17-10). -/
def Dev.calEnds (e : Env) (d : Dev) : Bool :=
  d.o O.SU_STATE == 6 && (d.calIdle e || d.pwr.phaseAt + (if d.pwr.warm then 60000000 else 450000000) ≤ e.now)

/-- READY, but for the held writes. -/
def Dev.ready_ (e : Env) (d : Dev) : Dev := ((d.phase e 7).so O.SU_READY_TIME 0 e.now)

/-! ### Domains (R863, R864) -/

/-- POWER_DOMAIN_RAMP_DONE: 2 µs after the switch-on at the earliest. -/
def Dev.rampOk (e : Env) (d : Dev) (n : Nat) : Dev :=
  if n < 96 && d.o O.PWR_DOM_STATE n == 1 && tget 0 d.pwr.rampAt n + 3000 ≤ e.now then d.so O.PWR_DOM_STATE n 2 else d

/-- POWER_DOMAIN_FAULT: 100 µs after the switch-on. -/
def Dev.rampFault (e : Env) (d : Dev) (n : Nat) : Dev :=
  if n < 96 && d.o O.PWR_DOM_STATE n == 1 && tget 0 d.pwr.rampAt n + 150000 ≤ e.now then
    let d := d.so O.PWR_DOM_STATE n 3
    if n < 64 then d
    else
      let stop := 82 ≤ n && d.o O.SU_STATE < 7
      let d := d.log e 0x0E0B (loc14 11) (if stop then 4 else 2) n
      if stop then d.so O.SU_STATE 0 10 else d
  else d

/-! ### VHV (Table 17-2) -/

/-- A lockout comes into force: every VHV-fed output off. -/
def Dev.lockoutOn (e : Env) (d : Dev) (kind : Nat) (mv : Int) : Dev :=
  let was := d.pwr.lockout
  let d := { (d.so O.PWR_VHV_STATE 0 kind) with pwr := { d.pwr with lockout := kind } }
  if d.pwr.mode != .up then { d with em := { d.em with vhvMv := mv }, rx := { d.rx with vhvLow := true } }
  else
    let d := (((d.vhvReport e mv).cutDrive).biasVhvLow).coilsOff e
    if was == kind then d
    else if kind == 3 then d.log e 0x0E10 (locCode 1 14 63 63 127 16) 3
    else if kind == 1 then d.log e 0x0E11 (locCode 1 14 63 63 127 17) 1
    else d.log e 0x0E12 (locCode 1 14 63 63 127 18) 3

/-- VHV_REVERSE. -/
def Dev.vhvReverse (e : Env) (d : Dev) (mv : Int) : Dev := if mv < -500 then d.lockoutOn e 3 mv else d

/-- VHV_UNDERVOLTAGE. -/
def Dev.vhvUnder (e : Env) (d : Dev) (mv : Int) : Dev := if mv < 8000 then d.lockoutOn e 1 mv else d

/-- VHV_OVERVOLTAGE. -/
def Dev.vhvOver (e : Env) (d : Dev) (mv : Int) : Dev := if 62000 < mv then d.lockoutOn e 2 mv else d

/-- VHV_RECOVERY (R861): the bias outputs restart; the coil drivers wait for the host. -/
def Dev.vhvBack (e : Env) (d : Dev) (mv : Int) : Dev :=
  let k := d.pwr.lockout
  if k != 0 && (if k == 2 then mv ≤ 61000 else 8500 ≤ mv && mv ≤ 62000) then
    let d := { (d.so O.PWR_VHV_STATE 0 0) with pwr := { d.pwr with lockout := 0 } }
    if d.pwr.mode != .up then { d with em := { d.em with vhvMv := mv }, rx := { d.rx with vhvLow := decide (mv < 9000) } }
    else
      let d := d.vhvReport e mv
      if mv < 9000 then d else (List.range 8).foldl (fun d b => d.biasVhvBack e b) d
  else d

/-! ### Parked mode and wake (R895 to R901) -/

/-- PWR_PARK written 1: the order of R895 begins. The field cache is written whether or not it has changed (R583, R895). -/
def Dev.parkStart (e : Env) (d : Dev) : Dev :=
  let d := (d.jqStop e 0).hmDisarm e
  let d := (d.sos [(O.TAP_RUN, 0, 0), (O.TAP_STATE, 0, 0)]).acqStop
  let d := (List.range 4).foldl (fun d s => d.slotDown e s) d
  let d := { d with cal := { d.cal with retained := some (d.calCache e) } }
  (d.calSave e).so O.SU_STATE 0 8

/-- The wake of a parked device: PWR_EN high and a warm start (R900). -/
def Dev.wakeStart (e : Env) (d : Dev) (cause : Nat) : Dev := (d.so O.PWR_WAKE_CAUSE 0 cause).resetTo e 7 .rails

/-- PARK_ENTRY_DONE (R895 to R897): what the logger still holds is written before the mirror is. -/
def Dev.parkDone (e : Env) (d : Dev) : Dev :=
  if d.o O.SU_STATE == 8 && d.pwr.mode = .up && d.o O.JQ_STATE == 0 && d.pwr.flashOp == 0 && !d.cal.saveDue && !d.cal.eraseDue &&
      (List.range 4).all (fun s => !(d.slot s).ramp) then
    let d := ((d.flushLog).mirror e).selfRefresh
    let d := (List.range 96).foldl Dev.domOff d
    let d := { d with pwr := { d.pwr with mode := .parked, fabric := false, parkAt := e.now, pwrEn := false },
                      hk := { d.hk with adc0 := none, adc1 := none, second := none, urgent := [] } }
    if d.pwr.wakeLatched == 0 then d else d.wakeStart e d.pwr.wakeLatched
  else d

/-- A wake source acts (R897, R899). -/
def Dev.wake (e : Env) (d : Dev) (b : Nat) : Dev :=
  if !bit (d.o O.PWR_WAKE_EN) b then d
  else if d.pwr.mode = .parked then d.wakeStart e (2 ^ b)
  else if d.o O.SU_STATE == 8 && d.pwr.mode = .up then
    { d with pwr := { d.pwr with wakeLatched := setBit d.pwr.wakeLatched b true } }
  else d

/-- GPIO_WAKE: an edge selected in PWR_GPIO_WAKE. -/
def Dev.gpioWake (e : Env) (d : Dev) (pin : Nat) (rising : Bool) : Dev :=
  if pin < 4 && bit (d.o O.PWR_GPIO_WAKE) (2 * pin + (if rising then 0 else 1)) then d.wake e 1 else d

/-- WAKE_TIMER. -/
def Dev.wakeTimer (e : Env) (d : Dev) : Dev :=
  if d.pwr.mode = .parked && d.pwr.parkAt + 1500000000 * d.o O.PWR_WAKE_TIMER_S ≤ e.now then d.wake e 2 else d

end Sys2Proof.Machine
end

