-- ==== Sys2Proof/Machine/Values.lean ====
section
/-! DEFINITION. What a READ finds: elements that the device derives when they are read, DOM objects with their lengths, and the
clearing of RC elements (R75, R76, R83, R140, R141, R153). -/

namespace Sys2Proof.Machine

/-! ### Derived elements -/

/-- The identity and capability constants of the part (Tables 00-2 and 17-11). -/
def Env.constVal (e : Env) (idx el : Nat) : Option Nat :=
  if idx == O.ID_FUSE then some ((e.part.fuse[el]?).getD 0)
  else if idx == O.CAP_RX_GROUPS then some e.groups
  else if idx == O.CAP_RX_CHANNELS then some e.channels
  else if idx == O.CAP_DIGI_SLICES then some e.digis
  else if idx == O.CAP_TAPESTRY || idx == O.CAP_TWILL then some (b2n e.full)
  else if idx == O.CAP_GDDR7_MAX then some e.memMax
  else if idx == O.CAP_ATLAS_SLOTS then some e.slots
  else if idx == O.CAP_UNIT_MAP then some (if e.full then 0x17FFE else 0x76FE)
  else if idx == O.CLK_REF_SRC then some e.part.refSrc
  else if idx == O.RL_BASE then some ringBase
  else if idx == O.RL_MAP_BASE then some mapBase
  else none

/-- COMMIT_PENDING: the kind of boundary that a pending commit waits for. -/
def Cls.code : Cls → Nat
  | .shot => 1
  | .line => 2
  | .frame => 3
  | _ => 0

/-- Elements derived from the shot path's state. -/
def Dev.derived1 (e : Env) (d : Dev) (idx el : Nat) : Option Nat :=
  if idx == O.DEV_TIME then some e.now
  else if idx == O.LOCK_STAGED then some (d.lock.staged.vals.length + d.lock.staged.doms.length)
  else if idx == O.COMMIT_PENDING then some (match d.commit with
    | some c => c.cls.code
    | none => 0)
  else if idx == O.JQ_SWAP_PENDING then some (b2n d.swapPending)
  else if idx == O.JQ_THROTTLE_LEVEL then some d.throttle
  else if idx == O.EM_STATE then some d.emState
  else if idx == O.HM_ARM_BLOCK then some (d.armBlock e)
  else if idx == O.HM_CONFIG_CRC then some (d.configCrc e)
  else if idx == O.HM_BUCKET_LEVEL then some (d.level e (el / 256) (el % 256))
  else if idx == O.RX_INPUT_STATUS then some (d.inputStatus el)
  else if idx == O.RX_SKIP_STATE then some (d.skipState el)
  else none

/-- Elements derived from the other subsystems' state. -/
def Dev.derived2 (e : Env) (d : Dev) (idx el : Nat) : Option Nat :=
  if idx == O.ACQ_REC_MAX_BYTES then some (d.recMax e)
  else if idx == O.ACQ_CAPACITY then some (d.acqCapacity e)
  else if idx == O.CAL_STATE then some d.calState
  else if idx == O.CAL_GROUP_STATE then some (d.calGroupState e el)
  else if idx == O.CAL_WALK_STALE then some (b2n d.walkStale)
  else if idx == O.CAL_Q_AGE then some ((e.now - tget 0 d.cal.validAt el) / 1500000000)
  else if idx == O.CAL_DG_AGE then some ((e.now - (tget 0 d.cal.dgAt el - 1)) / 1500000000)
  else if idx == O.MEM_RETAINED_TOP then some d.retainedTop
  else if idx == O.MEM_BANK_MASK then some (bankMask d.found el)
  else if idx == O.MEM_ACQ_SNAP_BASE then some d.snapBase
  else if idx == O.MEM_ACQ_STREAM_BASE then some d.stageBase
  else if idx == O.HK_VALUE || idx == O.HK_NOW then some (hkFormat (d.o O.HK_FMT el) el (toS 32 (d.o O.HK_VALUE el)))
  else if idx == O.PRBS_BITS then some (d.o idx el + d.prbsNew e el)
  else if idx == O.FLT_UNACKED then some d.flt.unacked.length
  else if idx == O.FLT_FAULT_N then some (b2n d.faultLow)
  else none

/-- The value of an element at the present cycle, as a raw word. -/
def Dev.readVal (e : Env) (d : Dev) (idx el : Nat) : Nat :=
  match e.constVal idx el with
  | some v => v
  | none =>
    match d.derived1 e idx el with
    | some v => v
    | none => (d.derived2 e idx el).getD (d.o idx el)

/-- The bytes of a STR element (R70, Table 17-12). -/
def Env.strVal (e : Env) (idx : Nat) : Bytes :=
  let s := if idx == O.ID_PART_NAME then partName e.part.variant else [66, 49]
  leBytes 1 s.length ++ s.flatMap (leBytes 1)

/-- An element as it travels (R67 to R71). -/
def Dev.elBytes (e : Env) (d : Dev) (r : ObjRow) (el : Nat) : Bytes :=
  if r.ty = .str then e.strVal r.idx else leBytes r.ty.bytes (d.readVal e r.idx el)

/-! ### Runs of elements -/

/-- What the sampling of one element does before it is read: a conversion for HK_NOW (R828); RX_BIAS_I_MEAS is a measurement of
which the spec gives no value. -/
def Dev.sampleEl (e : Env) (d : Dev) (codes : List Int) (idx el : Nat) : Dev :=
  if idx == O.HK_NOW then d.hkNow e el 1 codes
  else if idx == O.RX_BIAS_I_MEAS then (let x := d.freeVal 16; x.2.so idx el x.1)
  else d

/-- The value that an RC element takes when it is read (R76, R958). -/
def Dev.clearVal (e : Env) (d : Dev) (idx el : Nat) : Nat :=
  if idx == O.HM_BUCKET_PEAK then d.level e (el / 256) (el % 256) else dflt idx el

/-- A run of elements sampled in one cycle (R140): `pend` takes shadows first (R83); `clear` clears RC elements (R76). -/
def Dev.readRun (e : Env) (d : Dev) (r : ObjRow) (el n : Nat) (pend clear : Bool) (codes : List Int) : Bytes × Dev :=
  let els := (List.range n).map (fun i => el + i)
  let d := if r.idx == O.HK_NOW then d.hkNow e el n codes else els.foldl (fun d x => d.sampleEl e [] r.idx x) d
  let bs := els.flatMap (fun x =>
    match (if pend then tget none d.shadows (okey r.idx x) else none) with
    | some v => leBytes r.ty.bytes v
    | none => d.elBytes e r x)
  (bs, if clear && r.acc = .rc then els.foldl (fun d x => d.so r.idx x (d.clearVal e r.idx x)) d else d)

/-! ### DOM objects -/

/-- The length of a DOM object that is read or written as a whole, where it is fixed. -/
def Dev.domLen (d : Dev) (idx : Nat) : Nat :=
  if idx == O.JQ_BANK_0 || idx == O.JQ_BANK_1 then 524288
  else if idx == O.EM_ZONE_MAP then 128
  else if idx == O.EX_HIST_CAPTURE then 8206
  else if idx == O.RL_MAP_COL then 2 * d.rlRows + 4
  else if idx == O.ACQ_CAP_HEADER || idx == O.LINK_TS_RESULT || idx == O.FLT_FIRST then 32
  else if idx == O.CAL_FACTORY_STORE then d.cal.factoryLen
  else if idx == O.ATL_TR_DATA then 131072
  else if idx == O.TAP_ROW_MAP || idx == O.MEM_ERR_LOG then 1024
  else if idx == O.MEM_PEEK then 256
  else if idx == O.HK_SEQ then 512
  else if idx == O.HK_RING then 16384
  else if idx == O.FLT_LOG then 8192
  else 0

/-- The lengths that a DOM object accepts (R950, Table 13-1, R212, R883, R584). -/
def domLenOk (d : Dev) (idx n : Nat) : Bool :=
  if idx == O.FW_SLOT_IMAGE then 1 ≤ n && n ≤ 1572864
  else if idx == O.CAL_FACTORY_STORE then 1 ≤ n && n ≤ 524288
  else if idx == O.JQ_PATCH then 32 ≤ n && n ≤ 512
  else if idx == O.TAP_HOST_WRITE then 20 ≤ n && n ≤ 65552
  else n == d.domLen idx

/-- MEM_PEEK at block 0: 256 bytes through requester DIAG (Table 15-9); none where they come poisoned. -/
def Dev.peek (e : Env) (d : Dev) : Option Bytes × Dev :=
  let a := d.o O.MEM_PEEK_ADDR
  if d.capacity < a + 256 then (none, (d.inc O.MEM_CH_POISON (d.chanOf a)).memFault e 5 a 15 0) else d.memRd e 15 a 256

/-- The snapshot of a DOM object (R141): none where its read answers ABT_CRC. -/
def Dev.domSnap (e : Env) (d : Dev) (idx el : Nat) : Option Bytes × Dev :=
  if idx == O.MEM_PEEK then d.peek e
  else if idx == O.RL_MAP_COL && d.o O.RL_STATE == 2 then (let x := d.mapColumn e; (some x.1, x.2))
  else if idx == O.ATL_TR_DATA then (some d.traceBytes, d)
  else (some (d.domBytes idx el 0 (d.domLen idx)), d)

/-! ### The values of other objects (R952) -/

/-- The values a write's checks go by (R952): the write's own, then what the writing session has staged, then the shadow, then the
value in force. -/
structure View where
  own : Tab (Option Nat)
  staged : Tab (Option Nat)
  dev : Dev

/-- One value of the view. A commit that waits is none of R952's sources. -/
def View.o (v : View) (idx el : Nat) : Nat :=
  let k := okey idx el
  match tget none v.own k with
  | some x => x
  | none =>
    match tget none v.staged k with
    | some x => x
    | none => (tget none v.dev.shadows k).getD (v.dev.o idx el)

/-- A value of the view as a 16-bit two's complement integer. -/
def View.os16 (v : View) (idx el : Nat) : Int := toS 16 (v.o idx el)

/-- The view of a session. -/
def Dev.view (d : Dev) (s : Nat) (own : Tab (Option Nat)) : View :=
  { own := own, staged := if d.o O.LOCK_OWNER == s then d.lock.staged.vals else [], dev := d }

/-! ### Limits in force -/

/-- The largest binary32 below a finite one, as words. -/
def f32Below (w : Nat) : Nat := if w % 2 ^ 31 == 0 then 0x80000001 else if w < 2 ^ 31 then w - 1 else w + 1

/-- The smallest binary32 above a finite one. -/
def f32Above (w : Nat) : Nat := if w % 2 ^ 31 == 0 then 1 else if w < 2 ^ 31 then w + 1 else w - 1

/-- The largest temperature in 0.1 °C that R847's table lets THM_SHED_T take on a sensor. -/
def shedMax (t : Nat) : Int := if t < 12 then 1490 else 1590

/-- The limits of an object whose range depends on the state of the device (R158, R952). -/
def Dev.stateLimits (e : Env) (d : Dev) (idx : Nat) : Option (Nat × Nat) :=
  if idx == O.RL_MAP_COL_SEL then some (0, d.rlCols - 1)
  else if idx == O.JQ_AXIS_X_SLOT then some (0, e.slots - 1)
  else if idx == O.ACQ_SNAP_MIB then some (16, 1024 * d.found)
  else if idx == O.TAP_ASM_BUF_A || idx == O.TAP_ASM_BUF_B || idx == O.TAP_LAYER_BUF then some (0, d.o O.TAP_POOL_HANDLES - 1)
  else none

/-- The limits of an object that another object bounds, by the values that R952 has a write checked against. -/
def View.pairLimits (e : Env) (v : View) (idx el : Nat) : Option (Nat × Nat) :=
  if idx == O.ACQ_PRE_COUNT then some (0, v.dev.acqCapacity e - v.o O.ACQ_POST_COUNT 0)
  else if idx == O.ACQ_POST_COUNT then some (1, v.dev.acqCapacity e - v.o O.ACQ_PRE_COUNT 0)
  else if idx == O.EX_WALK_VMIN then some (0, v.o O.EX_WALK_VMAX el - 1)
  else if idx == O.EX_WALK_VMAX then some (v.o O.EX_WALK_VMIN el + 1, 65535)
  else if idx == O.EX_TOT_AMP then
    some (if el % 64 == 0 then 0 else v.o O.EX_TOT_AMP (el - 1), if el % 64 == 63 then 65535 else v.o O.EX_TOT_AMP (el + 1))
  else if idx == O.SB_I_MIN then some (0, v.o O.SB_I_MAX el - 1)
  else if idx == O.SB_I_MAX then some (v.o O.SB_I_MIN el + 1, 20000)
  else if idx == O.ATL_ANGLE_MIN then some (2 ^ 31, ofS 32 (toS 32 (v.o O.ATL_ANGLE_MAX el) - 1))
  else if idx == O.ATL_ANGLE_MAX then some (ofS 32 (toS 32 (v.o O.ATL_ANGLE_MIN el) + 1), 2 ^ 31 - 1)
  else if idx == O.CAN_GOP_BASE_ID then some (0, if v.o O.CAN_GOP_IDMODE el == 0 then 0x7FD else 0x1FFFFFFD)
  else if idx == O.CAN_GOP_IDMODE then some (if v.o O.CAN_GOP_BASE_ID el ≤ 0x7FD then 0 else 1, 1)
  else if idx == O.LANE_PRE then some (0, min 8 (24 - v.o O.LANE_POST el))
  else if idx == O.LANE_POST then some (0, min 20 (24 - v.o O.LANE_PRE el))
  else if idx == O.HK_LIM_LO then some (0xFF7FFFFF, f32Below (v.o O.HK_LIM_HI el))
  else if idx == O.HK_LIM_HI then some (f32Above (v.o O.HK_LIM_LO el), 0x7F7FFFFF)
  else if O.THM_WARN_T ≤ idx && idx ≤ O.THM_SHED_T then
    some (if idx == O.THM_WARN_T then 0x8000 else v.o (idx - 1) el,
      if idx == O.THM_SHED_T then ofS 16 (shedMax el) else v.o (idx + 1) el)
  else none

/-- The limits of F32 elements beyond R945. DEDUCED (log entry 225): a decimal limit counts as the nearest binary32, which a READ with
META returns. -/
def f32Limits (idx : Nat) : Option (Rat × Rat) :=
  if idx == O.EX_OCC_GAIN then some (0, 16)
  else if idx == O.ATL_MDL_F0 then some (10, 20000)
  else if idx == O.ATL_MDL_ZETA then some (1 / 1000, 2)
  else if idx == O.ATL_MDL_GDC then some (1 / 10000, 10)
  else if idx == O.ATL_OBS_L1 then some (0, 1)
  else if idx == O.ATL_OBS_L2 then some (0, 1000000)
  else none

/-- Minimum and maximum of an element as a READ with META of a view's session returns them: an F32 element without limits of its own
takes every finite number (R945); where the row of another object states no range they are open. -/
def View.limits (e : Env) (v : View) (r : ObjRow) (el : Nat) : Nat × Nat :=
  let n := 8 * r.ty.bytes
  match (v.dev.stateLimits e r.idx).orElse (fun _ => v.pairLimits e r.idx el) with
  | some p => p
  | none =>
    match r.rng with
    | [] =>
      match f32Limits r.idx with
      | some q => (f32Of q.1, f32Of q.2)
      | none =>
        if r.ty = .f32 then (0xFF7FFFFF, 0x7F7FFFFF) else if r.ty = .bool then (0, 1)
        else (Config.metaMin r.idx el % 2 ^ n, Config.metaMax r.idx el % 2 ^ n)
    | p :: l => (ofS n (l.foldl (fun m q => min m q.1) p.1), ofS n (l.foldl (fun m q => max m q.2) p.2))

/-- The default of an element; that of MEM_BANK_MASK is its value of Table 15-5, that of the window of HK_36 the strap's. -/
def Dev.metaDflt (e : Env) (d : Dev) (idx el : Nat) : Nat :=
  if idx == O.MEM_BANK_MASK then bankMask d.found el
  else ((e.constVal idx el).orElse (fun _ => e.strapDflt idx el)).getD (dflt idx el)

/-- Default, minimum and maximum of an element (R87, Table 02-4). -/
def View.metaBytes (e : Env) (v : View) (r : ObjRow) (el : Nat) : Bytes :=
  let w := r.ty.bytes
  leBytes w (v.dev.metaDflt e r.idx el) ++ leBytes w (v.limits e r el).1 ++ leBytes w (v.limits e r el).2

end Sys2Proof.Machine
end

