-- ==== Sys2Proof/Machine/Checks.lean ====
section
/-! DEFINITION. The checks of a write: ranges, reserved bits, values that other objects or the state of the device limit, the
running state and the conditions that answer ABT_BUSY (R31, R69, R74, R78, R945, R947, R948, R952 and the rules of each
chapter). An abort is a pair of a code of Table 02-9 and a detail of Table 02-10. -/

namespace Sys2Proof.Machine

/-- An abort: STATUS and DETAIL. -/
abbrev Abort := Nat × Nat

/-! ### The running state (R78) -/

/-- A bridge channel is in use by a closed slot (R614). -/
def Dev.bridgeUsed (d : Dev) (n : Nat) : Bool :=
  (List.range 4).any (fun s => 2 ≤ d.o O.ATL_STATE s && (d.o O.ATL_FB_A s == n || d.o O.ATL_FB_B s == n))

/-- The elements of one bridge channel per channel of an object of indices 48xx. -/
def bridgeOf (idx el : Nat) : Nat := if idx == O.SB_LIN_COEF then el / 18 else el

/-- The subsystem that owns an element runs (R78, R200, R955, R272, R297, R545, R550, R614, R682, R766, R821). -/
def Dev.running (d : Dev) (idx el : Nat) : Bool :=
  let p := idx / 256
  if p == 0x26 then d.o O.HM_STATE != 0
  else if 0x40 ≤ p && p ≤ 0x43 then d.o O.ACQ_STATE != 0
  else if p == 0x48 then d.bridgeUsed (bridgeOf idx el)
  else if p == 0x49 then d.o O.ATL_STATE el != 0
  else if p == 0x50 then d.o O.TAP_STATE != 0
  else if p == 0x54 then d.o O.LINK_STATE != 0
  else if p == 0x58 then d.o O.JQ_STATE != 0 || d.o O.TAP_STATE != 0 || d.o O.ACQ_STATE != 0
  else if p == 0x60 then d.ob O.HK_RUN
  else d.o O.JQ_STATE != 0

/-- The access or apply class of a row makes its writes wait for its subsystem to stop. -/
def ObjRow.stopped (r : ObjRow) : Bool := r.acc = .rws || r.cls = .stop

/-! ### Ranges -/

/-- A value of a type as the integer its range speaks of. -/
def OTy.int (t : OTy) (v : Nat) : Int :=
  match t with
  | .s16 => toS 16 v
  | .s32 => toS 32 v
  | .q15 => toS 16 v
  | _ => v

/-- A value lies in its row's own range (R31, R69, R74, R945, R947). -/
def ObjRow.inRange (r : ObjRow) (v : Nat) : Bool :=
  (r.rng == [] || r.rng.any (fun p => p.1 ≤ r.ty.int v && r.ty.int v ≤ p.2)) &&
  (r.step == 0 || v % r.step == 0) && (v &&& r.resv == 0) && (r.ty != .bool || v ≤ 1) &&
  (r.ty != .f32 ||
    (f32Finite v &&
      (match f32Limits r.idx with
       | some p => f32Val (f32Of p.1) ≤ f32Val v && f32Val v ≤ f32Val (f32Of p.2)
       | none => true)))

/-! ### Values that depend on the device or on other objects -/

/-- The channel that each digitiser slice is to sample in a view: in an interleaved pair both sample one (R507, R509). -/
def View.routes (e : Env) (v : View) : List Nat :=
  (List.range e.digis).map (fun s =>
    if s % 2 == 1 && v.o O.DG_PAIR_MODE (s / 2) == 1 then v.o O.RX_TAP_SRC (s - 1) else v.o O.RX_TAP_SRC s)

/-- A route of a slice is acceptable (R346, R508, R509). -/
def View.routeOk (e : Env) (v : View) (s ch : Nat) : Bool :=
  ch == 0xFFFF || (!(s % 2 == 1 && v.o O.DG_PAIR_MODE (s / 2) == 1) && ((v.routes e).filter (· == ch)).length ≤ 2)

/-- Two slots name no channel in common, and the two channels of a slot have one mode (R611). -/
def View.feedbackOk (e : Env) (v : View) : Bool :=
  let chans := fun s => v.o O.ATL_FB_A s :: (if v.o O.ATL_FB_B s == 0xFF then [] else [v.o O.ATL_FB_B s])
  (List.range e.slots).all (fun s =>
    (v.o O.ATL_FB_B s == 0xFF || v.o O.SB_MODE (v.o O.ATL_FB_A s) == v.o O.SB_MODE (v.o O.ATL_FB_B s)) &&
    (List.range s).all (fun t => (chans s).all (fun c => !(chans t).contains c)))

/-- No coil is bound to two slots (R612). -/
def View.coilsOk (e : Env) (v : View) : Bool :=
  (List.range e.slots).all (fun s => (List.range s).all (fun t =>
    v.o O.ATL_OUT s != v.o O.ATL_OUT t || (v.o O.ATL_OUT s != 1 && v.o O.ATL_OUT s != 2)))

/-- The amplitudes of a range do not decrease around an element (R451). -/
def View.totOk (v : View) (el : Nat) : Bool :=
  let x := v.o O.EX_TOT_AMP el
  (el % 64 == 0 || v.o O.EX_TOT_AMP (el - 1) ≤ x) && (el % 64 == 63 || x ≤ v.o O.EX_TOT_AMP (el + 1))

/-- The thresholds of a sensor stand in order, SHED within its limit (R847). -/
def View.thresholdsOk (v : View) (t : Nat) : Bool :=
  thrOrder (fun k => v.os16 (O.THM_WARN_T + k) t) && v.os16 O.THM_SHED_T t ≤ shedMax t

/-- The base identifier of a controller fits its width (R948). -/
def View.canOk (v : View) (c : Nat) : Bool :=
  v.o O.CAN_GOP_BASE_ID c + 2 ≤ (if v.o O.CAN_GOP_IDMODE c == 0 then 0x7FF else 0x1FFFFFFF)

/-- An object whose values are Tapestry handles (R683). -/
def isHandle (idx : Nat) : Bool := idx == O.TAP_ASM_BUF_A || idx == O.TAP_ASM_BUF_B || idx == O.TAP_LAYER_BUF

/-- Values of indices 1000 to 2FFF that their rules refuse. -/
def Dev.special1 (e : Env) (d : Dev) (v : View) (idx el x : Nat) : Option Abort :=
  let bad := fun (ok : Bool) => if ok then none else some (4, 6)
  if idx == O.CAN_GOP_BASE_ID || idx == O.CAN_GOP_IDMODE then bad (v.canOk el)
  else if idx == O.JQ_AXIS_X_SLOT || idx == O.JQ_AXIS_Y_SLOT then bad (x == 0xFF || x < e.slots)
  else if idx == O.JQ_START_ENTRY then (if d.bankBusy el then some (8, 0) else none)
  else if idx == O.EM_CODE then bad (codeOk x)
  else none

/-- Values of indices 3000 to 3FFF. -/
def Dev.special2 (e : Env) (d : Dev) (v : View) (idx el x : Nat) : Option Abort :=
  let bad := fun (ok : Bool) => if ok then none else some (4, 6)
  if idx == O.RX_GAIN_POLICY then bad (policyOk x)
  else if idx == O.RX_REPAIR then bad (d.o O.RX_SLICE_STATUS (skipperOf el) != 1)
  else if idx == O.RX_TAP_SRC then
    (if x != 0xFFFF && e.channels ≤ x then some (1, 2) else bad (v.routeOk e el x))
  else if idx == O.EX_WALK_VMIN || idx == O.EX_WALK_VMAX then bad (v.o O.EX_WALK_VMIN el < v.o O.EX_WALK_VMAX el)
  else if idx == O.EX_TOT_AMP then bad (v.totOk el)
  else if idx == O.RL_MAP_COL_SEL then bad (x < d.rlCols)
  else if idx == O.TDC_STAT_CFG then bad (bits x 18 2 != 3 && bits x 12 5 ≤ 23)
  else none

/-- Values of indices 4000 to 4FFF. -/
def Dev.special3 (e : Env) (d : Dev) (v : View) (idx el x : Nat) : Option Abort :=
  let bad := fun (ok : Bool) => if ok then none else some (4, 6)
  if idx == O.DG_PAIR_MODE then
    bad (x == 0 || (v.o O.RX_TAP_SRC (2 * el + 1) == 0xFFFF && v.routeOk e (2 * el) (v.o O.RX_TAP_SRC (2 * el))))
  else if idx == O.ACQ_SNAP_MIB then bad (16 ≤ x && x % 16 == 0 && x ≤ 1024 * d.found)
  else if idx == O.ACQ_PRE_COUNT then bad (x + v.o O.ACQ_POST_COUNT 0 ≤ d.acqCapacity e)
  else if idx == O.ACQ_POST_COUNT then bad (1 ≤ x && x + v.o O.ACQ_PRE_COUNT 0 ≤ d.acqCapacity e)
  else if idx == O.ACQ_RUN then bad (x == 0 || d.o O.ACQ_STATE != 0 || !bit (v.o O.ACQ_MODE 0) 1 || d.acqCapacity e != 0)
  else if idx == O.SB_I_MIN || idx == O.SB_I_MAX then bad (v.o O.SB_I_MIN el < v.o O.SB_I_MAX el)
  else if idx == O.SB_MODE || idx == O.ATL_FB_A || idx == O.ATL_FB_B then bad (v.feedbackOk e)
  else if idx == O.ATL_OUT then bad (v.coilsOk e)
  else if idx == O.ATL_ANGLE_MIN || idx == O.ATL_ANGLE_MAX then
    bad (toS 32 (v.o O.ATL_ANGLE_MIN el) < toS 32 (v.o O.ATL_ANGLE_MAX el))
  else if idx == O.ATL_TR_NODE then bad (x == 0xFFFF || (x / 256 < e.slots && x % 256 ≤ 13))
  else none

/-- Values of indices 5000 to 7FFF. -/
def Dev.special4 (d : Dev) (v : View) (idx el x : Nat) : Option Abort :=
  let bad := fun (ok : Bool) => if ok then none else some (4, 6)
  if isHandle idx then (if d.found == 0 then some (10, 12) else bad (x < d.o O.TAP_POOL_HANDLES))
  else if idx == O.TAP_FILL then (if d.found == 0 then some (10, 12) else bad (d.fillOk x))
  else if idx == O.TAP_LAYER_SIZE then bad (1 ≤ bits x 16 13 && bits x 16 13 ≤ 4096 && 1 ≤ bits x 0 10 && bits x 0 10 ≤ 512)
  else if idx == O.LANE_PRE || idx == O.LANE_POST then bad (v.o O.LANE_PRE el + v.o O.LANE_POST el ≤ 24)
  else if idx == O.MEM_PEEK_ADDR then bad (x % 256 == 0)
  else if idx == O.HK_UNIT then bad (x == 0 || el < 16)
  else if idx == O.HK_LIM_LO || idx == O.HK_LIM_HI then bad (f32Val (v.o O.HK_LIM_LO el) < f32Val (v.o O.HK_LIM_HI el))
  else if O.THM_WARN_T ≤ idx && idx ≤ O.THM_SHED_T then bad (v.thresholdsOk el)
  else if idx == O.FLT_ACK then
    bad (x != 0xFFFFFFFF && d.o O.FLT_NEWEST_SEQ != 0xFFFFFFFF && x ≤ d.o O.FLT_NEWEST_SEQ)
  else none

/-- The refusal of a value that its row's range accepts. -/
def Dev.special (e : Env) (d : Dev) (v : View) (idx el x : Nat) : Option Abort :=
  if idx < 0x3000 then d.special1 e v idx el x
  else if idx < 0x4000 then d.special2 e v idx el x
  else if idx < 0x5000 then d.special3 e v idx el x
  else d.special4 v idx el x

/-! ### Conditions that answer ABT_BUSY or ABT_ACCESS at execution -/

/-- An operation of the slot that holds the running image, or while the flash is busy (R884). -/
def Dev.slotAbort (d : Dev) (s : Nat) : Option Abort :=
  if d.o O.FW_SLOT_RUNNING == s && d.o O.SU_STATE != 9 then some (2, 0) else if d.ob O.FW_FLASH_BUSY then some (10, 0) else none

/-- JQ_RUN written 1 is turned away (Table 03-3, R494, R587, R846). DESIGN CHOICE (log entry 228): a sensor in SHED turns it away
while Jacquard runs too (R846 before R199), but in STOPPING Table 03-3's detail stands. -/
def Dev.runAbort (d : Dev) : Option Abort :=
  if d.o O.JQ_STATE == 3 then some (10, 0)
  else if d.o O.RL_STATE != 2 || d.calStartup || d.anyShed then some (10, 12)
  else none

/-- The condition of the device that turns a write away when it executes. -/
def Dev.busy (e : Env) (d : Dev) (idx el x : Nat) : Option Abort :=
  let b := fun (c : Bool) => if c then some (10, 0) else none
  if idx == O.JQ_RUN then (if x == 1 then d.runAbort else none)
  else if idx == O.FW_SLOT_ERASE then d.slotAbort el
  else if idx == O.HM_ARM then b (d.o O.HM_STATE == 0 && d.armBlock e != 0)
  else if idx == O.RX_SKIP_REQ then b (x != 0xFF && !d.skipFree el)
  else if idx == O.TDC_STAT_CFG || idx == O.TDC_STAT_GATE_LO || idx == O.TDC_STAT_GATE_HI || idx == O.TDC_STAT_N then
    b (d.o O.TDC_STAT_STATE == 1)
  else if idx == O.DG_POWER then (if x == 1 && d.anyShed then some (10, 12) else none)
  else if idx == O.FILT_COEF then b (d.coefBusy el)
  else if idx == O.ATL_MODE then (if x == 2 && d.closeRefused el then some (10, 12) else none)
  else if idx == O.ATL_INJ_RUN then b (x == 1 && d.o O.HM_STATE != 0)
  else if idx == O.TAP_FILL then b (d.ob O.TAP_FILL_BUSY)
  else if idx == O.PRBS_GEN || idx == O.PRBS_CHK then b (x != 0 && d.laneInUse el)
  else if idx == O.FLT_CLEAR then b (d.flt.unacked != [])
  else none

/-! ### DOM objects -/

/-- The refusal of one block of a block write before it is taken (R78, R163, R209, R884). -/
def Dev.blockAbort (d : Dev) (idx el : Nat) (data : Bytes) : Option Abort :=
  if idx == O.FW_SLOT_IMAGE then d.slotAbort el
  else if idx == O.JQ_BANK_0 || idx == O.JQ_BANK_1 then
    (if d.bankBusy (idx - O.JQ_BANK_0) then some (8, 0)
     else if (entriesOf data).all entryOk then none else some (4, 6))
  else if idx == O.TAP_HOST_WRITE && d.found == 0 then some (10, 12)
  else none

/-- The refusal of a whole DOM object (R146 apart). -/
def Dev.domAbort (e : Env) (d : Dev) (idx : Nat) (bs : Bytes) : Option Abort :=
  let bad := fun (ok : Bool) => if ok then none else some (4, 6)
  if idx == O.JQ_PATCH then (if !patchOk bs then some (4, 6) else if d.patchClose bs then some (9, 0) else none)
  else if idx == O.EM_ZONE_MAP then bad ((List.range 128).all (fun v => bs.contains (BitVec.ofNat 8 v)))
  else if idx == O.TAP_ROW_MAP then bad (rowMapOk e.channels bs)
  else if idx == O.HK_SEQ then bad (seqOk bs)
  else if idx == O.TAP_HOST_WRITE then bad (d.hostWriteOk bs)
  else if idx == O.CAL_FACTORY_STORE then (if (storeOf e.part.fuse bs).isSome then none else some (11, 14))
  else none

end Sys2Proof.Machine
end

