-- ==== Sys2Proof/Machine/Landing.lean ====
section
/-! DEFINITION. What a written value does when it comes into force: the value itself and the action of its object (R79 to R82,
R132 to R135, R946), one element after the other, values before commands. -/

namespace Sys2Proof.Machine

/-! ### Swaps -/

/-- A swap lands (R206): the active bank changes, and JQ_SWAP_REQ returns to 0. -/
def Dev.swapLand (e : Env) (d : Dev) : Dev :=
  d.sos [(O.JQ_ACTIVE_BANK, 0, d.otherBank), (O.JQ_SWAP_TIME, 0, e.now)]

/-- A swap becomes pending: block writes to the incoming bank are discarded, and their next block is refused (R210). -/
def Dev.dropBankWrites (d : Dev) : Dev :=
  let bank := O.JQ_BANK_0 + d.otherBank
  if !d.swapPending then d
  else
    { d with ses := d.ses.map (fun (s : Ses) =>
        if (s.bw.map BlockWrite.index) == some bank then { s with bw := none, revoked := some (okey bank 0) } else s) }

/-! ### One element -/

/-- JQ_RUN lands (Table 03-3). A start needs the bank check; a value is kept as last written. -/
def Dev.jqRun (e : Env) (d : Dev) (v : Nat) : Dev :=
  let d := d.so O.JQ_RUN 0 v
  if v != 1 then d.jqStop e v
  else if d.o O.JQ_STATE != 0 then d
  else
    let r := d.bankCheck (d.o O.JQ_ACTIVE_BANK)
    let d := d.bankFault r
    if r.isNone then d.jqStart e else d

/-- A configuration element of Hawkmoth lands: both copies take it (R289), and the conditions are evaluated. -/
def Dev.hmLand (e : Env) (d : Dev) (idx el v : Nat) : Dev :=
  let d := (d.so idx el v).copySet idx el v
  let d := if idx == O.HM_BUCKET_LIMIT then d.limitWritten e el v else d
  let d := if idx == O.HM_HOST_HB_SESSION then { d with hm := { d.hm with hostAt := e.now, hostAlive := true } } else d
  d.hmEval e

/-- Elements of indices 1000 to 2FFF. `s` is the session of the write. -/
def Dev.land1 (e : Env) (s : Nat) (d : Dev) (idx el v : Nat) : Dev :=
  if idx == O.RST_REQ then { d with pwr := { d.pwr with rstDue := some (s, e.now) } }
  else if idx == O.PWR_PARK then d.parkStart e
  else if idx == O.FW_SLOT_ERASE then d.slotErase el
  else if idx == O.JQ_RUN then d.jqRun e v
  else if idx == O.JQ_SWAP_REQ then (if v == 1 then d.swapLand e else d)
  else if idx == O.EM_BAR_CLEAR then d.barClearReq
  else if idx == O.EM_TEST_REQ then d.testReq
  else if idx == O.TW_ENABLE then d.twEnabled v
  else if idx == O.HM_ARM then d.hmArm e
  else if idx == O.HM_DISARM then d.hmDisarm e
  else if idx == O.HM_INJECT || idx == O.JQ_AXIS_X_SLOT || idx == O.JQ_AXIS_Y_SLOT then (d.so idx el v).hmEval e
  else if O.HM_HB_TIMEOUT_US ≤ idx && idx ≤ O.HM_WEIGHT then d.hmLand e idx el v
  else if idx == O.HM_THROTTLE_EN then (if v == 0 then (d.so idx el 0).so O.HM_THROTTLE_REQ 0 0 else d.so idx el v)
  else d.so idx el v

/-- Elements of indices 3000 to 3FFF. -/
def Dev.land2 (e : Env) (d : Dev) (idx el v : Nat) : Dev :=
  if idx == O.RX_GROUP_RETRY then d.groupRetry e el
  else if idx == O.RX_RANGE_FORCE then (d.forceLanded el (d.o idx el) v).so idx el v
  else if idx == O.RX_BIAS_ENABLE then d.biasEnable e el v
  else if idx == O.RX_BIAS_SLEW then d.biasSlew e el v
  else if idx == O.RX_WATCH_EN then d.watchEnable e v
  else if idx == O.RX_REPAIR then d.repairLand e el v
  else if idx == O.RX_SKIP_REQ then (if v == 0xFF then d.skipReturn e el else d.skipTake el v)
  else if idx == O.TDC_STAT_START then (if v == 1 then d.statStart else d.statAbandon)
  else if idx == O.RJ_WIN_WARN || idx == O.RJ_WIN_DIRTY_MIN then (d.so idx el v).dirtyCheck e
  else if idx == O.RL_ENABLE then d.ringEnable v
  else if idx == O.RL_GEOMETRY then d.geometry v
  else if idx == O.RL_RESET then d.genStep
  else d.so idx el v

/-- Elements of indices 4000 to 4FFF. -/
def Dev.land3 (e : Env) (d : Dev) (idx el v : Nat) : Dev :=
  if idx == O.DG_POWER then (if v == 1 then d.digiOn e el else d.digiOff e el)
  else if idx == O.DG_PAIR_MODE then d.pairLanded e el v
  else if idx == O.FILT_DECIM || idx == O.FILT_DELAY then d.filtLanded e idx el v
  else if idx == O.FILT_SWAP_REQ then d.swapReq e el v
  else if idx == O.FILT_SYNC then d.syncMask e v (2 * e.now)
  else if idx == O.FILT_COEF then d.coefLanded e el v
  else if idx == O.ACQ_RUN then (if v == 1 then d.acqStart e else d.acqStop)
  else if idx == O.ACQ_PRE_COUNT then d.preLanded v
  else if idx == O.ACQ_REARM then d.acqRearmMode e v
  else if idx == O.ACQ_ARM then d.acqArm e
  else if idx == O.ACQ_DUMP then d.acqDump e
  else if idx == O.ACQ_TRIG_FORCE then d.trigForce e
  else if idx == O.CAL_SAVE then d.calSave e
  else if idx == O.CAL_GROUP_REQ then d.calReq el
  else if idx == O.CAL_RESTORE_FACTORY then d.calRestore e
  else if idx == O.SB_MODE || idx == O.SB_EXC || idx == O.SB_PGA then d.sbLanded e idx el v
  else if idx == O.SB_BLANK then d.blankLanded e el v
  else if idx == O.ATL_OUT then d.outLanded el v
  else if idx == O.PD_RANGE then d.pdRange e el v
  else if idx == O.PD_MODE then d.pdMode e el v
  else if idx == O.ATL_MODE then d.atlMode e el v
  else if idx == O.ATL_TARGET then d.atlTarget el v
  else if idx == O.ATL_TR_ARM then d.traceArm e v
  else if idx == O.ATL_INJ_RUN then d.injRun e el v
  else d.so idx el v

/-- Elements of indices 5000 to 7FFF. -/
def Dev.land4 (e : Env) (d : Dev) (idx el v : Nat) : Dev :=
  if idx == O.TAP_RUN then (d.tapRun v).domSet e 86 (v == 1)
  else if idx == O.TAP_FILL then d.fillStart v
  else if idx == O.LINK_ENABLE then (if v == 1 then (d.so idx el 1).linkEnable e else (d.so idx el 0).linkDisable e)
  else if idx == O.LINK_LOSS_POLICY then d.policyLanded e v
  else if idx == O.LINK_RETRAIN then d.linkRetrain e
  else if idx == O.LINK_TS_PERIOD_MS then
    { (d.so idx el v) with link := { d.link with tsNext := e.now + 1500000 * v } }
  else if idx == O.LANE_SWING || idx == O.LANE_PRE || idx == O.LANE_POST then d.tapsWrite e idx el v
  else if idx == O.LANE_CTLE then d.ctleWrite el v
  else if idx == O.PRBS_GEN then d.prbsGen el v
  else if idx == O.PRBS_CHK then d.prbsChk el v
  else if idx == O.INJ_GO then (if v == 1 then d.injStart e el else d.so idx el 0)
  else if idx == O.MEM_RETRAIN then d.memRetrain e
  else if idx == O.HK_RUN then (if v == 1 then d.hkStart e else d.hkStop e)
  else if idx == O.THM_ROR_EN || idx == O.THM_ROR_LIMIT then ((d.so idx el v).rateStep e).thermalReq
  else if idx == O.FLT_ACK then d.ack e v
  else if idx == O.FLT_CLEAR then d.fltClear e
  else d.so idx el v

/-- One element comes into force. -/
def Dev.landEl (e : Env) (s : Nat) (d : Dev) (idx el v : Nat) : Dev :=
  if idx < 0x3000 then d.land1 e s idx el v
  else if idx < 0x4000 then d.land2 e idx el v
  else if idx < 0x5000 then d.land3 e idx el v
  else d.land4 e idx el v

/-! ### DOM objects -/

/-- A whole DOM object comes into force. An image is programmed apart (`slotProgram`), for its check decides the answer. -/
def Dev.landDom (e : Env) (d : Dev) (idx el : Nat) (bs : Bytes) : Dev :=
  if idx == O.JQ_PATCH then d.patchLand e bs
  else if idx == O.TAP_HOST_WRITE then d.hostWrite e bs
  else if idx == O.FW_SLOT_IMAGE then (d.slotProgram e el bs).2
  else if idx == O.CAL_FACTORY_STORE then
    (match storeOf e.part.fuse bs with
     | some st => d.calFactory bs st
     | none => d)
  else (d.clearDom idx el).setDom idx el 0 bs

/-! ### Sets of values -/

/-- Objects whose write is a command: their elements land after the values of the same set. -/
def isCommand (idx : Nat) : Bool :=
  [O.JQ_RUN, O.HM_ARM, O.HM_DISARM, O.RST_REQ, O.PWR_PARK, O.RX_GROUP_RETRY, O.RX_SKIP_REQ, O.TDC_STAT_START,
   O.RX_BIAS_ENABLE, O.DG_POWER, O.FILT_SWAP_REQ, O.FILT_SYNC, O.ACQ_RUN, O.ACQ_ARM, O.ACQ_DUMP, O.ACQ_TRIG_FORCE, O.CAL_SAVE,
   O.CAL_RESTORE_FACTORY, O.ATL_MODE, O.ATL_TR_ARM, O.ATL_INJ_RUN, O.TAP_RUN, O.TAP_FILL, O.LINK_ENABLE, O.LINK_RETRAIN, O.INJ_GO,
   O.MEM_RETRAIN, O.HK_RUN, O.FLT_ACK, O.FLT_CLEAR, O.FW_SLOT_ERASE].contains idx

/-- A value out of its shadow. -/
def Dev.shadowOff (d : Dev) (k : Nat) : Dev := { d with shadows := tset none d.shadows k none }

/-- One element of a set lands: a repair waits while the group's Skipper is in takeover (R340), and what the device turns away at
this instant has no effect. Its shadow is spent (R946). -/
def Dev.landKey (e : Env) (s : Nat) (d : Dev) (k v : Nat) : Dev :=
  let idx := k / 4096
  let el := k % 4096
  if idx == O.RX_REPAIR && d.repairWaits el then { d with shadows := tset none d.shadows k (some v) }
  else if (d.busy e idx el v).isSome then d.shadowOff k
  else (d.shadowOff k).landEl e s idx el v

/-- A set of values and DOM objects lands at one instant (R82, R133): values, DOM objects, then commands. -/
def Dev.landSet (e : Env) (s : Nat) (d : Dev) (vals : Tab (Option Nat)) (doms : Tab (Option Bytes)) : Dev :=
  let put := fun (d : Dev) (p : Nat × Option Nat) => match p.2 with
    | some v => d.landKey e s p.1 v
    | none => d
  let d := (vals.filter (fun p => !isCommand (p.1 / 4096))).foldl put d
  let d := doms.foldl (fun (d : Dev) (p : Nat × Option Bytes) => match p.2 with
    | some bs => { d with domShadows := tset none d.domShadows p.1 none }.landDom e (p.1 / 4096) (p.1 % 4096) bs
    | none => d) d
  (vals.filter (fun p => isCommand (p.1 / 4096))).foldl put d

/-- The apply class of a key's object. -/
def clsOf (k : Nat) : Cls :=
  match rowOf? (k / 4096) with
  | some r => r.cls
  | none => .now

/-- The shadows of some apply classes land at their boundary (R44, R45, R79). JQ_SWAP_REQ lands by its own rule (R206). -/
def Dev.landShadows (e : Env) (d : Dev) (cs : List Cls) : Dev :=
  let vals := d.shadows.filter (fun p => cs.contains (clsOf p.1) && p.1 != okey O.JQ_SWAP_REQ 0)
  let doms := d.domShadows.filter (fun p => cs.contains (clsOf p.1))
  d.landSet e 4 vals doms

/-- The pending commit lands (R132 to R135, R946). -/
def Dev.landCommit (e : Env) (d : Dev) : Dev :=
  match d.commit with
  | none => d
  | some c =>
    let d := ({ d with commit := none }).so O.COMMIT_LANDED_TIME 0 e.now
    d.landSet e c.sess c.set.vals c.set.doms

/-- The commit lands when the boundary is of its kind. -/
def Dev.landCommitAt (e : Env) (d : Dev) (cs : List Cls) : Dev :=
  match d.commit with
  | some c => if cs.contains c.cls then d.landCommit e else d
  | none => d

/-- The elements that a pending commit is to land leave their shadows: the later landing holds (R946). -/
def Dev.commitFirst (d : Dev) (cs : List Cls) : Dev :=
  match d.commit with
  | some c =>
    if cs.contains c.cls then
      { d with shadows := d.shadows.filter (fun p => !c.set.vals.any (fun q => q.1 == p.1)),
               domShadows := d.domShadows.filter (fun p => !c.set.doms.any (fun q => q.1 == p.1)) }
    else d
  | none => d

/-- What lands at a boundary of some classes: shadows, then a pending commit, in one step (R44, R45, R82, R133). -/
def Dev.boundaryLand (e : Env) (d : Dev) (cs : List Cls) : Dev := ((d.commitFirst cs).landShadows e cs).landCommitAt e cs

/-- Jacquard has reached STOPPED: every shadow and a pending commit land in that step, a pending swap, waiting switches, the repairs
that waited for them and waiting bias targets with them, and then the groups step down (R81, R135, R185, R208, R339, Table 03-3). -/
def Dev.settle (e : Env) (d : Dev) : Dev :=
  if !d.jq.settle then d
  else
    let d := ({ d with jq := { d.jq with settle := false } }).commitFirst [.now, .shot, .line, .frame]
    let k := okey O.JQ_SWAP_REQ 0
    let sw := tget none d.shadows k == some 1
    let d := (d.shadowOff k).landShadows e [.shot, .line, .frame]
    let d := (((if sw then d.swapLand e else d).landCommit e).serveLand e).biasLand e
    let d := (List.range 32).foldl (fun d g => d.calAdvance e g) d
    (List.range 32).foldl (fun d g => d.groupIdle e g) d

/-! ### Direct writes -/

/-- A value of a direct write (R79 to R81): into its shadow while Jacquard runs and the class waits for a boundary, else in
force. -/
def Dev.writeVal (e : Env) (s : Nat) (d : Dev) (r : ObjRow) (el v : Nat) : Dev :=
  let k := okey r.idx el
  if (r.cls = .shot ∨ r.cls = .line ∨ r.cls = .frame) ∧ d.o O.JQ_STATE ≠ 0 then
    ({ d with shadows := tset none d.shadows k (some v) }).dropBankWrites
  else d.landKey e s k v

/-- The values of a direct write, all at one cycle (R82). -/
def Dev.writeVals (e : Env) (s : Nat) (d : Dev) (r : ObjRow) (el : Nat) (vs : List Nat) : Dev :=
  ((List.range vs.length).zip vs).foldl (fun d p => d.writeVal e s r (el + p.1) p.2) d

/-- A completed block write (R148): one write of the whole object under its apply class. -/
def Dev.writeDom (e : Env) (d : Dev) (r : ObjRow) (el : Nat) (bs : Bytes) : Dev :=
  if r.cls = .frame ∧ d.o O.JQ_STATE ≠ 0 then
    { d with domShadows := tset none d.domShadows (okey r.idx el) (some bs) }
  else d.landDom e r.idx el bs

end Sys2Proof.Machine
end

