-- ==== Sys2Proof/Machine/Gop.lean ====
section
/-! DEFINITION. The Gaern Object Protocol (chapter 02): messages and carriers, operations, the lock, snapshots and block
transfers, subscriptions, tags and duplicates, and the execution of one request. -/

namespace Sys2Proof.Machine

/-! ### Sessions and messages -/

/-- A session. -/
def Dev.sess (d : Dev) (s : Nat) : Ses := (d.ses[s]?).getD {}

/-- A session changed. -/
def Dev.setSess (d : Dev) (s : Nat) (x : Ses) : Dev := { d with ses := d.ses.set s x }

/-- The tag of a request: EPOCH and SEQ. -/
def reqTag (q : Req) : Nat := (q.epoch % 4) * 64 + q.seq % 64

/-- What an operation answers: an abort, or a stamp and data (R87). -/
structure Ans where
  abort : Option Abort := none
  stamp : Nat := 0
  data : Bytes := []
  deriving DecidableEq, Repr

/-- An abort as an answer. -/
def refuse (a : Abort) : Ans := { abort := some a }

/-- A response or notification (Table 02-3, R87). -/
def gopBytes (op tag index element : Nat) (note : Bool) (a : Ans) : Bytes :=
  let st := a.abort.getD (0, 0)
  let head := leBytes 1 ((op % 16) * 16 + (if note then 0 else 1)) ++ leBytes 1 tag ++ leBytes 2 index ++ leBytes 2 (element % 4096) ++
    leBytes 1 st.1 ++ leBytes 1 st.2
  if a.abort.isSome then head else head ++ leBytes 8 a.stamp ++ a.data

/-- The bytes of a request (Table 02-2). -/
def reqBytes (m : GopMsg) : Bytes :=
  let q := m.req
  leBytes 1 ((m.op % 16) * 16 + (q.rsv % 2) * 8 + b2n m.pend * 4 + b2n m.md * 2) ++ leBytes 1 (reqTag q) ++ leBytes 2 q.index ++
    leBytes 2 (q.element % 4096 + (q.rsv / 2 % 16) * 4096) ++ leBytes 2 q.count ++ q.data

/-- A request from its bytes (Table 02-2), none where they fall short of a header (R949). DESIGN CHOICE (log entry 201): RESP is not
looked at, so a message with RESP set is taken as a request. -/
def gopOf (s : Nat) (bs : Bytes) : Option GopMsg :=
  if bs.length < 8 then none
  else
    let b0 := byteAt bs 0
    some { op := b0 / 16, pend := bit b0 2, md := bit b0 1,
           req := { sess := s, epoch := byteAt bs 1 / 64, seq := byteAt bs 1 % 64, index := fieldAt bs 2 2,
                    element := fieldAt bs 4 2 % 4096, count := fieldAt bs 6 2, data := bs.drop 8,
                    rsv := b2n (bit b0 3) + 2 * (fieldAt bs 4 2 / 4096) } }

/-! ### Carriers -/

/-- The smallest CAN FD payload that holds `n` bytes (R100). -/
def canLen (n : Nat) : Nat :=
  if n ≤ 8 then n else if n ≤ 12 then 12 else if n ≤ 16 then 16 else if n ≤ 20 then 20 else if n ≤ 24 then 24
  else if n ≤ 32 then 32 else if n ≤ 48 then 48 else 64

/-- A segment's payload: its header, and filler after the last (R98, R100). -/
def canPad (last : Bool) (bs : Bytes) : Bytes :=
  if last then bs ++ List.replicate (canLen bs.length - bs.length) 0xCC else bs

/-- The segments after the first, each of up to 63 message bytes (R99). -/
def canRest : Nat → Nat → Bytes → List Bytes
  | 0, _, _ => []
  | n + 1, seg, bs =>
    let last := bs.length ≤ 63
    canPad last (leBytes 1 (b2n last * 64 + seg % 64) ++ bs.take 63) :: (if last then [] else canRest n (seg + 1) (bs.drop 63))

/-- A message cut into CAN FD payloads (R98 to R100). -/
def canSegments (bs : Bytes) : List Bytes :=
  let last := bs.length ≤ 61
  canPad last (leBytes 1 (128 + b2n last * 64) ++ leBytes 2 bs.length ++ bs.take 61) ::
    (if last then [] else canRest 17 1 (bs.drop 61))

/-- A message leaves on a controller with an identifier (R97); nothing leaves in bus-off (R951). -/
def Dev.canSend (d : Dev) (c : Nat) (ext : Bool) (id : Nat) (bs : Bytes) : Dev :=
  if (d.sess c).busOff then d else (canSegments bs).foldl (fun d p => d.send (.can c ext id p)) d

/-- A response or notification leaves on its session's carrier. `base` and `ext` are the identifier and format that apply to it
(R110). -/
def Dev.emit (d : Dev) (s : Nat) (note : Bool) (ext : Bool) (base : Nat) (bs : Bytes) : Dev :=
  if s < 2 then d.canSend s ext (base + (if note then 2 else 1)) bs
  else if s == 2 then d.setSess 2 { d.sess 2 with outq := (d.sess 2).outq ++ [(note, bs)] }
  else if s == 3 then d.enq { ty := 6, data := bs, kind := if note then 2 else 1 }
  else d

/-- A response with the identifiers of a device, which answers a change of them on the old ones (R110). -/
def Dev.respond (d0 d : Dev) (s : Nat) (bs : Bytes) : Dev :=
  d.emit s false (d0.ob O.CAN_GOP_IDMODE s) (d0.o O.CAN_GOP_BASE_ID s) bs

/-! ### Reading -/

/-- Elements of a run. -/
def runEls (el n : Nat) : List Nat := (List.range n).map (fun i => el + i)

/-- What presence refuses (R10, R11, R16, R85, R91): an absent element comes before one that is not ready. -/
def Dev.presAbort (e : Env) (d : Dev) (idx el n : Nat) : Option Abort :=
  let l := (runEls el n).map (d.pres e idx)
  if l.contains .notDefined then some (1, 1)
  else if l.contains .unitAbsent then some (1, 2)
  else if l.contains .notReady then some (10, 12)
  else none

/-- The width that counts for R89. -/
def ObjRow.width (r : ObjRow) : Nat := if r.ty = .str then 65 else r.ty.bytes

/-- The first element that a request names is absent (R10, R11, R85). -/
def Dev.firstAbsent (e : Env) (d : Dev) (idx el : Nat) : Option Abort := (d.presAbort e idx el 1).filter (fun a => a.1 == 1)

/-- The first checks of a request that names a run: absence of what it names, the type, the count and absence within the run (R10,
R11, R72, R85, R89, R91). -/
def Dev.runCheck (e : Env) (d : Dev) (r : ObjRow) (el n : Nat) : Option Abort :=
  if (d.firstAbsent e r.idx el).isSome then d.firstAbsent e r.idx el
  else if r.ty = .dom then some (3, 0)
  else if n == 0 || 4096 < el + n || (r.ty != .str && 1024 < n * r.width) then some (4, 5)
  else d.presAbort e r.idx el n

/-- READ (R75, R76, R83, R89 to R91, R140). DEDUCED (log entry 45): with META, too, the count of R89 is tested before the type and the
count of R90. -/
def Dev.opRead (e : Env) (d : Dev) (m : GopMsg) (codes : List Int) : Ans × Dev :=
  let q := m.req
  match rowOf? q.index with
  | none => (refuse (1, 1), d)
  | some r =>
    match d.runCheck e r q.element q.count with
    | some a => (refuse a, d)
    | none =>
      if r.acc = .wo then (refuse (2, 0), d)
      else if m.md then
        (if q.count != 1 || r.ty == .bits32 || r.ty == .str then (refuse (3, 0), d)
         else ({ stamp := e.now, data := (d.view q.sess []).metaBytes e r q.element }, d))
      else
        let x := d.readRun e r q.element q.count m.pend true codes
        ({ stamp := e.now, data := x.1 }, x.2)

/-! ### The lock's rules for a write -/

/-- Objects marked LOCKFREE (R130). -/
def lockFree (idx : Nat) : Bool := idx == O.SES_OPEN || idx == O.HM_DISARM || idx == O.FLT_ACK

/-- Another session holds the lock (R130). -/
def Dev.lockedOut (d : Dev) (s idx : Nat) : Bool := d.o O.LOCK_OWNER != 0xFF && d.o O.LOCK_OWNER != s && !lockFree idx

/-- A write of the lock's owner is staged (R126). -/
def Dev.stages (d : Dev) (s idx : Nat) : Bool := d.o O.LOCK_OWNER == s && !lockFree idx

/-- A key that a pending commit holds (R139). -/
def Dev.inCommit (d : Dev) (k : Nat) : Bool :=
  match d.commit with
  | some c => (tget none c.set.vals k).isSome || (tget none c.set.doms k).isSome
  | none => false

/-- Bytes of a staged set: the widths of its elements and the lengths of its DOM objects (R129). -/
def Staged.bytes (x : Staged) : Nat :=
  x.vals.foldl (fun n p => n + (match rowOf? (p.1 / 4096) with
    | some r => r.ty.bytes
    | none => 0)) 0 +
  x.doms.foldl (fun n p => n + (p.2.getD []).length) 0

/-- Runs of a staged set: maximal sequences of consecutive elements of one index, and DOM objects (R129). -/
def Staged.runs (x : Staged) : Nat :=
  (x.vals.filter (fun p => p.1 % 4096 == 0 || (tget none x.vals (p.1 - 1)).isNone)).length + x.doms.length

/-- A staged set within its limits (R129). -/
def Staged.fits (x : Staged) : Bool := x.runs ≤ 256 && x.bytes ≤ 8192

/-- A staged set put into the lock, if it fits; a swap may become pending by it (R204, R210). -/
def Dev.stage (e : Env) (d : Dev) (x : Staged) : Ans × Dev :=
  if x.fits then ({ stamp := e.now }, ({ d with lock := { d.lock with staged := x } }).dropBankWrites) else (refuse (10, 9), d)

/-! ### Writing -/

/-- The values of a write. -/
def parseVals (w : Nat) : Nat → Bytes → List Nat
  | 0, _ => []
  | n + 1, bs => leNat (bs.take w) :: parseVals w n (bs.drop w)

/-- A list of values as a table by key. -/
def ownVals (idx el : Nat) (vs : List Nat) : Tab (Option Nat) :=
  ((runEls el vs.length).zip vs).foldl (fun m p => tset none m (okey idx p.1) (some p.2)) []

/-- The first refusal among a write's values: ranges, then the rules of their objects. -/
def Dev.valueAbort (e : Env) (d : Dev) (s : Nat) (r : ObjRow) (el : Nat) (vs : List Nat) : Option Abort :=
  if !vs.all r.inRange then some (4, 6)
  else
    let v := d.view s (ownVals r.idx el vs)
    ((runEls el vs.length).zip vs).findSome? (fun p => d.special e v r.idx p.1 p.2)

/-- The bank check that a write of JQ_SWAP_REQ or of JQ_RUN runs (R202, R203, Table 03-3): its result stays in
JQ_SWAP_FAULT_ENTRY unless the write is refused for another reason (R155). -/
def Dev.bankTest (d : Dev) (idx : Nat) (staged : Bool) (vs : List Nat) : Option Abort × Dev :=
  let test := fun (b : Nat) =>
    let r := d.bankCheck b
    (if r.isSome then some (4, 6) else none, d.bankFault r)
  if idx == O.JQ_SWAP_REQ && vs == [1] then test d.otherBank
  else if idx == O.JQ_RUN && vs == [1] && !staged && d.o O.JQ_STATE == 0 then test (d.o O.JQ_ACTIVE_BANK)
  else (none, d)

/-- A checked write executes: staged under the lock (R126, R128), else tested against the running state, the device's conditions
and a pending commit, and written. -/
def Dev.writeExec (e : Env) (d : Dev) (s : Nat) (r : ObjRow) (el : Nat) (vs : List Nat) : Ans × Dev :=
  if d.stages s r.idx then
    let x := d.lock.staged
    d.stage e { x with vals := ((runEls el vs.length).zip vs).foldl (fun m p => tset none m (okey r.idx p.1) (some p.2)) x.vals }
  else if r.stopped && (runEls el vs.length).any (d.running r.idx) then (refuse (5, 0), d)
  else
    match ((runEls el vs.length).zip vs).findSome? (fun p => d.busy e r.idx p.1 p.2) with
    | some a => (refuse a, d)
    | none =>
      if (runEls el vs.length).any (fun x => d.inCommit (okey r.idx x)) then (refuse (10, 10), d)
      else ({ stamp := e.now }, d.writeVals e s r el vs)

/-- WRITE (R69, R73 to R75, R78, R85, R89, R91, R130). -/
def Dev.opWrite (e : Env) (d : Dev) (m : GopMsg) : Ans × Dev :=
  let q := m.req
  match rowOf? q.index with
  | none => (refuse (1, 1), d)
  | some r =>
    match d.runCheck e r q.element q.count with
    | some a => (refuse a, d)
    | none =>
      if r.acc = .const ∨ r.acc = .ro ∨ r.acc = .rc then (refuse (2, 0), d)
      else if q.data.length != q.count * r.ty.bytes then (refuse (3, 4), d)
      else if d.lockedOut q.sess q.index then (refuse (6, 0), d)
      else
        let vs := parseVals r.ty.bytes q.count q.data
        match d.valueAbort e q.sess r q.element vs with
        | some a => (refuse a, d)
        | none =>
          if r.idx == O.JQ_RUN && vs == [1] && !d.stages q.sess r.idx && d.runAbort.isSome then (refuse (d.runAbort.getD (0, 0)), d)
          else
            match d.bankTest r.idx (d.stages q.sess r.idx) vs with
            | (some a, d) => (refuse a, d)
            | (none, d') =>
              let x := d'.writeExec e q.sess r q.element vs
              (x.1, if x.1.abort.isSome then d else x.2)

/-! ### Blocks -/

/-- A snapshot and a block write that have seen 10 ms without a request are gone (R142, R147). -/
def Dev.expire (e : Env) (d : Dev) (s : Nat) : Dev :=
  let x := d.sess s
  d.setSess s { x with snap := x.snap.filter (fun (n : Snap) => e.now < n.last + 15000000),
                       bw := x.bw.filter (fun (w : BlockWrite) => e.now < w.last + 15000000) }

/-- A READ_BLOCK of an object holds its snapshot for 10 ms more, whatever it answers (R142, log entry 203). DESIGN CHOICE (log entry
226): it does so when it executes, not while it waits in its session's queue. -/
def Dev.holdSnap (e : Env) (d : Dev) (s idx el : Nat) : Dev :=
  let x := d.sess s
  d.setSess s { x with snap := x.snap.map (fun (n : Snap) => if n.index == idx && n.element == el then { n with last := e.now } else n) }

/-- A WRITE_BLOCK of a session holds its block write for 10 ms more, whatever it names and answers (R147, log entry 203), and
when it executes (DESIGN CHOICE, log entry 226). -/
def Dev.holdBw (e : Env) (d : Dev) (s : Nat) : Dev :=
  let x := d.sess s
  d.setSess s { x with bw := x.bw.map (fun (w : BlockWrite) => { w with last := e.now }) }

/-- The object of a block request: defined, present, a DOM object (R72, R85). -/
def Dev.domRow (e : Env) (d : Dev) (idx el : Nat) : Abort ⊕ ObjRow :=
  match rowOf? idx with
  | none => .inl (1, 1)
  | some r =>
    match d.presAbort e idx el 1 with
    | some a => .inl a
    | none => if r.ty = .dom then .inr r else .inl (3, 0)

/-- One block out of a snapshot (R87, R144); the last block ends it (R142). -/
def Dev.blockOut (_e : Env) (d : Dev) (s n : Nat) (x : Snap) : Ans × Dev :=
  let len := x.data.length
  let last := (len - 1) / 512
  if last < n then (refuse (4, 7), d)
  else
    ({ stamp := x.stamp, data := leBytes 4 len ++ (x.data.drop (512 * n)).take 512 },
     d.setSess s { d.sess s with snap := if n == last then none else some x })

/-- READ_BLOCK (R141 to R144). -/
def Dev.opReadBlock (e : Env) (d : Dev) (m : GopMsg) : Ans × Dev :=
  let q := m.req
  match d.domRow e q.index q.element with
  | .inl a => (refuse a, d)
  | .inr r =>
    if r.acc = .wo then (refuse (2, 0), d)
    else
      let d := (d.expire e q.sess).holdSnap e q.sess q.index q.element
      if q.count == 0 then
        match d.domSnap e q.index q.element with
        | (none, d) => (refuse (11, 14), d)
        | (some bs, d) => d.blockOut e q.sess 0 { index := q.index, element := q.element, data := bs, stamp := e.now, last := e.now }
      else
        match (d.sess q.sess).snap with
        | some x => if x.index == q.index && x.element == q.element then d.blockOut e q.sess q.count x else (refuse (10, 11), d)
        | none => (refuse (10, 11), d)

/-- The block write in progress of a session replaced. -/
def Dev.setBw (d : Dev) (s : Nat) (w : Option BlockWrite) : Dev := d.setSess s { d.sess s with bw := w, revoked := none }

/-- A block write that keeps its place: a refusal that no rule has discard it has no effect (R155). -/
def BlockWrite.kept (w : BlockWrite) : Option BlockWrite := if w.next == 0 then none else some w

/-- A completed block write whose CRC matches (R148, R883): checked, then staged or written. -/
def Dev.domDone (e : Env) (d : Dev) (s : Nat) (r : ObjRow) (el : Nat) (bs : Bytes) : Ans × Dev :=
  match d.domAbort e r.idx bs with
  | some a => (refuse a, d)
  | none =>
    let k := okey r.idx el
    if d.stages s r.idx then d.stage e { d.lock.staged with doms := tset none d.lock.staged.doms k (some bs) }
    else if d.inCommit k then (refuse (10, 10), d)
    else if r.idx == O.FW_SLOT_IMAGE then
      match d.slotProgram e el bs with
      | (true, d) => ({ stamp := e.now }, d)
      | (false, d) => (refuse (11, 14), d)
    else ({ stamp := e.now }, d.writeDom e r el bs)

/-- One block taken into a block write (R144, R950). A refused block discards the write where R146, R209 or R950 says so, and an image
that fails R883's check has been programmed; after another refusal it stands as before. -/
def Dev.blockIn (e : Env) (d : Dev) (q : Req) (r : ObjRow) (w : BlockWrite) : Ans × Dev :=
  let body := q.data.drop 4
  let last := 512 * (w.next + 1) ≥ w.total
  let want := if last then w.total - 512 * w.next + 4 else 512
  if body.length != want then (refuse (3, 4), d.setBw q.sess none)
  else
    let part := if last then body.take (want - 4) else body
    match d.blockAbort r.idx q.element part with
    | some a => (refuse a, d.setBw q.sess (if a.1 == 8 then none else w.kept))
    | none =>
      if last && leNat (body.drop (want - 4)) != crc32 (w.data ++ part) then (refuse (11, 14), d.setBw q.sess none)
      else if last then
        let x := (d.setBw q.sess none).domDone e q.sess r q.element (w.data ++ part)
        match x.1.abort with
        | some a => (x.1, if a.1 == 11 && r.idx == O.FW_SLOT_IMAGE then x.2 else x.2.setBw q.sess w.kept)
        | none => x
      else ({ stamp := e.now }, d.setBw q.sess (some { w with next := w.next + 1, data := w.data ++ part, last := e.now }))

/-- What the arrival of a WRITE_BLOCK does to the session's block write: it is held on (R147), and block 0 discards it whatever it
names (R950). -/
def Dev.bwArrive (e : Env) (d : Dev) (q : Req) : Dev :=
  let d := d.expire e q.sess
  if q.count == 0 then d.setBw q.sess none else d.holdBw e q.sess

/-- WRITE_BLOCK (R145 to R148, R209, R210, R950). -/
def Dev.opWriteBlock (e : Env) (d : Dev) (m : GopMsg) : Ans × Dev :=
  let q := m.req
  let d := d.bwArrive e q
  match d.domRow e q.index q.element with
  | .inl a => (refuse a, d)
  | .inr r =>
    let x := d.sess q.sess
    let total := fieldAt q.data 0 4
    let stg := d.stages q.sess q.index
    let room := { d.lock.staged with doms := tset none d.lock.staged.doms (okey q.index q.element) none }
    if r.acc = .const ∨ r.acc = .ro ∨ r.acc = .rc then (refuse (2, 0), d)
    else if d.lockedOut q.sess q.index then (refuse (6, 0), d)
    else if q.count != 0 && x.revoked == some (okey q.index q.element) then (refuse (8, 0), d.setBw q.sess none)
    else if q.data.length < 4 then (refuse (3, 4), d.setBw q.sess none)
    else if !stg && r.stopped && d.running q.index q.element then (refuse (5, 0), d)
    else if q.count == 0 then
      (if !domLenOk d q.index total then (refuse (if q.index == O.TAP_HOST_WRITE then (4, 6) else (3, 4)), d)
       else if stg && 8192 < room.bytes + total then (refuse (10, 9), d)
       else d.blockIn e q r { index := q.index, element := q.element, total := total, next := 0, data := [], last := e.now })
    else
      match x.bw with
      | none => (refuse (4, 7), d)
      | some w =>
        if w.index == q.index && w.element == q.element && w.next == q.count && w.total == total then d.blockIn e q r w
        else (refuse (4, 7), d.setBw q.sess none)

/-! ### Lock, commit, subscriptions -/

/-- LOCK (R123 to R125). -/
def Dev.opLock (e : Env) (d : Dev) (s : Nat) : Ans × Dev :=
  let until_ := e.now + 1500000 * d.o O.LOCK_LEASE_MS
  if d.commit.isSome then (refuse (10, 10), d)
  else if d.o O.LOCK_OWNER == 0xFF then
    ({ stamp := e.now }, { (d.so O.LOCK_OWNER 0 s) with lock := { deadline := until_, staged := {} } })
  else if d.o O.LOCK_OWNER == s then ({ stamp := e.now }, { d with lock := { d.lock with deadline := until_ } })
  else (refuse (6, 0), d)

/-- The class whose boundary a set waits for (R132). -/
def Staged.cls (x : Staged) : Cls :=
  let cs := x.vals.map (fun p => clsOf p.1) ++ x.doms.map (fun p => clsOf p.1)
  if cs.contains .frame then .frame else if cs.contains .line then .line else if cs.contains .shot then .shot else .now

/-- A staged element whose subsystem runs (R131). -/
def Dev.stagedRuns (d : Dev) (k : Nat) : Bool :=
  match rowOf? (k / 4096) with
  | some r => r.stopped && d.running (k / 4096) (k % 4096)
  | none => false

/-- COMMIT (R131 to R137). -/
def Dev.opCommit (e : Env) (d : Dev) (s : Nat) : Ans × Dev :=
  let x := d.lock.staged
  if d.o O.LOCK_OWNER != s then (refuse (2, 15), d)
  else if x.vals.any (fun p => d.stagedRuns p.1) || x.doms.any (fun p => d.stagedRuns p.1) then (refuse (5, 0), d)
  else
    let c : Cls := if d.o O.JQ_STATE == 0 then .now else x.cls
    let d := { d.freeLock with commit := some { cls := c, sess := s, set := x } }
    ({ stamp := e.now, data := leBytes 1 c.code }, if c = .now then d.landCommit e else d.dropBankWrites)

/-- ABORT_LOCK (R137). -/
def Dev.opAbortLock (e : Env) (d : Dev) (s : Nat) : Ans × Dev :=
  if d.o O.LOCK_OWNER == s then ({ stamp := e.now }, d.freeLock) else (refuse (2, 15), d)

/-- The values of a run at the present cycle. -/
def Dev.runVals (e : Env) (d : Dev) (idx el n : Nat) : List Nat := (runEls el n).map (d.readVal e idx)

/-- A subscription of exactly this run (R150). -/
def Sub.of (x : Sub) (s idx el n : Nat) : Bool := x.sess == s && x.index == idx && x.element == el && x.count == n

/-- SUBSCRIBE of a run that may be read (R149 to R151). DESIGN CHOICE (log entry 227): MODE 0 of a run that is not subscribed answers OK;
a SUBSCRIBE that replaces MODE and PERIOD keeps what the subscription has seen and whether a change still waits. -/
def Dev.subscribe (e : Env) (d : Dev) (q : Req) (mode period : Nat) : Ans × Dev :=
  let old := d.subs.any (fun x => x.of q.sess q.index q.element q.count)
  let rest := d.subs.filter (fun x => !x.of q.sess q.index q.element q.count)
  if mode == 0 then ({ stamp := e.now }, { d with subs := rest })
  else if 3 < mode || (1 < mode && (period == 0 || 60000 < period)) then (refuse (4, 6), d)
  else if !old && 64 ≤ (d.subs.filter (fun x => x.sess == q.sess)).length then (refuse (10, 8), d)
  else
    let x : Sub := { sess := q.sess, index := q.index, element := q.element, count := q.count, mode := mode, period := period,
                     due := e.now + 1500000 * period, last := none, dirty := false, seen := d.runVals e q.index q.element q.count }
    let put := fun (y : Sub) =>
      if y.of q.sess q.index q.element q.count then { x with last := y.last, dirty := y.dirty, seen := y.seen } else y
    ({ stamp := e.now }, { d with subs := if old then d.subs.map put else d.subs ++ [x] })

/-- SUBSCRIBE. DESIGN CHOICE (log entry 201): a run that a READ refuses for its type or count is refused with the same code. -/
def Dev.opSubscribe (e : Env) (d : Dev) (m : GopMsg) : Ans × Dev :=
  let q := m.req
  match rowOf? q.index with
  | none => (refuse (1, 1), d)
  | some r =>
    match d.runCheck e r q.element q.count with
    | some a => (refuse a, d)
    | none =>
      if r.acc = .wo then (refuse (2, 0), d)
      else if q.data.length != 4 then (refuse (3, 4), d)
      else d.subscribe e q (byteAt q.data 0) (fieldAt q.data 2 2)

/-! ### One request -/

/-- What a session is served at this moment (R882, R892, R896): a refusal that comes before every other. -/
def Dev.serviceAbort (d : Dev) (s idx : Nat) : Option Abort :=
  let su := d.o O.SU_STATE
  if su == 8 && s != 4 then some (10, 12)
  else if su == 9 || su == 10 then
    (if (0x1000 ≤ idx && idx ≤ 0x10FF) || (0x1200 ≤ idx && idx ≤ 0x1203) || (0x1240 ≤ idx && idx ≤ 0x1246) then none else some (10, 12))
  else none

/-- The device answers requests of a session at all: from BOOT_CONFIG on, in BOOT_FAILED and SAFE_STOP on CAN_0 and SPI only. -/
def Dev.serves (d : Dev) (s : Nat) : Bool :=
  d.pwr.mode = .up && 3 ≤ d.o O.SU_STATE && s ≤ 4 && (d.o O.SU_STATE < 9 || s == 0 || s == 2)

/-- An operation of Table 02-4 but SES_OPEN. DESIGN CHOICE (log entry 201): data behind what Table 02-4 gives a READ, READ_BLOCK,
LOCK, COMMIT or ABORT_LOCK is ignored. -/
def Dev.operate (e : Env) (d : Dev) (m : GopMsg) (codes : List Int) : Ans × Dev :=
  let q := m.req
  match d.serviceAbort q.sess q.index with
  | some a => (refuse a, d)
  | none =>
    if m.op == 1 then d.opRead e m codes
    else if m.op == 2 then d.opWrite e m
    else if m.op == 3 then d.opReadBlock e m
    else if m.op == 4 then d.opWriteBlock e m
    else if m.op == 5 then d.opLock e q.sess
    else if m.op == 6 then d.opCommit e q.sess
    else if m.op == 7 then d.opAbortLock e q.sess
    else if m.op == 8 then d.opSubscribe e m
    else (refuse (3, 3), d)

/-- The write of SES_OPEN (R113 to R115): the answer and the device. -/
def Dev.opSesOpen (e : Env) (d : Dev) (q : Req) : Ans × Dev :=
  match rowOf? O.SES_OPEN with
  | none => (refuse (1, 1), d)
  | some r =>
    match d.serviceAbort q.sess O.SES_OPEN with
    | some a => (refuse a, d)
    | none =>
      match d.runCheck e r q.element q.count with
      | some a => (refuse a, d)
      | none =>
        if q.element != q.sess || q.count != 1 then (refuse (2, 16), d)
        else if q.data.length != 1 then (refuse (3, 4), d)
        else
          let d := d.so O.SES_EPOCH q.sess ((d.o O.SES_EPOCH q.sess + 1) % 4)
          let d := { d with subs := d.subs.filter (fun x => x.sess != q.sess) }
          let d := d.setSess q.sess { d.sess q.sess with stored := [], snap := none, bw := none, revoked := none }
          ({ stamp := e.now }, if d.o O.LOCK_OWNER == q.sess then d.freeLock else d)

/-- The counters of an executed request (R118; Table 02-6). -/
def Dev.countReq (d : Dev) (s : Nat) (a : Ans) : Dev :=
  let d := d.inc O.GOP_REQUESTS s
  if a.abort.isSome then d.inc O.GOP_ABORTS s else d

/-- SES_OPEN as a whole (R114): its response carries the session's epoch and is not stored. DESIGN CHOICE (log entry 201): that of a
refused one carries the epoch that stays. -/
def Dev.sesOpen (e : Env) (d : Dev) (m : GopMsg) : Dev :=
  let q := m.req
  let x := d.opSesOpen e q
  let d' := x.2.countReq q.sess x.1
  Dev.respond d d' q.sess (gopBytes 2 (64 * d'.o O.SES_EPOCH q.sess + q.seq % 64) q.index q.element false x.1)

/-- The stored tag that a request matches (R118, R119): executed within the last 100 ms. -/
def Dev.duplicate (e : Env) (d : Dev) (m : GopMsg) : Option Stored :=
  (d.sess m.req.sess).stored.find? (fun x => reqTag x.msg.req == reqTag m.req && e.now < x.time + 150000000)

/-- A duplicate (R119, R120, R142, R147): the stored response again, and what its request holds is held on. DESIGN CHOICE (log entry
242): one whose stored response is an abort counts in GOP_DUPLICATES alone. -/
def Dev.dupAnswer (e : Env) (d : Dev) (m : GopMsg) (x : Stored) : Dev :=
  let s := m.req.sess
  let d := d.inc O.GOP_DUPLICATES s
  let d := if x.msg == m then d else d.inc O.GOP_TAG_CONFLICT s
  let d := d.expire e s
  let d := if x.msg.op == 3 then d.holdSnap e s x.msg.req.index x.msg.req.element
    else if x.msg.op == 4 then d.holdBw e s else d
  Dev.respond d d s x.resp

/-- An executed request answered and stored (R118). -/
def Dev.answer (e : Env) (d0 d : Dev) (m : GopMsg) (a : Ans) : Dev :=
  let q := m.req
  let bs := gopBytes m.op (reqTag q) q.index q.element false a
  let d := d.countReq q.sess a
  let x := d.sess q.sess
  let d := d.setSess q.sess { x with stored := ({ msg := m, resp := bs, time := e.now } :: x.stored).take 32 }
  Dev.respond d0 d q.sess bs

/-- A frame stands between its decision and its boundary: its first shot is still to be decoded, or waits in the queue (R207). -/
def Dev.frameDecided (d : Dev) : Bool := d.jq.firstDue || d.jq.queue.any Shot.frameFirst

/-- A request whose execution waits for a frame boundary (R207). -/
def Dev.holds (d : Dev) (m : GopMsg) : Bool :=
  d.frameDecided &&
    ((m.op == 2 && m.req.index == O.JQ_SWAP_REQ) ||
     (m.op == 6 && d.o O.LOCK_OWNER == m.req.sess && (tget none d.lock.staged.vals (okey O.JQ_SWAP_REQ 0)).isSome))

/-- A request executes (R93, R114, R116, R119, R207). -/
def Dev.request (e : Env) (d : Dev) (m : GopMsg) (codes : List Int) : Dev :=
  let q := m.req
  if m.op == 2 && q.index == O.SES_OPEN then d.sesOpen e m
  else if q.epoch % 4 != d.o O.SES_EPOCH q.sess then
    let d := (d.inc O.GOP_STALE q.sess).inc O.GOP_ABORTS q.sess
    Dev.respond d d q.sess (gopBytes m.op (reqTag q) q.index q.element false (refuse (7, 0)))
  else
    match d.duplicate e m with
    | some x => d.dupAnswer e m x
    | none =>
      if d.holds m then d.setSess q.sess { d.sess q.sess with held := some m }
      else
        let x := d.operate e m codes
        Dev.answer e d x.2 m x.1

/-- What a complete request does before it executes: it renews the host heartbeat (R276) and the lease of its session's lock
(R125). -/
def Dev.arrived (e : Env) (d : Dev) (s : Nat) : Dev :=
  let d := d.hostRenew e s
  if d.o O.LOCK_OWNER == s then { d with lock := { d.lock with deadline := e.now + 1500000 * d.o O.LOCK_LEASE_MS } } else d

/-- The credit of a Gaern request falls due where it is taken for execution, or refused for a full queue (R714). -/
def Dev.creditDue (d : Dev) (s : Nat) : Dev := if s == 3 then { d with link := { d.link with owed := d.link.owed + 1 } } else d

/-- A request taken from a session's queue. -/
def Dev.unqueue (d : Dev) (s : Nat) : Dev := (d.setSess s { d.sess s with queue := (d.sess s).queue.drop 1 }).creditDue s

/-- A waiting message is the one that a command names: PEND and META tell the rows of READ apart, META before PEND, and mean nothing
in another operation (Table 02-2, R88). -/
def GopMsg.names (m x : GopMsg) : Bool :=
  x.op == m.op && x.req == m.req && (m.op != 1 || (x.md == m.md && (x.md || x.pend == m.pend)))

/-- A request of a session: it executes when nothing waits before it, or when it is the one that waits first (R93). -/
def Dev.gopRun (e : Env) (d : Dev) (m : GopMsg) (codes : List Int) : Dev :=
  let s := m.req.sess
  if !d.serves s || 4 ≤ s || (d.sess s).held.isSome then d
  else
    match (d.sess s).queue with
    | [] => ((d.arrived e s).creditDue s).request e m codes
    | x :: _ => if GopMsg.names m x then (d.unqueue s).request e x codes else d

/-- A request that a carrier has received whole (R95): queued, or refused where eight wait beside the one under execution. -/
def Dev.gopIn (e : Env) (d : Dev) (m : GopMsg) : Dev :=
  let s := m.req.sess
  if !d.serves s then d
  else
    let d := d.arrived e s
    let x := d.sess s
    if 9 ≤ x.queue.length + (if x.held.isSome then 1 else 0) then
      let d := (d.inc O.GOP_ABORTS s).creditDue s
      Dev.respond d d s (gopBytes m.op (reqTag m.req) m.req.index m.req.element false (refuse (10, 8)))
    else d.setSess s { x with queue := x.queue ++ [m] }

/-- HELD_SWAP_EXECUTE (R207): the frame boundary has passed. -/
def Dev.heldRun (e : Env) (d : Dev) (s : Nat) : Dev :=
  match (d.sess s).held with
  | none => d
  | some m =>
    if d.frameDecided || !d.serves s then d
    else
      let d := d.setSess s { d.sess s with held := none }
      let x := d.operate e m []
      Dev.answer e d x.2 m x.1

/-! ### Notifications -/

/-- A notification of a subscription leaves (R153, R154). -/
def Dev.notify (e : Env) (d : Dev) (x : Sub) : Dev :=
  match rowOf? x.index with
  | none => d
  | some r =>
    if (d.presAbort e x.index x.element x.count).isSome then d
    else
      let v := d.readRun e r x.element x.count false false []
      let y := v.2.sess x.sess
      let d := v.2.setSess x.sess { y with nseq := (y.nseq + 1) % 64 }
      d.emit x.sess true (d.ob O.CAN_GOP_IDMODE x.sess) (d.o O.CAN_GOP_BASE_ID x.sess)
        (gopBytes 9 (64 * d.o O.SES_EPOCH x.sess + y.nseq) x.index x.element true { stamp := e.now, data := v.1 })

/-- The subscriptions with one replaced. -/
def Dev.setSub (d : Dev) (x : Sub) : Dev :=
  { d with subs := d.subs.map (fun y => if y.of x.sess x.index x.element x.count then x else y) }

/-- NOTIFY_PERIODIC (R150): a period has passed. -/
def Dev.notifyPeriodic (e : Env) (d : Dev) (s idx el n : Nat) : Dev :=
  match d.subs.find? (fun x => x.of s idx el n) with
  | some x =>
    if 2 ≤ x.mode && x.due ≤ e.now && d.serves s then (d.notify e x).setSub { x with due := x.due + 1500000 * x.period } else d
  | none => d

/-- NOTIFY_CHANGE (R152): a change waits and a millisecond has passed since the last one. -/
def Dev.notifyChange (e : Env) (d : Dev) (s idx el n : Nat) : Dev :=
  match d.subs.find? (fun x => x.of s idx el n) with
  | some x =>
    let free := match x.last with
      | some t => t + 1500000 ≤ e.now
      | none => true
    if x.mode % 2 == 1 && x.dirty && free && d.serves s then (d.notify e x).setSub { x with last := some e.now, dirty := false } else d
  | none => d

/-- A subscription on change marked where its run reads other than it was last seen, by a command or by the passing of time. -/
def Dev.markSub (e : Env) (d : Dev) (x : Sub) : Sub :=
  if x.mode % 2 == 1 && x.seen != d.runVals e x.index x.element x.count then
    { x with dirty := true, seen := d.runVals e x.index x.element x.count }
  else x

/-- Subscriptions on change whose run now reads differently. -/
def Dev.markSubs (e : Env) (d : Dev) : Dev := { d with subs := d.subs.map (d.markSub e) }

end Sys2Proof.Machine
end

