-- ==== Sys2Proof/Machine/Boot.lean ====
section
/-! DEFINITION. The boot configuration of the image in force (R885 to R888) and the parts of start-up that lead through it: the
internal session executes one entry at a time, and the writes held for READY run when start-up reaches it (Table 17-8). -/

namespace Sys2Proof.Machine

/-- The number of the internal session. -/
def bootSes : Nat := 4

/-- A refusal of the boot session other than a first NOT_READY: counted and logged (R886). -/
def Dev.bootRefused (e : Env) (d : Dev) (a : Abort) : Dev :=
  (d.inc O.SU_BOOT_CFG_ERR).log e 0x0E0E (loc14 14) 0 (a.1 * 256 + a.2)

/-- The answer of the boot session to a request: status and detail, then the refusal's record. -/
def Dev.bootAnswer (e : Env) (d : Dev) (a : Option Abort) : Dev :=
  let d := d.send (.boot (a.getD (0, 0)).1 (a.getD (0, 0)).2)
  match a with
  | none => d
  | some x => d.bootRefused e x

/-- What refuses a boot entry before its execution: it is shorter than a header, no write, a write of HM_ARM or HM_INJECT (R888),
or of SES_OPEN (R885). -/
def bootAbort (m : Option GopMsg) : Option Abort :=
  match m with
  | none => some (3, 4)
  | some m =>
    if m.op != 2 && m.op != 4 then some (3, 3)
    else if m.req.index == O.HM_ARM || m.req.index == O.HM_INJECT then some (2, 0)
    else if m.req.index == O.SES_OPEN then some (2, 16)
    else none

/-- A boot write that READY releases (R887). -/
def bootHolds (m : GopMsg) : Bool := m.op == 2 && (m.req.index == O.JQ_RUN || m.req.index == O.ATL_MODE)

/-- One entry of the boot configuration; `again` marks its second execution (R886). -/
def Dev.bootEntry (e : Env) (d : Dev) (bs : Bytes) (again : Bool) : Dev :=
  match bootAbort (gopOf bootSes bs), gopOf bootSes bs with
  | some a, _ => d.bootAnswer e (some a)
  | none, none => d
  | none, some m =>
    if bootHolds m then { d with pwr := { d.pwr with heldWrites := d.pwr.heldWrites ++ [m] } }
    else
      let x := d.operate e m []
      if x.1.abort == some (10, 12) && !again then
        { (x.2.send (.boot 10 12)) with pwr := { x.2.pwr with retry := x.2.pwr.retry ++ [bs] } }
      else x.2.bootAnswer e x.1.abort

/-- BOOT_CONFIG_ENTRY: the next entry of the phase under way. In the MEM_TRAIN phase the entries that found their object not ready
execute once more after training. -/
def Dev.bootNext (e : Env) (d : Dev) : Dev :=
  if d.pwr.mode != .up then d
  else
    match d.o O.SU_STATE, d.pwr.cfg, d.pwr.retry with
    | 3, x :: l, _ => (({ d with pwr := { d.pwr with cfg := l } }).bootEntry e x false).suStep e
    | 3, [], x :: l =>
      if d.pwr.warm then (({ d with pwr := { d.pwr with retry := l } }).bootEntry e x true).suStep e else d.suStep e
    | 3, [], [] => d.suStep e
    | 4, _, x :: l =>
      if d.o O.MEM_STATE == 2 then (({ d with pwr := { d.pwr with retry := l } }).bootEntry e x true).suStep e else d
    | _, _, _ => d

/-- The writes held for READY, in their order (R887). -/
def Dev.heldBoot (e : Env) (d : Dev) : Dev :=
  let l := d.pwr.heldWrites
  l.foldl (fun (d : Dev) (m : GopMsg) =>
    let x := d.operate e m []
    x.2.bootAnswer e x.1.abort) { d with pwr := { d.pwr with heldWrites := [] } }

/-- STARTUP_CALIBRATION_DONE (R586, R887): start-up reaches READY. -/
def Dev.startupDone (e : Env) (d : Dev) : Dev := if d.calEnds e then (d.ready_ e).heldBoot e else d

/-- RINGLET_CLEAR_DONE (R494). -/
def Dev.clearDone (e : Env) (d : Dev) : Dev := (d.ringCleared).suStep e

/-- FW_SLOT_CHECKED: an empty boot configuration ends its phase at once. -/
def Dev.fwChecked (e : Env) (d : Dev) (s : Nat) : Dev := (d.slotChecked e s).suStep e

/-- MEM_TRAINING_DONE (R759 to R763, R881, R892). -/
def Dev.memTrained (e : Env) (d : Dev) (ok0 ok1 : Bool) : Dev := (d.trainDone e ok0 ok1).suTrained e

end Sys2Proof.Machine
end

