-- ==== Sys2Proof/Machine/Carriers.lean ====
section
/-! DEFINITION. The carriers (chapter 02): CAN FD reassembly (R97 to R101), SPI frames (R102 to R107), Gaern packets (R109, R707,
R717), carrier failures (R951), and the leases and stores that run out. -/

namespace Sys2Proof.Machine

/-! ### CAN FD -/

/-- A segment or message discarded (R101, R949). -/
def Dev.canDrop (d : Dev) (c : Nat) : Dev := (d.inc O.CAN_SEG_DISCARDS c).setSess c { d.sess c with canRx := none }

/-- A segment put behind what has been received (R99, R101). -/
def Dev.canTake (e : Env) (d : Dev) (c : Nat) (r : CanRx) (last : Bool) (body : Bytes) : Dev :=
  let got := r.data ++ body.take (r.len - r.data.length)
  if last != (r.len ≤ got.length : Bool) then d.canDrop c
  else if last then
    let d := d.setSess c { d.sess c with canRx := none }
    match gopOf c got with
    | some m => d.gopIn e m
    | none => d
  else d.setSess c { d.sess c with canRx := some { r with data := got, last := e.now } }

/-- A first segment (R99): it starts a message. -/
def Dev.canFirst (e : Env) (d : Dev) (c : Nat) (bs : Bytes) : Dev :=
  let len := fieldAt bs 1 2
  if bs.length < 3 || byteAt bs 0 % 64 != 0 || len < 8 || 1040 < len then d.canDrop c
  else d.canTake e c { len := len, segno := 0, data := [], last := e.now } (bit (byteAt bs 0) 6) (bs.drop 3)

/-- A later segment: it goes on with the message in progress. One that comes more than 20 ms after the last finds that message
discarded, and counts as one without a message beside it. -/
def Dev.canNext (e : Env) (d : Dev) (c : Nat) (r : CanRx) (bs : Bytes) : Dev :=
  if r.last + 30000000 ≤ e.now then (d.canDrop c).canDrop c
  else if byteAt bs 0 % 64 != (r.segno + 1) % 64 then d.canDrop c
  else d.canTake e c { r with segno := (r.segno + 1) % 64 } (bit (byteAt bs 0) 6) (bs.drop 1)

/-- The controller takes part in the bus and the device serves its session. -/
def Dev.canUp (d : Dev) (c : Nat) : Bool := c < 2 && d.serves c && !(d.sess c).busOff

/-- CAN_SEGMENT_RX (R97 to R101, R110, R949): a frame of the format in force on the controller's base identifier. -/
def Dev.canRx (e : Env) (d : Dev) (c : Nat) (ext : Bool) (id : Nat) (bs : Bytes) : Dev :=
  if !d.canUp c || ext != d.ob O.CAN_GOP_IDMODE c || id != d.o O.CAN_GOP_BASE_ID c || bs == [] then d
  else if bit (byteAt bs 0) 7 then
    (match (d.sess c).canRx with
     | some _ => (d.canDrop c).canFirst e c bs
     | none => d.canFirst e c bs)
  else
    match (d.sess c).canRx with
    | some r => d.canNext e c r bs
    | none => d.canDrop c

/-- CAN_SEGMENT_TIMEOUT (R101): 20 ms have passed since the last segment. -/
def Dev.canTimeout (e : Env) (d : Dev) (c : Nat) : Dev :=
  match (d.sess c).canRx with
  | some r => if c < 2 && r.last + 30000000 ≤ e.now then d.canDrop c else d
  | none => d

/-- CAN_BUS_OFF (R951): the carrier fails under R138. DESIGN CHOICE (log entry 202): a partly received request stays, and may go on
after recovery within its 20 ms. -/
def Dev.canBusOff (e : Env) (d : Dev) (c : Nat) : Dev :=
  if c < 2 && d.serves c then (d.setSess c { d.sess c with busOff := true }).carrierFail e c else d

/-- CAN_BUS_OFF_RECOVERY (R951). -/
def Dev.canRecover (d : Dev) (c : Nat) : Dev := if c < 2 then d.setSess c { d.sess c with busOff := false } else d

/-! ### SPI -/

/-- The status byte (R104). -/
def Dev.spiStatus (d : Dev) : Nat :=
  let q := (d.sess 2).outq
  128 * b2n (q.any (fun p => !p.1)) + 64 * b2n (q.any Prod.fst) + satN 63 q.length

/-- A frame refused under R107 or R949. -/
def Dev.spiRefused (e : Env) (d : Dev) : Dev :=
  let x := d.sess 2
  (d.inc O.SPI_FRAME_ERRORS).setSess 2 { x with refused := (e.now :: x.refused).take 8 }

/-- Whether the frame's type, length and CRC agree, and its message is no longer than a message may be (R92, R102, R103). -/
def spiGood (mosi : Bytes) : Bool :=
  let len := fieldAt mosi 1 2
  byteAt mosi 0 == 1 && len ≤ 1040 && mosi.length == len + 5 && fieldAt mosi (3 + len) 2 == crc16 (mosi.take (3 + len))

/-- A frame that R107 refuses is answered with OP and TAG as received; it renews the host heartbeat as any complete request does.
DESIGN CHOICE (log entry 202): fields that a short frame does not hold are answered as 0. -/
def Dev.spiBad (e : Env) (d : Dev) (mosi : Bytes) : Dev :=
  let d := ((d.spiRefused e).inc O.GOP_ABORTS 2).hostRenew e 2
  Dev.respond d d 2 (gopBytes (byteAt mosi 3 / 16) (byteAt mosi 4) (fieldAt mosi 5 2) (fieldAt mosi 7 2) false (refuse (11, 13)))

/-- A frame of the request type, or of no type of the protocol (R102, R107, R949). DESIGN CHOICE (log entry 202): a request frame with
LEN 0 to 7 is counted under R949 and not answered, whatever its CRC and length; one with LEN above 1,040 is refused under R107. -/
def Dev.spiFrame (e : Env) (d : Dev) (mosi : Bytes) : Dev :=
  let d := d.send (.miso (leBytes 1 d.spiStatus ++ zeros (mosi.length - 1)))
  if byteAt mosi 0 == 1 && 3 ≤ mosi.length && fieldAt mosi 1 2 < 8 then d.spiRefused e
  else if !spiGood mosi then d.spiBad e mosi
  else
    match gopOf 2 ((mosi.drop 3).take (fieldAt mosi 1 2)) with
    | some m => d.gopIn e m
    | none => d

/-- SPI_POLL_FRAME (R104, R105): the oldest message, as far as the host clocks it out. -/
def Dev.spiPoll (d : Dev) (clocked : Nat) : Dev :=
  if !d.serves 2 || clocked == 0 then d
  else
    let msg := match (d.sess 2).outq with
      | (_, m) :: _ => m
      | [] => []
    let body := leBytes 2 msg.length ++ msg
    let all := leBytes 1 d.spiStatus ++ body ++ leBytes 2 (crc16 body)
    let d := d.send (.miso (all.take clocked))
    if all.length ≤ clocked then d.setSess 2 { d.sess 2 with outq := (d.sess 2).outq.drop 1 } else d

/-- SPI_REQUEST_FRAME: a frame on MOSI; one of the poll type takes a message. -/
def Dev.spiRx (e : Env) (d : Dev) (mosi : Bytes) : Dev :=
  if !d.serves 2 || mosi == [] then d
  else if byteAt mosi 0 == 2 then d.spiPoll mosi.length
  else d.spiFrame e mosi

/-- SPI_CARRIER_FAILURE (R951): eight refused frames within 100 ms. -/
def Dev.spiFail (e : Env) (d : Dev) : Dev :=
  let x := d.sess 2
  match x.refused[0]?, x.refused[7]? with
  | some new, some old =>
    if new ≤ old + 150000000 then (d.setSess 2 { x with refused := [] }).carrierFail e 2 else d
  | _, _ => d

/-! ### The Gaern back-channel -/

/-- A received packet (R109, R714, R717, R744, R949). -/
def Dev.rxPacket (e : Env) (d : Dev) (x : RxSeg) : Dev :=
  if x.ty == 7 then d.delayReq x.payload
  else if x.payload == [] then d
  else
    match gopOf 3 x.payload with
    | some m => d.gopIn e m
    | none => d.inc O.LINK_RX_DISCARD

/-- A segment received whole (R707). -/
def Dev.rxSegment (e : Env) (d : Dev) (p : Bytes × Bool) : Dev :=
  match d.rxSeg p.2 p.1 with
  | (none, d) => d
  | (some x, d) => d.rxPacket e x

/-- GAERN_GOP_PACKET_RX and DELAY_REQ_RX (R686, R692, R693, R707): what has arrived on the receive lanes. -/
def Dev.gaernRx (e : Env) (d : Dev) (rx : List RxCol) : Dev :=
  if !d.linkUp || d.o O.LINK_ACTIVE_HRX == 0 then d
  else
    let x := d.rxColumns rx
    x.1.foldl (fun d p => d.rxSegment e p) x.2

/-- LANE_LOSS (R733): a lane is lost, with what the receive lanes have received up to then. -/
def Dev.laneLoss (e : Env) (d : Dev) (lane cause : Nat) (rx : List RxCol) : Dev := (d.gaernRx e rx).laneGone e lane cause

/-! ### Leases and stores -/

/-- LOCK_LEASE_EXPIRY (R125, R138). -/
def Dev.leaseExpiry (e : Env) (d : Dev) : Dev :=
  if d.o O.LOCK_OWNER != 0xFF && d.lock.deadline ≤ e.now then d.loseLock e else d

/-- TAG_STORE_EXPIRY (R118): a stored tag is 100 ms old. -/
def Dev.tagExpiry (e : Env) (d : Dev) (s tag : Nat) : Dev :=
  let x := d.sess s
  d.setSess s { x with stored := x.stored.filter (fun (y : Stored) => reqTag y.msg.req != tag || e.now < y.time + 150000000) }

end Sys2Proof.Machine
end

