-- ==== Sys2Proof/Machine/Boundary.lean ====
section
/-! DEFINITION. The life of a shot from its boundary to the close of its windows (chapters 01, 03 to 09): what delays a boundary,
what lands there, fire commit, emission, and the header, echoes and record that its windows give. -/

namespace Sys2Proof.Machine

/-! ### Delays of a shot boundary (R35, R250, R415) -/

/-- The head of the queue changed. -/
def Dev.setHead (d : Dev) (f : Shot → Shot) : Dev :=
  match d.jq.queue with
  | s :: l => { d with jq := { d.jq with queue := f s :: l } }
  | [] => d

/-- Some group that the shot lights is not ACTIVE. -/
def Dev.groupsAsleep (e : Env) (d : Dev) (s : Shot) : Bool :=
  (groupsOf (d.shotChans e s)).any (fun g => d.o O.RX_GROUP_STATE g != 3)

/-- A wake stall (R35): counted once a shot; groups that nothing has woken are woken. -/
def Dev.stallWake (e : Env) (d : Dev) (s : Shot) : Dev :=
  let d := if s.wakeStall then d else (d.inc O.JQ_WAKE_STALLS).setHead (fun x => { x with wakeStall := true })
  (groupsOf (d.shotChans e s)).foldl (fun d g => if [0, 2].contains (d.o O.RX_GROUP_STATE g) then d.groupWake e g else d) d

/-- A histogram stall (R415). -/
def Dev.stallHist (d : Dev) (s : Shot) : Dev :=
  if s.histStall then d else (d.inc O.EX_HIST_STALLS).setHead (fun x => { x with histStall := true })

/-- A stall for the shot's Twill string (R250). -/
def Dev.stallTwill (d : Dev) (s : Shot) : Dev :=
  if s.twStall then d else (d.inc O.TW_STALLS).setHead (fun x => { x with twStall := true })

/-! ### What lands (R44, R45, R79, R205, R206) -/

/-- A swap's request is spent where it stands (R206). -/
def Dev.swapSpent (d : Dev) : Dev :=
  let k := okey O.JQ_SWAP_REQ 0
  { d with shadows := tset none d.shadows k none,
           lock := { d.lock with staged := { d.lock.staged with vals := tset none d.lock.staged.vals k none } },
           commit := d.commit.map (fun (c : Commit) => { c with set := { c.set with vals := tset none c.set.vals k none } }) }

/-- A frame boundary (R45, R171, R205, R206 and each chapter's share): a swap lands with the first frame from the incoming bank. -/
def Dev.frameBoundary (e : Env) (d : Dev) (s : Shot) : Dev :=
  let d := d.tapFrameEnd e
  let d := if s.swap && s.bank != d.o O.JQ_ACTIVE_BANK then (d.swapLand e).swapSpent else d
  let d := d.boundaryLand e [.shot, .line, .frame]
  let d := d.inc O.JQ_FRAME_NUMBER
  let d := if d.o O.JQ_STATE == 1 then d.so O.JQ_STATE 0 2 else d
  let d := (((d.ringFrame).serveLand e).calFrame e).biasLand e
  let d := if d.o O.FILT_SYNC_SRC == 2 then d.syncLater 0xFFFFFFFF (d.jq.bound + 216) else d
  d.tapFrameBegin e

/-- The first SHOT of a queue changed; MOVEs before it stay. -/
def changeShot (f : Shot → Shot) : List Shot → List Shot
  | [] => []
  | s :: l => if s.move then s :: changeShot f l else f s :: l

/-- The line boundary of the next queued SHOT at the close of the windows before it (R44, R223, R226). -/
def Dev.lineBoundary (e : Env) (d : Dev) (s : Shot) : Dev :=
  let d := (d.boundaryLand e [.line]).lineSet (entAn s.ent) (entLevel s.ent)
  { d with jq := { d.jq with queue := changeShot (fun x => { x with lineDone := true }) d.jq.queue } }

/-- The line boundary where windows close, for the next queued SHOT if it changes the line set and has been decoded by then (R44; a
shot decoded later has it with its own boundary, log entry 194). -/
def Dev.nextLine (e : Env) (d : Dev) : Dev :=
  match d.jq.queue.find? (fun s => !s.move) with
  | some s => if s.lineChange && !s.lineDone then d.lineBoundary e s else d
  | none => d

/-- The line boundary after a shot that opened no windows, at the instant they would have closed: such a shot keeps the pattern's
timing as if it had fired (R44, R178, log entry 194). -/
def Dev.lineStep (e : Env) (d : Dev) : Dev :=
  match d.jq.lineDue with
  | some t => if t ≤ 2 * e.now + 1 then ({ d with jq := { d.jq with lineDue := none } }).nextLine e else d
  | none => d

/-- What lands at the boundary of a shot: its frame, its line set where no line boundary has come before it, its level, and the
serving slices (R223, R240, R336). -/
def Dev.landAt (e : Env) (d : Dev) (s : Shot) : Dev :=
  let line := s.lineChange && !s.lineDone
  let d :=
    if s.frameFirst then d.frameBoundary e s
    else if line then d.boundaryLand e [.shot, .line]
    else d.boundaryLand e [.shot]
  let d := if line then d.lineSet (entAn s.ent) (entLevel s.ent) else if s.lineDone then d else d.loadLevel (entLevel s.ent)
  let d := (d.closeLines).serveLand e
  (List.range 32).foldl (fun d g => d.calAdvance e g) d

/-! ### The pre-fire sequence -/

/-- The channels that a shot adds to its accumulation group. -/
def Dev.joinGroup (d : Dev) (s : Shot) (chs : Nat) (range : Nat → Nat) : Dev :=
  match s.acc with
  | none => d
  | some i =>
    let g := d.groupOr s i
    let ch := (chanList chs).foldl (fun (m : Tab GChan) c =>
      if bit g.chans c then m
      else tset {} m c { (tget {} m c) with slice := d.o O.RX_SLICE_OF c, range := range c }) g.ch
    d.setGroup i ({ g with chans := g.chans ||| chs, ch := ch, frame := d.o O.RL_FRAME }.takeWord s (plannedWord s))

/-- The dark gate of a lit channel: a slice under calibration measures nothing (R453 to R455, R553). -/
def Dev.darkOf (e : Env) (d : Dev) (m : BoundMeas) (lsb ch r : Nat) : Dev :=
  if d.underCal e (d.o O.RX_SLICE_OF ch) then d
  else
    let x := ((m.dark.find? (fun p => p.1 == ch)).map Prod.snd).getD (0, 0, 0, 0)
    d.darkGate lsb ch r x.1 x.2.1 x.2.2.1 x.2.2.2

/-- A dark gate evaluated on channels with their ranges: one with too little exposure updates nothing and is counted (R454). -/
def Dev.darkEval (e : Env) (d : Dev) (m : BoundMeas) (emit : Nat) (chans : List (Nat × Nat)) : Dev :=
  let lsb := d.darkLsb emit (64 * e.now + 63)
  if lsb < 96 * 24 then d.inc O.RJ_DARK_SKIPPED else chans.foldl (fun d c => d.darkOf e m lsb c.1 c.2) d

/-- The lit channels of the shot in flight with their ranges. -/
def Dev.litRanges (d : Dev) : List (Nat × Nat) := d.rx.windows.map (fun w => (w.chan, w.range))

/-- The dark gate of the shot that emits is evaluated, once: it has ended 80 ns before (log entry 172). -/
def Dev.darkEnd (e : Env) (d : Dev) (f : Flight) : Dev :=
  match f.dark with
  | none => d
  | some m => d.darkEval e m f.emit d.litRanges

/-- A shot is refused at its fire commit, which is where its dark gate ends: the gate is evaluated once a fall of BLANK_N that reaches
into it is known, RX_VOILE_LEAD_NS and the 10 ns of the deglitch later (R317, R320, log entry 172). -/
def Dev.darkWait (d : Dev) (f : Flight) : Dev :=
  match f.dark with
  | none => d
  | some m =>
    { d with rx := { d.rx with
        darkLate := some { meas := m, emit := f.emit, chans := d.litRanges, due := f.emit - 240 + 3 * (10 + d.o O.RX_VOILE_LEAD_NS) } } }

/-- The dark gate that waited for the masked spans is evaluated. -/
def Dev.darkStep (e : Env) (d : Dev) : Dev :=
  match d.rx.darkLate with
  | some x =>
    if x.due ≤ 2 * e.now + 1 then { d with rx := { d.rx with darkLate := none } }.darkEval e x.meas x.emit x.chans else d
  | none => d

/-- One lit channel in the pre-fire sequence: its range, its codes, its slice's calibration and its window. `held` has the channels
whose codes an open accumulation group holds. -/
def Dev.litChan (m : BoundMeas) (s : Shot) (held : Nat) (d : Dev) (ch : Nat) : Dev :=
  let pol := d.o O.RX_GAIN_POLICY (entGain s.ent)
  let (r, d) := (d.rangeInit pol ch).shotRange ch pol s.acc
  let d := d.loadChan ch r (bit held ch)
  let slice := d.o O.RX_SLICE_OF ch
  let d := d.interpCal m.cal slice
  { d with rx := { d.rx with windows := d.rx.windows ++ [{ chan := ch, slice := slice, range := r, silent := false, noRecords := false }] } }

/-- The shot at the head of the queue goes into flight with its boundary and emission. -/
def Dev.takeHead (d : Dev) (s : Shot) (bound emit : Nat) : Dev :=
  let s := { s with planned := emit }
  let base : PlanRef := { tref := emit, last := some (emit, windowCp (entWclass s.ent), entAn s.ent) }
  let d := { d with jq := { d.jq with queue := d.jq.queue.drop 1, base := base,
                                      flight := some { shot := s, bound := bound, emit := emit } },
                    rx := { d.rx with windows := [], badCal := [] } }
  d.replan

/-- A shot's pre-fire sequence begins (R36, R300 to R303, R337, R374, R452); its dark gate is evaluated when it has ended. -/
def Dev.preFire (e : Env) (d : Dev) (m : BoundMeas) (s : Shot) (emit : Nat) : Dev :=
  let s := { s with planned := emit }
  let chs := d.shotChans e s
  let held := d.heldChans e
  let d := { d with jq := { d.jq with flight := d.jq.flight.map (fun (f : Flight) => { f with dark := some m }) } }
  let d := (chanList chs).foldl (Dev.litChan m s held) (d.emitCal m.emitCal)
  let range := fun (c : Nat) => ((d.win c).map Win.range).getD 0
  d.joinGroup s chs range

/-! ### The end of a shot -/

/-- The groups that a shot lit step down where nothing holds them (R183, R195), and a stop may end. -/
def Dev.shotOver (e : Env) (d : Dev) (s : Shot) : Dev :=
  let gs := groupsOf (d.shotChans e s)
  let d := { d with jq := { d.jq with flight := none }, rx := { d.rx with windows := [] } }
  let d := gs.foldl (fun d g => d.groupIdle e g) d
  let d := match s.acc with
    | some i => if s.accLast then d.exClose e i else d
    | none => d
  d.stopCheck e

/-- A shot that emits nothing is over: its header leaves and its group is short (R38, R40, R196, R440 to R443). Its windows would have
closed a window after its planned emission. -/
def Dev.endSilent (e : Env) (d : Dev) (f : Flight) (cause : Nat) : Dev :=
  let d := { (d.darkWait f) with jq := { d.jq with lineDue := some (f.emit + windowCp (entWclass f.shot.ent)) } }
  ((d.groupShort f.shot).suppHdr e f.shot cause).shotOver e f.shot

/-! ### SHOT_BOUNDARY -/

/-- The boundary of the shot at the head of the queue at a coarse period. -/
def Dev.boundaryAt (e : Env) (d : Dev) (m : BoundMeas) (s : Shot) (bound : Nat) : Dev :=
  let d := { d with jq := { d.jq with bound := bound } }.landAt e s
  let emit := bound + d.prefireCp
  let d := d.takeHead s bound emit
  if s.thinned then
    match d.jq.flight with
    | some f => d.endSilent e f 0
    | none => d
  else d.preFire e m s emit

/-- The dark gate length in force once a shot's boundary has landed what waits for it (R45, R946). -/
def Dev.darkNext (d : Dev) (s : Shot) : Nat :=
  let k := okey O.RJ_DARK_NS 0
  let now := d.o O.RJ_DARK_NS
  if !s.frameFirst then now
  else
    match d.commit.bind (fun c => tget none c.set.vals k) with
    | some v => v
    | none => (tget none d.shadows k).getD now

/-- The queue planned again with the dark gate that the next shot's boundary brings into force, so that its emission lies no earlier
than R42 permits with its own pre-fire sequence. -/
def Dev.replanDark (d : Dev) (s : Shot) : Dev :=
  let old := d.o O.RJ_DARK_NS
  if d.darkNext s == old then d else ((d.so O.RJ_DARK_NS 0 (d.darkNext s)).replan).so O.RJ_DARK_NS 0 old

/-- SHOT_BOUNDARY: the boundary of the next shot, when its time has come and nothing delays it. -/
def Dev.shotBoundary (e : Env) (d : Dev) (m : BoundMeas) : Dev :=
  if d.o O.JQ_STATE == 0 || d.jq.flight.isSome || d.jq.queue.all Shot.move then d
  else
    let d := d.dropMoves (fun _ => true)
    let d := match d.jq.queue with
      | s :: _ => d.replanDark s
      | [] => d
    match d.jq.queue with
    | [] => d
    | s :: _ =>
      let prefire := 3 * (252 + d.darkNext s)
      let due := s.planned - prefire
      if 2 * e.now + 1 < due then d
      else if d.groupsAsleep e s then d.stallWake e s
      else if s.acc.isSome && d.unread (d.shotChans e s) then d.stallHist s
      else
        match (if s.thinned then some 0 else d.twBound s prefire) with
        | none => d.stallTwill s
        | some tw =>
          if 2 * e.now + 1 < tw then d.stallTwill s
          else
            let d := if due < tw then d.stallTwill s else d
            d.boundaryAt e m s (max tw (max due (2 * e.now)))

/-! ### FIRE_COMMIT (R37, R191, R274, R281 to R283) -/

/-- A configured axis is further from its target than JQ_ANGLE_TOL permits, in µ° (R191). -/
def Dev.angleOff (d : Dev) (w : Nat) : Bool :=
  let tol : Int := 1000 * d.o O.JQ_ANGLE_TOL
  let off := fun (slot : Nat) (t : Int) => decide (tol < ((d.os32 O.ATL_ANGLE_NOW slot - t).natAbs : Int))
  d.ob O.JQ_ANGLE_TOL && (off (d.o O.JQ_AXIS_X_SLOT) (1000 * entX w) ||
    (d.o O.JQ_AXIS_Y_SLOT != 0xFF && off (d.o O.JQ_AXIS_Y_SLOT) (10000 * entY w)))

/-- Hawkmoth's refusal: none, or the element of HM_SUPP_CAUSE (R274). -/
def Dev.hmRefusal (e : Env) (d : Dev) (qs : List (Nat × Nat)) : Option Nat :=
  if d.o O.HM_STATE == 3 then some 1
  else if d.o O.HM_STATE != 2 then some 0
  else if !d.travelOk e then some 2
  else if !d.bucketTest qs then some 3
  else none

/-- A shot passes fire commit: its charge and the holds of the bridge (R282, R604). -/
def Dev.firePass (d : Dev) (f : Flight) (qs : List (Nat × Nat)) : Dev :=
  let d := (d.charge qs).addBlank (f.emit - 240) (f.emit + 3 * d.o O.SB_BLANK_NS)
  { d with jq := { d.jq with flight := some { f with committed := true, fires := true } } }

/-- Every bucket brought to the present grid step, with the parity errors found (R284, R286). -/
def Dev.bucketsNow (e : Env) (d : Dev) (parity : List Nat) : Dev :=
  let d := (List.range 3).foldl (fun d k => d.leakTo e k) d
  (parity.filter (fun p => p / 256 < 3 && p % 256 < 144)).foldl (fun d p => d.bucketParity e p) d

/-- The fire decision of a shot in flight. -/
def Dev.fireDecide (e : Env) (d : Dev) (f : Flight) : Dev :=
  let f := { f with an := d.effAn (entAn f.shot.ent), kd := d.effKd (entKd f.shot.ent) }
  let qs := d.charges f.an f.kd (entLevel f.shot.ent) (codeSum (d.o O.EM_CODE (entCode f.shot.ent)))
  if d.angleOff f.shot.ent then (d.inc O.JQ_SUPP_ANGLE).endSilent e f 1
  else
    match d.hmRefusal e qs with
    | some c =>
      let d := if c == 3 then (qs.filter (fun q => !d.hasRoom q)).foldl (fun d q => d.zoneRefused e q) d else d
      ((d.inc O.HM_SUPP_CAUSE c).inc O.JQ_SUPP_HAWKMOTH).endSilent e f 2
    | none => d.firePass f qs

/-- FIRE_COMMIT: 80 ns before emission. -/
def Dev.fireCommit (e : Env) (d : Dev) (parity : List Nat) : Dev :=
  match d.jq.flight with
  | none => d
  | some f =>
    if f.committed || 2 * e.now + 1 < f.emit - 240 then d
    else
      let d := (d.bucketsNow e parity).hmEval e
      d.fireDecide e f

/-! ### EMISSION (R236 to R238, R251, R380 to R383, R40) -/

/-- Pulses of a shot that the drive lets through: none where an inhibit has come (R39). -/
def Dev.pulsesLeft (d : Dev) (f : Flight) (left : Option Nat) : Nat :=
  let n := codeNp (d.o O.EM_CODE (entCode f.shot.ent))
  if f.inhibited then 0 else min n (left.getD n)

/-- The cathodes of a mask with their trims (R238). -/
def Dev.kdTrims (d : Dev) (kd : Nat) : List (Nat × Nat) := ((List.range 16).filter (bit kd)).map (fun k => (k, d.o O.EM_KD_TRIM k))

/-- What leaves the package at an emission. -/
def Dev.emitOut (e : Env) (d : Dev) (f : Flight) (n : Nat) : Dev :=
  let ps := (codePulses (d.o O.EM_CODE (entCode f.shot.ent))).take n
  let d := d.send (.pulses (d.kdTrims f.kd) ps)
  let d := if d.ob O.TW_ENABLE && d.em.twOk then d.send (.fireOut (d.o O.EM_FIRE_LEAD) ps) else d
  if entTrig f.shot.ent then (d.send .trigOut).trigOut e else d

/-- A window as its shot's emission opens it: whether it takes stamps and gives records (R328, R333, R357, R378, R553). -/
def Dev.winOpen (e : Env) (d : Dev) (l : Nat) (high : List (Nat × Nat)) (w : Win) : Win :=
  let cal := d.underCal e w.slice
  let mute := d.muted w.chan || d.mutedByCal w.slice
  { w with
    muted := mute
    silent := mute || cal || d.stalled w.slice || d.stampHi l ≤ 32 * d.o O.TDC_ACCEPT_START
    noRecords := mute || d.unrecorded w
    cmps := (List.range 3).map (fun th => { high := high.contains (w.chan, th) }) }

/-- The counters of a window that opens: empty span, failed calibration, calibration's mute, windows that the dark-rate watch counts,
range (R311, R331, R357, R377, R570). -/
def Dev.winCount (d : Dev) (l : Nat) (w : Win) : Dev :=
  let d := if d.stampHi l ≤ 32 * d.o O.TDC_ACCEPT_START then d.inc O.TDC_OUTSIDE w.chan else d
  let d := if d.rx.badCal.contains w.slice then d.inc O.TDC_CAL_FAIL w.slice else d
  let d := if d.mutedByCal w.slice then d.inc O.CAL_MUTED_WINDOWS else d
  let d := { d with rx := { d.rx with dkWins := tset 0 d.rx.dkWins w.chan (tget 0 d.rx.dkWins w.chan + 1) } }
  d.rangeShow w.chan w.range

/-- The windows of an emission open. -/
def Dev.openWindows (e : Env) (d : Dev) (f : Flight) (high : List (Nat × Nat)) : Dev :=
  let l := windowCp (entWclass f.shot.ent)
  let d := { d with rx := { d.rx with windows := d.rx.windows.map (d.winOpen e l high) } }
  let d := d.rx.windows.foldl (fun d w => d.winCount l w) d
  { d with jq := { d.jq with flight := some { f with emitted := true, wins := true } } }

/-- The emission of a shot of which `n` pulses leave; the photocurrent channels count it (R607). -/
def Dev.fireShot (e : Env) (d : Dev) (f : Flight) (m : EmitMeas) (n : Nat) : Dev :=
  let cut := n < codeNp (d.o O.EM_CODE (entCode f.shot.ent))
  let d := if cut then d.inc O.HM_CUT_SHOTS else d
  let d := (d.darkEnd e f).emitOut e f n
  let (st, miss, d) := d.emitStamp m.edge
  let d := d.peakStart f.an m.peaks
  let d := { d with em := { d.em with lastEmit := f.emit }, hm := { d.hm with lastEmit := e.now }, atl := { d.atl with pdShot := 15 } }
  let d := match f.shot.acc with
    | some i => d.setGroup i { (d.groupOr f.shot i) with emit := some (emitTime f.emit st) }
    | none => d
  let d := d.openWindows e { f with stamp := st, miss := miss, cut := cut, dark := none } m.high
  m.peaks.foldl (fun d p => d.overCurrent p.1 p.2) d

/-- A shot that has passed fire commit and emits no pulse, stopped by an inhibit or because every line or cathode of it is barred
(R219): the bridge holds nothing for it (R604), it is SUPPRESSED with cause HAWKMOTH and counted under R281 (R40, R196); its windows run (R39, R261; log entries 175, 176).
Its cathodes still take the `n` pulses that are driven (R236), whose launch the emission TDC stamps (R237, R380); where it sees no
launch the shot is a miss, for only a shot that R38 suppresses is none (R382). -/
def Dev.emptyShot (e : Env) (d : Dev) (f : Flight) (m : EmitMeas) (n : Nat) : Dev :=
  let d := ((d.darkEnd e f).inc O.HM_CUT_SHOTS).dropBlank (f.emit - 240) (f.emit + 600)
  let d := if n == 0 then d else d.send (.pulses (d.kdTrims f.kd) ((codePulses (d.o O.EM_CODE (entCode f.shot.ent))).take n))
  let (st, miss, d) := d.emitStamp (if n == 0 || f.kd == 0 then none else m.edge)
  d.openWindows e { f with supp := some 2, stamp := st, miss := miss, dark := none } m.high

/-- EMISSION: window zero of a shot that has passed fire commit. -/
def Dev.emission (e : Env) (d : Dev) (m : EmitMeas) : Dev :=
  match d.jq.flight with
  | none => d
  | some f =>
    if !f.fires || f.emitted || 2 * e.now + 1 < f.emit then d
    else
      let n := d.pulsesLeft f m.left
      if n == 0 || f.an == 0 || f.kd == 0 then d.emptyShot e f m n else d.fireShot e f m n

/-! ### WINDOW_CLOSE -/

/-- The flags of a shot's header (Table 08-4). -/
def shotFlags (f : Flight) (blanked ovf : Bool) : Nat :=
  (match f.supp with | some c => 2048 + c | none => 0) +
  (b2n f.cut <<< 10) + (b2n blanked <<< 9) + (b2n ovf <<< 8) + ((if entAcc f.shot.ent == 0 then 0 else 1) <<< 6) +
    (b2n f.shot.moved <<< 3) + (b2n f.miss <<< 2)

/-- EMIT_TIME of a shot whose windows have closed; one that emitted nothing has E16 0 (R381, R442). -/
def Flight.emitTime (f : Flight) : Nat := Sys2Proof.Machine.emitTime f.emit (if f.supp.isSome then 0 else f.stamp)

/-- The header word of a shot whose windows have closed. -/
def flightWord (f : Flight) (blanked ovf : Bool) : Nat := (f.emitTime <<< 80) + hdrWord f.shot + shotFlags f blanked ovf

/-- The peak and saturation verdict of a channel as measured. -/
def CloseMeas.verdict (m : CloseMeas) (ch : Nat) : Nat × Bool := ((m.peaks.find? (fun p => p.1 == ch)).map Prod.snd).getD (0, false)

/-- One window's share of what is counted at its close (R306, R309, R314, R393). -/
def Dev.closeCount (m : CloseMeas) (f : Flight) (d : Dev) (w : Win) : Dev :=
  let v := CloseMeas.verdict m w.chan
  let sat := w.sat
  let d := if sat then d.inc O.RX_SAT_COUNT w.chan else d
  let d := d.inc O.TDC_STAMPS w.chan w.stamps.length
  let pol := d.o O.RX_GAIN_POLICY (entGain f.shot.ent)
  let d := match f.shot.acc with
    | some i =>
      let g := d.groupOr f.shot i
      d.setGroup i { g with verdicts := g.verdicts.filter (fun (x : Nat × Nat × Bool × Nat) => x.1 != w.chan) ++ [(w.chan, pol, sat, v.1)] }
    | none => d.verdict w.chan pol sat v.1
  d.statSample f.stamp w

/-- The observation of a window on the single-shot path (R402 to R407, R462, R463, R475). A window whose records are withheld is
extracted as any other, and its echoes go no further (R328, R383, R574; DESIGN CHOICE, log entry 173). -/
def Dev.observe (e : Env) (m : CloseMeas) (f : Flight) (serial : Nat) (d : Dev) (w : Win) : Dev :=
  let code := d.o O.EM_CODE (entCode f.shot.ent)
  let tg := d.os16 O.CAL_GROUP_TEMP (w.chan / 16)
  -- A pulse's edges as times from window zero, where its samples are counted (R425, R500, R517).
  let ofs := f.stamp + d.os16 O.TDC_SKEW_A w.slice + d.os16 O.TDC_SKEW_CH w.chan + d.os32 O.TDC_T0_OFFSET
  let (found, unm, d) := d.singleShot w code f.stamp tg (d.ambHigh w.chan)
    (fun p => d.digiPeak e m.samples f.emit w.chan { p with tr := p.tr + ofs, tf := p.tf + ofs })
  let echoes := if w.noRecords || 16 ≤ d.tdc.misses then [] else found
  let d := d.inc O.EX_ECHOES w.chan echoes.length
  let intf := d.o O.RJ_INTF_UNM ≤ unm
  let d := if intf then d.inc O.RJ_INTF_WINDOWS else d
  let d := if intf then { d with rl := { d.rl with intf := d.rl.intf + 1 } } else d
  let o : Obs := { chan := w.chan, rangeG := w.range, echoes := echoes, np := codeNp code, unm := unm,
                   skipper := 512 ≤ w.slice, extrap := bit d.cal.extrap w.slice, amb := ambLevel (d.o O.RJ_RATE_A w.chan), hdr := serial,
                   ring := d.ringOf (entColumn f.shot.ent) w.chan, frame := d.o O.RL_FRAME }
  { d with ex := { d.ex with obs := d.ex.obs ++ [o] } }

/-- The single-shot path of a shot: its header waits for its observations (R440, R476). One that emitted nothing makes none and has
no records (R475). -/
def Dev.closeSingle (e : Env) (d : Dev) (m : CloseMeas) (f : Flight) (ws : List Win) (blanked ovf : Bool) : Dev :=
  if ws == [] || f.supp.isSome then d.bareHdr e f.shot f.emitTime (shotFlags f blanked ovf)
  else
    let (serial, d) := d.openJob (flightWord f blanked ovf) false ws.length
    ws.foldl (Dev.observe e m f serial) d

/-- One window of a shot of an accumulation group: binned, and counted in n_c, where the shot was whole and Voile has not voided
the window (R410, R413). A window whose records are withheld takes those of its channel's result with it (R328, R383, R574;
DESIGN CHOICE, log entry 173). -/
def Dev.accumulate (f : Flight) (i : Nat) (voided : Nat → Bool) (d : Dev) (w : Win) : Dev :=
  if f.cut || f.supp.isSome || voided w.chan then d
  else
    let d := d.binWin w (entWclass f.shot.ent) f.stamp
    let g := d.groupOr f.shot i
    let c := tget {} g.ch w.chan
    let c := { c with nc := c.nc + 1, sat := c.sat || w.sat, withheld := c.withheld || w.noRecords || 16 ≤ d.tdc.misses }
    d.setGroup i { g with ch := tset {} g.ch w.chan c }

/-- The multi-shot path of a shot: its windows join the group, which is short where none of them counts in n_c, and its header
leaves without records (R441, R443). -/
def Dev.closeMulti (e : Env) (d : Dev) (f : Flight) (i : Nat) (ws : List Win) (voided : Nat → Bool) (blanked ovf : Bool) : Dev :=
  let d := ws.foldl (Dev.accumulate f i voided) d
  let g := d.groupOr f.shot i
  let added := !f.cut && f.supp.isNone && ws.any (fun w => !voided w.chan)
  let g := { g with short := g.short || !added, ovf := g.ovf || ovf, blanked := g.blanked || blanked }
  let d := d.setGroup i (g.takeWord f.shot (hdrWord f.shot + (f.emitTime <<< 80)))
  d.bareHdr e f.shot f.emitTime (shotFlags f blanked ovf)

/-- WINDOW_CLOSE: the windows of the shot in flight close. -/
def Dev.windowClose (e : Env) (d : Dev) (m : CloseMeas) : Dev :=
  match d.jq.flight with
  | none => d
  | some f =>
    let l := windowCp (entWclass f.shot.ent)
    if !f.wins || 2 * e.now + 1 < f.emit + l then d
    else
      let rs := d.rx.windows.map (fun w => d.closeWin e f m.trips { w with sat := w.sat || (CloseMeas.verdict m w.chan).2 })
      let ws := rs.map Prod.fst
      let blanked := rs.any Prod.snd
      let ovf := ws.any Win.ovf
      let voided := fun (c : Nat) => d.o O.RX_VOILE_MODE == 2 && rs.any (fun (r : Win × Bool) => r.1.chan == c && r.2)
      let d := if blanked then d.inc O.RX_VOILE_SHOTS else d
      let d := ws.foldl (Dev.closeCount m f) d
      let d := d.digiCounts e m.samples f.emit
      let d := match f.shot.acc with
        | some i => d.closeMulti e f i ws voided blanked ovf
        | none => d.closeSingle e m f ws blanked ovf
      let d := if f.supp.isSome then d else (d.acqRecord e m f (flightWord f blanked ovf) ws).peakCheck f.an
      let d := d.dropMoves (fun s => s.planned ≤ 2 * e.now + 1)
      let d := { d with jq := { d.jq with flight := none } }
      (d.nextLine e).shotOver e f.shot

/-! ### Twill strings and synchronisation edges -/

/-- TWILL_STRING_START (R248, R249): the string of the next shot, from 64 ns after the emission before it. -/
def Dev.stringStart (e : Env) (d : Dev) : Dev :=
  match d.jq.queue.find? (fun s => !s.move && !s.thinned) with
  | none => d
  | some s =>
    let after : Bool := match d.jq.flight with
      | some f => f.emitted && f.emit + 192 ≤ 2 * e.now + 1
      | none => d.em.lastEmit == 0 || d.em.lastEmit + 192 ≤ 2 * e.now + 1
    if d.em.wire.isSome || !d.twNeeds s || !after then d
    else d.twStart (2 * e.now) (d.sharesOf (entAn s.ent) (entLevel s.ent))

/-- SYNC_IN_EDGE: for Jacquard's frame origin and, where it is the source, for the filter chains (R169, R526). -/
def Dev.syncIn (e : Env) (d : Dev) : Dev :=
  let d := d.syncEdge e
  if d.o O.FILT_SYNC_SRC == 1 then d.syncLater 0xFFFFFFFF (2 * e.now + 300) else d

/-! ### Classification and missing feedback -/

/-- ECHO_CLASSIFY: the oldest observation is classified and placed, and a raster may flip by it (R481, R649, R667). -/
def Dev.echoClassify (e : Env) (d : Dev) (ecc : Option Nat) : Dev := (d.classify e ecc (fun d o fin => d.placeObs e o fin)).tryFlip e

/-- HISTOGRAM_READOUT_DONE, after which a raster may flip (R414, R667). -/
def Dev.histRead (e : Env) (d : Dev) (ch : Nat) (parity : Bool) : Dev := (d.readout e ch parity).tryFlip e

/-- FEEDBACK_MISSING (R627): three loop periods without a result. The sample that declares it measures the coil current last
measured. -/
def Dev.feedbackMissing (e : Env) (d : Dev) (s : Nat) : Dev :=
  if d.o O.ATL_DIV s ≤ (d.slot s).results then d else d.loopSample e s (d.os32 O.ATL_I_NOW s)

end Sys2Proof.Machine
end

