-- ==== Sys2Proof/Machine/Ops.lean ====
section
/-! DEFINITION. How a command acts on the machine: its effect on the device at the present device time, and what ends every
command. Every meaning is a function of the part, the device time and the device, lifted here. -/

namespace Sys2Proof.Machine

/-- What a command's effect may read of the state beside the device. -/
def State.env (s : State) : Env := { part := s.part, now := s.clock.time }

/-- What has come by the instant of a command, before its own effect: reports of loop samples (R37), a dark gate that waited for the
masked spans (R320), a line boundary (R44), and synchronisations of filter chains (R525). -/
def begin_ (e : Env) (d : Dev) : Dev := (((d.sampleStep e).darkStep e).lineStep e).syncStep e

/-- What ends every command: the landings of a Jacquard that has reached STOPPED (R81, R135), a software reset that is due (R874),
and the marks of changed runs (R152). -/
def finish (e : Env) (d : Dev) : Dev := Dev.markSubs e ((d.settle e).rstStep e)

/-- A device effect as the meaning of a command: what the last command sent is gone, what is due has come; the queue and device time
stay. -/
def run (f : Env → Dev → Dev) (s : State) : Host.Outcome State Fault Refusal :=
  .next { s with dev := finish s.env (f s.env (begin_ s.env { s.dev with sent := [] })) }

/-- Device time after one step of the clock: a fabric cycle, or one tick of the slow clock where no fabric clock runs (R53, R55,
R871). -/
def Clock.tick (c : Clock) (fabric : Bool) : Clock :=
  if fabric then { c with time := c.time + 1 }
  else { time := c.time + 45776 + (c.frac + 47) / 128, frac := (c.frac + 47) % 128 }

/-- A step of the clock with no command waiting: device time passes, the memory channels take a command slot each, and a software
reset that is due comes. -/
def tick (s : State) : Host.Outcome State Fault Refusal :=
  run (fun e d => d.cmdSlots e) { s with clock := s.clock.tick s.dev.pwr.fabric }

/-- A power-on reset (R53, R872): device time and its fraction start at 0. -/
def powerOnReset (s : State) : Host.Outcome State Fault Refusal :=
  run Dev.powerOn { s with clock := { time := 0, frac := 0 } }

end Sys2Proof.Machine
end

