-- ==== Sys2Proof/Machine/Operands.lean ====
section
/-! DEFINITION. The operand forms of the commands that are requests (R86, Table 02-2): a request with its operation and flags,
a write of elements, a read of a run, and a block request. A row that names one object is the request to that object. -/

namespace Sys2Proof.Machine

/-- The bytes an element of an object takes in a message (Table 01-11). -/
def elWidth (idx : Nat) : Nat :=
  match rowOf? idx with
  | some r => r.ty.bytes
  | none => 1

/-- A request with an operation and the flags PEND and META. -/
def opMsg (op : Nat) (pend md : Bool) (q : Req) : GopMsg := { op := op, pend := pend, md := md, req := q }

/-- A request of a session to an object. -/
def reqTo (h : Hdr) (idx el count : Nat) (data : Bytes) : Req :=
  { sess := h.sess, epoch := h.epoch, seq := h.seq, index := idx, element := el, count := count, data := data, rsv := 0 }

/-- WRITE of one element. -/
def writeMsg (h : Hdr) (idx el v : Nat) : GopMsg := opMsg 2 false false (reqTo h idx el 1 (leBytes (elWidth idx) v))

/-- READ of a run of elements. -/
def readMsg (h : Hdr) (idx el count : Nat) : GopMsg := opMsg 1 false false (reqTo h idx el count [])

/-- READ_BLOCK (operation 3) or WRITE_BLOCK (operation 4) of block `n`; `data` is all that follows the header. -/
def blockMsg (op : Nat) (h : Hdr) (idx el n : Nat) (data : Bytes) : GopMsg := opMsg op false false (reqTo h idx el n data)

/-- A request as a command. `codes` are the conversions that its execution takes (R828). -/
def request (m : GopMsg) (codes : List Int) (s : State) : Host.Outcome State Fault Refusal := run (fun e d => d.gopRun e m codes) s

/-- The request of a row that writes one element of its object. -/
def write1 (h : Hdr) (idx el v : Nat) (s : State) : Host.Outcome State Fault Refusal := request (writeMsg h idx el v) [] s

end Sys2Proof.Machine
end

