-- ==== Sys2Proof/Machine/CmdAtlas.lean ====
section
/-! DEFINITION. The meanings of the commands of the sensor bridge, the mirror loops and the photocurrent channels (chapter 12), one for each row of the table. -/

namespace Sys2Proof.Machine

/-- BRIDGE_BLOCK_END (R599): At each block end every powered bridge channel evaluates its wire checks. -/
def execBridgeBlockEnd (m : List BridgeMeas) (s : State) : Host.Outcome State Fault Refusal :=
  run (fun e d => d.blockEnd e m) s

/-- BRIDGE_FAULT_DECLARED (R600): The second consecutive failing block declares a bridge fault and logs DEGRADE. -/
def execBridgeFaultDeclared (chan : Nat) (s : State) : Host.Outcome State Fault Refusal :=
  run (fun e d => d.bridgeFault e chan) s

/-- BRIDGE_FAULT_END (R602): After 64 consecutive passing blocks a declared bridge fault ends. -/
def execBridgeFaultEnd (chan : Nat) (s : State) : Host.Outcome State Fault Refusal := run (fun _ d => d.bridgeOk chan) s

/-- BRIDGE_RESULT (R595): A bridge chain yields a result word and the angle is linearised. -/
def execBridgeResult (chan : Nat) (x : List BridgeRun) (s : State) : Host.Outcome State Fault Refusal :=
  run (fun e d => d.bridgeResult e chan x) s

/-- LOOP_SAMPLE (R610): A loop sample of a slot computes feedback, observer, supervision, report and command. -/
def execLoopSample (slot : Nat) (current : Int) (s : State) : Host.Outcome State Fault Refusal :=
  run (fun e d => d.loopSample e slot current) s

/-- COIL_OVERCURRENT (R632): A coil current above 480 mA for 1 µs turns the driver off. -/
def execCoilOvercurrent (coil : Nat) (s : State) : Host.Outcome State Fault Refusal := run (fun e d => d.coilOc e coil) s

/-- COIL_OPEN (R633): A command of at least 20 mA with current below 10 % for 100 µs turns the driver off. -/
def execCoilOpen (coil : Nat) (s : State) : Host.Outcome State Fault Refusal := run (fun e d => d.coilOpen e coil) s

/-- COIL_COMPLIANCE (R633): A command not reached within 5 % for 100 µs reports COMPLIANCE. -/
def execCoilCompliance (coil : Nat) (reached : Bool) (s : State) : Host.Outcome State Fault Refusal :=
  run (fun _ d => d.coilCompliance coil reached) s

/-- ATL_MODE_OFF (R630): A write of 0 to ATL_MODE ramps the command to 0 and turns the driver off. -/
def execAtlModeOff (h : Hdr) (slot : Nat) (s : State) : Host.Outcome State Fault Refusal := write1 h O.ATL_MODE slot 0 s

/-- ATL_MODE_MANUAL (R630): A write of 1 to ATL_MODE puts the slot in MANUAL. -/
def execAtlModeManual (h : Hdr) (slot : Nat) (s : State) : Host.Outcome State Fault Refusal := write1 h O.ATL_MODE slot 1 s

/-- ATL_MODE_CLOSED (R630): A write of 2 to ATL_MODE closes the loop with a bumpless preset when feedback allows. -/
def execAtlModeClosed (h : Hdr) (slot : Nat) (s : State) : Host.Outcome State Fault Refusal := write1 h O.ATL_MODE slot 2 s

/-- ATL_MODE_MODEL_HOLD (R630): A write of 3 to ATL_MODE moves a CLOSED slot to MODEL_HOLD with cause HOST. -/
def execAtlModeModelHold (h : Hdr) (slot : Nat) (s : State) : Host.Outcome State Fault Refusal := write1 h O.ATL_MODE slot 3 s

/-- ATL_OFF_RAMP_DONE (R630): The command ramp to 0 of a slot going OFF ends and its driver turns off. -/
def execAtlOffRampDone (slot : Nat) (s : State) : Host.Outcome State Fault Refusal := run (fun e d => d.rampDone e slot) s

/-- PD_PUBLISH (R606): Every PD_AVG_MS the photocurrent channel publishes its mean current or charge per shot. -/
def execPdPublish (chan value : Nat) (sat : Bool) (s : State) : Host.Outcome State Fault Refusal :=
  run (fun e d => d.pdPublish e chan value sat) s

/-- PD_RANGE (R608): A write of PD_RANGE changes the feedback at once and reports STALE. -/
def execPdRange (h : Hdr) (chan value : Nat) (s : State) : Host.Outcome State Fault Refusal :=
  write1 h O.PD_RANGE chan value s

/-- PD_STALE_END (R608): After 2 ms in the new range the photocurrent channel leaves STALE. -/
def execPdStaleEnd (chan : Nat) (s : State) : Host.Outcome State Fault Refusal := run (fun e d => d.pdStaleEnd e chan) s

/-- PD_SAT_HOLD (R609): Photocurrent saturation held for 1 s logs LOG. -/
def execPdSatHold (chan : Nat) (s : State) : Host.Outcome State Fault Refusal := run (fun e d => d.pdSatHold e chan) s

/-- ATL_TR_ARM (R638): A write of 1 to ATL_TR_ARM arms the Atlas trace. -/
def execAtlTrArm (h : Hdr) (s : State) : Host.Outcome State Fault Refusal := write1 h O.ATL_TR_ARM 0 1 s

/-- ATL_TR_TRIGGER (R638): A write of 2 to ATL_TR_ARM triggers the armed trace. -/
def execAtlTrTrigger (h : Hdr) (s : State) : Host.Outcome State Fault Refusal := write1 h O.ATL_TR_ARM 0 2 s

/-- TRACE_FREEZE (R638): ATL_TR_POST samples after the trigger, all eight trace rings freeze. -/
def execTraceFreeze (s : State) : Host.Outcome State Fault Refusal := run (fun _ d => d.traceFreeze) s

/-- ATL_INJ_START (R641): A write of 1 to ATL_INJ_RUN starts the test signal while Hawkmoth is DISARMED. -/
def execAtlInjStart (h : Hdr) (slot : Nat) (s : State) : Host.Outcome State Fault Refusal := write1 h O.ATL_INJ_RUN slot 1 s

/-- ATL_INJ_STOP (R641): A write of 0 to ATL_INJ_RUN stops the injection. -/
def execAtlInjStop (h : Hdr) (slot : Nat) (s : State) : Host.Outcome State Fault Refusal := write1 h O.ATL_INJ_RUN slot 0 s

/-- FEEDBACK_MISSING (R627): A slot that receives no result from its ATL_FB_A channel for 3 loop periods declares MISSING,
enters MODEL_HOLD and clears PLAUSIBLE. -/
def execFeedbackMissing (slot : Nat) (s : State) : Host.Outcome State Fault Refusal :=
  run (fun e d => d.feedbackMissing e slot) s

end Sys2Proof.Machine
end

