-- ==== Sys2Proof/Machine/CmdCalibration.lean ====
section
/-! DEFINITION. The meanings of the commands of calibration (chapter 11), one for each row of the table. -/

namespace Sys2Proof.Machine

/-- CAL_PASS_START (R561): The calibration manager starts a pass of a due group within the concurrency limit. -/
def execCalPassStart (group : Nat) (s : State) : Host.Outcome State Fault Refusal := run (fun e d => d.calPassStart e group) s

/-- CAL_SLICE_DONE (R564): The calibration of one slice in a pass ends, and the next takeover and return are requested. -/
def execCalSliceDone (group : Nat) (m : CalMeas) (s : State) : Host.Outcome State Fault Refusal :=
  run (fun e d => d.calSliceDone e group m) s

/-- CAL_GAP_CHUNK (R569): Under GAP mode a calibration chunk of at most 32 µs starts while the gap condition holds. -/
def execCalGapChunk (group ns : Nat) (s : State) : Host.Outcome State Fault Refusal :=
  run (fun e d => d.calGapChunk e group ns) s

/-- CAL_GROUP_REQ (R560): A write of 1 to CAL_GROUP_REQ makes the group due. -/
def execCalGroupReq (h : Hdr) (group : Nat) (s : State) : Host.Outcome State Fault Refusal :=
  write1 h O.CAL_GROUP_REQ group 1 s

/-- CAL_AGE_DUE (R560): A group whose last pass is CAL_MAX_AGE_S old becomes due. -/
def execCalAgeDue (group : Nat) (s : State) : Host.Outcome State Fault Refusal := run (fun e d => d.calAgeDue e group) s

/-- INPUT_CHECK (R557): A test-current check runs on an input under the gap condition and classifies it. -/
def execInputCheck (chan capPf respPct loPct hiPct : Nat) (s : State) : Host.Outcome State Fault Refusal :=
  run (fun e d => d.inputCheck e chan capPf respPct loPct hiPct) s

/-- CAL_SAVE (R583): A write of 1 to CAL_SAVE writes the field cache to the older field slot. -/
def execCalSave (h : Hdr) (s : State) : Host.Outcome State Fault Refusal := write1 h O.CAL_SAVE 0 1 s

/-- CAL_FLASH_PERIOD (R583): With a changed set and CAL_FLASH_PERIOD_S elapsed, the field cache is written to flash. -/
def execCalFlashPeriod (s : State) : Host.Outcome State Fault Refusal := run (fun e d => d.calFlashPeriod e) s

/-- CAL_FACTORY_STORE (R584): A WRITE_BLOCK of CAL_FACTORY_STORE validates the image and programs the factory store. -/
def execCalFactoryStore (h : Hdr) (block : Nat) (data : Bytes) (s : State) : Host.Outcome State Fault Refusal :=
  request (blockMsg 4 h O.CAL_FACTORY_STORE 0 block data) [] s

/-- CAL_RESTORE_FACTORY (R585): A write of 1 to CAL_RESTORE_FACTORY replaces the field cache with the factory store and erases
both field slots. -/
def execCalRestoreFactory (h : Hdr) (s : State) : Host.Outcome State Fault Refusal := write1 h O.CAL_RESTORE_FACTORY 0 1 s

/-- BIAS_MONITOR_COMPARE (R590): Every 10 s each bias voltage monitor is compared with its housekeeping reading and corrected.
-/
def execBiasMonitorCompare (readings : List Int) (s : State) : Host.Outcome State Fault Refusal :=
  run (fun e d => d.biasCompare e readings) s

/-- DIGITISER_CALIBRATION (R588): A due, READY and unrouted digitiser slice or pair is calibrated. -/
def execDigitiserCalibration (slice : Nat) (temp : Int) (vals : List (Int × Int × Int)) (gain timing offset : Nat)
    (s : State) : Host.Outcome State Fault Refusal :=
  run (fun e d => d.dgCal e slice temp vals gain timing offset) s

/-- CAL_FLASH_WRITE_DONE (R583): A write of the calibration field cache to a QSPI field slot, or the erase of the slots,
completes, so CAL_STORE_SEQ and CAL_FLASH_WRITES update and FW_FLASH_BUSY clears. -/
def execCalFlashWriteDone (s : State) : Host.Outcome State Fault Refusal := run (fun e d => d.calFlashDone e) s

end Sys2Proof.Machine
end

