-- ==== Sys2Proof/Machine/CmdDrive.lean ====
section
/-! DEFINITION. The meanings of the commands of the emitter drive, the Twill chain and Hawkmoth (chapters 04 and 05), one for each row of the table. -/

namespace Sys2Proof.Machine

/-- PULSE_OVERCURRENT (R231): A line peak above 125 % of setpoint or 1,100 codes opens that line's switch for the rest of the
shot and marks CUT. -/
def execPulseOvercurrent (p : LinePeak) (s : State) : Host.Outcome State Fault Refusal :=
  run (fun _ d => d.overCurrent p.line p.peak) s

/-- LINE_BAR (R233): Three over-current events within 16 shots, or three consecutive under-current shots, bar the line. -/
def execLineBar (line : Nat) (s : State) : Host.Outcome State Fault Refusal := run (fun e d => d.lineBar e line) s

/-- TEST_PASS_START (R257): A 40 µs drive test pass starts when no SHOT is queued and the next entry lies at least 48 µs
ahead, or while stopped. -/
def execTestPassStart (s : State) : Host.Outcome State Fault Refusal := run (fun e d => d.testPass e) s

/-- TEST_PASS_END (R260): A completed test pass reports its results, bars failed outputs and lifts bars of passing ones on
request. -/
def execTestPassEnd (faults : List (Nat × Nat)) (s : State) : Host.Outcome State Fault Refusal :=
  run (fun e d => d.passEnd e faults) s

/-- EM_TEST_STARVED (R259): Each second without a completed test pass while Jacquard runs is counted and logged. -/
def execEmTestStarved (s : State) : Host.Outcome State Fault Refusal := run (fun e d => d.testStarved e) s

/-- EM_BAR_CLEAR (R262): A write of 1 to EM_BAR_CLEAR requests a test pass that lifts the bars of outputs that pass it. -/
def execEmBarClear (h : Hdr) (s : State) : Host.Outcome State Fault Refusal := write1 h O.EM_BAR_CLEAR 0 1 s

/-- EM_TEST_REQ (R258): A write of 1 to EM_TEST_REQ requests a test pass at the next opportunity. -/
def execEmTestReq (h : Hdr) (s : State) : Host.Outcome State Fault Refusal := write1 h O.EM_TEST_REQ 0 1 s

/-- VHV_ANODE_WINDOW_EXIT (R229): VHV leaving 10.0–48.0 V keeps every anode switch open, reports an HV-die fault and logs
0x020C. -/
def execVhvAnodeWindowExit (mv : Int) (s : State) : Host.Outcome State Fault Refusal := run (fun e d => d.vhvExit e mv) s

/-- VHV_ANODE_WINDOW_RETURN (R229): VHV returning inside the anode window clears the HV-die fault. -/
def execVhvAnodeWindowReturn (mv : Int) (s : State) : Host.Outcome State Fault Refusal := run (fun e d => d.vhvReturn e mv) s

/-- DRIVER_TSD_TRIP (R263): A die-1 sensor above 160 °C shuts the emitter drivers down within 10 µs. -/
def execDriverTsdTrip (sensor : Nat) (s : State) : Host.Outcome State Fault Refusal := run (fun e d => d.tsdTrip e sensor) s

/-- DRIVER_TSD_RESTART (R264): The drivers restart when all of TS_12–TS_15 are below 140 °C. -/
def execDriverTsdRestart (s : State) : Host.Outcome State Fault Refusal := run (fun e d => d.tsdRestart e) s

/-- TWILL_STRING_START (R249): A Twill string for a shot whose shares changed starts at decode or 64 ns after the previous
emission. -/
def execTwillStringStart (s : State) : Host.Outcome State Fault Refusal := run (fun e d => d.stringStart e) s

/-- TWILL_CHAIN_CHECK (R252): At the end of the latch hold, the string latches and the returned probe is checked.
`string` and `hold` are the high times in ns of the cells that have returned during the string and during its hold, `high` how long
TWL_RET has been high where the end of the hold finds it high. -/
def execTwillChainCheck (string hold : List Nat) (high : Option Nat) (s : State) : Host.Outcome State Fault Refusal :=
  run (fun e d => d.twCheck e (string ++ hold) high) s

/-- TWILL_DISABLE (R255): Three consecutive failed chain checks disable Twill and log DEGRADE. -/
def execTwillDisable (s : State) : Host.Outcome State Fault Refusal := run (fun e d => d.twDisable e) s

/-- HM_ARM (R266): A write of 1 to HM_ARM moves Hawkmoth from DISARMED to ARMING when HM_ARM_BLOCK reads 0. -/
def execHmArm (h : Hdr) (s : State) : Host.Outcome State Fault Refusal := write1 h O.HM_ARM 0 1 s

/-- HM_DISARM (R271): A write to HM_DISARM disarms Hawkmoth with cause HOST. -/
def execHmDisarm (h : Hdr) (value : Nat) (s : State) : Host.Outcome State Fault Refusal := write1 h O.HM_DISARM 0 value s

/-- HM_SELFTEST_END (R268): The arming self-test of the inhibit path ends and Hawkmoth goes to ARMED, HOLD or DISARMED. -/
def execHmSelftestEnd (passed : Bool) (s : State) : Host.Outcome State Fault Refusal :=
  run (fun e d => d.selfTestEnd e passed) s

/-- EMIT_EN_LOW (R277): EMIT_EN low beyond its deglitch disarms Hawkmoth and forces the drive outputs off on both dies. -/
def execEmitEnLow (s : State) : Host.Outcome State Fault Refusal := run (fun e d => d.emitEnLow e) s

/-- EMIT_EN_HIGH (R269): EMIT_EN returning high clears the EMIT_EN bit of HM_ARM_BLOCK. -/
def execEmitEnHigh (s : State) : Host.Outcome State Fault Refusal := run (fun e d => d.emitEnHigh e) s

/-- FW_HEARTBEAT_STROKE (R275): The firmware strokes the Hawkmoth watchdog with the next alternating value. -/
def execFwHeartbeatStroke (value : Nat) (s : State) : Host.Outcome State Fault Refusal :=
  run (fun e d => d.fwStroke e value) s

/-- FW_HEARTBEAT_EXPIRY (R275): No correct firmware stroke within HM_HB_TIMEOUT_US disarms Hawkmoth with cause FW_HEARTBEAT.
-/
def execFwHeartbeatExpiry (s : State) : Host.Outcome State Fault Refusal := run (fun e d => d.fwExpiry e) s

/-- HOST_HEARTBEAT_EXPIRY (R276): No renewing request within HM_HOST_HB_TIMEOUT_MS disarms Hawkmoth with cause HOST_HEARTBEAT.
-/
def execHostHeartbeatExpiry (s : State) : Host.Outcome State Fault Refusal := run (fun e d => d.hostExpiry e) s

/-- D2D_LINK_FAULT (R957): A die-to-die link fault detected on die 1 asserts the inhibit and disarms Hawkmoth with cause
HV_LATCHED. -/
def execD2dLinkFault (s : State) : Host.Outcome State Fault Refusal := run (fun e d => d.d2dFault e) s

/-- HM_CONFIG_COMPARE (R289): Every 1 ms Hawkmoth compares its two configuration copies and disarms on a mismatch. -/
def execHmConfigCompare (upset : List (Nat × Nat × Nat)) (s : State) : Host.Outcome State Fault Refusal :=
  run (fun e d => d.configCompare e upset) s

/-- HM_INJECT (R291): A write of HM_INJECT raises or clears injected Hawkmoth conditions exactly as if they were real. -/
def execHmInject (h : Hdr) (value : Nat) (s : State) : Host.Outcome State Fault Refusal := write1 h O.HM_INJECT 0 value s

/-- BUCKET_LEAK_STEP (R284): Each bucket leaks by its fixed fraction at every step of its device-time grid. -/
def execBucketLeakStep (bucket : Nat) (parity : List Nat) (s : State) : Host.Outcome State Fault Refusal :=
  run (fun e d => d.bucketStep e bucket parity) s

end Sys2Proof.Machine
end

