-- ==== Sys2Proof/Machine/CmdHousekeeping.lean ====
section
/-! DEFINITION. The meanings of the commands of housekeeping and thermal protection (chapter 16), one for each row of the table. -/

namespace Sys2Proof.Machine

/-- HK_REPEAT_START (R817): The sequencer starts the next repeat of a sequence entry after its DELAY. -/
def execHkRepeatStart (s : State) : Host.Outcome State Fault Refusal := run (fun e d => d.hkRepeat e) s

/-- HK_CONVERSION_DONE (R807): A housekeeping conversion ends and its corrected result updates the values, ring and consumers.
-/
def execHkConversionDone (adc : Nat) (code : Int) (s : State) : Host.Outcome State Fault Refusal :=
  run (fun e d => d.hkDone e adc code) s

/-- THERMAL_ROUND (R837): Thermal protection requests an urgent conversion of each sensor once per millisecond. -/
def execThermalRound (sensor : Nat) (s : State) : Host.Outcome State Fault Refusal :=
  run (fun e d => d.thermalRound e sensor) s

/-- HM_VHV_CHECK (R829): Hawkmoth requests an urgent conversion of VHV at arming and every 10 ms. -/
def execHmVhvCheck (s : State) : Host.Outcome State Fault Refusal := run (fun e d => d.vhvCheck e) s

/-- HK_NOW (R828): A READ of HK_NOW converts each element urgently and returns them sampled together. -/
def execHkNow (h : Hdr) (element count : Nat) (codes : List Int) (s : State) : Host.Outcome State Fault Refusal :=
  request (readMsg h O.HK_NOW element count) codes s

/-- HK_RUN_STOP (R820): A write of 0 to HK_RUN stops the sequencer after the conversion in progress. -/
def execHkRunStop (h : Hdr) (s : State) : Host.Outcome State Fault Refusal := write1 h O.HK_RUN 0 0 s

/-- HK_RUN_START (R820): A write of 1 to HK_RUN restarts the sequencer at entry 0. -/
def execHkRunStart (h : Hdr) (s : State) : Host.Outcome State Fault Refusal := write1 h O.HK_RUN 0 1 s

/-- THERMAL_SHUTDOWN_TRIP (R848): A sensor above its shutdown limit for 10 µs shuts the device down. -/
def execThermalShutdownTrip (sensor : Nat) (s : State) : Host.Outcome State Fault Refusal :=
  run (fun e d => d.thermalTrip e sensor) s

/-- THERMAL_AUTO_RESTART (R850): After 2 s below the restart limits the device restarts from fuse load. -/
def execThermalAutoRestart (s : State) : Host.Outcome State Fault Refusal := run (fun e d => d.thermalRestart e) s

end Sys2Proof.Machine
end

