-- ==== Sys2Proof/Machine/CmdMemory.lean ====
section
/-! DEFINITION. The meanings of the commands of GDDR7 and its arbiter (chapter 15), one for each row of the table. -/

namespace Sys2Proof.Machine

/-- MEM_TRAINING_DONE (R763): Full GDDR7 training ends, sets CAP_GDDR7_FOUND and releases NOT_READY objects. -/
def execMemTrainingDone (ok0 ok1 : Bool) (s : State) : Host.Outcome State Fault Refusal :=
  run (fun e d => d.memTrained e ok0 ok1) s

/-- MEM_RETRAIN (R767): A write of 1 to MEM_RETRAIN runs full training and returns OFFLINE channels to OK. -/
def execMemRetrain (h : Hdr) (s : State) : Host.Outcome State Fault Refusal := write1 h O.MEM_RETRAIN 0 1 s

/-- MEM_TRACKING (R764): Every MEM_TRACK_MS each channel re-centres its sampling points and reads device temperature. -/
def execMemTracking (chan : Nat) (temp : Int) (edge : Bool) (s : State) : Host.Outcome State Fault Refusal :=
  run (fun e d => d.memTrack e chan temp edge) s

/-- MEM_REFRESH (R781): A channel performs its per-bank or all-bank refresh when due. -/
def execMemRefresh (chan bank : Nat) (s : State) : Host.Outcome State Fault Refusal :=
  run (fun e d => d.memRefresh e chan bank) s

/-- MEM_READ_EDC_ERROR (R786): A read EDC mismatch is retried up to 3 times and then poisoned. -/
def execMemReadEdcError (requester addr repeats : Nat) (s : State) : Host.Outcome State Fault Refusal :=
  run (fun e d => d.readEdc e requester addr repeats) s

/-- MEM_WRITE_EDC_ERROR (R786): A write EDC mismatch is retried up to 3 times and then enters the poison table. -/
def execMemWriteEdcError (requester addr repeats : Nat) (s : State) : Host.Outcome State Fault Refusal :=
  run (fun e d => d.writeEdc e requester addr repeats) s

/-- MEM_CA_ERROR (R786): A command/address error is reissued and may retrain the path or take the channel OFFLINE. -/
def execMemCaError (requester addr repeats : Nat) (read : Bool) (s : State) : Host.Outcome State Fault Refusal :=
  run (fun e d => d.caError e requester addr repeats read) s

/-- ARB_HANDOVER (R798): At a burst boundary a port chooses its next owner from urgent or all waiting requesters. -/
def execArbHandover (port : Nat) (own : List Nat) (s : State) : Host.Outcome State Fault Refusal :=
  run (fun e d => d.handover e port own) s

/-- REQUEST_PROMOTION (R794): A request that has waited MEM_ARB_PROMOTE cycles becomes urgent. -/
def execRequestPromotion (port requester : Nat) (s : State) : Host.Outcome State Fault Refusal :=
  run (fun e d => d.promote e port requester) s

/-- MEM_PEEK (R792): A read of MEM_PEEK reads 256 bytes at MEM_PEEK_ADDR through requester DIAG. -/
def execMemPeek (h : Hdr) (block : Nat) (s : State) : Host.Outcome State Fault Refusal :=
  request (blockMsg 3 h O.MEM_PEEK 0 block []) [] s

/-- MEM_CA_RETRAIN_DONE (R786): A channel's command/address retrain after a kind-2 error ends and releases its waiting
requests, or takes the channel OFFLINE when it failed. -/
def execMemCaRetrainDone (chan : Nat) (ok : Bool) (s : State) : Host.Outcome State Fault Refusal :=
  run (fun e d => d.caRetrained e chan ok) s

/-- SELF_REFRESH_EXIT (R785): On a warm start the memory controller completes its self-refresh exit, the reload of trained
settings and one tracking step per channel, and the fault log is restored from the mirror. -/
def execSelfRefreshExit (s : State) : Host.Outcome State Fault Refusal := run (fun e d => d.refreshExit e) s

end Sys2Proof.Machine
end

