-- ==== Sys2Proof/Machine/CmdOutput.lean ====
section
/-! DEFINITION. The meanings of the commands of Tapestry and the Gaern lanes (chapters 13 and 14), one for each row of the table. -/

namespace Sys2Proof.Machine

/-- TAP_HOST_WRITE (R645): A TAP_HOST_WRITE writes host data into a Tapestry buffer at once. -/
def execTapHostWrite (h : Hdr) (block : Nat) (data : Bytes) (s : State) : Host.Outcome State Fault Refusal :=
  request (blockMsg 4 h O.TAP_HOST_WRITE 0 block data) [] s

/-- TAP_FILL (R647): A write of TAP_FILL starts zeroing a buffer range. -/
def execTapFill (h : Hdr) (element value : Nat) (s : State) : Host.Outcome State Fault Refusal :=
  write1 h O.TAP_FILL element value s

/-- TAP_FILL_DONE (R647): The buffer fill ends and TAP_FILL_BUSY clears. -/
def execTapFillDone (s : State) : Host.Outcome State Fault Refusal := run (fun _ d => d.tapFillDone) s

/-- SCAN_OUT_START (R669): Scan-out of a flipped raster starts once the previous scan-out has ended, and tags are read. -/
def execScanOutStart (raster : Nat) (s : State) : Host.Outcome State Fault Refusal := run (fun e d => d.scanStart e raster) s

/-- TAPESTRY_LINE_SEND (R676): A fetched line leaves at its slot, or as soon as fetched when unpaced. -/
def execTapestryLineSend (bad : List Nat) (s : State) : Host.Outcome State Fault Refusal :=
  run (fun e d => d.lineSend e bad) s

/-- LINE_UNDERRUN (R677): A paced line still not fetched at slot + P leaves with no-return pixels and UNDERRUN. -/
def execLineUnderrun (m : LineMeas) (s : State) : Host.Outcome State Fault Refusal :=
  run (fun e d => d.lineUnderrun e m.bad m.unfetched) s

/-- RASTER_RETIRE (R671): The raster trailer reaches the TX balls and the raster retires. -/
def execRasterRetire (s : State) : Host.Outcome State Fault Refusal := run (fun e d => d.rasterRetire e) s

/-- TX_SEGMENT_START (R710): When a segment ends or the link is idle, the ready segment of highest priority starts. -/
def execTxSegmentStart (s : State) : Host.Outcome State Fault Refusal := run (fun e d => d.txStart e) s

/-- ALIGNMENT_COLUMN (R694): Every 2,048 columns the device sends a K28.3 column and a K28.0 column. -/
def execAlignmentColumn (s : State) : Host.Outcome State Fault Refusal := run (fun e d => d.alignCol e) s

/-- CREDIT_ONLY_PACKET (R716): Owed credits and 10 µs without a segment send a GOP packet with LEN 0. -/
def execCreditOnlyPacket (s : State) : Host.Outcome State Fault Refusal := run (fun e d => d.creditOnly e) s

/-- TS_MARKER_TX (R741): Every LINK_TS_PERIOD_MS a K28.1 column is sent and stamped as t1. -/
def execTsMarkerTx (frac : Nat) (s : State) : Host.Outcome State Fault Refusal := run (fun e d => d.tsMarkerTx e frac) s

/-- TS_MARKER_RX (R744): A received host K28.1 column is stamped as t4. -/
def execTsMarkerRx (frac : Nat) (s : State) : Host.Outcome State Fault Refusal := run (fun e d => d.tsMarkerRx e frac) s

/-- DELAY_REQ_RX (R746): A received DELAY_REQ is answered and the offset and delay result is computed. -/
def execDelayReqRx (before segment after : List RxCol) (s : State) : Host.Outcome State Fault Refusal :=
  run (fun e d => d.gaernRx e (before ++ segment ++ after)) s

/-- TS_EXCHANGE_TIMEOUT (R746): A SYNC_FU left unanswered for 10 ms is counted as missed. -/
def execTsExchangeTimeout (s : State) : Host.Outcome State Fault Refusal := run (fun e d => d.tsTimeout e) s

/-- LANE_LOCKED (R724): A receive lane locks after 8 consecutive valid TRAIN sets. -/
def execLaneLocked (lane : Nat) (groups : List Nat) (ctle : Nat) (s : State) : Host.Outcome State Fault Refusal :=
  run (fun e d => d.laneLocked e lane groups ctle) s

/-- LANE_ALIGNED (R725): A locked lane is deskewed against the other lanes and becomes aligned. -/
def execLaneAligned (lane : Nat) (s : State) : Host.Outcome State Fault Refusal := run (fun e d => d.laneAligned e lane) s

/-- ALIGNED_TIMEOUT (R727): Under DEGRADE policy, 1 ms in TRAIN with a non-empty RXMASK sets ALIGNED. -/
def execAlignedTimeout (s : State) : Host.Outcome State Fault Refusal := run (fun e d => d.alignedTimeout e) s

/-- TRAIN_EXIT (R728): The device leaves TRAIN for READY or DEGRADED and resets MSEQ and credits. -/
def execTrainExit (hostTx hostRx : Nat) (s : State) : Host.Outcome State Fault Refusal :=
  run (fun e d => d.trainExit e hostTx hostRx) s

/-- TRAIN_TIMEOUT_NOTIFY (R732): 50 ms in TRAIN logs NOTIFY once. -/
def execTrainTimeoutNotify (s : State) : Host.Outcome State Fault Refusal := run (fun e d => d.trainTimeout e) s

/-- LANE_LOSS (R733): A lane is lost on a cause of Table 14-5 and the link restripes or retrains. -/
def execLaneLoss (lane : Nat) (loss : LossMeas) (s : State) : Host.Outcome State Fault Refusal :=
  run (fun e d => d.laneLoss e lane loss.cause loss.rx) s

/-- HOST_LOSS_ANNOUNCEMENT (R737): Four TRAIN sets from the host announce a lost lane, and the device adopts the masks. -/
def execHostLossAnnouncement (txMask rxMask : Nat) (s : State) : Host.Outcome State Fault Refusal :=
  run (fun e d => d.hostLoss e txMask rxMask) s

/-- RETRAIN_REQUEST (R738): Four consecutive TRAIN sets with ALIGNED clear make the device enter TRAIN. -/
def execRetrainRequest (s : State) : Host.Outcome State Fault Refusal := run (fun e d => d.retrainReq e) s

/-- LINK_RETRAIN (R739): A write of 1 to LINK_RETRAIN enters TRAIN and discards traffic under R740. -/
def execLinkRetrain (h : Hdr) (s : State) : Host.Outcome State Fault Refusal := write1 h O.LINK_RETRAIN 0 1 s

/-- LINK_ENABLE (R723): A write of 1 to LINK_ENABLE starts lane bring-up in TRAIN. -/
def execLinkEnable (h : Hdr) (s : State) : Host.Outcome State Fault Refusal := write1 h O.LINK_ENABLE 0 1 s

/-- LINK_DISABLE (R721): A write of 0 to LINK_ENABLE turns the drivers off and puts the link in DISABLED. -/
def execLinkDisable (h : Hdr) (s : State) : Host.Outcome State Fault Refusal := write1 h O.LINK_ENABLE 0 0 s

/-- PRBS_GEN (R747): A write of PRBS_GEN makes a free transmit lane send a raw PRBS sequence. -/
def execPrbsGen (h : Hdr) (lane value : Nat) (s : State) : Host.Outcome State Fault Refusal :=
  write1 h O.PRBS_GEN lane value s

/-- PRBS_CHK (R750): A write of PRBS_CHK selects the checked sequence and clears its counts. -/
def execPrbsChk (h : Hdr) (lane value : Nat) (s : State) : Host.Outcome State Fault Refusal :=
  write1 h O.PRBS_CHK lane value s

/-- PRBS_SYNC_GAIN (R749): A checker declares sync after 64 consecutive correctly predicted bits. -/
def execPrbsSyncGain (lane : Nat) (s : State) : Host.Outcome State Fault Refusal := run (fun e d => d.prbsGain e lane) s

/-- PRBS_SYNC_LOSS (R749): More than 32 errors within 1,024 bits drop the checker's sync. -/
def execPrbsSyncLoss (lane errs : Nat) (s : State) : Host.Outcome State Fault Refusal :=
  run (fun e d => d.prbsLoss e lane errs) s

/-- INJ_GO_START (R753): A write of 1 to INJ_GO injects an error, once or periodically. -/
def execInjGoStart (h : Hdr) (lane : Nat) (s : State) : Host.Outcome State Fault Refusal := write1 h O.INJ_GO lane 1 s

/-- INJ_GO_STOP (R753): A write of 0 to INJ_GO stops periodic injection. -/
def execInjGoStop (h : Hdr) (lane : Nat) (s : State) : Host.Outcome State Fault Refusal := write1 h O.INJ_GO lane 0 s

/-- INJ_PERIODIC (R753): Every INJ_PERIOD groups the lane injects another error. -/
def execInjPeriodic (lane : Nat) (s : State) : Host.Outcome State Fault Refusal := run (fun e d => d.injPeriodic e lane) s

end Sys2Proof.Machine
end

