-- ==== Sys2Proof/Machine/CmdPower.lean ====
section
/-! DEFINITION. The meanings of the commands of power, clocks, reset and start-up (chapter 17), and the fault log (chapter 18), one for each row of the table. -/

namespace Sys2Proof.Machine

/-- POWER_ON_RESET (R872): VAON below 2.70 V for 10 µs, or first power, resets the device and device time. -/
def execPowerOnReset (s : State) : Host.Outcome State Fault Refusal := powerOnReset s

/-- RESET_N_LOW (R872): RESET_N low for at least 1 µs takes an external reset. -/
def execResetNLow (s : State) : Host.Outcome State Fault Refusal := run (fun e d => d.resetN e) s

/-- RST_REQ (R874): A write of 1 to RST_REQ is answered and the device resets within 1 ms. -/
def execRstReq (h : Hdr) (s : State) : Host.Outcome State Fault Refusal := write1 h O.RST_REQ 0 1 s

/-- SUPERVISOR_RESET (R872): A lockstep mismatch, control-cluster watchdog or supply undervoltage resets the device. -/
def execSupervisorReset (cause core : Nat) (s : State) : Host.Outcome State Fault Refusal :=
  run (fun e d => d.supReset e cause core) s

/-- CLOCK_LOSS (R869): Loss of the reference or PLL lock asserts the inhibit and takes a clock reset. -/
def execClockLoss (s : State) : Host.Outcome State Fault Refusal := run (fun e d => d.clockLoss e) s

/-- RAILS_IN_RANGE (R858): All rails in range for 1 ms let start-up leave the always-on phase. -/
def execRailsInRange (s : State) : Host.Outcome State Fault Refusal := run (fun e d => d.railsUp e) s

/-- FUSE_LOAD_DONE (R889): Fuse load of identity, trims and variant enables ends. -/
def execFuseLoadDone (s : State) : Host.Outcome State Fault Refusal := run (fun e d => d.fuseDone e) s

/-- REF_QUALIFIED (R866): The reference clock qualifies after 1,024 good periods and the main PLL locks. -/
def execRefQualified (s : State) : Host.Outcome State Fault Refusal := run (fun e d => d.refOk e) s

/-- FW_SLOT_CHECKED (R880): Loading and checking of a firmware slot ends, falling back to the other slot or BOOT_FAILED. -/
def execFwSlotChecked (slot : Nat) (s : State) : Host.Outcome State Fault Refusal := run (fun e d => d.fwChecked e slot) s

/-- BOOT_CONFIG_ENTRY (R885): The internal session executes the next boot configuration entry. -/
def execBootConfigEntry (s : State) : Host.Outcome State Fault Refusal := run (fun e d => d.bootNext e) s

/-- LINK_PHASE_END (R889): Start-up's LINK phase ends at READY or after 5 ms. -/
def execLinkPhaseEnd (s : State) : Host.Outcome State Fault Refusal := run (fun e d => d.linkPhaseEnd e) s

/-- STARTUP_CALIBRATION_DONE (R586): The start-up calibration ends and start-up reaches READY. -/
def execStartupCalibrationDone (s : State) : Host.Outcome State Fault Refusal := run (fun e d => d.startupDone e) s

/-- VHV_REVERSE (R860): VHV below −0.5 V turns every VHV-fed output off. -/
def execVhvReverse (mv : Int) (s : State) : Host.Outcome State Fault Refusal := run (fun e d => d.vhvReverse e mv) s

/-- VHV_UNDERVOLTAGE (R860): VHV below 8.0 V turns every VHV-fed output off. -/
def execVhvUndervoltage (mv : Int) (s : State) : Host.Outcome State Fault Refusal := run (fun e d => d.vhvUnder e mv) s

/-- VHV_OVERVOLTAGE (R860): VHV above 62.0 V turns every VHV-fed output off. -/
def execVhvOvervoltage (mv : Int) (s : State) : Host.Outcome State Fault Refusal := run (fun e d => d.vhvOver e mv) s

/-- VHV_RECOVERY (R861): The end of a VHV lockout restarts the bias outputs. -/
def execVhvRecovery (mv : Int) (s : State) : Host.Outcome State Fault Refusal := run (fun e d => d.vhvBack e mv) s

/-- POWER_DOMAIN_RAMP_DONE (R863): A switched-on power domain completes its ramp. -/
def execPowerDomainRampDone (domain : Nat) (s : State) : Host.Outcome State Fault Refusal :=
  run (fun e d => d.rampOk e domain) s

/-- POWER_DOMAIN_FAULT (R864): A domain not on 100 µs after switch-on reads FAULT and logs or stops start-up. -/
def execPowerDomainFault (domain : Nat) (s : State) : Host.Outcome State Fault Refusal :=
  run (fun e d => d.rampFault e domain) s

/-- SLOW_CRYSTAL_FAIL (R870): A slow crystal with no edge for 4 periods is replaced by the RC oscillator. -/
def execSlowCrystalFail (s : State) : Host.Outcome State Fault Refusal := run (fun e d => d.crystalFail e) s

/-- PWR_PARK (R895): A write of 1 to PWR_PARK starts the ordered entry into parked mode. -/
def execPwrPark (h : Hdr) (s : State) : Host.Outcome State Fault Refusal := write1 h O.PWR_PARK 0 1 s

/-- PARK_ENTRY_DONE (R896): The entry into parked mode completes with GDDR7 in self-refresh and PWR_EN low. -/
def execParkEntryDone (s : State) : Host.Outcome State Fault Refusal := run (fun e d => d.parkDone e) s

/-- CAN_WAKE (R899): CAN_WAKE low for 5 µs wakes the device from parked mode. -/
def execCanWake (s : State) : Host.Outcome State Fault Refusal := run (fun e d => d.wake e 0) s

/-- GPIO_WAKE (R899): A selected edge on GPIO_00–GPIO_03 wakes the device. -/
def execGpioWake (pin : Nat) (rising : Bool) (s : State) : Host.Outcome State Fault Refusal :=
  run (fun e d => d.gpioWake e pin rising) s

/-- WAKE_TIMER (R899): PWR_WAKE_TIMER_S after the entry ended the wake timer wakes the device. -/
def execWakeTimer (s : State) : Host.Outcome State Fault Refusal := run (fun e d => d.wakeTimer e) s

/-- VHV_WAKE (R899): VHV rising through 8.5 V wakes the device. -/
def execVhvWake (s : State) : Host.Outcome State Fault Refusal := run (fun e d => d.wake e 3) s

/-- FW_SLOT_ERASE (R883): A write of 1 to FW_SLOT_ERASE starts the erase of a slot. -/
def execFwSlotErase (h : Hdr) (slot : Nat) (s : State) : Host.Outcome State Fault Refusal := write1 h O.FW_SLOT_ERASE slot 1 s

/-- FW_ERASE_DONE (R883): The slot erase completes and FW_FLASH_BUSY clears. -/
def execFwEraseDone (slot : Nat) (s : State) : Host.Outcome State Fault Refusal := run (fun e d => d.eraseDone e slot) s

/-- FW_SLOT_IMAGE (R883): A WRITE_BLOCK of FW_SLOT_IMAGE programs an erased slot and checks the image at the last block. -/
def execFwSlotImage (h : Hdr) (slot block : Nat) (data : Bytes) (s : State) : Host.Outcome State Fault Refusal :=
  request (blockMsg 4 h O.FW_SLOT_IMAGE slot block data) [] s

/-- FAULT_LOG_BATCH_WRITE (R909): When the oldest held entry's hold ends, it and its concurrent entries are written to the log
in rank order. -/
def execFaultLogBatchWrite (s : State) : Host.Outcome State Fault Refusal := run (fun e d => d.batch e) s

/-- FLT_ACK (R913): A write of n to FLT_ACK acknowledges every entry with SEQ up to n. -/
def execFltAck (h : Hdr) (value : Nat) (s : State) : Host.Outcome State Fault Refusal := write1 h O.FLT_ACK 0 value s

/-- FLT_CLEAR (R915): A write of 1 to FLT_CLEAR empties every log slot when no INHIBIT entry is unacknowledged. -/
def execFltClear (h : Hdr) (s : State) : Host.Outcome State Fault Refusal := write1 h O.FLT_CLEAR 0 1 s

end Sys2Proof.Machine
end

