-- ==== Sys2Proof/Machine/CmdProtocol.lean ====
section
/-! DEFINITION. The meanings of the commands of requests of the Gaern Object Protocol, their carriers, leases and notifications (chapter 02), one for each row of the table. -/

namespace Sys2Proof.Machine

/-- READ (R83): A GOP READ returns the values in force of a run of elements, sampled in one fabric cycle, and clears RC
elements. -/
def execRead (q : Req) (s : State) : Host.Outcome State Fault Refusal := request (opMsg 1 false false q) [] s

/-- READ_PEND (R83): A GOP READ with the PEND flag returns the staged shadow values where they exist and the values in force
elsewhere. -/
def execReadPend (q : Req) (s : State) : Host.Outcome State Fault Refusal := request (opMsg 1 true false q) [] s

/-- READ_META (R90): A GOP READ with the META flag returns the default, minimum and maximum in force of one element. -/
def execReadMeta (q : Req) (s : State) : Host.Outcome State Fault Refusal := request (opMsg 1 false true q) [] s

/-- WRITE (R79): A GOP WRITE to objects without a row of their own is checked and then written NOW, into shadows, or into the
lock's staged set. -/
def execWrite (q : Req) (s : State) : Host.Outcome State Fault Refusal := request (opMsg 2 false false q) [] s

/-- READ_BLOCK (R141): A GOP READ_BLOCK returns one 512-byte block of a DOM object, taking a snapshot at block 0. -/
def execReadBlock (q : Req) (s : State) : Host.Outcome State Fault Refusal := request (opMsg 3 false false q) [] s

/-- WRITE_BLOCK (R145): A GOP WRITE_BLOCK appends one block of a DOM object write and, at the last block, checks the CRC and
applies or stages the whole object. -/
def execWriteBlock (q : Req) (s : State) : Host.Outcome State Fault Refusal := request (opMsg 4 false false q) [] s

/-- LOCK (R123): A GOP LOCK grants the single device lock to the session or renews its lease. -/
def execLock (q : Req) (s : State) : Host.Outcome State Fault Refusal := request (opMsg 5 false false q) [] s

/-- COMMIT (R132): A GOP COMMIT re-checks the staged set, accepts it for landing at the instant its apply classes require, and
frees the lock. -/
def execCommit (q : Req) (s : State) : Host.Outcome State Fault Refusal := request (opMsg 6 false false q) [] s

/-- ABORT_LOCK (R137): A GOP ABORT_LOCK discards the staged set and frees the lock. -/
def execAbortLock (q : Req) (s : State) : Host.Outcome State Fault Refusal := request (opMsg 7 false false q) [] s

/-- SUBSCRIBE (R150): A GOP SUBSCRIBE creates, replaces or cancels a change or periodic subscription to a run of elements. -/
def execSubscribe (q : Req) (s : State) : Host.Outcome State Fault Refusal := request (opMsg 8 false false q) [] s

/-- GOP_BAD_OP (R88): A request with an undefined OP or a NOTIFY sent to the device is refused with ABT_TYPE, detail BAD_OP.
-/
def execGopBadOp (op : Nat) (q : Req) (s : State) : Host.Outcome State Fault Refusal :=
  request (opMsg (op % 16) false false q) [] s

/-- SES_OPEN (R113): A write of the session's own SES_OPEN element increments its epoch and discards its tags, subscriptions,
snapshot, block write, staged writes and lock. -/
def execSesOpen (q : Req) (s : State) : Host.Outcome State Fault Refusal :=
  request (opMsg 2 false false { q with index := O.SES_OPEN }) [] s

/-- CAN_SEGMENT_RX (R101): A CAN FD GOP segment is received and reassembled into a message, or the partial message is
discarded and counted. -/
def execCanSegmentRx (ctrl : Nat) (id : CanId) (payload : Bytes) (s : State) : Host.Outcome State Fault Refusal :=
  run (fun e d => d.canRx e ctrl id.ext id.num payload) s

/-- CAN_SEGMENT_TIMEOUT (R101): 20 ms without the next segment of a partly received request discards it and counts it. -/
def execCanSegmentTimeout (ctrl : Nat) (s : State) : Host.Outcome State Fault Refusal :=
  run (fun e d => d.canTimeout e ctrl) s

/-- CAN_BUS_OFF (R951): A CAN FD controller enters bus-off, which is the carrier failure of its session and ends a lock it
holds. -/
def execCanBusOff (ctrl : Nat) (s : State) : Host.Outcome State Fault Refusal := run (fun e d => d.canBusOff e ctrl) s

/-- CAN_BUS_OFF_RECOVERY (R951): After 128 occurrences of 11 recessive bits the controller leaves bus-off and rejoins the bus.
-/
def execCanBusOffRecovery (ctrl : Nat) (s : State) : Host.Outcome State Fault Refusal := run (fun _ d => d.canRecover ctrl) s

/-- SPI_REQUEST_FRAME (R102): An SPI request frame is received, CRC-checked and either queued for the SPI session or refused
with ABT_CRC. -/
def execSpiRequestFrame (mosi : Bytes) (s : State) : Host.Outcome State Fault Refusal := run (fun e d => d.spiRx e mosi) s

/-- SPI_POLL_FRAME (R104): An SPI poll frame returns the status byte and the oldest queued response or notification with its
CRC. -/
def execSpiPollFrame (clocked : Nat) (s : State) : Host.Outcome State Fault Refusal := run (fun _ d => d.spiPoll clocked) s

/-- SPI_CARRIER_FAILURE (R951): Eight refused SPI frames within 100 ms fail the SPI carrier and restart the count. -/
def execSpiCarrierFailure (s : State) : Host.Outcome State Fault Refusal := run (fun e d => d.spiFail e) s

/-- GAERN_GOP_PACKET_RX (R109): A host GOP packet received on the Gaern lanes delivers its message to session 3 or carries
credits only. -/
def execGaernGopPacketRx (before segment after : List RxCol) (s : State) : Host.Outcome State Fault Refusal :=
  run (fun e d => d.gaernRx e (before ++ segment ++ after)) s

/-- LOCK_LEASE_EXPIRY (R138): The lock lease expires, so the staged set is discarded, the lock freed, LOCK_LOST counted and
the event logged. -/
def execLockLeaseExpiry (s : State) : Host.Outcome State Fault Refusal := run (fun e d => d.leaseExpiry e) s

/-- TAG_STORE_EXPIRY (R118): A stored tag, request and response leave duplicate storage 100 ms after execution. -/
def execTagStoreExpiry (sess tag : Nat) (s : State) : Host.Outcome State Fault Refusal :=
  run (fun e d => d.tagExpiry e sess tag) s

/-- SNAPSHOT_EXPIRY (R142): A READ_BLOCK snapshot lapses after 10 ms without a READ_BLOCK of that object from the session. -/
def execSnapshotExpiry (sess : Nat) (s : State) : Host.Outcome State Fault Refusal := run (fun e d => d.expire e sess) s

/-- BLOCK_WRITE_TIMEOUT (R147): A block write with no WRITE_BLOCK for 10 ms is discarded, and the object keeps its content. -/
def execBlockWriteTimeout (sess : Nat) (s : State) : Host.Outcome State Fault Refusal := run (fun e d => d.expire e sess) s

/-- NOTIFY_PERIODIC (R150): A periodic subscription's PERIOD elapses and a NOTIFY of the run leaves. -/
def execNotifyPeriodic (sess index element count : Nat) (s : State) : Host.Outcome State Fault Refusal :=
  run (fun e d => d.notifyPeriodic e sess index element count) s

/-- NOTIFY_CHANGE (R152): A change notification leaves with the latest values, at most once per millisecond per subscription.
-/
def execNotifyChange (sess index element count : Nat) (s : State) : Host.Outcome State Fault Refusal :=
  run (fun e d => d.notifyChange e sess index element count) s

end Sys2Proof.Machine
end

