-- ==== Sys2Proof/Machine/CmdReceive.lean ====
section
/-! DEFINITION. The meanings of the commands of the receive front end, echo timing, extraction and Ringlet (chapters 06 to 09), one for each row of the table. -/

namespace Sys2Proof.Machine

/-- COMPARATOR_CROSSING (R351): A threshold comparator crossing inside a window is stamped into the slice's FIFO when R369
allows. -/
def execComparatorCrossing (chan th : Nat) (rise : Bool) (k r : Nat) (sat : Bool)
    (s : State) : Host.Outcome State Fault Refusal :=
  run (fun _ d => d.crossing chan th rise k r sat) s

/-- MERGE_HOLD_EXPIRY (R364): A held falling stamp is released when its merge hold-off ends without a rising crossing. -/
def execMergeHoldExpiry (chan th : Nat) (s : State) : Host.Outcome State Fault Refusal :=
  run (fun e d => d.holdExpiry e chan th) s

/-- HISTOGRAM_READOUT_DONE (R414): The readout of one channel's histogram of a closed group ends and clears its bins. -/
def execHistogramReadoutDone (chan : Nat) (parity : Bool) (s : State) : Host.Outcome State Fault Refusal :=
  run (fun e d => d.histRead e chan parity) s

/-- SHOT_HEADER_PACKET_TIMEOUT (R446): A shot header packet closes 10 µs after its first header. -/
def execShotHeaderPacketTimeout (s : State) : Host.Outcome State Fault Refusal := run (fun e d => d.hdrTimeout e) s

/-- GROUP_WAKE_DONE (R321): A waking receive group reaches ACTIVE after its wake time and self-check, and any held step-down
applies. -/
def execGroupWakeDone (group : Nat) (checkOk : Bool) (s : State) : Host.Outcome State Fault Refusal :=
  run (fun e d => (d.groupWakeDone e group checkOk).calAdvance e group) s

/-- GROUP_WAKE_FAIL (R321): A group still waking 100 µs after its request goes FAILED and logs DEGRADE. -/
def execGroupWakeFail (group : Nat) (s : State) : Host.Outcome State Fault Refusal :=
  run (fun e d =>
    let d := d.groupWakeFail e group
    if d.o O.RX_GROUP_STATE group == 4 then d.calDrop e group else d) s

/-- RX_GROUP_RETRY (R960): A write of 1 to RX_GROUP_RETRY moves a FAILED group to OFF. -/
def execRxGroupRetry (h : Hdr) (group : Nat) (s : State) : Host.Outcome State Fault Refusal :=
  write1 h O.RX_GROUP_RETRY group 1 s

/-- RX_SKIP_TAKEOVER (R344): A write of a position to RX_SKIP_REQ requests a host takeover of that channel by the Skipper. -/
def execRxSkipTakeover (h : Hdr) (group pos : Nat) (s : State) : Host.Outcome State Fault Refusal :=
  write1 h O.RX_SKIP_REQ group pos s

/-- RX_SKIP_RETURN (R344): A write of 0xFF to RX_SKIP_REQ returns the taken-over channel to its home slice. -/
def execRxSkipReturn (h : Hdr) (group : Nat) (s : State) : Host.Outcome State Fault Refusal :=
  write1 h O.RX_SKIP_REQ group 0xFF s

/-- RX_REPAIR (R340): A write of RX_REPAIR requests a permanent repair that lands at a frame boundary once no takeover is in
force. -/
def execRxRepair (h : Hdr) (group value : Nat) (s : State) : Host.Outcome State Fault Refusal :=
  write1 h O.RX_REPAIR group value s

/-- BLANK_N_FALL (R317): A deglitched falling edge of BLANK_N is stamped and opens a Voile masked span. -/
def execBlankNFall (lsb : Nat) (s : State) : Host.Outcome State Fault Refusal :=
  run (fun e d => d.blankFall (64 * e.now + lsb % 64)) s

/-- BLANK_N_RISE (R317): A rising edge of BLANK_N is stamped and ends the masked span after the guard. -/
def execBlankNRise (lsb : Nat) (s : State) : Host.Outcome State Fault Refusal :=
  run (fun e d => d.blankRise e (64 * e.now + lsb % 64)) s

/-- INPUT_SHORT_BIAS (R329): An input above 1.2 V for 100 µs is isolated and marked SHORT_BIAS. -/
def execInputShortBias (chan : Nat) (s : State) : Host.Outcome State Fault Refusal := run (fun e d => d.inputShort e chan) s

/-- DARK_RATE_WATCH (R331): At the end of each 100 ms sub-interval the zero-ambient-rate watch updates each channel and may
declare OPEN_SUSPECT. -/
def execDarkRateWatch (s : State) : Host.Outcome State Fault Refusal := run (fun e d => d.darkWatch e) s

/-- RX_BIAS_ENABLE (R327): A write of RX_BIAS_ENABLE turns a bias output on or off, restarting it after a fault. -/
def execRxBiasEnable (h : Hdr) (bias value : Nat) (s : State) : Host.Outcome State Fault Refusal :=
  write1 h O.RX_BIAS_ENABLE bias value s

/-- BIAS_RAMP_DONE (R325): A bias output reaches its target and enters REGULATING. -/
def execBiasRampDone (bias : Nat) (s : State) : Host.Outcome State Fault Refusal := run (fun e d => d.biasRampDone e bias) s

/-- BIAS_OVERCURRENT_FAULT (R327): A bias output in current limit for 1 ms turns off with FAULT_OC. -/
def execBiasOvercurrentFault (bias : Nat) (s : State) : Host.Outcome State Fault Refusal := run (fun e d => d.biasOc e bias) s

/-- BIAS_OVERVOLTAGE_FAULT (R327): A bias output more than 1.0 V above target for 10 µs turns off with FAULT_OV. -/
def execBiasOvervoltageFault (bias : Nat) (s : State) : Host.Outcome State Fault Refusal := run (fun e d => d.biasOv e bias) s

/-- BIAS_UNDERVOLTAGE_FAULT (R327): A bias output more than 2 % below target for 1 ms after the ramp turns off with FAULT_UV.
-/
def execBiasUndervoltageFault (bias : Nat) (s : State) : Host.Outcome State Fault Refusal :=
  run (fun e d => d.biasUv e bias) s

/-- BIAS_OPEN_WARN (R327): A bias output below 1 µA for 1 s while a fed group is ACTIVE reports OPEN_WARN. -/
def execBiasOpenWarn (bias : Nat) (s : State) : Host.Outcome State Fault Refusal := run (fun e d => d.biasOpen e bias) s

/-- BIAS_VHV_LOW (R327): VHV below 9 V for 10 µs turns every bias output off until VHV recovers. -/
def execBiasVhvLow (s : State) : Host.Outcome State Fault Refusal := run (fun _ d => d.biasVhvLow) s

/-- TDC_STAT_START (R394): A write of 1 to TDC_STAT_START clears the statistics and puts the engine in RUN. -/
def execTdcStatStart (h : Hdr) (s : State) : Host.Outcome State Fault Refusal := write1 h O.TDC_STAT_START 0 1 s

/-- TDC_STAT_ABANDON (R394): A write of 0 to TDC_STAT_START returns the engine to IDLE with partial results readable. -/
def execTdcStatAbandon (h : Hdr) (s : State) : Host.Outcome State Fault Refusal := write1 h O.TDC_STAT_START 0 0 s

/-- INTERP_CAL_STALL (R378): From the eighth consecutive implausible calibration, the slice's windows yield no stamps. -/
def execInterpCalStall (slice : Nat) (s : State) : Host.Outcome State Fault Refusal := run (fun _ d => d.calStall slice) s

/-- SLICE_INTERP_FAULTY (R379): After 1,024 consecutive implausible calibrations the slice reads FAULTY and DEGRADE is logged.
-/
def execSliceInterpFaulty (slice : Nat) (s : State) : Host.Outcome State Fault Refusal :=
  run (fun e d => d.calSliceFaulty e slice) s

/-- EMIT_STAMP_LOSS (R383): From the sixteenth consecutive emission-stamp miss, shots yield no records and DEGRADE is logged.
-/
def execEmitStampLoss (s : State) : Host.Outcome State Fault Refusal := run (fun e d => d.stampLoss e) s

/-- ECHO_CLASSIFY (R481): Ringlet classifies each observation's echoes against its ring, writes the ring entry and map word,
and releases the records. -/
def execEchoClassify (ecc : Option Nat) (s : State) : Host.Outcome State Fault Refusal :=
  run (fun e d => d.echoClassify e ecc) s

/-- RING_BLOCK_ARRIVAL (R485): A prefetched ring block arrives from GDDR7 into the ring cache, void on poison, and late rings
are updated. -/
def execRingBlockArrival (block : Nat) (found : BlockRead) (s : State) : Host.Outcome State Fault Refusal :=
  run (fun e d => d.blockArrive e block found.poisoned found.ecc) s

/-- RINGLET_SWEEP (R491): The sweep advances through the ring region, zeroing aged and broken entries. -/
def execRingletSweep (s : State) : Host.Outcome State Fault Refusal := run (fun e d => d.sweepStep e) s

/-- RL_RESET (R493): A write of 1 to RL_RESET takes a generation step at the next frame boundary, or at once while stopped. -/
def execRlReset (h : Hdr) (s : State) : Host.Outcome State Fault Refusal := write1 h O.RL_RESET 0 1 s

/-- RL_GEOMETRY (R493): A write of a different RL_GEOMETRY takes a generation step. -/
def execRlGeometry (h : Hdr) (value : Nat) (s : State) : Host.Outcome State Fault Refusal := write1 h O.RL_GEOMETRY 0 value s

/-- RINGLET_CLEAR_DONE (R494): The zeroing of the ring region and map buffers after training ends and RL_STATE reads READY. -/
def execRingletClearDone (s : State) : Host.Outcome State Fault Refusal := run (fun e d => d.clearDone e) s

/-- BIAS_CURRENT_LIMIT (R327): A bias output enters or leaves its 6 mA current limit, so RX_BIAS_STATUS moves to or from LIMIT
and the 1 ms limit timer starts or stops. -/
def execBiasCurrentLimit (bias : Nat) (enter : Bool) (s : State) : Host.Outcome State Fault Refusal :=
  run (fun e d => d.biasLimit e bias enter) s

/-- BIAS_VHV_RECOVERY (R327): A bias output that VHV below 9 V has turned off restarts by itself when VHV recovers. -/
def execBiasVhvRecovery (s : State) : Host.Outcome State Fault Refusal :=
  run (fun e d => (List.range 8).foldl (fun d b => d.biasVhvBack e b) d) s

end Sys2Proof.Machine
end

