-- ==== Sys2Proof/Machine/CmdScheduler.lean ====
section
/-! DEFINITION. The meanings of the commands of Jacquard: starting and stopping, decode, the life of a shot, banks and frames (chapters 01 and 03), one for each row of the table. -/

namespace Sys2Proof.Machine

/-- JQ_RUN_START (R199): A write of 1 to JQ_RUN runs the bank check and starts Jacquard with the first frame origin 50 µs
after landing. -/
def execJqRunStart (h : Hdr) (s : State) : Host.Outcome State Fault Refusal := write1 h O.JQ_RUN 0 1 s

/-- JQ_STOP_NOW (R201): A write of 0 to JQ_RUN stops shot boundaries, discards queued shots with STOP headers and closes open
groups. -/
def execJqStopNow (h : Hdr) (s : State) : Host.Outcome State Fault Refusal := write1 h O.JQ_RUN 0 0 s

/-- JQ_STOP_AFTER_FRAME (R199): A write of 2 to JQ_RUN stops decoding after the next END. -/
def execJqStopAfterFrame (h : Hdr) (s : State) : Host.Outcome State Fault Refusal := write1 h O.JQ_RUN 0 2 s

/-- ENTRY_DECODE (R179): Jacquard decodes the next entry into its lookahead queue once room and the 48 µs horizon allow, and
plans each shot. -/
def execEntryDecode (ecc : Nat) (s : State) : Host.Outcome State Fault Refusal := run (fun e d => d.entryDecode e ecc) s

/-- WAKE_REQUEST (R182): Jacquard issues the wake request of a lit group 250 ns or 41,000 ns before the shot's planned
boundary. -/
def execWakeRequest (group : Nat) (s : State) : Host.Outcome State Fault Refusal := run (fun e d => d.wakeRequest e group) s

/-- SHOT_BOUNDARY (R36): A shot boundary starts the pre-fire sequence once every lit group is ACTIVE and no stall holds it. -/
def execShotBoundary (m : BoundMeas) (s : State) : Host.Outcome State Fault Refusal := run (fun e d => d.shotBoundary e m) s

/-- FIRE_COMMIT (R37): 80 ns before emission, Jacquard's angle check and Hawkmoth's state, travel and bucket tests decide
whether the shot fires. -/
def execFireCommit (parity : List Nat) (s : State) : Host.Outcome State Fault Refusal :=
  run (fun e d => d.fireCommit e parity) s

/-- EMISSION (R237): The shot's pulse code drives the KD outputs and FIRE_OUT, the emission is stamped and the echo windows
open. -/
def execEmission (m : EmitMeas) (s : State) : Host.Outcome State Fault Refusal := run (fun e d => d.emission e m) s

/-- WINDOW_CLOSE (R355): The echo windows of a shot close, truncated edges are stamped and the last stamps leave the FIFOs. -/
def execWindowClose (m : CloseMeas) (s : State) : Host.Outcome State Fault Refusal := run (fun e d => d.windowClose e m) s

/-- SYNC_IN_EDGE (R169): A rising edge of SYNC_IN sets the next frame origin 50 µs later and may synchronise filter chains. -/
def execSyncInEdge (s : State) : Host.Outcome State Fault Refusal := run (fun e d => d.syncIn e) s

/-- FRAME_SYNC_MISSED (R170): With no SYNC_IN edge by the previous origin plus 1.5 periods, the frame origin advances by one
period and is counted. -/
def execFrameSyncMissed (s : State) : Host.Outcome State Fault Refusal := run (fun e d => d.syncMissed e) s

/-- JQ_SWAP_REQUEST (R203): A write of 1 to JQ_SWAP_REQ checks the inactive bank and makes a swap pending. -/
def execJqSwapRequest (h : Hdr) (s : State) : Host.Outcome State Fault Refusal := write1 h O.JQ_SWAP_REQ 0 1 s

/-- JQ_SWAP_CANCEL (R80): A write of 0 to JQ_SWAP_REQ before the frame decision replaces the shadow and cancels the swap. -/
def execJqSwapCancel (h : Hdr) (s : State) : Host.Outcome State Fault Refusal := write1 h O.JQ_SWAP_REQ 0 0 s

/-- HELD_SWAP_EXECUTE (R207): A swap write or commit held during the frame-decision span executes once the frame boundary has
passed. -/
def execHeldSwapExecute (sess : Nat) (s : State) : Host.Outcome State Fault Refusal := run (fun e d => d.heldRun e sess) s

/-- JQ_PATCH (R212): A JQ_PATCH writes 1–31 consecutive entries atomically between two decodes, unless too close to the walk.
-/
def execJqPatch (h : Hdr) (data : Bytes) (s : State) : Host.Outcome State Fault Refusal :=
  request (blockMsg 4 h O.JQ_PATCH 0 0 data) [] s

end Sys2Proof.Machine
end

