-- ==== Sys2Proof/Machine/CmdWaveform.lean ====
section
/-! DEFINITION. The meanings of the commands of digitisers, filter chains and waveform acquisition (chapter 10), one for each row of the table. -/

namespace Sys2Proof.Machine

/-- DG_POWER_ON (R504): A write of 1 to DG_POWER powers a digitiser slice up. -/
def execDgPowerOn (h : Hdr) (slice : Nat) (s : State) : Host.Outcome State Fault Refusal := write1 h O.DG_POWER slice 1 s

/-- DG_POWER_OFF (R504): A write of 0 to DG_POWER powers a digitiser slice down. -/
def execDgPowerOff (h : Hdr) (slice : Nat) (s : State) : Host.Outcome State Fault Refusal := write1 h O.DG_POWER slice 0 s

/-- DIGITISER_READY (R504): A powered slice becomes READY 20 µs after power-up and synchronises its chain. -/
def execDigitiserReady (slice : Nat) (s : State) : Host.Outcome State Fault Refusal := run (fun e d => d.digiReady e slice) s

/-- DIGITISER_FAILED (R505): A slice not READY 100 µs after power-up reads FAILED and logs DEGRADE. -/
def execDigitiserFailed (slice : Nat) (s : State) : Host.Outcome State Fault Refusal :=
  run (fun e d => d.digiFailed e slice) s

/-- DG_PAIR_MODE (R508): A write of DG_PAIR_MODE interleaves or separates a pair at the next shot boundary. -/
def execDgPairMode (h : Hdr) (pair value : Nat) (s : State) : Host.Outcome State Fault Refusal :=
  write1 h O.DG_PAIR_MODE pair value s

/-- FILT_SWAP_REQ (R520): A write of FILT_SWAP_REQ starts a cross-fade to the other bank, or queues or applies the swap. -/
def execFiltSwapReq (h : Hdr) (chain value : Nat) (s : State) : Host.Outcome State Fault Refusal :=
  write1 h O.FILT_SWAP_REQ chain value s

/-- FILT_FADE_END (R520): After the last fade sample the target bank is in force and a pending swap may start. -/
def execFiltFadeEnd (chain : Nat) (s : State) : Host.Outcome State Fault Refusal := run (fun e d => d.fadeEnd e chain) s

/-- FILT_SYNC (R525): A write of FILT_SYNC synchronises each chain whose bit is set. -/
def execFiltSync (h : Hdr) (value : Nat) (s : State) : Host.Outcome State Fault Refusal := write1 h O.FILT_SYNC 0 value s

/-- FILT_FILL_DONE (R524): After N outputs following a SYNC the chain's outputs carry VALID. -/
def execFiltFillDone (chain : Nat) (s : State) : Host.Outcome State Fault Refusal := run (fun e d => d.fillDone e chain) s

/-- ACQ_RUN_START (R545): A write of 1 to ACQ_RUN starts acquisition in REARM or STREAM_ONLY. -/
def execAcqRunStart (h : Hdr) (s : State) : Host.Outcome State Fault Refusal := write1 h O.ACQ_RUN 0 1 s

/-- ACQ_RUN_STOP (R545): A write of 0 to ACQ_RUN stops acquisition and discards a capture in POST. -/
def execAcqRunStop (h : Hdr) (s : State) : Host.Outcome State Fault Refusal := write1 h O.ACQ_RUN 0 0 s

/-- ACQ_ARM (R545): A write of 1 to ACQ_ARM in DONE releases the capture and re-arms. -/
def execAcqArm (h : Hdr) (s : State) : Host.Outcome State Fault Refusal := write1 h O.ACQ_ARM 0 1 s

/-- ACQ_DUMP (R545): A write of 1 to ACQ_DUMP in DONE starts the dump of the capture. -/
def execAcqDump (h : Hdr) (s : State) : Host.Outcome State Fault Refusal := write1 h O.ACQ_DUMP 0 1 s

/-- ACQ_TRIG_FORCE (R533): A write of ACQ_TRIG_FORCE raises a host trigger. -/
def execAcqTrigForce (h : Hdr) (value : Nat) (s : State) : Host.Outcome State Fault Refusal :=
  write1 h O.ACQ_TRIG_FORCE 0 value s

/-- TRIG_IN_EDGE (R533): A deglitched rising edge of TRIG_IN raises an acquisition trigger and may trigger the Atlas trace. -/
def execTrigInEdge (s : State) : Host.Outcome State Fault Refusal := run (fun e d => (d.trigIn e).traceTrig e 1) s

/-- ACQ_LEVEL_CROSSING (R533): A VALID output of the level chain that crosses ACQ_LEVEL in the set direction raises a trigger.
-/
def execAcqLevelCrossing (y : LevelOut) (s : State) : Host.Outcome State Fault Refusal :=
  run (fun e d => d.trigLevel e y.index y.before y.sample) s

/-- ACQ_TRIGGER (R539): A trigger is taken in stamp order and starts a capture or is counted as missed. -/
def execAcqTrigger (s : State) : Host.Outcome State Fault Refusal := run (fun _ d => d.takeTrig) s

/-- ACQ_REARM_DONE (R545): The buffer pointers are reset and the snapshot enters FILLING or ARMED. -/
def execAcqRearmDone (s : State) : Host.Outcome State Fault Refusal := run (fun _ d => d.rearmDone) s

/-- ACQ_CAPTURE_DONE (R545): When POST records have been written the capture header is written and the snapshot is DONE. -/
def execAcqCaptureDone (s : State) : Host.Outcome State Fault Refusal := run (fun e d => d.captureDone e) s

/-- ACQ_DUMP_DONE (R549): The last byte of a dumped capture is sent, and the snapshot goes to DONE or REARM. -/
def execAcqDumpDone (s : State) : Host.Outcome State Fault Refusal := run (fun e d => d.dumpDone e) s

end Sys2Proof.Machine
end

