-- ==== Sys2Proof/Machine/Dispatch.lean ====
section
/-! DEFINITION. Each command and its meaning. -/

namespace Sys2Proof.Machine

/-- The effect of a command on everything but the queue. -/
def exec (i : Instr) (s : State) : Host.Outcome State Fault Refusal :=
  match i with
  | .read q => Sys2Proof.Machine.execRead q s
  | .readPend q => Sys2Proof.Machine.execReadPend q s
  | .readMeta q => Sys2Proof.Machine.execReadMeta q s
  | .write q => Sys2Proof.Machine.execWrite q s
  | .readBlock q => Sys2Proof.Machine.execReadBlock q s
  | .writeBlock q => Sys2Proof.Machine.execWriteBlock q s
  | .lock q => Sys2Proof.Machine.execLock q s
  | .commit q => Sys2Proof.Machine.execCommit q s
  | .abortLock q => Sys2Proof.Machine.execAbortLock q s
  | .subscribe q => Sys2Proof.Machine.execSubscribe q s
  | .gopBadOp op q => Sys2Proof.Machine.execGopBadOp op q s
  | .sesOpen q => Sys2Proof.Machine.execSesOpen q s
  | .canSegmentRx ctrl id payload => Sys2Proof.Machine.execCanSegmentRx ctrl id payload s
  | .canSegmentTimeout ctrl => Sys2Proof.Machine.execCanSegmentTimeout ctrl s
  | .canBusOff ctrl => Sys2Proof.Machine.execCanBusOff ctrl s
  | .canBusOffRecovery ctrl => Sys2Proof.Machine.execCanBusOffRecovery ctrl s
  | .spiRequestFrame mosi => Sys2Proof.Machine.execSpiRequestFrame mosi s
  | .spiPollFrame clocked => Sys2Proof.Machine.execSpiPollFrame clocked s
  | .spiCarrierFailure => Sys2Proof.Machine.execSpiCarrierFailure s
  | .gaernGopPacketRx before segment after => Sys2Proof.Machine.execGaernGopPacketRx before segment after s
  | .lockLeaseExpiry => Sys2Proof.Machine.execLockLeaseExpiry s
  | .tagStoreExpiry sess tag => Sys2Proof.Machine.execTagStoreExpiry sess tag s
  | .snapshotExpiry sess => Sys2Proof.Machine.execSnapshotExpiry sess s
  | .blockWriteTimeout sess => Sys2Proof.Machine.execBlockWriteTimeout sess s
  | .notifyPeriodic sess index element count => Sys2Proof.Machine.execNotifyPeriodic sess index element count s
  | .notifyChange sess index element count => Sys2Proof.Machine.execNotifyChange sess index element count s
  | .jqRunStart h => Sys2Proof.Machine.execJqRunStart h s
  | .jqStopNow h => Sys2Proof.Machine.execJqStopNow h s
  | .jqStopAfterFrame h => Sys2Proof.Machine.execJqStopAfterFrame h s
  | .entryDecode ecc => Sys2Proof.Machine.execEntryDecode ecc s
  | .wakeRequest group => Sys2Proof.Machine.execWakeRequest group s
  | .shotBoundary m => Sys2Proof.Machine.execShotBoundary m s
  | .fireCommit parity => Sys2Proof.Machine.execFireCommit parity s
  | .emission m => Sys2Proof.Machine.execEmission m s
  | .pulseOvercurrent p => Sys2Proof.Machine.execPulseOvercurrent p s
  | .lineBar line => Sys2Proof.Machine.execLineBar line s
  | .comparatorCrossing chan th rise k r sat => Sys2Proof.Machine.execComparatorCrossing chan th rise k r sat s
  | .mergeHoldExpiry chan th => Sys2Proof.Machine.execMergeHoldExpiry chan th s
  | .windowClose m => Sys2Proof.Machine.execWindowClose m s
  | .syncInEdge => Sys2Proof.Machine.execSyncInEdge s
  | .frameSyncMissed => Sys2Proof.Machine.execFrameSyncMissed s
  | .jqSwapRequest h => Sys2Proof.Machine.execJqSwapRequest h s
  | .jqSwapCancel h => Sys2Proof.Machine.execJqSwapCancel h s
  | .heldSwapExecute sess => Sys2Proof.Machine.execHeldSwapExecute sess s
  | .jqPatch h data => Sys2Proof.Machine.execJqPatch h data s
  | .histogramReadoutDone chan parity => Sys2Proof.Machine.execHistogramReadoutDone chan parity s
  | .shotHeaderPacketTimeout => Sys2Proof.Machine.execShotHeaderPacketTimeout s
  | .testPassStart => Sys2Proof.Machine.execTestPassStart s
  | .testPassEnd faults => Sys2Proof.Machine.execTestPassEnd faults s
  | .emTestStarved => Sys2Proof.Machine.execEmTestStarved s
  | .emBarClear h => Sys2Proof.Machine.execEmBarClear h s
  | .emTestReq h => Sys2Proof.Machine.execEmTestReq h s
  | .vhvAnodeWindowExit mv => Sys2Proof.Machine.execVhvAnodeWindowExit mv s
  | .vhvAnodeWindowReturn mv => Sys2Proof.Machine.execVhvAnodeWindowReturn mv s
  | .driverTsdTrip sensor => Sys2Proof.Machine.execDriverTsdTrip sensor s
  | .driverTsdRestart => Sys2Proof.Machine.execDriverTsdRestart s
  | .twillStringStart => Sys2Proof.Machine.execTwillStringStart s
  | .twillChainCheck string hold high => Sys2Proof.Machine.execTwillChainCheck string hold high s
  | .twillDisable => Sys2Proof.Machine.execTwillDisable s
  | .hmArm h => Sys2Proof.Machine.execHmArm h s
  | .hmDisarm h value => Sys2Proof.Machine.execHmDisarm h value s
  | .hmSelftestEnd passed => Sys2Proof.Machine.execHmSelftestEnd passed s
  | .emitEnLow => Sys2Proof.Machine.execEmitEnLow s
  | .emitEnHigh => Sys2Proof.Machine.execEmitEnHigh s
  | .fwHeartbeatStroke value => Sys2Proof.Machine.execFwHeartbeatStroke value s
  | .fwHeartbeatExpiry => Sys2Proof.Machine.execFwHeartbeatExpiry s
  | .hostHeartbeatExpiry => Sys2Proof.Machine.execHostHeartbeatExpiry s
  | .d2dLinkFault => Sys2Proof.Machine.execD2dLinkFault s
  | .hmConfigCompare upset => Sys2Proof.Machine.execHmConfigCompare upset s
  | .hmInject h value => Sys2Proof.Machine.execHmInject h value s
  | .bucketLeakStep bucket parity => Sys2Proof.Machine.execBucketLeakStep bucket parity s
  | .groupWakeDone group checkOk => Sys2Proof.Machine.execGroupWakeDone group checkOk s
  | .groupWakeFail group => Sys2Proof.Machine.execGroupWakeFail group s
  | .rxGroupRetry h group => Sys2Proof.Machine.execRxGroupRetry h group s
  | .rxSkipTakeover h group pos => Sys2Proof.Machine.execRxSkipTakeover h group pos s
  | .rxSkipReturn h group => Sys2Proof.Machine.execRxSkipReturn h group s
  | .rxRepair h group value => Sys2Proof.Machine.execRxRepair h group value s
  | .blankNFall lsb => Sys2Proof.Machine.execBlankNFall lsb s
  | .blankNRise lsb => Sys2Proof.Machine.execBlankNRise lsb s
  | .inputShortBias chan => Sys2Proof.Machine.execInputShortBias chan s
  | .darkRateWatch => Sys2Proof.Machine.execDarkRateWatch s
  | .rxBiasEnable h bias value => Sys2Proof.Machine.execRxBiasEnable h bias value s
  | .biasRampDone bias => Sys2Proof.Machine.execBiasRampDone bias s
  | .biasOvercurrentFault bias => Sys2Proof.Machine.execBiasOvercurrentFault bias s
  | .biasOvervoltageFault bias => Sys2Proof.Machine.execBiasOvervoltageFault bias s
  | .biasUndervoltageFault bias => Sys2Proof.Machine.execBiasUndervoltageFault bias s
  | .biasOpenWarn bias => Sys2Proof.Machine.execBiasOpenWarn bias s
  | .biasVhvLow => Sys2Proof.Machine.execBiasVhvLow s
  | .tdcStatStart h => Sys2Proof.Machine.execTdcStatStart h s
  | .tdcStatAbandon h => Sys2Proof.Machine.execTdcStatAbandon h s
  | .interpCalStall slice => Sys2Proof.Machine.execInterpCalStall slice s
  | .sliceInterpFaulty slice => Sys2Proof.Machine.execSliceInterpFaulty slice s
  | .emitStampLoss => Sys2Proof.Machine.execEmitStampLoss s
  | .echoClassify ecc => Sys2Proof.Machine.execEchoClassify ecc s
  | .ringBlockArrival block found => Sys2Proof.Machine.execRingBlockArrival block found s
  | .ringletSweep => Sys2Proof.Machine.execRingletSweep s
  | .rlReset h => Sys2Proof.Machine.execRlReset h s
  | .rlGeometry h value => Sys2Proof.Machine.execRlGeometry h value s
  | .ringletClearDone => Sys2Proof.Machine.execRingletClearDone s
  | .dgPowerOn h slice => Sys2Proof.Machine.execDgPowerOn h slice s
  | .dgPowerOff h slice => Sys2Proof.Machine.execDgPowerOff h slice s
  | .digitiserReady slice => Sys2Proof.Machine.execDigitiserReady slice s
  | .digitiserFailed slice => Sys2Proof.Machine.execDigitiserFailed slice s
  | .dgPairMode h pair value => Sys2Proof.Machine.execDgPairMode h pair value s
  | .filtSwapReq h chain value => Sys2Proof.Machine.execFiltSwapReq h chain value s
  | .filtFadeEnd chain => Sys2Proof.Machine.execFiltFadeEnd chain s
  | .filtSync h value => Sys2Proof.Machine.execFiltSync h value s
  | .filtFillDone chain => Sys2Proof.Machine.execFiltFillDone chain s
  | .acqRunStart h => Sys2Proof.Machine.execAcqRunStart h s
  | .acqRunStop h => Sys2Proof.Machine.execAcqRunStop h s
  | .acqArm h => Sys2Proof.Machine.execAcqArm h s
  | .acqDump h => Sys2Proof.Machine.execAcqDump h s
  | .acqTrigForce h value => Sys2Proof.Machine.execAcqTrigForce h value s
  | .trigInEdge => Sys2Proof.Machine.execTrigInEdge s
  | .acqLevelCrossing y => Sys2Proof.Machine.execAcqLevelCrossing y s
  | .acqTrigger => Sys2Proof.Machine.execAcqTrigger s
  | .acqRearmDone => Sys2Proof.Machine.execAcqRearmDone s
  | .acqCaptureDone => Sys2Proof.Machine.execAcqCaptureDone s
  | .acqDumpDone => Sys2Proof.Machine.execAcqDumpDone s
  | .calPassStart group => Sys2Proof.Machine.execCalPassStart group s
  | .calSliceDone group m => Sys2Proof.Machine.execCalSliceDone group m s
  | .calGapChunk group ns => Sys2Proof.Machine.execCalGapChunk group ns s
  | .calGroupReq h group => Sys2Proof.Machine.execCalGroupReq h group s
  | .calAgeDue group => Sys2Proof.Machine.execCalAgeDue group s
  | .inputCheck chan capPf respPct loPct hiPct => Sys2Proof.Machine.execInputCheck chan capPf respPct loPct hiPct s
  | .calSave h => Sys2Proof.Machine.execCalSave h s
  | .calFlashPeriod => Sys2Proof.Machine.execCalFlashPeriod s
  | .calFactoryStore h block data => Sys2Proof.Machine.execCalFactoryStore h block data s
  | .calRestoreFactory h => Sys2Proof.Machine.execCalRestoreFactory h s
  | .biasMonitorCompare readings => Sys2Proof.Machine.execBiasMonitorCompare readings s
  | .digitiserCalibration slice temp vals gain timing offset => Sys2Proof.Machine.execDigitiserCalibration slice temp vals gain timing offset s
  | .bridgeBlockEnd m => Sys2Proof.Machine.execBridgeBlockEnd m s
  | .bridgeFaultDeclared chan => Sys2Proof.Machine.execBridgeFaultDeclared chan s
  | .bridgeFaultEnd chan => Sys2Proof.Machine.execBridgeFaultEnd chan s
  | .bridgeResult chan x => Sys2Proof.Machine.execBridgeResult chan x s
  | .loopSample slot current => Sys2Proof.Machine.execLoopSample slot current s
  | .coilOvercurrent coil => Sys2Proof.Machine.execCoilOvercurrent coil s
  | .coilOpen coil => Sys2Proof.Machine.execCoilOpen coil s
  | .coilCompliance coil reached => Sys2Proof.Machine.execCoilCompliance coil reached s
  | .atlModeOff h slot => Sys2Proof.Machine.execAtlModeOff h slot s
  | .atlModeManual h slot => Sys2Proof.Machine.execAtlModeManual h slot s
  | .atlModeClosed h slot => Sys2Proof.Machine.execAtlModeClosed h slot s
  | .atlModeModelHold h slot => Sys2Proof.Machine.execAtlModeModelHold h slot s
  | .atlOffRampDone slot => Sys2Proof.Machine.execAtlOffRampDone slot s
  | .pdPublish chan value sat => Sys2Proof.Machine.execPdPublish chan value sat s
  | .pdRange h chan value => Sys2Proof.Machine.execPdRange h chan value s
  | .pdStaleEnd chan => Sys2Proof.Machine.execPdStaleEnd chan s
  | .pdSatHold chan => Sys2Proof.Machine.execPdSatHold chan s
  | .atlTrArm h => Sys2Proof.Machine.execAtlTrArm h s
  | .atlTrTrigger h => Sys2Proof.Machine.execAtlTrTrigger h s
  | .traceFreeze => Sys2Proof.Machine.execTraceFreeze s
  | .atlInjStart h slot => Sys2Proof.Machine.execAtlInjStart h slot s
  | .atlInjStop h slot => Sys2Proof.Machine.execAtlInjStop h slot s
  | .tapHostWrite h block data => Sys2Proof.Machine.execTapHostWrite h block data s
  | .tapFill h element value => Sys2Proof.Machine.execTapFill h element value s
  | .tapFillDone => Sys2Proof.Machine.execTapFillDone s
  | .scanOutStart raster => Sys2Proof.Machine.execScanOutStart raster s
  | .tapestryLineSend bad => Sys2Proof.Machine.execTapestryLineSend bad s
  | .lineUnderrun m => Sys2Proof.Machine.execLineUnderrun m s
  | .rasterRetire => Sys2Proof.Machine.execRasterRetire s
  | .txSegmentStart => Sys2Proof.Machine.execTxSegmentStart s
  | .alignmentColumn => Sys2Proof.Machine.execAlignmentColumn s
  | .creditOnlyPacket => Sys2Proof.Machine.execCreditOnlyPacket s
  | .tsMarkerTx frac => Sys2Proof.Machine.execTsMarkerTx frac s
  | .tsMarkerRx frac => Sys2Proof.Machine.execTsMarkerRx frac s
  | .delayReqRx before segment after => Sys2Proof.Machine.execDelayReqRx before segment after s
  | .tsExchangeTimeout => Sys2Proof.Machine.execTsExchangeTimeout s
  | .laneLocked lane groups ctle => Sys2Proof.Machine.execLaneLocked lane groups ctle s
  | .laneAligned lane => Sys2Proof.Machine.execLaneAligned lane s
  | .alignedTimeout => Sys2Proof.Machine.execAlignedTimeout s
  | .trainExit hostTx hostRx => Sys2Proof.Machine.execTrainExit hostTx hostRx s
  | .trainTimeoutNotify => Sys2Proof.Machine.execTrainTimeoutNotify s
  | .laneLoss lane loss => Sys2Proof.Machine.execLaneLoss lane loss s
  | .hostLossAnnouncement txMask rxMask => Sys2Proof.Machine.execHostLossAnnouncement txMask rxMask s
  | .retrainRequest => Sys2Proof.Machine.execRetrainRequest s
  | .linkRetrain h => Sys2Proof.Machine.execLinkRetrain h s
  | .linkEnable h => Sys2Proof.Machine.execLinkEnable h s
  | .linkDisable h => Sys2Proof.Machine.execLinkDisable h s
  | .prbsGen h lane value => Sys2Proof.Machine.execPrbsGen h lane value s
  | .prbsChk h lane value => Sys2Proof.Machine.execPrbsChk h lane value s
  | .prbsSyncGain lane => Sys2Proof.Machine.execPrbsSyncGain lane s
  | .prbsSyncLoss lane errs => Sys2Proof.Machine.execPrbsSyncLoss lane errs s
  | .injGoStart h lane => Sys2Proof.Machine.execInjGoStart h lane s
  | .injGoStop h lane => Sys2Proof.Machine.execInjGoStop h lane s
  | .injPeriodic lane => Sys2Proof.Machine.execInjPeriodic lane s
  | .memTrainingDone ok0 ok1 => Sys2Proof.Machine.execMemTrainingDone ok0 ok1 s
  | .memRetrain h => Sys2Proof.Machine.execMemRetrain h s
  | .memTracking chan temp edge => Sys2Proof.Machine.execMemTracking chan temp edge s
  | .memRefresh chan bank => Sys2Proof.Machine.execMemRefresh chan bank s
  | .memReadEdcError requester addr repeats => Sys2Proof.Machine.execMemReadEdcError requester addr repeats s
  | .memWriteEdcError requester addr repeats => Sys2Proof.Machine.execMemWriteEdcError requester addr repeats s
  | .memCaError requester addr repeats read => Sys2Proof.Machine.execMemCaError requester addr repeats read s
  | .arbHandover port own => Sys2Proof.Machine.execArbHandover port own s
  | .requestPromotion port requester => Sys2Proof.Machine.execRequestPromotion port requester s
  | .memPeek h block => Sys2Proof.Machine.execMemPeek h block s
  | .hkRepeatStart => Sys2Proof.Machine.execHkRepeatStart s
  | .hkConversionDone adc code => Sys2Proof.Machine.execHkConversionDone adc code s
  | .thermalRound sensor => Sys2Proof.Machine.execThermalRound sensor s
  | .hmVhvCheck => Sys2Proof.Machine.execHmVhvCheck s
  | .hkNow h element count codes => Sys2Proof.Machine.execHkNow h element count codes s
  | .hkRunStop h => Sys2Proof.Machine.execHkRunStop h s
  | .hkRunStart h => Sys2Proof.Machine.execHkRunStart h s
  | .thermalShutdownTrip sensor => Sys2Proof.Machine.execThermalShutdownTrip sensor s
  | .thermalAutoRestart => Sys2Proof.Machine.execThermalAutoRestart s
  | .powerOnReset => Sys2Proof.Machine.execPowerOnReset s
  | .resetNLow => Sys2Proof.Machine.execResetNLow s
  | .rstReq h => Sys2Proof.Machine.execRstReq h s
  | .supervisorReset cause core => Sys2Proof.Machine.execSupervisorReset cause core s
  | .clockLoss => Sys2Proof.Machine.execClockLoss s
  | .railsInRange => Sys2Proof.Machine.execRailsInRange s
  | .fuseLoadDone => Sys2Proof.Machine.execFuseLoadDone s
  | .refQualified => Sys2Proof.Machine.execRefQualified s
  | .fwSlotChecked slot => Sys2Proof.Machine.execFwSlotChecked slot s
  | .bootConfigEntry => Sys2Proof.Machine.execBootConfigEntry s
  | .linkPhaseEnd => Sys2Proof.Machine.execLinkPhaseEnd s
  | .startupCalibrationDone => Sys2Proof.Machine.execStartupCalibrationDone s
  | .vhvReverse mv => Sys2Proof.Machine.execVhvReverse mv s
  | .vhvUndervoltage mv => Sys2Proof.Machine.execVhvUndervoltage mv s
  | .vhvOvervoltage mv => Sys2Proof.Machine.execVhvOvervoltage mv s
  | .vhvRecovery mv => Sys2Proof.Machine.execVhvRecovery mv s
  | .powerDomainRampDone domain => Sys2Proof.Machine.execPowerDomainRampDone domain s
  | .powerDomainFault domain => Sys2Proof.Machine.execPowerDomainFault domain s
  | .slowCrystalFail => Sys2Proof.Machine.execSlowCrystalFail s
  | .pwrPark h => Sys2Proof.Machine.execPwrPark h s
  | .parkEntryDone => Sys2Proof.Machine.execParkEntryDone s
  | .canWake => Sys2Proof.Machine.execCanWake s
  | .gpioWake pin rising => Sys2Proof.Machine.execGpioWake pin rising s
  | .wakeTimer => Sys2Proof.Machine.execWakeTimer s
  | .vhvWake => Sys2Proof.Machine.execVhvWake s
  | .fwSlotErase h slot => Sys2Proof.Machine.execFwSlotErase h slot s
  | .fwEraseDone slot => Sys2Proof.Machine.execFwEraseDone slot s
  | .fwSlotImage h slot block data => Sys2Proof.Machine.execFwSlotImage h slot block data s
  | .faultLogBatchWrite => Sys2Proof.Machine.execFaultLogBatchWrite s
  | .fltAck h value => Sys2Proof.Machine.execFltAck h value s
  | .fltClear h => Sys2Proof.Machine.execFltClear h s
  | .feedbackMissing slot => Sys2Proof.Machine.execFeedbackMissing slot s
  | .biasCurrentLimit bias enter => Sys2Proof.Machine.execBiasCurrentLimit bias enter s
  | .biasVhvRecovery => Sys2Proof.Machine.execBiasVhvRecovery s
  | .memCaRetrainDone chan ok => Sys2Proof.Machine.execMemCaRetrainDone chan ok s
  | .calFlashWriteDone => Sys2Proof.Machine.execCalFlashWriteDone s
  | .selfRefreshExit => Sys2Proof.Machine.execSelfRefreshExit s

end Sys2Proof.Machine
end

