-- ==== Sys2Proof/Machine/Flags.lean ====
section
/-! DEFINITION. The block's status outputs as the state gives them at any moment: balls and analog levels that follow
the state, not a command. -/

namespace Sys2Proof.Machine

/-- The level of FAULT_N (R877, R905): low outside READY and while an entry of class INHIBIT or higher is unacknowledged. -/
def Dev.pinFaultN (d : Dev) : Bool := !d.faultLow

/-- The request line of R108 is driven low: a GPIO serves it and a message waits for the SPI session. -/
def Dev.pinSpiIrqLow (d : Dev) : Bool := d.o O.SPI_IRQ_GPIO != 0xFF && (d.sess 2).outq != []

/-- What the device does with a GPIO ball. -/
inductive GpioPin where
  /-- An input, with or without the pull-down of R876. -/
  | input (pullDown : Bool)
  /-- Driven low, the pull-down disconnected. -/
  | low
  deriving DecidableEq, Repr

/-- A GPIO as the request line of R108 leaves it: open drain without pull-down while SPI_IRQ_GPIO names it, else an input with its
pull-down. The pair of a slot's PWM is `Dev.pwmPins`. -/
def Dev.gpioPin (d : Dev) (g : Nat) : GpioPin :=
  if d.o O.SPI_IRQ_GPIO != g then .input true else if (d.sess 2).outq != [] then .low else .input false

/-- The level of PWR_EN (R876, R895, R900). -/
def Dev.pinPwrEn (d : Dev) : Bool := d.pwr.pwrEn

/-- The anode switches that are closed (R226, R239, R240). -/
def Dev.anodeSwitches (d : Dev) : Nat := d.em.closed

/-- The inhibit path is asserted (R956, R280). -/
def Dev.inhibitPath (d : Dev) : Bool := d.inhibited

/-- A coil's PWM pair: duty and sign (R613). -/
def Dev.pinPwm (d : Dev) (slot : Nat) : Nat × Bool := d.pwmOut slot

/-- The GPIOs of a slot's PWM pair: duty, then sign (R613). -/
def Dev.pwmPins (d : Dev) (slot : Nat) : Nat × Nat := (d.o O.ATL_PWM_GPIO slot, d.o O.ATL_PWM_GPIO slot + 1)

/-- A Gaern lane whose P and N balls are swapped (R690). -/
def Dev.laneSwapped (d : Dev) (lane : Nat) : Bool := d.ob O.LANE_POLARITY lane

/-- The differential level between the P and N balls of a transmit lane in mV while it sends bit b_n between b_(n−1) and b_(n+1), by the
swing and taps in force, the balls swapped under LANE_POLARITY (R687, R689, R690). -/
def Dev.txLevel (d : Dev) (lane : Nat) (before now after : Bool) : Rat :=
  let x := (d.link.taps[lane]?).getD (800, 0, 12)
  let pm := fun (b : Bool) => if b then (1 : Rat) else -1
  let pre := (x.2.1 : Rat) / 64
  let post := (x.2.2 : Rat) / 64
  (if d.laneSwapped lane then -1 else 1) * (x.1 : Rat) / 2 * ((1 - pre - post) * pm now - pre * pm after - post * pm before)

/-- The line bits on the balls of a lane that sends a raw sequence, the first `n` from its start (R690, R747). -/
def Dev.rawBits (d : Dev) (lane n : Nat) : List Bool := (prbsBits (d.o O.PRBS_GEN lane) n).map (fun b => b != d.laneSwapped lane)

/-- The loaded code of comparator `th` of a channel (R303). -/
def Dev.loadedCode (d : Dev) (ch th : Nat) : Nat := bits (d.o O.RX_TH_LOADED ch) (10 * th) 10

/-- The level in 0.5 mV above which a comparator switches high; `near` says that the near-field gate is open (R315, R363). -/
def Dev.riseLevel (d : Dev) (ch th : Nat) (near : Bool) : Nat :=
  if near && d.o O.RX_NF_MODE == 1 then min 1023 (d.loadedCode ch th + d.o O.RX_NF_TH_OFFSET) else d.loadedCode ch th

/-- The level in 0.5 mV below which it switches low: the natural difference ends at 0 (R363). -/
def Dev.fallLevel (d : Dev) (ch th : Nat) (near : Bool) : Nat := d.riseLevel ch th near - d.o O.TDC_HYST th

end Sys2Proof.Machine
end

