-- ==== Sys2Proof/WellFormed.lean ====
section
/-! DEFINITION. Which commands are well formed: every operand within the range of what it names (a session, a channel, a slice,
a field of a message). The meanings are total; a command that is not well formed names nothing the block has. -/

namespace Sys2Proof

/-- The operands of a request header with their bounds (Tables 02-2 and 02-7). -/
def Hdr.bounds (h : Hdr) : List (Nat × Nat) := [(h.sess, 4), (h.epoch, 4), (h.seq, 64)]

/-- The fields of a request with their bounds (Table 02-2, R86): a message holds at most 1,040 bytes. -/
def Req.bounds (q : Req) : List (Nat × Nat) :=
  [(q.sess, 4), (q.epoch, 4), (q.seq, 64), (q.index, 65536), (q.element, 4096), (q.count, 65536), (q.data.length, 1033), (q.rsv, 32)]

/-- Received columns: one command lists fewer than 4,096, of groups of ten bits. -/
def rxRanges (rx : List RxCol) : List (Nat × Nat) := (rx.length, 4096) :: rx.flatMap (fun c => c.groups.map (fun g => (g, 1024)))

/-- The operands of a command that are numbers, each with its bound. -/
def Instr.bounds : Instr → List (Nat × Nat)
  | .read q => q.bounds
  | .readPend q => q.bounds
  | .readMeta q => q.bounds
  | .write q => q.bounds
  | .readBlock q => q.bounds
  | .writeBlock q => q.bounds
  | .lock q => q.bounds
  | .commit q => q.bounds
  | .abortLock q => q.bounds
  | .subscribe q => q.bounds
  | .gopBadOp op q => q.bounds ++ [(op, 16)]
  | .sesOpen q => q.bounds
  | .canSegmentRx ctrl id payload => [(ctrl, 2), (id.num, 2 ^ 29), (payload.length, 65)]
  | .canSegmentTimeout ctrl => [(ctrl, 2)]
  | .canBusOff ctrl => [(ctrl, 2)]
  | .canBusOffRecovery ctrl => [(ctrl, 2)]
  | .spiRequestFrame mosi => [(mosi.length, 1046)]
  | .spiPollFrame clocked => [(clocked, 1045)]
  | .spiCarrierFailure => []
  | .gaernGopPacketRx before segment after => rxRanges (before ++ segment ++ after)
  | .lockLeaseExpiry => []
  | .tagStoreExpiry sess tag => [(sess, 4), (tag, 256)]
  | .snapshotExpiry sess => [(sess, 4)]
  | .blockWriteTimeout sess => [(sess, 4)]
  | .notifyPeriodic sess index element count => [(sess, 4), (index, 65536), (element, 4096), (count, 65536)]
  | .notifyChange sess index element count => [(sess, 4), (index, 65536), (element, 4096), (count, 65536)]
  | .jqRunStart h => h.bounds
  | .jqStopNow h => h.bounds
  | .jqStopAfterFrame h => h.bounds
  | .entryDecode ecc => [(ecc, 3)]
  | .wakeRequest group => [(group, 32)]
  | .shotBoundary _ => []
  | .fireCommit _ => []
  | .emission _ => []
  | .pulseOvercurrent p => [(p.line, 8), (p.peak, 65536)]
  | .lineBar line => [(line, 8)]
  | .comparatorCrossing chan th _ k r _ => [(chan, 512), (th, 3), (k, 16384), (r, 64)]
  | .mergeHoldExpiry chan th => [(chan, 512), (th, 3)]
  | .windowClose _ => []
  | .syncInEdge => []
  | .frameSyncMissed => []
  | .jqSwapRequest h => h.bounds
  | .jqSwapCancel h => h.bounds
  | .heldSwapExecute sess => [(sess, 4)]
  | .jqPatch h data => h.bounds ++ [(data.length, 1033)]
  | .histogramReadoutDone chan _ => [(chan, 512)]
  | .shotHeaderPacketTimeout => []
  | .testPassStart => []
  | .testPassEnd _ => []
  | .emTestStarved => []
  | .emBarClear h => h.bounds
  | .emTestReq h => h.bounds
  | .vhvAnodeWindowExit _ => []
  | .vhvAnodeWindowReturn _ => []
  | .driverTsdTrip sensor => [(sensor, 16)]
  | .driverTsdRestart => []
  | .twillStringStart => []
  | .twillChainCheck string hold high => (string ++ hold ++ high.toList).map (·, 65536)
  | .twillDisable => []
  | .hmArm h => h.bounds
  | .hmDisarm h value => h.bounds ++ [(value, 256)]
  | .hmSelftestEnd _ => []
  | .emitEnLow => []
  | .emitEnHigh => []
  | .fwHeartbeatStroke value => [(value, 2)]
  | .fwHeartbeatExpiry => []
  | .hostHeartbeatExpiry => []
  | .d2dLinkFault => []
  | .hmConfigCompare _ => []
  | .hmInject h value => h.bounds ++ [(value, 2 ^ 32)]
  | .bucketLeakStep bucket _ => [(bucket, 3)]
  | .groupWakeDone group _ => [(group, 32)]
  | .groupWakeFail group => [(group, 32)]
  | .rxGroupRetry h group => h.bounds ++ [(group, 32)]
  | .rxSkipTakeover h group pos => h.bounds ++ [(group, 32), (pos, 16)]
  | .rxSkipReturn h group => h.bounds ++ [(group, 32)]
  | .rxRepair h group value => h.bounds ++ [(group, 32), (value, 256)]
  | .blankNFall lsb => [(lsb, 64)]
  | .blankNRise lsb => [(lsb, 64)]
  | .inputShortBias chan => [(chan, 512)]
  | .darkRateWatch => []
  | .rxBiasEnable h bias value => h.bounds ++ [(bias, 8), (value, 256)]
  | .biasRampDone bias => [(bias, 8)]
  | .biasOvercurrentFault bias => [(bias, 8)]
  | .biasOvervoltageFault bias => [(bias, 8)]
  | .biasUndervoltageFault bias => [(bias, 8)]
  | .biasOpenWarn bias => [(bias, 8)]
  | .biasVhvLow => []
  | .tdcStatStart h => h.bounds
  | .tdcStatAbandon h => h.bounds
  | .interpCalStall slice => [(slice, 544)]
  | .sliceInterpFaulty slice => [(slice, 544)]
  | .emitStampLoss => []
  | .echoClassify _ => []
  | .ringBlockArrival block _ => [(block, 16384)]
  | .ringletSweep => []
  | .rlReset h => h.bounds
  | .rlGeometry h value => h.bounds ++ [(value, 256)]
  | .ringletClearDone => []
  | .dgPowerOn h slice => h.bounds ++ [(slice, 32)]
  | .dgPowerOff h slice => h.bounds ++ [(slice, 32)]
  | .digitiserReady slice => [(slice, 32)]
  | .digitiserFailed slice => [(slice, 32)]
  | .dgPairMode h pair value => h.bounds ++ [(pair, 16), (value, 256)]
  | .filtSwapReq h chain value => h.bounds ++ [(chain, 32), (value, 256)]
  | .filtFadeEnd chain => [(chain, 32)]
  | .filtSync h value => h.bounds ++ [(value, 2 ^ 32)]
  | .filtFillDone chain => [(chain, 32)]
  | .acqRunStart h => h.bounds
  | .acqRunStop h => h.bounds
  | .acqArm h => h.bounds
  | .acqDump h => h.bounds
  | .acqTrigForce h value => h.bounds ++ [(value, 256)]
  | .trigInEdge => []
  | .acqLevelCrossing _ => []
  | .acqTrigger => []
  | .acqRearmDone => []
  | .acqCaptureDone => []
  | .acqDumpDone => []
  | .calPassStart group => [(group, 32)]
  | .calSliceDone group _ => [(group, 32)]
  | .calGapChunk group ns => [(group, 32), (ns, 32001)]
  | .calGroupReq h group => h.bounds ++ [(group, 32)]
  | .calAgeDue group => [(group, 32)]
  | .inputCheck chan capPf respPct loPct hiPct => [(chan, 512), (capPf, 65536), (respPct, 65536), (loPct, 65536), (hiPct, 65536)]
  | .calSave h => h.bounds
  | .calFlashPeriod => []
  | .calFactoryStore h block data => h.bounds ++ [(block, 2 ^ 17), (data.length, 1033)]
  | .calRestoreFactory h => h.bounds
  | .biasMonitorCompare _ => []
  | .digitiserCalibration slice _ _ gain timing offset => [(slice, 32), (gain, 65536), (timing, 65536), (offset, 65536)]
  | .bridgeBlockEnd _ => []
  | .bridgeFaultDeclared chan => [(chan, 8)]
  | .bridgeFaultEnd chan => [(chan, 8)]
  | .bridgeResult chan _ => [(chan, 8)]
  | .loopSample slot _ => [(slot, 4)]
  | .coilOvercurrent coil => [(coil, 2)]
  | .coilOpen coil => [(coil, 2)]
  | .coilCompliance coil _ => [(coil, 2)]
  | .atlModeOff h slot => h.bounds ++ [(slot, 4)]
  | .atlModeManual h slot => h.bounds ++ [(slot, 4)]
  | .atlModeClosed h slot => h.bounds ++ [(slot, 4)]
  | .atlModeModelHold h slot => h.bounds ++ [(slot, 4)]
  | .atlOffRampDone slot => [(slot, 4)]
  | .pdPublish chan value _ => [(chan, 4), (value, 2 ^ 32)]
  | .pdRange h chan value => h.bounds ++ [(chan, 4), (value, 256)]
  | .pdStaleEnd chan => [(chan, 4)]
  | .pdSatHold chan => [(chan, 4)]
  | .atlTrArm h => h.bounds
  | .atlTrTrigger h => h.bounds
  | .traceFreeze => []
  | .atlInjStart h slot => h.bounds ++ [(slot, 4)]
  | .atlInjStop h slot => h.bounds ++ [(slot, 4)]
  | .tapHostWrite h block data => h.bounds ++ [(block, 2 ^ 17), (data.length, 1033)]
  | .tapFill h element value => h.bounds ++ [(element, 4096), (value, 2 ^ 64)]
  | .tapFillDone => []
  | .scanOutStart raster => [(raster, 2 ^ 32)]
  | .tapestryLineSend _ => []
  | .lineUnderrun _ => []
  | .rasterRetire => []
  | .txSegmentStart => []
  | .alignmentColumn => []
  | .creditOnlyPacket => []
  | .tsMarkerTx frac => [(frac, 65536)]
  | .tsMarkerRx frac => [(frac, 65536)]
  | .delayReqRx before segment after => rxRanges (before ++ segment ++ after)
  | .tsExchangeTimeout => []
  | .laneLocked lane groups ctle => [(lane, 10), (ctle, 16)] ++ groups.map (fun g => (g, 1024))
  | .laneAligned lane => [(lane, 10)]
  | .alignedTimeout => []
  | .trainExit hostTx hostRx => [(hostTx, 256), (hostRx, 256)]
  | .trainTimeoutNotify => []
  | .laneLoss lane loss => [(lane, 10), (loss.cause, 6)] ++ rxRanges loss.rx
  | .hostLossAnnouncement txMask rxMask => [(txMask, 256), (rxMask, 256)]
  | .retrainRequest => []
  | .linkRetrain h => h.bounds
  | .linkEnable h => h.bounds
  | .linkDisable h => h.bounds
  | .prbsGen h lane value => h.bounds ++ [(lane, 8), (value, 256)]
  | .prbsChk h lane value => h.bounds ++ [(lane, 10), (value, 256)]
  | .prbsSyncGain lane => [(lane, 10)]
  | .prbsSyncLoss lane errs => [(lane, 10), (errs, 1025)]
  | .injGoStart h lane => h.bounds ++ [(lane, 8)]
  | .injGoStop h lane => h.bounds ++ [(lane, 8)]
  | .injPeriodic lane => [(lane, 8)]
  | .memTrainingDone _ _ => []
  | .memRetrain h => h.bounds
  | .memTracking chan _ _ => [(chan, 8)]
  | .memRefresh chan bank => [(chan, 8), (bank, 16)]
  | .memReadEdcError requester addr repeats => [(requester, 16), (addr, 2 ^ 33), (repeats, 5)]
  | .memWriteEdcError requester addr repeats => [(requester, 16), (addr, 2 ^ 33), (repeats, 5)]
  | .memCaError requester addr repeats _ => [(requester, 16), (addr, 2 ^ 33), (repeats, 5)]
  | .arbHandover port _ => [(port, 4)]
  | .requestPromotion port requester => [(port, 4), (requester, 16)]
  | .memPeek h block => h.bounds ++ [(block, 2 ^ 17)]
  | .hkRepeatStart => []
  | .hkConversionDone adc _ => [(adc, 2)]
  | .thermalRound sensor => [(sensor, 16)]
  | .hmVhvCheck => []
  | .hkNow h element count _ => h.bounds ++ [(element, 4096), (count, 65536)]
  | .hkRunStop h => h.bounds
  | .hkRunStart h => h.bounds
  | .thermalShutdownTrip sensor => [(sensor, 16)]
  | .thermalAutoRestart => []
  | .powerOnReset => []
  | .resetNLow => []
  | .rstReq h => h.bounds
  | .supervisorReset cause core => [(cause, 3), (core, 4)]
  | .clockLoss => []
  | .railsInRange => []
  | .fuseLoadDone => []
  | .refQualified => []
  | .fwSlotChecked slot => [(slot, 2)]
  | .bootConfigEntry => []
  | .linkPhaseEnd => []
  | .startupCalibrationDone => []
  | .vhvReverse _ => []
  | .vhvUndervoltage _ => []
  | .vhvOvervoltage _ => []
  | .vhvRecovery _ => []
  | .powerDomainRampDone domain => [(domain, 96)]
  | .powerDomainFault domain => [(domain, 96)]
  | .slowCrystalFail => []
  | .pwrPark h => h.bounds
  | .parkEntryDone => []
  | .canWake => []
  | .gpioWake pin _ => [(pin, 4)]
  | .wakeTimer => []
  | .vhvWake => []
  | .fwSlotErase h slot => h.bounds ++ [(slot, 2)]
  | .fwEraseDone slot => [(slot, 2)]
  | .fwSlotImage h slot block data => h.bounds ++ [(slot, 2), (block, 2 ^ 17), (data.length, 1033)]
  | .faultLogBatchWrite => []
  | .fltAck h value => h.bounds ++ [(value, 2 ^ 32)]
  | .fltClear h => h.bounds
  | .feedbackMissing slot => [(slot, 4)]
  | .biasCurrentLimit bias _ => [(bias, 8)]
  | .biasVhvRecovery => []
  | .memCaRetrainDone chan _ => [(chan, 8)]
  | .calFlashWriteDone => []
  | .selfRefreshExit => []

/-- A command is well formed: every operand lies below its bound. -/
def Instr.wf (i : Instr) : Bool := i.bounds.all (fun p => p.1 < p.2)

end Sys2Proof
end

