-- ==== Sys2Proof/Safety.lean ====
section
/-! DEFINITION. What the statements about the block are said in: what a command leads to, runs, the invariants that every step
keeps, and the conditions under which a request of a session executes and a write is accepted. -/

namespace Sys2Proof.Machine

/-- A run of `k` steps that never stops. -/
def SafeRun (k : Nat) (s : State) : Prop := ∃ t, Sys2Proof.core.run k s = .next t

/-- The command completes with a next state of which `P` holds. -/
def Leads (c : Instr) (s : State) (P : State → Prop) : Prop := ∃ t, exec c s = .next t ∧ P t

/-- Nothing of its own falls due by the present instant, ahead of a command: no line boundary (R44), no report of a loop sample
(R37), no synchronisation of filter chains (R525), no dark gate that waited for masked spans (R320). -/
def State.Still (s : State) : Prop :=
  (∀ t ∈ s.dev.jq.lineDue, 2 * s.clock.time + 1 < t) ∧
    (∀ k < 4, ∀ p ∈ (s.dev.slot k).due, s.clock.time < p.time + 600) ∧
    (∀ p ∈ s.dev.acq.syncs, 2 * s.clock.time + 1 < p.2) ∧
    (∀ x ∈ s.dev.rx.darkLate, 2 * s.clock.time + 1 < x.due)

/-- Nothing falls due ahead of a command or waits for its end: Jacquard has not just reached STOPPED, and no software reset is
due. -/
def State.Quiet (s : State) : Prop := s.dev.jq.settle = false ∧ s.dev.pwr.rstDue = none ∧ s.Still

/-- The device as a request of session `n` finds it: what the last command sent is gone, the host heartbeat and the lease of the
session's lock are renewed (R125, R276), and a request of the GAERN carrier owes its credit (R714). -/
def State.atRequest (s : State) (n : Nat) : Dev := (Dev.arrived s.env { s.dev with sent := [] } n).creditDue n

/-- The device as the fire commit of a shot finds it: every bucket at its present level and Hawkmoth's conditions evaluated (R37,
R284). -/
def State.atFireCommit (s : State) (parity : List Nat) : Dev :=
  Dev.hmEval s.env (Dev.bucketsNow s.env { s.dev with sent := [] } parity)

/-- The charges of the shot in flight on the bucket sets it fires (R282). -/
def Dev.flightCharges (d : Dev) (f : Flight) : List (Nat × Nat) :=
  d.charges (d.effAn (entAn f.shot.ent)) (d.effKd (entKd f.shot.ent)) (entLevel f.shot.ent)
    (codeSum (d.o O.EM_CODE (entCode f.shot.ent)))

/-- A shot in flight that the fire commit lets through, with the lines and cathodes that are not barred (R281). -/
def Flight.passed (d : Dev) (f : Flight) : Flight :=
  { f with an := d.effAn (entAn f.shot.ent), kd := d.effKd (entKd f.shot.ent), committed := true, fires := true }

/-- A request of a header to object `idx` executes at once: its session is served, nothing of the session waits before it, its
epoch is current, its tag is not that of a request of the last 100 ms, no frame decision holds requests back, and nothing falls due
ahead of it (R93, R116, R118, R119, R207, R892). -/
def Served (s : State) (h : Hdr) (idx : Nat) : Prop :=
  h.sess < 4 ∧ s.dev.ses.length = 5 ∧ s.dev.serves h.sess = true ∧ s.dev.serviceAbort h.sess idx = none ∧
    (s.dev.sess h.sess).held = none ∧ (s.dev.sess h.sess).queue = [] ∧ h.epoch % 4 = s.dev.o O.SES_EPOCH h.sess ∧
    (∀ x ∈ (s.dev.sess h.sess).stored, reqTag x.msg.req = h.epoch % 4 * 64 + h.seq % 64 → x.time + 150000000 ≤ s.clock.time) ∧
    s.dev.frameDecided = false ∧ s.Still

/-- The row of an object. -/
def rowOr (idx : Nat) : ObjRow := (rowOf? idx).getD ⟨idx, [], .u8, .const, .now, false, 0, [], 0, 0⟩

/-- A fault with a code and class, stamped now, has come to the logger, unless it had no room (R903, R912). -/
def Logged (s t : State) (code cls : Nat) : Prop :=
  s.dev.flt.held.length < 60 → ∃ en ∈ t.dev.flt.held, en.time = s.clock.time ∧ en.code = code ∧ en.cls = cls

/-- A reset of kind `k` that is no power-on reset has come: its cause and count are recorded, the other always-on objects and the
flash stay, every other object is at its default but for those that the part, VHV or the start sets, nothing of Jacquard is left,
and GDDR7 is lost unless the start is warm (R872, R873, Table 17-5). -/
def ResetTo (s t : State) (k : Nat) : Prop :=
  t.dev.o O.RST_CAUSE = k ∧ t.dev.o O.RST_COUNT k = ctrAdd O.RST_COUNT k (s.dev.o O.RST_COUNT k) 1 ∧
    (∀ i el, el < 4096 → i ∈ aonIdx → i ∉ [O.RST_CAUSE, O.RST_COUNT, O.PWR_WAKE_CAUSE] → t.dev.o i el = s.dev.o i el) ∧
    (∀ i el, el < 4096 → i ∉ aonIdx →
      i ∉ [O.PWR_VHV_STATE, O.HK_LIM_LO, O.HK_LIM_HI, O.SU_STATE, O.SU_START_KIND, O.PWR_DOM_STATE, O.PWR_DOM_SWITCHES] →
      t.dev.o i el = dflt i el) ∧
    t.dev.flash = s.dev.flash ∧ t.dev.jq.queue = [] ∧ t.dev.jq.flight = none ∧ t.clock = s.clock ∧
    (k = 7 → t.dev.gddr = s.dev.gddr) ∧
    (k ≠ 7 → t.dev.mem.trained = none ∧ ∃ n, t.dev.mem.undef.head? = some (0, 0x200000000, n))

/-- All but the elements of some objects is as before: every other element, GDDR7, the bytes of the DOM objects, the flash, the part,
device time and the queue. -/
def Keeps (s t : State) (idx : List Nat) : Prop :=
  (∀ i el, el < 4096 → i ∉ idx → t.dev.o i el = s.dev.o i el) ∧ t.dev.gddr = s.dev.gddr ∧
    (∀ a, t.dev.gByte a = s.dev.gByte a) ∧ t.dev.doms = s.dev.doms ∧ t.dev.flash = s.dev.flash ∧ t.part = s.part ∧
    t.clock = s.clock ∧ t.pending = s.pending

/-- The objects that a drive or supervision event may change; none where the table does not list the command. -/
def driveFrame : Instr → Option (List Nat)
  | .pulseOvercurrent _ => some [O.EM_AN_OVER]
  | .lineBar _ => some [O.EM_BAR_AN, O.FLT_LOST]
  | .emTestStarved => some [O.EM_TEST_STARVED, O.FLT_LOST]
  | .twillChainCheck _ _ _ => some [O.TW_RET_BITS, O.TW_STATUS, O.TW_CHECK_FAIL]
  | .twillDisable => some [O.TW_ENABLE, O.TW_STATUS, O.FLT_LOST]
  | .fwHeartbeatStroke _ => some []
  | .d2dLinkFault => some [O.HM_STATE, O.HM_DISARM_CAUSE, O.HM_DISARM_TIME, O.HM_INHIBITS, O.FLT_LOST]
  | .bucketLeakStep _ _ => some [O.HM_BUCKET_PEAK, O.HM_THROTTLE_REQ, O.FLT_LOST]
  | .emitStampLoss => some [O.FLT_LOST]
  | .frameSyncMissed => some [O.JQ_SYNC_MISSED]
  | _ => none

/-- The objects that an event of the receive path may change. -/
def receiveFrame : Instr → Option (List Nat)
  | .groupWakeDone _ _ => some [O.RX_GROUP_STATE, O.PWR_DOM_STATE, O.PWR_DOM_SWITCHES, O.RX_SLICE_OF, O.RX_SLICE_STATUS, O.RX_TAKEOVERS,
      O.RX_REPAIR, O.CAL_PASSES, O.CAL_LAST_PASS_TIME, O.CAL_LAST_PASS_TEMP, O.CAL_SETS, O.CAL_SET_TEMP, O.CAL_SET_SOURCE]
  | .groupWakeFail _ => some [O.RX_GROUP_STATE, O.PWR_DOM_STATE, O.PWR_DOM_SWITCHES, O.RX_SLICE_OF, O.RX_TAKEOVERS, O.FLT_LOST]
  | .wakeRequest _ => some [O.RX_GROUP_STATE, O.RX_GROUP_WAKES, O.PWR_DOM_STATE, O.PWR_DOM_SWITCHES]
  | .blankNFall _ => some []
  | .blankNRise _ => some []
  | .inputShortBias _ => some [O.RX_INPUT_STATUS, O.FLT_LOST]
  | .darkRateWatch => some [O.RX_DARK_RATE, O.RX_INPUT_STATUS, O.FLT_LOST]
  | .biasRampDone _ => some [O.RX_BIAS_STATUS]
  | .biasOvercurrentFault _ => some [O.RX_BIAS_STATUS, O.FLT_LOST]
  | .biasOvervoltageFault _ => some [O.RX_BIAS_STATUS, O.FLT_LOST]
  | .biasUndervoltageFault _ => some [O.RX_BIAS_STATUS, O.FLT_LOST]
  | .biasOpenWarn _ => some [O.RX_BIAS_STATUS, O.FLT_LOST]
  | .biasVhvLow => some [O.RX_BIAS_STATUS]
  | .biasVhvRecovery => some [O.RX_BIAS_STATUS]
  | .biasCurrentLimit _ _ => some [O.RX_BIAS_STATUS]
  | .interpCalStall _ => some []
  | .inputCheck _ _ _ _ _ => some [O.RX_INPUT_STATUS, O.FLT_LOST]
  | _ => none

/-- The objects that an event of the digitisers, of self-calibration or of Atlas may change. -/
def waveFrame : Instr → Option (List Nat)
  | .digitiserFailed _ => some [O.DG_STATE, O.FLT_LOST]
  | .filtFillDone _ => some [O.FILT_STATE]
  | .filtFadeEnd _ => some [O.FILT_BANK, O.FILT_STATE, O.FILT_SWAP_REQ]
  | .acqRearmDone => some [O.ACQ_STATE]
  | .calGapChunk _ _ => some []
  | .calAgeDue _ => some []
  | .calFlashPeriod => some [O.FW_FLASH_BUSY]
  | .calFlashWriteDone => some [O.FW_FLASH_BUSY, O.CAL_FLASH_WRITES, O.CAL_STORE_SEQ]
  | .bridgeBlockEnd _ => some [O.SB_I_MEAS]
  | .bridgeFaultDeclared _ => some [O.SB_FAULTS, O.SB_STATUS, O.FLT_LOST]
  | .bridgeFaultEnd _ => some [O.SB_STATUS]
  | .loopSample _ _ => some [O.ATL_RESID, O.ATL_I_NOW, O.ATL_SAT, O.FLT_LOST]
  | .feedbackMissing _ => some [O.ATL_RESID, O.ATL_I_NOW, O.ATL_SAT, O.FLT_LOST]
  | .coilOvercurrent _ => some [O.ATL_COIL_STATUS, O.ATL_STATE, O.ATL_CLEAN_MS, O.ATL_EST, O.ATL_ANGLE_NOW, O.HM_STATE, O.HM_INHIBITS,
      O.HM_DISARM_CAUSE, O.HM_DISARM_TIME, O.FLT_LOST]
  | .coilOpen _ => some [O.ATL_COIL_STATUS, O.ATL_STATE, O.ATL_CLEAN_MS, O.ATL_EST, O.ATL_ANGLE_NOW, O.HM_STATE, O.HM_INHIBITS,
      O.HM_DISARM_CAUSE, O.HM_DISARM_TIME, O.FLT_LOST]
  | .coilCompliance _ _ => some [O.ATL_COIL_STATUS]
  | .pdPublish _ _ _ => some [O.PD_STATUS, O.PD_VALUE]
  | .pdStaleEnd _ => some [O.PD_STATUS]
  | .pdSatHold _ => some [O.FLT_LOST]
  | .traceFreeze => some [O.ATL_TR_STATE]
  | _ => none

/-- The objects that an event of a carrier or of the link may change. -/
def linkFrame : Instr → Option (List Nat)
  | .canBusOff _ => some [O.LOCK_OWNER, O.LOCK_LOST, O.FLT_LOST]
  | .canBusOffRecovery _ => some []
  | .spiCarrierFailure => some [O.LOCK_OWNER, O.LOCK_LOST, O.FLT_LOST]
  | .spiPollFrame _ => some []
  | .lockLeaseExpiry => some [O.LOCK_OWNER, O.LOCK_LOST, O.FLT_LOST]
  | .tagStoreExpiry _ _ => some []
  | .snapshotExpiry _ => some []
  | .blockWriteTimeout _ => some []
  | .rasterRetire => some [O.TAP_SENT, O.TAP_RETIRED_FRAME]
  | .alignmentColumn => some []
  | .creditOnlyPacket => some [O.LINK_NOTIFY_DROPPED, O.LINK_TX_DISCARD]
  | .tsMarkerRx _ => some []
  | .tsExchangeTimeout => some [O.LINK_TS_MISSED]
  | .laneLocked _ _ _ => some [O.LANE_STATE, O.LANE_CTLE_NOW, O.LANE_CV, O.LANE_DISP]
  | .laneAligned _ => some [O.LANE_STATE]
  | .alignedTimeout => some []
  | .trainTimeoutNotify => some [O.FLT_LOST]
  | .prbsSyncGain _ => some [O.PRBS_SYNC]
  | .prbsSyncLoss _ _ => some [O.PRBS_SYNC, O.PRBS_BITS, O.PRBS_ERRS]
  | _ => none

/-- The objects that an event of memory, housekeeping or power may change. -/
def powerFrame : Instr → Option (List Nat)
  | .memRefresh _ _ => some []
  | .requestPromotion _ _ => some [O.MEM_ARB_PROMOTIONS]
  | .hkRepeatStart => some [O.HK_STATE, O.HK_PREEMPTS]
  | .thermalRound _ => some [O.HK_STATE, O.HK_PREEMPTS]
  | .hmVhvCheck => some [O.HK_STATE, O.HK_PREEMPTS]
  | .fuseLoadDone => some [O.SU_STATE, O.SU_PHASE_US, O.HM_STATE, O.HM_INHIBITS, O.HM_DISARM_CAUSE, O.HM_DISARM_TIME, O.FLT_LOST]
  | .railsInRange => some [O.SU_STATE, O.SU_START_KIND, O.PWR_DOM_STATE, O.PWR_DOM_SWITCHES, O.FLT_LOST]
  | .powerDomainRampDone _ => some [O.PWR_DOM_STATE]
  | .powerDomainFault _ => some [O.PWR_DOM_STATE, O.SU_STATE, O.FLT_LOST]
  | .slowCrystalFail => some [O.DEV_TIME_SLOWSRC, O.CLK_SLOW_FAILS, O.FLT_LOST]
  | _ => none

/-- The header of a request. -/
def reqHdr (q : Req) : Hdr := { sess := q.sess, epoch := q.epoch, seq := q.seq }

/-- Success with a stamp and data (R87). -/
def okAns (stamp : Nat) (data : Bytes) : Ans := { stamp := stamp, data := data }

/-- The request has been answered: the session's newest stored tag holds it with its response and the time of execution (R87,
R118). -/
def Answered (s t : State) (m : GopMsg) (a : Ans) : Prop :=
  (t.dev.sess m.req.sess).stored.head? =
    some { msg := m, resp := gopBytes m.op (reqTag m.req) m.req.index m.req.element false a, time := s.clock.time }

/-- A write of value `v` to an element is accepted: it executes at once, nobody holds the lock, the element is present, the
value fits its type, its range and the rules of its object, a subsystem that must be stopped is, no condition of the device turns
the write away, and no pending commit holds the element (R69, R74, R78, R85, R130, R139 and the rules of the objects). -/
def Accepts (s : State) (h : Hdr) (idx el v : Nat) : Prop :=
  Served s h idx ∧ s.dev.o O.LOCK_OWNER = 0xFF ∧
    (s.atRequest h.sess).pres s.env idx el = .ok ∧
    v < 256 ^ elWidth idx ∧ (rowOr idx).inRange v = true ∧
    (s.atRequest h.sess).special s.env ((s.atRequest h.sess).view h.sess (ownVals idx el [v])) idx el v = none ∧
    ((rowOr idx).stopped = true → (s.atRequest h.sess).running idx el = false) ∧
    (s.atRequest h.sess).busy s.env idx el v = none ∧
    s.dev.inCommit (okey idx el) = false

end Sys2Proof.Machine
end

