-- ==== Sys2Proof/Certificates/Slice0/Obligations.lean ====
section
/-! DEFINITION. The statements about the block: what each command does and leads to, what it leaves unchanged, what reset leaves,
and what every step keeps. A docstring says which rules of the spec a statement formalises. -/

section
open Sys2Proof Sys2Proof.Machine

/-- A step of a state with a command at the front of its queue is that command's effect on the state with the rest of the
queue. -/
def Obligations.FrontCommandRuns : Prop :=
  ∀ (c : Sys2Proof.Instr) (s : Sys2Proof.Machine.State) (rest : List Sys2Proof.Instr),
    Sys2Proof.Machine.step { s with pending := c :: rest } = Sys2Proof.Machine.exec c { s with pending := rest }

/-! ### Emitter drive, Twill and Hawkmoth (chapters 04 and 05) -/

/-- EMIT_EN low opens every anode switch and disarms Hawkmoth with its cause and time; EMIT_EN high clears its bit of the arming
block where no injection holds it (R277, R269, Table 05-3). -/
def Obligations.EmitEnableCutsTheDrive : Prop :=
  ∀ s : State, s.Quiet →
    Leads .emitEnLow s (fun t => t.dev.hm.emitEn = false ∧ t.dev.em.closed = 0 ∧ t.dev.o O.HM_STATE = 0 ∧
      (s.dev.o O.HM_STATE ≠ 0 → t.dev.o O.HM_DISARM_CAUSE = 2 ∧ t.dev.o O.HM_DISARM_TIME = s.clock.time)) ∧
    Leads .emitEnHigh s (fun t => t.dev.hm.emitEn = true ∧ (s.dev.injected 0 = false → t.dev.armBlock t.env % 2 = 0))

/-- A driver shutdown, or VHV outside the anode window, takes Hawkmoth out of ARMED and opens the anode switches; the
restart and VHV's return end them (R229, R263, R264). A peak above 125 % of the setpoint, or above 1,100 codes, opens the
line's switch for the rest of the shot, which is cut; three over-current events within 16 shots, or three under-current
shots in a row, bar the line (R231, R233). -/
def Obligations.OutputsAndDriversAreProtected : Prop :=
  (∀ s : State, s.Quiet →
    (∀ n, 12 ≤ n → n < 16 → s.dev.o O.EM_TSD_ACTIVE = 0 →
      Leads (.driverTsdTrip n) s (fun t => t.dev.o O.EM_TSD_ACTIVE = 1 ∧
        t.dev.o O.EM_TSD_EVENTS = ctrAdd O.EM_TSD_EVENTS 0 (s.dev.o O.EM_TSD_EVENTS) 1 ∧ t.dev.em.closed = 0 ∧
        t.dev.o O.HM_STATE ≠ 2)) ∧
    (s.dev.o O.EM_TSD_ACTIVE = 1 → Leads .driverTsdRestart s (fun t => t.dev.o O.EM_TSD_ACTIVE = 0)) ∧
    (∀ mv : Int, mv < 10000 ∨ 48000 < mv →
      Leads (.vhvAnodeWindowExit mv) s (fun t => t.dev.em.vhvMv = mv ∧ t.dev.o O.HM_STATE ≠ 2 ∧
        (s.dev.vhvOut = false → s.dev.o O.SU_STATE ≠ 0 → t.dev.em.closed = 0 ∧ Logged s t 0x020C 1))) ∧
    (∀ mv : Int, 10000 ≤ mv → mv ≤ 48000 →
      Leads (.vhvAnodeWindowReturn mv) s (fun t => t.dev.em.vhvMv = mv ∧ t.dev.vhvOut = false))) ∧
  (∀ s : State, s.Quiet →
    (∀ line peak f, line < 8 → s.dev.jq.flight = some f → f.emitted = true → f.wins = true → f.supp = none → bit f.an line = true →
      bit s.dev.em.tripped line = false → (5 * (s.dev.em.setp[line]?).getD 0 < 4 * peak ∨ 1100 < peak) →
      Leads (.pulseOvercurrent ⟨line, peak⟩) s (fun t =>
        t.dev.em.closed = setBit s.dev.em.closed line false ∧ bit t.dev.em.tripped line = true ∧
        t.dev.jq.flight = some { f with cut := true } ∧
        t.dev.o O.EM_AN_OVER line = ctrAdd O.EM_AN_OVER line (s.dev.o O.EM_AN_OVER line) 1)) ∧
    (∀ line, line < 8 → (s.dev.overDue line = true ∨ s.dev.underDue line = true) →
      Leads (.lineBar line) s (fun t => t.dev.o O.EM_BAR_AN = setBit (s.dev.o O.EM_BAR_AN) line true ∧
        t.dev.em.closed = setBit s.dev.em.closed line false ∧
        tget 0 t.dev.em.unders line = 0 ∧ Logged s t (if s.dev.overDue line then 0x0209 else 0x0208) 2)))

/-- A drive test pass starts with every anode switch open where one is due and has room; 40 µs after its start it ends with
its result and time; a second without one while Jacquard runs is counted (R257 to R260). A cathode or line that fails a test
pass is barred with the end of the pass (R260, Table 04-6): rows 1 and 2 name a cathode, rows 5 and 6 a line. -/
def Obligations.TestPasses : Prop :=
  (∀ s : State, s.Quiet →
    (s.dev.em.pass = none → Dev.passWanted s.env { s.dev with sent := [] } = true →
      Dev.passRoom s.env { s.dev with sent := [] } = true →
      Leads .testPassStart s (fun t => t.dev.em.pass = some s.clock.time ∧ t.dev.em.passLast = some s.clock.time ∧
        t.dev.em.closed = 0 ∧ t.dev.em.req = false ∧ t.dev.em.passClear = s.dev.em.barClear ∧ t.dev.em.barClear = false)) ∧
    (∀ t0, s.dev.em.pass = some t0 → t0 + 60000 ≤ s.clock.time →
      Leads (.testPassEnd []) s (fun t => t.dev.em.pass = none ∧ t.dev.em.passDone = some s.clock.time ∧
        t.dev.o O.EM_TEST_LAST_TIME = s.clock.time ∧ t.dev.o O.EM_TEST_RESULT = 0 ∧
        (s.dev.em.passClear = true → t.dev.o O.EM_BAR_AN = 0 ∧ t.dev.o O.EM_BAR_KD = 0))) ∧
    (s.dev.o O.JQ_STATE ≠ 0 → max s.dev.em.starveAt (s.dev.em.passDone.getD 0) + 1500000000 ≤ s.clock.time →
      Leads .emTestStarved s (fun t => t.dev.em.starveAt = s.clock.time ∧
        t.dev.o O.EM_TEST_STARVED = ctrAdd O.EM_TEST_STARVED 0 (s.dev.o O.EM_TEST_STARVED) 1))) ∧
  (∀ (s : State) (t0 r i : Nat), s.Quiet → s.dev.em.pass = some t0 → t0 + 60000 ≤ s.clock.time →
    ((r = 1 ∨ r = 2) → i < 16 → Leads (.testPassEnd [(r, i)]) s (fun t => bit (t.dev.o O.EM_BAR_KD) i = true ∧
      t.dev.o O.EM_TEST_RESULT = 2 ^ i <<< 8)) ∧
    ((r = 5 ∨ r = 6) → i < 8 → Leads (.testPassEnd [(r, i)]) s (fun t => bit (t.dev.o O.EM_BAR_AN) i = true ∧
      t.dev.o O.EM_TEST_RESULT = 2 ^ i)))

/-- The string of the next shot starts where its shares changed and the emission before lies 64 ns back; at the end of the latch
hold it latches, and the cells that came back, read by their high times, decide the status; three failed checks disable the chain (R248, R249, R252 to
R255). -/
def Obligations.TwillChain : Prop :=
  ∀ s : State, s.Quiet →
    (∀ sh rest, s.dev.jq.queue = sh :: rest → sh.move = false → sh.thinned = false → s.dev.em.wire = none →
      s.dev.twNeeds sh = true → s.dev.jq.flight = none → s.dev.em.lastEmit + 192 ≤ 2 * s.clock.time + 1 →
      Leads .twillStringStart s (fun t =>
        t.dev.sent = [.twill (twWords (s.dev.sharesOf (entAn sh.ent) (entLevel sh.ent)) s.dev.em.twSeq)
          ((twWords (s.dev.sharesOf (entAn sh.ent) (entLevel sh.ent)) s.dev.em.twSeq).flatMap twCells)] ∧
        t.dev.em.twSeq = (s.dev.em.twSeq + 1) % 16 ∧
        t.dev.o O.TW_STRINGS = ctrAdd O.TW_STRINGS 0 (s.dev.o O.TW_STRINGS) 1)) ∧
    (∀ w str hold high, s.dev.em.wire = some w → w.latchAt ≤ 2 * s.clock.time + 1 →
      Leads (.twillChainCheck str hold high) s (fun t => t.dev.em.wire = none ∧ t.dev.em.latched = w.shares ∧
        ((str ++ hold).length = 32 → (∀ h ∈ str ++ hold ++ high.toList, h ≤ 20) → w.words.getLast? = some (twReadWord (str ++ hold)) →
          t.dev.o O.TW_STATUS = 0 ∧ t.dev.em.twFails = 0) ∧
        ((str ++ hold).length = 32 → (∃ h ∈ str ++ hold ++ high.toList, 20 < h) →
          t.dev.o O.TW_STATUS = 3 ∧ t.dev.em.twFails = s.dev.em.twFails + 1) ∧
        (str ++ hold = [] → t.dev.o O.TW_STATUS = 2 ∧ t.dev.em.twFails = s.dev.em.twFails + 1) ∧
        (64 ≤ (str ++ hold).length → t.dev.o O.TW_STATUS = 1 ∧ t.dev.em.twFails = s.dev.em.twFails + 1))) ∧
    (3 ≤ s.dev.em.twFails → s.dev.o O.TW_ENABLE = 1 →
      Leads .twillDisable s (fun t => t.dev.o O.TW_ENABLE = 0 ∧ t.dev.o O.TW_STATUS = 4 ∧ t.dev.em.wire = none))

/-- A write of HM_ARM starts the arming self-test where nothing blocks it; its end arms Hawkmoth, holds it, or disarms it
with cause 7 or that of a latching condition; a write of HM_DISARM disarms it with cause 1 (R266, R268, R271, Table 05-1).
Heartbeats, the die-to-die link and the comparison of the configuration copies: a correct stroke renews the firmware
heartbeat, and each of the four failures leaves Hawkmoth disarmed (R275, R276, R289, R957). -/
def Obligations.ArmingAndSupervision : Prop :=
  (∀ (s : State) (h : Hdr), s.Quiet →
    (Accepts s h O.HM_ARM 0 1 → s.dev.o O.HM_STATE = 0 →
      Leads (.hmArm h) s (fun t => t.dev.o O.HM_STATE = 1 ∧ t.dev.hm.armAt = s.clock.time)) ∧
    (∀ v, Accepts s h O.HM_DISARM 0 v → s.dev.o O.HM_STATE ≠ 0 →
      Leads (.hmDisarm h v) s (fun t => t.dev.o O.HM_STATE = 0 ∧ t.dev.o O.HM_DISARM_CAUSE = 1 ∧ t.dev.em.closed = 0)) ∧
    (s.dev.o O.HM_STATE = 1 → s.dev.hmLatching s.env = [] →
      Leads (.hmSelftestEnd true) s (fun t => t.dev.o O.HM_STATE = (if s.dev.hmPassing then 3 else 2) ∧
        t.dev.o O.HM_ARM_TIME = s.clock.time ∧
        t.dev.o O.HM_INHIBITS =
          (if s.dev.hmPassing then ctrAdd O.HM_INHIBITS 0 (s.dev.o O.HM_INHIBITS) 1 else s.dev.o O.HM_INHIBITS))) ∧
    (∀ c inj l, s.dev.o O.HM_STATE = 1 → s.dev.hmLatching s.env = (c, inj) :: l →
      Leads (.hmSelftestEnd true) s (fun t => t.dev.o O.HM_STATE = 0 ∧ t.dev.o O.HM_DISARM_CAUSE = c ∧
        t.dev.o O.HM_ARM_TIME = s.dev.o O.HM_ARM_TIME)) ∧
    (s.dev.o O.HM_STATE = 1 →
      Leads (.hmSelftestEnd false) s (fun t => t.dev.o O.HM_STATE = 0 ∧ t.dev.o O.HM_DISARM_CAUSE = 7))) ∧
  (∀ s : State, s.Quiet →
    (∀ v, v < 2 → v ≠ s.dev.hm.fwVal → Leads (.fwHeartbeatStroke v) s (fun t =>
      t.dev.hm.fwAlive = true ∧ t.dev.hm.fwAt = s.clock.time ∧ t.dev.hm.fwVal = v)) ∧
    (s.dev.hm.fwAlive = true → s.dev.hm.fwAt + 1500 * s.dev.o O.HM_HB_TIMEOUT_US ≤ s.clock.time →
      Leads .fwHeartbeatExpiry s (fun t => t.dev.hm.fwAlive = false ∧ t.dev.o O.HM_STATE = 0)) ∧
    (s.dev.o O.HM_HOST_HB_SESSION ≠ 0xFF → s.dev.hm.hostAlive = true →
      s.dev.hm.hostAt + 1500000 * s.dev.o O.HM_HOST_HB_TIMEOUT_MS ≤ s.clock.time →
      Leads .hostHeartbeatExpiry s (fun t => t.dev.hm.hostAlive = false ∧ t.dev.o O.HM_STATE = 0)) ∧
    Leads .d2dLinkFault s (fun t => t.dev.o O.HM_STATE = 0 ∧ t.dev.em.closed = 0 ∧
      (s.dev.o O.HM_STATE ≠ 0 → t.dev.o O.HM_DISARM_CAUSE = 6)) ∧
    (s.dev.hm.compareAt + 1500000 ≤ s.clock.time →
      Leads (.hmConfigCompare []) s (fun t => t.dev.hm.compareAt = s.clock.time ∧
        (t.dev.hm.mismatch = true ↔ ∃ p ∈ hmConfig s.env, s.dev.copyOf p.1 p.2.1 ≠ s.dev.o p.1 p.2.1) ∧
        (t.dev.hm.mismatch = true → t.dev.o O.HM_STATE = 0))))

/-- The levels of a bucket read the same before and after its leak step takes the steps that are due: a level is that of the
leaking bucket at the present device time whenever it is read (R284). -/
def Obligations.LeakStepsKeepTheLevel : Prop :=
  ∀ (s : State) (k : Nat), s.Quiet → k < 3 → twf 0 s.dev.hm.levels = true →
    Leads (.bucketLeakStep k []) s (fun t =>
      (∀ z, z < 256 → t.dev.level t.env k z = s.dev.level s.env k z) ∧
      (s.dev.leakDue s.env k ≠ 0 → tget 0 t.dev.hm.steps k = s.clock.time / leakPeriod k))

/-- A write of HM_INJECT takes its value, and one of EM_BAR_CLEAR, EM_TEST_REQ requests a test pass (R258, R262, R291). -/
def Obligations.DriveRequests : Prop :=
  ∀ (s : State) (h : Hdr), s.Quiet →
    (∀ v, Accepts s h O.HM_INJECT 0 v → Leads (.hmInject h v) s (fun t => t.dev.o O.HM_INJECT = v)) ∧
    (Accepts s h O.EM_BAR_CLEAR 0 1 → Leads (.emBarClear h) s (fun t => t.dev.em.req = true ∧ t.dev.em.barClear = true)) ∧
    (Accepts s h O.EM_TEST_REQ 0 1 → Leads (.emTestReq h) s (fun t => t.dev.em.req = true))

/-! ### The object protocol and its carriers (chapter 02) -/

/-- READ answers the values at the present cycle of a run of elements; with PEND the shadows first; with META the default
and the limits in force. What the read leaves of an RC object is its value after clearing; no element of another object
changes but the counters of requests (R75, R76, R83, R90, R140). A read of an RC object leaves each element read at 0 or at
its default; HM_BUCKET_PEAK and the two counters that the read's own response may move are apart (R76, R958). -/
def Obligations.ReadsAnswerTheirValues : Prop :=
  (∀ (s : State) (q : Req) (r : ObjRow), s.Quiet → Served s (reqHdr q) q.index → rowOf? q.index = some r →
    Dev.runCheck s.env (s.atRequest q.sess) r q.element q.count = none → r.acc ≠ .wo →
    (q.index ≠ O.HK_NOW → q.index ≠ O.RX_BIAS_I_MEAS →
      Leads (.read q) s (fun t =>
        Answered s t (opMsg 1 false false q) (okAns s.clock.time
          ((runEls q.element q.count).flatMap (fun x => Dev.elBytes s.env (s.atRequest q.sess) r x))) ∧
        (∀ i el, el < 4096 → i ≠ q.index → i ∉ [O.GOP_REQUESTS, O.GOP_ABORTS, O.LINK_TX_DISCARD, O.LINK_NOTIFY_DROPPED] →
          t.dev.o i el = s.dev.o i el)) ∧
      Leads (.readPend q) s (fun t =>
        Answered s t (opMsg 1 true false q) (okAns s.clock.time
          ((runEls q.element q.count).flatMap (fun x => match tget none s.dev.shadows (okey q.index x) with
            | some v => leBytes r.ty.bytes v
            | none => Dev.elBytes s.env (s.atRequest q.sess) r x))))) ∧
    (q.count = 1 → r.ty ≠ .bits32 → r.ty ≠ .str →
      Leads (.readMeta q) s (fun t => Answered s t (opMsg 1 false true q)
        (okAns s.clock.time (((s.atRequest q.sess).view q.sess []).metaBytes s.env r q.element))))) ∧
  (∀ (s : State) (q : Req) (r : ObjRow) (x : Nat), s.Quiet → Served s (reqHdr q) q.index → rowOf? q.index = some r →
    Dev.runCheck s.env (s.atRequest q.sess) r q.element q.count = none → r.acc = .rc →
    q.index ∉ [O.HM_BUCKET_PEAK, O.LINK_TX_DISCARD, O.LINK_NOTIFY_DROPPED] →
    q.element ≤ x → x < q.element + q.count →
    Leads (.read q) s (fun t => t.dev.o q.index x = dflt q.index x))

/-- While Jacquard runs, an accepted write of an object of apply class SHOT, LINE or FRAME goes into the element's shadow and
leaves the value in force; while it is STOPPED the line setpoints take a value at once (R79, R80, R81). -/
def Obligations.WritesLandOrWait : Prop :=
  ∀ (s : State) (h : Hdr) (el v : Nat), s.Quiet →
    (∀ (idx : Nat) (r : ObjRow), rowOf? idx = some r → (r.cls = .shot ∨ r.cls = .line ∨ r.cls = .frame) →
      (r.acc = .rw ∨ r.acc = .wo) → r.ty ≠ .dom → idx ≠ O.JQ_SWAP_REQ → el < 4096 → s.dev.o O.JQ_STATE ≠ 0 →
      Accepts s h idx el v →
      Leads (.write (reqTo h idx el 1 (leBytes (elWidth idx) v))) s (fun t =>
        tget none t.dev.shadows (okey idx el) = some v ∧ t.dev.o idx el = s.dev.o idx el)) ∧
    (el < 128 → s.dev.o O.JQ_STATE = 0 → Accepts s h O.EM_LEVEL_SET el v →
      Leads (.write (reqTo h O.EM_LEVEL_SET el 1 (leBytes 2 v))) s (fun t => t.dev.o O.EM_LEVEL_SET el = v))

/-- A READ_BLOCK of block 0 takes a snapshot and answers its length and its first 512 bytes; a later block of the same
snapshot answers its own 512 bytes and, if it is the last, ends it (R141, R142, R144). A block write whose first block is
its last checks the CRC and writes the whole object: the zone map takes its 128 bytes at once while Jacquard is STOPPED
(R145, R146, R148, R221). -/
def Obligations.BlocksAreReadAndWritten : Prop :=
  (∀ (s : State) (q : Req), s.Quiet → Served s (reqHdr q) q.index →
    (q.index = O.FLT_LOG → q.element = 0 → q.count = 0 →
      Leads (.readBlock q) s (fun t =>
        Answered s t (opMsg 3 false false q)
          (okAns s.clock.time (leBytes 4 8192 ++ (s.dev.domBytes O.FLT_LOG 0 0 8192).take 512)) ∧
        (t.dev.sess q.sess).snap = some { index := q.index, element := 0, data := s.dev.domBytes O.FLT_LOG 0 0 8192,
                                          stamp := s.clock.time, last := s.clock.time })) ∧
    (∀ x r, Dev.domRow s.env (s.atRequest q.sess) q.index q.element = .inr r → r.acc ≠ .wo → q.count ≠ 0 →
      (s.dev.sess q.sess).snap = some x → s.clock.time < x.last + 15000000 → x.index = q.index → x.element = q.element →
      q.count ≤ (x.data.length - 1) / 512 →
      Leads (.readBlock q) s (fun t =>
        Answered s t (opMsg 3 false false q)
          (okAns x.stamp (leBytes 4 x.data.length ++ (x.data.drop (512 * q.count)).take 512)) ∧
        (t.dev.sess q.sess).snap =
          if q.count = (x.data.length - 1) / 512 then none else some { x with last := s.clock.time }))) ∧
  (∀ (s : State) (h : Hdr) (bs : Bytes), s.Quiet → Served s h O.EM_ZONE_MAP → s.dev.o O.LOCK_OWNER = 0xFF → s.dev.commit = none →
    s.dev.o O.JQ_STATE = 0 → bs.length = 128 → (∀ v, v < 128 → BitVec.ofNat 8 v ∈ bs) →
    Leads (.writeBlock (reqTo h O.EM_ZONE_MAP 0 0 (leBytes 4 128 ++ bs ++ leBytes 4 (crc32 bs)))) s (fun t =>
      (∀ i, i < 128 → t.dev.domByte O.EM_ZONE_MAP 0 i = bs.getD i 0) ∧ (t.dev.sess h.sess).bw = none))

/-- LOCK gives the free lock to its session with a lease; ABORT_LOCK frees it and discards the staged set; a COMMIT of the
owner frees it too, and the set waits for its boundary while Jacquard runs and lands at once while it is STOPPED (R123, R132
to R137). What runs out: the lease frees the lock, counts the loss and discards the staged set; a tag leaves after 100 ms; a
snapshot and a block write lapse after 10 ms (R118, R138, R142, R147). -/
def Obligations.LocksCommitsAndLeases : Prop :=
  (∀ (s : State) (q : Req), s.Quiet → Served s (reqHdr q) q.index →
    (s.dev.o O.LOCK_OWNER = 0xFF → s.dev.commit = none →
      Leads (.lock q) s (fun t => t.dev.o O.LOCK_OWNER = q.sess ∧ t.dev.lock =
        { deadline := s.clock.time + 1500000 * s.dev.o O.LOCK_LEASE_MS, staged := {} })) ∧
    (s.dev.o O.LOCK_OWNER = q.sess →
      Leads (.abortLock q) s (fun t => t.dev.o O.LOCK_OWNER = 0xFF ∧ t.dev.lock = {})) ∧
    (s.dev.o O.LOCK_OWNER = q.sess → s.dev.o O.JQ_STATE ≠ 0 → s.dev.lock.staged.cls ≠ .now →
      (s.dev.lock.staged.vals.all (fun p => !s.dev.stagedRuns p.1) && s.dev.lock.staged.doms.all (fun p => !s.dev.stagedRuns p.1)) =
        true →
      Leads (.commit q) s (fun t => t.dev.o O.LOCK_OWNER = 0xFF ∧ t.dev.lock = {} ∧
        t.dev.commit = some { cls := s.dev.lock.staged.cls, sess := q.sess, set := s.dev.lock.staged } ∧
        Answered s t (opMsg 6 false false q) (okAns s.clock.time (leBytes 1 s.dev.lock.staged.cls.code)))) ∧
    (∀ el v, s.dev.o O.LOCK_OWNER = q.sess → s.dev.o O.JQ_STATE = 0 → el < 128 →
      s.dev.lock.staged = { vals := [(okey O.EM_LEVEL_SET el, some v)] } →
      Leads (.commit q) s (fun t => t.dev.o O.LOCK_OWNER = 0xFF ∧ t.dev.commit = none ∧
        t.dev.o O.EM_LEVEL_SET el = v ∧ t.dev.o O.COMMIT_LANDED_TIME = s.clock.time))) ∧
  (∀ s : State, s.Quiet → s.dev.ses.length = 5 →
    (s.dev.o O.LOCK_OWNER ≠ 0xFF → s.dev.lock.deadline ≤ s.clock.time →
      Leads .lockLeaseExpiry s (fun t => t.dev.o O.LOCK_OWNER = 0xFF ∧ t.dev.lock = {} ∧
        t.dev.o O.LOCK_LOST = ctrAdd O.LOCK_LOST 0 (s.dev.o O.LOCK_LOST) 1)) ∧
    (∀ n tag, n < 5 → Leads (.tagStoreExpiry n tag) s (fun t =>
      ∀ x, x ∈ (t.dev.sess n).stored ↔
        x ∈ (s.dev.sess n).stored ∧ (reqTag x.msg.req ≠ tag ∨ s.clock.time < x.time + 150000000))) ∧
    (∀ n x, n < 5 → (s.dev.sess n).snap = some x → x.last + 15000000 ≤ s.clock.time →
      Leads (.snapshotExpiry n) s (fun t => (t.dev.sess n).snap = none)) ∧
    (∀ n w, n < 5 → (s.dev.sess n).bw = some w → w.last + 15000000 ≤ s.clock.time →
      Leads (.blockWriteTimeout n) s (fun t => (t.dev.sess n).bw = none ∧ t.dev.doms = s.dev.doms)))

/-- SUBSCRIBE enters a subscription with its mode, period and first due time; SES_OPEN steps the session's epoch and
discards its tags, subscriptions, snapshot, block write and lock; an operation that Table 02-4 does not have answers
ABT_TYPE, BAD_OP (R88, R113 to R115, R150). A periodic notification leaves when its period has passed and is due again one
period later; a change notification leaves when a change waits and a millisecond has passed since the last, and none waits
after it but a change that came with it (R150, R152 to R154). -/
def Obligations.SessionsAndNotifications : Prop :=
  (∀ (s : State) (q : Req), s.Quiet →
    (∀ r m p, Served s (reqHdr q) q.index → rowOf? q.index = some r →
      Dev.runCheck s.env (s.atRequest q.sess) r q.element q.count = none → r.acc ≠ .wo → m ∈ [1, 2, 3] → 1 ≤ p → p ≤ 60000 →
      q.data = leBytes 1 m ++ leBytes 1 0 ++ leBytes 2 p → (s.dev.subs.filter (fun x => x.sess == q.sess)).length < 64 →
      Leads (.subscribe q) s (fun t => ∃ x ∈ t.dev.subs, x.of q.sess q.index q.element q.count = true ∧ x.mode = m ∧
        x.period = p ∧ x.due = s.clock.time + 1500000 * p)) ∧
    (q.sess < 4 → s.dev.ses.length = 5 → s.dev.serves q.sess = true → s.dev.serviceAbort q.sess O.SES_OPEN = none →
      (s.dev.sess q.sess).held = none → (s.dev.sess q.sess).queue = [] → q.element = q.sess → q.count = 1 → q.data.length = 1 →
      Leads (.sesOpen q) s (fun t => t.dev.o O.SES_EPOCH q.sess = (s.dev.o O.SES_EPOCH q.sess + 1) % 4 ∧
        (t.dev.sess q.sess).stored = [] ∧ (t.dev.sess q.sess).snap = none ∧ (t.dev.sess q.sess).bw = none ∧
        (∀ x ∈ t.dev.subs, x.sess ≠ q.sess) ∧ t.dev.o O.LOCK_OWNER ≠ q.sess)) ∧
    (∀ op, op % 16 ∉ [1, 2, 3, 4, 5, 6, 7, 8] → Served s (reqHdr q) q.index →
      Leads (.gopBadOp op q) s (fun t => Answered s t (opMsg (op % 16) false false q) (refuse (3, 3))))) ∧
  (∀ (s : State) (x : Sub) (r : ObjRow), s.Quiet → s.dev.ses.length = 5 → x.sess < 4 → s.dev.serves x.sess = true →
    s.dev.subs = [x] → rowOf? x.index = some r → Dev.presAbort s.env s.dev x.index x.element x.count = none →
    x.index ≠ O.HK_NOW → x.index ≠ O.RX_BIAS_I_MEAS →
    (2 ≤ x.mode → x.due ≤ s.clock.time →
      Leads (.notifyPeriodic x.sess x.index x.element x.count) s (fun t =>
        (t.dev.sess x.sess).nseq = ((s.dev.sess x.sess).nseq + 1) % 64 ∧
        ∃ b v, t.dev.subs = [{ x with due := x.due + 1500000 * x.period, dirty := b, seen := v }])) ∧
    (x.mode % 2 = 1 → x.dirty = true → (∀ t0, x.last = some t0 → t0 + 1500000 ≤ s.clock.time) →
      Leads (.notifyChange x.sess x.index x.element x.count) s (fun t =>
        (t.dev.sess x.sess).nseq = ((s.dev.sess x.sess).nseq + 1) % 64 ∧
        ∃ b v, t.dev.subs = [{ x with last := some s.clock.time, dirty := b, seen := v }])))

/-- A request that has arrived in one CAN FD segment, in one SPI frame or in one Gaern packet waits at the end of its
session's queue (R95, R97 to R99, R102, R109). A poll frame that is long enough takes the oldest message of the SPI session
and returns the status byte, its length, its bytes and their CRC (R104). A carrier that fails ends the lock its session
holds, and the SPI carrier's count of refused frames restarts; bus-off and its recovery are held; a segment that does not
come in 20 ms is counted and its message discarded (R101, R138, R951). -/
def Obligations.Carriers : Prop :=
  (∀ (s : State) (m : GopMsg), s.Quiet →
    (∀ c bs, s.dev.canUp c = true → s.dev.ses.length = 5 → 8 ≤ bs.length → bs.length ≤ 61 → gopOf c bs = some m →
      (s.dev.sess c).canRx = none → (s.dev.sess c).queue.length ≤ 7 →
      Leads (.canSegmentRx c ⟨s.dev.ob O.CAN_GOP_IDMODE c, s.dev.o O.CAN_GOP_BASE_ID c⟩ (leBytes 1 192 ++ leBytes 2 bs.length ++ bs)) s (fun t =>
        (t.dev.sess c).queue = (s.dev.sess c).queue ++ [m])) ∧
    (∀ mosi, s.dev.serves 2 = true → s.dev.ses.length = 5 → spiGood mosi = true → 8 ≤ fieldAt mosi 1 2 →
      gopOf 2 ((mosi.drop 3).take (fieldAt mosi 1 2)) = some m → (s.dev.sess 2).queue.length ≤ 7 →
      Leads (.spiRequestFrame mosi) s (fun t => (t.dev.sess 2).queue = (s.dev.sess 2).queue ++ [m] ∧
        t.dev.sent = [.miso (leBytes 1 s.dev.spiStatus ++ zeros (mosi.length - 1))])) ∧
    (∀ b g a p d' x d, s.dev.linkUp = true → s.dev.o O.LINK_ACTIVE_HRX ≠ 0 →
      Dev.rxColumns { s.dev with sent := [] } (b ++ g ++ a) = ([p], d') → d'.rxSeg p.2 p.1 = (some x, d) → x.ty = 6 → gopOf 3 x.payload = some m →
      d.ses.length = 5 → d.serves 3 = true → (d.sess 3).queue.length ≤ 7 → d.jq.settle = false → d.pwr.rstDue = none →
      Leads (.gaernGopPacketRx b g a) s (fun t => (t.dev.sess 3).queue = (d.sess 3).queue ++ [m]))) ∧
  (∀ (s : State) (note : Bool) (msg : Bytes) (rest : List (Bool × Bytes)) (n : Nat), s.Quiet → s.dev.serves 2 = true →
    s.dev.ses.length = 5 → (s.dev.sess 2).outq = (note, msg) :: rest → msg.length + 5 ≤ n →
    Leads (.spiPollFrame n) s (fun t => (t.dev.sess 2).outq = rest ∧
      t.dev.sent = [.miso (leBytes 1 s.dev.spiStatus ++ (leBytes 2 msg.length ++ msg) ++
        leBytes 2 (crc16 (leBytes 2 msg.length ++ msg)))])) ∧
  (∀ s : State, s.Quiet → s.dev.ses.length = 5 →
    (∀ c, c < 2 → s.dev.serves c = true →
      Leads (.canBusOff c) s (fun t => (t.dev.sess c).busOff = true ∧ t.dev.o O.LOCK_OWNER ≠ c)) ∧
    (∀ c, c < 2 → Leads (.canBusOffRecovery c) s (fun t => (t.dev.sess c).busOff = false)) ∧
    (∀ c r, c < 2 → (s.dev.sess c).canRx = some r → r.last + 30000000 ≤ s.clock.time →
      Leads (.canSegmentTimeout c) s (fun t => (t.dev.sess c).canRx = none ∧
        t.dev.o O.CAN_SEG_DISCARDS c = ctrAdd O.CAN_SEG_DISCARDS c (s.dev.o O.CAN_SEG_DISCARDS c) 1)) ∧
    (∀ new old, (s.dev.sess 2).refused[0]? = some new → (s.dev.sess 2).refused[7]? = some old → new ≤ old + 150000000 →
      Leads .spiCarrierFailure s (fun t => (t.dev.sess 2).refused = [] ∧ t.dev.o O.LOCK_OWNER ≠ 2)))

/-- A request with the tag of one that executed within the last 100 ms does not execute again: the stored response leaves, and no
element in force changes but GOP_DUPLICATES, GOP_TAG_CONFLICT and the link's counts of discarded packets (R118 to R120). -/
def Obligations.DuplicatesDoNotExecute : Prop :=
  ∀ (s : State) (q : Req) (x : Stored), s.Quiet → q.sess < 4 → s.dev.serves q.sess = true → (s.dev.sess q.sess).held = none →
    (s.dev.sess q.sess).queue = [] → q.epoch % 4 = s.dev.o O.SES_EPOCH q.sess → q.index ≠ O.SES_OPEN →
    (s.dev.sess q.sess).stored.find? (fun y => reqTag y.msg.req == reqTag q && s.clock.time < y.time + 150000000) = some x →
    Leads (.write q) s (fun t =>
      (∀ i el, el < 4096 → i ∉ [O.GOP_DUPLICATES, O.GOP_TAG_CONFLICT, O.LINK_TX_DISCARD, O.LINK_NOTIFY_DROPPED] →
        t.dev.o i el = s.dev.o i el) ∧
      t.dev.o O.GOP_DUPLICATES q.sess = ctrAdd O.GOP_DUPLICATES q.sess (s.dev.o O.GOP_DUPLICATES q.sess) 1 ∧
      t.dev.shadows = s.dev.shadows ∧ t.dev.lock.staged = s.dev.lock.staged ∧ t.dev.commit = s.dev.commit ∧
      t.dev.doms = s.dev.doms ∧ t.dev.gddr = s.dev.gddr ∧ t.dev.flash = s.dev.flash ∧
      (q.sess = 0 → (s.dev.sess 0).busOff = false → t.dev.sent = (canSegments x.resp).map
        (fun p => Out.can 0 (s.dev.ob O.CAN_GOP_IDMODE 0) (s.dev.o O.CAN_GOP_BASE_ID 0 + 1) p)))

/-! ### Jacquard and the life of a shot (chapters 01 and 03) -/

/-- A write of 1 to JQ_RUN while Jacquard is STOPPED and the active bank passes its check starts it at its start entry, with
the first frame origin 50 µs later; a write of 2 while it runs lets the frame end (R199, R202, Table 03-3). A write of 0 to
JQ_RUN while a shot is in flight stops decoding, discards what is queued and closes the open groups, and leaves Jacquard
STOPPING; with nothing in flight, open or waiting to land it is STOPPED at once, every anode switch open (R185, R188, R201).
-/
def Obligations.StartAndStop : Prop :=
  (∀ (s : State) (h : Hdr), s.Quiet →
    (Accepts s h O.JQ_RUN 0 1 → s.dev.o O.JQ_STATE = 0 → s.dev.bankCheck (s.dev.o O.JQ_ACTIVE_BANK) = none →
      Leads (.jqRunStart h) s (fun t => t.dev.o O.JQ_STATE = 1 ∧ t.dev.o O.JQ_RUN = 1 ∧ t.dev.o O.JQ_SWAP_FAULT_ENTRY = 0xFFFF ∧
        t.dev.jq.bank = s.dev.o O.JQ_ACTIVE_BANK ∧ t.dev.jq.next = s.dev.o O.JQ_START_ENTRY (s.dev.o O.JQ_ACTIVE_BANK) ∧
        t.dev.jq.originNext = some (2 * s.clock.time + 150000) ∧ t.dev.jq.decoding = true ∧ t.dev.jq.queue = [])) ∧
    (Accepts s h O.JQ_RUN 0 2 → s.dev.o O.JQ_STATE = 2 →
      Leads (.jqStopAfterFrame h) s (fun t => t.dev.o O.JQ_STATE = 3 ∧ t.dev.o O.JQ_RUN = 2 ∧ t.dev.jq = s.dev.jq))) ∧
  (∀ (s : State) (h : Hdr), s.Quiet → Accepts s h O.JQ_RUN 0 0 → (s.dev.o O.JQ_STATE = 1 ∨ s.dev.o O.JQ_STATE = 2) →
    (s.dev.jq.flight ≠ none → Leads (.jqStopNow h) s (fun t => t.dev.o O.JQ_STATE = 3 ∧ t.dev.jq.decoding = false ∧
      t.dev.jq.queue = [] ∧ t.dev.jq.acc = [] ∧ t.dev.jq.flight ≠ none)) ∧
    (s.dev.jq.flight = none → s.dev.jq.queue = [] → s.dev.ex.groups = [] → s.dev.shadows = [] → s.dev.domShadows = [] →
      s.dev.commit = none →
      Leads (.jqStopNow h) s (fun t => t.dev.o O.JQ_STATE = 0 ∧ t.dev.jq.decoding = false ∧ t.dev.em.closed = 0)))

/-- The decode of an END follows its LINK to the first entry of the next frame; that of a SHOT without repeats plans one shot,
queues it last and goes on to the next entry (R163 to R166, R175, R179). -/
def Obligations.EntriesDecode : Prop :=
  ∀ s : State, s.Quiet → s.dev.o O.JQ_STATE = 2 → s.dev.jq.decoding = true → s.dev.jq.newFrame = false → s.dev.jq.queue = [] →
    s.dev.jq.acc = [] →
    (entKind (s.dev.entry s.dev.jq.bank s.dev.jq.next) = 2 →
      Leads (.entryDecode 0) s (fun t => t.dev.jq.next = entLink (s.dev.entry s.dev.jq.bank s.dev.jq.next) ∧
        t.dev.jq.newFrame = true ∧ t.dev.o O.JQ_READ_PTR = 32768 * s.dev.jq.bank + s.dev.jq.next)) ∧
    (∀ w, s.dev.entry s.dev.jq.bank s.dev.jq.next = w → isShot w = true → entRepeat w = 0 → entAcc w = 0 →
      Dev.decodeTimely s.env s.dev 0 = true → entNoDither w = true →
      Leads (.entryDecode 0) s (fun t => ∃ sh, t.dev.jq.queue = [sh] ∧ sh.ent = w ∧ sh.move = false ∧ sh.dither = 0 ∧
        sh.planned = (s.dev.planOf s.dev.jq.plan s.dev.jq.origin w 0 0).planned ∧
        t.dev.o O.JQ_SHOTS = ctrAdd O.JQ_SHOTS 0 (s.dev.o O.JQ_SHOTS) 1 ∧ t.dev.jq.next = (s.dev.jq.next + 1) % 32768))

/-- A due wake request of a lit group that is OFF or in STANDBY sets it WAKING (R182, R321). The wake of a group that no
calibration pass holds ends ACTIVE after 200 ns from STANDBY or 40 µs from OFF with its check passed; 100 µs without a pass
leave it FAILED, from where a write of RX_GROUP_RETRY returns it to OFF (R182, R321, R322, R960, Table 06-3). -/
def Obligations.GroupPower : Prop :=
  (∀ (s : State) (g : Nat) (sh : Shot), s.Quiet → g < 32 → s.dev.jq.queue.find? (fun x => s.dev.shotLights s.env x g) = some sh →
    s.dev.wakeDue s.env sh g = true → (s.dev.o O.RX_GROUP_STATE g = 0 ∨ s.dev.o O.RX_GROUP_STATE g = 2) →
    Leads (.wakeRequest g) s (fun t => t.dev.o O.RX_GROUP_STATE g = 1 ∧ tget 0 t.dev.rx.wakeAt g = s.clock.time ∧
      tget 0 t.dev.rx.wakeFrom g = s.dev.o O.RX_GROUP_STATE g)) ∧
  (∀ (s : State) (g : Nat), s.Quiet → g < 32 →
    (s.dev.o O.RX_GROUP_STATE g = 1 → tget 0 s.dev.rx.stepHeld g = 0 → tget 0 s.dev.rx.wakeFrom g = 2 →
      tget 0 s.dev.rx.wakeAt g + 300 ≤ s.clock.time → s.dev.calPass g = none → ∀ ok, Leads (.groupWakeDone g ok) s (fun t => t.dev.o O.RX_GROUP_STATE g = 3)) ∧
    (s.dev.o O.RX_GROUP_STATE g = 1 → tget 0 s.dev.rx.stepHeld g = 0 → tget 0 s.dev.rx.wakeFrom g = 0 →
      tget 0 s.dev.rx.wakeAt g + 60000 ≤ s.clock.time → s.dev.calPass g = none →
      Leads (.groupWakeDone g true) s (fun t => t.dev.o O.RX_GROUP_STATE g = 3)) ∧
    (s.dev.o O.RX_GROUP_STATE g = 1 → tget 0 s.dev.rx.wakeFrom g = 0 → tget 0 s.dev.rx.wakeAt g + 150000 ≤ s.clock.time →
      Leads (.groupWakeFail g) s (fun t => t.dev.o O.RX_GROUP_STATE g = 4)) ∧
    (∀ h, Accepts s h O.RX_GROUP_RETRY g 1 → s.dev.o O.RX_GROUP_STATE g = 4 →
      Leads (.rxGroupRetry h g) s (fun t => t.dev.o O.RX_GROUP_STATE g = 0)))

/-- The boundary of a shot whose groups are ACTIVE comes when it is due: the shot goes into flight, with its emission one pre-fire
sequence later (R35, R36). -/
def Obligations.ShotBoundaryPutsTheShotInFlight : Prop :=
  ∀ (s : State) (sh : Shot) (m : BoundMeas), s.Quiet → s.dev.o O.JQ_STATE = 2 → s.dev.jq.flight = none → s.dev.jq.queue = [sh] →
    sh.move = false → sh.thinned = false → sh.frameFirst = false → sh.acc = none → sh.lineChange = false →
    s.dev.shadows = [] → s.dev.domShadows = [] → s.dev.commit = none → s.dev.ob O.TW_ENABLE = false → s.dev.cal.pass = [] →
    s.dev.cal.due = 0 → s.dev.cal.req = 0 → s.dev.rx.switches = [] → s.dev.groupsAsleep s.env sh = false →
    sh.planned - s.dev.prefireCp ≤ 2 * s.clock.time + 1 →
    Leads (.shotBoundary m) s (fun t => ∃ f, t.dev.jq.flight = some f ∧ t.dev.jq.queue = [] ∧ f.shot.ent = sh.ent ∧
      f.bound = max (sh.planned - s.dev.prefireCp) (2 * s.clock.time) ∧ f.emit = f.bound + s.dev.prefireCp ∧
      f.fires = false ∧ f.emitted = false)

/-- At fire commit a shot fires, with the lines and cathodes that are not barred, where the mirror is on target, Hawkmoth is ARMED
with no condition present, the mirror travels, and every bucket has room; a shot that comes outside ARMED and HOLD is counted as
refused by Hawkmoth and is no longer in flight (R37, R191, R274, R281 to R283). -/
def Obligations.FireCommitDecides : Prop :=
  ∀ (s : State) (f : Flight), s.Quiet → s.dev.o O.JQ_STATE = 2 → s.dev.jq.flight = some f → f.committed = false →
    f.fires = false → f.emit - 240 ≤ 2 * s.clock.time + 1 → (s.atFireCommit []).angleOff f.shot.ent = false →
    ((s.atFireCommit []).hmRefusal s.env ((s.atFireCommit []).flightCharges f) = none →
      Leads (.fireCommit []) s (fun t => t.dev.jq.flight = some (f.passed (s.atFireCommit [])))) ∧
    ((s.atFireCommit []).o O.HM_STATE ≠ 2 → (s.atFireCommit []).o O.HM_STATE ≠ 3 →
      Leads (.fireCommit []) s (fun t => t.dev.jq.flight = none ∧
        t.dev.o O.JQ_SUPP_HAWKMOTH = ctrAdd O.JQ_SUPP_HAWKMOTH 0 (s.dev.o O.JQ_SUPP_HAWKMOTH) 1))

/-- No pulse leaves but of a shot that Hawkmoth has let through: if the emission that follows a fire commit drives the KD outputs,
then at that fire commit the mirror was on target, Hawkmoth was ARMED with every condition evaluated, the mirror's travel test
passed, and every bucket of the shot's sets had room for its charge (R37, R191, R274, R281, R283, R956). -/
def Obligations.OnlyArmedShotsEmit : Prop :=
  ∀ (s t u : State) (f : Flight) (parity : List Nat) (m : EmitMeas), s.dev.o O.JQ_STATE = 2 → s.Quiet → t.Quiet →
    s.dev.jq.flight = some f → f.fires = false →
    exec (.fireCommit parity) s = .next t → exec (.emission m) t = .next u →
    (∃ kds ps, Out.pulses kds ps ∈ u.dev.sent) →
    (s.atFireCommit parity).angleOff f.shot.ent = false ∧ (s.atFireCommit parity).o O.HM_STATE = 2 ∧
      (s.atFireCommit parity).travelOk s.env = true ∧
      (s.atFireCommit parity).bucketTest ((s.atFireCommit parity).flightCharges f) = true

/-- The emission of a shot that fires drives the KD outputs with the pulses of its code, and its windows open; a shot that
passed fire commit and emits nothing, after an inhibit or with every line or cathode of it barred, is SUPPRESSED with
HAWKMOTH and counted as cut, and its windows run (R236, R237, R40, R39, R261, R281; that the windows of a shot without a
pulse open is the model's reading, log entries 175 and 176). When the windows of the shot in flight close, the shot is over
and no window is left (R183, R355). -/
def Obligations.EmissionAndTheEndOfTheShot : Prop :=
  (∀ (s : State) (f : Flight) (m : EmitMeas), s.Quiet → s.dev.o O.JQ_STATE = 2 → s.dev.jq.flight = some f → f.fires = true →
    f.emitted = false → f.emit ≤ 2 * s.clock.time + 1 →
    (f.inhibited = false → f.an ≠ 0 → f.kd ≠ 0 → m.left = none → f.shot.acc = none → entTrig f.shot.ent = false →
      s.dev.ob O.TW_ENABLE = false →
      Leads (.emission m) s (fun t =>
        t.dev.sent = [.pulses (s.dev.kdTrims f.kd) (codePulses (s.dev.o O.EM_CODE (entCode f.shot.ent)))] ∧
        t.dev.em.lastEmit = f.emit ∧ ∃ f', t.dev.jq.flight = some f' ∧ f'.emitted = true ∧ f'.wins = true ∧ f'.shot = f.shot)) ∧
    (f.inhibited = true ∨ f.an = 0 ∨ f.kd = 0 →
      Leads (.emission m) s (fun t => t.dev.em.lastEmit = s.dev.em.lastEmit ∧ (f.inhibited = true → t.dev.sent = []) ∧
        t.dev.o O.HM_CUT_SHOTS = ctrAdd O.HM_CUT_SHOTS 0 (s.dev.o O.HM_CUT_SHOTS) 1 ∧
        ∃ f', t.dev.jq.flight = some f' ∧ f'.supp = some 2 ∧ f'.wins = true ∧ f'.shot = f.shot))) ∧
  (∀ (s : State) (f : Flight) (m : CloseMeas), s.Quiet → s.dev.o O.JQ_STATE = 2 → s.dev.jq.flight = some f → f.wins = true →
    f.emit + windowCp (entWclass f.shot.ent) ≤ 2 * s.clock.time + 1 → s.dev.jq.queue = [] →
    Leads (.windowClose m) s (fun t => t.dev.jq.flight = none ∧ t.dev.rx.windows = []))

/-- With frames synchronised to SYNC_IN, an edge later than half a period after the origin, and no later than 1.5 periods after it,
sets the next origin 50 µs later; with none by 1.5 periods the origin advances by one period and the miss is counted, whether the
miss or a later edge shows it first, and that edge fixes the origin after (R169, R170). -/
def Obligations.FrameSynchronisation : Prop :=
  ∀ s : State, s.Quiet → s.dev.o O.JQ_STATE ≠ 0 → s.dev.o O.JQ_FRAME_SYNC = 1 → s.dev.jq.originNext = none →
    s.dev.jq.originLater = [] →
    (s.dev.jq.origin + 1500 * s.dev.o O.JQ_FRAME_PERIOD < 2 * s.clock.time →
      2 * s.clock.time ≤ s.dev.jq.origin + 4500 * s.dev.o O.JQ_FRAME_PERIOD →
      Leads .syncInEdge s (fun t => t.dev.jq.originNext = some (2 * s.clock.time + 150000) ∧
        t.dev.o O.JQ_SYNC_MISSED = s.dev.o O.JQ_SYNC_MISSED)) ∧
    (s.dev.jq.origin + 4500 * s.dev.o O.JQ_FRAME_PERIOD < 2 * s.clock.time →
      2 * s.clock.time ≤ s.dev.jq.origin + 7500 * s.dev.o O.JQ_FRAME_PERIOD →
      Leads .syncInEdge s (fun t =>
        t.dev.jq.originNext = some (s.dev.jq.origin + 3000 * s.dev.o O.JQ_FRAME_PERIOD) ∧
        t.dev.jq.originLater = [2 * s.clock.time + 150000] ∧
        t.dev.o O.JQ_SYNC_MISSED = ctrAdd O.JQ_SYNC_MISSED 0 (s.dev.o O.JQ_SYNC_MISSED) 1)) ∧
    (s.dev.jq.origin + 4500 * s.dev.o O.JQ_FRAME_PERIOD ≤ 2 * s.clock.time →
      Leads .frameSyncMissed s (fun t =>
        t.dev.jq.originNext = some (s.dev.jq.origin + 3000 * s.dev.o O.JQ_FRAME_PERIOD) ∧
        t.dev.o O.JQ_SYNC_MISSED = ctrAdd O.JQ_SYNC_MISSED 0 (s.dev.o O.JQ_SYNC_MISSED) 1))

/-- A write of 1 to JQ_SWAP_REQ checks the inactive bank; while Jacquard runs the swap becomes pending, while it is STOPPED
the active bank changes at once; a write of 0 cancels a pending swap; a request held for a frame decision executes after it
(R80, R203, R204, R206 to R208). A patch that is well formed and keeps clear of the walk is written whole to its entries
(R212 to R215). -/
def Obligations.BanksSwapAndPatch : Prop :=
  (∀ (s : State) (h : Hdr), s.Quiet →
    (Accepts s h O.JQ_SWAP_REQ 0 1 → s.dev.bankCheck s.dev.otherBank = none →
      (s.dev.o O.JQ_STATE ≠ 0 → Leads (.jqSwapRequest h) s (fun t => t.dev.swapPending = true ∧
        t.dev.o O.JQ_SWAP_FAULT_ENTRY = 0xFFFF ∧ t.dev.o O.JQ_ACTIVE_BANK = s.dev.o O.JQ_ACTIVE_BANK)) ∧
      (s.dev.o O.JQ_STATE = 0 → Leads (.jqSwapRequest h) s (fun t =>
        t.dev.o O.JQ_ACTIVE_BANK = 1 - s.dev.o O.JQ_ACTIVE_BANK ∧ t.dev.o O.JQ_SWAP_TIME = s.clock.time))) ∧
    (Accepts s h O.JQ_SWAP_REQ 0 0 → s.dev.o O.JQ_STATE ≠ 0 → s.dev.lock.staged = {} → s.dev.commit = none →
      Leads (.jqSwapCancel h) s (fun t => t.dev.swapPending = false)) ∧
    (∀ n m, n < 5 → s.dev.ses.length = 5 → (s.dev.sess n).held = some m → m.req.sess = n → m.op = 2 →
      m.req.index = O.JQ_SWAP_REQ → s.dev.frameDecided = false → s.dev.serves n = true →
      Leads (.heldSwapExecute n) s (fun t => (t.dev.sess n).held = none ∧ ∃ a, Answered s t m a))) ∧
  (∀ (s : State) (h : Hdr) (bs : Bytes), s.Quiet → Served s h O.JQ_PATCH → s.dev.o O.LOCK_OWNER = 0xFF → s.dev.commit = none →
    patchOk bs = true → s.dev.patchClose bs = false →
    Leads (.jqPatch h (leBytes 4 bs.length ++ bs ++ leBytes 4 (crc32 bs))) s (fun t =>
      ∀ i, i < bs.length - 16 →
        t.dev.domByte (O.JQ_BANK_0 + fieldAt bs 0 1) 0 (16 * fieldAt bs 2 2 + i) = bs.getD (16 + i) 0))

/-! ### Receive front end and echo timing (chapters 06 and 07) -/

/-- While Jacquard is STOPPED a takeover puts a position on its group's Skipper at once, a return puts it back on its home slice
and lets a repair that waited for it land, and a repair puts a position on the Skipper for good (R335, R336, R340, R344). -/
def Obligations.SkipperServes : Prop :=
  ∀ (s : State) (h : Hdr) (g pos : Nat), s.Quiet → g < 32 → pos < 16 → s.dev.o O.JQ_STATE = 0 → s.dev.rx.switches = [] →
    (Accepts s h O.RX_SKIP_REQ g pos → Leads (.rxSkipTakeover h g pos) s (fun t =>
      t.dev.o O.RX_SLICE_OF (16 * g + pos) = 512 + g ∧ t.dev.o O.RX_SKIP_REQ g = pos ∧
      t.dev.o O.RX_TAKEOVERS g = ctrAdd O.RX_TAKEOVERS g (s.dev.o O.RX_TAKEOVERS g) 1)) ∧
    (Accepts s h O.RX_SKIP_REQ g 0xFF → tget 0 s.dev.rx.holder g = 2 → s.dev.skipChan g = some (16 * g + pos) →
      (tget none s.dev.shadows (okey O.RX_REPAIR g) = none → Leads (.rxSkipReturn h g) s (fun t =>
        t.dev.o O.RX_SLICE_OF (16 * g + pos) = 16 * g + pos ∧ tget 0 t.dev.rx.holder g = 0)) ∧
      (∀ v, v < 16 → tget none s.dev.shadows (okey O.RX_REPAIR g) = some v → s.dev.o O.RX_REPAIR g = 0xFF →
        Leads (.rxSkipReturn h g) s (fun t => t.dev.o O.RX_REPAIR g = v ∧ tget 0 t.dev.rx.holder g = 3 ∧
          t.dev.o O.RX_SLICE_OF (16 * g + v) = 512 + g))) ∧
    (Accepts s h O.RX_REPAIR g pos → tget 0 s.dev.rx.holder g = 0 → s.dev.o O.RX_REPAIR g = 0xFF →
      Leads (.rxRepair h g pos) s (fun t => t.dev.o O.RX_REPAIR g = pos ∧ t.dev.o O.RX_SLICE_OF (16 * g + pos) = 512 + g ∧
        t.dev.o O.RX_SLICE_STATUS (16 * g + pos) = 2))

/-- BLANK_N low for 10 ns or more makes a masked span from its lead before the fall to its guard after the rise; a shorter
pulse makes none (R317). An input above 1.2 V is isolated and marked SHORT_BIAS; the dark-rate watch ends its sub-interval
with each channel's count over the last nine (R329, R331). -/
def Obligations.VoileAndInputWatch : Prop :=
  (∀ (s : State) (x : Nat), s.Quiet → x < 64 →
    (s.dev.rx.blankLow = none → Leads (.blankNFall x) s (fun t => t.dev.rx.blankLow = some (64 * s.clock.time + x))) ∧
    (∀ f, s.dev.rx.blankLow = some f → f + 960 ≤ 64 * s.clock.time + x →
      Leads (.blankNRise x) s (fun t => t.dev.rx.blankLow = none ∧
        (f - 96 * s.dev.o O.RX_VOILE_LEAD_NS, 64 * s.clock.time + x + 96 * s.dev.o O.RX_VOILE_GUARD_NS) ∈ t.dev.rx.spans)) ∧
    (∀ f, s.dev.rx.blankLow = some f → 64 * s.clock.time + x < f + 960 →
      Leads (.blankNRise x) s (fun t => t.dev.rx.blankLow = none ∧ ∀ p ∈ t.dev.rx.spans, p ∈ s.dev.rx.spans))) ∧
  (∀ (s : State) (ch : Nat), s.Quiet → ch < s.env.channels →
    (s.dev.o O.RX_GROUP_STATE (ch / 16) ≠ 0 → s.dev.o O.RX_INPUT_STATUS ch ≠ 3 →
      Leads (.inputShortBias ch) s (fun t => t.dev.o O.RX_INPUT_STATUS ch = 3 ∧ bit t.dev.rx.isolated ch = true)) ∧
    (s.dev.ob O.RX_WATCH_EN = true → s.dev.rx.watchAt + 150000000 ≤ s.clock.time →
      Leads .darkRateWatch s (fun t => t.dev.rx.watchAt = s.dev.rx.watchAt + 150000000 ∧ t.dev.rx.dkCount = [] ∧
        tget [] t.dev.rx.dkHist ch =
          ((tget 0 s.dev.rx.dkCount ch, tget 0 s.dev.rx.dkWins ch) :: tget [] s.dev.rx.dkHist ch).take 9 ∧
        t.dev.o O.RX_DARK_RATE ch = t.dev.darkSum ch)))

/-- A bias output: the end of its ramp, its current limit and the three faults that turn it off, its open warning, and what VHV below
9 V does to it until it recovers (R325, R327, Table 06-5). -/
def Obligations.BiasOutputs : Prop :=
  ∀ (s : State) (b : Nat), s.Quiet → b < 8 →
    (s.dev.o O.RX_BIAS_STATUS b = 1 → (tget {} s.dev.rx.bias b).rampFrom = s.dev.o O.RX_BIAS_TARGET_MV b →
      (tget {} s.dev.rx.bias b).rampAt ≤ s.clock.time → Leads (.biasRampDone b) s (fun t => t.dev.o O.RX_BIAS_STATUS b = 2)) ∧
    ((s.dev.o O.RX_BIAS_STATUS b = 1 ∨ s.dev.o O.RX_BIAS_STATUS b = 2 ∨ s.dev.o O.RX_BIAS_STATUS b = 7) →
      Leads (.biasCurrentLimit b true) s (fun t => t.dev.o O.RX_BIAS_STATUS b = 3 ∧
        tget {} t.dev.rx.bias b =
          { (tget {} s.dev.rx.bias b) with limitAt := s.clock.time, back := s.dev.o O.RX_BIAS_STATUS b,
                                           rampFrom := if s.dev.o O.RX_BIAS_STATUS b = 1 then s.dev.biasPos s.env b
                                             else (tget {} s.dev.rx.bias b).rampFrom })) ∧
    (s.dev.o O.RX_BIAS_STATUS b = 3 →
      Leads (.biasCurrentLimit b false) s (fun t => t.dev.o O.RX_BIAS_STATUS b = (tget {} s.dev.rx.bias b).back)) ∧
    (s.dev.o O.RX_BIAS_STATUS b = 3 → (tget {} s.dev.rx.bias b).limitAt + 1500000 ≤ s.clock.time →
      Leads (.biasOvercurrentFault b) s (fun t => t.dev.o O.RX_BIAS_STATUS b = 4)) ∧
    (s.dev.o O.RX_BIAS_STATUS b ∈ [1, 2, 3, 7] → Leads (.biasOvervoltageFault b) s (fun t => t.dev.o O.RX_BIAS_STATUS b = 5)) ∧
    (s.dev.o O.RX_BIAS_STATUS b ∈ [2, 7] → Leads (.biasUndervoltageFault b) s (fun t => t.dev.o O.RX_BIAS_STATUS b = 6)) ∧
    (s.dev.o O.RX_BIAS_STATUS b = 2 → (∃ i, i < 4 ∧ s.dev.o O.RX_GROUP_STATE (4 * b + i) = 3) →
      Leads (.biasOpenWarn b) s (fun t => t.dev.o O.RX_BIAS_STATUS b = 7)) ∧
    (s.dev.o O.RX_BIAS_STATUS b ∈ [1, 2, 3, 7] →
      Leads .biasVhvLow s (fun t => t.dev.o O.RX_BIAS_STATUS b = 0 ∧ (tget {} t.dev.rx.bias b).vhvOff = true ∧ t.dev.rx.vhvLow = true)) ∧
    ((tget {} s.dev.rx.bias b).vhvOff = true → s.dev.ob O.RX_BIAS_ENABLE b = true →
      Leads .biasVhvRecovery s (fun t => t.dev.o O.RX_BIAS_STATUS b = 1 ∧ (tget {} t.dev.rx.bias b).vhvOff = false)) ∧
    (∀ h, Accepts s h O.RX_BIAS_ENABLE b 0 → Leads (.rxBiasEnable h b 0) s (fun t => t.dev.o O.RX_BIAS_STATUS b = 0 ∧
      t.dev.o O.RX_BIAS_ENABLE b = 0)) ∧
    (∀ h, Accepts s h O.RX_BIAS_ENABLE b 1 → s.dev.o O.RX_BIAS_STATUS b = 7 →
      Leads (.rxBiasEnable h b 1) s (fun t => t.dev.o O.RX_BIAS_STATUS b = 2)) ∧
    (∀ h, Accepts s h O.RX_BIAS_ENABLE b 1 → s.dev.o O.RX_BIAS_STATUS b ∈ [0, 4, 5, 6] → s.dev.rx.vhvLow = false →
      Leads (.rxBiasEnable h b 1) s (fun t => t.dev.o O.RX_BIAS_STATUS b = 1 ∧ t.dev.o O.RX_BIAS_ENABLE b = 1 ∧
        (tget {} t.dev.rx.bias b).rampFrom = 0 ∧ (tget {} t.dev.rx.bias b).rampAt = s.clock.time))

/-- A comparator of an open window: a rising crossing inside the stamp span is stamped with its time in 1/16 LSB while R369
leaves room, is ignored and counted where it leaves none, and within a merge hold-off takes the held falling stamp away; a
held stamp leaves at the end of its hold-off (R351, R364, R365, R369, R371, R376). Eight implausible calibrations in a row
silence a slice's windows, 1,024 make it FAULTY (or repaired at once), sixteen missed emission stamps are logged at most
once per second; the statistics engine starts from nothing, goes on where it runs, and is abandoned with what it has (R378,
R379, R383, R394, Table 07-4). -/
def Obligations.CrossingsAndTiming : Prop :=
  (∀ (s : State) (f : Flight) (w : Win) (ch th : Nat), s.Quiet → s.dev.jq.flight = some f → f.wins = true →
    s.dev.win ch = some w → th < 3 → w.cmps.length = 3 →
    (∀ k r, w.silent = false → s.dev.muted ch = false → w.opened = true → w.closed = false →
      (s.dev.stampLo : Int) ≤ timeOf (s.dev.s16Of w.slice k r) →
      timeOf (s.dev.s16Of w.slice k r) < (s.dev.stampHi (windowCp (entWclass f.shot.ent)) : Int) →
      ((w.cmp th).hold = none → w.load + 2 ≤ 24 →
        Leads (.comparatorCrossing ch th true k r false) s (fun t => ∃ w', t.dev.win ch = some w' ∧
          w'.stamps = { th := th, rise := true, s16 := s.dev.s16Of w.slice k r,
                        nf := s.dev.nfMark (s.dev.s16Of w.slice k r), sat := false, trunc := false } :: w.stamps ∧
          (w'.cmp th).high = true ∧ (w'.cmp th).stamped = true)) ∧
      ((w.cmp th).hold = none → 24 < w.load + 2 → w.ovf = false →
        Leads (.comparatorCrossing ch th true k r false) s (fun t => ∃ w', t.dev.win ch = some w' ∧ w'.stamps = w.stamps ∧
          (w'.cmp th).ignored = true ∧ w'.ovf = true ∧
          t.dev.o O.TDC_OVF_WINDOWS ch = ctrAdd O.TDC_OVF_WINDOWS ch (s.dev.o O.TDC_OVF_WINDOWS ch) 1)) ∧
      (∀ x, (w.cmp th).hold = some x → s.dev.s16Of w.slice k r < x.s16 + 512 * (s.dev.o O.TDC_MERGE_CP th : Int) →
        Leads (.comparatorCrossing ch th true k r false) s (fun t => ∃ w', t.dev.win ch = some w' ∧ w'.stamps = w.stamps ∧
          (w'.cmp th).hold = none ∧ (w'.cmp th).high = true ∧
          t.dev.o O.TDC_MERGES ch = ctrAdd O.TDC_MERGES ch (s.dev.o O.TDC_MERGES ch) 1))) ∧
    (∀ x, (w.cmp th).hold = some x →
      512 * (f.emit : Int) + x.s16 + 512 * (s.dev.o O.TDC_MERGE_CP th : Int) ≤ 1024 * (s.clock.time : Int) + 1023 →
      Leads (.mergeHoldExpiry ch th) s (fun t => ∃ w', t.dev.win ch = some w' ∧ w'.stamps = x :: w.stamps ∧
        (w'.cmp th).hold = none))) ∧
  (∀ s : State, s.Quiet →
    (∀ slice, 8 ≤ tget 0 s.dev.tdc.implaus slice → Leads (.interpCalStall slice) s (fun t =>
      t.dev.rx.windows.length = s.dev.rx.windows.length ∧
      ∀ w ∈ t.dev.rx.windows, w.slice = slice → w.silent = true ∧ w.stamps = [])) ∧
    (∀ slice, slice < 544 → 1024 ≤ tget 0 s.dev.tdc.implaus slice → s.dev.o O.RX_SLICE_STATUS slice ≠ 1 →
      Leads (.sliceInterpFaulty slice) s (fun t => t.dev.o O.RX_SLICE_STATUS slice ∈ [1, 2] ∧ Logged s t 0x0501 2 ∧
        (s.dev.ob O.CAL_AUTO_REPAIR = false → t.dev.o O.RX_SLICE_STATUS slice = 1))) ∧
    (16 ≤ s.dev.tdc.misses → (∀ x, s.dev.tdc.missLog = some x → x + 1500000000 ≤ s.clock.time) →
      Leads .emitStampLoss s (fun t => t.dev.tdc.missLog = some s.clock.time ∧ Logged s t 0x0502 2)) ∧
    (∀ h, Accepts s h O.TDC_STAT_START 0 1 → s.dev.o O.TDC_STAT_STATE = 1 → Leads (.tdcStatStart h) s (fun t =>
      t.dev.o O.TDC_STAT_STATE = 1 ∧ t.dev.o O.TDC_STAT_HITS = s.dev.o O.TDC_STAT_HITS ∧ t.dev.tdc = s.dev.tdc)) ∧
    (∀ h, Accepts s h O.TDC_STAT_START 0 1 → s.dev.o O.TDC_STAT_STATE ≠ 1 → Leads (.tdcStatStart h) s (fun t => t.dev.o O.TDC_STAT_STATE = 1 ∧
      t.dev.o O.TDC_STAT_HITS = 0 ∧ t.dev.o O.TDC_STAT_MISSES = 0 ∧ t.dev.o O.TDC_STAT_MEAN = 0)) ∧
    (∀ h, Accepts s h O.TDC_STAT_START 0 0 → s.dev.o O.TDC_STAT_STATE = 1 →
      Leads (.tdcStatAbandon h) s (fun t => t.dev.o O.TDC_STAT_STATE = 0 ∧
        t.dev.o O.TDC_STAT_HITS = s.dev.o O.TDC_STAT_HITS ∧ t.dev.tdc = s.dev.tdc)))

/-! ### Extraction and Ringlet (chapters 08 and 09) -/

/-- The readout of a channel of a closed group clears its histogram and leaves it read; a shot header packet closes 10 µs
after its first header; the oldest observation is classified and leaves, counted once (R414, R446, R481). A requested ring
block arrives in the ring cache, its rings void where the answer is poisoned; the sweep takes one 32nd of the rings a frame
(R485, R488, R491). A generation step adds 1 to RL_GEN and passes over A5: RL_RESET takes one while Jacquard is STOPPED, and
waits for the frame boundary while it runs; RL_GEOMETRY takes one when its value changes; after training the cleared ring
region reads zero and Ringlet is READY (R474, R492 to R494). -/
def Obligations.ExtractionAndRinglet : Prop :=
  (∀ s : State, s.Quiet →
    (∀ ch par inst g, ch < 512 → s.dev.ex.groups.find? (fun p => p.2.closed && bit p.2.toRead ch) = some (inst, g) →
      bits g.toRead (ch / 64 * 64) (ch % 64) = 0 → g.closeAt + 128 * (tilePlace g.chans ch + 1) ≤ s.clock.time →
      Leads (.histogramReadoutDone ch par) s (fun t => (∀ b, b < 4096 → tget 0 t.dev.ex.bins (binKey ch b) = 0) ∧
        (∀ p ∈ t.dev.ex.groups, p.1 = inst → bit p.2.toRead ch = false))) ∧
    (s.dev.ex.hdrs ≠ [] → s.dev.ex.hdrAt + 15000 ≤ s.clock.time →
      Leads .shotHeaderPacketTimeout s (fun t => t.dev.ex.hdrs = [] ∧ (s.dev.linkUp = true →
        t.dev.link.txq = s.dev.link.txq ++ [{ ty := 2, data := s.dev.ex.hdrs.flatMap (leBytes 16) }]))) ∧
    (∀ ecc x rest, s.dev.ex.obs = x :: rest → x.chan < 512 → Leads (.echoClassify ecc) s (fun t => t.dev.ex.obs = rest ∧
      t.dev.o O.RL_OBS = ctrAdd O.RL_OBS 0 (s.dev.o O.RL_OBS) 1))) ∧
  (∀ s : State, s.Quiet →
    (∀ blk p ecc n out, blk ∈ s.dev.rl.wanted → s.dev.ob O.RL_ENABLE = true → s.dev.cachePlace = some (n, out) →
      Leads (.ringBlockArrival blk ⟨p, ecc⟩) s (fun t => t.dev.cached blk = true ∧ t.dev.rl.wanted = s.dev.rl.wanted.erase blk ∧
        (p = true → (∀ l ∈ s.dev.rl.late, blockOf l.ring ≠ blk) →
          ∀ r j, blockOf r = blk → j < 8 → 8 * r + j ∈ t.dev.rl.voided))) ∧
    (s.dev.o O.JQ_STATE ≠ 0 → s.dev.o O.RL_STATE = 2 → s.dev.ob O.RL_ENABLE = true →
      s.dev.rl.sweepFrame ≠ some (s.dev.o O.RL_FRAME) →
      Leads .ringletSweep s (fun t => t.dev.rl.sweep = (s.dev.rl.sweep + 1) % 32 ∧
        t.dev.rl.sweepFrame = some (s.dev.o O.RL_FRAME) ∧
        (s.dev.rl.sweep = 31 → t.dev.o O.RL_SWEEP_PASS = ctrAdd O.RL_SWEEP_PASS 0 (s.dev.o O.RL_SWEEP_PASS) 1)))) ∧
  (∀ (s : State) (h : Hdr), s.Quiet →
    (Accepts s h O.RL_RESET 0 1 → s.dev.o O.JQ_STATE = 0 → Leads (.rlReset h) s (fun t => t.dev.o O.RL_GEN =
      if (s.dev.o O.RL_GEN + 1) % 256 = 0xA5 then 0xA6 else (s.dev.o O.RL_GEN + 1) % 256)) ∧
    (Accepts s h O.RL_RESET 0 1 → s.dev.o O.JQ_STATE ≠ 0 → Leads (.rlReset h) s (fun t =>
      t.dev.o O.RL_GEN = s.dev.o O.RL_GEN ∧ tget none t.dev.shadows (okey O.RL_RESET 0) = some 1)) ∧
    (∀ v, Accepts s h O.RL_GEOMETRY 0 v → v ≠ s.dev.o O.RL_GEOMETRY → Leads (.rlGeometry h v) s (fun t =>
      t.dev.o O.RL_GEOMETRY = v ∧ t.dev.o O.RL_GEN =
        if (s.dev.o O.RL_GEN + 1) % 256 = 0xA5 then 0xA6 else (s.dev.o O.RL_GEN + 1) % 256)) ∧
    (Accepts s h O.RL_GEOMETRY 0 (s.dev.o O.RL_GEOMETRY) → Leads (.rlGeometry h (s.dev.o O.RL_GEOMETRY)) s (fun t =>
      t.dev.o O.RL_GEN = s.dev.o O.RL_GEN)) ∧
    (s.dev.o O.RL_STATE = 1 → Leads .ringletClearDone s (fun t => t.dev.o O.RL_STATE = 2 ∧
      ∀ a, ringBase ≤ a → a < ringBase + ringSize → s.dev.chOffline (s.dev.chanOf a) = false → t.dev.gByte a = 0)))

/-! ### Waveform capture (chapter 10) -/

/-- A digitiser slice powers up and is READY 20 µs later with its chain synchronised, or FAILED after 100 µs; powered down
it is OFF with its domain; DG_PAIR_MODE interleaves a pair, whose odd chain reads IDLE (R504, R505, R508, R511, R525). A
bank swap of a running chain starts a cross-fade, during a fade it waits, and on a chain that is filling or idle it takes
effect at once; the end of a fade puts its bank in force and starts the pending swap; FILT_SYNC synchronises exactly the
chains of its mask that take samples; once N outputs have passed the chain is RUN (R520, R521, R523 to R526). -/
def Obligations.DigitisersAndFilters : Prop :=
  (∀ (s : State) (h : Hdr) (n : Nat), s.Quiet → n < 32 →
    (Accepts s h O.DG_POWER n 1 → s.dev.o O.DG_STATE n = 0 → Leads (.dgPowerOn h n) s (fun t =>
      t.dev.o O.DG_STATE n = 1 ∧ t.dev.o O.DG_POWER n = 1 ∧ tget 0 t.dev.acq.wakeAt n = s.clock.time)) ∧
    (Accepts s h O.DG_POWER n 0 → Leads (.dgPowerOff h n) s (fun t =>
      t.dev.o O.DG_STATE n = 0 ∧ t.dev.o O.DG_POWER n = 0 ∧ t.dev.o O.PWR_DOM_STATE (32 + n) = 0)) ∧
    (s.dev.o O.DG_STATE n = 1 → tget 0 s.dev.acq.wakeAt n + 30000 ≤ s.clock.time → s.dev.paired n = false →
      Leads (.digitiserReady n) s (fun t => t.dev.o O.DG_STATE n = 2 ∧ t.dev.o O.FILT_STATE n = 0 ∧
        (t.dev.chain n).syncAt = 2 * s.clock.time + 1 ∧
        t.dev.o O.FILT_SYNCS n = ctrAdd O.FILT_SYNCS n (s.dev.o O.FILT_SYNCS n) 1)) ∧
    (s.dev.o O.DG_STATE n = 1 → tget 0 s.dev.acq.wakeAt n + 150000 ≤ s.clock.time →
      Leads (.digitiserFailed n) s (fun t => t.dev.o O.DG_STATE n = 3 ∧ Logged s t 0x0801 2)) ∧
    (∀ p v, p < 16 → s.dev.o O.JQ_STATE = 0 → Accepts s h O.DG_PAIR_MODE p v → Leads (.dgPairMode h p v) s (fun t =>
      t.dev.o O.DG_PAIR_MODE p = v ∧ (v = 1 → s.dev.o O.DG_PAIR_MODE p ≠ 1 → t.dev.o O.FILT_STATE (2 * p + 1) = 3)))) ∧
  (∀ (s : State) (h : Hdr) (c : Nat), s.Quiet → c < 32 →
    (∀ v, Accepts s h O.FILT_SWAP_REQ c v →
      (s.dev.o O.FILT_STATE c = 2 → Leads (.filtSwapReq h c v) s (fun t => t.dev.o O.FILT_SWAP_REQ c = v ∧
        t.dev.o O.FILT_BANK c = s.dev.o O.FILT_BANK c)) ∧
      (s.dev.o O.FILT_STATE c = 0 → Leads (.filtSwapReq h c v) s (fun t =>
        t.dev.o O.FILT_BANK c = v ∧ (t.dev.chain c).target = v)) ∧
      (s.dev.o O.FILT_STATE c = 3 → Leads (.filtSwapReq h c v) s (fun t => t.dev.o O.FILT_BANK c = v)) ∧
      (s.dev.o O.FILT_STATE c = 1 → v ≠ s.dev.o O.FILT_BANK c → s.dev.o O.FILT_XFADE_LEN c ≠ 0 →
        Leads (.filtSwapReq h c v) s (fun t => t.dev.o O.FILT_STATE c = 2 ∧ (t.dev.chain c).target = v ∧
          (t.dev.chain c).old = bankAfter (s.dev.chain c).now.bank (s.dev.chain c).now.fades ∧
          (t.dev.chain c).start = s.dev.outIndex c (2 * s.clock.time + 1) + 1 ∧
          (t.dev.chain c).len = s.dev.o O.FILT_XFADE_LEN c))) ∧
    (s.dev.o O.FILT_STATE c = 2 → (s.dev.chain c).start + (s.dev.chain c).len ≤ s.dev.outIndex c (2 * s.clock.time + 1) →
      (s.dev.o O.FILT_SWAP_REQ c = 0xFF → Leads (.filtFadeEnd c) s (fun t => t.dev.o O.FILT_STATE c = 1 ∧
        t.dev.o O.FILT_BANK c = (s.dev.chain c).target)) ∧
      (s.dev.o O.FILT_SWAP_REQ c ≠ 0xFF → s.dev.o O.FILT_SWAP_REQ c ≠ (s.dev.chain c).target → s.dev.o O.FILT_XFADE_LEN c ≠ 0 →
        Leads (.filtFadeEnd c) s (fun t => t.dev.o O.FILT_STATE c = 2 ∧ t.dev.o O.FILT_BANK c = (s.dev.chain c).target ∧
          (t.dev.chain c).target = s.dev.o O.FILT_SWAP_REQ c ∧ t.dev.o O.FILT_SWAP_REQ c = 0xFF))) ∧
    (∀ m, Accepts s h O.FILT_SYNC 0 m →
      Leads (.filtSync h m) s (fun t => (bit m c = true → s.dev.chainOn c = true →
          t.dev.o O.FILT_STATE c = 0 ∧ (t.dev.chain c).syncAt = 2 * s.clock.time) ∧
        (bit m c = false → t.dev.chain c = s.dev.chain c ∧ t.dev.o O.FILT_STATE c = s.dev.o O.FILT_STATE c))) ∧
    (s.dev.o O.FILT_STATE c = 0 → (s.dev.chain c).syncAt ≤ 2 * s.clock.time + 1 →
      s.dev.fillLen c ≤ s.dev.outIndex c (2 * s.clock.time + 1) →
      Leads (.filtFillDone c) s (fun t => t.dev.o O.FILT_STATE c = 1)))

/-- Acquisition moves through its states as Table 10-6 says: it starts in REARM or STREAM_ONLY and stops with nothing held;
a capture that is DONE is released or dumped; REARM goes to FILLING, or to ARMED with no records to keep; POST ends DONE,
counted, and the end of a dump is DONE or, under AUTO, REARM (R543 to R546, R549). A trigger source that is enabled raises a
trigger, a crossing of ACQ_LEVEL at its output's attributed time, and the trigger of the lowest stamp is taken first: it
starts a capture in FILLING and ARMED and counts as missed in REARM, POST, DONE and DUMPING (R533, R534, R539, Table 10-6).
-/
def Obligations.Acquisition : Prop :=
  (∀ (s : State) (h : Hdr), s.Quiet →
    (Accepts s h O.ACQ_RUN 0 1 → s.dev.o O.ACQ_STATE = 0 → Leads (.acqRunStart h) s (fun t => t.dev.o O.ACQ_RUN = 1 ∧
      t.dev.o O.ACQ_STATE = if bit (s.dev.o O.ACQ_MODE) 1 then 1 else 7)) ∧
    (Accepts s h O.ACQ_RUN 0 0 → Leads (.acqRunStop h) s (fun t => t.dev.o O.ACQ_STATE = 0 ∧ t.dev.acq.held = [] ∧
      t.dev.acq.trig = none)) ∧
    (Accepts s h O.ACQ_ARM 0 1 → s.dev.o O.ACQ_STATE = 5 → Leads (.acqArm h) s (fun t => t.dev.o O.ACQ_STATE = 1 ∧
      t.dev.acq.held = [])) ∧
    (Accepts s h O.ACQ_DUMP 0 1 → s.dev.o O.ACQ_STATE = 5 → Leads (.acqDump h) s (fun t => t.dev.o O.ACQ_STATE = 6)) ∧
    (s.dev.o O.ACQ_STATE = 1 → Leads .acqRearmDone s (fun t => t.dev.o O.ACQ_STATE =
      if s.dev.o O.ACQ_PRE_COUNT = 0 then 3 else 2)) ∧
    (s.dev.o O.ACQ_STATE = 4 → s.dev.acq.trig ≠ none → s.dev.o O.ACQ_POST_COUNT ≤ s.dev.acq.posted →
      Leads .acqCaptureDone s (fun t => (t.dev.o O.ACQ_STATE = if s.dev.o O.ACQ_REARM = 1 then 6 else 5) ∧
        t.dev.o O.ACQ_CAPTURES = ctrAdd O.ACQ_CAPTURES 0 (s.dev.o O.ACQ_CAPTURES) 1)) ∧
    (s.dev.o O.ACQ_STATE = 6 → s.dev.link.txq.any (fun p => p.kind == 4) = false →
      s.dev.link.part.any (fun x => x.pkt.kind == 4) = false →
      (s.dev.link.flight.any (fun p => p.1.kind == 4) = false ∨ s.dev.link.endAt ≤ s.clock.time) →
      Leads .acqDumpDone s (fun t => t.dev.o O.ACQ_STATE = if s.dev.o O.ACQ_REARM = 1 then 1 else 5))) ∧
  (∀ (s : State) (h : Hdr), s.Quiet →
    ((∀ v, Accepts s h O.ACQ_TRIG_FORCE 0 v → bit (s.dev.o O.ACQ_TRIG_SRC) 1 = true → Leads (.acqTrigForce h v) s (fun t =>
        t.dev.acq.trigs = s.dev.acq.trigs ++ [{ time := s.clock.time, src := 3, rseq := s.dev.acq.rseq }])) ∧
      (bit (s.dev.o O.ACQ_TRIG_SRC) 0 = true → Leads .trigInEdge s (fun t =>
        t.dev.acq.trigs = s.dev.acq.trigs ++ [{ time := s.clock.time, src := 0, rseq := s.dev.acq.rseq }])) ∧
      (∀ i before y f x t64, bit (s.dev.o O.ACQ_TRIG_SRC) 2 = true → s.dev.crosses before y = true →
        s.dev.jq.flight = some f → f.wins = true → s.dev.chainOn (s.dev.o O.ACQ_LEVEL_SLICE) = true →
        x = (s.dev.chain (s.dev.o O.ACQ_LEVEL_SLICE)).now → x.stop = none → x.fill ≤ i → i ≤ x.index (2 * s.clock.time + 1) →
        t64 = 64 * x.syncAt + (64 * i + x.delay % 64) * 2 ^ x.dm / x.rate →
        64 * (f.emit + (s.dev.blockSpan f).1) ≤ t64 → t64 < 64 * (f.emit + (s.dev.blockSpan f).2) →
        Leads (.acqLevelCrossing ⟨i, before, y⟩) s (fun t =>
          t.dev.acq.trigs = s.dev.acq.trigs ++ [{ time := t64 / 128, src := 1, rseq := s.dev.acq.rseq }]))) ∧
    (∀ x, nextTrig s.dev.acq.trigs = some x →
      ((s.dev.o O.ACQ_STATE = 2 ∨ s.dev.o O.ACQ_STATE = 3) → Leads .acqTrigger s (fun t => t.dev.o O.ACQ_STATE = 4 ∧
        t.dev.acq.trig = some x ∧ t.dev.acq.preAct = min s.dev.acq.held.length (s.dev.o O.ACQ_PRE_COUNT) ∧
        t.dev.acq.trigs = s.dev.acq.trigs.erase x)) ∧
      (s.dev.o O.ACQ_STATE ∈ [1, 4, 5, 6] → Leads .acqTrigger s (fun t => t.dev.o O.ACQ_STATE = s.dev.o O.ACQ_STATE ∧
        t.dev.o O.ACQ_TRIG_MISSED = ctrAdd O.ACQ_TRIG_MISSED 0 (s.dev.o O.ACQ_TRIG_MISSED) 1))))

/-! ### Self-calibration (chapter 11) -/

/-- A pass of the group that is next in order begins with its Skipper slice: all slices at once while Jacquard is STOPPED, with the
Skipper taken for calibration while it runs; a slice that passes is recorded and the next one follows, one that fails is counted,
and the last one commits the pass; gap chunks add up; a request and an age make a group due (R555, R560 to R569, R572). -/
def Obligations.CalibrationPasses : Prop :=
  ∀ (s : State) (g : Nat), s.Quiet → g < 32 →
    (Dev.calNext s.env s.dev = some g → s.dev.o O.JQ_STATE = 0 → s.dev.o O.RX_GROUP_STATE g = 3 →
      Leads (.calPassStart g) s (fun t =>
        t.dev.calPass g = some { all := true, t0 := s.dev.groupTemp g, since := some s.clock.time } ∧
        bit t.dev.cal.due g = false ∧ bit t.dev.cal.req g = false)) ∧
    (Dev.calNext s.env s.dev = some g → s.dev.o O.JQ_STATE ≠ 0 → s.dev.calSkipper g = true → tget 0 s.dev.rx.holder g = 0 →
      Leads (.calPassStart g) s (fun t =>
        (∃ p, t.dev.calPass g = some p ∧ p.pos = 16 ∧ p.all = false ∧ p.t0 = s.dev.groupTemp g) ∧ tget 0 t.dev.rx.holder g = 1 ∧
        bit t.dev.cal.due g = false ∧ bit t.dev.cal.req g = false)) ∧
    (∀ p m x, s.dev.calPass g = some p → p.all = true → p.tPass = none → p.since = some x → x + 3654000 ≤ s.clock.time →
      s.dev.o O.RX_GROUP_STATE g = 3 → s.dev.o O.CAL_REPAIRED_MODE ≠ 2 →
      (p.pos = 16 → s.dev.calFails m = none → Leads (.calSliceDone g m) s (fun t => t.dev.calPass g =
        some { p with pos := 0, recs := tset {} p.recs 16 (calRecord m false), mode := 0, gapNs := 0 })) ∧
      (p.pos = 16 → s.dev.calFails m ≠ none → Leads (.calSliceDone g m) s (fun t =>
        t.dev.o O.CAL_Q_FAILS (512 + g) = ctrAdd O.CAL_Q_FAILS (512 + g) (s.dev.o O.CAL_Q_FAILS (512 + g)) 1 ∧
        ∃ p', t.dev.calPass g = some p' ∧ p'.pos = 0 ∧ tget {} p'.recs 16 = {})) ∧
      (p.pos = 15 → s.dev.calFails m = none → (s.dev.groupTemp g - p.t0).natAbs ≤ 10 → s.dev.skipChan g = none → Leads (.calSliceDone g m) s (fun t =>
        t.dev.calPass g = none ∧ t.dev.o O.CAL_LAST_PASS_TIME g = s.clock.time ∧
        t.dev.o O.CAL_PASSES = ctrAdd O.CAL_PASSES 0 (s.dev.o O.CAL_PASSES) 1))) ∧
    (∀ p ns, s.dev.calPass g = some p → p.mode = 1 → p.chunkEnd ≤ s.clock.time → ns ≤ 32000 → Dev.gapOk s.env s.dev g = true →
      s.dev.o O.RX_GROUP_STATE g = 3 → Leads (.calGapChunk g ns) s (fun t => t.dev.calPass g =
        some { p with gapNs := p.gapNs + ns, chunkEnd := s.clock.time + (ns + 8000) * 3 / 2 })) ∧
    (∀ h, Accepts s h O.CAL_GROUP_REQ g 1 → Leads (.calGroupReq h g) s (fun t => bit t.dev.cal.req g = true ∧ t.dev.isDue t.env g = true)) ∧
    (g < s.env.groups → s.dev.o O.CAL_LAST_PASS_TIME g + s.dev.o O.CAL_MAX_AGE_S * 1500000000 ≤ s.clock.time →
      Leads (.calAgeDue g) s (fun t => bit t.dev.cal.due g = true ∧ t.dev.isDue t.env g = true))

/-- A save, or the flash period after a change, writes the field cache to the field slot with the lower sequence number, and waits
while the flash is busy; the end of the write fills the slot. A block write of the factory store programs it where its check
passes and is refused with ABT_CRC where it does not. CAL_RESTORE_FACTORY takes the factory store and erases the slots, once the flash is free (R581 to
R585). -/
def Obligations.CalibrationStores : Prop :=
  ∀ (s : State) (h : Hdr), s.Quiet →
    (Accepts s h O.CAL_SAVE 0 1 → s.dev.pwr.flashOp = 0 → Leads (.calSave h) s (fun t => t.dev.pwr.flashOp = 2 ∧
      t.dev.o O.FW_FLASH_BUSY = 1 ∧ t.dev.pwr.flashArg = (Dev.calSlot s.env s.dev).1 ∧
      ∃ st, t.dev.cal.writing = some st ∧ st.sets = s.dev.cal.sets ∧ st.seq = (Dev.calSlot s.env s.dev).2 ∧
        ∀ a b, s.env.slotSeq s.dev.cal.slotA = some a → s.env.slotSeq s.dev.cal.slotB = some b →
          (a < b → t.dev.pwr.flashArg = 0 ∧ st.seq = a + 1) ∧ (b < a → t.dev.pwr.flashArg = 1 ∧ st.seq = b + 1))) ∧
    (Accepts s h O.CAL_SAVE 0 1 → s.dev.pwr.flashOp ≠ 0 → Leads (.calSave h) s (fun t => t.dev.cal.saveDue = true ∧
      t.dev.pwr.flashOp = s.dev.pwr.flashOp)) ∧
    (s.dev.cal.changed = true → s.dev.pwr.flashOp = 0 →
      s.dev.cal.flashAt + s.dev.o O.CAL_FLASH_PERIOD_S * 1500000000 ≤ s.clock.time →
      Leads .calFlashPeriod s (fun t => t.dev.pwr.flashOp = 2 ∧ t.dev.cal.changed = false ∧ t.dev.cal.flashAt = s.clock.time)) ∧
    (s.dev.pwr.flashOp = 2 → s.dev.cal.saveDue = false → s.dev.cal.eraseDue = false → Leads .calFlashWriteDone s (fun t => t.dev.pwr.flashOp = 0 ∧
      t.dev.o O.FW_FLASH_BUSY = 0 ∧
      (if s.dev.pwr.flashArg = 0 then t.dev.cal.slotA else t.dev.cal.slotB) = s.dev.cal.writing ∧
      t.dev.o O.CAL_FLASH_WRITES = ctrAdd O.CAL_FLASH_WRITES 0 (s.dev.o O.CAL_FLASH_WRITES) 1)) ∧
    (s.dev.pwr.flashOp = 3 → s.dev.cal.saveDue = false → s.dev.cal.eraseDue = false → Leads .calFlashWriteDone s (fun t => t.dev.pwr.flashOp = 0 ∧
      t.dev.cal.slotA = none ∧ t.dev.cal.slotB = none)) ∧
    (∀ bs, Served s h O.CAL_FACTORY_STORE → s.dev.o O.LOCK_OWNER = 0xFF → s.dev.commit = none → s.dev.o O.JQ_STATE = 0 →
      1 ≤ bs.length → bs.length ≤ 512 →
      Leads (.calFactoryStore h 0 (leBytes 4 bs.length ++ bs ++ leBytes 4 (crc32 bs))) s (fun t =>
        match storeOf s.part.fuse bs with
        | some st => t.dev.cal.factory = some st ∧ ∀ i, i < bs.length → t.dev.domByte O.CAL_FACTORY_STORE 0 i = bs.getD i 0
        | none => t.dev.cal.factory = s.dev.cal.factory ∧
            (t.dev.sess h.sess).stored.head?.map (fun x => (x.resp.drop 6).take 2) = some [11, 14])) ∧
    (Accepts s h O.CAL_RESTORE_FACTORY 0 1 → Leads (.calRestoreFactory h) s (fun t =>
      (s.dev.pwr.flashOp = 0 → t.dev.pwr.flashOp = 3 ∧ t.dev.o O.FW_FLASH_BUSY = 1) ∧
      (s.dev.pwr.flashOp ≠ 0 → t.dev.pwr.flashOp = s.dev.pwr.flashOp ∧ t.dev.cal.eraseDue = true) ∧ t.dev.o O.CAL_STORE_SRC = (if s.dev.cal.factory = none then 0 else 1) ∧
      (s.dev.cal.factory = none → t.dev.cal.sets = [])))

/-- The test current check sorts an input by its capacitance, its own response and its neighbours'; the bias monitors are compared
every 10 s; a digitiser slice that is due takes its new values, at once while Jacquard is STOPPED (R330, R512, R557, R588, R590). -/
def Obligations.ChecksAndMonitors : Prop :=
  ∀ s : State, s.Quiet →
    (∀ ch cap resp lo hi, ch < s.env.channels → tget 0 s.dev.cal.checkAt ch = 0 → Dev.gapOk s.env s.dev (ch / 16) = true →
      Dev.underCal s.env s.dev (s.dev.o O.RX_SLICE_OF ch) = false → (s.dev.calStartup = true → Dev.rampsDone s.env s.dev = true) →
      Leads (.inputCheck ch cap resp lo hi) s (fun t => tget 0 t.dev.cal.checkAt ch = s.clock.time + 1 ∧
        t.dev.o O.RX_INPUT_STATUS ch = if cap < s.dev.o O.RX_CIN_OPEN_PF then 1 else if resp < 5 then 2
          else if 25 < lo ∨ 25 < hi then 4 else 0)) ∧
    (∀ l, s.dev.cal.biasAt + 15000000000 ≤ s.clock.time →
      Leads (.biasMonitorCompare l) s (fun t => t.dev.cal.biasAt = s.clock.time ∧
        ∀ b, b < s.env.biases → s.dev.ob O.RX_BIAS_ENABLE b = true →
          ∃ n : Int, (n : Rat) - 1000 * s.dev.of32 O.HK_PHYS (24 + b) ≤ 1 / 2 ∧ 1000 * s.dev.of32 O.HK_PHYS (24 + b) - (n : Rat) ≤ 1 / 2 ∧
            t.dev.o O.RX_BIAS_V_MEAS b = (clampI 0 65535 n).toNat)) ∧
    (∀ n temp v gain tim off, n < 32 → Dev.dgDue s.env s.dev n temp = true → s.dev.paired n = false → s.dev.o O.JQ_STATE = 0 →
      (∀ p ∈ s.dev.cal.dgNew, p.1 < 32) →
      Leads (.digitiserCalibration n temp [v] gain tim off) s (fun t => t.dev.o O.DG_OFFSET n = ofS 16 v.1 ∧
        t.dev.o O.DG_GAIN n = ofS 16 v.2.1 ∧ t.dev.o O.DG_SKEW_TRIM n = ofS 16 (toS 16 (s.dev.o O.DG_SKEW_TRIM n)) ∧
        tget 0 t.dev.cal.dgAt n = s.clock.time + 1))

/-! ### Atlas and the sensor bridge (chapter 12) -/

/-- A bridge channel: each block counts as failing or passing, two failing blocks in a row declare the fault, 64 passing ones end it,
and a result, at the block boundaries common to all channels of its mode, carries the ratio, or the last good one while the channel
holds (R592, R595, R597, R599 to R602, R610). -/
def Obligations.BridgeSupervision : Prop :=
  ∀ (s : State) (n : Nat), s.Quiet → s.dev.sbOn n = true →
    (∀ m, s.dev.atl.blockAt + 3750 ≤ s.clock.time → Leads (.bridgeBlockEnd m) s (fun t =>
      (m.find? (fun x => x.chan == n) = none → (t.dev.bridge n).fails = 0 ∧
        (t.dev.bridge n).passes = (s.dev.bridge n).passes + 1) ∧
      (∀ x, m.find? (fun x => x.chan == n) = some x → t.dev.o O.SB_I_MEAS n = satN 65535 x.iEnd ∧
        (s.dev.blockFault x = 0 → (t.dev.bridge n).fails = 0 ∧ (t.dev.bridge n).passes = (s.dev.bridge n).passes + 1) ∧
        (s.dev.blockFault x ≠ 0 → (t.dev.bridge n).fails = (s.dev.bridge n).fails + 1 ∧ (t.dev.bridge n).passes = 0 ∧
          ((s.dev.bridge n).fails < 2 → (t.dev.bridge n).kind = s.dev.blockFault x))))) ∧
    ((s.dev.bridge n).fault = 0 → 2 ≤ (s.dev.bridge n).fails → (s.dev.bridge n).kind ≠ 0 →
      Leads (.bridgeFaultDeclared n) s (fun t => (t.dev.bridge n).fault = (s.dev.bridge n).kind ∧
        t.dev.o O.SB_STATUS n = 2 + (s.dev.bridge n).kind ∧
        t.dev.o O.SB_FAULTS n = ctrAdd O.SB_FAULTS n (s.dev.o O.SB_FAULTS n) 1 ∧ Logged s t (0x0A00 + (s.dev.bridge n).kind) 2)) ∧
    ((s.dev.bridge n).fault ≠ 0 → 64 ≤ (s.dev.bridge n).passes → Leads (.bridgeFaultEnd n) s (fun t =>
      (t.dev.bridge n).fault = 0 ∧ t.dev.o O.SB_STATUS n = 1 ∧
        (t.dev.bridge n).stale = if s.dev.o O.SB_MODE n = 1 then 3 else 0)) ∧
    ((s.dev.bridge n).resultBlk < s.dev.atl.blocks / s.dev.sbBlocks n * s.dev.sbBlocks n →
      (∀ (k : Nat) (diff sense x : Int), sense ≠ 0 → 142 ≤ k → (s.dev.bridge n).gains = [] → (∀ p ∈ s.dev.atl.holds, p.1 ≠ n) →
        x = clampI (-8388608) 8388607 (roundHE ((diff * 4 ^ (s.dev.bridge n).pga * 8388608 : Int) / (sense : Rat))) →
        (s.dev.bridge n).fault = 0 → (s.dev.bridge n).failAt = 0 → Leads (.bridgeResult n [⟨k, diff, sense⟩]) s (fun t =>
        (t.dev.bridge n).good = x ∧ (t.dev.bridge n).resultBlk = s.dev.atl.blocks / s.dev.sbBlocks n * s.dev.sbBlocks n ∧
        (t.dev.bridge n).stale = (s.dev.bridge n).stale - 1 ∧
        ((s.dev.bridge n).stale = 0 → t.dev.o O.SB_RESULT n = ofS 24 x <<< 8) ∧
        ∀ q, q < 4 → s.dev.o O.ATL_FB_A q = n → (t.dev.slot q).results = (s.dev.slot q).results + 1)) ∧
      (∀ l, (s.dev.bridge n).fault ≠ 0 → Leads (.bridgeResult n l) s (fun t => (t.dev.bridge n).good = (s.dev.bridge n).good ∧
        t.dev.o O.SB_HOLDS n = ctrAdd O.SB_HOLDS n (s.dev.o O.SB_HOLDS n) 1)))

/-- A loop sample comes with every ATL_DIV-th result, or once three loop periods have passed without one; it takes the current and
declares what Table 12-5 finds, a bridge fault first. Nothing is sampled before. 400 ns later, with the next command or tick, the
sample is reported, and a declaration puts a CLOSED slot into MODEL_HOLD. A coil fault turns the driver off; a command that the
coil does not follow is COMPLIANCE until it does (R37, R57, R610, R627, R629, R632, R633, Tables 12-3 and 12-5). -/
def Obligations.LoopsAreSampledAndSupervised : Prop :=
  ∀ (s : State) (q : Nat), s.Quiet → q < s.env.slots →
    (∀ cur, s.dev.o O.ATL_DIV q ≤ (s.dev.slot q).results → Leads (.loopSample q cur) s (fun t => (t.dev.slot q).results = 0 ∧
      (t.dev.slot q).sampleAt = s.clock.time + 1 ∧ t.dev.o O.ATL_I_NOW q = ofS 32 cur ∧
      t.dev.o O.ATL_STATE q = s.dev.o O.ATL_STATE q ∧
      ∃ p, (t.dev.slot q).due = some p ∧ p.time = s.clock.time ∧ p.current = cur ∧
        (s.dev.o O.ATL_STATE q = 2 → s.dev.o O.ATL_OUT q ≠ 0 → (s.dev.bridge (s.dev.o O.ATL_FB_A q)).fault ≠ 0 →
          p.decl = some (1, (s.dev.bridge (s.dev.o O.ATL_FB_A q)).fault - 1) ∧ Logged s t 0x0A10 2))) ∧
    (∀ cur, (s.dev.slot q).results < s.dev.o O.ATL_DIV q → s.dev.o O.ATL_STATE q ≠ 2 → s.dev.o O.ATL_STATE q ≠ 3 → Leads (.loopSample q cur) s (fun t =>
      t.dev.atl = s.dev.atl ∧ ∀ i el, el < 4096 → t.dev.o i el = s.dev.o i el)) ∧
    (∀ p c, s.pending = [] → (s.dev.slot q).due = some p → s.clock.time + 1 = p.time + 600 → s.dev.pwr.fabric = true →
      (∀ t ∈ s.dev.jq.lineDue, 2 * s.clock.time + 3 < t) → (∀ x ∈ s.dev.acq.syncs, 2 * s.clock.time + 3 < x.2) →
      (∀ x ∈ s.dev.rx.darkLate, 2 * s.clock.time + 3 < x.due) →
      ∃ t, step s = .next t ∧ (t.dev.slot q).due = none ∧
        (p.decl = some c → s.dev.o O.ATL_STATE q = 2 → t.dev.o O.ATL_STATE q = 3 ∧ t.dev.o O.ATL_HOLD_CAUSE q = c.1 ∧
          t.dev.o O.ATL_HOLDS q = ctrAdd O.ATL_HOLDS q (s.dev.o O.ATL_HOLDS q) 1)) ∧
    ((s.dev.slot q).results < s.dev.o O.ATL_DIV q → s.dev.o O.ATL_STATE q = 2 → s.dev.o O.ATL_OUT q ≠ 0 →
      (s.dev.slot q).sampleAt - 1 + 3 * s.dev.loopPeriod q ≤ s.clock.time →
      Leads (.feedbackMissing q) s (fun t => (t.dev.slot q).sampleAt = s.clock.time + 1 ∧ Logged s t 0x0A10 2 ∧
        ∃ p c, (t.dev.slot q).due = some p ∧ p.time = s.clock.time ∧ p.usable = false ∧ p.decl = some c)) ∧
    (∀ c, s.dev.coilOn c = true → s.dev.slotOfCoil c = some q →
      Leads (.coilOvercurrent c) s (fun t => t.dev.o O.ATL_STATE q = 0 ∧ t.dev.o O.ATL_COIL_STATUS c = 2 ∧
        (t.dev.slot q).u = 0 ∧ Logged s t 0x0A11 2) ∧
      (20 ≤ |(s.dev.slot q).u| → Leads (.coilOpen c) s (fun t => t.dev.o O.ATL_STATE q = 0 ∧ t.dev.o O.ATL_COIL_STATUS c = 3 ∧
        (t.dev.slot q).u = 0 ∧ Logged s t 0x0A11 2))) ∧
    (∀ c b, s.dev.coilOn c = true →
      Leads (.coilCompliance c b) s (fun t => t.dev.o O.ATL_COIL_STATUS c = if b then 1 else 4))

/-- The modes of a loop slot: OFF begins the ramp to 0 and its end turns the driver off, MANUAL starts from the present
command, CLOSED closes the loop, MODEL_HOLD is taken with cause HOST (R630, R634, R635, Table 12-6). A photocurrent channel
publishes its value, is STALE for 2 ms after a change of range, and logs a saturation that lasts 1 s; the trace is armed,
triggered and frozen; an injection starts and stops (R606 to R609, R638, R641). -/
def Obligations.AtlasModesAndMonitors : Prop :=
  (∀ (s : State) (h : Hdr) (q : Nat), s.Quiet → q < 4 →
    (Accepts s h O.ATL_MODE q 0 → s.dev.o O.ATL_STATE q ≠ 0 → Leads (.atlModeOff h q) s (fun t => t.dev.o O.ATL_STATE q = 0 ∧
      (t.dev.slot q).ramp = true ∧ (t.dev.slot q).u = (s.dev.slot q).u)) ∧
    (Accepts s h O.ATL_MODE q 1 → s.dev.o O.ATL_STATE q = 0 → s.dev.o O.ATL_OUT q ≠ 0 →
      Leads (.atlModeManual h q) s (fun t => t.dev.o O.ATL_STATE q = 1)) ∧
    (Accepts s h O.ATL_MODE q 1 → (s.dev.o O.ATL_STATE q = 2 ∨ s.dev.o O.ATL_STATE q = 3) →
      Leads (.atlModeManual h q) s (fun t => t.dev.o O.ATL_STATE q = 1 ∧
        t.dev.o O.ATL_MAN_I q = ofS 32 (roundHE ((s.dev.slot q).u * 1000)))) ∧
    (Accepts s h O.ATL_MODE q 2 → s.dev.o O.ATL_STATE q ≠ 2 → s.dev.o O.ATL_OUT q ≠ 0 →
      Leads (.atlModeClosed h q) s (fun t => t.dev.o O.ATL_STATE q = 2 ∧ t.dev.o O.ATL_CLEAN_MS q = 0)) ∧
    (Accepts s h O.ATL_MODE q 3 → s.dev.o O.ATL_STATE q = 2 → Leads (.atlModeModelHold h q) s (fun t =>
      t.dev.o O.ATL_STATE q = 3 ∧ t.dev.o O.ATL_HOLD_CAUSE q = 6 ∧
      t.dev.o O.ATL_HOLDS q = ctrAdd O.ATL_HOLDS q (s.dev.o O.ATL_HOLDS q) 1)) ∧
    (s.dev.o O.ATL_STATE q = 0 → (s.dev.slot q).ramp = true → (s.dev.slot q).u = 0 →
      Leads (.atlOffRampDone q) s (fun t => (t.dev.slot q).ramp = false ∧
        ∀ c, s.dev.coilOf q = some c → t.dev.o O.ATL_COIL_STATUS c = 0))) ∧
  (∀ (s : State) (h : Hdr) (p : Nat), s.Quiet → p < 4 →
    (∀ v sat, s.dev.o O.PD_MODE p ≠ 0 → tget 0 s.dev.atl.pdAt p + s.dev.o O.PD_AVG_MS p * 1500000 ≤ s.clock.time →
      s.dev.o O.PD_STATUS p ≠ 2 →
      Leads (.pdPublish p v sat) s (fun t => tget 0 t.dev.atl.pdAt p = s.clock.time ∧
        if s.dev.o O.PD_MODE p = 2 ∧ bit s.dev.atl.pdShot p = false then
          t.dev.o O.PD_VALUE p = s.dev.o O.PD_VALUE p ∧ t.dev.o O.PD_STATUS p = if sat then 3 else 4
        else t.dev.o O.PD_VALUE p = v ∧ t.dev.o O.PD_STATUS p = if sat then 3 else 1)) ∧
    (∀ v, Accepts s h O.PD_RANGE p v → s.dev.o O.PD_MODE p ≠ 0 → s.dev.o O.PD_RANGE p ≠ v → Leads (.pdRange h p v) s (fun t =>
      t.dev.o O.PD_RANGE p = v ∧ t.dev.o O.PD_STATUS p = 2 ∧ tget none t.dev.atl.pdStale p = some (0, s.clock.time))) ∧
    (∀ c at_, s.dev.o O.PD_STATUS p = 2 → s.dev.o O.PD_MODE p ≠ 0 → tget none s.dev.atl.pdStale p = some (c, at_) →
      at_ + 3000000 ≤ c + s.clock.time →
      Leads (.pdStaleEnd p) s (fun t => t.dev.o O.PD_STATUS p = if (tget none s.dev.atl.pdSat p).isSome then 3 else 1)) ∧
    (∀ x, tget none s.dev.atl.pdSat p = some x → s.dev.o O.PD_STATUS p = 3 → x + 1500000000 ≤ s.clock.time →
      bit s.dev.atl.pdLogged p = false →
      Leads (.pdSatHold p) s (fun t => bit t.dev.atl.pdLogged p = true ∧ Logged s t 0x0A20 0)) ∧
    (Accepts s h O.ATL_TR_ARM 0 1 → Leads (.atlTrArm h) s (fun t => t.dev.o O.ATL_TR_STATE = 1)) ∧
    (Accepts s h O.ATL_TR_ARM 0 2 → s.dev.o O.ATL_TR_STATE = 1 → bit (s.dev.o O.ATL_TR_TRIG) 2 = true →
      Leads (.atlTrTrigger h) s (fun t => t.dev.o O.ATL_TR_STATE = 2 ∧ t.dev.o O.ATL_TR_TIME = s.clock.time ∧
        t.dev.atl.post = s.dev.o O.ATL_TR_POST)) ∧
    (s.dev.o O.ATL_TR_STATE = 2 → s.dev.atl.post = 0 → Leads .traceFreeze s (fun t => t.dev.o O.ATL_TR_STATE = 3)) ∧
    (Accepts s h O.ATL_INJ_RUN p 1 → (s.dev.slot p).injAt = none → Leads (.atlInjStart h p) s (fun t =>
      (t.dev.slot p).injAt = some s.clock.time ∧ t.dev.o O.ATL_INJ_RUN p = 1)) ∧
    (Accepts s h O.ATL_INJ_RUN p 0 → Leads (.atlInjStop h p) s (fun t =>
      (t.dev.slot p).injAt = none ∧ t.dev.o O.ATL_INJ_RUN p = 0)))

/-! ### Tapestry (chapter 13) -/

/-- A host write puts its data into the pool and a fill zeroes its range, on channels that are not OFFLINE; TAP_FILL_BUSY reads 1
until the fill ends (R645 to R647, R789). -/
def Obligations.TapestryPoolWrites : Prop :=
  ∀ (s : State) (h : Hdr), s.Quiet →
    (∀ bs, Served s h O.TAP_HOST_WRITE → s.dev.o O.LOCK_OWNER = 0xFF → s.dev.commit = none → s.part.variant ≠ .jg5120 →
      s.dev.found ≠ 0 → 20 ≤ bs.length → bs.length ≤ 512 → s.dev.hostWriteOk bs = true →
      s.dev.bufAddr (fieldAt bs 0 4) (fieldAt bs 4 4) + (bs.length - 16) ≤ s.dev.capacity →
      Leads (.tapHostWrite h 0 (leBytes 4 bs.length ++ bs ++ leBytes 4 (crc32 bs))) s (fun t =>
        ∀ i, i < bs.length - 16 →
          s.dev.chOffline (s.dev.chanOf (s.dev.bufAddr (fieldAt bs 0 4) (fieldAt bs 4 4) + i)) = false →
          t.dev.gByte (s.dev.bufAddr (fieldAt bs 0 4) (fieldAt bs 4 4) + i) = bs.getD (16 + i) 0)) ∧
    (∀ el v, Accepts s h O.TAP_FILL el v → Leads (.tapFill h el v) s (fun t => t.dev.o O.TAP_FILL_BUSY = 1 ∧
      t.dev.tap.fill = some (v / 2 ^ 32, v % 2 ^ 32))) ∧
    (∀ b n, s.dev.tap.fill = some (b, n) → Leads .tapFillDone s (fun t => t.dev.o O.TAP_FILL_BUSY = 0 ∧ t.dev.tap.fill = none ∧
      ∀ a, if s.dev.bufAddr b 256 ≤ a ∧ a < s.dev.bufAddr b 256 + n ∧ s.dev.chOffline (s.dev.chanOf a) = false
        then t.dev.gByte a = 0 else t.dev.gByte a = s.dev.gByte a))

/-- The scan-out of a flipped raster starts when no other is under way, its lines leave one after the other with an underrun counted,
and with its trailer gone the raster retires and counts as sent (R669, R671, R676, R677, R680). -/
def Obligations.RastersScanOut : Prop :=
  ∀ (s : State) (r : Raster), s.Quiet →
    (s.dev.tap.rasters.find? (fun x => x.stage == 2) = some r → s.dev.tap.rasters.any (fun x => x.stage == 3) = false →
      Leads (.scanOutStart r.num) s (fun t => ∃ r' ∈ t.dev.tap.rasters, r'.num = r.num ∧ r'.stage = 3 ∧
        r'.scan = s.clock.time ∧ r'.line = r.line)) ∧
    (s.dev.tap.rasters.find? (fun x => x.stage == 3) = some r →
      (∀ bad, 2 * r.scan + 3 * (r.line * r.o O.TAP_LINE_NS) ≤ 2 * s.clock.time →
        Leads (.tapestryLineSend bad) s (fun t => (∃ r' ∈ t.dev.tap.rasters, r'.num = r.num ∧ r'.line = r.line + 1 ∧
          r'.stage = if r.o O.TAP_HEIGHT ≤ r.line + 1 then 4 else 3) ∧
          (s.dev.linkUp = true → ∃ data, ({ ty := 3, data := data, tag := r.num } : Packet) ∈ t.dev.link.txq))) ∧
      (∀ bad unf, unf ≠ [] → r.o O.TAP_LINE_NS ≠ 0 →
        2 * r.scan + 3 * ((r.line + 1) * r.o O.TAP_LINE_NS) ≤ 2 * s.clock.time →
        Leads (.lineUnderrun ⟨bad, unf⟩) s (fun t => (∃ r' ∈ t.dev.tap.rasters, r'.num = r.num ∧ r'.line = r.line + 1 ∧
          r'.under = r.under + 1) ∧
          t.dev.o O.TAP_UNDERRUNS = ctrAdd O.TAP_UNDERRUNS 0 (s.dev.o O.TAP_UNDERRUNS) 1))) ∧
    (s.dev.tap.rasters.find? (fun x => x.stage == 4) = some r → s.dev.pktWaits 5 r.num = false →
      Dev.pktFlies s.env s.dev 5 r.num = false →
      Leads .rasterRetire s (fun t => (∀ x ∈ t.dev.tap.rasters, x.num ≠ r.num) ∧ t.dev.o O.TAP_RETIRED_FRAME = r.num ∧
        t.dev.o O.TAP_SENT = ctrAdd O.TAP_SENT 0 (s.dev.o O.TAP_SENT) 1))

/-! ### The Gaern lanes (chapter 14) -/

/-- The segment that starts is of the ready packet of the highest priority, with the header, payload and check of its
packet, and it carries the owed credits, each lane's symbols coded in 8b/10b from that lane's running disparity, with the
alignment pairs that fall inside it, up to whose last column no other starts; alignment columns come in pairs and take swing
and taps; credits owed leave alone after 10 µs (R685, R689, R690, R693, R694, R697 to R706, R710, R714, R716). A time
exchange: the marker in place of an alignment skip is stamped and followed by a SYNC_FU, the host's marker is stamped, a
DELAY_REQ of the latest SYNC_FU is answered with the marker's stamp, one that fits none is answered without and counted as
missed, and each SYNC_FU that is not answered in 10 ms is counted (R741 to R746). -/
def Obligations.SegmentsAndTimeExchange : Prop :=
  (∀ s : State, s.Quiet → s.dev.linkUp = true →
    (∀ p, s.dev.choose = some p → p.ty < 16 → (s.dev.link.flight = none ∨ s.dev.link.endAt ≤ s.clock.time) → s.dev.link.part = [] →
      Leads .txSegmentStart s (fun t => (∀ q ∈ s.dev.heads, s.dev.ready q = true → pktPrio p ≤ pktPrio q) ∧ ∃ bs,
        bs = segBytes (segHeader p.ty true (segLast p 0) (segPayload p 0).length 0 (s.dev.mseqOf p.ty) (satN 15 s.dev.link.owed) 0)
          (segPayload p 0) ∧
        t.dev.sent = [.segment (s.dev.o O.LINK_ACTIVE_TX) (stripe s.dev.txLanes bs)
          ((s.dev.idleTo (Dev.nextColumn s.env s.dev)).putSyms
            ((laneList (s.dev.o O.LINK_ACTIVE_TX)).zip
              ((stripe s.dev.txLanes bs).map (segSyms ((bs.length + s.dev.txLanes - 1) / s.dev.txLanes))))).1] ∧
        t.dev.link.flight = some (p, bs) ∧ t.dev.link.endAt = t.dev.columnEnd t.dev.link.cols ∧
        t.dev.link.txq = s.dev.link.txq.erase p ∧ t.dev.link.owed = s.dev.link.owed - satN 15 s.dev.link.owed)) ∧
    (s.dev.pairDue s.env = true → s.dev.pairMarks s.env = false → Leads .alignmentColumn s (fun t =>
      (s.dev.pairInner = none → ∃ skip, t.dev.sent =
        [.column 3 (s.dev.onBalls (laneList (s.dev.o O.LINK_ACTIVE_TX))
          (codeLanes (s.dev.idleTo (2048 * s.dev.link.pairs)).link.disp
            ((laneList (s.dev.o O.LINK_ACTIVE_TX)).map (fun l => (l, [.special 3])))).1), .column 0 skip]) ∧
      (∀ q, s.dev.pairInner = some q → t.dev.sent = [.column 3 q.first, .column 0 q.second]) ∧
      t.dev.link.pairs = s.dev.link.pairs + 1 ∧ t.dev.link.taps = s.dev.tapsSet (s.dev.o O.LINK_ACTIVE_TX))) ∧
    (0 < s.dev.link.owed → s.dev.link.endAt + 15000 ≤ s.clock.time → s.dev.link.txq.any (fun p => p.kind == 3) = false →
      s.dev.o O.LINK_ACTIVE_HRX ≠ 0 → Leads .creditOnlyPacket s (fun t =>
        t.dev.link.txq = s.dev.link.txq ++ [{ ty := 6, data := [], kind := 3 }]))) ∧
  (∀ s : State, s.Quiet → s.dev.linkUp = true →
    (∀ frac, frac < 65536 → s.dev.pairDue s.env = true → s.dev.pairMarks s.env = true → Leads (.tsMarkerTx frac) s (fun t =>
      (∃ a m, t.dev.sent = [.column 3 a, .column 1 m]) ∧ t.dev.link.pairs = s.dev.link.pairs + 1 ∧ t.dev.link.tseq = (s.dev.link.tseq + 1) % 65536 ∧
      t.dev.link.syncs = s.dev.link.syncs.filter (fun x => x.tseq != s.dev.link.tseq) ++
        [{ tseq := s.dev.link.tseq, t1 := s.clock.time, frac := frac, left := none, done := false }] ∧
      t.dev.link.txq = s.dev.link.txq ++
        [{ ty := 7, data := tsPayload 1 false s.dev.link.tseq frac s.clock.time 0, kind := 6, tag := s.dev.link.tseq }])) ∧
    (∀ frac, frac < 65536 → s.dev.o O.LINK_ACTIVE_HRX ≠ 0 →
      Leads (.tsMarkerRx frac) s (fun t => t.dev.link.marker = some (s.clock.time, frac))) ∧
    (∀ b g c p d x d', s.dev.o O.LINK_ACTIVE_HRX ≠ 0 → ({ s.dev with sent := [] } : Dev).rxColumns (b ++ g ++ c) = ([p], d) →
      d.rxSeg p.2 p.1 = (some x, d') → x.ty = 7 →
      (∀ y a, s.dev.syncOf (fieldAt x.payload 2 2) = some y → s.dev.syncLast = some y → s.dev.markerAfter y = some a →
        Leads (.delayReqRx b g c) s (fun t => (∀ z ∈ t.dev.link.syncs, z.tseq = y.tseq → z.done = true) ∧
          t.dev.o O.LINK_TS_MISSED = s.dev.o O.LINK_TS_MISSED ∧
          t.dev.link.txq = s.dev.link.txq ++ [{ ty := 7, data := tsPayload 3 false y.tseq a.2 a.1 0 }])) ∧
      (s.dev.syncOf (fieldAt x.payload 2 2) = none → Leads (.delayReqRx b g c) s (fun t =>
        t.dev.o O.LINK_TS_MISSED = ctrAdd O.LINK_TS_MISSED 0 (s.dev.o O.LINK_TS_MISSED) 1 ∧
        t.dev.link.txq = s.dev.link.txq ++ [{ ty := 7, data := tsPayload 3 true (fieldAt x.payload 2 2) 0 0 0 }]))) ∧
    (∀ late, late = s.dev.link.syncs.filter (fun x => !x.done && x.left.any (fun a => a + 15000000 ≤ s.clock.time)) → late ≠ [] →
      Leads .tsExchangeTimeout s (fun t =>
        t.dev.link.syncs.filter (fun x => !x.done && x.left.any (fun a => a + 15000000 ≤ s.clock.time)) = [] ∧
        t.dev.o O.LINK_TS_MISSED = ctrAdd O.LINK_TS_MISSED 0 (s.dev.o O.LINK_TS_MISSED) late.length)))

/-- Lane bring-up: a write of LINK_ENABLE starts and ends it, receive lanes lock and align, ALIGNED is set after 1 ms under
DEGRADE, the device leaves TRAIN with the lanes in use and credits and sequence numbers afresh, and 50 ms in TRAIN are
logged once (R721, R723 to R732, Table 14-6). A lane that is lost is taken out of use under DEGRADE while enough lanes are
left, and the host's announcement likewise; else, and when the host or a write of LINK_RETRAIN asks, the link trains again
with nothing waiting (R733 to R740). -/
def Obligations.LaneBringUpAndLoss : Prop :=
  (∀ (s : State) (h : Hdr), s.Quiet →
    (Accepts s h O.LINK_ENABLE 0 1 → s.dev.o O.LINK_STATE = 0 → 5 ≤ s.dev.o O.SU_STATE → s.dev.o O.SU_STATE ≤ 7 →
      Leads (.linkEnable h) s (fun t => t.dev.o O.LINK_STATE = 1 ∧ t.dev.o O.LINK_ENABLE = 1 ∧ t.dev.link.trainAt = s.clock.time)) ∧
    (Accepts s h O.LINK_ENABLE 0 0 → Leads (.linkDisable h) s (fun t => t.dev.o O.LINK_STATE = 0 ∧ t.dev.o O.LINK_ENABLE = 0 ∧
      t.dev.o O.LINK_ACTIVE_TX = 0 ∧ t.dev.o O.LINK_ACTIVE_HRX = 0)) ∧
    (s.dev.o O.LINK_STATE = 1 →
      (∀ n groups ctle k, n < 2 → k < 2 → bit (s.dev.o O.LINK_HRX_MASK) n = true →
        lockNumber (s.dev.o O.LINK_RATE) (({ s.dev with sent := [] } : Dev).rxGroups n groups).1 = some k →
        Leads (.laneLocked (8 + n) groups ctle) s (fun t => t.dev.o O.LANE_STATE (8 + n) = 2 ∧ bit t.dev.link.locked n = true ∧
          t.dev.hrxNumber n = k)) ∧
      (∀ n, n < 2 → bit s.dev.link.locked n = true → Leads (.laneAligned (8 + n)) s (fun t =>
        t.dev.o O.LANE_STATE (8 + n) = 3 ∧ bit t.dev.link.aligned n = true)) ∧
      (s.dev.o O.LINK_LOSS_POLICY = 1 → s.dev.link.aligned ≠ 0 → s.dev.link.trainAt + 1500000 ≤ s.clock.time →
        Leads .alignedTimeout s (fun t => t.dev.link.alignedOk = true)) ∧
      (∀ hTx hRx, s.dev.link.trainAt + 1500 * s.dev.o O.LINK_TRAIN_MIN_US ≤ s.clock.time →
        (s.dev.o O.LINK_HRX_MASK = 0 → Leads (.trainExit hTx hRx) s (fun t => t.dev.o O.LINK_STATE = 2 ∧
          t.dev.o O.LINK_ACTIVE_TX = s.dev.o O.LINK_TX_MASK ∧ t.dev.o O.LINK_ACTIVE_HRX = 0 ∧ t.dev.link.owed = 0)) ∧
        (s.dev.o O.LINK_HRX_MASK ≠ 0 → s.dev.link.alignedOk = true →
          s.dev.link.alignedAt + s.dev.colCycles 129 ≤ s.clock.time → s.dev.byNumber s.dev.link.aligned &&& hTx ≠ 0 →
          s.dev.o O.LINK_MIN_TX_LANES ≤ popcount 8 (s.dev.o O.LINK_TX_MASK &&& hRx) →
          Leads (.trainExit hTx hRx) s (fun t =>
            t.dev.o O.LINK_ACTIVE_TX = s.dev.o O.LINK_TX_MASK &&& hRx ∧
            t.dev.o O.LINK_ACTIVE_HRX = s.dev.byNumber s.dev.link.aligned &&& hTx ∧
            (t.dev.o O.LINK_STATE = if s.dev.o O.LINK_TX_MASK &&& hRx = s.dev.o O.LINK_TX_MASK ∧
              s.dev.byNumber s.dev.link.aligned &&& hTx = s.dev.o O.LINK_HRX_MASK then 2 else 3) ∧
            t.dev.link.mseq = [] ∧ t.dev.link.owed = 0 ∧ t.dev.link.held = 0))) ∧
      (s.dev.link.trainLong = false → s.dev.link.trainAt + 75000000 ≤ s.clock.time → Leads .trainTimeoutNotify s (fun t =>
        t.dev.link.trainLong = true ∧ Logged s t 0x0C08 1)))) ∧
  (∀ (s : State) (h : Hdr), s.Quiet → s.dev.linkUp = true →
    (∀ n cause, n < 8 → (cause = 3 ∨ cause = 4) → bit (s.dev.o O.LINK_ACTIVE_TX) n = true →
      (s.dev.o O.LINK_LOSS_POLICY = 1 → s.dev.o O.LINK_ACTIVE_HRX ≠ 0 →
        s.dev.o O.LINK_MIN_TX_LANES ≤ popcount 8 (setBit (s.dev.o O.LINK_ACTIVE_TX) n false) →
        Leads (.laneLoss n ⟨cause, []⟩) s (fun t => t.dev.o O.LINK_STATE = 3 ∧ t.dev.o O.LANE_STATE n = 5 ∧
          t.dev.o O.LINK_ACTIVE_TX = setBit (s.dev.o O.LINK_ACTIVE_TX) n false ∧
          t.dev.o O.LANE_LOSSES n = ctrAdd O.LANE_LOSSES n (s.dev.o O.LANE_LOSSES n) 1 ∧
          t.dev.o O.LINK_RESTRIPES = ctrAdd O.LINK_RESTRIPES 0 (s.dev.o O.LINK_RESTRIPES) 1 ∧ Logged s t (0x0C01 + cause) 2)) ∧
      (s.dev.o O.LINK_LOSS_POLICY = 0 → Leads (.laneLoss n ⟨cause, []⟩) s (fun t => t.dev.o O.LINK_STATE = 1 ∧ t.dev.link.txq = [] ∧
        t.dev.link.trainAt = s.clock.time))) ∧
    (∀ hTx hRx, s.dev.o O.LINK_ACTIVE_HRX ≠ 0 → s.dev.o O.LINK_LOSS_POLICY = 1 →
      s.dev.o O.LINK_MIN_TX_LANES ≤ popcount 8 (s.dev.o O.LINK_ACTIVE_TX &&& hRx) →
      s.dev.o O.LINK_ACTIVE_HRX &&& hTx ≠ 0 →
      Leads (.hostLossAnnouncement hTx hRx) s (fun t => t.dev.o O.LINK_STATE = 3 ∧
        t.dev.o O.LINK_ACTIVE_TX = s.dev.o O.LINK_ACTIVE_TX &&& hRx ∧
        t.dev.o O.LINK_ACTIVE_HRX = s.dev.o O.LINK_ACTIVE_HRX &&& hTx ∧
        (∀ n, n < 8 → bit (s.dev.o O.LINK_ACTIVE_TX) n = true → bit hRx n = false → t.dev.o O.LANE_STATE n = 5))) ∧
    (s.dev.o O.LINK_ACTIVE_HRX ≠ 0 → Leads .retrainRequest s (fun t => t.dev.o O.LINK_STATE = 1 ∧ t.dev.link.txq = [] ∧
      t.dev.link.part = [] ∧ t.dev.link.trainAt = s.clock.time)) ∧
    (Accepts s h O.LINK_RETRAIN 0 1 → Leads (.linkRetrain h) s (fun t => t.dev.o O.LINK_STATE = 1 ∧
      t.dev.link.trainAt = s.clock.time)))

/-- A lane that is not in use sends or checks the sequence written to it, a new choice of the checker clears its counts, sync comes
and goes with what the checker sees, and errors are injected once, or from then on every INJ_PERIOD groups (R747 to R753). -/
def Obligations.LaneTests : Prop :=
  ∀ (s : State) (h : Hdr) (n v : Nat), s.Quiet →
    (n < 8 → v ≠ 0 → Accepts s h O.PRBS_GEN n v → Leads (.prbsGen h n v) s (fun t => t.dev.o O.PRBS_GEN n = v ∧
      t.dev.o O.LANE_STATE n = 6)) ∧
    (n < 10 → v ≠ 0 → Accepts s h O.PRBS_CHK n v → Leads (.prbsChk h n v) s (fun t => t.dev.o O.PRBS_CHK n = v ∧
      t.dev.o O.PRBS_BITS n = 0 ∧ t.dev.o O.PRBS_ERRS n = 0 ∧ t.dev.o O.PRBS_SYNC n = 0 ∧ t.dev.o O.LANE_STATE n = 6)) ∧
    (n < 10 → s.dev.o O.PRBS_CHK n ≠ 0 → s.dev.o O.PRBS_SYNC n = 0 → (8 ≤ n ∨ s.dev.o O.PRBS_GEN n = s.dev.o O.PRBS_CHK n) → Leads (.prbsSyncGain n) s (fun t =>
      t.dev.o O.PRBS_SYNC n = 1 ∧ tget 0 t.dev.link.prbsAt n = s.clock.time)) ∧
    (n < 10 → s.dev.o O.PRBS_SYNC n ≠ 0 → 32 < v → Leads (.prbsSyncLoss n v) s (fun t => t.dev.o O.PRBS_SYNC n = 0 ∧
      t.dev.o O.PRBS_ERRS n = ctrAdd O.PRBS_ERRS n (s.dev.o O.PRBS_ERRS n) v)) ∧
    (n < 8 → Accepts s h O.INJ_GO n 1 →
      (s.dev.o O.INJ_PERIOD n = 0 → s.dev.o O.INJ_KIND n ≠ 0 → s.dev.o O.PRBS_GEN n = 0 → Leads (.injGoStart h n) s (fun t =>
        t.dev.o O.INJ_GO n = 1 ∧ t.dev.o O.INJ_COUNT n = ctrAdd O.INJ_COUNT n (s.dev.o O.INJ_COUNT n) 1)) ∧
      (s.dev.o O.INJ_PERIOD n ≠ 0 → Leads (.injGoStart h n) s (fun t => t.dev.o O.INJ_GO n = 1 ∧
        tget 0 t.dev.link.injAt n = s.clock.time ∧ t.dev.o O.INJ_COUNT n = s.dev.o O.INJ_COUNT n))) ∧
    (n < 8 → Accepts s h O.INJ_GO n 0 → Leads (.injGoStop h n) s (fun t => t.dev.o O.INJ_GO n = 0)) ∧
    (n < 8 → s.dev.o O.INJ_GO n ≠ 0 → s.dev.o O.INJ_PERIOD n ≠ 0 → s.dev.o O.INJ_KIND n ≠ 0 → s.dev.o O.PRBS_GEN n = 0 →
      tget 0 s.dev.link.injAt n + s.dev.colCycles (s.dev.o O.INJ_PERIOD n) ≤ s.clock.time → Leads (.injPeriodic n) s (fun t =>
        t.dev.o O.INJ_COUNT n = ctrAdd O.INJ_COUNT n (s.dev.o O.INJ_COUNT n) 1 ∧ tget 0 t.dev.link.injAt n = s.clock.time))

/-! ### GDDR7 and its arbiter (chapter 15) -/

/-- The end of training: without DEV_0 memory is FAILED with an entry; else the devices that trained give the fit, its
capacity and its channels; after a retraining of the same fit the OFFLINE channels return to OK. MEM_RETRAIN starts one from
TRAINED; a warm start leaves self-refresh with the trained fit and goes on to FW_LOAD (R759, R760, R763, R767, R785, R892).
A read of MEM_PEEK answers with the 256 bytes at MEM_PEEK_ADDR, or with ABT_CRC where they come poisoned (R787, R792). -/
def Obligations.MemoryTrainingAndPeek : Prop :=
  (∀ (s : State) (h : Hdr), s.Quiet →
    (∀ x, s.dev.mem.trainAt = some x →
      (∀ ok1, Leads (.memTrainingDone false ok1) s (fun t => t.dev.o O.MEM_STATE = 5 ∧ t.dev.mem.trainAt = none ∧
        Logged s t 0x0D10 4 ∧ (s.dev.o O.SU_STATE = 4 → t.dev.o O.SU_STATE = 10))) ∧
      (∀ ok1 n, n = (if s.env.memMax = 2 ∧ s.part.fitted = 2 ∧ ok1 = true then 2 else 1) → s.dev.o O.SU_STATE ≠ 4 →
        (s.dev.o O.MEM_STATE ≠ 4 ∨ s.dev.found ≠ n → Leads (.memTrainingDone true ok1) s (fun t => t.dev.found = n ∧
          t.dev.o O.MEM_STATE = 2 ∧ t.dev.capacity = capacityOf n s.part.density ∧ t.dev.mem.trainAt = none ∧
          (∀ c, c < 8 → t.dev.o O.MEM_CH_STATE c = if c < 4 * n then 1 else 0) ∧ t.dev.mem.poison = [] ∧
          (s.env.memMax = 2 → s.part.fitted = 2 → ok1 = false → Logged s t 0x0D06 1))) ∧
        (s.dev.o O.MEM_STATE = 4 → s.dev.found = n → Leads (.memTrainingDone true ok1) s (fun t => t.dev.o O.MEM_STATE = 2 ∧
          t.dev.found = n ∧ ∀ c, c < 8 → t.dev.o O.MEM_CH_STATE c =
            if s.dev.o O.MEM_CH_STATE c = 3 then 1 else s.dev.o O.MEM_CH_STATE c)))) ∧
    (Accepts s h O.MEM_RETRAIN 0 1 → s.dev.o O.MEM_STATE = 2 →
      Leads (.memRetrain h) s (fun t => t.dev.o O.MEM_STATE = 4 ∧ t.dev.mem.trainAt = some s.clock.time)) ∧
    (s.dev.pwr.warm = true → s.dev.o O.SU_STATE = 4 → s.dev.o O.MEM_STATE = 0 →
      (∀ n k, s.dev.mem.trained = some (n, k) → Leads .selfRefreshExit s (fun t => t.dev.o O.MEM_STATE = 2 ∧ t.dev.found = n ∧
        t.dev.o O.SU_STATE = 2 ∧ ∀ c, c < 8 → t.dev.o O.MEM_CH_STATE c = if c < 4 * n then 1 else 0)) ∧
      (s.dev.mem.trained = none → Leads .selfRefreshExit s (fun t => t.dev.o O.MEM_STATE = 1 ∧
        t.dev.mem.trainAt = some s.clock.time)))) ∧
  (∀ (s : State) (h : Hdr) (a : Nat), s.Quiet → Served s h O.MEM_PEEK → s.dev.found ≠ 0 → s.dev.o O.MEM_PEEK_ADDR = a →
    a % 256 = 0 → a + 256 ≤ s.dev.capacity →
    (s.dev.blkPoison (a / 256) = false → Leads (.memPeek h 0) s (fun t =>
      Answered s t (blockMsg 3 h O.MEM_PEEK 0 0 []) (okAns s.clock.time
        (leBytes 4 256 ++ (List.range 256).map (fun i => s.dev.gByte (a + i)))))) ∧
    (s.dev.blkPoison (a / 256) = true → Leads (.memPeek h 0) s (fun t =>
      Answered s t (blockMsg 3 h O.MEM_PEEK 0 0 []) (refuse (11, 14)) ∧
      t.dev.o O.MEM_CH_POISON (s.dev.chanOf a) =
        ctrAdd O.MEM_CH_POISON (s.dev.chanOf a) (s.dev.o O.MEM_CH_POISON (s.dev.chanOf a)) 1)))

/-- A channel's tracking step shows its device's temperature and logs a sampling edge; a refresh comes to one bank, or to
every bank of the channel (R764, R765, R781). Memory errors: every mismatch counts, at most four a transfer; the fourth
poisons a read, enters the block of a write in the poison table or takes a channel with a full table OFFLINE, and makes a
channel with command/address errors retrain, which leaves it OK or OFFLINE (R786 to R789, Table 15-8). -/
def Obligations.MemoryUpkeepAndErrors : Prop :=
  (∀ (s : State) (ch : Nat), s.Quiet → ch < 8 → s.dev.o O.MEM_STATE = 2 → s.dev.o O.MEM_CH_STATE ch = 1 →
    (∀ temp edge, tget 0 s.dev.mem.trackAt ch + 1500000 * s.dev.o O.MEM_TRACK_MS ≤ s.clock.time →
      Leads (.memTracking ch temp edge) s (fun t => tget 0 t.dev.mem.trackAt ch = s.clock.time ∧
        (∀ c, c / 4 = ch / 4 → t.dev.o O.MEM_CH_TEMP c = ofS 16 temp) ∧
        (∀ x, tget none s.dev.mem.edgeAt ch = x → edge = true → (x = none ∨ ∃ y, x = some y ∧ y + 15000000000 ≤ s.clock.time) →
          Logged s t 0x0D07 1 ∧ tget none t.dev.mem.edgeAt ch = some s.clock.time))) ∧
    (∀ bank, bank < 16 → Leads (.memRefresh ch bank) s (fun t => ∀ b, b < 16 →
      tget 0 t.dev.mem.refAt (16 * ch + b) = if b = bank ∨ s.dev.o O.MEM_REFRESH_MODE = 1 then s.clock.time
        else tget 0 s.dev.mem.refAt (16 * ch + b)))) ∧
  ((∀ (s : State) (req addr n : Nat), s.Quiet → s.dev.memLive req addr = true → n ≠ 0 →
    Leads (.memReadEdcError req addr n) s (fun t =>
      t.dev.o O.MEM_CH_EDC_RD (s.dev.chanOf addr) =
        ctrAdd O.MEM_CH_EDC_RD (s.dev.chanOf addr) (s.dev.o O.MEM_CH_EDC_RD (s.dev.chanOf addr)) (min n 4) ∧
      t.dev.o O.MEM_CH_STATE (s.dev.chanOf addr) = 1 ∧
      (n < 4 → t.dev.flt = s.dev.flt) ∧
      (4 ≤ n → t.dev.o O.MEM_CH_POISON (s.dev.chanOf addr) =
        ctrAdd O.MEM_CH_POISON (s.dev.chanOf addr) (s.dev.o O.MEM_CH_POISON (s.dev.chanOf addr)) 1 ∧ Logged s t 0x0D00 0)) ∧
    Leads (.memWriteEdcError req addr n) s (fun t =>
      t.dev.o O.MEM_CH_EDC_WR (s.dev.chanOf addr) =
        ctrAdd O.MEM_CH_EDC_WR (s.dev.chanOf addr) (s.dev.o O.MEM_CH_EDC_WR (s.dev.chanOf addr)) (min n 4) ∧
      (n < 4 → t.dev.mem.poison = s.dev.mem.poison) ∧
      (4 ≤ n → Logged s t 0x0D01 0 ∧ (addr / 256 ∉ s.dev.mem.poison →
        (s.dev.o O.MEM_CH_POISON_BLOCKS (s.dev.chanOf addr) < 64 → t.dev.mem.poison = s.dev.mem.poison ++ [addr / 256] ∧
          t.dev.o O.MEM_CH_POISON_BLOCKS (s.dev.chanOf addr) = s.dev.o O.MEM_CH_POISON_BLOCKS (s.dev.chanOf addr) + 1) ∧
        (64 ≤ s.dev.o O.MEM_CH_POISON_BLOCKS (s.dev.chanOf addr) → t.dev.o O.MEM_CH_STATE (s.dev.chanOf addr) = 3 ∧
          Logged s t 0x0D04 2)))) ∧
    (∀ read, Leads (.memCaError req addr n read) s (fun t =>
      t.dev.o O.MEM_CH_CA (s.dev.chanOf addr) =
        ctrAdd O.MEM_CH_CA (s.dev.chanOf addr) (s.dev.o O.MEM_CH_CA (s.dev.chanOf addr)) (min n 4) ∧
      (4 ≤ n → Logged s t 0x0D02 0 ∧ tget none t.dev.mem.kind2 (s.dev.chanOf addr) = some s.clock.time ∧
        (∀ x, tget none s.dev.mem.kind2 (s.dev.chanOf addr) = some x → s.clock.time ≤ x + 1500000000 →
          t.dev.o O.MEM_CH_STATE (s.dev.chanOf addr) = 3 ∧ Logged s t 0x0D03 2) ∧
        (tget none s.dev.mem.kind2 (s.dev.chanOf addr) = none → read = true →
          t.dev.o O.MEM_CH_STATE (s.dev.chanOf addr) = 2))))) ∧
  ∀ (s : State) (ch : Nat) (ok : Bool), s.Quiet → ch < 8 → s.dev.o O.MEM_CH_STATE ch = 2 →
    Leads (.memCaRetrainDone ch ok) s (fun t => t.dev.o O.MEM_CH_STATE ch = (if ok then 1 else 3) ∧
      (ok = false → Logged s t 0x0D03 2)))

/-- The arbiter: while the owner of a port has bursts left and nobody else there is urgent it keeps its tenure, and each burst takes
its oldest request into the port's buffer and from there into its bank's queue; once its quantum is spent, or where nobody owns the
port, the next owner is the first in rotating order of the urgent ones, or of all where none is urgent, counted from requester 0
where the port has had no owner (the model's choice, log entry 199); a requester's oldest request that has waited long enough becomes
urgent (R774, R775, R793 to R799, R801). -/
def Obligations.Arbitration : Prop :=
  ∀ (s : State) (port : Nat) (own : List Nat), s.Quiet → port < 4 →
    (∀ r w b l, tget none s.dev.mem.owner port = some r → 2 ≤ tget 0 s.dev.mem.left port →
      s.dev.mem.waiting.find? (fun x => x.port == port && x.requester == r) = some w → w.bursts = b :: l → l ≠ [] →
      (tget [] s.dev.mem.buffer port).length < 32 →
      (∀ x ∈ s.dev.mem.waiting, x.port = port → x.requester ≠ r → s.dev.urgent own x = false) →
      Leads (.arbHandover port own) s (fun t => tget none t.dev.mem.owner port = some r ∧
        tget 0 t.dev.mem.left port = tget 0 s.dev.mem.left port - 1 ∧
        t.dev.mem.waiting = burstDone port r s.dev.mem.waiting ∧
        (tget [] s.dev.mem.buffer port = [] → s.dev.chOffline (s.dev.chanOf (b.blk * 256)) = false →
          (tget [] s.dev.mem.queue (s.dev.bankKey b)).length < 8 →
          tget [] t.dev.mem.buffer port = [] ∧ tget [] t.dev.mem.queue (s.dev.bankKey b) =
            tget [] s.dev.mem.queue (s.dev.bankKey b) ++ [{ b with since := s.clock.time }]))) ∧
    (∀ l prev, (∀ x ∈ s.dev.mem.waiting, x.bursts ≠ []) → (match tget none s.dev.mem.owner port with
        | some r => l = burstDone port r s.dev.mem.waiting ∧ prev = r ∧ tget 0 s.dev.mem.left port ≤ 1 ∧
            (tget [] s.dev.mem.buffer port).length < 32
        | none => l = s.dev.mem.waiting ∧ prev = 15) → (∃ x ∈ l, x.port = port) →
      Leads (.arbHandover port own) s (fun t => t.dev.mem.waiting = l ∧ ∃ w ∈ l, w.port = port ∧
        tget none t.dev.mem.owner port = some w.requester ∧
        tget 0 t.dev.mem.left port = s.dev.o O.MEM_ARB_QUANTUM w.requester ∧
        t.dev.o O.MEM_ARB_GRANTS w.requester = ctrAdd O.MEM_ARB_GRANTS w.requester (s.dev.o O.MEM_ARB_GRANTS w.requester) 1 ∧
        ∀ x ∈ l, x.port = port → (s.dev.urgent own x = true → s.dev.urgent own w = true) ∧
          (s.dev.urgent own x = s.dev.urgent own w → rotDist prev w.requester ≤ rotDist prev x.requester))) ∧
    (∀ req w pre b post, s.dev.mem.waiting.find? (fun x => x.port == port && x.requester == req) = some w →
      w.bursts = pre ++ b :: post → (∀ x ∈ pre, x.promoted = true) → b.promoted = false →
      b.since + s.dev.o O.MEM_ARB_PROMOTE ≤ s.clock.time →
      Leads (.requestPromotion port req) s (fun t =>
        t.dev.mem.waiting.find? (fun x => x.port == port && x.requester == req) =
          some { w with bursts := pre ++ { b with promoted := true } :: post } ∧
        t.dev.o O.MEM_ARB_PROMOTIONS req = ctrAdd O.MEM_ARB_PROMOTIONS req (s.dev.o O.MEM_ARB_PROMOTIONS req) 1))

/-! ### Housekeeping and thermal protection (chapter 16) -/

/-- The sequencer starts a due repeat on the converter its entry names and sets the time of the next one; a conversion that
ends gives its corrected value, its time, and where its entry asks for it a ring entry, and frees the converter 200 ns
before that for an input of die 1; writes of HK_RUN stop and restart the sequencer (R804, R806 to R810, R817 to R820, R830).
An urgent request takes an idle converter at once, interrupts a sequence conversion where both are busy, and else waits; the
thermal round asks for its sensor once a millisecond and Hawkmoth's check for VHV at an arming and every 10 ms; a READ of
HK_NOW converts its run and answers with the values (R822 to R824, R828, R829, R837). -/
def Obligations.Conversions : Prop :=
  (∀ (s : State) (h : Hdr), s.Quiet →
    (∀ w, w = s.dev.seqWord s.dev.hk.ent → s.dev.seqRuns = true → s.dev.hk.due ≤ s.clock.time → s.dev.hk.urgent = [] →
      s.dev.hk.again = false → s.dev.seqFree (seqConv w) = true → overtaken s.env s.dev.hk.adc0 = false →
      overtaken s.env s.dev.hk.adc1 = false → Leads .hkRepeatStart s (fun t =>
        t.dev.hk.due = s.clock.time + 600 + 150 * seqDelay w ∧
        (seqConv w ≠ 1 → t.dev.hk.adc0 =
          some { input := seqInput w, seqEnt := some (s.dev.hk.ent, s.dev.hk.rep), src := 0, start := s.clock.time }) ∧
        (seqConv w = 1 → t.dev.hk.adc0 = s.dev.hk.adc0 ∧ t.dev.hk.adc1 =
          some { input := seqInput w, seqEnt := some (s.dev.hk.ent, s.dev.hk.rep), src := 0, start := s.clock.time }) ∧
        (if seqRepeat w ≤ s.dev.hk.rep then t.dev.hk.ent = s.dev.seqNext s.dev.hk.ent ∧ t.dev.hk.rep = 0
          else t.dev.hk.ent = s.dev.hk.ent ∧ t.dev.hk.rep = s.dev.hk.rep + 1))) ∧
    (∀ adc c cv x, overtaken s.env s.dev.hk.adc0 = false → overtaken s.env s.dev.hk.adc1 = false → adc < 2 →
      ((s.dev.hk.late = [] ∧ (if adc = 0 then s.dev.hk.adc0 else s.dev.hk.adc1) = some cv ∧ cv.start + 600 ≤ s.clock.time) ∨
        (s.dev.hk.late.find? (fun y => y.1 == adc) = some (adc, cv) ∧ cv.start + 900 ≤ s.clock.time)) →
      cv.input < 48 → x = clampI (hkLo cv.input) (hkHi cv.input) c → Leads (.hkConversionDone adc c) s (fun t =>
        t.dev.readVal t.env O.HK_VALUE cv.input = hkFormat (s.dev.o O.HK_FMT cv.input) cv.input (s.dev.hkVal cv.input x) ∧
        t.dev.o O.HK_TIME cv.input = s.clock.time ∧
        t.dev.o O.HK_CLIP cv.input = (if s.dev.hkClipped cv.input x
          then ctrAdd O.HK_CLIP cv.input (s.dev.o O.HK_CLIP cv.input) 1 else s.dev.o O.HK_CLIP cv.input) ∧
        (∀ ent rep, cv.seqEnt = some (ent, rep) → seqRing (s.dev.seqWord ent) = true →
          t.dev.domNat O.HK_RING 0 (8 * (s.dev.o O.HK_RING_COUNT % 2048)) 8 = s.dev.ringEntry adc cv c ent % 2 ^ 64 ∧
          t.dev.o O.HK_RING_COUNT = ctrAdd O.HK_RING_COUNT 0 (s.dev.o O.HK_RING_COUNT) 1))) ∧
    (∀ c cv, s.dev.hk.adc0 = some cv → hkDie1 cv.input = true → s.dev.hk.late = [] → s.dev.hk.adc1 = none →
      s.dev.hk.urgent = [] → cv.start + 600 ≤ s.clock.time → s.clock.time < cv.start + 900 →
      Leads (.hkConversionDone 0 c) s (fun t => t.dev.hk.adc0 = none ∧ t.dev.hk.late = [(0, cv)] ∧
        t.dev.o O.HK_VALUE cv.input = s.dev.o O.HK_VALUE cv.input)) ∧
    (Accepts s h O.HK_RUN 0 0 → Leads (.hkRunStop h) s (fun t => t.dev.ob O.HK_RUN = false ∧
      (s.dev.hk.adc0 = none → s.dev.hk.adc1 = none → t.dev.o O.HK_STATE = 0))) ∧
    (Accepts s h O.HK_RUN 0 1 → s.dev.ob O.HK_RUN = false → Leads (.hkRunStart h) s (fun t => t.dev.ob O.HK_RUN = true ∧
      t.dev.o O.HK_STATE = 1 ∧ t.dev.o O.HK_SEQ_POS = 0 ∧ t.dev.hk.ent = 0 ∧ t.dev.hk.rep = 0 ∧
      t.dev.hk.due = s.clock.time))) ∧
  (∀ (s : State) (h : Hdr), s.Quiet →
    (∀ sensor, sensor < 16 → s.dev.hkAlive = true → s.dev.hk.urgent = [] → 93750 * sensor ≤ s.clock.time % 1500000 →
      tget 0 s.dev.hk.rounds sensor ≤ s.clock.time / 1500000 → overtaken s.env s.dev.hk.adc0 = false →
      overtaken s.env s.dev.hk.adc1 = false →
      (s.dev.hk.adc0 = none → Leads (.thermalRound sensor) s (fun t => t.dev.hk.urgent = [] ∧
        tget 0 t.dev.hk.rounds sensor = s.clock.time / 1500000 + 1 ∧ ∃ b, t.dev.hk.adc0 =
        some { input := 0x100 + sensor, seqEnt := none, src := 1, start := s.clock.time, inDelay := b })) ∧
      (∀ x y, s.dev.hk.adc0 = some x → s.dev.hk.adc1 = some y →
        (∀ ent rep, x.seqEnt = some (ent, rep) → Leads (.thermalRound sensor) s (fun t => t.dev.hk.urgent = [] ∧
          t.dev.hk.adc0 = some { input := 0x100 + sensor, seqEnt := none, src := 1, start := s.clock.time } ∧
          t.dev.hk.ent = ent ∧ t.dev.hk.rep = rep ∧
          t.dev.o O.HK_PREEMPTS = ctrAdd O.HK_PREEMPTS 0 (s.dev.o O.HK_PREEMPTS) 1)) ∧
        (x.seqEnt = none → Leads (.thermalRound sensor) s (fun t => t.dev.hk.adc0 = some x ∧ t.dev.hk.adc1 = some y ∧
          t.dev.hk.urgent = [{ src := 1, input := 0x100 + sensor }])))) ∧
    (s.dev.hkAlive = true → (s.dev.hk.vhvArm = true ∨
        ((s.dev.o O.HM_STATE = 2 ∨ s.dev.o O.HM_STATE = 3) ∧ s.dev.hk.vhvAt ≤ s.clock.time)) →
      s.dev.hk.urgent = [] → s.dev.hk.adc0 = none → overtaken s.env s.dev.hk.adc1 = false → Leads .hmVhvCheck s (fun t =>
        t.dev.hk.vhvAt = s.clock.time + 15000000 ∧ t.dev.hk.vhvArm = false ∧
        ∃ b, t.dev.hk.adc0 = some { input := 38, seqEnt := none, src := 0, start := s.clock.time, inDelay := b })) ∧
    (∀ el n codes, Served s h O.HK_NOW → 1 ≤ n → el + n ≤ 48 → codes.length = n →
      (∀ k, k < n → hkLo (el + k) ≤ codes.getD k 0 ∧ codes.getD k 0 ≤ hkHi (el + k)) →
      Leads (.hkNow h el n codes) s (fun t => (∀ k, k < n → t.dev.o O.HK_TIME (el + k) = s.clock.time) ∧
        Answered s t (readMsg h O.HK_NOW el n) (okAns s.clock.time ((List.range n).flatMap (fun k =>
          leBytes 4 (hkFormat (s.dev.o O.HK_FMT (el + k)) (el + k) (s.dev.hkVal (el + k) (codes.getD k 0)))))))))

/-- A sensor's result: its temperature, its stages and its status; entry into WARN is logged, entry into SHED is counted,
logged and lets Jacquard's frame end with every digitiser slice powered down, and the third result in a row outside the
range makes the sensor FAILED (R838, R839, R843, R845). The hardware shutdown: the instant, the sensor and the count stay in
the always-on domain and every other object is at its default; after 2 s below the limits the device restarts where
THM_AUTO_RESTART permits it (R848 to R850). -/
def Obligations.SensorsAndThermalShutdown : Prop :=
  (∀ (s : State) (adc sensor : Nat) (temp : Int) (cv : Conv), s.Quiet → adc < 2 →
    s.dev.hk.late = [] → overtaken s.env s.dev.hk.adc0 = false → overtaken s.env s.dev.hk.adc1 = false →
    (if adc = 0 then s.dev.hk.adc0 else s.dev.hk.adc1) = some cv → cv.start + 600 ≤ s.clock.time → cv.seqEnt = none →
    cv.input = 0x100 + sensor → sensor < 16 → bit s.dev.hk.failed sensor = false →
    (-550 ≤ temp → temp ≤ 2000 →
      (bit (s.dev.stagesAt sensor temp) 4 = false → Leads (.hkConversionDone adc temp) s (fun t =>
        t.dev.o O.THM_TEMP sensor = ofS 16 temp ∧ tget 0 t.dev.hk.stages sensor = s.dev.stagesAt sensor temp ∧
        t.dev.o O.THM_STATUS sensor = statusOf (s.dev.stagesAt sensor temp) ∧
        (bit (s.dev.stagesAt sensor temp) 0 = true → bit (tget 0 s.dev.hk.stages sensor) 0 = false → Logged s t 0x0E00 1))) ∧
      (bit (s.dev.stagesAt sensor temp) 4 = true → bit (tget 0 s.dev.hk.stages sensor) 4 = false → s.dev.o O.JQ_STATE = 2 →
        Leads (.hkConversionDone adc temp) s (fun t => t.dev.o O.THM_STATUS sensor = 3 ∧ t.dev.o O.JQ_STATE = 3 ∧
          (∀ d, d < 32 → t.dev.ob O.DG_POWER d = false) ∧
          t.dev.o O.THM_SHED_EVENTS = ctrAdd O.THM_SHED_EVENTS 0 (s.dev.o O.THM_SHED_EVENTS) 1 ∧ Logged s t 0x0E03 4))) ∧
    (temp < -550 ∨ 2000 < temp → tget 0 s.dev.hk.outside sensor = 2 → Leads (.hkConversionDone adc temp) s (fun t =>
      t.dev.o O.THM_STATUS sensor = 4 ∧ bit t.dev.hk.failed sensor = true ∧ Logged s t 0x0E05 2))) ∧
  (∀ s : State, s.Quiet →
    (∀ sensor, sensor < 16 → s.dev.pwr.mode ≠ .shutdown → Leads (.thermalShutdownTrip sensor) s (fun t =>
      t.dev.pwr.mode = .shutdown ∧ t.dev.pwr.coolAt = s.clock.time ∧ t.dev.o O.THM_SD_TIME = s.clock.time ∧
      t.dev.o O.THM_SD_SENSOR = sensor ∧
      t.dev.o O.THM_SD_COUNT = ctrAdd O.THM_SD_COUNT 0 (s.dev.o O.THM_SD_COUNT) 1 ∧ t.dev.pwr.fabric = false ∧
      t.dev.mem.trained = none ∧ t.dev.jq.flight = none ∧
      ∀ i el, el < 4096 → i ∉ aonIdx → i ∉ [O.PWR_VHV_STATE, O.HK_LIM_LO, O.HK_LIM_HI] → t.dev.o i el = dflt i el)) ∧
    (s.dev.pwr.mode = .shutdown → s.dev.ob O.THM_AUTO_RESTART = true → s.dev.pwr.coolAt + 3000000000 ≤ s.clock.time →
      Leads .thermalAutoRestart s (fun t => ResetTo s t 6 ∧ t.dev.pwr.mode = .up ∧ t.dev.o O.SU_STATE = 0 ∧
        ∃ en ∈ t.dev.flt.held, en.code = 0x0E04 ∧ en.cls = 5 ∧ en.time = s.dev.o O.THM_SD_TIME)))

/-! ### Power, clocks, reset and start-up (chapter 17) -/

/-- The resets: a power-on reset starts device time at 0 with every object at its default; RESET_N, RST_REQ (at once where the
response has left with the command, after its response on SPI), the supervisor and the loss of the clock reset with their own cause
and keep the always-on objects (R53, R869, R872 to R875). -/
def Obligations.ResetsLeave : Prop :=
  ∀ (s : State) (h : Hdr), s.Quiet →
    Leads .powerOnReset s (fun t => t.clock = { time := 0, frac := 0 } ∧ t.dev.pwr.mode = .rails ∧ t.dev.pwr.kind = 1 ∧
      t.dev.pwr.fabric = false ∧ t.dev.flash = s.dev.flash ∧ t.pending = s.pending ∧
      t.dev.o O.PWR_VHV_STATE = s.dev.pwr.lockout ∧
      ∀ i el, el < 4096 → i ∉ [O.PWR_VHV_STATE, O.HK_LIM_LO, O.HK_LIM_HI] → t.dev.o i el = dflt i el) ∧
    Leads .resetNLow s (fun t => ResetTo s t 2 ∧ t.dev.pwr.mode = s.dev.pwr.mode.after ∧ t.dev.pwr.fabric = false) ∧
    (Accepts s h O.RST_REQ 0 1 →
      (h.sess < 2 → Leads (.rstReq h) s (fun t => ResetTo s t 3 ∧ t.dev.pwr.mode = .up ∧ t.dev.o O.SU_STATE = 0)) ∧
      (h.sess = 2 → Leads (.rstReq h) s (fun t => t.dev.pwr.rstDue = some (2, s.clock.time) ∧
        t.dev.o O.RST_CAUSE = s.dev.o O.RST_CAUSE ∧ t.dev.o O.SU_STATE = s.dev.o O.SU_STATE)) ∧
      (h.sess = 3 → Leads (.rstReq h) s (fun t => ResetTo s t 3 ∨ t.dev.pwr.rstDue = some (3, s.clock.time)))) ∧
    (s.dev.pwr.mode = .up →
      (∀ cause core, Leads (.supervisorReset cause core) s (fun t => ResetTo s t 4 ∧
        t.dev.pwr.mode = (if cause < 2 then .up else .rails) ∧
        (cause < 2 → ∃ en ∈ t.dev.flt.held, en.code = 0x0E17 + cause ∧ en.cls = 5 ∧ en.time = s.clock.time))) ∧
      Leads .clockLoss s (fun t => ResetTo s t 5 ∧ t.dev.pwr.mode = .clock ∧ t.dev.pwr.fabric = false))

/-- Start-up: the rails, or in a clock reset the reference, begin fuse load and deliver the entry of the reset; fuse load
records its time, logs a VHV outside the anode window, and leads to the reference, which starts the fabric clock and leads
on; the link phase ends at READY or after 5 ms and start-up is READY when its calibration ends (R858, R866, R869, R889,
R918, R586, Table 17-8). FW_LOAD takes the slot with a valid image and reads its boot configuration; a slot that is not
valid is logged, and the second one ends in BOOT_FAILED; a retained copy that does not check gives way to the flash. A boot
entry that breaks a rule is counted and logged, a write that READY releases is held, and any other request executes (R880 to
R882, R885 to R888, R901). -/
def Obligations.StartUp : Prop :=
  (∀ s : State, s.Quiet →
    (s.dev.pwr.mode = .rails → Leads .railsInRange s (fun t => t.dev.pwr.mode = .up ∧ t.dev.o O.SU_STATE = 0 ∧
      t.dev.pwr.pwrEn = true ∧ (∀ k, k < 3 → s.dev.pwr.kind = k + 1 → Logged s t (0x0E14 + k) 0))) ∧
    (s.dev.pwr.mode = .clock → Leads .refQualified s (fun t => t.dev.pwr.mode = .up ∧ t.dev.o O.SU_STATE = 0 ∧
      (s.dev.pwr.kind = 5 → Logged s t 0x0E1A 5))) ∧
    (s.dev.pwr.mode = .up →
      (s.dev.o O.SU_STATE = 0 → Leads .fuseLoadDone s (fun t => t.dev.o O.SU_STATE = 1 ∧ t.dev.pwr.phaseAt = s.clock.time ∧
        t.dev.o O.SU_PHASE_US 0 = satN 0xFFFFFFFF ((s.clock.time - s.dev.pwr.phaseAt) / 1500) ∧
        (s.dev.vhvOut = true → Logged s t 0x020C 1))) ∧
      (s.dev.o O.SU_STATE = 1 → Leads .refQualified s (fun t => t.dev.pwr.fabric = true ∧
        t.dev.o O.SU_STATE = if s.dev.pwr.warm then 4 else 2))) ∧
    (s.dev.o O.SU_STATE = 5 → (s.dev.o O.LINK_STATE = 2 ∨ s.dev.pwr.phaseAt + 7500000 ≤ s.clock.time) →
      Leads .linkPhaseEnd s (fun t => t.dev.o O.SU_STATE = 6 ∧ t.dev.pwr.phaseAt = s.clock.time)) ∧
    (Dev.calEnds s.env s.dev = true → s.dev.pwr.heldWrites = [] → Leads .startupCalibrationDone s (fun t =>
      t.dev.o O.SU_STATE = 7 ∧ t.dev.o O.SU_READY_TIME = s.clock.time))) ∧
  (∀ s : State, s.Quiet → s.dev.pwr.mode = .up →
    (∀ slot, s.dev.o O.SU_STATE = 2 → s.dev.pwr.copy = none → slot = s.dev.nextSlot →
      (Dev.slotStatus s.env s.dev slot = 1 → Leads (.fwSlotChecked slot) s (fun t => t.dev.o O.FW_SLOT_RUNNING = slot ∧
        t.dev.o O.FW_SLOT_STATUS slot = 1 ∧ (t.dev.pwr.cfg ≠ [] → t.dev.o O.SU_STATE = 3) ∧
        (t.dev.pwr.cfg = [] → s.dev.pwr.warm = false → t.dev.o O.SU_STATE = 4 ∧ t.dev.o O.MEM_STATE = 1 ∧
          t.dev.mem.trainAt = some s.clock.time))) ∧
      (Dev.slotStatus s.env s.dev slot ≠ 1 → Leads (.fwSlotChecked slot) s (fun t =>
        t.dev.o O.FW_SLOT_STATUS slot = Dev.slotStatus s.env s.dev slot ∧ Logged s t 0x0E0D 1 ∧
        t.dev.pwr.tried = setBit s.dev.pwr.tried slot true ∧
        t.dev.o O.SU_STATE = if setBit s.dev.pwr.tried slot true = 3 then 9 else 2))) ∧
    (∀ slot c, s.dev.o O.SU_STATE = 2 → s.dev.pwr.copy = some c → (Dev.copyImage s.env { s.dev with sent := [] }).1 = none →
      Leads (.fwSlotChecked slot) s (fun t => t.dev.pwr.copy = none ∧ t.dev.o O.SU_STATE = 2)) ∧
    (∀ x l, s.dev.o O.SU_STATE = 3 → s.dev.pwr.cfg = x :: l →
      (∀ a, bootAbort (gopOf bootSes x) = some a → Leads .bootConfigEntry s (fun t => t.dev.pwr.cfg = l ∧
        t.dev.o O.SU_BOOT_CFG_ERR = ctrAdd O.SU_BOOT_CFG_ERR 0 (s.dev.o O.SU_BOOT_CFG_ERR) 1 ∧ Logged s t 0x0E0E 0 ∧
        Out.boot a.1 a.2 ∈ t.dev.sent)) ∧
      (∀ m, gopOf bootSes x = some m → bootAbort (some m) = none →
        (bootHolds m = true → Leads .bootConfigEntry s (fun t => t.dev.pwr.cfg = l ∧
          t.dev.pwr.heldWrites = s.dev.pwr.heldWrites ++ [m])) ∧
        (bootHolds m = false →
          (Dev.operate s.env { s.dev with sent := [], pwr := { s.dev.pwr with cfg := l } } m []).1.abort = none →
          Leads .bootConfigEntry s (fun t => Out.boot 0 0 ∈ t.dev.sent)))))

/-- VHV reversed, below 8.0 V or above 62.0 V takes its lockout, with the anode switches open, no bias output on and an
entry on entry into it; the end of a lockout clears it (R860, R861, Table 17-2). A domain that completes its ramp is ON; one
that does not in 100 µs is in FAULT, and a domain that start-up needs stops it in SAFE_STOP; a slow crystal that fails gives
way to the RC oscillator (R863, R864, R870). -/
def Obligations.VhvDomainsAndSlowClock : Prop :=
  (∀ (s : State) (c : Instr) (mv : Int) (k : Nat), s.Quiet →
    ((c = .vhvReverse mv ∧ mv < -500 ∧ k = 3) ∨ (c = .vhvUndervoltage mv ∧ mv < 8000 ∧ k = 1) ∨
        (c = .vhvOvervoltage mv ∧ 62000 < mv ∧ k = 2) →
      Leads c s (fun t => t.dev.o O.PWR_VHV_STATE = k ∧ t.dev.pwr.lockout = k ∧ t.dev.em.vhvMv = mv ∧ t.dev.rx.vhvLow = true ∧
        (s.dev.pwr.mode = .up → t.dev.em.closed = 0 ∧ (∀ b, b < 8 → t.dev.o O.RX_BIAS_STATUS b ∉ [1, 2, 3, 7]) ∧
          (s.dev.pwr.lockout ≠ k → Logged s t (if k = 3 then 0x0E10 else if k = 1 then 0x0E11 else 0x0E12)
            (if k = 1 then 1 else 3))))) ∧
    (s.dev.pwr.lockout ≠ 0 →
      (s.dev.pwr.lockout = 2 ∧ mv ≤ 61000 ∨ s.dev.pwr.lockout ≠ 2 ∧ 8500 ≤ mv ∧ mv ≤ 62000) →
      Leads (.vhvRecovery mv) s (fun t => t.dev.o O.PWR_VHV_STATE = 0 ∧ t.dev.pwr.lockout = 0 ∧ t.dev.em.vhvMv = mv))) ∧
  (∀ s : State, s.Quiet →
    (∀ n, n < 96 → s.dev.o O.PWR_DOM_STATE n = 1 →
      (tget 0 s.dev.pwr.rampAt n + 3000 ≤ s.clock.time →
        Leads (.powerDomainRampDone n) s (fun t => t.dev.o O.PWR_DOM_STATE n = 2)) ∧
      (tget 0 s.dev.pwr.rampAt n + 150000 ≤ s.clock.time → Leads (.powerDomainFault n) s (fun t =>
        t.dev.o O.PWR_DOM_STATE n = 3 ∧
        (64 ≤ n → Logged s t 0x0E0B (if 82 ≤ n ∧ s.dev.o O.SU_STATE < 7 then 4 else 2)) ∧
        t.dev.o O.SU_STATE = if 82 ≤ n ∧ s.dev.o O.SU_STATE < 7 then 10 else s.dev.o O.SU_STATE))) ∧
    (s.dev.o O.DEV_TIME_SLOWSRC = 0 → Leads .slowCrystalFail s (fun t => t.dev.o O.DEV_TIME_SLOWSRC = 1 ∧
      t.dev.o O.CLK_SLOW_FAILS = ctrAdd O.CLK_SLOW_FAILS 0 (s.dev.o O.CLK_SLOW_FAILS) 1 ∧ Logged s t 0x0E0C 1)))

/-- PWR_PARK stops Jacquard, disarms Hawkmoth, stops Tapestry and acquisition and takes the loop slots to OFF; the entry is done with
GDDR7 in self-refresh, every domain off and PWR_EN low; an enabled wake source then starts a warm start with its cause, and one that
comes during the entry does so at its end (R895 to R900). -/
def Obligations.ParkAndWake : Prop :=
  ∀ (s : State) (h : Hdr), s.Quiet →
    (Accepts s h O.PWR_PARK 0 1 →
      (s.dev.o O.JQ_STATE = 0 → Leads (.pwrPark h) s (fun t => t.dev.o O.SU_STATE = 8 ∧ t.dev.o O.HM_STATE = 0 ∧
        t.dev.o O.TAP_STATE = 0 ∧ t.dev.o O.ACQ_STATE = 0 ∧ (∀ q, q < 4 → t.dev.o O.ATL_STATE q = 0) ∧
        t.dev.cal.retained ≠ none)) ∧
      (s.dev.o O.JQ_STATE = 2 → s.dev.jq.flight ≠ none → Leads (.pwrPark h) s (fun t => t.dev.o O.SU_STATE = 8 ∧
        t.dev.o O.JQ_STATE = 3))) ∧
    (s.dev.o O.SU_STATE = 8 → s.dev.pwr.mode = .up →
      (s.dev.o O.JQ_STATE = 0 → s.dev.pwr.flashOp = 0 → (∀ q, q < 4 → (s.dev.slot q).ramp = false) →
        (s.dev.pwr.wakeLatched = 0 → Leads .parkEntryDone s (fun t => t.dev.pwr.mode = .parked ∧ t.dev.pwr.fabric = false ∧
          t.dev.pwr.pwrEn = false ∧ t.dev.pwr.parkAt = s.clock.time ∧ t.dev.flt.held = [] ∧
          (s.dev.found ≠ 0 → t.dev.o O.MEM_STATE = 3) ∧ ∀ n, n < 96 → t.dev.o O.PWR_DOM_STATE n = 0)) ∧
        (s.dev.pwr.wakeLatched ≠ 0 → Leads .parkEntryDone s (fun t => t.dev.pwr.mode = .rails ∧ t.dev.pwr.warm = true ∧
          t.dev.pwr.pwrEn = true ∧ t.dev.o O.RST_CAUSE = 7 ∧ t.dev.o O.PWR_WAKE_CAUSE = s.dev.pwr.wakeLatched))) ∧
      (bit (s.dev.o O.PWR_WAKE_EN) 0 = true → Leads .canWake s (fun t => t.dev.pwr.mode = .up ∧
        t.dev.pwr.wakeLatched = setBit s.dev.pwr.wakeLatched 0 true)) ∧
      (bit (s.dev.o O.PWR_WAKE_EN) 3 = true → Leads .vhvWake s (fun t => t.dev.pwr.mode = .up ∧
        t.dev.pwr.wakeLatched = setBit s.dev.pwr.wakeLatched 3 true))) ∧
    (∀ (c : Instr) (b : Nat), s.dev.pwr.mode = .parked → bit (s.dev.o O.PWR_WAKE_EN) b = true →
      (c = .canWake ∧ b = 0) ∨
      (∃ pin r, c = .gpioWake pin r ∧ b = 1 ∧ pin < 4 ∧
        bit (s.dev.o O.PWR_GPIO_WAKE) (2 * pin + if r then 0 else 1) = true) ∨
      (c = .wakeTimer ∧ b = 2 ∧ s.dev.pwr.parkAt + 1500000000 * s.dev.o O.PWR_WAKE_TIMER_S ≤ s.clock.time) ∨
      (c = .vhvWake ∧ b = 3) →
      Leads c s (fun t => ResetTo s t 7 ∧ t.dev.o O.PWR_WAKE_CAUSE = 2 ^ b ∧ t.dev.pwr.mode = .rails ∧ t.dev.pwr.warm = true ∧
        t.dev.pwr.pwrEn = true))

/-- FW_SLOT_ERASE makes the flash busy and its end leaves every byte of the slot at FF with the slot ERASED; an image programs its
slot, which clears bits, and its check decides the status and the answer (R883, R884). -/
def Obligations.FirmwareSlots : Prop :=
  ∀ (s : State) (h : Hdr) (slot : Nat), s.Quiet → slot < 2 →
    (Accepts s h O.FW_SLOT_ERASE slot 1 → Leads (.fwSlotErase h slot) s (fun t => t.dev.o O.FW_FLASH_BUSY = 1 ∧
      t.dev.pwr.flashOp = 1 ∧ t.dev.pwr.flashArg = slot)) ∧
    (s.dev.pwr.flashOp = 1 → s.dev.pwr.flashArg = slot → s.dev.cal.saveDue = false → s.dev.cal.eraseDue = false → Leads (.fwEraseDone slot) s (fun t =>
      t.dev.o O.FW_FLASH_BUSY = 0 ∧ t.dev.pwr.flashOp = 0 ∧ t.dev.o O.FW_SLOT_STATUS slot = 4 ∧
      ∀ a, tget 0xFF t.dev.flash a =
        if slotBase slot ≤ a ∧ a < slotBase slot + 0x200000 then 0xFF else tget 0xFF s.dev.flash a)) ∧
    (∀ bs, Served s h O.FW_SLOT_IMAGE → s.dev.o O.LOCK_OWNER = 0xFF → s.dev.commit = none → s.dev.slotAbort slot = none →
      1 ≤ bs.length → bs.length ≤ 512 →
      Leads (.fwSlotImage h slot 0 (leBytes 4 bs.length ++ bs ++ leBytes 4 (crc32 bs))) s (fun t =>
        (∀ a, tget 0xFF t.dev.flash a = if slotBase slot ≤ a ∧ a < slotBase slot + bs.length
          then tget 0xFF s.dev.flash a &&& bs.getD (a - slotBase slot) 0 else tget 0xFF s.dev.flash a) ∧
        t.dev.o O.FW_SLOT_STATUS slot = (if Dev.slotStatus t.env t.dev slot = 1 then 1 else 3) ∧
        Answered s t (blockMsg 4 h O.FW_SLOT_IMAGE slot 0 (leBytes 4 bs.length ++ bs ++ leBytes 4 (crc32 bs)))
          (if Dev.slotStatus t.env t.dev slot = 1 then okAns s.clock.time [] else refuse (11, 14))))

/-! ### The fault log (chapter 18) -/

/-- When the hold of the oldest entry has ended it and the concurrent ones leave the logger: each takes the next sequence
number, and a lone one fills the slot of its number with its 32 bytes and counts in its class (R909, R911, Table 18-3).
FLT_ACK acknowledges every entry up to its number, and FAULT_N is high in READY once none is left; FLT_CLEAR empties every
slot (R877, R905, R913, R915). -/
def Obligations.TheFaultLog : Prop :=
  (∀ (s : State) (x : Nat), s.Quiet → oldest s.dev.flt.held = some x → x + 256 ≤ s.clock.time →
    Leads .faultLogBatchWrite s (fun t => t.dev.flt.held = s.dev.flt.held.filter (fun en => x + s.dev.concWindow < en.time) ∧
      ((∀ en ∈ s.dev.flt.held, en.cls < 8) →
        s.dev.flt.next + (s.dev.flt.held.filter (fun en => en.time ≤ x + s.dev.concWindow)).length ≤ 0xFFFFFFFF →
        t.dev.flt.next = s.dev.flt.next + (s.dev.flt.held.filter (fun en => en.time ≤ x + s.dev.concWindow)).length ∧
        t.dev.o O.FLT_NEWEST_SEQ = t.dev.flt.next - 1) ∧
      (∀ en, s.dev.flt.held = [en] → s.dev.flt.next < 0xFFFFFFFF → en.cls < 8 →
        t.dev.domBytes O.FLT_LOG 0 (32 * (s.dev.flt.next % 256)) 32 = entryBytes en s.dev.flt.next
          (match s.dev.flt.lastTime with
            | some y => s.dev.concurrent y en.time
            | none => false) ∧
        t.dev.o O.FLT_CLASS_COUNT en.cls = ctrAdd O.FLT_CLASS_COUNT en.cls (s.dev.o O.FLT_CLASS_COUNT en.cls) 1 ∧
        (3 ≤ en.cls → s.dev.flt.next ∈ t.dev.flt.unacked ∧ t.dev.pinFaultN = false)))) ∧
  (∀ (s : State) (h : Hdr), s.Quiet →
    (∀ v, Accepts s h O.FLT_ACK 0 v → Leads (.fltAck h v) s (fun t =>
      (s.dev.seqAbove v = true → t.dev.o O.FLT_ACKED_SEQ = v ∧ t.dev.flt.unacked = s.dev.flt.unacked.filter (fun n => v < n) ∧
        (s.dev.o O.SU_STATE = 7 → (∀ n ∈ s.dev.flt.unacked, n ≤ v) → t.dev.pinFaultN = true)) ∧
      (s.dev.seqAbove v = false → t.dev.o O.FLT_ACKED_SEQ = s.dev.o O.FLT_ACKED_SEQ ∧
        t.dev.flt.unacked = s.dev.flt.unacked))) ∧
    (Accepts s h O.FLT_CLEAR 0 1 → Leads (.fltClear h) s (fun t =>
      (∀ i, i < 8192 → t.dev.domByte O.FLT_LOG 0 i = 0) ∧ t.dev.flt.next = s.dev.flt.next)))

/-! ### Frames -/

/-- A write of an element whose value has no action of its own and comes into force at once changes that element alone, beside the
counters of requests and responses (R75, R79, R82). -/
def Obligations.PlainWritesChangeOneElement : Prop :=
  ∀ (s : State) (h : Hdr) (idx el v : Nat) (r : ObjRow), s.Quiet → rowOf? idx = some r → r.acc = .rw → r.ty ≠ .dom →
    r.cls = .now → el < 4096 → idx ∉ [O.RX_REPAIR, O.GOP_REQUESTS, O.GOP_ABORTS, O.LINK_TX_DISCARD, O.LINK_NOTIFY_DROPPED] →
    (∀ d, Dev.landEl s.env h.sess d idx el v = d.so idx el v) → Accepts s h idx el v →
    Leads (.write (reqTo h idx el 1 (leBytes (elWidth idx) v))) s (fun t => t.dev.o idx el = v ∧
      (∀ i x, x < 4096 → (i ≠ idx ∨ x ≠ el) → i ∉ [O.GOP_REQUESTS, O.GOP_ABORTS, O.LINK_TX_DISCARD, O.LINK_NOTIFY_DROPPED] →
        t.dev.o i x = s.dev.o i x) ∧
      t.dev.gddr = s.dev.gddr ∧ (∀ a, t.dev.gByte a = s.dev.gByte a) ∧ t.dev.doms = s.dev.doms ∧ t.dev.flash = s.dev.flash ∧
      t.clock = s.clock)

/-- The timed events of the drive, of Twill and of Hawkmoth that the table driveFrame lists change the objects it gives them
and no other element, no byte of memory, and neither device time nor the queue (R234, R247, R251, R255, R275, R284, R957).
The same of the receive path's events that receiveFrame lists (R318 to R331). -/
def Obligations.ShotPathEventsKeepTheRest : Prop :=
  (∀ (s : State) (c : Instr) (l : List Nat), s.Quiet → c.wf = true → driveFrame c = some l → Leads c s (fun t => Keeps s t l)) ∧
  (∀ (s : State) (c : Instr) (l : List Nat), s.Quiet → c.wf = true → receiveFrame c = some l → Leads c s (fun t => Keeps s t l))

/-- The events of the digitisers, of self-calibration and of Atlas that the table waveFrame lists change the objects it
gives them and nothing else of what Keeps names. The same of the events of the carriers and of the link that linkFrame
lists. The same of the events of memory, housekeeping and power that powerFrame lists. -/
def Obligations.OtherEventsKeepTheRest : Prop :=
  (∀ (s : State) (c : Instr) (l : List Nat), s.Quiet → c.wf = true → waveFrame c = some l → Leads c s (fun t => Keeps s t l)) ∧
  (∀ (s : State) (c : Instr) (l : List Nat), s.Quiet → c.wf = true → linkFrame c = some l → Leads c s (fun t => Keeps s t l)) ∧
  (∀ (s : State) (c : Instr) (l : List Nat), s.Quiet → c.wf = true → powerFrame c = some l → Leads c s (fun t => Keeps s t l))

/-! ### The machine as a whole -/

/-- The block right after reset: device time 0, every object at its default, Jacquard STOPPED, Hawkmoth DISARMED, the lock free,
the rails awaited, the inhibit path asserted, memory in its canonical form, nothing waiting. -/
def Obligations.ResetState : Prop :=
  State.reset.clock = { time := 0, frac := 0 } ∧ State.reset.pending = [] ∧ State.reset.Quiet ∧
    (∀ i el, State.reset.dev.o i el = dflt i el) ∧ State.reset.dev.o O.JQ_STATE = 0 ∧ State.reset.dev.o O.HM_STATE = 0 ∧
    State.reset.dev.o O.LOCK_OWNER = 0xFF ∧ State.reset.dev.o O.RST_CAUSE = 1 ∧ State.reset.dev.o O.SU_STATE = 0 ∧
    State.reset.dev.pwr.mode = .rails ∧ State.reset.dev.pwr.fabric = false ∧ State.reset.dev.inhibitPath = true ∧
    State.reset.dev.pinFaultN = false ∧ Memory.wf State.reset.dev.gddr = true ∧ State.reset.dev.link.txq = []

/-- With no command waiting a step is a step of the clock, a fabric cycle or a tick of the slow clock. Where nothing falls due by then
it changes nothing else, but that trained memory takes a command slot in each channel; a software reset that has waited its
millisecond comes with it (R53, R55, R777, R871, R874; the steps of the clock are the model's choice, log entries 1 and 19). -/
def Obligations.IdleStepsTheClock : Prop :=
  ∀ s : State, s.pending = [] → s.dev.jq.settle = false →
    (s.dev.pwr.rstDue = none → ({ s with clock := s.clock.tick s.dev.pwr.fabric } : State).Still →
      ((s.dev.pwr.fabric = false ∨ s.dev.o O.MEM_STATE ≠ 2) →
        step s = .next { s with clock := s.clock.tick s.dev.pwr.fabric, dev := { s.dev with sent := [] } }) ∧
      ∃ t, step s = .next t ∧ t.clock = s.clock.tick s.dev.pwr.fabric ∧ t.dev.gddr = s.dev.gddr ∧ t.dev.sent = [] ∧
        t.dev.mem.waiting = s.dev.mem.waiting ∧
        ∀ i el, el < 4096 → i ≠ O.MEM_CH_ACT → t.dev.o i el = s.dev.o i el) ∧
    (s.dev.pwr.fabric = true → s.clock.tick true = { s.clock with time := s.clock.time + 1 }) ∧
    (∀ n x, s.dev.pwr.rstDue = some (n, x) → x + 1400000 ≤ (s.clock.tick s.dev.pwr.fabric).time →
      ∃ t, step s = .next t ∧ ResetTo { s with clock := s.clock.tick s.dev.pwr.fabric } t 3 ∧ t.dev.pwr.mode = .up)

/-- Without the fabric clock device time goes on by 45,776 47/128 cycles a tick: n ticks add 45,776 n cycles and the carries of 47 n
128ths, whatever the fraction at the start (R55). -/
def Obligations.SlowClockCarriesTheFraction : Prop :=
  ∀ (s : State) (n : Nat), s.pending = [] → s.Quiet → s.dev.pwr.fabric = false → s.clock.frac < 128 →
    s.dev.jq.lineDue = none → (∀ k < 4, (s.dev.slot k).due = none) → s.dev.acq.syncs = [] → s.dev.rx.darkLate = none →
    ∃ t, Sys2Proof.core.run n s = .next t ∧ t.clock.time = s.clock.time + 45776 * n + (s.clock.frac + 47 * n) / 128 ∧
      t.clock.frac = (s.clock.frac + 47 * n) % 128 ∧ t.dev.objs = s.dev.objs ∧ t.dev.gddr = s.dev.gddr

/-- Every command of the table completes from every state, and every step answers a next state and keeps the invariant of the clock,
a fraction below one cycle. The part stays what it is, the
queue loses its front and gains nothing, and device time goes on with an idle step, stays with a command, and goes back to 0 with a
power-on reset alone (R54). That an idle step is a tick of the clock is the model's choice (log entry 1). -/
def Obligations.StepsKeepTheClock : Prop :=
  (∀ (c : Instr) (s : State), ∃ t, exec c s = .next t) ∧
  ∀ s : State, s.clock.frac < 128 →
    ∃ t, step s = .next t ∧ t.clock.frac < 128 ∧ t.part = s.part ∧ t.pending = s.pending.tail ∧
      (s.pending = [] → s.clock.time < t.clock.time) ∧
      (∀ c l, s.pending = c :: l → if c = .powerOnReset then t.clock = { time := 0, frac := 0 } else t.clock = s.clock)

end
end

