-- ==== Sys2Proof/Laws/Tab.lean ====
section
/-! SUPPORT. The laws of sparse tables: reading after writing, and that every operation keeps the canonical form. -/

namespace Sys2Proof.Machine

variable {α : Type}

@[simp] theorem tget_nil (d : α) (k : Nat) : tget d [] k = d := rfl

theorem tget_cons (d : α) (p : Nat × α) (t : Tab α) (k : Nat) :
    tget d (p :: t) k = if p.1 = k then p.2 else tget d t k := by
  obtain ⟨k', v⟩ := p
  by_cases h : k' = k <;> simp [tget, h]

theorem tdel_cons (p : Nat × α) (t : Tab α) (k : Nat) :
    tdel (p :: t) k = if p.1 = k then tdel t k else p :: tdel t k := by
  obtain ⟨k', v⟩ := p
  by_cases h : k' = k <;> simp [tdel, h]

theorem tins_cons (p : Nat × α) (t : Tab α) (k : Nat) (v : α) :
    tins (p :: t) k v = if k < p.1 then (k, v) :: p :: t else p :: tins t k v := by
  obtain ⟨k', v'⟩ := p
  rfl

/-! ### Reading after writing -/

theorem tget_tdel_self (d : α) (m : Tab α) (k : Nat) : tget d (tdel m k) k = d := by
  induction m with
  | nil => rfl
  | cons p t ih => rw [tdel_cons]; split <;> simp [tget_cons, *]

theorem tget_tdel_ne (d : α) (m : Tab α) {j k : Nat} (h : j ≠ k) : tget d (tdel m k) j = tget d m j := by
  induction m with
  | nil => rfl
  | cons p t ih =>
    rw [tdel_cons, tget_cons]
    by_cases hp : p.1 = k
    · have hj : ¬ p.1 = j := fun hj => h (hj.symm.trans hp)
      rw [if_pos hp, if_neg hj, ih]
    · rw [if_neg hp, tget_cons, ih]

theorem tget_tins_ne (d : α) (m : Tab α) {j k : Nat} (v : α) (h : j ≠ k) : tget d (tins m k v) j = tget d m j := by
  induction m with
  | nil => simp [tins, tget_cons, Ne.symm h]
  | cons p t ih =>
    rw [tins_cons]
    split
    · simp [tget_cons, Ne.symm h]
    · rw [tget_cons, tget_cons, ih]

/-- A key that no pair has is put where it is found first. -/
theorem tget_tins_tdel (d : α) (m : Tab α) (k : Nat) (v : α) : tget d (tins (tdel m k) k v) k = v := by
  induction m with
  | nil => simp [tdel, tins, tget_cons]
  | cons p t ih =>
    rw [tdel_cons]
    split
    · exact ih
    · rw [tins_cons]
      split
      · simp [tget_cons]
      · simp [tget_cons, *]

@[simp] theorem tget_tset_self [DecidableEq α] (d : α) (m : Tab α) (k : Nat) (v : α) : tget d (tset d m k v) k = v := by
  unfold tset
  split
  · rw [tget_tdel_self]; exact Eq.symm ‹_›
  · exact tget_tins_tdel d m k v

theorem tget_tset_ne [DecidableEq α] (d d' : α) (m : Tab α) {j k : Nat} (v : α) (h : j ≠ k) :
    tget d' (tset d m k v) j = tget d' m j := by
  unfold tset
  split
  · exact tget_tdel_ne d' m h
  · rw [tget_tins_ne d' _ v h, tget_tdel_ne d' m h]

theorem tget_tdrop_out (d : α) (m : Tab α) {lo n k : Nat} (h : k < lo ∨ lo + n ≤ k) :
    tget d (tdrop m lo n) k = tget d m k := by
  induction m with
  | nil => rfl
  | cons p t ih =>
    unfold tdrop at ih ⊢
    rw [List.filter_cons]
    split
    · rw [tget_cons, tget_cons, ih]
    · rename_i hp
      have : ¬ p.1 = k := by rintro rfl; simp at hp; omega
      rw [tget_cons, if_neg this, ih]

theorem tget_tdrop_in (d : α) (m : Tab α) {lo n k : Nat} (h1 : lo ≤ k) (h2 : k < lo + n) : tget d (tdrop m lo n) k = d := by
  induction m with
  | nil => rfl
  | cons p t ih =>
    unfold tdrop at ih ⊢
    rw [List.filter_cons]
    split
    · rename_i hp
      have : ¬ p.1 = k := by rintro rfl; simp at hp; omega
      rw [tget_cons, if_neg this, ih]
    · exact ih

/-! ### The canonical form -/

/-- Every key of the table is above a bound. -/
def tabove (b : Nat) (m : Tab α) : Prop := ∀ p ∈ m, b < p.1

theorem tsorted_cons {p : Nat × α} {t : Tab α} : tsorted (p :: t) = true ↔ tabove p.1 t ∧ tsorted t = true := by
  induction t generalizing p with
  | nil => obtain ⟨k, v⟩ := p; simp [tsorted, tabove]
  | cons q t ih =>
    obtain ⟨k, v⟩ := p
    obtain ⟨k', v'⟩ := q
    constructor
    · intro h
      simp only [tsorted, Bool.and_eq_true, decide_eq_true_eq] at h
      refine ⟨?_, h.2⟩
      intro r hr
      rcases List.mem_cons.mp hr with rfl | hr
      · exact h.1
      · exact Nat.lt_trans h.1 ((ih.mp h.2).1 r hr)
    · intro h
      simp only [tsorted, Bool.and_eq_true, decide_eq_true_eq]
      exact ⟨h.1 _ (List.mem_cons_self ..), h.2⟩

theorem mem_tdel {m : Tab α} {k : Nat} {p : Nat × α} (h : p ∈ tdel m k) : p ∈ m ∧ p.1 ≠ k := by
  induction m with
  | nil => simp [tdel] at h
  | cons q t ih =>
    rw [tdel_cons] at h
    split at h
    · exact ⟨List.mem_cons_of_mem _ (ih h).1, (ih h).2⟩
    · rcases List.mem_cons.mp h with rfl | h
      · exact ⟨List.mem_cons_self .., ‹_›⟩
      · exact ⟨List.mem_cons_of_mem _ (ih h).1, (ih h).2⟩

theorem tsorted_tdel {m : Tab α} (k : Nat) (h : tsorted m = true) : tsorted (tdel m k) = true := by
  induction m with
  | nil => rfl
  | cons p t ih =>
    have hs := tsorted_cons.mp h
    rw [tdel_cons]
    split
    · exact ih hs.2
    · exact tsorted_cons.mpr ⟨fun q hq => hs.1 q (mem_tdel hq).1, ih hs.2⟩

theorem mem_tins {m : Tab α} {k : Nat} {v : α} {p : Nat × α} (h : p ∈ tins m k v) : p = (k, v) ∨ p ∈ m := by
  induction m with
  | nil => simpa [tins] using h
  | cons q t ih =>
    rw [tins_cons] at h
    split at h
    · exact List.mem_cons.mp h
    · rcases List.mem_cons.mp h with rfl | h
      · exact .inr (List.mem_cons_self ..)
      · exact (ih h).imp_right (List.mem_cons_of_mem _)

theorem tsorted_tins {m : Tab α} {k : Nat} (v : α) (hk : ∀ p ∈ m, p.1 ≠ k) (h : tsorted m = true) :
    tsorted (tins m k v) = true := by
  induction m with
  | nil => rfl
  | cons p t ih =>
    have hs := tsorted_cons.mp h
    rw [tins_cons]
    split
    · refine tsorted_cons.mpr ⟨?_, h⟩
      intro q hq
      rcases List.mem_cons.mp hq with rfl | hq
      · assumption
      · exact Nat.lt_trans ‹_› (hs.1 q hq)
    · refine tsorted_cons.mpr ⟨?_, ih (fun q hq => hk q (List.mem_cons_of_mem _ hq)) hs.2⟩
      intro q hq
      rcases mem_tins hq with rfl | hq
      · have := hk p (List.mem_cons_self ..)
        show p.1 < k
        omega
      · exact hs.1 q hq

theorem twf_iff [DecidableEq α] {d : α} {m : Tab α} : twf d m = true ↔ tsorted m = true ∧ ∀ p ∈ m, p.2 ≠ d := by
  simp [twf]

/-- Setting a key keeps the canonical form. -/
theorem twf_tset [DecidableEq α] {d : α} {m : Tab α} (k : Nat) (v : α) (h : twf d m = true) : twf d (tset d m k v) = true := by
  rw [twf_iff] at h ⊢
  unfold tset
  split
  · exact ⟨tsorted_tdel k h.1, fun p hp => h.2 p (mem_tdel hp).1⟩
  · refine ⟨tsorted_tins v (fun p hp => (mem_tdel hp).2) (tsorted_tdel k h.1), ?_⟩
    intro p hp
    rcases mem_tins hp with rfl | hp
    · assumption
    · exact h.2 p (mem_tdel hp).1

/-- Keeping some of the pairs keeps the canonical form. -/
theorem twf_filter [DecidableEq α] {d : α} {m : Tab α} (f : Nat × α → Bool) (h : twf d m = true) :
    twf d (m.filter f) = true := by
  rw [twf_iff] at h ⊢
  refine ⟨?_, fun p hp => h.2 p (List.mem_filter.mp hp).1⟩
  have hs := h.1
  clear h
  induction m with
  | nil => rfl
  | cons p t ih =>
    have hp := tsorted_cons.mp hs
    rw [List.filter_cons]
    split
    · exact tsorted_cons.mpr ⟨fun q hq => hp.1 q (List.mem_filter.mp hq).1, ih hp.2⟩
    · exact ih hp.2

/-- Dropping a span of keys keeps the canonical form. -/
theorem twf_tdrop [DecidableEq α] {d : α} {m : Tab α} (lo n : Nat) (h : twf d m = true) : twf d (tdrop m lo n) = true :=
  twf_filter _ h

/-- Tables of one form that read the same everywhere are the same table. -/
theorem twf_ext [DecidableEq α] {d : α} {m m' : Tab α} (h : twf d m = true) (h' : twf d m' = true)
    (e : ∀ k, tget d m k = tget d m' k) : m = m' := by
  rw [twf_iff] at h h'
  have above : ∀ (t : Tab α) (b k : Nat), tabove b t → k ≤ b → tget d t k = d := by
    intro t
    induction t with
    | nil => intros; rfl
    | cons p t ih =>
      intro b k ha hk
      have hp := ha p (List.mem_cons_self ..)
      rw [tget_cons, if_neg (by omega)]
      exact ih b k (fun q hq => ha q (List.mem_cons_of_mem _ hq)) hk
  induction m generalizing m' with
  | nil =>
    cases m' with
    | nil => rfl
    | cons q t' =>
      have := e q.1
      rw [tget_nil, tget_cons, if_pos rfl] at this
      exact absurd this.symm (h'.2 q (List.mem_cons_self ..))
  | cons p t ih =>
    have hs := tsorted_cons.mp h.1
    cases m' with
    | nil =>
      have := e p.1
      rw [tget_nil, tget_cons, if_pos rfl] at this
      exact absurd this (h.2 p (List.mem_cons_self ..))
    | cons q t' =>
      have hs' := tsorted_cons.mp h'.1
      have hkey : p.1 = q.1 := by
        rcases Nat.lt_trichotomy p.1 q.1 with hlt | heq | hlt
        · have := e p.1
          rw [tget_cons, if_pos rfl, tget_cons, if_neg (by omega), above t' q.1 p.1 hs'.1 (by omega)] at this
          exact absurd this (h.2 p (List.mem_cons_self ..))
        · exact heq
        · have := e q.1
          rw [tget_cons, if_neg (by omega), tget_cons, if_pos rfl, above t p.1 q.1 hs.1 (by omega)] at this
          exact absurd this.symm (h'.2 q (List.mem_cons_self ..))
      have hval : p.2 = q.2 := by
        have := e p.1
        rw [tget_cons, if_pos rfl, tget_cons, if_pos hkey.symm] at this
        exact this
      have htail : t = t' := by
        refine ih ⟨hs.2, fun r hr => h.2 r (List.mem_cons_of_mem _ hr)⟩
          ⟨hs'.2, fun r hr => h'.2 r (List.mem_cons_of_mem _ hr)⟩ ?_
        intro k
        by_cases hk : k ≤ p.1
        · rw [above t p.1 k hs.1 hk, above t' q.1 k hs'.1 (by omega)]
        · have := e k
          rwa [tget_cons, if_neg (by omega), tget_cons, if_neg (by omega)] at this
      rw [Prod.ext hkey hval, htail]

end Sys2Proof.Machine
end

