-- ==== Sys2Proof/Laws/State.lean ====
section
/-! SUPPORT. What each update of the device leaves alone, one lemma for each field, and the values of objects after one. -/

namespace Sys2Proof.Machine

/-! ### Objects -/

/-- Keys of different objects, or of different elements of one, differ. -/
theorem okey_ne {i j a b : Nat} (ha : a < 4096) (hb : b < 4096) (h : i ≠ j ∨ a ≠ b) : okey i a ≠ okey j b := by
  unfold okey; omega

@[simp] theorem Dev.o_so_self (d : Dev) (i el v : Nat) : (d.so i el v).o i el = v := tget_tset_self ..

theorem Dev.o_so_key {d : Dev} {i a v j b : Nat} (h : okey j b ≠ okey i a) : (d.so i a v).o j b = d.o j b :=
  tget_tset_ne _ _ _ _ h

theorem Dev.o_so_ne {d : Dev} {i a v j b : Nat} (ha : a < 4096) (hb : b < 4096) (h : j ≠ i ∨ b ≠ a) :
    (d.so i a v).o j b = d.o j b := Dev.o_so_key (okey_ne hb ha h)

@[simp] theorem Dev.o_inc_self (d : Dev) (i el n : Nat) : (d.inc i el n).o i el = ctrAdd i el (d.o i el) n :=
  Dev.o_so_self ..

theorem Dev.o_inc_ne {d : Dev} {i a n j b : Nat} (ha : a < 4096) (hb : b < 4096) (h : j ≠ i ∨ b ≠ a) :
    (d.inc i a n).o j b = d.o j b := Dev.o_so_ne ha hb h

/-- Objects are read from their store alone. -/
theorem Dev.o_congr {d d' : Dev} (h : d'.objs = d.objs) (i el : Nat) : d'.o i el = d.o i el := by
  unfold Dev.o; rw [h]

/-- Bytes of DOM objects are read from their store alone. -/
theorem Dev.domByte_congr {d d' : Dev} (h : d'.doms = d.doms) (i el off : Nat) : d'.domByte i el off = d.domByte i el off := by
  unfold Dev.domByte; rw [h]

/-- A byte of GDDR7 is read from the bytes, the undefined ranges and the fills, and from the number of devices. -/
theorem Dev.gByte_congr {d d' : Dev} (hg : d'.gddr = d.gddr) (hu : d'.mem.undef = d.mem.undef)
    (hf : d'.mem.filled = d.mem.filled) (ho : d'.o O.CAP_GDDR7_FOUND = d.o O.CAP_GDDR7_FOUND) (a : Nat) :
    d'.gByte a = d.gByte a := by
  unfold Dev.gByte Dev.chanOf Dev.found; rw [hg, hu, hf, ho]

/-! ### `so` -/

@[simp] theorem Dev.shadows_so (d : Dev) (i el v : Nat) : (d.so i el v).shadows = d.shadows := rfl
@[simp] theorem Dev.domShadows_so (d : Dev) (i el v : Nat) : (d.so i el v).domShadows = d.domShadows := rfl
@[simp] theorem Dev.commit_so (d : Dev) (i el v : Nat) : (d.so i el v).commit = d.commit := rfl
@[simp] theorem Dev.doms_so (d : Dev) (i el v : Nat) : (d.so i el v).doms = d.doms := rfl
@[simp] theorem Dev.gddr_so (d : Dev) (i el v : Nat) : (d.so i el v).gddr = d.gddr := rfl
@[simp] theorem Dev.flash_so (d : Dev) (i el v : Nat) : (d.so i el v).flash = d.flash := rfl
@[simp] theorem Dev.free_so (d : Dev) (i el v : Nat) : (d.so i el v).free = d.free := rfl
@[simp] theorem Dev.sent_so (d : Dev) (i el v : Nat) : (d.so i el v).sent = d.sent := rfl
@[simp] theorem Dev.ses_so (d : Dev) (i el v : Nat) : (d.so i el v).ses = d.ses := rfl
@[simp] theorem Dev.subs_so (d : Dev) (i el v : Nat) : (d.so i el v).subs = d.subs := rfl
@[simp] theorem Dev.lock_so (d : Dev) (i el v : Nat) : (d.so i el v).lock = d.lock := rfl
@[simp] theorem Dev.flt_so (d : Dev) (i el v : Nat) : (d.so i el v).flt = d.flt := rfl
@[simp] theorem Dev.link_so (d : Dev) (i el v : Nat) : (d.so i el v).link = d.link := rfl
@[simp] theorem Dev.jq_so (d : Dev) (i el v : Nat) : (d.so i el v).jq = d.jq := rfl
@[simp] theorem Dev.em_so (d : Dev) (i el v : Nat) : (d.so i el v).em = d.em := rfl
@[simp] theorem Dev.hm_so (d : Dev) (i el v : Nat) : (d.so i el v).hm = d.hm := rfl
@[simp] theorem Dev.rx_so (d : Dev) (i el v : Nat) : (d.so i el v).rx = d.rx := rfl
@[simp] theorem Dev.tdc_so (d : Dev) (i el v : Nat) : (d.so i el v).tdc = d.tdc := rfl
@[simp] theorem Dev.ex_so (d : Dev) (i el v : Nat) : (d.so i el v).ex = d.ex := rfl
@[simp] theorem Dev.rl_so (d : Dev) (i el v : Nat) : (d.so i el v).rl = d.rl := rfl
@[simp] theorem Dev.acq_so (d : Dev) (i el v : Nat) : (d.so i el v).acq = d.acq := rfl
@[simp] theorem Dev.cal_so (d : Dev) (i el v : Nat) : (d.so i el v).cal = d.cal := rfl
@[simp] theorem Dev.atl_so (d : Dev) (i el v : Nat) : (d.so i el v).atl = d.atl := rfl
@[simp] theorem Dev.tap_so (d : Dev) (i el v : Nat) : (d.so i el v).tap = d.tap := rfl
@[simp] theorem Dev.mem_so (d : Dev) (i el v : Nat) : (d.so i el v).mem = d.mem := rfl
@[simp] theorem Dev.hk_so (d : Dev) (i el v : Nat) : (d.so i el v).hk = d.hk := rfl
@[simp] theorem Dev.pwr_so (d : Dev) (i el v : Nat) : (d.so i el v).pwr = d.pwr := rfl

/-! ### `inc` -/

@[simp] theorem Dev.shadows_inc (d : Dev) (i el n : Nat) : (d.inc i el n).shadows = d.shadows := rfl
@[simp] theorem Dev.domShadows_inc (d : Dev) (i el n : Nat) : (d.inc i el n).domShadows = d.domShadows := rfl
@[simp] theorem Dev.commit_inc (d : Dev) (i el n : Nat) : (d.inc i el n).commit = d.commit := rfl
@[simp] theorem Dev.doms_inc (d : Dev) (i el n : Nat) : (d.inc i el n).doms = d.doms := rfl
@[simp] theorem Dev.gddr_inc (d : Dev) (i el n : Nat) : (d.inc i el n).gddr = d.gddr := rfl
@[simp] theorem Dev.flash_inc (d : Dev) (i el n : Nat) : (d.inc i el n).flash = d.flash := rfl
@[simp] theorem Dev.free_inc (d : Dev) (i el n : Nat) : (d.inc i el n).free = d.free := rfl
@[simp] theorem Dev.sent_inc (d : Dev) (i el n : Nat) : (d.inc i el n).sent = d.sent := rfl
@[simp] theorem Dev.ses_inc (d : Dev) (i el n : Nat) : (d.inc i el n).ses = d.ses := rfl
@[simp] theorem Dev.subs_inc (d : Dev) (i el n : Nat) : (d.inc i el n).subs = d.subs := rfl
@[simp] theorem Dev.lock_inc (d : Dev) (i el n : Nat) : (d.inc i el n).lock = d.lock := rfl
@[simp] theorem Dev.flt_inc (d : Dev) (i el n : Nat) : (d.inc i el n).flt = d.flt := rfl
@[simp] theorem Dev.link_inc (d : Dev) (i el n : Nat) : (d.inc i el n).link = d.link := rfl
@[simp] theorem Dev.jq_inc (d : Dev) (i el n : Nat) : (d.inc i el n).jq = d.jq := rfl
@[simp] theorem Dev.em_inc (d : Dev) (i el n : Nat) : (d.inc i el n).em = d.em := rfl
@[simp] theorem Dev.hm_inc (d : Dev) (i el n : Nat) : (d.inc i el n).hm = d.hm := rfl
@[simp] theorem Dev.rx_inc (d : Dev) (i el n : Nat) : (d.inc i el n).rx = d.rx := rfl
@[simp] theorem Dev.tdc_inc (d : Dev) (i el n : Nat) : (d.inc i el n).tdc = d.tdc := rfl
@[simp] theorem Dev.ex_inc (d : Dev) (i el n : Nat) : (d.inc i el n).ex = d.ex := rfl
@[simp] theorem Dev.rl_inc (d : Dev) (i el n : Nat) : (d.inc i el n).rl = d.rl := rfl
@[simp] theorem Dev.acq_inc (d : Dev) (i el n : Nat) : (d.inc i el n).acq = d.acq := rfl
@[simp] theorem Dev.cal_inc (d : Dev) (i el n : Nat) : (d.inc i el n).cal = d.cal := rfl
@[simp] theorem Dev.atl_inc (d : Dev) (i el n : Nat) : (d.inc i el n).atl = d.atl := rfl
@[simp] theorem Dev.tap_inc (d : Dev) (i el n : Nat) : (d.inc i el n).tap = d.tap := rfl
@[simp] theorem Dev.mem_inc (d : Dev) (i el n : Nat) : (d.inc i el n).mem = d.mem := rfl
@[simp] theorem Dev.hk_inc (d : Dev) (i el n : Nat) : (d.inc i el n).hk = d.hk := rfl
@[simp] theorem Dev.pwr_inc (d : Dev) (i el n : Nat) : (d.inc i el n).pwr = d.pwr := rfl

/-! ### `send` -/

@[simp] theorem Dev.objs_send (d : Dev) (x : Out) : (d.send x).objs = d.objs := rfl
@[simp] theorem Dev.shadows_send (d : Dev) (x : Out) : (d.send x).shadows = d.shadows := rfl
@[simp] theorem Dev.domShadows_send (d : Dev) (x : Out) : (d.send x).domShadows = d.domShadows := rfl
@[simp] theorem Dev.commit_send (d : Dev) (x : Out) : (d.send x).commit = d.commit := rfl
@[simp] theorem Dev.doms_send (d : Dev) (x : Out) : (d.send x).doms = d.doms := rfl
@[simp] theorem Dev.gddr_send (d : Dev) (x : Out) : (d.send x).gddr = d.gddr := rfl
@[simp] theorem Dev.flash_send (d : Dev) (x : Out) : (d.send x).flash = d.flash := rfl
@[simp] theorem Dev.free_send (d : Dev) (x : Out) : (d.send x).free = d.free := rfl
@[simp] theorem Dev.ses_send (d : Dev) (x : Out) : (d.send x).ses = d.ses := rfl
@[simp] theorem Dev.subs_send (d : Dev) (x : Out) : (d.send x).subs = d.subs := rfl
@[simp] theorem Dev.lock_send (d : Dev) (x : Out) : (d.send x).lock = d.lock := rfl
@[simp] theorem Dev.flt_send (d : Dev) (x : Out) : (d.send x).flt = d.flt := rfl
@[simp] theorem Dev.link_send (d : Dev) (x : Out) : (d.send x).link = d.link := rfl
@[simp] theorem Dev.jq_send (d : Dev) (x : Out) : (d.send x).jq = d.jq := rfl
@[simp] theorem Dev.em_send (d : Dev) (x : Out) : (d.send x).em = d.em := rfl
@[simp] theorem Dev.hm_send (d : Dev) (x : Out) : (d.send x).hm = d.hm := rfl
@[simp] theorem Dev.rx_send (d : Dev) (x : Out) : (d.send x).rx = d.rx := rfl
@[simp] theorem Dev.tdc_send (d : Dev) (x : Out) : (d.send x).tdc = d.tdc := rfl
@[simp] theorem Dev.ex_send (d : Dev) (x : Out) : (d.send x).ex = d.ex := rfl
@[simp] theorem Dev.rl_send (d : Dev) (x : Out) : (d.send x).rl = d.rl := rfl
@[simp] theorem Dev.acq_send (d : Dev) (x : Out) : (d.send x).acq = d.acq := rfl
@[simp] theorem Dev.cal_send (d : Dev) (x : Out) : (d.send x).cal = d.cal := rfl
@[simp] theorem Dev.atl_send (d : Dev) (x : Out) : (d.send x).atl = d.atl := rfl
@[simp] theorem Dev.tap_send (d : Dev) (x : Out) : (d.send x).tap = d.tap := rfl
@[simp] theorem Dev.mem_send (d : Dev) (x : Out) : (d.send x).mem = d.mem := rfl
@[simp] theorem Dev.hk_send (d : Dev) (x : Out) : (d.send x).hk = d.hk := rfl
@[simp] theorem Dev.pwr_send (d : Dev) (x : Out) : (d.send x).pwr = d.pwr := rfl
@[simp] theorem Dev.o_send (d : Dev) (x : Out) (i_ e_ : Nat) : (d.send x).o i_ e_ = d.o i_ e_ := rfl

/-! ### `setSess` -/

@[simp] theorem Dev.objs_setSess (d : Dev) (n : Nat) (x : Ses) : (d.setSess n x).objs = d.objs := rfl
@[simp] theorem Dev.shadows_setSess (d : Dev) (n : Nat) (x : Ses) : (d.setSess n x).shadows = d.shadows := rfl
@[simp] theorem Dev.domShadows_setSess (d : Dev) (n : Nat) (x : Ses) : (d.setSess n x).domShadows = d.domShadows := rfl
@[simp] theorem Dev.commit_setSess (d : Dev) (n : Nat) (x : Ses) : (d.setSess n x).commit = d.commit := rfl
@[simp] theorem Dev.doms_setSess (d : Dev) (n : Nat) (x : Ses) : (d.setSess n x).doms = d.doms := rfl
@[simp] theorem Dev.gddr_setSess (d : Dev) (n : Nat) (x : Ses) : (d.setSess n x).gddr = d.gddr := rfl
@[simp] theorem Dev.flash_setSess (d : Dev) (n : Nat) (x : Ses) : (d.setSess n x).flash = d.flash := rfl
@[simp] theorem Dev.free_setSess (d : Dev) (n : Nat) (x : Ses) : (d.setSess n x).free = d.free := rfl
@[simp] theorem Dev.sent_setSess (d : Dev) (n : Nat) (x : Ses) : (d.setSess n x).sent = d.sent := rfl
@[simp] theorem Dev.subs_setSess (d : Dev) (n : Nat) (x : Ses) : (d.setSess n x).subs = d.subs := rfl
@[simp] theorem Dev.lock_setSess (d : Dev) (n : Nat) (x : Ses) : (d.setSess n x).lock = d.lock := rfl
@[simp] theorem Dev.flt_setSess (d : Dev) (n : Nat) (x : Ses) : (d.setSess n x).flt = d.flt := rfl
@[simp] theorem Dev.link_setSess (d : Dev) (n : Nat) (x : Ses) : (d.setSess n x).link = d.link := rfl
@[simp] theorem Dev.jq_setSess (d : Dev) (n : Nat) (x : Ses) : (d.setSess n x).jq = d.jq := rfl
@[simp] theorem Dev.em_setSess (d : Dev) (n : Nat) (x : Ses) : (d.setSess n x).em = d.em := rfl
@[simp] theorem Dev.hm_setSess (d : Dev) (n : Nat) (x : Ses) : (d.setSess n x).hm = d.hm := rfl
@[simp] theorem Dev.rx_setSess (d : Dev) (n : Nat) (x : Ses) : (d.setSess n x).rx = d.rx := rfl
@[simp] theorem Dev.tdc_setSess (d : Dev) (n : Nat) (x : Ses) : (d.setSess n x).tdc = d.tdc := rfl
@[simp] theorem Dev.ex_setSess (d : Dev) (n : Nat) (x : Ses) : (d.setSess n x).ex = d.ex := rfl
@[simp] theorem Dev.rl_setSess (d : Dev) (n : Nat) (x : Ses) : (d.setSess n x).rl = d.rl := rfl
@[simp] theorem Dev.acq_setSess (d : Dev) (n : Nat) (x : Ses) : (d.setSess n x).acq = d.acq := rfl
@[simp] theorem Dev.cal_setSess (d : Dev) (n : Nat) (x : Ses) : (d.setSess n x).cal = d.cal := rfl
@[simp] theorem Dev.atl_setSess (d : Dev) (n : Nat) (x : Ses) : (d.setSess n x).atl = d.atl := rfl
@[simp] theorem Dev.tap_setSess (d : Dev) (n : Nat) (x : Ses) : (d.setSess n x).tap = d.tap := rfl
@[simp] theorem Dev.mem_setSess (d : Dev) (n : Nat) (x : Ses) : (d.setSess n x).mem = d.mem := rfl
@[simp] theorem Dev.hk_setSess (d : Dev) (n : Nat) (x : Ses) : (d.setSess n x).hk = d.hk := rfl
@[simp] theorem Dev.pwr_setSess (d : Dev) (n : Nat) (x : Ses) : (d.setSess n x).pwr = d.pwr := rfl
@[simp] theorem Dev.o_setSess (d : Dev) (n : Nat) (x : Ses) (i_ e_ : Nat) : (d.setSess n x).o i_ e_ = d.o i_ e_ := rfl

/-! ### `clearDom` -/

@[simp] theorem Dev.objs_clearDom (d : Dev) (i el : Nat) : (d.clearDom i el).objs = d.objs := rfl
@[simp] theorem Dev.shadows_clearDom (d : Dev) (i el : Nat) : (d.clearDom i el).shadows = d.shadows := rfl
@[simp] theorem Dev.domShadows_clearDom (d : Dev) (i el : Nat) : (d.clearDom i el).domShadows = d.domShadows := rfl
@[simp] theorem Dev.commit_clearDom (d : Dev) (i el : Nat) : (d.clearDom i el).commit = d.commit := rfl
@[simp] theorem Dev.gddr_clearDom (d : Dev) (i el : Nat) : (d.clearDom i el).gddr = d.gddr := rfl
@[simp] theorem Dev.flash_clearDom (d : Dev) (i el : Nat) : (d.clearDom i el).flash = d.flash := rfl
@[simp] theorem Dev.free_clearDom (d : Dev) (i el : Nat) : (d.clearDom i el).free = d.free := rfl
@[simp] theorem Dev.sent_clearDom (d : Dev) (i el : Nat) : (d.clearDom i el).sent = d.sent := rfl
@[simp] theorem Dev.ses_clearDom (d : Dev) (i el : Nat) : (d.clearDom i el).ses = d.ses := rfl
@[simp] theorem Dev.subs_clearDom (d : Dev) (i el : Nat) : (d.clearDom i el).subs = d.subs := rfl
@[simp] theorem Dev.lock_clearDom (d : Dev) (i el : Nat) : (d.clearDom i el).lock = d.lock := rfl
@[simp] theorem Dev.flt_clearDom (d : Dev) (i el : Nat) : (d.clearDom i el).flt = d.flt := rfl
@[simp] theorem Dev.link_clearDom (d : Dev) (i el : Nat) : (d.clearDom i el).link = d.link := rfl
@[simp] theorem Dev.jq_clearDom (d : Dev) (i el : Nat) : (d.clearDom i el).jq = d.jq := rfl
@[simp] theorem Dev.em_clearDom (d : Dev) (i el : Nat) : (d.clearDom i el).em = d.em := rfl
@[simp] theorem Dev.hm_clearDom (d : Dev) (i el : Nat) : (d.clearDom i el).hm = d.hm := rfl
@[simp] theorem Dev.rx_clearDom (d : Dev) (i el : Nat) : (d.clearDom i el).rx = d.rx := rfl
@[simp] theorem Dev.tdc_clearDom (d : Dev) (i el : Nat) : (d.clearDom i el).tdc = d.tdc := rfl
@[simp] theorem Dev.ex_clearDom (d : Dev) (i el : Nat) : (d.clearDom i el).ex = d.ex := rfl
@[simp] theorem Dev.rl_clearDom (d : Dev) (i el : Nat) : (d.clearDom i el).rl = d.rl := rfl
@[simp] theorem Dev.acq_clearDom (d : Dev) (i el : Nat) : (d.clearDom i el).acq = d.acq := rfl
@[simp] theorem Dev.cal_clearDom (d : Dev) (i el : Nat) : (d.clearDom i el).cal = d.cal := rfl
@[simp] theorem Dev.atl_clearDom (d : Dev) (i el : Nat) : (d.clearDom i el).atl = d.atl := rfl
@[simp] theorem Dev.tap_clearDom (d : Dev) (i el : Nat) : (d.clearDom i el).tap = d.tap := rfl
@[simp] theorem Dev.mem_clearDom (d : Dev) (i el : Nat) : (d.clearDom i el).mem = d.mem := rfl
@[simp] theorem Dev.hk_clearDom (d : Dev) (i el : Nat) : (d.clearDom i el).hk = d.hk := rfl
@[simp] theorem Dev.pwr_clearDom (d : Dev) (i el : Nat) : (d.clearDom i el).pwr = d.pwr := rfl
@[simp] theorem Dev.o_clearDom (d : Dev) (i el : Nat) (i_ e_ : Nat) : (d.clearDom i el).o i_ e_ = d.o i_ e_ := rfl

/-! ### `freeLock` -/

@[simp] theorem Dev.shadows_freeLock (d : Dev) : (d.freeLock).shadows = d.shadows := rfl
@[simp] theorem Dev.domShadows_freeLock (d : Dev) : (d.freeLock).domShadows = d.domShadows := rfl
@[simp] theorem Dev.commit_freeLock (d : Dev) : (d.freeLock).commit = d.commit := rfl
@[simp] theorem Dev.doms_freeLock (d : Dev) : (d.freeLock).doms = d.doms := rfl
@[simp] theorem Dev.gddr_freeLock (d : Dev) : (d.freeLock).gddr = d.gddr := rfl
@[simp] theorem Dev.flash_freeLock (d : Dev) : (d.freeLock).flash = d.flash := rfl
@[simp] theorem Dev.free_freeLock (d : Dev) : (d.freeLock).free = d.free := rfl
@[simp] theorem Dev.sent_freeLock (d : Dev) : (d.freeLock).sent = d.sent := rfl
@[simp] theorem Dev.ses_freeLock (d : Dev) : (d.freeLock).ses = d.ses := rfl
@[simp] theorem Dev.subs_freeLock (d : Dev) : (d.freeLock).subs = d.subs := rfl
@[simp] theorem Dev.flt_freeLock (d : Dev) : (d.freeLock).flt = d.flt := rfl
@[simp] theorem Dev.link_freeLock (d : Dev) : (d.freeLock).link = d.link := rfl
@[simp] theorem Dev.jq_freeLock (d : Dev) : (d.freeLock).jq = d.jq := rfl
@[simp] theorem Dev.em_freeLock (d : Dev) : (d.freeLock).em = d.em := rfl
@[simp] theorem Dev.hm_freeLock (d : Dev) : (d.freeLock).hm = d.hm := rfl
@[simp] theorem Dev.rx_freeLock (d : Dev) : (d.freeLock).rx = d.rx := rfl
@[simp] theorem Dev.tdc_freeLock (d : Dev) : (d.freeLock).tdc = d.tdc := rfl
@[simp] theorem Dev.ex_freeLock (d : Dev) : (d.freeLock).ex = d.ex := rfl
@[simp] theorem Dev.rl_freeLock (d : Dev) : (d.freeLock).rl = d.rl := rfl
@[simp] theorem Dev.acq_freeLock (d : Dev) : (d.freeLock).acq = d.acq := rfl
@[simp] theorem Dev.cal_freeLock (d : Dev) : (d.freeLock).cal = d.cal := rfl
@[simp] theorem Dev.atl_freeLock (d : Dev) : (d.freeLock).atl = d.atl := rfl
@[simp] theorem Dev.tap_freeLock (d : Dev) : (d.freeLock).tap = d.tap := rfl
@[simp] theorem Dev.mem_freeLock (d : Dev) : (d.freeLock).mem = d.mem := rfl
@[simp] theorem Dev.hk_freeLock (d : Dev) : (d.freeLock).hk = d.hk := rfl
@[simp] theorem Dev.pwr_freeLock (d : Dev) : (d.freeLock).pwr = d.pwr := rfl

/-! ### `gSet` -/

@[simp] theorem Dev.objs_gSet (d : Dev) (a : Nat) (b : Byte) : (d.gSet a b).objs = d.objs := rfl
@[simp] theorem Dev.shadows_gSet (d : Dev) (a : Nat) (b : Byte) : (d.gSet a b).shadows = d.shadows := rfl
@[simp] theorem Dev.domShadows_gSet (d : Dev) (a : Nat) (b : Byte) : (d.gSet a b).domShadows = d.domShadows := rfl
@[simp] theorem Dev.commit_gSet (d : Dev) (a : Nat) (b : Byte) : (d.gSet a b).commit = d.commit := rfl
@[simp] theorem Dev.doms_gSet (d : Dev) (a : Nat) (b : Byte) : (d.gSet a b).doms = d.doms := rfl
@[simp] theorem Dev.flash_gSet (d : Dev) (a : Nat) (b : Byte) : (d.gSet a b).flash = d.flash := rfl
@[simp] theorem Dev.free_gSet (d : Dev) (a : Nat) (b : Byte) : (d.gSet a b).free = d.free := rfl
@[simp] theorem Dev.sent_gSet (d : Dev) (a : Nat) (b : Byte) : (d.gSet a b).sent = d.sent := rfl
@[simp] theorem Dev.ses_gSet (d : Dev) (a : Nat) (b : Byte) : (d.gSet a b).ses = d.ses := rfl
@[simp] theorem Dev.subs_gSet (d : Dev) (a : Nat) (b : Byte) : (d.gSet a b).subs = d.subs := rfl
@[simp] theorem Dev.lock_gSet (d : Dev) (a : Nat) (b : Byte) : (d.gSet a b).lock = d.lock := rfl
@[simp] theorem Dev.flt_gSet (d : Dev) (a : Nat) (b : Byte) : (d.gSet a b).flt = d.flt := rfl
@[simp] theorem Dev.link_gSet (d : Dev) (a : Nat) (b : Byte) : (d.gSet a b).link = d.link := rfl
@[simp] theorem Dev.jq_gSet (d : Dev) (a : Nat) (b : Byte) : (d.gSet a b).jq = d.jq := rfl
@[simp] theorem Dev.em_gSet (d : Dev) (a : Nat) (b : Byte) : (d.gSet a b).em = d.em := rfl
@[simp] theorem Dev.hm_gSet (d : Dev) (a : Nat) (b : Byte) : (d.gSet a b).hm = d.hm := rfl
@[simp] theorem Dev.rx_gSet (d : Dev) (a : Nat) (b : Byte) : (d.gSet a b).rx = d.rx := rfl
@[simp] theorem Dev.tdc_gSet (d : Dev) (a : Nat) (b : Byte) : (d.gSet a b).tdc = d.tdc := rfl
@[simp] theorem Dev.ex_gSet (d : Dev) (a : Nat) (b : Byte) : (d.gSet a b).ex = d.ex := rfl
@[simp] theorem Dev.rl_gSet (d : Dev) (a : Nat) (b : Byte) : (d.gSet a b).rl = d.rl := rfl
@[simp] theorem Dev.acq_gSet (d : Dev) (a : Nat) (b : Byte) : (d.gSet a b).acq = d.acq := rfl
@[simp] theorem Dev.cal_gSet (d : Dev) (a : Nat) (b : Byte) : (d.gSet a b).cal = d.cal := rfl
@[simp] theorem Dev.atl_gSet (d : Dev) (a : Nat) (b : Byte) : (d.gSet a b).atl = d.atl := rfl
@[simp] theorem Dev.tap_gSet (d : Dev) (a : Nat) (b : Byte) : (d.gSet a b).tap = d.tap := rfl
@[simp] theorem Dev.hk_gSet (d : Dev) (a : Nat) (b : Byte) : (d.gSet a b).hk = d.hk := rfl
@[simp] theorem Dev.pwr_gSet (d : Dev) (a : Nat) (b : Byte) : (d.gSet a b).pwr = d.pwr := rfl
@[simp] theorem Dev.o_gSet (d : Dev) (a : Nat) (b : Byte) (i_ e_ : Nat) : (d.gSet a b).o i_ e_ = d.o i_ e_ := rfl

/-! ### `gZero` -/

@[simp] theorem Dev.objs_gZero (d : Dev) (a n : Nat) : (d.gZero a n).objs = d.objs := rfl
@[simp] theorem Dev.shadows_gZero (d : Dev) (a n : Nat) : (d.gZero a n).shadows = d.shadows := rfl
@[simp] theorem Dev.domShadows_gZero (d : Dev) (a n : Nat) : (d.gZero a n).domShadows = d.domShadows := rfl
@[simp] theorem Dev.commit_gZero (d : Dev) (a n : Nat) : (d.gZero a n).commit = d.commit := rfl
@[simp] theorem Dev.doms_gZero (d : Dev) (a n : Nat) : (d.gZero a n).doms = d.doms := rfl
@[simp] theorem Dev.flash_gZero (d : Dev) (a n : Nat) : (d.gZero a n).flash = d.flash := rfl
@[simp] theorem Dev.free_gZero (d : Dev) (a n : Nat) : (d.gZero a n).free = d.free := rfl
@[simp] theorem Dev.sent_gZero (d : Dev) (a n : Nat) : (d.gZero a n).sent = d.sent := rfl
@[simp] theorem Dev.ses_gZero (d : Dev) (a n : Nat) : (d.gZero a n).ses = d.ses := rfl
@[simp] theorem Dev.subs_gZero (d : Dev) (a n : Nat) : (d.gZero a n).subs = d.subs := rfl
@[simp] theorem Dev.lock_gZero (d : Dev) (a n : Nat) : (d.gZero a n).lock = d.lock := rfl
@[simp] theorem Dev.flt_gZero (d : Dev) (a n : Nat) : (d.gZero a n).flt = d.flt := rfl
@[simp] theorem Dev.link_gZero (d : Dev) (a n : Nat) : (d.gZero a n).link = d.link := rfl
@[simp] theorem Dev.jq_gZero (d : Dev) (a n : Nat) : (d.gZero a n).jq = d.jq := rfl
@[simp] theorem Dev.em_gZero (d : Dev) (a n : Nat) : (d.gZero a n).em = d.em := rfl
@[simp] theorem Dev.hm_gZero (d : Dev) (a n : Nat) : (d.gZero a n).hm = d.hm := rfl
@[simp] theorem Dev.rx_gZero (d : Dev) (a n : Nat) : (d.gZero a n).rx = d.rx := rfl
@[simp] theorem Dev.tdc_gZero (d : Dev) (a n : Nat) : (d.gZero a n).tdc = d.tdc := rfl
@[simp] theorem Dev.ex_gZero (d : Dev) (a n : Nat) : (d.gZero a n).ex = d.ex := rfl
@[simp] theorem Dev.rl_gZero (d : Dev) (a n : Nat) : (d.gZero a n).rl = d.rl := rfl
@[simp] theorem Dev.acq_gZero (d : Dev) (a n : Nat) : (d.gZero a n).acq = d.acq := rfl
@[simp] theorem Dev.cal_gZero (d : Dev) (a n : Nat) : (d.gZero a n).cal = d.cal := rfl
@[simp] theorem Dev.atl_gZero (d : Dev) (a n : Nat) : (d.gZero a n).atl = d.atl := rfl
@[simp] theorem Dev.tap_gZero (d : Dev) (a n : Nat) : (d.gZero a n).tap = d.tap := rfl
@[simp] theorem Dev.hk_gZero (d : Dev) (a n : Nat) : (d.gZero a n).hk = d.hk := rfl
@[simp] theorem Dev.pwr_gZero (d : Dev) (a n : Nat) : (d.gZero a n).pwr = d.pwr := rfl
@[simp] theorem Dev.o_gZero (d : Dev) (a n : Nat) (i_ e_ : Nat) : (d.gZero a n).o i_ e_ = d.o i_ e_ := rfl

/-! ### `gLose` -/

@[simp] theorem Dev.objs_gLose (d : Dev) (a n : Nat) : (d.gLose a n).objs = d.objs := rfl
@[simp] theorem Dev.shadows_gLose (d : Dev) (a n : Nat) : (d.gLose a n).shadows = d.shadows := rfl
@[simp] theorem Dev.domShadows_gLose (d : Dev) (a n : Nat) : (d.gLose a n).domShadows = d.domShadows := rfl
@[simp] theorem Dev.commit_gLose (d : Dev) (a n : Nat) : (d.gLose a n).commit = d.commit := rfl
@[simp] theorem Dev.doms_gLose (d : Dev) (a n : Nat) : (d.gLose a n).doms = d.doms := rfl
@[simp] theorem Dev.flash_gLose (d : Dev) (a n : Nat) : (d.gLose a n).flash = d.flash := rfl
@[simp] theorem Dev.free_gLose (d : Dev) (a n : Nat) : (d.gLose a n).free = d.free := rfl
@[simp] theorem Dev.sent_gLose (d : Dev) (a n : Nat) : (d.gLose a n).sent = d.sent := rfl
@[simp] theorem Dev.ses_gLose (d : Dev) (a n : Nat) : (d.gLose a n).ses = d.ses := rfl
@[simp] theorem Dev.subs_gLose (d : Dev) (a n : Nat) : (d.gLose a n).subs = d.subs := rfl
@[simp] theorem Dev.lock_gLose (d : Dev) (a n : Nat) : (d.gLose a n).lock = d.lock := rfl
@[simp] theorem Dev.flt_gLose (d : Dev) (a n : Nat) : (d.gLose a n).flt = d.flt := rfl
@[simp] theorem Dev.link_gLose (d : Dev) (a n : Nat) : (d.gLose a n).link = d.link := rfl
@[simp] theorem Dev.jq_gLose (d : Dev) (a n : Nat) : (d.gLose a n).jq = d.jq := rfl
@[simp] theorem Dev.em_gLose (d : Dev) (a n : Nat) : (d.gLose a n).em = d.em := rfl
@[simp] theorem Dev.hm_gLose (d : Dev) (a n : Nat) : (d.gLose a n).hm = d.hm := rfl
@[simp] theorem Dev.rx_gLose (d : Dev) (a n : Nat) : (d.gLose a n).rx = d.rx := rfl
@[simp] theorem Dev.tdc_gLose (d : Dev) (a n : Nat) : (d.gLose a n).tdc = d.tdc := rfl
@[simp] theorem Dev.ex_gLose (d : Dev) (a n : Nat) : (d.gLose a n).ex = d.ex := rfl
@[simp] theorem Dev.rl_gLose (d : Dev) (a n : Nat) : (d.gLose a n).rl = d.rl := rfl
@[simp] theorem Dev.acq_gLose (d : Dev) (a n : Nat) : (d.gLose a n).acq = d.acq := rfl
@[simp] theorem Dev.cal_gLose (d : Dev) (a n : Nat) : (d.gLose a n).cal = d.cal := rfl
@[simp] theorem Dev.atl_gLose (d : Dev) (a n : Nat) : (d.gLose a n).atl = d.atl := rfl
@[simp] theorem Dev.tap_gLose (d : Dev) (a n : Nat) : (d.gLose a n).tap = d.tap := rfl
@[simp] theorem Dev.hk_gLose (d : Dev) (a n : Nat) : (d.gLose a n).hk = d.hk := rfl
@[simp] theorem Dev.pwr_gLose (d : Dev) (a n : Nat) : (d.gLose a n).pwr = d.pwr := rfl
@[simp] theorem Dev.o_gLose (d : Dev) (a n : Nat) (i_ e_ : Nat) : (d.gLose a n).o i_ e_ = d.o i_ e_ := rfl

/-! ### `setSub` -/

@[simp] theorem Dev.objs_setSub (d : Dev) (x : Sub) : (d.setSub x).objs = d.objs := rfl
@[simp] theorem Dev.shadows_setSub (d : Dev) (x : Sub) : (d.setSub x).shadows = d.shadows := rfl
@[simp] theorem Dev.domShadows_setSub (d : Dev) (x : Sub) : (d.setSub x).domShadows = d.domShadows := rfl
@[simp] theorem Dev.commit_setSub (d : Dev) (x : Sub) : (d.setSub x).commit = d.commit := rfl
@[simp] theorem Dev.doms_setSub (d : Dev) (x : Sub) : (d.setSub x).doms = d.doms := rfl
@[simp] theorem Dev.gddr_setSub (d : Dev) (x : Sub) : (d.setSub x).gddr = d.gddr := rfl
@[simp] theorem Dev.flash_setSub (d : Dev) (x : Sub) : (d.setSub x).flash = d.flash := rfl
@[simp] theorem Dev.free_setSub (d : Dev) (x : Sub) : (d.setSub x).free = d.free := rfl
@[simp] theorem Dev.sent_setSub (d : Dev) (x : Sub) : (d.setSub x).sent = d.sent := rfl
@[simp] theorem Dev.ses_setSub (d : Dev) (x : Sub) : (d.setSub x).ses = d.ses := rfl
@[simp] theorem Dev.lock_setSub (d : Dev) (x : Sub) : (d.setSub x).lock = d.lock := rfl
@[simp] theorem Dev.flt_setSub (d : Dev) (x : Sub) : (d.setSub x).flt = d.flt := rfl
@[simp] theorem Dev.link_setSub (d : Dev) (x : Sub) : (d.setSub x).link = d.link := rfl
@[simp] theorem Dev.jq_setSub (d : Dev) (x : Sub) : (d.setSub x).jq = d.jq := rfl
@[simp] theorem Dev.em_setSub (d : Dev) (x : Sub) : (d.setSub x).em = d.em := rfl
@[simp] theorem Dev.hm_setSub (d : Dev) (x : Sub) : (d.setSub x).hm = d.hm := rfl
@[simp] theorem Dev.rx_setSub (d : Dev) (x : Sub) : (d.setSub x).rx = d.rx := rfl
@[simp] theorem Dev.tdc_setSub (d : Dev) (x : Sub) : (d.setSub x).tdc = d.tdc := rfl
@[simp] theorem Dev.ex_setSub (d : Dev) (x : Sub) : (d.setSub x).ex = d.ex := rfl
@[simp] theorem Dev.rl_setSub (d : Dev) (x : Sub) : (d.setSub x).rl = d.rl := rfl
@[simp] theorem Dev.acq_setSub (d : Dev) (x : Sub) : (d.setSub x).acq = d.acq := rfl
@[simp] theorem Dev.cal_setSub (d : Dev) (x : Sub) : (d.setSub x).cal = d.cal := rfl
@[simp] theorem Dev.atl_setSub (d : Dev) (x : Sub) : (d.setSub x).atl = d.atl := rfl
@[simp] theorem Dev.tap_setSub (d : Dev) (x : Sub) : (d.setSub x).tap = d.tap := rfl
@[simp] theorem Dev.mem_setSub (d : Dev) (x : Sub) : (d.setSub x).mem = d.mem := rfl
@[simp] theorem Dev.hk_setSub (d : Dev) (x : Sub) : (d.setSub x).hk = d.hk := rfl
@[simp] theorem Dev.pwr_setSub (d : Dev) (x : Sub) : (d.setSub x).pwr = d.pwr := rfl
@[simp] theorem Dev.o_setSub (d : Dev) (x : Sub) (i_ e_ : Nat) : (d.setSub x).o i_ e_ = d.o i_ e_ := rfl

/-! ### `setBw` -/

@[simp] theorem Dev.objs_setBw (d : Dev) (n : Nat) (x : Option BlockWrite) : (d.setBw n x).objs = d.objs := rfl
@[simp] theorem Dev.shadows_setBw (d : Dev) (n : Nat) (x : Option BlockWrite) : (d.setBw n x).shadows = d.shadows := rfl
@[simp] theorem Dev.domShadows_setBw (d : Dev) (n : Nat) (x : Option BlockWrite) : (d.setBw n x).domShadows = d.domShadows := rfl
@[simp] theorem Dev.commit_setBw (d : Dev) (n : Nat) (x : Option BlockWrite) : (d.setBw n x).commit = d.commit := rfl
@[simp] theorem Dev.doms_setBw (d : Dev) (n : Nat) (x : Option BlockWrite) : (d.setBw n x).doms = d.doms := rfl
@[simp] theorem Dev.gddr_setBw (d : Dev) (n : Nat) (x : Option BlockWrite) : (d.setBw n x).gddr = d.gddr := rfl
@[simp] theorem Dev.flash_setBw (d : Dev) (n : Nat) (x : Option BlockWrite) : (d.setBw n x).flash = d.flash := rfl
@[simp] theorem Dev.free_setBw (d : Dev) (n : Nat) (x : Option BlockWrite) : (d.setBw n x).free = d.free := rfl
@[simp] theorem Dev.sent_setBw (d : Dev) (n : Nat) (x : Option BlockWrite) : (d.setBw n x).sent = d.sent := rfl
@[simp] theorem Dev.subs_setBw (d : Dev) (n : Nat) (x : Option BlockWrite) : (d.setBw n x).subs = d.subs := rfl
@[simp] theorem Dev.lock_setBw (d : Dev) (n : Nat) (x : Option BlockWrite) : (d.setBw n x).lock = d.lock := rfl
@[simp] theorem Dev.flt_setBw (d : Dev) (n : Nat) (x : Option BlockWrite) : (d.setBw n x).flt = d.flt := rfl
@[simp] theorem Dev.link_setBw (d : Dev) (n : Nat) (x : Option BlockWrite) : (d.setBw n x).link = d.link := rfl
@[simp] theorem Dev.jq_setBw (d : Dev) (n : Nat) (x : Option BlockWrite) : (d.setBw n x).jq = d.jq := rfl
@[simp] theorem Dev.em_setBw (d : Dev) (n : Nat) (x : Option BlockWrite) : (d.setBw n x).em = d.em := rfl
@[simp] theorem Dev.hm_setBw (d : Dev) (n : Nat) (x : Option BlockWrite) : (d.setBw n x).hm = d.hm := rfl
@[simp] theorem Dev.rx_setBw (d : Dev) (n : Nat) (x : Option BlockWrite) : (d.setBw n x).rx = d.rx := rfl
@[simp] theorem Dev.tdc_setBw (d : Dev) (n : Nat) (x : Option BlockWrite) : (d.setBw n x).tdc = d.tdc := rfl
@[simp] theorem Dev.ex_setBw (d : Dev) (n : Nat) (x : Option BlockWrite) : (d.setBw n x).ex = d.ex := rfl
@[simp] theorem Dev.rl_setBw (d : Dev) (n : Nat) (x : Option BlockWrite) : (d.setBw n x).rl = d.rl := rfl
@[simp] theorem Dev.acq_setBw (d : Dev) (n : Nat) (x : Option BlockWrite) : (d.setBw n x).acq = d.acq := rfl
@[simp] theorem Dev.cal_setBw (d : Dev) (n : Nat) (x : Option BlockWrite) : (d.setBw n x).cal = d.cal := rfl
@[simp] theorem Dev.atl_setBw (d : Dev) (n : Nat) (x : Option BlockWrite) : (d.setBw n x).atl = d.atl := rfl
@[simp] theorem Dev.tap_setBw (d : Dev) (n : Nat) (x : Option BlockWrite) : (d.setBw n x).tap = d.tap := rfl
@[simp] theorem Dev.mem_setBw (d : Dev) (n : Nat) (x : Option BlockWrite) : (d.setBw n x).mem = d.mem := rfl
@[simp] theorem Dev.hk_setBw (d : Dev) (n : Nat) (x : Option BlockWrite) : (d.setBw n x).hk = d.hk := rfl
@[simp] theorem Dev.pwr_setBw (d : Dev) (n : Nat) (x : Option BlockWrite) : (d.setBw n x).pwr = d.pwr := rfl
@[simp] theorem Dev.o_setBw (d : Dev) (n : Nat) (x : Option BlockWrite) (i_ e_ : Nat) : (d.setBw n x).o i_ e_ = d.o i_ e_ := rfl

/-! ### Open values -/

@[simp] theorem Dev.objs_freeVal (d : Dev) (n : Nat) : (d.freeVal n).2.objs = d.objs := rfl
@[simp] theorem Dev.shadows_freeVal (d : Dev) (n : Nat) : (d.freeVal n).2.shadows = d.shadows := rfl
@[simp] theorem Dev.domShadows_freeVal (d : Dev) (n : Nat) : (d.freeVal n).2.domShadows = d.domShadows := rfl
@[simp] theorem Dev.commit_freeVal (d : Dev) (n : Nat) : (d.freeVal n).2.commit = d.commit := rfl
@[simp] theorem Dev.doms_freeVal (d : Dev) (n : Nat) : (d.freeVal n).2.doms = d.doms := rfl
@[simp] theorem Dev.gddr_freeVal (d : Dev) (n : Nat) : (d.freeVal n).2.gddr = d.gddr := rfl
@[simp] theorem Dev.flash_freeVal (d : Dev) (n : Nat) : (d.freeVal n).2.flash = d.flash := rfl
@[simp] theorem Dev.sent_freeVal (d : Dev) (n : Nat) : (d.freeVal n).2.sent = d.sent := rfl
@[simp] theorem Dev.ses_freeVal (d : Dev) (n : Nat) : (d.freeVal n).2.ses = d.ses := rfl
@[simp] theorem Dev.subs_freeVal (d : Dev) (n : Nat) : (d.freeVal n).2.subs = d.subs := rfl
@[simp] theorem Dev.lock_freeVal (d : Dev) (n : Nat) : (d.freeVal n).2.lock = d.lock := rfl
@[simp] theorem Dev.flt_freeVal (d : Dev) (n : Nat) : (d.freeVal n).2.flt = d.flt := rfl
@[simp] theorem Dev.link_freeVal (d : Dev) (n : Nat) : (d.freeVal n).2.link = d.link := rfl
@[simp] theorem Dev.jq_freeVal (d : Dev) (n : Nat) : (d.freeVal n).2.jq = d.jq := rfl
@[simp] theorem Dev.em_freeVal (d : Dev) (n : Nat) : (d.freeVal n).2.em = d.em := rfl
@[simp] theorem Dev.hm_freeVal (d : Dev) (n : Nat) : (d.freeVal n).2.hm = d.hm := rfl
@[simp] theorem Dev.rx_freeVal (d : Dev) (n : Nat) : (d.freeVal n).2.rx = d.rx := rfl
@[simp] theorem Dev.tdc_freeVal (d : Dev) (n : Nat) : (d.freeVal n).2.tdc = d.tdc := rfl
@[simp] theorem Dev.ex_freeVal (d : Dev) (n : Nat) : (d.freeVal n).2.ex = d.ex := rfl
@[simp] theorem Dev.rl_freeVal (d : Dev) (n : Nat) : (d.freeVal n).2.rl = d.rl := rfl
@[simp] theorem Dev.acq_freeVal (d : Dev) (n : Nat) : (d.freeVal n).2.acq = d.acq := rfl
@[simp] theorem Dev.cal_freeVal (d : Dev) (n : Nat) : (d.freeVal n).2.cal = d.cal := rfl
@[simp] theorem Dev.atl_freeVal (d : Dev) (n : Nat) : (d.freeVal n).2.atl = d.atl := rfl
@[simp] theorem Dev.tap_freeVal (d : Dev) (n : Nat) : (d.freeVal n).2.tap = d.tap := rfl
@[simp] theorem Dev.mem_freeVal (d : Dev) (n : Nat) : (d.freeVal n).2.mem = d.mem := rfl
@[simp] theorem Dev.hk_freeVal (d : Dev) (n : Nat) : (d.freeVal n).2.hk = d.hk := rfl
@[simp] theorem Dev.pwr_freeVal (d : Dev) (n : Nat) : (d.freeVal n).2.pwr = d.pwr := rfl
@[simp] theorem Dev.o_freeVal (d : Dev) (n i el : Nat) : (d.freeVal n).2.o i el = d.o i el := rfl

/-! ### A delivery to the logger: the held entries, or the count of lost ones -/

@[simp] theorem Dev.shadows_deliver (d : Dev) (en : Entry) : (d.deliver en).shadows = d.shadows := by unfold Dev.deliver; split <;> rfl
@[simp] theorem Dev.shadows_log (e : Env) (d : Dev) (code loc cls detail : Nat) (inj : Bool) :
    (d.log e code loc cls detail inj).shadows = d.shadows := Dev.shadows_deliver ..
@[simp] theorem Dev.domShadows_deliver (d : Dev) (en : Entry) : (d.deliver en).domShadows = d.domShadows := by unfold Dev.deliver; split <;> rfl
@[simp] theorem Dev.domShadows_log (e : Env) (d : Dev) (code loc cls detail : Nat) (inj : Bool) :
    (d.log e code loc cls detail inj).domShadows = d.domShadows := Dev.domShadows_deliver ..
@[simp] theorem Dev.commit_deliver (d : Dev) (en : Entry) : (d.deliver en).commit = d.commit := by unfold Dev.deliver; split <;> rfl
@[simp] theorem Dev.commit_log (e : Env) (d : Dev) (code loc cls detail : Nat) (inj : Bool) :
    (d.log e code loc cls detail inj).commit = d.commit := Dev.commit_deliver ..
@[simp] theorem Dev.doms_deliver (d : Dev) (en : Entry) : (d.deliver en).doms = d.doms := by unfold Dev.deliver; split <;> rfl
@[simp] theorem Dev.doms_log (e : Env) (d : Dev) (code loc cls detail : Nat) (inj : Bool) :
    (d.log e code loc cls detail inj).doms = d.doms := Dev.doms_deliver ..
@[simp] theorem Dev.gddr_deliver (d : Dev) (en : Entry) : (d.deliver en).gddr = d.gddr := by unfold Dev.deliver; split <;> rfl
@[simp] theorem Dev.gddr_log (e : Env) (d : Dev) (code loc cls detail : Nat) (inj : Bool) :
    (d.log e code loc cls detail inj).gddr = d.gddr := Dev.gddr_deliver ..
@[simp] theorem Dev.flash_deliver (d : Dev) (en : Entry) : (d.deliver en).flash = d.flash := by unfold Dev.deliver; split <;> rfl
@[simp] theorem Dev.flash_log (e : Env) (d : Dev) (code loc cls detail : Nat) (inj : Bool) :
    (d.log e code loc cls detail inj).flash = d.flash := Dev.flash_deliver ..
@[simp] theorem Dev.free_deliver (d : Dev) (en : Entry) : (d.deliver en).free = d.free := by unfold Dev.deliver; split <;> rfl
@[simp] theorem Dev.free_log (e : Env) (d : Dev) (code loc cls detail : Nat) (inj : Bool) :
    (d.log e code loc cls detail inj).free = d.free := Dev.free_deliver ..
@[simp] theorem Dev.sent_deliver (d : Dev) (en : Entry) : (d.deliver en).sent = d.sent := by unfold Dev.deliver; split <;> rfl
@[simp] theorem Dev.sent_log (e : Env) (d : Dev) (code loc cls detail : Nat) (inj : Bool) :
    (d.log e code loc cls detail inj).sent = d.sent := Dev.sent_deliver ..
@[simp] theorem Dev.ses_deliver (d : Dev) (en : Entry) : (d.deliver en).ses = d.ses := by unfold Dev.deliver; split <;> rfl
@[simp] theorem Dev.ses_log (e : Env) (d : Dev) (code loc cls detail : Nat) (inj : Bool) :
    (d.log e code loc cls detail inj).ses = d.ses := Dev.ses_deliver ..
@[simp] theorem Dev.subs_deliver (d : Dev) (en : Entry) : (d.deliver en).subs = d.subs := by unfold Dev.deliver; split <;> rfl
@[simp] theorem Dev.subs_log (e : Env) (d : Dev) (code loc cls detail : Nat) (inj : Bool) :
    (d.log e code loc cls detail inj).subs = d.subs := Dev.subs_deliver ..
@[simp] theorem Dev.lock_deliver (d : Dev) (en : Entry) : (d.deliver en).lock = d.lock := by unfold Dev.deliver; split <;> rfl
@[simp] theorem Dev.lock_log (e : Env) (d : Dev) (code loc cls detail : Nat) (inj : Bool) :
    (d.log e code loc cls detail inj).lock = d.lock := Dev.lock_deliver ..
@[simp] theorem Dev.link_deliver (d : Dev) (en : Entry) : (d.deliver en).link = d.link := by unfold Dev.deliver; split <;> rfl
@[simp] theorem Dev.link_log (e : Env) (d : Dev) (code loc cls detail : Nat) (inj : Bool) :
    (d.log e code loc cls detail inj).link = d.link := Dev.link_deliver ..
@[simp] theorem Dev.jq_deliver (d : Dev) (en : Entry) : (d.deliver en).jq = d.jq := by unfold Dev.deliver; split <;> rfl
@[simp] theorem Dev.jq_log (e : Env) (d : Dev) (code loc cls detail : Nat) (inj : Bool) :
    (d.log e code loc cls detail inj).jq = d.jq := Dev.jq_deliver ..
@[simp] theorem Dev.em_deliver (d : Dev) (en : Entry) : (d.deliver en).em = d.em := by unfold Dev.deliver; split <;> rfl
@[simp] theorem Dev.em_log (e : Env) (d : Dev) (code loc cls detail : Nat) (inj : Bool) :
    (d.log e code loc cls detail inj).em = d.em := Dev.em_deliver ..
@[simp] theorem Dev.hm_deliver (d : Dev) (en : Entry) : (d.deliver en).hm = d.hm := by unfold Dev.deliver; split <;> rfl
@[simp] theorem Dev.hm_log (e : Env) (d : Dev) (code loc cls detail : Nat) (inj : Bool) :
    (d.log e code loc cls detail inj).hm = d.hm := Dev.hm_deliver ..
@[simp] theorem Dev.rx_deliver (d : Dev) (en : Entry) : (d.deliver en).rx = d.rx := by unfold Dev.deliver; split <;> rfl
@[simp] theorem Dev.rx_log (e : Env) (d : Dev) (code loc cls detail : Nat) (inj : Bool) :
    (d.log e code loc cls detail inj).rx = d.rx := Dev.rx_deliver ..
@[simp] theorem Dev.tdc_deliver (d : Dev) (en : Entry) : (d.deliver en).tdc = d.tdc := by unfold Dev.deliver; split <;> rfl
@[simp] theorem Dev.tdc_log (e : Env) (d : Dev) (code loc cls detail : Nat) (inj : Bool) :
    (d.log e code loc cls detail inj).tdc = d.tdc := Dev.tdc_deliver ..
@[simp] theorem Dev.ex_deliver (d : Dev) (en : Entry) : (d.deliver en).ex = d.ex := by unfold Dev.deliver; split <;> rfl
@[simp] theorem Dev.ex_log (e : Env) (d : Dev) (code loc cls detail : Nat) (inj : Bool) :
    (d.log e code loc cls detail inj).ex = d.ex := Dev.ex_deliver ..
@[simp] theorem Dev.rl_deliver (d : Dev) (en : Entry) : (d.deliver en).rl = d.rl := by unfold Dev.deliver; split <;> rfl
@[simp] theorem Dev.rl_log (e : Env) (d : Dev) (code loc cls detail : Nat) (inj : Bool) :
    (d.log e code loc cls detail inj).rl = d.rl := Dev.rl_deliver ..
@[simp] theorem Dev.acq_deliver (d : Dev) (en : Entry) : (d.deliver en).acq = d.acq := by unfold Dev.deliver; split <;> rfl
@[simp] theorem Dev.acq_log (e : Env) (d : Dev) (code loc cls detail : Nat) (inj : Bool) :
    (d.log e code loc cls detail inj).acq = d.acq := Dev.acq_deliver ..
@[simp] theorem Dev.cal_deliver (d : Dev) (en : Entry) : (d.deliver en).cal = d.cal := by unfold Dev.deliver; split <;> rfl
@[simp] theorem Dev.cal_log (e : Env) (d : Dev) (code loc cls detail : Nat) (inj : Bool) :
    (d.log e code loc cls detail inj).cal = d.cal := Dev.cal_deliver ..
@[simp] theorem Dev.atl_deliver (d : Dev) (en : Entry) : (d.deliver en).atl = d.atl := by unfold Dev.deliver; split <;> rfl
@[simp] theorem Dev.atl_log (e : Env) (d : Dev) (code loc cls detail : Nat) (inj : Bool) :
    (d.log e code loc cls detail inj).atl = d.atl := Dev.atl_deliver ..
@[simp] theorem Dev.tap_deliver (d : Dev) (en : Entry) : (d.deliver en).tap = d.tap := by unfold Dev.deliver; split <;> rfl
@[simp] theorem Dev.tap_log (e : Env) (d : Dev) (code loc cls detail : Nat) (inj : Bool) :
    (d.log e code loc cls detail inj).tap = d.tap := Dev.tap_deliver ..
@[simp] theorem Dev.mem_deliver (d : Dev) (en : Entry) : (d.deliver en).mem = d.mem := by unfold Dev.deliver; split <;> rfl
@[simp] theorem Dev.mem_log (e : Env) (d : Dev) (code loc cls detail : Nat) (inj : Bool) :
    (d.log e code loc cls detail inj).mem = d.mem := Dev.mem_deliver ..
@[simp] theorem Dev.hk_deliver (d : Dev) (en : Entry) : (d.deliver en).hk = d.hk := by unfold Dev.deliver; split <;> rfl
@[simp] theorem Dev.hk_log (e : Env) (d : Dev) (code loc cls detail : Nat) (inj : Bool) :
    (d.log e code loc cls detail inj).hk = d.hk := Dev.hk_deliver ..
@[simp] theorem Dev.pwr_deliver (d : Dev) (en : Entry) : (d.deliver en).pwr = d.pwr := by unfold Dev.deliver; split <;> rfl
@[simp] theorem Dev.pwr_log (e : Env) (d : Dev) (code loc cls detail : Nat) (inj : Bool) :
    (d.log e code loc cls detail inj).pwr = d.pwr := Dev.pwr_deliver ..

theorem Dev.o_deliver {d : Dev} {en : Entry} {i el : Nat} (hel : el < 4096) (h : i ≠ O.FLT_LOST) :
    (d.deliver en).o i el = d.o i el := by
  unfold Dev.deliver
  split
  · exact Dev.o_inc_ne (by decide) hel (.inl h)
  · rfl

/-- A delivery changes no object but the count of lost entries. -/
theorem Dev.o_log {e : Env} {d : Dev} {code loc cls detail : Nat} {inj : Bool} {i el : Nat} (hel : el < 4096)
    (h : i ≠ O.FLT_LOST) : (d.log e code loc cls detail inj).o i el = d.o i el := Dev.o_deliver hel h

/-- Where the logger has room, the entry is held last (R903). -/
theorem Dev.flt_log {e : Env} {d : Dev} {code loc cls detail : Nat} {inj : Bool} (h : d.flt.held.length < 64) :
    (d.log e code loc cls detail inj).flt = { d.flt with held := d.flt.held ++
      [{ time := e.now, loc := loc, code := code, cls := cls, injected := inj, detail := detail, reps := 0 }] } := by
  unfold Dev.log Dev.deliver; rw [if_neg (by omega)]

/-! ### Sessions -/

theorem Dev.sess_setSess_self {d : Dev} {n : Nat} {x : Ses} (h : n < d.ses.length) : (d.setSess n x).sess n = x := by
  simp [Dev.sess, Dev.setSess, h]

theorem Dev.sess_setSess_ne {d : Dev} {n m : Nat} {x : Ses} (h : m ≠ n) : (d.setSess n x).sess m = d.sess m := by
  simp [Dev.sess, Dev.setSess, Ne.symm h]

@[simp] theorem Dev.ses_length_setSess (d : Dev) (n : Nat) (x : Ses) : (d.setSess n x).ses.length = d.ses.length := by
  simp [Dev.setSess]

/-! ### What leaves the package -/

theorem Dev.sent_send (d : Dev) (x : Out) : (d.send x).sent = d.sent ++ [x] := rfl

end Sys2Proof.Machine
end

