-- ==== Sys2Proof/Laws/Ops.lean ====
section
/-! SUPPORT. What the shared operations can do: the end of a command, a device effect as a command, a request that executes at
once, and an accepted write of one element. -/

namespace Sys2Proof.Machine

/-! ### The end of a command -/

theorem Dev.settle_quiet {e : Env} {d : Dev} (h : d.jq.settle = false) : d.settle e = d := by
  unfold Dev.settle; rw [h]; rfl

theorem Dev.rstStep_quiet {e : Env} {d : Dev} (h : d.pwr.rstDue = none) : d.rstStep e = d := by
  unfold Dev.rstStep; rw [h]

/-- With nothing to land and no reset due, the end of a command marks changed runs and nothing else. -/
theorem finish_quiet {e : Env} {d : Dev} (hs : d.jq.settle = false) (hr : d.pwr.rstDue = none) :
    finish e d = Dev.markSubs e d := by
  unfold finish; rw [Dev.settle_quiet hs, Dev.rstStep_quiet hr]

/-- Marks change the subscriptions alone. -/
theorem Dev.markSubs_eq (e : Env) (d : Dev) : ∃ l, Dev.markSubs e d = { d with subs := l } := ⟨_, rfl⟩

/-- Marks where every run reads as it was last seen change nothing. -/
theorem Dev.markSubs_seen {e : Env} {d : Dev} (h : ∀ x ∈ d.subs, x.seen = d.runVals e x.index x.element x.count) :
    Dev.markSubs e d = d := by
  have : d.subs.map (d.markSub e) = d.subs := by
    rw [List.map_congr_left (g := id), List.map_id]
    intro x hx; unfold Dev.markSub; simp [h x hx]
  unfold Dev.markSubs; rw [this]

/-! ### What has come due -/

theorem Dev.lineStep_still {e : Env} {d : Dev} (h : ∀ t ∈ d.jq.lineDue, 2 * e.now + 1 < t) : d.lineStep e = d := by
  unfold Dev.lineStep
  split
  · rename_i t ht
    rw [if_neg]
    have := h t ht
    omega
  · rfl

theorem Dev.darkStep_still {e : Env} {d : Dev} (h : ∀ x ∈ d.rx.darkLate, 2 * e.now + 1 < x.due) : d.darkStep e = d := by
  unfold Dev.darkStep
  split
  · rename_i x hx
    rw [if_neg]
    have := h x hx
    omega
  · rfl

theorem Dev.sampleDue_still {e : Env} {d : Dev} {k : Nat} (h : ∀ p ∈ (d.slot k).due, e.now < p.time + 600) : d.sampleDue e k = d := by
  unfold Dev.sampleDue
  split
  · rename_i p hp
    rw [if_neg]
    have := h p hp
    omega
  · rfl

theorem Dev.sampleStep_still {e : Env} {d : Dev} (h : ∀ k < 4, ∀ p ∈ (d.slot k).due, e.now < p.time + 600) : d.sampleStep e = d := by
  show Dev.sampleDue e (Dev.sampleDue e (Dev.sampleDue e (Dev.sampleDue e d 0) 1) 2) 3 = d
  rw [Dev.sampleDue_still (h 0 (by decide)), Dev.sampleDue_still (h 1 (by decide)), Dev.sampleDue_still (h 2 (by decide)),
    Dev.sampleDue_still (h 3 (by decide))]

theorem Dev.syncStep_still {e : Env} {d : Dev} (h : ∀ p ∈ d.acq.syncs, 2 * e.now + 1 < p.2) : d.syncStep e = d := by
  have hf : d.acq.syncs.filter (fun p => p.2 ≤ 2 * e.now + 1) = [] := by
    rw [List.filter_eq_nil_iff]
    intro p hp
    have := h p hp
    simp; omega
  unfold Dev.syncStep
  rw [hf]
  rfl

/-- Where nothing falls due a command finds the device as the last one left it, but for what was sent. -/
theorem begin_still {s : State} (h : s.Still) : begin_ s.env { s.dev with sent := [] } = { s.dev with sent := [] } := by
  have hs : Dev.sampleStep s.env { s.dev with sent := [] } = { s.dev with sent := [] } := Dev.sampleStep_still h.2.1
  have hl : Dev.lineStep s.env { s.dev with sent := [] } = { s.dev with sent := [] } := Dev.lineStep_still h.1
  have hy : Dev.syncStep s.env { s.dev with sent := [] } = { s.dev with sent := [] } := Dev.syncStep_still h.2.2.1
  have hd : Dev.darkStep s.env { s.dev with sent := [] } = { s.dev with sent := [] } := Dev.darkStep_still h.2.2.2
  unfold begin_
  rw [hs, hd, hl, hy]

/-! ### A device effect as a command -/

/-- A device effect never stops; the part, device time and the queue stay. -/
theorem run_next (f : Env → Dev → Dev) (s : State) :
    run f s = .next { s with dev := finish s.env (f s.env (begin_ s.env { s.dev with sent := [] })) } := rfl

/-- A command before which nothing falls due and whose effect leaves nothing for its end leads to its effect, marks of subscriptions
apart. -/
theorem run_quiet {f : Env → Dev → Dev} {s : State} {d : Dev} (hb : s.Still) (hd : f s.env { s.dev with sent := [] } = d)
    (hs : d.jq.settle = false) (hr : d.pwr.rstDue = none) : ∃ l, run f s = .next { s with dev := { d with subs := l } } := by
  rw [run_next, begin_still hb, hd, finish_quiet hs hr]; exact ⟨_, rfl⟩

/-- What holds of the effect whatever the marks holds of the state a quiet command leads to. -/
theorem leads_run {c : Instr} {f : Env → Dev → Dev} {s : State} {P : State → Prop} (hb : s.Still) (hc : exec c s = run f s)
    (hs : (f s.env { s.dev with sent := [] }).jq.settle = false) (hr : (f s.env { s.dev with sent := [] }).pwr.rstDue = none)
    (hP : ∀ l, P { s with dev := { f s.env { s.dev with sent := [] } with subs := l } }) : Leads c s P := by
  obtain ⟨l, h⟩ := run_quiet (s := s) hb rfl hs hr
  exact ⟨_, hc.trans h, hP l⟩

/-- The same, with the effect under a name of its own. -/
theorem leads_eff {c : Instr} {f : Env → Dev → Dev} {s : State} {P : State → Prop} (d : Dev) (hb : s.Still) (hc : exec c s = run f s)
    (hd : f s.env { s.dev with sent := [] } = d) (hs : d.jq.settle = false) (hr : d.pwr.rstDue = none)
    (hP : ∀ l, P { s with dev := { d with subs := l } }) : Leads c s P := by
  subst hd; exact leads_run hb hc hs hr hP

/-- Every command is a device effect on the present device time, but the power-on reset, which sets device time to 0. -/
theorem exec_run (c : Instr) (s : State) :
    (∃ f, exec c s = run f s) ∨ (c = .powerOnReset ∧ exec c s = run Dev.powerOn { s with clock := { time := 0, frac := 0 } }) := by
  cases c
  case powerOnReset => exact .inr ⟨rfl, rfl⟩
  all_goals
    apply Or.inl
    apply Exists.intro
    dsimp only [exec]
    delta execRead execReadPend execReadMeta execWrite execReadBlock execWriteBlock execLock execCommit execAbortLock
      execSubscribe execGopBadOp execSesOpen execCanSegmentRx execCanSegmentTimeout execCanBusOff
      execCanBusOffRecovery execSpiRequestFrame execSpiPollFrame execSpiCarrierFailure execGaernGopPacketRx
      execLockLeaseExpiry execTagStoreExpiry execSnapshotExpiry execBlockWriteTimeout execNotifyPeriodic
      execNotifyChange execJqRunStart execJqStopNow execJqStopAfterFrame execEntryDecode execWakeRequest
      execShotBoundary execFireCommit execEmission execPulseOvercurrent execLineBar execComparatorCrossing
      execMergeHoldExpiry execWindowClose execSyncInEdge execFrameSyncMissed execJqSwapRequest execJqSwapCancel
      execHeldSwapExecute execJqPatch execHistogramReadoutDone execShotHeaderPacketTimeout execTestPassStart
      execTestPassEnd execEmTestStarved execEmBarClear execEmTestReq execVhvAnodeWindowExit execVhvAnodeWindowReturn
      execDriverTsdTrip execDriverTsdRestart execTwillStringStart execTwillChainCheck execTwillDisable execHmArm
      execHmDisarm execHmSelftestEnd execEmitEnLow execEmitEnHigh execFwHeartbeatStroke execFwHeartbeatExpiry
      execHostHeartbeatExpiry execD2dLinkFault execHmConfigCompare execHmInject execBucketLeakStep execGroupWakeDone
      execGroupWakeFail execRxGroupRetry execRxSkipTakeover execRxSkipReturn execRxRepair execBlankNFall
      execBlankNRise execInputShortBias execDarkRateWatch execRxBiasEnable execBiasRampDone execBiasOvercurrentFault
      execBiasOvervoltageFault execBiasUndervoltageFault execBiasOpenWarn execBiasVhvLow execTdcStatStart
      execTdcStatAbandon execInterpCalStall execSliceInterpFaulty execEmitStampLoss execEchoClassify
      execRingBlockArrival execRingletSweep execRlReset execRlGeometry execRingletClearDone execDgPowerOn
      execDgPowerOff execDigitiserReady execDigitiserFailed execDgPairMode execFiltSwapReq execFiltFadeEnd
      execFiltSync execFiltFillDone execAcqRunStart execAcqRunStop execAcqArm execAcqDump execAcqTrigForce
      execTrigInEdge execAcqLevelCrossing execAcqTrigger execAcqRearmDone execAcqCaptureDone execAcqDumpDone
      execCalPassStart execCalSliceDone execCalGapChunk execCalGroupReq execCalAgeDue execInputCheck execCalSave
      execCalFlashPeriod execCalFactoryStore execCalRestoreFactory execBiasMonitorCompare execDigitiserCalibration
      execBridgeBlockEnd execBridgeFaultDeclared execBridgeFaultEnd execBridgeResult execLoopSample
      execCoilOvercurrent execCoilOpen execCoilCompliance execAtlModeOff execAtlModeManual execAtlModeClosed
      execAtlModeModelHold execAtlOffRampDone execPdPublish execPdRange execPdStaleEnd execPdSatHold execAtlTrArm
      execAtlTrTrigger execTraceFreeze execAtlInjStart execAtlInjStop execTapHostWrite execTapFill execTapFillDone
      execScanOutStart execTapestryLineSend execLineUnderrun execRasterRetire execTxSegmentStart execAlignmentColumn
      execCreditOnlyPacket execTsMarkerTx execTsMarkerRx execDelayReqRx execTsExchangeTimeout execLaneLocked
      execLaneAligned execAlignedTimeout execTrainExit execTrainTimeoutNotify execLaneLoss execHostLossAnnouncement
      execRetrainRequest execLinkRetrain execLinkEnable execLinkDisable execPrbsGen execPrbsChk execPrbsSyncGain
      execPrbsSyncLoss execInjGoStart execInjGoStop execInjPeriodic execMemTrainingDone execMemRetrain execMemTracking
      execMemRefresh execMemReadEdcError execMemWriteEdcError execMemCaError execArbHandover execRequestPromotion
      execMemPeek execHkRepeatStart execHkConversionDone execThermalRound execHmVhvCheck execHkNow execHkRunStop
      execHkRunStart execThermalShutdownTrip execThermalAutoRestart execResetNLow execRstReq execSupervisorReset
      execClockLoss execRailsInRange execFuseLoadDone execRefQualified execFwSlotChecked execBootConfigEntry
      execLinkPhaseEnd execStartupCalibrationDone execVhvReverse execVhvUndervoltage execVhvOvervoltage
      execVhvRecovery execPowerDomainRampDone execPowerDomainFault execSlowCrystalFail execPwrPark execParkEntryDone
      execCanWake execGpioWake execWakeTimer execVhvWake execFwSlotErase execFwEraseDone execFwSlotImage
      execFaultLogBatchWrite execFltAck execFltClear execFeedbackMissing execBiasCurrentLimit execBiasVhvRecovery
      execMemCaRetrainDone execCalFlashWriteDone execSelfRefreshExit write1 request
    rfl

/-! ### Numbers as bytes -/

@[simp] theorem length_leBytes (n v : Nat) : (leBytes n v).length = n := by
  induction n generalizing v with
  | zero => rfl
  | succ n ih => simp [leBytes, ih]

/-- The bytes of a number that fits hold it (R67). -/
theorem leNat_leBytes {n v : Nat} (h : v < 256 ^ n) : leNat (leBytes n v) = v := by
  induction n generalizing v with
  | zero => simp at h; simp [leBytes, leNat, h]
  | succ n ih =>
    have hv : v / 256 < 256 ^ n := by rw [Nat.div_lt_iff_lt_mul (by omega)]; rwa [pow_succ] at h
    have hm : (BitVec.ofNat 8 v).toNat = v % 256 := by simp
    simp only [leBytes, leNat, ih hv, hm]
    omega

/-! ### A request that executes at once -/

theorem Dev.hostRenew_eq (e : Env) (d : Dev) (n : Nat) : d.hostRenew e n = { d with hm := (d.hostRenew e n).hm } := by
  unfold Dev.hostRenew
  split <;> rfl

theorem Dev.arrived_eq (e : Env) (d : Dev) (n : Nat) :
    Dev.arrived e d n = { d with hm := (Dev.arrived e d n).hm, lock := (Dev.arrived e d n).lock } := by
  unfold Dev.arrived
  dsimp only
  split
  · rw [Dev.hostRenew_eq]
  · rw [Dev.hostRenew_eq]

theorem Dev.creditDue_eq (d : Dev) (n : Nat) : d.creditDue n = { d with link := (d.creditDue n).link } := by
  unfold Dev.creditDue
  split <;> rfl

theorem State.atRequest_eq (s : State) (n : Nat) : s.atRequest n = { s.dev with
    sent := [], hm := (s.atRequest n).hm, lock := (s.atRequest n).lock, link := (s.atRequest n).link } := by
  unfold State.atRequest; rw [Dev.creditDue_eq, Dev.arrived_eq]

@[simp] theorem State.o_atRequest (s : State) (n i el : Nat) : (s.atRequest n).o i el = s.dev.o i el := by
  rw [State.atRequest_eq]; rfl

@[simp] theorem State.objs_atRequest (s : State) (n : Nat) : (s.atRequest n).objs = s.dev.objs := by
  rw [State.atRequest_eq]

@[simp] theorem State.ses_atRequest (s : State) (n : Nat) : (s.atRequest n).ses = s.dev.ses := by
  rw [State.atRequest_eq]

@[simp] theorem State.sess_atRequest (s : State) (n m : Nat) : (s.atRequest n).sess m = s.dev.sess m := by
  unfold Dev.sess; rw [State.ses_atRequest]

@[simp] theorem State.jq_atRequest (s : State) (n : Nat) : (s.atRequest n).jq = s.dev.jq := by
  rw [State.atRequest_eq]

@[simp] theorem State.pwr_atRequest (s : State) (n : Nat) : (s.atRequest n).pwr = s.dev.pwr := by
  rw [State.atRequest_eq]

@[simp] theorem State.commit_atRequest (s : State) (n : Nat) : (s.atRequest n).commit = s.dev.commit := by
  rw [State.atRequest_eq]

@[simp] theorem State.sent_atRequest (s : State) (n : Nat) : (s.atRequest n).sent = [] := by
  rw [State.atRequest_eq]

/-- A served request that is no SES_OPEN executes: its operation's answer is counted, stored and sent. -/
theorem gopRun_served {s : State} {m : GopMsg} {h : Hdr} {codes : List Int} (hs : Served s h m.req.index)
    (hm : m.req.sess = h.sess ∧ m.req.epoch = h.epoch ∧ m.req.seq = h.seq) (hop : m.req.index ≠ O.SES_OPEN ∨ m.op ≠ 2) :
    Dev.gopRun s.env { s.dev with sent := [] } m codes =
      Dev.answer s.env (s.atRequest h.sess) ((s.atRequest h.sess).operate s.env m codes).2 m
        ((s.atRequest h.sess).operate s.env m codes).1 := by
  obtain ⟨h4, _, hsv, _, hheld, hq, hep, hdup, hdec, _⟩ := hs
  obtain ⟨m1, m2, m3⟩ := hm
  have hser : Dev.serves { s.dev with sent := [] } h.sess = true := hsv
  have hse : Dev.sess { s.dev with sent := [] } h.sess = s.dev.sess h.sess := rfl
  unfold Dev.gopRun
  simp only [m1, hser, hse, hheld, hq, Bool.not_true, Bool.false_or, Option.isSome_none, Bool.or_false]
  rw [if_neg (by simp; omega)]
  show Dev.request s.env (s.atRequest h.sess) m codes = _
  unfold Dev.request
  have h1 : (m.op == 2 && m.req.index == O.SES_OPEN) = false := by
    rcases hop with hop | hop <;> simp [hop]
  have h2 : (m.req.epoch % 4 != (s.atRequest h.sess).o O.SES_EPOCH h.sess) = false := by
    rw [State.o_atRequest, m2, hep]; simp
  have h3 : (s.atRequest h.sess).duplicate s.env m = none := by
    unfold Dev.duplicate
    rw [State.sess_atRequest, m1, List.find?_eq_none]
    intro x hx
    have := hdup x hx
    have ht : reqTag m.req = h.epoch % 4 * 64 + h.seq % 64 := by unfold reqTag; rw [m2, m3]
    rw [ht]
    simp only [Bool.and_eq_true, beq_iff_eq, decide_eq_true_eq, not_and, Nat.not_lt]
    exact this
  have h4 : (s.atRequest h.sess).holds m = false := by
    have hfd : (s.atRequest h.sess).frameDecided = false := by unfold Dev.frameDecided at hdec ⊢; rw [State.jq_atRequest]; exact hdec
    unfold Dev.holds; rw [hfd]; rfl
  simp only [h1, h2, h3, h4, m1]
  rfl

/-! ### An accepted write of one element -/

theorem Accepts.still {s : State} {h : Hdr} {idx el v : Nat} (ha : Accepts s h idx el v) : s.Still := ha.1.2.2.2.2.2.2.2.2.2

theorem runEls_one (el : Nat) : runEls el 1 = [el] := rfl

/-- An accepted write's operation: success, and its value written (R75, R79). The two objects whose write runs the bank check
are apart. -/
theorem opWrite_accepts {s : State} {h : Hdr} {idx el v : Nat} {r : ObjRow} (ha : Accepts s h idx el v)
    (hr : rowOf? idx = some r) (hi : r.idx = idx) (hel : el + 1 ≤ 4096) (hty : r.ty ≠ .dom ∧ r.ty ≠ .str)
    (hacc : r.acc = .rw ∨ r.acc = .wo ∨ r.acc = .rws) (hjq : idx ≠ O.JQ_RUN ∧ idx ≠ O.JQ_SWAP_REQ) :
    (s.atRequest h.sess).opWrite s.env (writeMsg h idx el v) =
      ({ stamp := s.clock.time }, (s.atRequest h.sess).writeVal s.env h.sess r el v) := by
  obtain ⟨⟨h4, _⟩, hlo, hpres, hv, hrng, hsp, hrun, hbusy, hcom⟩ := ha
  have hor : rowOr idx = r := by unfold rowOr; rw [hr]; rfl
  rw [hor] at hrng hrun
  have hw : elWidth idx = r.ty.bytes := by unfold elWidth; rw [hr]
  have hpa : (s.atRequest h.sess).presAbort s.env idx el 1 = none := by
    simp [Dev.presAbort, runEls_one, hpres]
  have hfa : (s.atRequest h.sess).firstAbsent s.env idx el = none := by
    simp [Dev.firstAbsent, hpa]
  have hwid : r.width ≤ 1024 := by
    unfold ObjRow.width
    rw [if_neg hty.2]
    cases r.ty <;> decide
  have hchk : (s.atRequest h.sess).runCheck s.env r el 1 = none := by
    unfold Dev.runCheck
    rw [hi, hfa, hpa]
    simp only [Option.isSome_none]
    rw [if_neg (by simp), if_neg hty.1, if_neg]
    simp
    omega
  have hstage : (s.atRequest h.sess).stages h.sess idx = false := by
    unfold Dev.stages; rw [State.o_atRequest, hlo]
    have : (255 == h.sess) = false := by simp; omega
    simp [this]
  have hlock : (s.atRequest h.sess).lockedOut h.sess idx = false := by
    unfold Dev.lockedOut; rw [State.o_atRequest, hlo]; simp
  have hvals : parseVals r.ty.bytes 1 (leBytes (elWidth idx) v) = [v] := by
    rw [hw] at hv ⊢
    have : (leBytes r.ty.bytes v).take r.ty.bytes = leBytes r.ty.bytes v :=
      List.take_of_length_le (by simp)
    simp [parseVals, this, leNat_leBytes hv]
  have hva : (s.atRequest h.sess).valueAbort s.env h.sess r el [v] = none := by
    unfold Dev.valueAbort
    simp [hrng, runEls_one, hi, hsp]
  have hbank : (s.atRequest h.sess).bankTest idx false [v] = (none, s.atRequest h.sess) := by
    unfold Dev.bankTest
    simp [hjq.1, hjq.2]
  unfold Dev.opWrite
  simp only [writeMsg, opMsg, reqTo, hr, hchk, hvals]
  rw [if_neg (by rcases hacc with h | h | h <;> simp [h]), if_neg (by simp [hw]), hlock, hva, hi, hstage]
  simp only [hbank]
  rw [if_neg (by simp), if_neg (by simp [hjq.1])]
  have hex : (s.atRequest h.sess).writeExec s.env h.sess r el [v] =
      ({ stamp := s.clock.time }, (s.atRequest h.sess).writeVal s.env h.sess r el v) := by
    unfold Dev.writeExec
    rw [hi, hstage, if_neg (by simp), if_neg]
    · have hc : (s.atRequest h.sess).inCommit (okey idx el) = false := by
        unfold Dev.inCommit at hcom ⊢; rw [State.commit_atRequest]; exact hcom
      simp [runEls_one, hbusy, hc, Dev.writeVals]
      rfl
    · simp [runEls_one]
      exact hrun
  rw [hex]
  rfl

/-- An accepted write: the value is written, then the response is counted, stored and sent. -/
theorem write1_accepts {s : State} {h : Hdr} {idx el v : Nat} {r : ObjRow} (ha : Accepts s h idx el v)
    (hr : rowOf? idx = some r) (hi : r.idx = idx) (hel : el + 1 ≤ 4096) (hty : r.ty ≠ .dom ∧ r.ty ≠ .str)
    (hacc : r.acc = .rw ∨ r.acc = .wo ∨ r.acc = .rws) (hjq : idx ≠ O.JQ_RUN ∧ idx ≠ O.JQ_SWAP_REQ) (hses : idx ≠ O.SES_OPEN) :
    write1 h idx el v s = run (fun e _ => Dev.answer e (s.atRequest h.sess)
      ((s.atRequest h.sess).writeVal e h.sess r el v) (writeMsg h idx el v) { stamp := s.clock.time }) s := by
  have hop := opWrite_accepts ha hr hi hel hty hacc hjq
  have hrun := gopRun_served (codes := []) (m := writeMsg h idx el v) ha.1 ⟨rfl, rfl, rfl⟩ (.inl hses)
  have hsa : (s.atRequest h.sess).serviceAbort h.sess idx = none := by
    have := ha.1.2.2.2.1
    unfold Dev.serviceAbort at this ⊢
    rw [State.o_atRequest]; exact this
  have hopr : (s.atRequest h.sess).operate s.env (writeMsg h idx el v) [] = (s.atRequest h.sess).opWrite s.env (writeMsg h idx el v) := by
    unfold Dev.operate
    simp [writeMsg, opMsg, reqTo, hsa]
  rw [hopr, hop] at hrun
  unfold write1 request
  rw [run_next, run_next, begin_still ha.still]
  dsimp only
  rw [hrun]

/-! ### What an answer changes -/

/-- The counters that a response may move: requests, aborts, discarded packets. -/
def answerIdx : List Nat := [O.GOP_REQUESTS, O.GOP_ABORTS, O.LINK_TX_DISCARD, O.LINK_NOTIFY_DROPPED]

/-- What sending a response may change: what left the package, sessions, packets that wait, counters of the link. -/
structure SentFrom (d d' : Dev) : Prop where
  rest : d' = { d with objs := d'.objs, ses := d'.ses, sent := d'.sent, link := { d.link with txq := d'.link.txq } }
  objs : ∀ i el, el < 4096 → i ∉ answerIdx → d'.o i el = d.o i el

theorem SentFrom.refl (d : Dev) : SentFrom d d := ⟨rfl, fun _ _ _ _ => rfl⟩

theorem SentFrom.trans {a b c : Dev} (h : SentFrom a b) (k : SentFrom b c) : SentFrom a c := by
  refine ⟨?_, fun i el he hi => (k.objs i el he hi).trans (h.objs i el he hi)⟩
  rw [k.rest, h.rest]

theorem SentFrom.inc {d : Dev} {i el n : Nat} (hi : i ∈ answerIdx) (hel : el < 4096) : SentFrom d (d.inc i el n) :=
  ⟨rfl, fun _ _ he hj => Dev.o_inc_ne hel he (.inl (fun h => hj (h ▸ hi)))⟩

theorem SentFrom.setSess (d : Dev) (n : Nat) (x : Ses) : SentFrom d (d.setSess n x) := ⟨rfl, fun _ _ _ _ => rfl⟩

theorem SentFrom.send (d : Dev) (x : Out) : SentFrom d (d.send x) := ⟨rfl, fun _ _ _ _ => rfl⟩

theorem SentFrom.sends (f : Bytes → Out) (l : List Bytes) (d : Dev) : SentFrom d (l.foldl (fun d p => d.send (f p)) d) := by
  induction l generalizing d with
  | nil => exact SentFrom.refl d
  | cons p l ih => exact (SentFrom.send d _).trans (ih _)

theorem SentFrom.enq (d : Dev) (p : Packet) (h : p.ty < 4096) : SentFrom d (d.enq p) := by
  unfold Dev.enq Dev.discard
  split
  · exact SentFrom.inc (by decide) h
  · split
    · exact SentFrom.refl d
    · split
      · exact SentFrom.inc (by decide) (by decide)
      · exact ⟨rfl, fun _ _ _ _ => rfl⟩

theorem SentFrom.emit (d : Dev) (s : Nat) (note ext : Bool) (base : Nat) (bs : Bytes) : SentFrom d (d.emit s note ext base bs) := by
  unfold Dev.emit
  split
  · unfold Dev.canSend
    split
    · exact SentFrom.refl d
    · exact SentFrom.sends (fun p => .can s ext _ p) _ d
  · split
    · exact SentFrom.setSess ..
    · split
      · exact SentFrom.enq _ _ (show 6 < 4096 by decide)
      · exact SentFrom.refl d

theorem SentFrom.countReq (d : Dev) {s : Nat} (a : Ans) (h : s < 4096) : SentFrom d (d.countReq s a) := by
  unfold Dev.countReq
  dsimp only
  split
  · exact (SentFrom.inc (by decide) h).trans (SentFrom.inc (by decide) h)
  · exact SentFrom.inc (by decide) h

/-- A response changes the counters of requests, its session, and what leaves or waits to leave. -/
theorem SentFrom.answer {e : Env} {d0 d : Dev} {m : GopMsg} {a : Ans} (h : m.req.sess < 4096) :
    SentFrom d (Dev.answer e d0 d m a) := by
  unfold Dev.answer Dev.respond
  exact ((SentFrom.countReq d a h).trans (SentFrom.setSess ..)).trans (SentFrom.emit ..)

/-- What holds of a written device, whatever its answer and the marks of subscriptions change, holds of the state an accepted
write leads to. -/
theorem leads_write {c : Instr} {s : State} {h : Hdr} {idx el v : Nat} {r : ObjRow} {P : State → Prop}
    (hc : exec c s = write1 h idx el v s) (ha : Accepts s h idx el v) (hr : rowOf? idx = some r) (hi : r.idx = idx)
    (hel : el + 1 ≤ 4096) (hty : r.ty ≠ .dom ∧ r.ty ≠ .str) (hacc : r.acc = .rw ∨ r.acc = .wo ∨ r.acc = .rws)
    (hjq : idx ≠ O.JQ_RUN ∧ idx ≠ O.JQ_SWAP_REQ) (hses : idx ≠ O.SES_OPEN)
    (hs : ((s.atRequest h.sess).writeVal s.env h.sess r el v).jq.settle = false)
    (hd : ((s.atRequest h.sess).writeVal s.env h.sess r el v).pwr.rstDue = none)
    (hP : ∀ d l, SentFrom ((s.atRequest h.sess).writeVal s.env h.sess r el v) d → P { s with dev := { d with subs := l } }) :
    Leads c s P := by
  have h4 : h.sess < 4096 := Nat.lt_trans ha.1.1 (by decide)
  have sf := SentFrom.answer (e := s.env) (d0 := s.atRequest h.sess)
    (d := (s.atRequest h.sess).writeVal s.env h.sess r el v) (m := writeMsg h idx el v) (a := { stamp := s.clock.time }) h4
  refine leads_run ha.still (hc.trans (write1_accepts ha hr hi hel hty hacc hjq hses)) ?_ ?_ (fun l => hP _ l sf)
  · rw [sf.rest]; exact hs
  · rw [sf.rest]; exact hd

end Sys2Proof.Machine
end

