-- ==== Sys2Proof/Laws/Hawkmoth.lean ====
section
/-! SUPPORT. What Hawkmoth's evaluation can do (R266, R273, Table 05-1): once for each case, and what it leaves alone in all. -/

namespace Sys2Proof.Machine

@[simp] theorem Dev.objs_cutDrive (d : Dev) : d.cutDrive.objs = d.objs := rfl
@[simp] theorem Dev.o_cutDrive (d : Dev) (i el : Nat) : d.cutDrive.o i el = d.o i el := rfl
@[simp] theorem Dev.flt_cutDrive (d : Dev) : d.cutDrive.flt = d.flt := rfl
@[simp] theorem Dev.hm_cutDrive (d : Dev) : d.cutDrive.hm = d.hm := rfl
@[simp] theorem Dev.pwr_cutDrive (d : Dev) : d.cutDrive.pwr = d.pwr := rfl
@[simp] theorem Dev.settle_cutDrive (d : Dev) : d.cutDrive.jq.settle = d.jq.settle := rfl
@[simp] theorem Dev.closed_cutDrive (d : Dev) : d.cutDrive.em.closed = 0 := rfl
@[simp] theorem Dev.vhvMv_cutDrive (d : Dev) : d.cutDrive.em.vhvMv = d.em.vhvMv := rfl

/-- The objects that Hawkmoth's evaluation may change. -/
def hmIdx : List Nat := [O.HM_STATE, O.HM_DISARM_CAUSE, O.HM_DISARM_TIME, O.HM_INHIBITS, O.FLT_LOST]

/-- What Hawkmoth's evaluation may change: its own state objects, the anode switches, the shot in flight, and the fault log. -/
structure HmFrom (d d' : Dev) : Prop where
  rest : d' = { d with objs := d'.objs, flt := d'.flt, em := { d.em with closed := d'.em.closed },
                       jq := { d.jq with flight := d'.jq.flight } }
  objs : ∀ i el, el < 4096 → i ∉ hmIdx → d'.o i el = d.o i el
  closed : d'.em.closed = d.em.closed ∨ d'.em.closed = 0

theorem HmFrom.refl (d : Dev) : HmFrom d d := ⟨rfl, fun _ _ _ _ => rfl, .inl rfl⟩

theorem HmFrom.trans {a b c : Dev} (h : HmFrom a b) (k : HmFrom b c) : HmFrom a c := by
  refine ⟨?_, fun i el he hi => (k.objs i el he hi).trans (h.objs i el he hi), ?_⟩
  · rw [k.rest, h.rest]
  · rcases k.closed with hk | hk
    · rw [hk]; exact h.closed
    · exact .inr hk

theorem HmFrom.so {d : Dev} {i v : Nat} (hi : i ∈ hmIdx) : HmFrom d (d.so i 0 v) :=
  ⟨rfl, fun _ _ he hj => Dev.o_so_ne (by decide) he (.inl (fun h => hj (h ▸ hi))), .inl rfl⟩

theorem HmFrom.cutDrive (d : Dev) : HmFrom d d.cutDrive := ⟨rfl, fun _ _ _ _ => rfl, .inr rfl⟩

theorem HmFrom.log {e : Env} {d : Dev} {code loc cls detail : Nat} {inj : Bool} : HmFrom d (d.log e code loc cls detail inj) := by
  refine ⟨?_, fun i el he hi => Dev.o_log he (fun h => hi (h ▸ by decide)), .inl (by simp)⟩
  unfold Dev.log Dev.deliver
  split <;> rfl

/-- A disarm changes what an evaluation may change. -/
theorem HmFrom.disarm {e : Env} {d : Dev} {c k : Nat} {inj : Bool} : HmFrom d (d.disarm e c k inj) := by
  unfold Dev.disarm Dev.sos
  exact ((((HmFrom.so (show O.HM_STATE ∈ hmIdx by decide)).trans (HmFrom.so (show O.HM_DISARM_CAUSE ∈ hmIdx by decide))).trans
    (HmFrom.so (show O.HM_DISARM_TIME ∈ hmIdx by decide))).trans
    ((HmFrom.so (show O.HM_INHIBITS ∈ hmIdx by decide)).trans (HmFrom.cutDrive _))).trans HmFrom.log

/-- The evaluation acts in one of these ways (R266, R273). -/
theorem Dev.hmEval_cases (e : Env) (d : Dev) :
    (d.o O.HM_STATE = 0 ∧ d.hmEval e = d) ∨
    (d.o O.HM_STATE ≠ 0 ∧ ∃ c inj l, d.hmLatching e = (c, inj) :: l ∧ d.hmEval e = d.disarm e c (causeClass c) inj) ∨
    (d.o O.HM_STATE = 2 ∧ d.hmLatching e = [] ∧ d.hmPassing = true ∧
      d.hmEval e = ((d.so O.HM_STATE 0 3).inc O.HM_INHIBITS).cutDrive) ∨
    (d.o O.HM_STATE = 3 ∧ d.hmLatching e = [] ∧ d.hmPassing = false ∧ d.hmEval e = d.so O.HM_STATE 0 2) ∨
    (d.o O.HM_STATE ≠ 0 ∧ d.hmLatching e = [] ∧ ¬ (d.o O.HM_STATE = 2 ∧ d.hmPassing = true) ∧
      ¬ (d.o O.HM_STATE = 3 ∧ d.hmPassing = false) ∧ d.hmEval e = d) := by
  unfold Dev.hmEval
  by_cases h0 : d.o O.HM_STATE = 0
  · exact .inl ⟨h0, by simp [h0]⟩
  · have hb : (d.o O.HM_STATE == 0) = false := by simpa using h0
    rcases hl : d.hmLatching e with _ | ⟨⟨c, inj⟩, l⟩
    · by_cases h2 : d.o O.HM_STATE = 2
      · rcases hp : d.hmPassing with _ | _
        · refine .inr (.inr (.inr (.inr ⟨h0, rfl, by simp, by simp [h2], ?_⟩)))
          simp [h2]
        · exact .inr (.inr (.inl ⟨h2, rfl, rfl, by simp [h2]⟩))
      · by_cases h3 : d.o O.HM_STATE = 3
        · rcases hp : d.hmPassing with _ | _
          · exact .inr (.inr (.inr (.inl ⟨h3, rfl, rfl, by simp [h3]⟩)))
          · refine .inr (.inr (.inr (.inr ⟨h0, rfl, by simp [h2], by simp, ?_⟩)))
            simp [h3]
        · refine .inr (.inr (.inr (.inr ⟨h0, rfl, by simp [h2], by simp [h3], ?_⟩)))
          simp [h0, h2, h3]
    · exact .inr (.inl ⟨h0, c, inj, l, rfl, by simp [h0]⟩)

/-- Whatever it does, the evaluation changes what `HmFrom` says. -/
theorem HmFrom.hmEval {e : Env} {d : Dev} : HmFrom d (d.hmEval e) := by
  rcases Dev.hmEval_cases e d with ⟨_, h⟩ | ⟨_, c, inj, l, _, h⟩ | ⟨_, _, _, h⟩ | ⟨_, _, _, h⟩ | ⟨_, _, _, _, h⟩ <;> rw [h]
  · exact HmFrom.refl d
  · exact HmFrom.disarm
  · exact ((HmFrom.so (by decide)).trans (HmFrom.so (by decide))).trans (HmFrom.cutDrive _)
  · exact HmFrom.so (by decide)
  · exact HmFrom.refl d

/-- A disarmed Hawkmoth: its state, cause and the stamp of its inhibit, and every anode switch open (R239, R271). -/
theorem Dev.disarm_o (e : Env) (d : Dev) (c k : Nat) (inj : Bool) :
    (d.disarm e c k inj).o O.HM_STATE = 0 ∧ (d.disarm e c k inj).o O.HM_DISARM_CAUSE = c ∧
      (d.disarm e c k inj).o O.HM_DISARM_TIME = e.now + inhibitLag c inj ∧ (d.disarm e c k inj).em.closed = 0 := by
  have ne : ∀ {d : Dev} {i j v : Nat}, j ≠ i → (d.so i 0 v).o j = d.o j :=
    fun h => Dev.o_so_ne (by decide) (by decide) (.inl h)
  have h : ∀ i, i ≠ O.FLT_LOST → i ≠ O.HM_INHIBITS → (d.disarm e c k inj).o i =
      (((d.so O.HM_STATE 0 0).so O.HM_DISARM_CAUSE 0 c).so O.HM_DISARM_TIME 0 (e.now + inhibitLag c inj)).o i := by
    intro i h1 h2
    unfold Dev.disarm
    rw [Dev.o_log (by decide) h1, Dev.o_cutDrive, Dev.o_inc_ne (by decide) (by decide) (.inl h2)]
    unfold Dev.sos
    simp only [List.foldl]
  refine ⟨?_, ?_, ?_, by unfold Dev.disarm; rw [Dev.em_log]; rfl⟩
  · rw [h _ (by decide) (by decide), ne (by decide), ne (by decide), Dev.o_so_self]
  · rw [h _ (by decide) (by decide), ne (by decide), Dev.o_so_self]
  · rw [h _ (by decide) (by decide), Dev.o_so_self]

/-- With a latching cause present the evaluation leaves Hawkmoth disarmed (R273). -/
theorem Dev.hmEval_latching {e : Env} {d : Dev} (h : d.hmLatching e ≠ []) : (d.hmEval e).o O.HM_STATE = 0 := by
  rcases Dev.hmEval_cases e d with ⟨h0, k⟩ | ⟨_, c, inj, l, _, k⟩ | ⟨_, k, _⟩ | ⟨_, k, _⟩ | ⟨_, k, _⟩
  · rw [k, h0]
  · rw [k]; exact (Dev.disarm_o ..).1
  · exact absurd k h
  · exact absurd k h
  · exact absurd k h

/-- The evaluation keeps the end of a command quiet. -/
theorem HmFrom.quiet {d d' : Dev} (h : HmFrom d d') : d'.jq.settle = d.jq.settle ∧ d'.pwr = d.pwr := by
  rw [h.rest]; exact ⟨rfl, rfl⟩

/-- With a passing condition present the evaluation does not leave Hawkmoth ARMED (R266). -/
theorem Dev.hmEval_passing {e : Env} {d : Dev} (h : d.hmPassing = true) : (d.hmEval e).o O.HM_STATE ≠ 2 := by
  rcases Dev.hmEval_cases e d with ⟨h0, k⟩ | ⟨_, c, inj, l, _, k⟩ | ⟨_, _, _, k⟩ | ⟨_, _, hp, _⟩ | ⟨_, _, h2, _, k⟩
  · rw [k, h0]; decide
  · rw [k, (Dev.disarm_o ..).1]; decide
  · rw [k, Dev.o_cutDrive, Dev.o_inc_ne (by decide) (by decide) (by decide), Dev.o_so_self]; decide
  · rw [h] at hp; exact absurd hp (by decide)
  · rw [k]; exact fun hh => h2 ⟨hh, h⟩

end Sys2Proof.Machine
end

