-- ==== Sys2Proof/Laws/Memory.lean ====
section
/-! SUPPORT. GDDR7 keeps its canonical form: what each memory operation does to the list of bytes, and that each keeps Memory.wf
(R768, R773, R784, R788, R789). -/

namespace Sys2Proof.Machine

/-! ### Operations that leave the bytes alone -/

@[simp] theorem Dev.gddr_setDom (d : Dev) (i el off : Nat) (bs : Bytes) : (d.setDom i el off bs).gddr = d.gddr := by
  cases bs <;> rfl

@[simp] theorem Dev.gddr_memLog (e : Env) (d : Dev) (k a r n : Nat) : (d.memLog e k a r n).gddr = d.gddr := by
  simp [Dev.memLog]

@[simp] theorem Dev.gddr_arrive (e : Env) (d : Dev) (r a n : Nat) (w : Bool) : (d.arrive e r a n w).gddr = d.gddr := rfl

@[simp] theorem Dev.gddr_rdCount (d : Dev) (a n b : Nat) : (d.rdCount a n b).gddr = d.gddr := by
  unfold Dev.rdCount
  dsimp only
  split <;> rfl

@[simp] theorem Dev.gddr_wrCount (d : Dev) (a n b : Nat) : (d.wrCount a n b).gddr = d.gddr := by
  unfold Dev.wrCount
  dsimp only
  split <;> rfl

/-- A fold of steps that leave the bytes alone leaves them alone. -/
theorem Dev.gddr_foldl {α : Type} (f : Dev → α → Dev) (h : ∀ d x, (f d x).gddr = d.gddr) (l : List α) (d : Dev) :
    (l.foldl f d).gddr = d.gddr := by
  induction l generalizing d with
  | nil => rfl
  | cons x l ih => exact (ih (f d x)).trans (h d x)

/-- A read changes no byte. -/
theorem Dev.gddr_memRd (e : Env) (d : Dev) (r a n : Nat) : (d.memRd e r a n).2.gddr = d.gddr := by
  unfold Dev.memRd
  split
  · simp
  · simpa using Dev.gddr_foldl _ (fun d b => Dev.gddr_rdCount d a n b) _ d

/-! ### Operations that change bytes -/

/-- GDDR7 of a device is in its canonical form. -/
def Dev.memWf (d : Dev) : Prop := Memory.wf d.gddr = true

theorem State.reset_memWf : State.reset.dev.memWf := rfl

theorem Dev.memWf_congr {d d' : Dev} (h : d'.gddr = d.gddr) (w : d.memWf) : d'.memWf := by
  unfold Dev.memWf at w ⊢; rw [h]; exact w

/-- A fold of steps that keep the form keeps it. -/
theorem Dev.memWf_foldl {α : Type} (f : Dev → α → Dev) (h : ∀ d x, d.memWf → (f d x).memWf) (l : List α) (d : Dev)
    (w : d.memWf) : (l.foldl f d).memWf := by
  induction l generalizing d with
  | nil => exact w
  | cons x l ih => exact ih _ (h d x w)

theorem Dev.memWf_gSet {d : Dev} (a : Nat) (b : Byte) (w : d.memWf) : (d.gSet a b).memWf := twf_tset a b w

theorem memory_wf_gPut {m : Tab Byte} (w : Memory.wf m = true) (a : Nat) (bs : Bytes) : Memory.wf (gPut m a bs) = true := by
  induction bs generalizing a with
  | nil => exact w
  | cons b bs ih => exact twf_tset a b (ih (a + 1))

theorem Dev.memWf_gZero {d : Dev} (a n : Nat) (w : d.memWf) : (d.gZero a n).memWf := twf_tdrop a n w

theorem Dev.memWf_gLose {d : Dev} (lo hi : Nat) (w : d.memWf) : (d.gLose lo hi).memWf := twf_tdrop lo (hi - lo) w

theorem Dev.memWf_gWrite {d : Dev} (a : Nat) (bs : Bytes) (w : d.memWf) : (d.gWrite a bs).memWf := by
  induction bs generalizing a with
  | nil => exact w
  | cons b bs ih =>
    unfold Dev.gWrite
    dsimp only
    split
    · exact ih _
    · exact Dev.memWf_gSet a b (ih _)

/-- A write of any length by any requester keeps the form. -/
theorem Dev.memWf_memWr {e : Env} {d : Dev} (r a : Nat) (bs : Bytes) (w : d.memWf) : (d.memWr e r a bs).memWf := by
  unfold Dev.memWr
  split
  · exact Dev.memWf_congr (Dev.gddr_memLog ..) w
  · exact Dev.memWf_foldl _ (fun d b => Dev.memWf_congr (Dev.gddr_wrCount d a bs.length b)) _ _ (Dev.memWf_gWrite a bs w)

theorem Dev.memWf_zeroBlock {d : Dev} (a n b : Nat) (w : d.memWf) : (d.zeroBlock a n b).memWf := by
  unfold Dev.zeroBlock
  refine Dev.memWf_congr (Dev.gddr_wrCount ..) ?_
  split
  · exact w
  · exact Dev.memWf_gZero _ _ w

/-- A range zeroed by a requester keeps the form. -/
theorem Dev.memWf_memZero {d : Dev} (a n : Nat) (w : d.memWf) : (d.memZero a n).memWf :=
  Dev.memWf_foldl _ (fun _ b => Dev.memWf_zeroBlock a n b) _ _ w

theorem Dev.memWf_poolClear {d : Dev} (w : d.memWf) : d.poolClear.memWf := by
  unfold Dev.poolClear
  dsimp only
  exact Dev.memWf_foldl _ (fun _ _ w => Dev.memWf_congr (Dev.gddr_inc ..) w) _ _ (Dev.memWf_gZero _ _ w)

/-- A channel filled after a retraining keeps the form. -/
theorem Dev.memWf_fillChan {d : Dev} (c : Nat) (w : d.memWf) : (d.fillChan c).memWf := by
  unfold Dev.fillChan
  split
  · exact twf_filter _ w
  · exact w

theorem Dev.memWf_loseGddr {d : Dev} (w : d.memWf) : d.loseGddr.memWf := Dev.memWf_gLose _ _ w

/-- The device after a reset takes the bytes over as they are. -/
theorem Dev.gddr_fresh (e : Env) (d : Dev) : (d.fresh e).gddr = d.gddr := by
  unfold Dev.fresh Dev.strapDefaults
  simp only [List.foldl]
  split <;> split <;> rfl

theorem Dev.memWf_selfRefresh {d : Dev} (w : d.memWf) : d.selfRefresh.memWf := by
  unfold Dev.selfRefresh
  split
  · exact Dev.memWf_gLose _ _ w
  · exact Dev.memWf_gLose _ _ w

/-- A byte that a write has just put is what a read of it finds. -/
theorem Dev.gByte_gSet (d : Dev) (a : Nat) (b : Byte) : (d.gSet a b).gByte a = b := by
  have h : (cutOut d.mem.undef a (a + 1)).find? (fun p => decide (p.1 ≤ a) && decide (a < p.2.1)) = none := by
    rw [List.find?_eq_none]
    intro p hp
    obtain ⟨q, _, hq⟩ := List.mem_flatMap.mp hp
    simp only [List.mem_append] at hq
    rcases hq with hq | hq
    · split at hq
      · simp only [List.mem_singleton] at hq; subst hq; simp
      · simp at hq
    · split at hq
      · simp only [List.mem_singleton] at hq; subst hq; simp
      · simp at hq
  show (match (cutOut d.mem.undef a (a + 1)).find? (fun p => decide (p.1 ≤ a) && decide (a < p.2.1)) with
    | some p => if p.2.2 < tget 0 (d.gSet a b).mem.filled ((d.gSet a b).chanOf a) then tget 0 (d.gSet a b).gddr a
        else Config.undefByte p.2.2 a
    | none => tget 0 (d.gSet a b).gddr a) = b
  rw [h]
  exact tget_tset_self ..

end Sys2Proof.Machine
end

