-- ==== Sys2Proof/Tests/Slice0.lean ====
section
/-! SUPPORT. The model's own tests. First helpers that build small states; then the well-formedness smoke; then values that the spec
writes out, each compared with what the model computes; then, for every statement with hypotheses, a theorem `meets_<statement>`
that gives a state and operands which meet the hypotheses of each of its clauses. -/

namespace Sys2Proof.Tests

open Sys2Proof Sys2Proof.Machine

set_option Elab.async false

/-! ### Small states -/

/-- The device with some elements at given values. -/
def put (d : Dev) (l : List (Nat × Nat × Nat)) : Dev := l.foldl (fun d p => d.so p.1 p.2.1 p.2.2) d

/-- A part that runs in READY. -/
def devUp : Dev := put { pwr := { mode := .up, fabric := true } } [(O.SU_STATE, 0, 7), (O.RL_STATE, 0, 2)]

/-- The block 2,000 s after its reset, with a device. -/
def at2000 (d : Dev) : State := { part := partAtReset, clock := { time := 3000000000000, frac := 0 }, pending := [], dev := d }

/-- The block in READY with some elements at given values. -/
def up (l : List (Nat × Nat × Nat)) : State := at2000 (put devUp l)

/-- The block with a device and some elements at given values. -/
def st (d : Dev) (l : List (Nat × Nat × Nat)) : State := at2000 (put d l)

/-- The state a command leads to. -/
def after (c : Instr) (s : State) : State :=
  match exec c s with
  | .next t => t
  | _ => s

/-- No command stops. -/
theorem exec_after (c : Instr) (s : State) : exec c s = .next (after c s) := by
  obtain ⟨f, h⟩ | ⟨-, h⟩ := exec_run c s
  all_goals
    rw [after, h, run_next]

/-- A header of session 0. -/
def hd : Hdr := { sess := 0, epoch := 0, seq := 1 }

/-- A request of session 0. -/
def rq (idx el count : Nat) (data : Bytes) : Req :=
  { sess := 0, epoch := 0, seq := 1, index := idx, element := el, count := count, data := data, rsv := 0 }

/-- The row of an object. -/
def r1 (i : Nat) : ObjRow := rowOr i

/-- A READ of EM_LEVEL_SET by session 0, by SPI and by Gaern. -/
def rm : GopMsg := readMsg hd O.EM_LEVEL_SET 0 1
def rm2 : GopMsg := { rm with req := { rm.req with sess := 2 } }
def rm3 : GopMsg := { rm with req := { rm.req with sess := 3 } }

/-- The SPI frame without its CRC and the HRX segment without its CRC that carry it. -/
def sp0 : Bytes := leBytes 1 1 ++ leBytes 2 8 ++ reqBytes rm2
def sg0 : Bytes := leBytes 8 (6 * 2 ^ 60 + 2 ^ 59 + 2 ^ 58 + 8 * 2 ^ 40) ++ reqBytes rm3

/-- A stored tag of a write executed in the last cycle. -/
def sd : Stored := { msg := writeMsg hd O.EM_LEVEL_SET 0 5, resp := zeros 16, time := 2999999999999 }

/-- A subscription that is due. -/
def sb : Machine.Sub :=
  { sess := 0, index := O.EM_LEVEL_SET, element := 126, count := 2, mode := 3, period := 60000, due := 3000000000000,
    last := some 2999998500000, dirty := true, seen := [] }

/-- The link up on two lanes. -/
def upL : State := up [(O.LINK_STATE, 0, 2), (O.LINK_ACTIVE_HRX, 0, 1)]

/-- The link down after a loss with the policy to retrain. -/
def lk : List (Nat × Nat × Nat) := [(O.LINK_STATE, 0, 2), (O.LINK_ACTIVE_HRX, 0, 1), (O.LINK_ACTIVE_TX, 0, 15), (O.LINK_LOSS_POLICY, 0, 1)]

/-- A SHOT of line 0 and cathode 0 without dither. -/
def ent1 : Nat := 2 ^ 75 + 2 ^ 59 + 2 ^ 16

/-- The END with a count. -/
def endE (l : Nat) : Bytes := leBytes 16 (2 * 2 ^ 17 + l)

/-- Bank 0 begins with an END; bank 1 does. -/
def devEnd : Dev := devUp.setDom O.JQ_BANK_0 0 0 (endE 5)
def devEnd1 : Dev := devUp.setDom O.JQ_BANK_1 0 0 (endE 5)

/-- A bank holds one SHOT and one END. -/
def bankB (i : Nat) : Dev := devUp.setDom (O.JQ_BANK_0 + i) 0 0 (leBytes 16 ent1 ++ leBytes 16 (2 * 2 ^ 17))

/-- A patch of one entry. -/
def pat : Bytes := leBytes 1 1 ++ leBytes 1 1 ++ leBytes 2 32767 ++ zeros 12 ++ leBytes 16 ent1

/-- A write of JQ_SWAP_REQ. -/
def hm0 : GopMsg := writeMsg hd O.JQ_SWAP_REQ 0 1

/-- The SHOT, decoded and planned at 2,000 s. -/
def shot1 : Shot :=
  { ent := ent1, bank := 0, idx := 0, rep := 0, ord := 0, move := false, dither := 0, origin := 0, planned := 6000000000000,
    moved := false, thinned := false, frameFirst := false, swap := false, lineChange := false, lineDone := false, acc := none,
    accLast := false, chans := 2 ^ 512 - 1, hseq := 0, wakeStall := false, twStall := false, histStall := false }

/-- It in flight: before its fire commit, with its emission to come, after its fire commit, and with open windows. -/
def fl1 : Flight := { shot := shot1, bound := 5999999999000, emit := 6000000000000, an := 1, kd := 1 }
def ftr : Flight := { fl1 with emit := 6000000000240 }
def fem : Flight := { fl1 with committed := true, fires := true }
def fwc : Flight := { fem with wins := true, emitted := true, emit := 5999999999000 }
def fclose : Flight := { fem with emit := 5999990000000, wins := true, emitted := true }

/-- A part in READY with Hawkmoth's sources good. -/
def devGood : Dev :=
  put { devUp with hm := { emitEn := true, report := [(0, (3000000000000, true)), (1, (3000000000000, true))] } }
    [(O.ATL_STATE, 0, 2), (O.ATL_STATE, 1, 2), (O.ATL_CLEAN_MS, 0, 1000), (O.ATL_CLEAN_MS, 1, 1000),
     (O.HM_BUCKET_LIMIT, 0, 1000000), (O.HM_BUCKET_LIMIT, 1, 1000000), (O.HM_BUCKET_LIMIT, 2, 1000000)]

/-- That part with a shot in flight. -/
def devFl (f : Flight) : Dev := { devGood with jq := { flight := some f } }

/-- Jacquard runs with that shot in flight, the mirrors travel, the buckets are at the present grid step, and HM_STATE is `hm`. -/
def armed (f : Flight) (hm : Nat) : State :=
  st { devFl f with hm := { devGood.hm with samples := [(2999999000000, 0, 0), (3000000000000, 0, 1000000)],
                                            steps := (List.range 3).map (fun k => (k, 3000000000000 / leakPeriod k)) } }
    [(O.JQ_STATE, 0, 2), (O.HM_STATE, 0, hm)]

/-- An emission on which nothing is measured. -/
def em0 : EmitMeas := { edge := none, high := [], peaks := [], left := none }

/-- A window of channel 0: fresh, with a full list of stamps, with a held stamp; and a device on which it is open. -/
def s1 : Stamp := { th := 2, rise := false, s16 := 51200, nf := false, sat := false, trunc := false }
def w1 : Win := { chan := 0, slice := 0, range := 0, silent := false, noRecords := false, opened := true }
def wFull : Win := { w1 with stamps := List.replicate 23 s1 }
def wH : Win := { w1 with cmps := [{}, {}, { hold := some s1 }] }
def devW (w : Win) : Dev := { devUp with jq := { flight := some fwc }, rx := { windows := [w] } }

/-- A closed group and an observation of channel 511. -/
def gr : ExGroup := { code := 0, wclass := 0, chans := 2 ^ 511, closed := true, closeAt := 2999999999872, toRead := 2 ^ 511 }
def ob1 : Obs :=
  { chan := 511, rangeG := 0, echoes := [], np := 1, unm := 0, skipper := false, extrap := false, amb := 0, hdr := 0, ring := 0,
    frame := 0 }

/-- A calibration measurement that passes its limits, and passes at three of their points. -/
def okM : CalMeas :=
  { zero := [0, 0, 0, 0], ofs := [0, 0, 0], gain := [32768, 32768, 32768], c1 := 256, c2 := 512, hits := List.replicate 32 512,
    dnl := 0, inl := 0, delay := [0, 0, 0], resid := [0, 0, 0] }
def p16 : Pass := { pos := 16, all := true, since := some 2999996346000, t0 := 0 }
def p15 : Pass := { p16 with pos := 15 }
def pgap : Pass := { pos := 3, mode := 1, chunkEnd := 3000000000000 }

/-- GDDR7 trained, of 4 GiB, with a Tapestry pool of 1,024 handles. -/
def memUp : Dev :=
  put { devUp with mem := { undef := [], rate := 28000 } }
    ([(O.MEM_STATE, 0, 2), (O.CAP_GDDR7_FOUND, 0, 2), (O.MEM_CAPACITY, 0, 0x100000000), (O.TAP_POOL_HANDLES, 0, 1024),
      (O.TAP_POOL_BASE, 0, 0x10000000)] ++ (List.range 8).map (fun i => (O.MEM_CH_STATE, i, 1)))

/-- A host write of the pool's last bytes, a raster at a stage of its scan-out, and a packet in a queue. -/
def hw (n : Nat) : Bytes := leBytes 4 1023 ++ leBytes 4 (4096 - n) ++ zeros 8 ++ (List.range n).map (BitVec.ofNat 8 ·)
def ra (s : Nat) : Raster :=
  { num := 5, cfg := [], rows := [], frame := 3, jqFrame := 4, start := 2000000000000, stage := s, scan := 2999990000000 }
def pk : Packet := { ty := 6, data := zeros 16, kind := 1 }

/-- The columns of a segment on the one receive lane in use, and eight TRAIN sets of a lane. -/
def rx1 (bs : Bytes) : List RxCol := (codeSyms false (segSyms bs.length bs)).1.map (fun g => ⟨0, [g]⟩)
def ts8 (lane : Nat) : List Nat := (codeSyms false (List.replicate 8 (trainSet lane 3 0 3 true false true)).flatten).1

/-- A SYNC_FU that has left, and the segment that answers it, without and with its CRC. -/
def tso (l : Option Nat) : TsSync := { tseq := 7, t1 := 2999999900000, frac := 5, left := l, done := false }
def dr0 : Bytes := leBytes 8 (7 * 2 ^ 60 + 2 ^ 59 + 2 ^ 58 + 16 * 2 ^ 40) ++ leBytes 2 0 ++ leBytes 2 7 ++ zeros 12
def dr : Bytes := dr0 ++ leBytes 4 (crc32 dr0)
def upS : State :=
  st { devUp with link := { syncs := [tso (some 2999999950000)], marker := some (2999999960000, 9) } } lk

/-- A GOP packet's segment with its CRC, and the device of a state as a command finds it. -/
def sg3 : Bytes := sg0 ++ leBytes 4 (crc32 sg0)
def upD (s : State) : Dev := { s.dev with sent := [] }

/-- A requester's burst list at port 3, and two bursts. -/
def wt (r b : Nat) : Waiter :=
  { port := 3, requester := r,
    bursts := (List.range b).map (fun i => { requester := r, blk := i, write := false, rmw := false, since := 0 }) }
def bu0 : Burst := { requester := 2, blk := 0, write := false, rmw := false, since := 0 }
def bu1 : Burst := { bu0 with blk := 1 }

/-- A conversion of the sequence and one of the thermal round. -/
def cv0 : Conv := { input := 47, seqEnt := some (0, 0), src := 0, start := 2999999999400 }
def cvT (s : Nat) : Conv := { input := 256 + s, seqEnt := none, src := 1, start := 2999999999400 }

/-- A part in a power mode. -/
def pm (m : PMode) : Dev := { devUp with pwr := { mode := m, fabric := true } }

/-- Boot entries: one of an operation on EM_LEVEL_SET, one that writes JQ_RUN, and a device that holds one still to run. -/
def cfm (op : Nat) : GopMsg :=
  { op := op, pend := false, md := false, req := reqTo { sess := bootSes, epoch := 0, seq := 0 } O.EM_LEVEL_SET 127 1 [5, 0] }
def cfmH : GopMsg := { cfm 2 with req := { (cfm 2).req with index := O.JQ_RUN, element := 0, data := [1] } }
def cfg (x : Bytes) : Dev := { devUp with pwr := { devUp.pwr with cfg := [x] } }

/-- Slot 0 of the flash holds an image without code and data for the stepping of the part at reset. -/
def imgHead : Bytes := leBytes 4 0x4746474A ++ leBytes 4 1 ++ zeros 16 ++ leBytes 4 0x4231 ++ zeros 32
def imgUp : Dev := { devUp with flash := (List.range 64).zip (imgHead ++ leBytes 4 (crc32 imgHead)) }

/-- An entry of the fault log. -/
def en1 : Entry := { time := 2999999999744, loc := 0, code := 0x0502, cls := 2, injected := false, detail := 0, reps := 0 }

/-! ### The bank check of a bank of two entries -/

/-- An entry above every listed byte is all zeros. -/
theorem entry_zero {d : Dev} {bank i : Nat} (hb : bank < 2) (h : ∀ p ∈ d.doms, p.1 < dkey (O.JQ_BANK_0 + bank) 0 (16 * i)) :
    d.entry bank i = 0 := by
  have hd : ∀ k, domDflt (O.JQ_BANK_0 + bank) k = 0 := by
    intro k; obtain rfl | rfl : bank = 0 ∨ bank = 1 := by omega
    all_goals rfl
  have ht : ∀ (m : Tab Byte) k, (∀ p ∈ m, p.1 < k) → tget 0 m k = 0 := by
    intro m k hm
    induction m with
    | nil => rfl
    | cons p t ih =>
      rw [tget]
      have := hm p (by simp)
      rw [if_neg (by simp; omega), ih (fun q hq => hm q (by simp [hq]))]
  have hz : ∀ n, leNat ((List.range n).map (fun _ => (0 : Byte))) = 0 := by
    intro n
    rw [List.map_const', List.length_range]
    induction n with
    | zero => rfl
    | succ n ih => simpa [List.replicate_succ, leNat] using ih
  rw [Dev.entry, Dev.domNat, Dev.domBytes]
  rw [show (List.range 16).map (fun j => d.domByte (O.JQ_BANK_0 + bank) 0 (16 * i + j)) = (List.range 16).map (fun _ => (0 : Byte)) from ?_, hz]
  refine List.map_congr_left fun j _ => ?_
  rw [Dev.domByte, hd]
  exact ht _ _ fun p hp => Nat.lt_of_lt_of_le (h p hp) (by simp only [dkey]; omega)

/-- A bank of two entries of which the second is an END passes where neither fails. -/
theorem bankCheck_two {d : Dev} {bank : Nat} (hb : bank < 2)
    (h : ∀ p ∈ d.doms, p.1 < dkey (O.JQ_BANK_0 + bank) 0 32)
    (h1 : d.entry bank 1 ≠ 0 ∧ entKind (d.entry bank 1) = 2) (h0 : d.entryFails bank 0 = false) (h1' : d.entryFails bank 1 = false)
    (hs : d.o O.JQ_START_ENTRY bank < 2) : d.bankCheck bank = none := by
  rw [Dev.bankCheck, if_neg]
  · rw [List.find?_eq_none]
    intro i _
    obtain rfl | rfl | hi : i = 0 ∨ i = 1 ∨ 2 ≤ i := by omega
    · simp [h0]
    · simp [h1']
    · have : d.entry bank i = 0 := entry_zero hb fun p hp => Nat.lt_of_lt_of_le (h p hp) (by simp only [dkey]; omega)
      have hne : ¬ i = d.o O.JQ_START_ENTRY bank := by omega
      simp [Dev.entryFails, this, hne, isShot]
  · simp only [Bool.not_eq_true', Bool.not_eq_false, List.any_eq_true]
    exact ⟨1, by simp, by simp [h1]⟩
/-! ### Well-formedness -/

/-- A request within its bounds. -/
def q0 : Req := rq 0 0 0 []

/-- Every field of a request has its bound: one past it is refused. -/
theorem test_wf_request :
    q0.bounds.all (fun p => p.1 < p.2) = true ∧
    [{ q0 with sess := 4 }, { q0 with epoch := 4 }, { q0 with seq := 64 }, { q0 with index := 65536 }, { q0 with element := 4096 },
      { q0 with count := 65536 }, { q0 with data := zeros 1033 }, { q0 with rsv := 32 }].all
        (fun q => !(Instr.read q).wf) = true := by decide +kernel

/-- Every field of a header has its bound. -/
theorem test_wf_header :
    [{ hd with sess := 4 }, { hd with epoch := 4 }, { hd with seq := 64 }].all (fun h => !(Instr.hmArm h).wf) = true := by decide +kernel

/-- Commands of which one operand lies at its bound, each check of every command once. -/
def badA : List Instr :=
  [.read { q0 with sess := 4 }, .readPend { q0 with sess := 4 }, .readMeta { q0 with sess := 4 },
   .write { q0 with sess := 4 }, .readBlock { q0 with sess := 4 }, .writeBlock { q0 with sess := 4 },
   .lock { q0 with sess := 4 }, .commit { q0 with sess := 4 }, .abortLock { q0 with sess := 4 },
   .subscribe { q0 with sess := 4 }, .gopBadOp 0 { q0 with sess := 4 }, .gopBadOp 16 q0, .sesOpen { q0 with sess := 4 },
   .canSegmentRx 2 ⟨false, 0⟩ [], .canSegmentRx 0 ⟨true, 536870912⟩ [], .canSegmentRx 0 ⟨false, 0⟩ (zeros 65),
   .canSegmentTimeout 2, .canBusOff 2, .canBusOffRecovery 2, .spiRequestFrame (zeros 1046), .spiPollFrame 1045,
   .gaernGopPacketRx [] [⟨0, [1024]⟩] [], .tagStoreExpiry 4 0, .tagStoreExpiry 0 256, .snapshotExpiry 4,
   .blockWriteTimeout 4, .notifyPeriodic 4 0 0 0, .notifyPeriodic 0 65536 0 0, .notifyPeriodic 0 0 4096 0,
   .notifyPeriodic 0 0 0 65536, .notifyChange 4 0 0 0, .notifyChange 0 65536 0 0, .notifyChange 0 0 4096 0,
   .notifyChange 0 0 0 65536, .jqRunStart { hd with epoch := 4 }, .jqStopNow { hd with epoch := 4 },
   .jqStopAfterFrame { hd with epoch := 4 }, .entryDecode 3, .wakeRequest 32, .pulseOvercurrent ⟨8, 0⟩,
   .pulseOvercurrent ⟨0, 65536⟩, .lineBar 8, .comparatorCrossing 512 0 false 0 0 false,
   .comparatorCrossing 0 3 false 0 0 false, .comparatorCrossing 0 0 false 16384 0 false,
   .comparatorCrossing 0 0 false 0 64 false, .mergeHoldExpiry 512 0, .mergeHoldExpiry 0 3,
   .jqSwapRequest { hd with epoch := 4 }, .jqSwapCancel { hd with epoch := 4 }]

def badB : List Instr :=
  [.heldSwapExecute 4, .jqPatch { hd with epoch := 4 } [], .jqPatch hd (zeros 1033), .histogramReadoutDone 512 false,
   .emBarClear { hd with epoch := 4 }, .emTestReq { hd with epoch := 4 }, .driverTsdTrip 16, .twillChainCheck [65536] [] none,
   .hmArm { hd with epoch := 4 }, .hmDisarm { hd with epoch := 4 } 0, .hmDisarm hd 256, .fwHeartbeatStroke 2,
   .hmInject { hd with epoch := 4 } 0, .hmInject hd 4294967296, .bucketLeakStep 3 [], .groupWakeDone 32 false,
   .groupWakeFail 32, .rxGroupRetry { hd with epoch := 4 } 0, .rxGroupRetry hd 32,
   .rxSkipTakeover { hd with epoch := 4 } 0 0, .rxSkipTakeover hd 32 0, .rxSkipTakeover hd 0 16,
   .rxSkipReturn { hd with epoch := 4 } 0, .rxSkipReturn hd 32, .rxRepair { hd with epoch := 4 } 0 0, .rxRepair hd 32 0,
   .rxRepair hd 0 256, .blankNFall 64, .blankNRise 64, .inputShortBias 512, .rxBiasEnable { hd with epoch := 4 } 0 0,
   .rxBiasEnable hd 8 0, .rxBiasEnable hd 0 256, .biasRampDone 8, .biasOvercurrentFault 8, .biasOvervoltageFault 8,
   .biasUndervoltageFault 8, .biasOpenWarn 8, .tdcStatStart { hd with epoch := 4 },
   .tdcStatAbandon { hd with epoch := 4 }, .interpCalStall 544, .sliceInterpFaulty 544, .ringBlockArrival 16384 ⟨false, none⟩,
   .rlReset { hd with epoch := 4 }, .rlGeometry { hd with epoch := 4 } 0, .rlGeometry hd 256,
   .dgPowerOn { hd with epoch := 4 } 0, .dgPowerOn hd 32, .dgPowerOff { hd with epoch := 4 } 0, .dgPowerOff hd 32]

def badC : List Instr :=
  [.digitiserReady 32, .digitiserFailed 32, .dgPairMode { hd with epoch := 4 } 0 0, .dgPairMode hd 16 0,
   .dgPairMode hd 0 256, .filtSwapReq { hd with epoch := 4 } 0 0, .filtSwapReq hd 32 0, .filtSwapReq hd 0 256,
   .filtFadeEnd 32, .filtSync { hd with epoch := 4 } 0, .filtSync hd 4294967296, .filtFillDone 32,
   .acqRunStart { hd with epoch := 4 }, .acqRunStop { hd with epoch := 4 }, .acqArm { hd with epoch := 4 },
   .acqDump { hd with epoch := 4 }, .acqTrigForce { hd with epoch := 4 } 0, .acqTrigForce hd 256, .calPassStart 32,
   .calSliceDone 32 okM, .calGapChunk 32 0, .calGapChunk 0 32001, .calGroupReq { hd with epoch := 4 } 0,
   .calGroupReq hd 32, .calAgeDue 32, .inputCheck 512 0 0 0 0, .inputCheck 0 65536 0 0 0, .inputCheck 0 0 65536 0 0,
   .inputCheck 0 0 0 65536 0, .inputCheck 0 0 0 0 65536, .calSave { hd with epoch := 4 },
   .calFactoryStore { hd with epoch := 4 } 0 [], .calFactoryStore hd 131072 [], .calFactoryStore hd 0 (zeros 1033),
   .calRestoreFactory { hd with epoch := 4 }, .digitiserCalibration 32 0 [] 0 0 0, .digitiserCalibration 0 0 [] 65536 0 0,
   .digitiserCalibration 0 0 [] 0 65536 0, .digitiserCalibration 0 0 [] 0 0 65536, .bridgeFaultDeclared 8,
   .bridgeFaultEnd 8, .bridgeResult 8 [], .loopSample 4 0, .coilOvercurrent 2, .coilOpen 2, .coilCompliance 2 false,
   .atlModeOff { hd with epoch := 4 } 0, .atlModeOff hd 4, .atlModeManual { hd with epoch := 4 } 0, .atlModeManual hd 4]

def badD : List Instr :=
  [.atlModeClosed { hd with epoch := 4 } 0, .atlModeClosed hd 4, .atlModeModelHold { hd with epoch := 4 } 0,
   .atlModeModelHold hd 4, .atlOffRampDone 4, .pdPublish 4 0 false, .pdPublish 0 4294967296 false,
   .pdRange { hd with epoch := 4 } 0 0, .pdRange hd 4 0, .pdRange hd 0 256, .pdStaleEnd 4, .pdSatHold 4,
   .atlTrArm { hd with epoch := 4 }, .atlTrTrigger { hd with epoch := 4 }, .atlInjStart { hd with epoch := 4 } 0,
   .atlInjStart hd 4, .atlInjStop { hd with epoch := 4 } 0, .atlInjStop hd 4, .tapHostWrite { hd with epoch := 4 } 0 [],
   .tapHostWrite hd 131072 [], .tapHostWrite hd 0 (zeros 1033), .tapFill { hd with epoch := 4 } 0 0, .tapFill hd 4096 0,
   .tapFill hd 0 18446744073709551616, .scanOutStart 4294967296, .tsMarkerTx 65536, .tsMarkerRx 65536,
   .delayReqRx [⟨0, [1024]⟩] [] [], .laneLocked 10 [] 0, .laneLocked 0 [1024] 0, .laneLocked 0 [] 16, .laneAligned 10,
   .trainExit 256 0, .trainExit 0 256, .laneLoss 10 ⟨0, []⟩, .laneLoss 0 ⟨6, []⟩, .laneLoss 0 ⟨0, [⟨0, [1024]⟩]⟩, .hostLossAnnouncement 256 0,
   .hostLossAnnouncement 0 256, .linkRetrain { hd with epoch := 4 }, .linkEnable { hd with epoch := 4 },
   .linkDisable { hd with epoch := 4 }, .prbsGen { hd with epoch := 4 } 0 0, .prbsGen hd 8 0, .prbsGen hd 0 256,
   .prbsChk { hd with epoch := 4 } 0 0, .prbsChk hd 10 0, .prbsChk hd 0 256, .prbsSyncGain 10, .prbsSyncLoss 10 0,
   .prbsSyncLoss 0 1025]

def badE : List Instr :=
  [.injGoStart { hd with epoch := 4 } 0, .injGoStart hd 8, .injGoStop { hd with epoch := 4 } 0, .injGoStop hd 8,
   .injPeriodic 8, .memRetrain { hd with epoch := 4 }, .memTracking 8 0 false, .memRefresh 8 0, .memRefresh 0 16,
   .memReadEdcError 16 0 0, .memReadEdcError 0 8589934592 0, .memReadEdcError 0 0 5, .memWriteEdcError 16 0 0,
   .memWriteEdcError 0 8589934592 0, .memWriteEdcError 0 0 5, .memCaError 16 0 0 false, .memCaError 0 8589934592 0 false,
   .memCaError 0 0 5 false, .arbHandover 4 [], .requestPromotion 4 0, .requestPromotion 0 16,
   .memPeek { hd with epoch := 4 } 0, .memPeek hd 131072, .hkConversionDone 2 0, .thermalRound 16,
   .hkNow { hd with epoch := 4 } 0 0 [], .hkNow hd 4096 0 [], .hkNow hd 0 65536 [], .hkRunStop { hd with epoch := 4 },
   .hkRunStart { hd with epoch := 4 }, .thermalShutdownTrip 16, .rstReq { hd with epoch := 4 }, .supervisorReset 3 0,
   .supervisorReset 0 4, .fwSlotChecked 2, .powerDomainRampDone 96, .powerDomainFault 96, .pwrPark { hd with epoch := 4 },
   .gpioWake 4 false, .fwSlotErase { hd with epoch := 4 } 0, .fwSlotErase hd 2, .fwEraseDone 2,
   .fwSlotImage { hd with epoch := 4 } 0 0 [], .fwSlotImage hd 2 0 [], .fwSlotImage hd 0 131072 [],
   .fwSlotImage hd 0 0 (zeros 1033), .fltAck { hd with epoch := 4 } 0, .fltAck hd 4294967296,
   .fltClear { hd with epoch := 4 }, .feedbackMissing 4]

def badF : List Instr :=
  [.biasCurrentLimit 8 false, .memCaRetrainDone 8 false]

/-- Every one is refused. -/
theorem test_wf_operands : (badA ++ badB ++ badC ++ badD ++ badE ++ badF).all (fun c => !c.wf) = true := by decide +kernel

/-! ### Values that the spec writes out -/

/-- Entry 1,201 of the highway pattern (spec/03, worked examples). -/
def e1201 : Nat := 0xD698_0000_0000_67FF_FACA_1002_5800_0000

/-- Its fields (spec/03, "a 25 Hz highway pattern"). -/
theorem test_entry_fields :
    (entX e1201 = -10600 ∧ entAn e1201 = 12 ∧ entKd e1201 = 0xFFFF ∧ entLevel e1201 = 5) ∧
    (entCode e1201 = 9 ∧ entWclass e1201 = 2 ∧ entGain e1201 = 1 ∧ entColumn e1201 = 300) := by decide +kernel

/-- The default code 9: its three pulses and their sum (spec/04, Table 04-5; spec/05, worked example). -/
theorem test_code_nine :
    dflt O.EM_CODE 9 = 0x2A1380C632 ∧ codePulses 0x2A1380C632 = [(0, 12), (78, 12), (168, 12)] ∧ codeSum 0x2A1380C632 = 36 := by
  decide +kernel

/-- Two Twill modules bound to lines 2 and 3, with the lines' levels at 700. -/
def dTw : Dev :=
  put devUp [(O.TW_MODULES, 0, 2), (O.TW_MOD_BIND, 0, 2), (O.TW_MOD_BIND, 1, 6), (O.TW_MOD_USER, 0, 0x11), (O.TW_MOD_USER, 1, 0x12),
    (O.EM_LEVEL_SET, 0x2A, 700), (O.EM_LEVEL_SET, 0x2B, 700), (O.TW_ENABLE, 0, 1)]

/-- The words of the Twill string of entry 1,201 (spec/04, worked example). -/
theorem test_twill_words : twWords (dTw.sharesOf (entAn e1201) (entLevel e1201)) 3 = [0xD7801131, 0x00001230, 0xC396A53C] := by
  decide +kernel

/-- Location codes (spec/01 and spec/18, worked examples; Table 05-5). -/
theorem test_location_codes : locCode 0 4 1 63 1 1 = 0x080FE041 ∧ locCode 1 10 9 1 127 3 = 0x54483FC3 := by decide +kernel

/-- A bucket charge at level 700 and at level 900 (spec/05, worked example). -/
theorem test_charges :
    ((put devUp [(O.EM_LEVEL_SET, 0, 700), (O.EM_LEVEL_SET, 1, 700)]).charges 1 0xFFFF 0 36).head? = some (0, 1575) ∧
    ((put devUp [(O.EM_LEVEL_SET, 0, 900), (O.EM_LEVEL_SET, 1, 900)]).charges 1 0xFFFF 0 36).head? = some (0, 2025) := by
  decide +kernel

/-- Slice 0x0D5 with its calibration codes, skews and Q table as the example gives them (spec/07, worked example). -/
def dT : Dev :=
  { put devUp [(O.TDC_C1, 0xD5, 267), (O.TDC_C2, 0xD5, 521), (O.TDC_SKEW_A, 0xD5, 1336), (O.TDC_SKEW_CH, 213, ofS 16 (-40)),
               (O.TDC_T0_OFFSET, 0, 4608)] with
    tdc := { q := [(0xD5 * 32 + 11, 3), (0xD5 * 32 + 18, -2)] } }

/-- The rising stamp of that pulse. -/
def sR : Stamp := { th := 0, rise := true, s16 := 563010, nf := false, sat := false, trunc := false }

/-- Both stamps in 1/16 LSB, the stamp words, the corrected time and the range (spec/07, worked example). -/
theorem test_guard_rail :
    dT.s16Of 0xD5 1099 45 = 563010 ∧ dT.s16Of 0xD5 1111 52 = 569046 ∧ stampWord sR 0 = 0x04008974 ∧
    stampWord { sR with rise := false, s16 := 569046 } 3 = 0x00608AED ∧ dT.t16 309 0xD5 213 sR = 556797 ∧
    dT.rangeMm 556797 = 54337 := by decide +kernel

/-- The truck of the foveal band: its range and its record word (spec/08, worked example). -/
def truck : Echo :=
  { range := 181970, inten := 254, v := 0, m := 3, cls := 0, sat := false, walk := false, lowsnr := false, digi := false }
theorem test_truck_record :
    devUp.rangeMm 1864658 = 181970 ∧
    recordWord { ob1 with chan := 81, rangeG := 2, echoes := [truck], np := 3 } truck 0 0 47 7 = 0x2C6D20FE2882F807 := by decide +kernel

/-- An echo by range, intensity and matches; the observation of column 700 of channel 150; an entry of its ring by age, OSEQ, the
echoes as range, persistence and class, and UNM; and the eight entries (spec/09, worked example). -/
def eo (r i m : Nat) : Echo := { truck with range := r, inten := i, m := m }
def oo : Obs :=
  { ob1 with chan := 150, rangeG := 1, echoes := [eo 6100 96 3, eo 31200 150 2, eo 64000 1400 3], np := 3, unm := 2, amb := 5,
             ring := 358550, frame := 0x93 }
def rEnt (age oseq : Nat) (es : List (Nat × Nat × Nat)) (unm : Nat) : Nat :=
  let f := fun (j : Nat) =>
    match es[j]? with
    | some (r, p, c) => (r / 4) <<< (94 - 18 * j) + p <<< (37 - 3 * j) + c <<< (28 - 3 * j)
    | none => 0
  let w := (0x93 - age) <<< 112 + f 0 + f 1 + f 2 + es.length <<< 20 + unm <<< 12 + oseq <<< 120
  w + ringChk 3 w
def ring8 : List Nat :=
  [rEnt 6 0x48 [] 0, rEnt 5 0x49 [(7500, 0, 0), (63800, 3, 0)] 0, rEnt 4 0x4A [(9800, 0, 0), (63840, 4, 0)] 0, rEnt 3 0x4B [] 0,
   rEnt 2 0x4C [(63920, 5, 0)] 3, rEnt 1 0x4D [(4200, 1, 1), (63960, 5, 0)] 0, rEnt 8 0x46 [(63680, 1, 0)] 0,
   rEnt 7 0x47 [(63720, 2, 0)] 2]
def dR : Dev := put devUp [(O.RL_GEN, 0, 3), (O.RL_FRAME, 0, 0x93)]

/-- The classes, the persistence and the confidence of its three echoes (spec/09, the table of the worked example). -/
theorem test_classification :
    (oo.echoes.map (fun x =>
      let r := dR.classify1 oo (dR.candidates oo ring8) x
      (r.1, r.2.2, confOf r.2.1 8))) = [(1, 0, 28), (2, 0, 21), (0, 6, 49)] := by decide +kernel

/-- The entry that Ringlet writes, its address and the map word (spec/09, worked example). -/
theorem test_ring_entry :
    dR.sealEntry (entryWord oo [(1, 0), (2, 0), (0, 6)]) 0x4E = 0x4E93017D41E780FA001095031435215D ∧
    dR.mapWord oo [(1, 0), (2, 0), (0, 6)] = 0x1B59 ∧ ringAddr 358550 = ringBase + 0x02BC4B00 := by decide +kernel

/-- Where that entry lies in GDDR7 with two devices (spec/15, worked example). -/
theorem test_memory_map :
    let d := put devUp [(O.CAP_GDDR7_FOUND, 0, 2)]
    (d.chanOf 0x04BC4B60, d.bankOf 0x04BC4B60, d.rowAt 0x04BC4B60) = (3, 12, 303) := by decide +kernel

/-- The check value of CRC-32 (spec/14, R702). -/
theorem test_crc32 : crc32 ("123456789".toList.map (fun c => BitVec.ofNat 8 c.toNat)) = 0xCBF43926 := by decide +kernel

/-! ### One command on a small state -/

/-- A WRITE of a NOW object lands at once and is answered (R79, R87). -/
theorem test_write_lands :
    (after (.write (rq O.LOCK_LEASE_MS 0 1 (leBytes 2 750))) (up [])).dev.o O.LOCK_LEASE_MS 0 = 750 := by decide +kernel

/-- One below the least value is refused, and nothing lands (R74). -/
theorem test_write_range :
    (after (.write (rq O.LOCK_LEASE_MS 0 1 (leBytes 2 49))) (up [])).dev.o O.LOCK_LEASE_MS 0 = 500 := by decide +kernel

/-- EMIT_EN low disarms Hawkmoth (R277). -/
theorem test_emit_en_low : (after .emitEnLow (st devGood [(O.HM_STATE, 0, 2)])).dev.o O.HM_STATE 0 = 0 := by decide +kernel

/-- A fire commit in ARMED lets the shot through, in DISARMED it does not (R37, R281). -/
theorem test_fire_commit :
    ((after (.fireCommit []) (armed ftr 2)).dev.jq.flight.map (·.fires)) = some true ∧
    ((after (.fireCommit []) (armed ftr 0)).dev.jq.flight.map (·.fires)) ≠ some true := by decide +kernel

/-- An emission drives KD_0 with the one pulse of the default code 0 (R236). -/
theorem test_emission : (after (.emission em0) (after (.fireCommit []) (armed fl1 2))).dev.sent = [.pulses [(0, 0)] [(0, 12)]] := by
  decide +kernel

/-- With all of its lines barred it emits nothing, and its windows run: SUPPRESSED with HAWKMOTH (R40, R219, R261). -/
theorem test_emission_barred :
    ((after (.emission em0) (st (devFl { fem with an := 0 }) [(O.JQ_STATE,0,2), (O.HM_STATE,0,2)])).dev.jq.flight.map
      (fun f => (f.supp, f.wins))) = some (some 2, true) := by decide +kernel

/-- A group that wakes from STANDBY is ACTIVE after 200 ns; one from OFF whose check does not pass goes on waking (R321). -/
theorem test_group_wake :
    (after (.groupWakeDone 31 true)
        (st { devUp with rx := { wakeFrom := [(31, 2)], wakeAt := [(31, 2999999999700)] } } [(O.RX_GROUP_STATE, 31, 1)])).dev.o
      O.RX_GROUP_STATE 31 = 3 ∧
    (after (.groupWakeDone 31 false)
        (st { devUp with rx := { wakeAt := [(31, 2999999940000)] } } [(O.RX_GROUP_STATE, 31, 1)])).dev.o O.RX_GROUP_STATE 31 = 1 := by
  decide +kernel

/-- A bias output over its current turns off with FAULT_OC (Table 06-5). -/
theorem test_bias_oc : (after (.biasOvercurrentFault 3) (up [(O.RX_BIAS_STATUS, 3, 3)])).dev.o O.RX_BIAS_STATUS 3 = 4 := by decide +kernel

/-- A coil over its current turns its slot off (R632). -/
theorem test_coil_oc :
    let t := after (.coilOvercurrent 0) (up [(O.ATL_STATE, 3, 2), (O.ATL_OUT, 3, 1), (O.ATL_COIL_STATUS, 0, 1)])
    (t.dev.o O.ATL_STATE 3, t.dev.o O.ATL_COIL_STATUS 0) = (0, 2) := by decide +kernel

/-- A coil that does not reach its command reports COMPLIANCE, and OK when it does (R633). -/
theorem test_coil_compliance :
    let s := up [(O.ATL_STATE, 3, 2), (O.ATL_OUT, 3, 1), (O.ATL_COIL_STATUS, 0, 1)]
    (after (.coilCompliance 0 false) s).dev.o O.ATL_COIL_STATUS 0 = 4 ∧
      (after (.coilCompliance 0 true) (after (.coilCompliance 0 false) s)).dev.o O.ATL_COIL_STATUS 0 = 1 := by decide +kernel

/-- A lane of the high-speed receive direction that locks shows the setting it came to (R689). -/
theorem test_lane_locked :
    let t := after (.laneLocked 9 (ts8 1) 3) (up [(O.LINK_STATE, 0, 1), (O.LINK_HRX_MASK, 0, 3), (O.LANE_CTLE, 9, 0xFF)])
    t.dev.o O.LANE_CTLE_NOW 9 = 3 ∧ t.dev.o O.LANE_STATE 9 = 2 := by decide +kernel

/-- A power-on reset starts device time at 0 (R54, R871). -/
theorem test_power_on : (after .powerOnReset (up [])).clock.time = 0 := by decide +kernel

/-! ### States and operands that meet the hypotheses of the statements -/

theorem meets_EmitEnableCutsTheDrive :
∃ (s : State), s.Quiet :=
⟨(up []), by unfold State.Quiet State.Still; decide +kernel⟩

theorem meets_OutputsAndDriversAreProtected :
(∃ (s : State) (n : Nat), s.Quiet ∧ 12 ≤ n ∧ n < 16 ∧ s.dev.o O.EM_TSD_ACTIVE = 0) ∧
(∃ (s : State), s.Quiet ∧ s.dev.o O.EM_TSD_ACTIVE = 1) ∧
(∃ (s : State) (mv : Int), s.Quiet ∧ (mv < 10000 ∨ 48000 < mv)) ∧
(∃ (s : State) (mv : Int), s.Quiet ∧ 10000 ≤ mv ∧ mv ≤ 48000) ∧
(∃ (s : State) (line peak : Nat) (f : Flight), s.Quiet ∧ line < 8 ∧ s.dev.jq.flight = some f ∧ f.emitted = true ∧ f.wins = true
      ∧ f.supp = none ∧ bit f.an line = true ∧ bit s.dev.em.tripped line = false ∧ (5 * (s.dev.em.setp[line]?).getD 0 < 4 * peak
      ∨ 1100 < peak)) ∧
(∃ (s : State) (line : Nat), s.Quiet ∧ line < 8 ∧ (s.dev.overDue line = true ∨ s.dev.underDue line = true)) :=
  ⟨⟨(up []), 12, by unfold State.Quiet State.Still; decide +kernel⟩,
⟨(up [(O.EM_TSD_ACTIVE,0,1)]), by unfold State.Quiet State.Still; decide +kernel⟩,
⟨(up []), 60000, by unfold State.Quiet State.Still; decide +kernel⟩,
⟨(up []), 48000, by unfold State.Quiet State.Still; decide +kernel⟩,
⟨(st {devUp with jq := {flight := some {fl1 with emitted := true, wins := true}}} [(O.JQ_STATE,0,2)]), 0, 1101,
      {fl1 with emitted := true, wins := true}, by unfold State.Quiet State.Still; decide +kernel⟩,
⟨(st {devUp with em := {unders := [(7,3)]}} []), 7, by unfold State.Quiet State.Still; decide +kernel⟩⟩

theorem meets_TestPasses :
(∃ (s : State), s.Quiet ∧ s.dev.em.pass = none ∧ Dev.passWanted s.env { s.dev with sent := [] } = true ∧ Dev.passRoom s.env
      { s.dev with sent := [] } = true) ∧
(∃ (s : State) (t0 : Nat), s.Quiet ∧ s.dev.em.pass = some t0 ∧ t0 + 60000 ≤ s.clock.time) ∧
(∃ (s : State), s.Quiet ∧ s.dev.o O.JQ_STATE ≠ 0 ∧ max s.dev.em.starveAt (s.dev.em.passDone.getD 0) + 1500000000 ≤ s.clock.time) ∧
(∃ (s : State) (t0 r i : Nat), s.Quiet ∧ s.dev.em.pass = some t0 ∧ t0 + 60000 ≤ s.clock.time ∧ (r = 1 ∨ r = 2) ∧ i < 16) ∧
(∃ (s : State) (t0 r i : Nat), s.Quiet ∧ s.dev.em.pass = some t0 ∧ t0 + 60000 ≤ s.clock.time ∧ (r = 5 ∨ r = 6) ∧ i < 8) :=
  ⟨⟨(up []), by unfold State.Quiet State.Still; decide +kernel⟩,
⟨(st {devUp with em := {pass := some 2999999940000}} []), 2999999940000, by unfold State.Quiet State.Still; decide +kernel⟩,
⟨(up [(O.JQ_STATE,0,2)]), by unfold State.Quiet State.Still; decide +kernel⟩,
⟨(st {devUp with em := {pass := some 2999999940000}} []), 2999999940000, 1, 15,
      by unfold State.Quiet State.Still; decide +kernel⟩,
⟨(st {devUp with em := {pass := some 2999999940000}} []), 2999999940000, 5, 7,
      by unfold State.Quiet State.Still; decide +kernel⟩⟩

theorem meets_TwillChain :
(∃ (s : State) (sh : Shot) (rest : List Shot), s.Quiet ∧ s.dev.jq.queue = sh :: rest ∧ sh.move = false ∧ sh.thinned = false ∧
      s.dev.em.wire = none ∧ s.dev.twNeeds sh = true ∧ s.dev.jq.flight = none ∧ s.dev.em.lastEmit + 192 ≤ 2 * s.clock.time + 1) ∧
(∃ (s : State) (w : TwWire), s.Quiet ∧ s.dev.em.wire = some w ∧ w.latchAt ≤ 2 * s.clock.time + 1) ∧
(∃ (s : State), s.Quiet ∧ 3 ≤ s.dev.em.twFails ∧ s.dev.o O.TW_ENABLE = 1) :=
  ⟨⟨(st {devUp with jq := {queue := [shot1]}, em := {resend := true}} [(O.TW_ENABLE,0,1),(O.JQ_STATE,0,2)]), shot1, [],
      by unfold State.Quiet State.Still; decide +kernel⟩,
⟨(st {devUp with em := {wire := some {words := [1,2], shares := [3], latchAt := 6000000000001}}} [(O.TW_ENABLE,0,1)]),
      {words := [1,2], shares := [3], latchAt := 6000000000001}, by unfold State.Quiet State.Still; decide +kernel⟩,
⟨(st {devUp with em := {twFails := 3}} [(O.TW_ENABLE,0,1)]), by unfold State.Quiet State.Still; decide +kernel⟩⟩

theorem meets_ArmingAndSupervision :
(∃ (s : State) (h : Hdr), s.Quiet ∧ Accepts s h O.HM_ARM 0 1 ∧ s.dev.o O.HM_STATE = 0) ∧
(∃ (s : State) (h : Hdr) (v : Nat), s.Quiet ∧ Accepts s h O.HM_DISARM 0 v ∧ s.dev.o O.HM_STATE ≠ 0) ∧
(∃ (s : State), s.Quiet ∧ s.dev.o O.HM_STATE = 1 ∧ s.dev.hmLatching s.env = []) ∧
(∃ (s : State) (c : Nat) (inj : Bool) (l : List (Nat × Bool)), s.Quiet ∧ s.dev.o O.HM_STATE = 1 ∧ s.dev.hmLatching s.env = (c,
      inj) :: l) ∧
(∃ (s : State), s.Quiet ∧ s.dev.o O.HM_STATE = 1) ∧
(∃ (s : State) (v : Nat), s.Quiet ∧ v < 2 ∧ v ≠ s.dev.hm.fwVal) ∧
(∃ (s : State), s.Quiet ∧ s.dev.hm.fwAlive = true ∧ s.dev.hm.fwAt + 1500 * s.dev.o O.HM_HB_TIMEOUT_US ≤ s.clock.time) ∧
(∃ (s : State), s.Quiet ∧ s.dev.o O.HM_HOST_HB_SESSION ≠ 0xFF ∧ s.dev.hm.hostAlive = true ∧ s.dev.hm.hostAt + 1500000 * s.dev.o
      O.HM_HOST_HB_TIMEOUT_MS ≤ s.clock.time) ∧
(∃ (s : State), s.Quiet) ∧
(∃ (s : State), s.Quiet ∧ s.dev.hm.compareAt + 1500000 ≤ s.clock.time) :=
  ⟨⟨(st devGood []), hd, by unfold Accepts Served State.Quiet State.Still; decide +kernel⟩,
⟨(st devGood [(O.HM_STATE,0,2)]), hd, 7, by unfold Accepts Served State.Quiet State.Still; decide +kernel⟩,
⟨(st devGood [(O.HM_STATE,0,1)]), by unfold State.Quiet State.Still; decide +kernel⟩,
⟨(st devUp [(O.HM_STATE,0,1)]), 2, false, [(5, false)], by unfold State.Quiet State.Still; decide +kernel⟩,
⟨(st devGood [(O.HM_STATE,0,1)]), by unfold State.Quiet State.Still; decide +kernel⟩,
⟨(st devGood [(O.HM_STATE,0,2)]), 1, by unfold State.Quiet State.Still; decide +kernel⟩,
⟨(st devGood [(O.HM_STATE,0,2)]), by unfold State.Quiet State.Still; decide +kernel⟩,
⟨(st devGood [(O.HM_STATE,0,2), (O.HM_HOST_HB_SESSION,0,2)]), by unfold State.Quiet State.Still; decide +kernel⟩,
⟨(st devGood [(O.HM_STATE,0,2)]), by unfold State.Quiet State.Still; decide +kernel⟩,
⟨(st devGood [(O.HM_STATE,0,2)]), by unfold State.Quiet State.Still; decide +kernel⟩⟩

theorem meets_LeakStepsKeepTheLevel :
∃ (s : State) (k : Nat), s.Quiet ∧ k < 3 ∧ twf 0 s.dev.hm.levels = true :=
⟨(st {devGood with hm := {devGood.hm with levels := [(0,100000000),(2*256+3,70000)], steps := [(0, 300000000)]}} []), 0,
    by unfold State.Quiet State.Still; decide +kernel⟩

theorem meets_DriveRequests :
(∃ (s : State) (h : Hdr) (v : Nat), s.Quiet ∧ Accepts s h O.HM_INJECT 0 v) ∧
(∃ (s : State) (h : Hdr), s.Quiet ∧ Accepts s h O.EM_BAR_CLEAR 0 1) ∧
(∃ (s : State) (h : Hdr), s.Quiet ∧ Accepts s h O.EM_TEST_REQ 0 1) :=
  ⟨⟨(st devGood []), hd, 63, by unfold Accepts Served State.Quiet State.Still; decide +kernel⟩,
⟨(st devGood []), hd, by unfold Accepts Served State.Quiet State.Still; decide +kernel⟩,
⟨(st devGood []), hd, by unfold Accepts Served State.Quiet State.Still; decide +kernel⟩⟩

theorem meets_ReadsAnswerTheirValues :
(∃ (s : State) (q : Req) (r : ObjRow), s.Quiet ∧ Served s (reqHdr q) q.index ∧ rowOf? q.index = some r ∧ Dev.runCheck s.env
      (s.atRequest q.sess) r q.element q.count = none ∧ r.acc ≠ .wo ∧ q.index ≠ O.HK_NOW ∧ q.index ≠ O.RX_BIAS_I_MEAS) ∧
(∃ (s : State) (q : Req) (r : ObjRow), s.Quiet ∧ Served s (reqHdr q) q.index ∧ rowOf? q.index = some r ∧ Dev.runCheck s.env
      (s.atRequest q.sess) r q.element q.count = none ∧ r.acc ≠ .wo ∧ q.count = 1 ∧ r.ty ≠ .bits32 ∧ r.ty ≠ .str) ∧
(∃ (s : State) (q : Req) (r : ObjRow) (x : Nat), s.Quiet ∧ Served s (reqHdr q) q.index ∧ rowOf? q.index = some r ∧ Dev.runCheck
      s.env (s.atRequest q.sess) r q.element q.count = none ∧ r.acc = .rc ∧ q.index ∉ [O.HM_BUCKET_PEAK, O.LINK_TX_DISCARD,
      O.LINK_NOTIFY_DROPPED] ∧ q.element ≤ x ∧ x < q.element + q.count) :=
  ⟨⟨(up []), (rq O.EM_LEVEL_SET 126 2 []), (r1 O.EM_LEVEL_SET), by unfold Served State.Quiet State.Still; decide +kernel⟩,
⟨(up []), (rq O.EM_LEVEL_SET 126 1 []), (r1 O.EM_LEVEL_SET), by unfold Served State.Quiet State.Still; decide +kernel⟩,
⟨(up [(O.EM_AN_OVER,7,9)]), (rq O.EM_AN_OVER 0 8 []), (r1 O.EM_AN_OVER), 7,
      by unfold Served State.Quiet State.Still; decide +kernel⟩⟩

theorem meets_WritesLandOrWait :
(∃ (s : State) (h : Hdr) (el v idx : Nat) (r : ObjRow), s.Quiet ∧ rowOf? idx = some r ∧ (r.cls = .shot ∨ r.cls = .line ∨ r.cls =
      .frame) ∧ (r.acc = .rw ∨ r.acc = .wo) ∧ r.ty ≠ .dom ∧ idx ≠ O.JQ_SWAP_REQ ∧ el < 4096 ∧ s.dev.o O.JQ_STATE ≠ 0 ∧ Accepts s
      h idx el v) ∧
(∃ (s : State) (h : Hdr) (el v : Nat), s.Quiet ∧ el < 128 ∧ s.dev.o O.JQ_STATE = 0 ∧ Accepts s h O.EM_LEVEL_SET el v) :=
  ⟨⟨(up [(O.JQ_STATE,0,2)]), hd, 127, 100, O.EM_LEVEL_SET, (r1 O.EM_LEVEL_SET),
      by unfold Accepts Served State.Quiet State.Still; decide +kernel⟩,
⟨(up []), hd, 127, 100, by unfold Accepts Served State.Quiet State.Still; decide +kernel⟩⟩

theorem meets_BlocksAreReadAndWritten :
(∃ (s : State) (q : Req), s.Quiet ∧ Served s (reqHdr q) q.index ∧ q.index = O.FLT_LOG ∧ q.element = 0 ∧ q.count = 0) ∧
(∃ (s : State) (q : Req) (x : Snap) (r : ObjRow), s.Quiet ∧ Served s (reqHdr q) q.index ∧ Dev.domRow s.env (s.atRequest q.sess)
      q.index q.element = .inr r ∧ r.acc ≠ .wo ∧ q.count ≠ 0 ∧ (s.dev.sess q.sess).snap = some x ∧ s.clock.time < x.last +
      15000000 ∧ x.index = q.index ∧ x.element = q.element ∧ q.count ≤ (x.data.length - 1) / 512) ∧
(∃ (s : State) (h : Hdr) (bs : Bytes), s.Quiet ∧ Served s h O.EM_ZONE_MAP ∧ s.dev.o O.LOCK_OWNER = 0xFF ∧ s.dev.commit = none ∧
      s.dev.o O.JQ_STATE = 0 ∧ bs.length = 128 ∧ (∀ v, v < 128 → BitVec.ofNat 8 v ∈ bs)) :=
  ⟨⟨(up []), (rq O.FLT_LOG 0 0 []), by unfold Served State.Quiet State.Still; decide +kernel⟩,
⟨(st
      {devUp with ses := [{snap := some {index := O.FLT_LOG, element := 0, data := zeros 600, stamp := 5, last := 2999999999999}}, {},{},{},{}]}
      []), (rq O.FLT_LOG 0 1 []), {index := O.FLT_LOG, element := 0, data := zeros 600, stamp := 5, last := 2999999999999}, (r1
      O.FLT_LOG), by unfold Served State.Quiet State.Still; decide +kernel⟩,
⟨(up []), hd, ((List.range 128).map (fun i => BitVec.ofNat 8 (127 - i))),
      by unfold Served State.Quiet State.Still; decide +kernel⟩⟩

theorem meets_LocksCommitsAndLeases :
(∃ (s : State) (q : Req), s.Quiet ∧ Served s (reqHdr q) q.index ∧ s.dev.o O.LOCK_OWNER = 0xFF ∧ s.dev.commit = none) ∧
(∃ (s : State) (q : Req), s.Quiet ∧ Served s (reqHdr q) q.index ∧ s.dev.o O.LOCK_OWNER = q.sess) ∧
(∃ (s : State) (q : Req), s.Quiet ∧ Served s (reqHdr q) q.index ∧ s.dev.o O.LOCK_OWNER = q.sess ∧ s.dev.o O.JQ_STATE ≠ 0 ∧
      s.dev.lock.staged.cls ≠ .now ∧ (s.dev.lock.staged.vals.all (fun p => !s.dev.stagedRuns p.1) && s.dev.lock.staged.doms.all
      (fun p => !s.dev.stagedRuns p.1)) = true) ∧
(∃ (s : State) (q : Req) (el v : Nat), s.Quiet ∧ Served s (reqHdr q) q.index ∧ s.dev.o O.LOCK_OWNER = q.sess ∧ s.dev.o
      O.JQ_STATE = 0 ∧ el < 128 ∧ s.dev.lock.staged = { vals := [(okey O.EM_LEVEL_SET el, some v)] }) ∧
(∃ (s : State), s.Quiet ∧ s.dev.ses.length = 5 ∧ s.dev.o O.LOCK_OWNER ≠ 0xFF ∧ s.dev.lock.deadline ≤ s.clock.time) ∧
(∃ (s : State) (n : Nat), s.Quiet ∧ s.dev.ses.length = 5 ∧ n < 5) ∧
(∃ (s : State) (n : Nat) (x : Snap), s.Quiet ∧ s.dev.ses.length = 5 ∧ n < 5 ∧ (s.dev.sess n).snap = some x ∧ x.last + 15000000 ≤
      s.clock.time) ∧
(∃ (s : State) (n : Nat) (w : BlockWrite), s.Quiet ∧ s.dev.ses.length = 5 ∧ n < 5 ∧ (s.dev.sess n).bw = some w ∧ w.last +
      15000000 ≤ s.clock.time) :=
  ⟨⟨(up []), (rq 0 0 0 []), by unfold Served State.Quiet State.Still; decide +kernel⟩,
⟨(up [(O.LOCK_OWNER,0,0)]), (rq 0 0 0 []), by unfold Served State.Quiet State.Still; decide +kernel⟩,
⟨(st {devUp with lock := {staged := {vals := [(okey O.EM_LEVEL_SET 5, some 7)]}}} [(O.LOCK_OWNER,0,0),(O.JQ_STATE,0,2)]), (rq 0
      0 0 []), by unfold Served State.Quiet State.Still; decide +kernel⟩,
⟨(st {devUp with lock := {staged := {vals := [(okey O.EM_LEVEL_SET 127, some 7)]}}} [(O.LOCK_OWNER,0,0)]), (rq 0 0 0 []), 127,
      7, by unfold Served State.Quiet State.Still; decide +kernel⟩,
⟨(st {devUp with lock := {staged := {vals := [(okey O.EM_LEVEL_SET 127, some 7)]}, deadline := 3000000000000}}
      [(O.LOCK_OWNER,0,0)]), by unfold State.Quiet State.Still; decide +kernel⟩,
⟨(st
      {devUp with ses := [{stored := [{msg := writeMsg hd 0 0 0, resp := [], time := 2849999999999}, {msg := writeMsg hd 0 0 0, resp := [], time := 2999999999999}]}, {},{},{},{}]}
      []), 0, by unfold State.Quiet State.Still; decide +kernel⟩,
⟨(st
      {devUp with ses := [{},{},{},{},{snap := some {index := O.FLT_LOG, element := 0, data := [], stamp := 5, last := 2999985000000}}]}
      []), 4, {index := O.FLT_LOG, element := 0, data := [], stamp := 5, last := 2999985000000},
      by unfold State.Quiet State.Still; decide +kernel⟩,
⟨(st
      {devUp with ses := [{},{},{},{},{bw := some {index := O.EM_ZONE_MAP, element := 0, total := 128, next := 1, data := [], last := 2999985000000}}]}
      []), 4, {index := O.EM_ZONE_MAP, element := 0, total := 128, next := 1, data := [], last := 2999985000000},
      by unfold State.Quiet State.Still; decide +kernel⟩⟩

theorem meets_SessionsAndNotifications :
(∃ (s : State) (q : Req) (r : ObjRow) (m p : Nat), s.Quiet ∧ Served s (reqHdr q) q.index ∧ rowOf? q.index = some r ∧
      Dev.runCheck s.env (s.atRequest q.sess) r q.element q.count = none ∧ r.acc ≠ .wo ∧ m ∈ [1, 2, 3] ∧ 1 ≤ p ∧ p ≤ 60000 ∧
      q.data = leBytes 1 m ++ leBytes 1 0 ++ leBytes 2 p ∧ (s.dev.subs.filter (fun x => x.sess == q.sess)).length < 64) ∧
(∃ (s : State) (q : Req), s.Quiet ∧ q.sess < 4 ∧ s.dev.ses.length = 5 ∧ s.dev.serves q.sess = true ∧ s.dev.serviceAbort q.sess
      O.SES_OPEN = none ∧ (s.dev.sess q.sess).held = none ∧ (s.dev.sess q.sess).queue = [] ∧ q.element = q.sess ∧ q.count = 1 ∧
      q.data.length = 1) ∧
(∃ (s : State) (q : Req) (op : Nat), s.Quiet ∧ op % 16 ∉ [1, 2, 3, 4, 5, 6, 7, 8] ∧ Served s (reqHdr q) q.index) ∧
(∃ (s : State) (x : Sub) (r : ObjRow), s.Quiet ∧ s.dev.ses.length = 5 ∧ x.sess < 4 ∧ s.dev.serves x.sess = true ∧ s.dev.subs =
      [x] ∧ rowOf? x.index = some r ∧ Dev.presAbort s.env s.dev x.index x.element x.count = none ∧ x.index ≠ O.HK_NOW ∧ x.index
      ≠ O.RX_BIAS_I_MEAS ∧ 2 ≤ x.mode ∧ x.due ≤ s.clock.time) ∧
(∃ (s : State) (x : Sub) (r : ObjRow), s.Quiet ∧ s.dev.ses.length = 5 ∧ x.sess < 4 ∧ s.dev.serves x.sess = true ∧ s.dev.subs =
      [x] ∧ rowOf? x.index = some r ∧ Dev.presAbort s.env s.dev x.index x.element x.count = none ∧ x.index ≠ O.HK_NOW ∧ x.index
      ≠ O.RX_BIAS_I_MEAS ∧ x.mode % 2 = 1 ∧ x.dirty = true ∧ (∀ t0, x.last = some t0 → t0 + 1500000 ≤ s.clock.time)) :=
  ⟨⟨(up []), (rq O.EM_LEVEL_SET 126 2 (leBytes 1 3 ++ leBytes 1 0 ++ leBytes 2 60000)), (r1 O.EM_LEVEL_SET), 3, 60000,
      by unfold Served State.Quiet State.Still; decide +kernel⟩,
⟨(up [(O.LOCK_OWNER,0,0)]), (rq O.SES_OPEN 0 1 [1]), by unfold State.Quiet State.Still; decide +kernel⟩,
⟨(up []), (rq 0 0 0 []), 9, by unfold Served State.Quiet State.Still; decide +kernel⟩,
⟨(st {devUp with subs := [sb]} []), sb, (r1 O.EM_LEVEL_SET), by unfold State.Quiet State.Still; decide +kernel⟩,
⟨(st {devUp with subs := [{sb with last := none}]} []), {sb with last := none}, (r1 O.EM_LEVEL_SET),
      by unfold State.Quiet State.Still; decide +kernel⟩⟩

theorem meets_Carriers :
(∃ (s : State) (m : GopMsg) (c : Nat) (bs : Bytes), s.Quiet ∧ s.dev.canUp c = true ∧ s.dev.ses.length = 5 ∧ 8 ≤ bs.length ∧
      bs.length ≤ 61 ∧ gopOf c bs = some m ∧ (s.dev.sess c).canRx = none ∧ (s.dev.sess c).queue.length ≤ 7) ∧
(∃ (s : State) (m : GopMsg) (mosi : Bytes), s.Quiet ∧ s.dev.serves 2 = true ∧ s.dev.ses.length = 5 ∧ spiGood mosi = true ∧ 8 ≤
      fieldAt mosi 1 2 ∧ gopOf 2 ((mosi.drop 3).take (fieldAt mosi 1 2)) = some m ∧ (s.dev.sess 2).queue.length ≤ 7) ∧
(∃ (s : State) (m : GopMsg) (b g a : List RxCol) (p : Bytes × Bool) (d' : Dev) (x : RxSeg) (d : Dev), s.Quiet ∧ s.dev.linkUp =
      true ∧ s.dev.o O.LINK_ACTIVE_HRX ≠ 0 ∧ Dev.rxColumns { s.dev with sent := [] } (b ++ g ++ a) = ([p], d') ∧ d'.rxSeg p.2
      p.1 = (some x, d) ∧ x.ty = 6 ∧ gopOf 3 x.payload = some m ∧ d.ses.length = 5 ∧ d.serves 3 = true ∧ (d.sess 3).queue.length
      ≤ 7 ∧ d.jq.settle = false ∧ d.pwr.rstDue = none) ∧
(∃ (s : State) (note : Bool) (msg : Bytes) (rest : List (Bool × Bytes)) (n : Nat), s.Quiet ∧ s.dev.serves 2 = true ∧
      s.dev.ses.length = 5 ∧ (s.dev.sess 2).outq = (note, msg) :: rest ∧ msg.length + 5 ≤ n) ∧
(∃ (s : State) (c : Nat), s.Quiet ∧ s.dev.ses.length = 5 ∧ c < 2 ∧ s.dev.serves c = true) ∧
(∃ (s : State) (c : Nat), s.Quiet ∧ s.dev.ses.length = 5 ∧ c < 2) ∧
(∃ (s : State) (c : Nat) (r : CanRx), s.Quiet ∧ s.dev.ses.length = 5 ∧ c < 2 ∧ (s.dev.sess c).canRx = some r ∧ r.last + 30000000
      ≤ s.clock.time) ∧
(∃ (s : State) (new old : Nat), s.Quiet ∧ s.dev.ses.length = 5 ∧ (s.dev.sess 2).refused[0]? = some new ∧ (s.dev.sess
      2).refused[7]? = some old ∧ new ≤ old + 150000000) :=
  ⟨⟨(up []), rm, 0, (reqBytes rm), by unfold State.Quiet State.Still; decide +kernel⟩,
⟨(up []), rm2, (sp0 ++ leBytes 2 (crc16 sp0)), by unfold State.Quiet State.Still; decide +kernel⟩,
⟨upL, rm3, [], (rx1 sg3), [], (sg3, false), ((upD upL).rxColumns ([] ++ rx1 sg3 ++ [])).2, {ty := 6, payload := reqBytes rm3},
      (((upD upL).rxColumns ([] ++ rx1 sg3 ++ [])).2.rxSeg false sg3).2, by unfold State.Quiet State.Still; decide +kernel⟩,
⟨(st {devUp with ses := [{},{},{outq := [(false, zeros 16)]},{},{}]} []), false, (zeros 16), [], 21,
      by unfold State.Quiet State.Still; decide +kernel⟩,
⟨(up [(O.LOCK_OWNER,0,1)]), 1, by unfold State.Quiet State.Still; decide +kernel⟩,
⟨(st {devUp with ses := [{},{busOff := true},{},{},{}]} []), 1, by unfold State.Quiet State.Still; decide +kernel⟩,
⟨(st {devUp with ses := [{},{canRx := some {len := 100, segno := 1, data := [], last := 2999970000000}},{},{},{}]} []), 1,
      {len := 100, segno := 1, data := [], last := 2999970000000}, by unfold State.Quiet State.Still; decide +kernel⟩,
⟨(st {devUp with ses := [{},{},{refused := [150000007,7,6,5,4,3,2,7]},{},{}]} [(O.LOCK_OWNER,0,2)]), 150000007, 7,
      by unfold State.Quiet State.Still; decide +kernel⟩⟩

theorem meets_DuplicatesDoNotExecute :
∃ (s : State) (q : Req) (x : Stored), s.Quiet ∧ q.sess < 4 ∧ s.dev.serves q.sess = true ∧ (s.dev.sess q.sess).held = none ∧
      (s.dev.sess q.sess).queue = [] ∧ q.epoch % 4 = s.dev.o O.SES_EPOCH q.sess ∧ q.index ≠ O.SES_OPEN ∧ (s.dev.sess
      q.sess).stored.find? (fun y => reqTag y.msg.req == reqTag q && s.clock.time < y.time + 150000000) = some x :=
⟨(st {devUp with ses := [{stored := [sd]},{},{},{},{}]} []), (writeMsg hd O.EM_LEVEL_SET 0 5).req, sd,
    by unfold State.Quiet State.Still; decide +kernel⟩

theorem meets_StartAndStop :
(∃ (s : State) (h : Hdr), s.Quiet ∧ Accepts s h O.JQ_RUN 0 1 ∧ s.dev.o O.JQ_STATE = 0 ∧ s.dev.bankCheck (s.dev.o
      O.JQ_ACTIVE_BANK) = none) ∧
(∃ (s : State) (h : Hdr), s.Quiet ∧ Accepts s h O.JQ_RUN 0 2 ∧ s.dev.o O.JQ_STATE = 2) ∧
(∃ (s : State) (h : Hdr), s.Quiet ∧ Accepts s h O.JQ_RUN 0 0 ∧ (s.dev.o O.JQ_STATE = 1 ∨ s.dev.o O.JQ_STATE = 2) ∧
      s.dev.jq.flight ≠ none) ∧
(∃ (s : State) (h : Hdr), s.Quiet ∧ Accepts s h O.JQ_RUN 0 0 ∧ (s.dev.o O.JQ_STATE = 1 ∨ s.dev.o O.JQ_STATE = 2) ∧
      s.dev.jq.flight = none ∧ s.dev.jq.queue = [] ∧ s.dev.ex.groups = [] ∧ s.dev.shadows = [] ∧ s.dev.domShadows = [] ∧
      s.dev.commit = none) :=
  ⟨⟨(st (bankB 0) []), hd, by unfold State.Quiet State.Still; decide +kernel, by unfold Accepts Served State.Still; decide +kernel,
      by decide +kernel, bankCheck_two (bank := 0)
      (by decide) (by decide +kernel) (by decide +kernel) (by decide +kernel) (by decide +kernel) (by decide +kernel)⟩,
⟨(up [(O.JQ_STATE,0,2)]), hd, by unfold Accepts Served State.Quiet State.Still; decide +kernel⟩,
⟨(st {devUp with jq := {flight := some fl1, queue := [shot1]}} [(O.JQ_STATE,0,2)]), hd,
      by unfold Accepts Served State.Quiet State.Still; decide +kernel⟩,
⟨(up [(O.JQ_STATE,0,1)]), hd, by unfold Accepts Served State.Quiet State.Still; decide +kernel⟩⟩

theorem meets_EntriesDecode :
(∃ (s : State), s.Quiet ∧ s.dev.o O.JQ_STATE = 2 ∧ s.dev.jq.decoding = true ∧ s.dev.jq.newFrame = false ∧ s.dev.jq.queue = [] ∧
      s.dev.jq.acc = [] ∧ entKind (s.dev.entry s.dev.jq.bank s.dev.jq.next) = 2) ∧
(∃ (s : State) (w : Nat), s.Quiet ∧ s.dev.o O.JQ_STATE = 2 ∧ s.dev.jq.decoding = true ∧ s.dev.jq.newFrame = false ∧
      s.dev.jq.queue = [] ∧ s.dev.jq.acc = [] ∧ s.dev.entry s.dev.jq.bank s.dev.jq.next = w ∧ isShot w = true ∧ entRepeat w = 0
      ∧ entAcc w = 0 ∧ Dev.decodeTimely s.env s.dev 0 = true ∧ entNoDither w = true) :=
  ⟨⟨(st {devEnd with jq := {decoding := true}} [(O.JQ_STATE,0,2)]), by unfold State.Quiet State.Still; decide +kernel⟩,
⟨(st {devUp.setDom O.JQ_BANK_0 0 0 (leBytes 16 ent1) with jq := {decoding := true}} [(O.JQ_STATE,0,2)]), ent1,
      by unfold State.Quiet State.Still; decide +kernel⟩⟩

theorem meets_GroupPower :
(∃ (s : State) (g : Nat) (sh : Shot), s.Quiet ∧ g < 32 ∧ s.dev.jq.queue.find? (fun x => s.dev.shotLights s.env x g) = some sh ∧
      s.dev.wakeDue s.env sh g = true ∧ (s.dev.o O.RX_GROUP_STATE g = 0 ∨ s.dev.o O.RX_GROUP_STATE g = 2)) ∧
(∃ (s : State) (g : Nat), s.Quiet ∧ g < 32 ∧ s.dev.o O.RX_GROUP_STATE g = 1 ∧ tget 0 s.dev.rx.stepHeld g = 0 ∧ tget 0
      s.dev.rx.wakeFrom g = 2 ∧ tget 0 s.dev.rx.wakeAt g + 300 ≤ s.clock.time ∧ s.dev.calPass g = none) ∧
(∃ (s : State) (g : Nat), s.Quiet ∧ g < 32 ∧ s.dev.o O.RX_GROUP_STATE g = 1 ∧ tget 0 s.dev.rx.stepHeld g = 0 ∧ tget 0
      s.dev.rx.wakeFrom g = 0 ∧ tget 0 s.dev.rx.wakeAt g + 60000 ≤ s.clock.time ∧ s.dev.calPass g = none) ∧
(∃ (s : State) (g : Nat), s.Quiet ∧ g < 32 ∧ s.dev.o O.RX_GROUP_STATE g = 1 ∧ tget 0 s.dev.rx.wakeFrom g = 0 ∧ tget 0
      s.dev.rx.wakeAt g + 150000 ≤ s.clock.time) ∧
(∃ (s : State) (g : Nat) (h : Hdr), s.Quiet ∧ g < 32 ∧ Accepts s h O.RX_GROUP_RETRY g 1 ∧ s.dev.o O.RX_GROUP_STATE g = 4) :=
  ⟨⟨(st {devUp with jq := {queue := [shot1]}} [(O.JQ_STATE,0,2)]), 0, shot1, by unfold State.Quiet State.Still; decide +kernel⟩,
⟨(st {devUp with rx := {wakeFrom := [(31,2)], wakeAt := [(31,2999999999700)]}} [(O.RX_GROUP_STATE,31,1)]), 31,
      by unfold State.Quiet State.Still; decide +kernel⟩,
⟨(st {devUp with rx := {wakeAt := [(31,2999999940000)]}} [(O.RX_GROUP_STATE,31,1)]), 31,
      by unfold State.Quiet State.Still; decide +kernel⟩,
⟨(st {devUp with rx := {wakeAt := [(31,2999999850000)]}} [(O.RX_GROUP_STATE,31,1)]), 31,
      by unfold State.Quiet State.Still; decide +kernel⟩,
⟨(up [(O.RX_GROUP_STATE,31,4)]), 31, hd, by unfold Accepts Served State.Quiet State.Still; decide +kernel⟩⟩

theorem meets_ShotBoundaryPutsTheShotInFlight :
∃ (s : State) (sh : Shot), s.Quiet ∧ s.dev.o O.JQ_STATE = 2 ∧ s.dev.jq.flight = none ∧ s.dev.jq.queue = [sh] ∧ sh.move = false ∧
      sh.thinned = false ∧ sh.frameFirst = false ∧ sh.acc = none ∧ sh.lineChange = false ∧ s.dev.shadows = [] ∧ s.dev.domShadows
      = [] ∧ s.dev.commit = none ∧ s.dev.ob O.TW_ENABLE = false ∧ s.dev.cal.pass = [] ∧ s.dev.cal.due = 0 ∧ s.dev.cal.req = 0 ∧
      s.dev.rx.switches = [] ∧ s.dev.groupsAsleep s.env sh = false ∧ sh.planned - s.dev.prefireCp ≤ 2 * s.clock.time + 1 :=
⟨(st {devUp with jq := {queue := [shot1]}} [(O.JQ_STATE,0,2),(O.RX_GROUP_STATE,0,3)]), shot1,
    by unfold State.Quiet State.Still; decide +kernel⟩

theorem meets_FireCommitDecides :
(∃ (s : State) (f : Flight), s.Quiet ∧ s.dev.o O.JQ_STATE = 2 ∧ s.dev.jq.flight = some f ∧ f.committed = false ∧ f.fires = false
      ∧ f.emit - 240 ≤ 2 * s.clock.time + 1 ∧ (s.atFireCommit []).angleOff f.shot.ent = false ∧ (s.atFireCommit []).hmRefusal
      s.env ((s.atFireCommit []).flightCharges f) = none) ∧
(∃ (s : State) (f : Flight), s.Quiet ∧ s.dev.o O.JQ_STATE = 2 ∧ s.dev.jq.flight = some f ∧ f.committed = false ∧ f.fires = false
      ∧ f.emit - 240 ≤ 2 * s.clock.time + 1 ∧ (s.atFireCommit []).angleOff f.shot.ent = false ∧ (s.atFireCommit []).o O.HM_STATE
      ≠ 2 ∧ (s.atFireCommit []).o O.HM_STATE ≠ 3) :=
  ⟨⟨(armed ftr 2), ftr, by unfold State.Quiet State.Still; decide +kernel⟩,
⟨(armed ftr 0), ftr, by unfold State.Quiet State.Still; decide +kernel⟩⟩

theorem meets_OnlyArmedShotsEmit :
∃ (s t u : State) (f : Flight) (parity : List Nat) (m : EmitMeas), s.dev.o O.JQ_STATE = 2 ∧ s.Quiet ∧ t.Quiet ∧ s.dev.jq.flight
      = some f ∧ f.fires = false ∧ exec (.fireCommit parity) s = .next t ∧ exec (.emission m) t = .next u ∧ (∃ kds ps,
      Out.pulses kds ps ∈ u.dev.sent) :=
⟨(armed fl1 2), (after (.fireCommit []) (armed fl1 2)), (after (.emission em0) (after (.fireCommit []) (armed fl1 2))), fl1, [],
    em0, by decide +kernel, by unfold State.Quiet State.Still; decide +kernel,
    by unfold State.Quiet State.Still; decide +kernel, by decide +kernel, by decide +kernel, exec_after _ _, exec_after _ _,
    [(0, 0)], [(0, 12)], by decide +kernel⟩

theorem meets_EmissionAndTheEndOfTheShot :
(∃ (s : State) (f : Flight) (m : EmitMeas), s.Quiet ∧ s.dev.o O.JQ_STATE = 2 ∧ s.dev.jq.flight = some f ∧ f.fires = true ∧
      f.emitted = false ∧ f.emit ≤ 2 * s.clock.time + 1 ∧ f.inhibited = false ∧ f.an ≠ 0 ∧ f.kd ≠ 0 ∧ m.left = none ∧ f.shot.acc
      = none ∧ entTrig f.shot.ent = false ∧ s.dev.ob O.TW_ENABLE = false) ∧
(∃ (s : State) (f : Flight), s.Quiet ∧ s.dev.o O.JQ_STATE = 2 ∧ s.dev.jq.flight = some f ∧ f.fires = true ∧ f.emitted = false ∧
      f.emit ≤ 2 * s.clock.time + 1 ∧ (f.inhibited = true ∨ f.an = 0 ∨ f.kd = 0)) ∧
(∃ (s : State) (f : Flight), s.Quiet ∧ s.dev.o O.JQ_STATE = 2 ∧ s.dev.jq.flight = some f ∧ f.wins = true ∧ f.emit + windowCp
      (entWclass f.shot.ent) ≤ 2 * s.clock.time + 1 ∧ s.dev.jq.queue = []) :=
  ⟨⟨(st (devFl fem) [(O.JQ_STATE,0,2),(O.HM_STATE,0,2)]), fem, ⟨some 0,[],[],none⟩,
      by unfold State.Quiet State.Still; decide +kernel⟩,
⟨(st (devFl {fem with inhibited := true}) [(O.JQ_STATE,0,2),(O.HM_STATE,0,2)]), {fem with inhibited := true},
      by unfold State.Quiet State.Still; decide +kernel⟩,
⟨(st (devFl fclose) [(O.JQ_STATE,0,2),(O.HM_STATE,0,2)]), fclose, by unfold State.Quiet State.Still; decide +kernel⟩⟩

theorem meets_FrameSynchronisation :
(∃ (s : State), s.Quiet ∧ s.dev.o O.JQ_STATE ≠ 0 ∧ s.dev.o O.JQ_FRAME_SYNC = 1 ∧ s.dev.jq.originNext = none ∧
      s.dev.jq.originLater = [] ∧ s.dev.jq.origin + 1500 * s.dev.o O.JQ_FRAME_PERIOD < 2 * s.clock.time ∧ 2 * s.clock.time ≤
      s.dev.jq.origin + 4500 * s.dev.o O.JQ_FRAME_PERIOD) ∧
(∃ (s : State), s.Quiet ∧ s.dev.o O.JQ_STATE ≠ 0 ∧ s.dev.o O.JQ_FRAME_SYNC = 1 ∧ s.dev.jq.originNext = none ∧
      s.dev.jq.originLater = [] ∧ s.dev.jq.origin + 4500 * s.dev.o O.JQ_FRAME_PERIOD < 2 * s.clock.time ∧ 2 * s.clock.time ≤
      s.dev.jq.origin + 7500 * s.dev.o O.JQ_FRAME_PERIOD) ∧
(∃ (s : State), s.Quiet ∧ s.dev.o O.JQ_STATE ≠ 0 ∧ s.dev.o O.JQ_FRAME_SYNC = 1 ∧ s.dev.jq.originNext = none ∧
      s.dev.jq.originLater = [] ∧ s.dev.jq.origin + 4500 * s.dev.o O.JQ_FRAME_PERIOD ≤ 2 * s.clock.time) :=
  ⟨⟨(st {devUp with jq := {origin := 5999850000000}} [(O.JQ_STATE,0,2),(O.JQ_FRAME_SYNC,0,1),(O.JQ_FRAME_PERIOD,0,50000)]),
      by unfold State.Quiet State.Still; decide +kernel⟩,
⟨(st {devUp with jq := {origin := 5999700000000}} [(O.JQ_STATE,0,2),(O.JQ_FRAME_SYNC,0,1),(O.JQ_FRAME_PERIOD,0,50000)]),
      by unfold State.Quiet State.Still; decide +kernel⟩,
⟨(st {devUp with jq := {origin := 5990000000000}} [(O.JQ_STATE,0,2),(O.JQ_FRAME_SYNC,0,1)]),
      by unfold State.Quiet State.Still; decide +kernel⟩⟩

theorem meets_BanksSwapAndPatch :
(∃ (s : State) (h : Hdr), s.Quiet ∧ Accepts s h O.JQ_SWAP_REQ 0 1 ∧ s.dev.bankCheck s.dev.otherBank = none ∧ s.dev.o O.JQ_STATE
      ≠ 0) ∧
(∃ (s : State) (h : Hdr), s.Quiet ∧ Accepts s h O.JQ_SWAP_REQ 0 1 ∧ s.dev.bankCheck s.dev.otherBank = none ∧ s.dev.o O.JQ_STATE
      = 0) ∧
(∃ (s : State) (h : Hdr), s.Quiet ∧ Accepts s h O.JQ_SWAP_REQ 0 0 ∧ s.dev.o O.JQ_STATE ≠ 0 ∧ s.dev.lock.staged = {} ∧
      s.dev.commit = none) ∧
(∃ (s : State) (n : Nat) (m : GopMsg), s.Quiet ∧ n < 5 ∧ s.dev.ses.length = 5 ∧ (s.dev.sess n).held = some m ∧ m.req.sess = n ∧
      m.op = 2 ∧ m.req.index = O.JQ_SWAP_REQ ∧ s.dev.frameDecided = false ∧ s.dev.serves n = true) ∧
(∃ (s : State) (h : Hdr) (bs : Bytes), s.Quiet ∧ Served s h O.JQ_PATCH ∧ s.dev.o O.LOCK_OWNER = 0xFF ∧ s.dev.commit = none ∧
      patchOk bs = true ∧ s.dev.patchClose bs = false) :=
  ⟨⟨(st (bankB 1) [(O.JQ_STATE,0,2)]), hd, by unfold State.Quiet State.Still; decide +kernel,
      by unfold Accepts Served State.Still; decide +kernel, bankCheck_two (bank := 1)
      (by decide) (by decide +kernel) (by decide +kernel) (by decide +kernel) (by decide +kernel) (by decide +kernel),
      by decide +kernel⟩,
⟨(st (bankB 1) []), hd, by unfold State.Quiet State.Still; decide +kernel, by unfold Accepts Served State.Still; decide +kernel,
      bankCheck_two (bank := 1)
      (by decide) (by decide +kernel) (by decide +kernel) (by decide +kernel) (by decide +kernel) (by decide +kernel),
      by decide +kernel⟩,
⟨(st devEnd1 [(O.JQ_STATE,0,2),(O.JQ_SWAP_REQ,0,1)]), hd, by unfold Accepts Served State.Quiet State.Still; decide +kernel⟩,
⟨(st {devEnd1 with ses := [{held := some hm0},{},{},{},{}]} [(O.JQ_STATE,0,2)]), 0, hm0,
      by unfold State.Quiet State.Still; decide +kernel⟩,
⟨(up []), hd, pat, by unfold Served State.Quiet State.Still; decide +kernel⟩⟩

theorem meets_SkipperServes :
(∃ (s : State) (h : Hdr) (g pos : Nat), s.Quiet ∧ g < 32 ∧ pos < 16 ∧ s.dev.o O.JQ_STATE = 0 ∧ s.dev.rx.switches = [] ∧ Accepts
      s h O.RX_SKIP_REQ g pos) ∧
(∃ (s : State) (h : Hdr) (g pos : Nat), s.Quiet ∧ g < 32 ∧ pos < 16 ∧ s.dev.o O.JQ_STATE = 0 ∧ s.dev.rx.switches = [] ∧ Accepts
      s h O.RX_SKIP_REQ g 0xFF ∧ tget 0 s.dev.rx.holder g = 2 ∧ s.dev.skipChan g = some (16 * g + pos) ∧ tget none s.dev.shadows
      (okey O.RX_REPAIR g) = none) ∧
(∃ (s : State) (h : Hdr) (g pos v : Nat), s.Quiet ∧ g < 32 ∧ pos < 16 ∧ s.dev.o O.JQ_STATE = 0 ∧ s.dev.rx.switches = [] ∧
      Accepts s h O.RX_SKIP_REQ g 0xFF ∧ tget 0 s.dev.rx.holder g = 2 ∧ s.dev.skipChan g = some (16 * g + pos) ∧ v < 16 ∧ tget
      none s.dev.shadows (okey O.RX_REPAIR g) = some v ∧ s.dev.o O.RX_REPAIR g = 0xFF) ∧
(∃ (s : State) (h : Hdr) (g pos : Nat), s.Quiet ∧ g < 32 ∧ pos < 16 ∧ s.dev.o O.JQ_STATE = 0 ∧ s.dev.rx.switches = [] ∧ Accepts
      s h O.RX_REPAIR g pos ∧ tget 0 s.dev.rx.holder g = 0 ∧ s.dev.o O.RX_REPAIR g = 0xFF) :=
  ⟨⟨(up []), hd, 31, 15, by unfold Accepts Served State.Quiet State.Still; decide +kernel⟩,
⟨(st {devUp with rx := {holder := [(31,2)]}} [(O.RX_SLICE_OF, 511, 512+31)]), hd, 31, 15,
      by unfold Accepts Served State.Quiet State.Still; decide +kernel⟩,
⟨(st {devUp with rx := {holder := [(31,2)]}, shadows := [(okey O.RX_REPAIR 31, some 15)]}
      [(O.RX_SLICE_OF,511,543),(O.RX_SKIP_REQ,31,15)]), hd, 31, 15, 15,
      by unfold Accepts Served State.Quiet State.Still; decide +kernel⟩,
⟨(up []), hd, 31, 15, by unfold Accepts Served State.Quiet State.Still; decide +kernel⟩⟩

theorem meets_VoileAndInputWatch :
(∃ (s : State) (x : Nat), s.Quiet ∧ x < 64 ∧ s.dev.rx.blankLow = none) ∧
(∃ (s : State) (x f : Nat), s.Quiet ∧ x < 64 ∧ s.dev.rx.blankLow = some f ∧ f + 960 ≤ 64 * s.clock.time + x) ∧
(∃ (s : State) (x f : Nat), s.Quiet ∧ x < 64 ∧ s.dev.rx.blankLow = some f ∧ 64 * s.clock.time + x < f + 960) ∧
(∃ (s : State) (ch : Nat), s.Quiet ∧ ch < s.env.channels ∧ s.dev.o O.RX_GROUP_STATE (ch / 16) ≠ 0 ∧ s.dev.o O.RX_INPUT_STATUS ch
      ≠ 3) ∧
(∃ (s : State) (ch : Nat), s.Quiet ∧ ch < s.env.channels ∧ s.dev.ob O.RX_WATCH_EN = true ∧ s.dev.rx.watchAt + 150000000 ≤
      s.clock.time) :=
  ⟨⟨(up []), 63, by unfold State.Quiet State.Still; decide +kernel⟩,
⟨(st {devUp with rx := {blankLow := some (64*2999999999985)}} []), 0, (64*2999999999985),
      by unfold State.Quiet State.Still; decide +kernel⟩,
⟨(st {devUp with rx := {blankLow := some (64*2999999999986)}} []), 63, (64*2999999999986),
      by unfold State.Quiet State.Still; decide +kernel⟩,
⟨(up [(O.RX_GROUP_STATE,31,3)]), 511, by unfold State.Quiet State.Still; decide +kernel⟩,
⟨(up [(O.RX_WATCH_EN,0,1)]), 511, by unfold State.Quiet State.Still; decide +kernel⟩⟩

theorem meets_BiasOutputs :
(∃ (s : State) (b : Nat), s.Quiet ∧ b < 8 ∧ s.dev.o O.RX_BIAS_STATUS b = 1 ∧ (tget {} s.dev.rx.bias b).rampFrom = s.dev.o
      O.RX_BIAS_TARGET_MV b ∧ (tget {} s.dev.rx.bias b).rampAt ≤ s.clock.time) ∧
(∃ (s : State) (b : Nat), s.Quiet ∧ b < 8 ∧ (s.dev.o O.RX_BIAS_STATUS b = 1 ∨ s.dev.o O.RX_BIAS_STATUS b = 2 ∨ s.dev.o
      O.RX_BIAS_STATUS b = 7)) ∧
(∃ (s : State) (b : Nat), s.Quiet ∧ b < 8 ∧ s.dev.o O.RX_BIAS_STATUS b = 3) ∧
(∃ (s : State) (b : Nat), s.Quiet ∧ b < 8 ∧ s.dev.o O.RX_BIAS_STATUS b = 3 ∧ (tget {} s.dev.rx.bias b).limitAt + 1500000 ≤
      s.clock.time) ∧
(∃ (s : State) (b : Nat), s.Quiet ∧ b < 8 ∧ s.dev.o O.RX_BIAS_STATUS b ∈ [1, 2, 3, 7]) ∧
(∃ (s : State) (b : Nat), s.Quiet ∧ b < 8 ∧ s.dev.o O.RX_BIAS_STATUS b ∈ [2, 7]) ∧
(∃ (s : State) (b : Nat), s.Quiet ∧ b < 8 ∧ s.dev.o O.RX_BIAS_STATUS b = 2 ∧ (∃ i, i < 4 ∧ s.dev.o O.RX_GROUP_STATE (4 * b + i)
      = 3)) ∧
(∃ (s : State) (b : Nat), s.Quiet ∧ b < 8 ∧ (tget {} s.dev.rx.bias b).vhvOff = true ∧ s.dev.ob O.RX_BIAS_ENABLE b = true) ∧
(∃ (s : State) (b : Nat) (h : Hdr), s.Quiet ∧ b < 8 ∧ Accepts s h O.RX_BIAS_ENABLE b 0) ∧
(∃ (s : State) (b : Nat) (h : Hdr), s.Quiet ∧ b < 8 ∧ Accepts s h O.RX_BIAS_ENABLE b 1 ∧ s.dev.o O.RX_BIAS_STATUS b = 7) ∧
(∃ (s : State) (b : Nat) (h : Hdr), s.Quiet ∧ b < 8 ∧ Accepts s h O.RX_BIAS_ENABLE b 1 ∧ s.dev.o O.RX_BIAS_STATUS b ∈ [0, 4, 5,
      6] ∧ s.dev.rx.vhvLow = false) :=
  ⟨⟨(st {devUp with rx := {bias := [(7,{rampAt := 3000000000000, rampFrom := 30000})]}}
      [(O.RX_BIAS_STATUS,7,1),(O.RX_BIAS_TARGET_MV,7,30000)]), 7, by unfold State.Quiet State.Still; decide +kernel⟩,
⟨(up [(O.RX_BIAS_STATUS,7,1)]), 7, by unfold State.Quiet State.Still; decide +kernel⟩,
⟨(st {devUp with rx := {bias := [(7,{back := 7})]}} [(O.RX_BIAS_STATUS,7,3)]), 7,
      by unfold State.Quiet State.Still; decide +kernel⟩,
⟨(st {devUp with rx := {bias := [(7,{limitAt := 2999998500000})]}} [(O.RX_BIAS_STATUS,7,3)]), 7,
      by unfold State.Quiet State.Still; decide +kernel⟩,
⟨(up [(O.RX_BIAS_STATUS,7,3)]), 7, by unfold State.Quiet State.Still; decide +kernel⟩,
⟨(up [(O.RX_BIAS_STATUS,7,7)]), 7, by unfold State.Quiet State.Still; decide +kernel⟩,
⟨(up [(O.RX_BIAS_STATUS,7,2),(O.RX_GROUP_STATE,31,3)]), 7, by unfold State.Quiet State.Still; decide +kernel⟩,
⟨(st {devUp with rx := {bias := [(7,{vhvOff := true})]}} [(O.RX_BIAS_STATUS,7,0),(O.RX_BIAS_ENABLE,7,1)]), 7,
      by unfold State.Quiet State.Still; decide +kernel⟩,
⟨(up [(O.RX_BIAS_STATUS,7,2),(O.RX_BIAS_ENABLE,7,1)]), 7, hd, by unfold Accepts Served State.Quiet State.Still; decide +kernel⟩,
⟨(up [(O.RX_BIAS_STATUS,7,7)]), 7, hd, by unfold Accepts Served State.Quiet State.Still; decide +kernel⟩,
⟨(up [(O.RX_BIAS_STATUS,7,6)]), 7, hd, by unfold Accepts Served State.Quiet State.Still; decide +kernel⟩⟩

theorem meets_CrossingsAndTiming :
(∃ (s : State) (f : Flight) (w : Win) (ch th k r : Nat), s.Quiet ∧ s.dev.jq.flight = some f ∧ f.wins = true ∧ s.dev.win ch =
      some w ∧ th < 3 ∧ w.cmps.length = 3 ∧ w.silent = false ∧ s.dev.muted ch = false ∧ w.opened = true ∧ w.closed = false ∧
      (s.dev.stampLo : Int) ≤ timeOf (s.dev.s16Of w.slice k r) ∧ timeOf (s.dev.s16Of w.slice k r) < (s.dev.stampHi (windowCp
      (entWclass f.shot.ent)) : Int) ∧ (w.cmp th).hold = none ∧ w.load + 2 ≤ 24) ∧
(∃ (s : State) (f : Flight) (w : Win) (ch th k r : Nat), s.Quiet ∧ s.dev.jq.flight = some f ∧ f.wins = true ∧ s.dev.win ch =
      some w ∧ th < 3 ∧ w.cmps.length = 3 ∧ w.silent = false ∧ s.dev.muted ch = false ∧ w.opened = true ∧ w.closed = false ∧
      (s.dev.stampLo : Int) ≤ timeOf (s.dev.s16Of w.slice k r) ∧ timeOf (s.dev.s16Of w.slice k r) < (s.dev.stampHi (windowCp
      (entWclass f.shot.ent)) : Int) ∧ (w.cmp th).hold = none ∧ 24 < w.load + 2 ∧ w.ovf = false) ∧
(∃ (s : State) (f : Flight) (w : Win) (ch th k r : Nat) (x : Stamp), s.Quiet ∧ s.dev.jq.flight = some f ∧ f.wins = true ∧
      s.dev.win ch = some w ∧ th < 3 ∧ w.cmps.length = 3 ∧ w.silent = false ∧ s.dev.muted ch = false ∧ w.opened = true ∧
      w.closed = false ∧ (s.dev.stampLo : Int) ≤ timeOf (s.dev.s16Of w.slice k r) ∧ timeOf (s.dev.s16Of w.slice k r) <
      (s.dev.stampHi (windowCp (entWclass f.shot.ent)) : Int) ∧ (w.cmp th).hold = some x ∧ s.dev.s16Of w.slice k r < x.s16 + 512
      * (s.dev.o O.TDC_MERGE_CP th : Int)) ∧
(∃ (s : State) (f : Flight) (w : Win) (ch th : Nat) (x : Stamp), s.Quiet ∧ s.dev.jq.flight = some f ∧ f.wins = true ∧ s.dev.win
      ch = some w ∧ th < 3 ∧ w.cmps.length = 3 ∧ (w.cmp th).hold = some x ∧ 512 * (f.emit : Int) + x.s16 + 512 * (s.dev.o
      O.TDC_MERGE_CP th : Int) ≤ 1024 * (s.clock.time : Int) + 1023) ∧
(∃ (s : State) (slice : Nat), s.Quiet ∧ 8 ≤ tget 0 s.dev.tdc.implaus slice) ∧
(∃ (s : State) (slice : Nat), s.Quiet ∧ slice < 544 ∧ 1024 ≤ tget 0 s.dev.tdc.implaus slice ∧ s.dev.o O.RX_SLICE_STATUS slice ≠
      1) ∧
(∃ (s : State), s.Quiet ∧ 16 ≤ s.dev.tdc.misses ∧ (∀ x, s.dev.tdc.missLog = some x → x + 1500000000 ≤ s.clock.time)) ∧
(∃ (s : State) (h : Hdr), s.Quiet ∧ Accepts s h O.TDC_STAT_START 0 1 ∧ s.dev.o O.TDC_STAT_STATE = 1) ∧
(∃ (s : State) (h : Hdr), s.Quiet ∧ Accepts s h O.TDC_STAT_START 0 1 ∧ s.dev.o O.TDC_STAT_STATE ≠ 1) ∧
(∃ (s : State) (h : Hdr), s.Quiet ∧ Accepts s h O.TDC_STAT_START 0 0 ∧ s.dev.o O.TDC_STAT_STATE = 1) :=
  ⟨⟨(st (devW w1) [(O.JQ_STATE,0,2)]), fwc, w1, 0, 2, 100, 0, by unfold State.Quiet State.Still; decide +kernel⟩,
⟨(st (devW wFull) [(O.JQ_STATE,0,2)]), fwc, wFull, 0, 2, 100, 0, by unfold State.Quiet State.Still; decide +kernel⟩,
⟨(st (devW wH) [(O.JQ_STATE,0,2)]), fwc, wH, 0, 2, 100, 0, s1, by unfold State.Quiet State.Still; decide +kernel⟩,
⟨(st (devW wH) [(O.JQ_STATE,0,2)]), fwc, wH, 0, 2, s1, by unfold State.Quiet State.Still; decide +kernel⟩,
⟨(st {devUp with tdc := {implaus := [(543,8)]}} []), 543, by unfold State.Quiet State.Still; decide +kernel⟩,
⟨(st {devUp with tdc := {implaus := [(543,1024)]}} []), 543, by unfold State.Quiet State.Still; decide +kernel⟩,
⟨(st {devUp with tdc := {misses := 16}} []), by unfold State.Quiet State.Still; decide +kernel⟩,
⟨(up [(O.TDC_STAT_STATE,0,1)]), hd, by unfold Accepts Served State.Quiet State.Still; decide +kernel⟩,
⟨(up []), hd, by unfold Accepts Served State.Quiet State.Still; decide +kernel⟩,
⟨(up [(O.TDC_STAT_STATE,0,1)]), hd, by unfold Accepts Served State.Quiet State.Still; decide +kernel⟩⟩

theorem meets_ExtractionAndRinglet :
(∃ (s : State) (ch inst : Nat) (g : ExGroup), s.Quiet ∧ ch < 512 ∧ s.dev.ex.groups.find? (fun p => p.2.closed && bit p.2.toRead
      ch) = some (inst, g) ∧ bits g.toRead (ch / 64 * 64) (ch % 64) = 0 ∧ g.closeAt + 128 * (tilePlace g.chans ch + 1) ≤
      s.clock.time) ∧
(∃ (s : State), s.Quiet ∧ s.dev.ex.hdrs ≠ [] ∧ s.dev.ex.hdrAt + 15000 ≤ s.clock.time) ∧
(∃ (s : State) (x : Obs) (rest : List Obs), s.Quiet ∧ s.dev.ex.obs = x :: rest ∧ x.chan < 512) ∧
(∃ (s : State) (blk n : Nat) (out : Option Nat), s.Quiet ∧ blk ∈ s.dev.rl.wanted ∧ s.dev.ob O.RL_ENABLE = true ∧
      s.dev.cachePlace = some (n, out)) ∧
(∃ (s : State), s.Quiet ∧ s.dev.o O.JQ_STATE ≠ 0 ∧ s.dev.o O.RL_STATE = 2 ∧ s.dev.ob O.RL_ENABLE = true ∧ s.dev.rl.sweepFrame ≠
      some (s.dev.o O.RL_FRAME)) ∧
(∃ (s : State) (h : Hdr), s.Quiet ∧ Accepts s h O.RL_RESET 0 1 ∧ s.dev.o O.JQ_STATE = 0) ∧
(∃ (s : State) (h : Hdr), s.Quiet ∧ Accepts s h O.RL_RESET 0 1 ∧ s.dev.o O.JQ_STATE ≠ 0) ∧
(∃ (s : State) (h : Hdr) (v : Nat), s.Quiet ∧ Accepts s h O.RL_GEOMETRY 0 v ∧ v ≠ s.dev.o O.RL_GEOMETRY) ∧
(∃ (s : State) (h : Hdr), s.Quiet ∧ Accepts s h O.RL_GEOMETRY 0 (s.dev.o O.RL_GEOMETRY)) ∧
(∃ (s : State), s.Quiet ∧ s.dev.o O.RL_STATE = 1) :=
  ⟨⟨(st {devUp with ex := {groups := [(0,gr)]}} []), 511, 0, gr, by unfold State.Quiet State.Still; decide +kernel⟩,
⟨(st {devUp with ex := {hdrs := [5], hdrAt := 2999999985000}} [(O.LINK_STATE,0,2)]),
      by unfold State.Quiet State.Still; decide +kernel⟩,
⟨(st
      {devUp with ex := {obs := [ob1], jobs := [{serial := 0, word := 0, result := false, left := 2^511, records := [], lost := false}]}}
      []), ob1, [], by unfold State.Quiet State.Still; decide +kernel⟩,
⟨(st {devUp with rl := {wanted := [5]}} []), 5, 0, none, by unfold State.Quiet State.Still; decide +kernel⟩,
⟨(up [(O.JQ_STATE,0,2),(O.RL_STATE,0,2),(O.RL_ENABLE,0,1)]), by unfold State.Quiet State.Still; decide +kernel⟩,
⟨(up []), hd, by unfold Accepts Served State.Quiet State.Still; decide +kernel⟩,
⟨(up [(O.JQ_STATE,0,2)]), hd, by unfold Accepts Served State.Quiet State.Still; decide +kernel⟩,
⟨(up [(O.MEM_STATE,0,3)]), hd, 1, by unfold Accepts Served State.Quiet State.Still; decide +kernel⟩,
⟨(up []), hd, by unfold Accepts Served State.Quiet State.Still; decide +kernel⟩,
⟨(up [(O.RL_STATE,0,1)]), by unfold State.Quiet State.Still; decide +kernel⟩⟩

theorem meets_DigitisersAndFilters :
(∃ (s : State) (h : Hdr) (n : Nat), s.Quiet ∧ n < 32 ∧ Accepts s h O.DG_POWER n 1 ∧ s.dev.o O.DG_STATE n = 0) ∧
(∃ (s : State) (h : Hdr) (n : Nat), s.Quiet ∧ n < 32 ∧ Accepts s h O.DG_POWER n 0) ∧
(∃ (s : State) (n : Nat), s.Quiet ∧ n < 32 ∧ s.dev.o O.DG_STATE n = 1 ∧ tget 0 s.dev.acq.wakeAt n + 30000 ≤ s.clock.time ∧
      s.dev.paired n = false) ∧
(∃ (s : State) (n : Nat), s.Quiet ∧ n < 32 ∧ s.dev.o O.DG_STATE n = 1 ∧ tget 0 s.dev.acq.wakeAt n + 150000 ≤ s.clock.time) ∧
(∃ (s : State) (h : Hdr) (n p v : Nat), s.Quiet ∧ n < 32 ∧ p < 16 ∧ s.dev.o O.JQ_STATE = 0 ∧ Accepts s h O.DG_PAIR_MODE p v) ∧
(∃ (s : State) (h : Hdr) (c v : Nat), s.Quiet ∧ c < 32 ∧ Accepts s h O.FILT_SWAP_REQ c v ∧ s.dev.o O.FILT_STATE c = 2) ∧
(∃ (s : State) (h : Hdr) (c v : Nat), s.Quiet ∧ c < 32 ∧ Accepts s h O.FILT_SWAP_REQ c v ∧ s.dev.o O.FILT_STATE c = 0) ∧
(∃ (s : State) (h : Hdr) (c v : Nat), s.Quiet ∧ c < 32 ∧ Accepts s h O.FILT_SWAP_REQ c v ∧ s.dev.o O.FILT_STATE c = 3) ∧
(∃ (s : State) (h : Hdr) (c v : Nat), s.Quiet ∧ c < 32 ∧ Accepts s h O.FILT_SWAP_REQ c v ∧ s.dev.o O.FILT_STATE c = 1 ∧ v ≠
      s.dev.o O.FILT_BANK c ∧ s.dev.o O.FILT_XFADE_LEN c ≠ 0) ∧
(∃ (s : State) (c : Nat), s.Quiet ∧ c < 32 ∧ s.dev.o O.FILT_STATE c = 2 ∧ (s.dev.chain c).start + (s.dev.chain c).len ≤
      s.dev.outIndex c (2 * s.clock.time + 1) ∧ s.dev.o O.FILT_SWAP_REQ c = 0xFF) ∧
(∃ (s : State) (c : Nat), s.Quiet ∧ c < 32 ∧ s.dev.o O.FILT_STATE c = 2 ∧ (s.dev.chain c).start + (s.dev.chain c).len ≤
      s.dev.outIndex c (2 * s.clock.time + 1) ∧ s.dev.o O.FILT_SWAP_REQ c ≠ 0xFF ∧ s.dev.o O.FILT_SWAP_REQ c ≠ (s.dev.chain
      c).target ∧ s.dev.o O.FILT_XFADE_LEN c ≠ 0) ∧
(∃ (s : State) (h : Hdr) (c m : Nat), s.Quiet ∧ c < 32 ∧ Accepts s h O.FILT_SYNC 0 m) ∧
(∃ (s : State) (c : Nat), s.Quiet ∧ c < 32 ∧ s.dev.o O.FILT_STATE c = 0 ∧ (s.dev.chain c).syncAt ≤ 2 * s.clock.time + 1 ∧
      s.dev.fillLen c ≤ s.dev.outIndex c (2 * s.clock.time + 1)) :=
  ⟨⟨(up []), hd, 31, by unfold Accepts Served State.Quiet State.Still; decide +kernel⟩,
⟨(up [(O.DG_STATE,31,2),(O.DG_POWER,31,1)]), hd, 31, by unfold Accepts Served State.Quiet State.Still; decide +kernel⟩,
⟨(st {devUp with acq := {wakeAt := [(31,2999999970000)]}} [(O.DG_STATE,31,1)]), 31,
      by unfold State.Quiet State.Still; decide +kernel⟩,
⟨(st {devUp with acq := {wakeAt := [(31,2999999850000)]}} [(O.DG_STATE,31,1)]), 31,
      by unfold State.Quiet State.Still; decide +kernel⟩,
⟨(up []), hd, 0, 15, 0, by unfold Accepts Served State.Quiet State.Still; decide +kernel⟩,
⟨(up [(O.FILT_STATE,31,2)]), hd, 31, 1, by unfold Accepts Served State.Quiet State.Still; decide +kernel⟩,
⟨(up [(O.FILT_STATE,31,0)]), hd, 31, 1, by unfold Accepts Served State.Quiet State.Still; decide +kernel⟩,
⟨(up [(O.FILT_STATE,31,3)]), hd, 31, 1, by unfold Accepts Served State.Quiet State.Still; decide +kernel⟩,
⟨(up [(O.FILT_STATE,31,1),(O.FILT_XFADE_LEN,31,64)]), hd, 31, 1,
      by unfold Accepts Served State.Quiet State.Still; decide +kernel⟩,
⟨(st
      {devUp with acq := {chains := [(31,{eps := [{syncAt := 0, rate := 1, dm := 0, delay := 0, bank := 0, fades := [{start := 5, target := 1, len := 64}]}]})]}}
      [(O.FILT_STATE,31,2),(O.FILT_SWAP_REQ,31,255)]), 31, by unfold State.Quiet State.Still; decide +kernel⟩,
⟨(st
      {devUp with acq := {chains := [(31,{eps := [{syncAt := 0, rate := 1, dm := 0, delay := 0, bank := 0, fades := [{start := 5, target := 1, len := 64}]}]})]}}
      [(O.FILT_STATE,31,2),(O.FILT_SWAP_REQ,31,0),(O.FILT_XFADE_LEN,31,64)]), 31,
      by unfold State.Quiet State.Still; decide +kernel⟩,
⟨(up [(O.DG_STATE,31,2)]), hd, 31, (2^31), by unfold Accepts Served State.Quiet State.Still; decide +kernel⟩,
⟨(up [(O.FILT_STATE,31,0)]), 31, by unfold State.Quiet State.Still; decide +kernel⟩⟩

theorem meets_Acquisition :
(∃ (s : State) (h : Hdr), s.Quiet ∧ Accepts s h O.ACQ_RUN 0 1 ∧ s.dev.o O.ACQ_STATE = 0) ∧
(∃ (s : State) (h : Hdr), s.Quiet ∧ Accepts s h O.ACQ_RUN 0 0) ∧
(∃ (s : State) (h : Hdr), s.Quiet ∧ Accepts s h O.ACQ_ARM 0 1 ∧ s.dev.o O.ACQ_STATE = 5) ∧
(∃ (s : State) (h : Hdr), s.Quiet ∧ Accepts s h O.ACQ_DUMP 0 1 ∧ s.dev.o O.ACQ_STATE = 5) ∧
(∃ (s : State), s.Quiet ∧ s.dev.o O.ACQ_STATE = 1) ∧
(∃ (s : State), s.Quiet ∧ s.dev.o O.ACQ_STATE = 4 ∧ s.dev.acq.trig ≠ none ∧ s.dev.o O.ACQ_POST_COUNT ≤ s.dev.acq.posted) ∧
(∃ (s : State), s.Quiet ∧ s.dev.o O.ACQ_STATE = 6 ∧ s.dev.link.txq.any (fun p => p.kind == 4) = false ∧ s.dev.link.part.any (fun
      x => x.pkt.kind == 4) = false ∧ (s.dev.link.flight.any (fun p => p.1.kind == 4) = false ∨ s.dev.link.endAt ≤
      s.clock.time)) ∧
(∃ (s : State) (h : Hdr) (v : Nat), s.Quiet ∧ Accepts s h O.ACQ_TRIG_FORCE 0 v ∧ bit (s.dev.o O.ACQ_TRIG_SRC) 1 = true) ∧
(∃ (s : State), s.Quiet ∧ bit (s.dev.o O.ACQ_TRIG_SRC) 0 = true) ∧
(∃ (s : State) (i : Nat) (before y : Int) (f : Flight) (x : Epoch) (t64 : Nat), s.Quiet ∧ bit (s.dev.o O.ACQ_TRIG_SRC) 2 = true
      ∧ s.dev.crosses before y = true ∧ s.dev.jq.flight = some f ∧ f.wins = true ∧ s.dev.chainOn (s.dev.o O.ACQ_LEVEL_SLICE) =
      true ∧ x = (s.dev.chain (s.dev.o O.ACQ_LEVEL_SLICE)).now ∧ x.stop = none ∧ x.fill ≤ i ∧ i ≤ x.index (2 * s.clock.time + 1)
      ∧ t64 = 64 * x.syncAt + (64 * i + x.delay % 64) * 2 ^ x.dm / x.rate ∧ 64 * (f.emit + (s.dev.blockSpan f).1) ≤ t64 ∧ t64 <
      64 * (f.emit + (s.dev.blockSpan f).2)) ∧
(∃ (s : State) (x : Trig), s.Quiet ∧ nextTrig s.dev.acq.trigs = some x ∧ (s.dev.o O.ACQ_STATE = 2 ∨ s.dev.o O.ACQ_STATE = 3)) ∧
(∃ (s : State) (x : Trig), s.Quiet ∧ nextTrig s.dev.acq.trigs = some x ∧ s.dev.o O.ACQ_STATE ∈ [1, 4, 5, 6]) :=
  ⟨⟨(up [(O.ACQ_MODE,0,1)]), hd, by unfold Accepts Served State.Quiet State.Still; decide +kernel⟩,
⟨(up [(O.ACQ_STATE,0,4)]), hd, by unfold Accepts Served State.Quiet State.Still; decide +kernel⟩,
⟨(up [(O.ACQ_STATE,0,5)]), hd, by unfold Accepts Served State.Quiet State.Still; decide +kernel⟩,
⟨(up [(O.ACQ_STATE,0,5)]), hd, by unfold Accepts Served State.Quiet State.Still; decide +kernel⟩,
⟨(up [(O.ACQ_STATE,0,1)]), by unfold State.Quiet State.Still; decide +kernel⟩,
⟨(st {devUp with acq := {trig := some ⟨5,0,0⟩, posted := 1}} [(O.ACQ_STATE,0,4),(O.ACQ_POST_COUNT,0,1)]),
      by unfold State.Quiet State.Still; decide +kernel⟩,
⟨(up [(O.ACQ_STATE,0,6)]), by unfold State.Quiet State.Still; decide +kernel⟩,
⟨(up [(O.ACQ_STATE,0,2),(O.ACQ_TRIG_SRC,0,2)]), hd, 1, by unfold Accepts Served State.Quiet State.Still; decide +kernel⟩,
⟨(up [(O.ACQ_STATE,0,2),(O.ACQ_TRIG_SRC,0,1)]), by unfold State.Quiet State.Still; decide +kernel⟩,
⟨(st
      {devUp with jq := {flight := some fwc}, acq := {chains := [(0,{eps := [{syncAt := 5999999999000, rate := 1, dm := 0, delay := 0, bank := 0}]})]}}
      [(O.ACQ_STATE,0,2),(O.ACQ_TRIG_SRC,0,4),(O.JQ_STATE,0,2),(O.DG_STATE,0,2),(O.FILT_STATE,0,1),(O.ACQ_LEVEL,0,100),(O.ACQ_SPAN_LEN,0,5000)]),
      100, 99, 100, fwc, {syncAt := 5999999999000, rate := 1, dm := 0, delay := 0, bank := 0}, (64*5999999999100),
      by unfold State.Quiet State.Still; decide +kernel⟩,
⟨(st {devUp with acq := {trigs := [⟨5,0,0⟩]}} [(O.ACQ_STATE,0,2)]), ⟨5,0,0⟩, by unfold State.Quiet State.Still; decide +kernel⟩,
⟨(st {devUp with acq := {trigs := [⟨5,0,0⟩]}} [(O.ACQ_STATE,0,5)]), ⟨5,0,0⟩, by unfold State.Quiet State.Still; decide +kernel⟩⟩

theorem meets_CalibrationPasses :
(∃ (s : State) (g : Nat), s.Quiet ∧ g < 32 ∧ Dev.calNext s.env s.dev = some g ∧ s.dev.o O.JQ_STATE = 0 ∧ s.dev.o
      O.RX_GROUP_STATE g = 3) ∧
(∃ (s : State) (g : Nat), s.Quiet ∧ g < 32 ∧ Dev.calNext s.env s.dev = some g ∧ s.dev.o O.JQ_STATE ≠ 0 ∧ s.dev.calSkipper g =
      true ∧ tget 0 s.dev.rx.holder g = 0) ∧
(∃ (s : State) (g : Nat) (p : Pass) (m : CalMeas) (x : Nat), s.Quiet ∧ g < 32 ∧ s.dev.calPass g = some p ∧ p.all = true ∧
      p.tPass = none ∧ p.since = some x ∧ x + 3654000 ≤ s.clock.time ∧ s.dev.o O.RX_GROUP_STATE g = 3 ∧ s.dev.o
      O.CAL_REPAIRED_MODE ≠ 2 ∧ p.pos = 16 ∧ s.dev.calFails m = none) ∧
(∃ (s : State) (g : Nat) (p : Pass) (m : CalMeas) (x : Nat), s.Quiet ∧ g < 32 ∧ s.dev.calPass g = some p ∧ p.all = true ∧
      p.tPass = none ∧ p.since = some x ∧ x + 3654000 ≤ s.clock.time ∧ s.dev.o O.RX_GROUP_STATE g = 3 ∧ s.dev.o
      O.CAL_REPAIRED_MODE ≠ 2 ∧ p.pos = 16 ∧ s.dev.calFails m ≠ none) ∧
(∃ (s : State) (g : Nat) (p : Pass) (m : CalMeas) (x : Nat), s.Quiet ∧ g < 32 ∧ s.dev.calPass g = some p ∧ p.all = true ∧
      p.tPass = none ∧ p.since = some x ∧ x + 3654000 ≤ s.clock.time ∧ s.dev.o O.RX_GROUP_STATE g = 3 ∧ s.dev.o
      O.CAL_REPAIRED_MODE ≠ 2 ∧ p.pos = 15 ∧ s.dev.calFails m = none ∧ (s.dev.groupTemp g - p.t0).natAbs ≤ 10 ∧ s.dev.skipChan g
      = none) ∧
(∃ (s : State) (g : Nat) (p : Pass) (ns : Nat), s.Quiet ∧ g < 32 ∧ s.dev.calPass g = some p ∧ p.mode = 1 ∧ p.chunkEnd ≤
      s.clock.time ∧ ns ≤ 32000 ∧ Dev.gapOk s.env s.dev g = true ∧ s.dev.o O.RX_GROUP_STATE g = 3) ∧
(∃ (s : State) (g : Nat) (h : Hdr), s.Quiet ∧ g < 32 ∧ Accepts s h O.CAL_GROUP_REQ g 1) ∧
(∃ (s : State) (g : Nat), s.Quiet ∧ g < 32 ∧ g < s.env.groups ∧ s.dev.o O.CAL_LAST_PASS_TIME g + s.dev.o O.CAL_MAX_AGE_S *
      1500000000 ≤ s.clock.time) :=
  ⟨⟨(st {devUp with cal := {req := 2^31}} ((O.CAL_WAKE_OFF,0,1)::(O.CAL_RUN,0,1)::(O.RX_GROUP_STATE,31,3)::(List.range 32).flatMap
      (fun g => [(O.CAL_LAST_PASS_TIME,g,2999999999999),(O.CAL_DT_TRIG,0,60000)]))), 31,
      by unfold State.Quiet State.Still; decide +kernel⟩,
⟨(st {devUp with cal := {req := 2^31}} ((O.JQ_STATE,0,2)::(O.CAL_RUN,0,1)::(O.RX_GROUP_STATE,31,3)::(List.range 32).flatMap (fun
      g => [(O.CAL_LAST_PASS_TIME,g,2999999999999),(O.CAL_DT_TRIG,0,60000)]))), 31,
      by unfold State.Quiet State.Still; decide +kernel⟩,
⟨(st {devUp with cal := {pass := [(31,some p16)]}} [(O.RX_GROUP_STATE,31,3)]), 31, p16, okM, 2999996346000,
      by unfold State.Quiet State.Still; decide +kernel⟩,
⟨(st {devUp with cal := {pass := [(31,some p16)]}} [(O.RX_GROUP_STATE,31,3)]), 31, p16, {okM with zero := [81]}, 2999996346000,
      by unfold State.Quiet State.Still; decide +kernel⟩,
⟨(st {devUp with cal := {pass := [(31,some p15)]}} [(O.RX_GROUP_STATE,31,3)]), 31, p15, okM, 2999996346000,
      by unfold State.Quiet State.Still; decide +kernel⟩,
⟨(st {devUp with cal := {pass := [(31,some pgap)]}} [(O.RX_GROUP_STATE,31,3)]), 31, pgap, 32000,
      by unfold State.Quiet State.Still; decide +kernel⟩,
⟨(up []), 31, hd, by unfold Accepts Served State.Quiet State.Still; decide +kernel⟩,
⟨(up [(O.CAL_MAX_AGE_S,0,2000)]), 31, by unfold State.Quiet State.Still; decide +kernel⟩⟩

theorem meets_CalibrationStores :
(∃ (s : State) (h : Hdr), s.Quiet ∧ Accepts s h O.CAL_SAVE 0 1 ∧ s.dev.pwr.flashOp = 0) ∧
(∃ (s : State) (h : Hdr), s.Quiet ∧ Accepts s h O.CAL_SAVE 0 1 ∧ s.dev.pwr.flashOp ≠ 0) ∧
(∃ (s : State), s.Quiet ∧ s.dev.cal.changed = true ∧ s.dev.pwr.flashOp = 0 ∧ s.dev.cal.flashAt + s.dev.o O.CAL_FLASH_PERIOD_S *
      1500000000 ≤ s.clock.time) ∧
(∃ (s : State), s.Quiet ∧ s.dev.pwr.flashOp = 2 ∧ s.dev.cal.saveDue = false ∧ s.dev.cal.eraseDue = false) ∧
(∃ (s : State), s.Quiet ∧ s.dev.pwr.flashOp = 3 ∧ s.dev.cal.saveDue = false ∧ s.dev.cal.eraseDue = false) ∧
(∃ (s : State) (h : Hdr) (bs : Bytes), s.Quiet ∧ Served s h O.CAL_FACTORY_STORE ∧ s.dev.o O.LOCK_OWNER = 0xFF ∧ s.dev.commit =
      none ∧ s.dev.o O.JQ_STATE = 0 ∧ 1 ≤ bs.length ∧ bs.length ≤ 512) ∧
(∃ (s : State) (h : Hdr), s.Quiet ∧ Accepts s h O.CAL_RESTORE_FACTORY 0 1) :=
  ⟨⟨(up []), hd, by unfold Accepts Served State.Quiet State.Still; decide +kernel⟩,
⟨(st {devUp with pwr := {devUp.pwr with flashOp := 1}} []), hd,
      by unfold Accepts Served State.Quiet State.Still; decide +kernel⟩,
⟨(st {devUp with cal := {changed := true}} [(O.CAL_FLASH_PERIOD_S,0,2000)]), by unfold State.Quiet State.Still; decide +kernel⟩,
⟨(st {devUp with pwr := {devUp.pwr with flashOp := 2}} [(O.FW_FLASH_BUSY,0,1)]),
      by unfold State.Quiet State.Still; decide +kernel⟩,
⟨(st {devUp with pwr := {devUp.pwr with flashOp := 3}} [(O.FW_FLASH_BUSY,0,1)]),
      by unfold State.Quiet State.Still; decide +kernel⟩,
⟨(up []), hd, (zeros 512), by unfold Served State.Quiet State.Still; decide +kernel⟩,
⟨(up []), hd, by unfold Accepts Served State.Quiet State.Still; decide +kernel⟩⟩

theorem meets_ChecksAndMonitors :
(∃ (s : State) (ch : Nat), s.Quiet ∧ ch < s.env.channels ∧ tget 0 s.dev.cal.checkAt ch = 0 ∧ Dev.gapOk s.env s.dev (ch / 16) =
      true ∧ Dev.underCal s.env s.dev (s.dev.o O.RX_SLICE_OF ch) = false ∧ (s.dev.calStartup = true → Dev.rampsDone s.env s.dev
      = true)) ∧
(∃ (s : State), s.Quiet ∧ s.dev.cal.biasAt + 15000000000 ≤ s.clock.time) ∧
(∃ (s : State) (n : Nat) (temp : Int), s.Quiet ∧ n < 32 ∧ Dev.dgDue s.env s.dev n temp = true ∧ s.dev.paired n = false ∧ s.dev.o
      O.JQ_STATE = 0 ∧ (∀ p ∈ s.dev.cal.dgNew, p.1 < 32)) :=
  ⟨⟨(up [(O.RX_GROUP_STATE,31,3)]), 511, by unfold State.Quiet State.Still; decide +kernel⟩,
⟨(up []), by unfold State.Quiet State.Still; decide +kernel⟩,
⟨(up [(O.DG_STATE,31,2)]), 31, 250, by unfold State.Quiet State.Still; decide +kernel⟩⟩

theorem meets_BridgeSupervision :
(∃ (s : State) (n : Nat), s.Quiet ∧ s.dev.sbOn n = true ∧ s.dev.atl.blockAt + 3750 ≤ s.clock.time) ∧
(∃ (s : State) (n : Nat), s.Quiet ∧ s.dev.sbOn n = true ∧ (s.dev.bridge n).fault = 0 ∧ 2 ≤ (s.dev.bridge n).fails ∧
      (s.dev.bridge n).kind ≠ 0) ∧
(∃ (s : State) (n : Nat), s.Quiet ∧ s.dev.sbOn n = true ∧ (s.dev.bridge n).fault ≠ 0 ∧ 64 ≤ (s.dev.bridge n).passes) ∧
(∃ (s : State) (n k : Nat) (diff sense x : Int), s.Quiet ∧ s.dev.sbOn n = true ∧ (s.dev.bridge n).resultBlk < s.dev.atl.blocks /
      s.dev.sbBlocks n * s.dev.sbBlocks n ∧ sense ≠ 0 ∧ 142 ≤ k ∧ (s.dev.bridge n).gains = [] ∧ (∀ p ∈ s.dev.atl.holds, p.1 ≠ n)
      ∧ x = clampI (-8388608) 8388607 (roundHE ((diff * 4 ^ (s.dev.bridge n).pga * 8388608 : Int) / (sense : Rat))) ∧
      (s.dev.bridge n).fault = 0 ∧ (s.dev.bridge n).failAt = 0) ∧
(∃ (s : State) (n : Nat), s.Quiet ∧ s.dev.sbOn n = true ∧ (s.dev.bridge n).resultBlk < s.dev.atl.blocks / s.dev.sbBlocks n *
      s.dev.sbBlocks n ∧ (s.dev.bridge n).fault ≠ 0) :=
  ⟨⟨(up [(O.SB_MODE,7,1)]), 7, by unfold State.Quiet State.Still; decide +kernel⟩,
⟨(st {devUp with atl := {bridges := [(7,{fails := 2, kind := 1})]}} [(O.SB_MODE,7,1)]), 7,
      by unfold State.Quiet State.Still; decide +kernel⟩,
⟨(st {devUp with atl := {bridges := [(7,{fault := 2, passes := 64})]}} [(O.SB_MODE,7,1)]), 7,
      by unfold State.Quiet State.Still; decide +kernel⟩,
⟨(st {devUp with atl := {blocks := 12}} [(O.SB_MODE,7,1)]), 7, 142, 0, 1, 0, by unfold State.Quiet State.Still; decide +kernel⟩,
⟨(st {devUp with atl := {blocks := 12, bridges := [(7,{fault := 2, passes := 64})]}} [(O.SB_MODE,7,1)]), 7,
      by unfold State.Quiet State.Still; decide +kernel⟩⟩

theorem meets_LoopsAreSampledAndSupervised :
(∃ (s : State) (q : Nat), s.Quiet ∧ q < s.env.slots ∧ s.dev.o O.ATL_DIV q ≤ (s.dev.slot q).results) ∧
(∃ (s : State) (q : Nat), s.Quiet ∧ q < s.env.slots ∧ (s.dev.slot q).results < s.dev.o O.ATL_DIV q ∧ s.dev.o O.ATL_STATE q ≠ 2 ∧
      s.dev.o O.ATL_STATE q ≠ 3) ∧
(∃ (s : State) (q : Nat) (p : Sample), s.Quiet ∧ q < s.env.slots ∧ s.pending = [] ∧ (s.dev.slot q).due = some p ∧ s.clock.time +
      1 = p.time + 600 ∧ s.dev.pwr.fabric = true ∧ (∀ t ∈ s.dev.jq.lineDue, 2 * s.clock.time + 3 < t) ∧ (∀ x ∈ s.dev.acq.syncs,
      2 * s.clock.time + 3 < x.2) ∧ (∀ x ∈ s.dev.rx.darkLate, 2 * s.clock.time + 3 < x.due)) ∧
(∃ (s : State) (q : Nat), s.Quiet ∧ q < s.env.slots ∧ (s.dev.slot q).results < s.dev.o O.ATL_DIV q ∧ s.dev.o O.ATL_STATE q = 2 ∧
      s.dev.o O.ATL_OUT q ≠ 0 ∧ (s.dev.slot q).sampleAt - 1 + 3 * s.dev.loopPeriod q ≤ s.clock.time) ∧
(∃ (s : State) (q c : Nat), s.Quiet ∧ q < s.env.slots ∧ s.dev.coilOn c = true ∧ s.dev.slotOfCoil c = some q) ∧
(∃ (s : State) (q c : Nat), s.Quiet ∧ q < s.env.slots ∧ s.dev.coilOn c = true ∧ s.dev.slotOfCoil c = some q ∧ 20 ≤ |(s.dev.slot
      q).u|) ∧
(∃ (s : State) (q c : Nat), s.Quiet ∧ q < s.env.slots ∧ s.dev.coilOn c = true) :=
  ⟨⟨(st {devUp with atl := {slots := [(3,{results := 8})]}} [(O.ATL_DIV,3,8),(O.ATL_STATE,3,2)]), 3,
      by unfold State.Quiet State.Still; decide +kernel⟩,
⟨(up [(O.ATL_DIV,3,2)]), 3, by unfold State.Quiet State.Still; decide +kernel⟩,
⟨(st
      {devUp with atl := {slots := [(3,{due := some {time := 2999999999401, usable := false, current := 0, decl := some (7,11), clean := false}})]}}
      [(O.ATL_STATE,3,2)]), 3, {time := 2999999999401, usable := false, current := 0, decl := some (7,11), clean := false},
      by unfold State.Quiet State.Still; decide +kernel⟩,
⟨(up [(O.ATL_DIV,3,2),(O.ATL_STATE,3,2),(O.ATL_OUT,3,1)]), 3, by unfold State.Quiet State.Still; decide +kernel⟩,
⟨(up [(O.ATL_STATE,3,2),(O.ATL_OUT,3,1),(O.ATL_COIL_STATUS,0,1)]), 3, 0, by unfold State.Quiet State.Still; decide +kernel⟩,
⟨(st {devUp with atl := {slots := [(3,{st := [{},{},{},{},{},{},{m := [-20],e := 30}]})]}}
      [(O.ATL_STATE,3,2),(O.ATL_OUT,3,1),(O.ATL_COIL_STATUS,0,1)]), 3, 0, by unfold State.Quiet State.Still; decide +kernel⟩,
⟨(up [(O.ATL_STATE,3,2),(O.ATL_OUT,3,1),(O.ATL_COIL_STATUS,0,1)]), 3, 0, by unfold State.Quiet State.Still; decide +kernel⟩⟩

theorem meets_AtlasModesAndMonitors :
(∃ (s : State) (h : Hdr) (q : Nat), s.Quiet ∧ q < 4 ∧ Accepts s h O.ATL_MODE q 0 ∧ s.dev.o O.ATL_STATE q ≠ 0) ∧
(∃ (s : State) (h : Hdr) (q : Nat), s.Quiet ∧ q < 4 ∧ Accepts s h O.ATL_MODE q 1 ∧ s.dev.o O.ATL_STATE q = 0 ∧ s.dev.o O.ATL_OUT
      q ≠ 0) ∧
(∃ (s : State) (h : Hdr) (q : Nat), s.Quiet ∧ q < 4 ∧ Accepts s h O.ATL_MODE q 1 ∧ (s.dev.o O.ATL_STATE q = 2 ∨ s.dev.o
      O.ATL_STATE q = 3)) ∧
(∃ (s : State) (h : Hdr) (q : Nat), s.Quiet ∧ q < 4 ∧ Accepts s h O.ATL_MODE q 2 ∧ s.dev.o O.ATL_STATE q ≠ 2 ∧ s.dev.o O.ATL_OUT
      q ≠ 0) ∧
(∃ (s : State) (h : Hdr) (q : Nat), s.Quiet ∧ q < 4 ∧ Accepts s h O.ATL_MODE q 3 ∧ s.dev.o O.ATL_STATE q = 2) ∧
(∃ (s : State) (q : Nat), s.Quiet ∧ q < 4 ∧ s.dev.o O.ATL_STATE q = 0 ∧ (s.dev.slot q).ramp = true ∧ (s.dev.slot q).u = 0) ∧
(∃ (s : State) (p : Nat), s.Quiet ∧ p < 4 ∧ s.dev.o O.PD_MODE p ≠ 0 ∧ tget 0 s.dev.atl.pdAt p + s.dev.o O.PD_AVG_MS p * 1500000
      ≤ s.clock.time ∧ s.dev.o O.PD_STATUS p ≠ 2) ∧
(∃ (s : State) (h : Hdr) (p v : Nat), s.Quiet ∧ p < 4 ∧ Accepts s h O.PD_RANGE p v ∧ s.dev.o O.PD_MODE p ≠ 0 ∧ s.dev.o
      O.PD_RANGE p ≠ v) ∧
(∃ (s : State) (p c at_ : Nat), s.Quiet ∧ p < 4 ∧ s.dev.o O.PD_STATUS p = 2 ∧ s.dev.o O.PD_MODE p ≠ 0 ∧ tget none
      s.dev.atl.pdStale p = some (c, at_) ∧ at_ + 3000000 ≤ c + s.clock.time) ∧
(∃ (s : State) (p x : Nat), s.Quiet ∧ p < 4 ∧ tget none s.dev.atl.pdSat p = some x ∧ s.dev.o O.PD_STATUS p = 3 ∧ x + 1500000000
      ≤ s.clock.time ∧ bit s.dev.atl.pdLogged p = false) ∧
(∃ (s : State) (h : Hdr) (p : Nat), s.Quiet ∧ p < 4 ∧ Accepts s h O.ATL_TR_ARM 0 1) ∧
(∃ (s : State) (h : Hdr) (p : Nat), s.Quiet ∧ p < 4 ∧ Accepts s h O.ATL_TR_ARM 0 2 ∧ s.dev.o O.ATL_TR_STATE = 1 ∧ bit (s.dev.o
      O.ATL_TR_TRIG) 2 = true) ∧
(∃ (s : State) (p : Nat), s.Quiet ∧ p < 4 ∧ s.dev.o O.ATL_TR_STATE = 2 ∧ s.dev.atl.post = 0) ∧
(∃ (s : State) (h : Hdr) (p : Nat), s.Quiet ∧ p < 4 ∧ Accepts s h O.ATL_INJ_RUN p 1 ∧ (s.dev.slot p).injAt = none) ∧
(∃ (s : State) (h : Hdr) (p : Nat), s.Quiet ∧ p < 4 ∧ Accepts s h O.ATL_INJ_RUN p 0) :=
  ⟨⟨(up [(O.ATL_STATE,3,2),(O.ATL_OUT,3,1)]), hd, 3, by unfold Accepts Served State.Quiet State.Still; decide +kernel⟩,
⟨(up [(O.ATL_OUT,3,1)]), hd, 3, by unfold Accepts Served State.Quiet State.Still; decide +kernel⟩,
⟨(up [(O.ATL_STATE,3,2),(O.ATL_OUT,3,1)]), hd, 3, by unfold Accepts Served State.Quiet State.Still; decide +kernel⟩,
⟨(st {devUp with atl := {slots := [(3,{usable := true})]}} [(O.ATL_STATE,3,1),(O.ATL_OUT,3,1)]), hd, 3,
      by unfold Accepts Served State.Quiet State.Still; decide +kernel⟩,
⟨(up [(O.ATL_STATE,3,2),(O.ATL_OUT,3,1)]), hd, 3, by unfold Accepts Served State.Quiet State.Still; decide +kernel⟩,
⟨(st {devUp with atl := {slots := [(3,{ramp := true})]}} [(O.ATL_STATE,3,0)]), 3,
      by unfold State.Quiet State.Still; decide +kernel⟩,
⟨(up [(O.PD_MODE,3,1)]), 3, by unfold State.Quiet State.Still; decide +kernel⟩,
⟨(up [(O.PD_MODE,3,1)]), hd, 3, 3, by unfold Accepts Served State.Quiet State.Still; decide +kernel⟩,
⟨(st {devUp with atl := {pdStale := [(3, some (0, 5))]}} [(O.PD_STATUS,3,2),(O.PD_MODE,3,1)]), 3, 0, 5,
      by unfold State.Quiet State.Still; decide +kernel⟩,
⟨(st {devUp with atl := {pdSat := [(3,some 2998500000000)]}} [(O.PD_STATUS,3,3)]), 3, 2998500000000,
      by unfold State.Quiet State.Still; decide +kernel⟩,
⟨(up []), hd, 3, by unfold Accepts Served State.Quiet State.Still; decide +kernel⟩,
⟨(up [(O.ATL_TR_STATE,0,1),(O.ATL_TR_TRIG,0,4)]), hd, 3, by unfold Accepts Served State.Quiet State.Still; decide +kernel⟩,
⟨(up [(O.ATL_TR_STATE,0,2)]), 3, by unfold State.Quiet State.Still; decide +kernel⟩,
⟨(up []), hd, 3, by unfold Accepts Served State.Quiet State.Still; decide +kernel⟩,
⟨(st {devUp with atl := {slots := [(3,{injAt := some 5})]}} [(O.ATL_INJ_RUN,3,1)]), hd, 3,
      by unfold Accepts Served State.Quiet State.Still; decide +kernel⟩⟩

theorem meets_TapestryPoolWrites :
(∃ (s : State) (h : Hdr) (bs : Bytes), s.Quiet ∧ Served s h O.TAP_HOST_WRITE ∧ s.dev.o O.LOCK_OWNER = 0xFF ∧ s.dev.commit = none
      ∧ s.part.variant ≠ .jg5120 ∧ s.dev.found ≠ 0 ∧ 20 ≤ bs.length ∧ bs.length ≤ 512 ∧ s.dev.hostWriteOk bs = true ∧
      s.dev.bufAddr (fieldAt bs 0 4) (fieldAt bs 4 4) + (bs.length - 16) ≤ s.dev.capacity) ∧
(∃ (s : State) (h : Hdr) (el v : Nat), s.Quiet ∧ Accepts s h O.TAP_FILL el v) ∧
(∃ (s : State) (b n : Nat), s.Quiet ∧ s.dev.tap.fill = some (b, n)) :=
  ⟨⟨(st memUp []), hd, (hw 496), by unfold Served State.Quiet State.Still; decide +kernel⟩,
⟨(st memUp []), hd, 0, (1023*2^32 + 3840), by unfold Accepts Served State.Quiet State.Still; decide +kernel⟩,
⟨(st {memUp with tap := {fill := some (1023,384)}} [(O.TAP_FILL_BUSY,0,1)]), 1023, 384,
      by unfold State.Quiet State.Still; decide +kernel⟩⟩

theorem meets_RastersScanOut :
(∃ (s : State) (r : Raster), s.Quiet ∧ s.dev.tap.rasters.find? (fun x => x.stage == 2) = some r ∧ s.dev.tap.rasters.any (fun x
      => x.stage == 3) = false) ∧
(∃ (s : State) (r : Raster), s.Quiet ∧ s.dev.tap.rasters.find? (fun x => x.stage == 3) = some r ∧ 2 * r.scan + 3 * (r.line * r.o
      O.TAP_LINE_NS) ≤ 2 * s.clock.time) ∧
(∃ (s : State) (r : Raster) (unf : List Nat), s.Quiet ∧ s.dev.tap.rasters.find? (fun x => x.stage == 3) = some r ∧ unf ≠ [] ∧
      r.o O.TAP_LINE_NS ≠ 0 ∧ 2 * r.scan + 3 * ((r.line + 1) * r.o O.TAP_LINE_NS) ≤ 2 * s.clock.time) ∧
(∃ (s : State) (r : Raster), s.Quiet ∧ s.dev.tap.rasters.find? (fun x => x.stage == 4) = some r ∧ s.dev.pktWaits 5 r.num = false
      ∧ Dev.pktFlies s.env s.dev 5 r.num = false) :=
  ⟨⟨(st {memUp with tap := {rasters := [ra 2]}} []), (ra 2), by unfold State.Quiet State.Still; decide +kernel⟩,
⟨(st {memUp with tap := {rasters := [ra 3]}} [(O.LINK_STATE,0,2)]), (ra 3), by unfold State.Quiet State.Still; decide +kernel⟩,
⟨(st {memUp with tap := {rasters := [{ra 3 with cfg := [(okey O.TAP_LINE_NS 0, 1000)]}]}} [(O.LINK_STATE,0,2)]),
      {ra 3 with cfg := [(okey O.TAP_LINE_NS 0, 1000)]}, [0], by unfold State.Quiet State.Still; decide +kernel⟩,
⟨(st {memUp with tap := {rasters := [ra 4]}} [(O.LINK_STATE,0,2)]), (ra 4), by unfold State.Quiet State.Still; decide +kernel⟩⟩

theorem meets_SegmentsAndTimeExchange :
(∃ (s : State) (p : Packet), s.Quiet ∧ s.dev.linkUp = true ∧ s.dev.choose = some p ∧ p.ty < 16 ∧ (s.dev.link.flight = none ∨
      s.dev.link.endAt ≤ s.clock.time) ∧ s.dev.link.part = []) ∧
(∃ (s : State), s.Quiet ∧ s.dev.linkUp = true ∧ s.dev.pairDue s.env = true ∧ s.dev.pairMarks s.env = false) ∧
(∃ (s : State), s.Quiet ∧ s.dev.linkUp = true ∧ 0 < s.dev.link.owed ∧ s.dev.link.endAt + 15000 ≤ s.clock.time ∧
      s.dev.link.txq.any (fun p => p.kind == 3) = false ∧ s.dev.o O.LINK_ACTIVE_HRX ≠ 0) ∧
(∃ (s : State) (frac : Nat), s.Quiet ∧ s.dev.linkUp = true ∧ frac < 65536 ∧ s.dev.pairDue s.env = true ∧ s.dev.pairMarks s.env =
      true) ∧
(∃ (s : State) (frac : Nat), s.Quiet ∧ s.dev.linkUp = true ∧ frac < 65536 ∧ s.dev.o O.LINK_ACTIVE_HRX ≠ 0) ∧
(∃ (s : State) (b g c : List RxCol) (p : Bytes × Bool) (d : Dev) (x : RxSeg) (d' : Dev) (y : TsSync) (a : Nat × Nat), s.Quiet ∧
      s.dev.linkUp = true ∧ s.dev.o O.LINK_ACTIVE_HRX ≠ 0 ∧ ({ s.dev with sent := [] } : Dev).rxColumns (b ++ g ++ c) = ([p], d)
      ∧ d.rxSeg p.2 p.1 = (some x, d') ∧ x.ty = 7 ∧ s.dev.syncOf (fieldAt x.payload 2 2) = some y ∧ s.dev.syncLast = some y ∧
      s.dev.markerAfter y = some a) ∧
(∃ (s : State) (b g c : List RxCol) (p : Bytes × Bool) (d : Dev) (x : RxSeg) (d' : Dev), s.Quiet ∧ s.dev.linkUp = true ∧ s.dev.o
      O.LINK_ACTIVE_HRX ≠ 0 ∧ ({ s.dev with sent := [] } : Dev).rxColumns (b ++ g ++ c) = ([p], d) ∧ d.rxSeg p.2 p.1 = (some x,
      d') ∧ x.ty = 7 ∧ s.dev.syncOf (fieldAt x.payload 2 2) = none) ∧
(∃ (s : State) (late : List TsSync), s.Quiet ∧ s.dev.linkUp = true ∧ late = s.dev.link.syncs.filter (fun x => !x.done &&
      x.left.any (fun a => a + 15000000 ≤ s.clock.time)) ∧ late ≠ []) :=
  ⟨⟨(st {devUp with link := {txq := [pk], held := 5}} lk), pk, by unfold State.Quiet State.Still; decide +kernel⟩,
⟨(st {devUp with link := {tsNext := 4000000000000}} lk), by unfold State.Quiet State.Still; decide +kernel⟩,
⟨(st {devUp with link := {owed := 20}} lk), by unfold State.Quiet State.Still; decide +kernel⟩,
⟨(st devUp lk), 65535, by unfold State.Quiet State.Still; decide +kernel⟩,
⟨(st devUp lk), 65535, by unfold State.Quiet State.Still; decide +kernel⟩,
⟨upS, [], (rx1 dr), [], (dr, false), ((upD upS).rxColumns ([] ++ rx1 dr ++ [])).2, {ty := 7, payload := (dr.drop 8).take 16},
      (((upD upS).rxColumns ([] ++ rx1 dr ++ [])).2.rxSeg false dr).2, (tso (some 2999999950000)), (2999999960000, 9),
      by unfold State.Quiet State.Still; decide +kernel⟩,
⟨(st devUp lk), [], (rx1 dr), [], (dr, false), ((upD (st devUp lk)).rxColumns ([] ++ rx1 dr ++ [])).2,
      {ty := 7, payload := (dr.drop 8).take 16}, (((upD (st devUp lk)).rxColumns ([] ++ rx1 dr ++ [])).2.rxSeg false dr).2,
      by unfold State.Quiet State.Still; decide +kernel⟩,
⟨(st {devUp with link := {syncs := [tso (some 2999985000000)]}} lk), [tso (some 2999985000000)],
      by unfold State.Quiet State.Still; decide +kernel⟩⟩

theorem meets_LaneBringUpAndLoss :
(∃ (s : State) (h : Hdr), s.Quiet ∧ Accepts s h O.LINK_ENABLE 0 1 ∧ s.dev.o O.LINK_STATE = 0 ∧ 5 ≤ s.dev.o O.SU_STATE ∧ s.dev.o
      O.SU_STATE ≤ 7) ∧
(∃ (s : State) (h : Hdr), s.Quiet ∧ Accepts s h O.LINK_ENABLE 0 0) ∧
(∃ (s : State) (n : Nat) (groups : List Nat) (k : Nat), s.Quiet ∧ s.dev.o O.LINK_STATE = 1 ∧ n < 2 ∧ k < 2 ∧ bit (s.dev.o
      O.LINK_HRX_MASK) n = true ∧ lockNumber (s.dev.o O.LINK_RATE) (({ s.dev with sent := [] } : Dev).rxGroups n groups).1 =
      some k) ∧
(∃ (s : State) (n : Nat), s.Quiet ∧ s.dev.o O.LINK_STATE = 1 ∧ n < 2 ∧ bit s.dev.link.locked n = true) ∧
(∃ (s : State), s.Quiet ∧ s.dev.o O.LINK_STATE = 1 ∧ s.dev.o O.LINK_LOSS_POLICY = 1 ∧ s.dev.link.aligned ≠ 0 ∧
      s.dev.link.trainAt + 1500000 ≤ s.clock.time) ∧
(∃ (s : State), s.Quiet ∧ s.dev.o O.LINK_STATE = 1 ∧ s.dev.link.trainAt + 1500 * s.dev.o O.LINK_TRAIN_MIN_US ≤ s.clock.time ∧
      s.dev.o O.LINK_HRX_MASK = 0) ∧
(∃ (s : State) (hTx hRx : Nat), s.Quiet ∧ s.dev.o O.LINK_STATE = 1 ∧ s.dev.link.trainAt + 1500 * s.dev.o O.LINK_TRAIN_MIN_US ≤
      s.clock.time ∧ s.dev.o O.LINK_HRX_MASK ≠ 0 ∧ s.dev.link.alignedOk = true ∧ s.dev.link.alignedAt + s.dev.colCycles 129 ≤
      s.clock.time ∧ s.dev.byNumber s.dev.link.aligned &&& hTx ≠ 0 ∧ s.dev.o O.LINK_MIN_TX_LANES ≤ popcount 8 (s.dev.o
      O.LINK_TX_MASK &&& hRx)) ∧
(∃ (s : State), s.Quiet ∧ s.dev.o O.LINK_STATE = 1 ∧ s.dev.link.trainLong = false ∧ s.dev.link.trainAt + 75000000 ≤
      s.clock.time) ∧
(∃ (s : State) (n cause : Nat), s.Quiet ∧ s.dev.linkUp = true ∧ n < 8 ∧ (cause = 3 ∨ cause = 4) ∧ bit (s.dev.o O.LINK_ACTIVE_TX)
      n = true ∧ s.dev.o O.LINK_LOSS_POLICY = 1 ∧ s.dev.o O.LINK_ACTIVE_HRX ≠ 0 ∧ s.dev.o O.LINK_MIN_TX_LANES ≤ popcount 8
      (setBit (s.dev.o O.LINK_ACTIVE_TX) n false)) ∧
(∃ (s : State) (n cause : Nat), s.Quiet ∧ s.dev.linkUp = true ∧ n < 8 ∧ (cause = 3 ∨ cause = 4) ∧ bit (s.dev.o O.LINK_ACTIVE_TX)
      n = true ∧ s.dev.o O.LINK_LOSS_POLICY = 0) ∧
(∃ (s : State) (hTx hRx : Nat), s.Quiet ∧ s.dev.linkUp = true ∧ s.dev.o O.LINK_ACTIVE_HRX ≠ 0 ∧ s.dev.o O.LINK_LOSS_POLICY = 1 ∧
      s.dev.o O.LINK_MIN_TX_LANES ≤ popcount 8 (s.dev.o O.LINK_ACTIVE_TX &&& hRx) ∧ s.dev.o O.LINK_ACTIVE_HRX &&& hTx ≠ 0) ∧
(∃ (s : State), s.Quiet ∧ s.dev.linkUp = true ∧ s.dev.o O.LINK_ACTIVE_HRX ≠ 0) ∧
(∃ (s : State) (h : Hdr), s.Quiet ∧ s.dev.linkUp = true ∧ Accepts s h O.LINK_RETRAIN 0 1) :=
  ⟨⟨(up []), hd, by unfold Accepts Served State.Quiet State.Still; decide +kernel⟩,
⟨(st devUp lk), hd, by unfold Accepts Served State.Quiet State.Still; decide +kernel⟩,
⟨(up [(O.LINK_STATE,0,1),(O.LINK_HRX_MASK,0,3)]), 1, (ts8 1), 1, by unfold State.Quiet State.Still; decide +kernel⟩,
⟨(st {devUp with link := {locked := 2}} [(O.LINK_STATE,0,1),(O.LINK_HRX_MASK,0,3)]), 1,
      by unfold State.Quiet State.Still; decide +kernel⟩,
⟨(st {devUp with link := {aligned := 2}} [(O.LINK_STATE,0,1),(O.LINK_HRX_MASK,0,3),(O.LINK_LOSS_POLICY,0,1)]),
      by unfold State.Quiet State.Still; decide +kernel⟩,
⟨(st devUp [(O.LINK_STATE,0,1),(O.LINK_HRX_MASK,0,0)]), by unfold State.Quiet State.Still; decide +kernel⟩,
⟨(st {devUp with link := {alignedOk := true, aligned := 1, locked := 1}} [(O.LINK_STATE,0,1),(O.LINK_HRX_MASK,0,1)]), 1, 255,
      by unfold State.Quiet State.Still; decide +kernel⟩,
⟨(st devUp [(O.LINK_STATE,0,1)]), by unfold State.Quiet State.Still; decide +kernel⟩,
⟨(st devUp (lk ++ [(O.LINK_MIN_TX_LANES,0,1)])), 3, 3, by unfold State.Quiet State.Still; decide +kernel⟩,
⟨(st devUp (lk ++ [(O.LINK_LOSS_POLICY,0,0)])), 3, 3, by unfold State.Quiet State.Still; decide +kernel⟩,
⟨(st devUp (lk ++ [(O.LINK_MIN_TX_LANES,0,1)])), 1, 3, by unfold State.Quiet State.Still; decide +kernel⟩,
⟨(st devUp lk), by unfold State.Quiet State.Still; decide +kernel⟩,
⟨(st devUp lk), hd, by unfold Accepts Served State.Quiet State.Still; decide +kernel⟩⟩

theorem meets_LaneTests :
(∃ (s : State) (h : Hdr) (n v : Nat), s.Quiet ∧ n < 8 ∧ v ≠ 0 ∧ Accepts s h O.PRBS_GEN n v) ∧
(∃ (s : State) (h : Hdr) (n v : Nat), s.Quiet ∧ n < 10 ∧ v ≠ 0 ∧ Accepts s h O.PRBS_CHK n v) ∧
(∃ (s : State) (n : Nat), s.Quiet ∧ n < 10 ∧ s.dev.o O.PRBS_CHK n ≠ 0 ∧ s.dev.o O.PRBS_SYNC n = 0 ∧ (8 ≤ n ∨ s.dev.o O.PRBS_GEN
      n = s.dev.o O.PRBS_CHK n)) ∧
(∃ (s : State) (n v : Nat), s.Quiet ∧ n < 10 ∧ s.dev.o O.PRBS_SYNC n ≠ 0 ∧ 32 < v) ∧
(∃ (s : State) (h : Hdr) (n : Nat), s.Quiet ∧ n < 8 ∧ Accepts s h O.INJ_GO n 1 ∧ s.dev.o O.INJ_PERIOD n = 0 ∧ s.dev.o O.INJ_KIND
      n ≠ 0 ∧ s.dev.o O.PRBS_GEN n = 0) ∧
(∃ (s : State) (h : Hdr) (n : Nat), s.Quiet ∧ n < 8 ∧ Accepts s h O.INJ_GO n 1 ∧ s.dev.o O.INJ_PERIOD n ≠ 0) ∧
(∃ (s : State) (h : Hdr) (n : Nat), s.Quiet ∧ n < 8 ∧ Accepts s h O.INJ_GO n 0) ∧
(∃ (s : State) (n : Nat), s.Quiet ∧ n < 8 ∧ s.dev.o O.INJ_GO n ≠ 0 ∧ s.dev.o O.INJ_PERIOD n ≠ 0 ∧ s.dev.o O.INJ_KIND n ≠ 0 ∧
      s.dev.o O.PRBS_GEN n = 0 ∧ tget 0 s.dev.link.injAt n + s.dev.colCycles (s.dev.o O.INJ_PERIOD n) ≤ s.clock.time) :=
  ⟨⟨(up []), hd, 7, 1, by unfold Accepts Served State.Quiet State.Still; decide +kernel⟩,
⟨(up []), hd, 9, 1, by unfold Accepts Served State.Quiet State.Still; decide +kernel⟩,
⟨(up [(O.PRBS_CHK,9,1)]), 9, by unfold State.Quiet State.Still; decide +kernel⟩,
⟨(up [(O.PRBS_CHK,9,1),(O.PRBS_SYNC,9,1)]), 9, 33, by unfold State.Quiet State.Still; decide +kernel⟩,
⟨(up [(O.INJ_KIND,7,1)]), hd, 7, by unfold Accepts Served State.Quiet State.Still; decide +kernel⟩,
⟨(up [(O.INJ_PERIOD,7,1)]), hd, 7, by unfold Accepts Served State.Quiet State.Still; decide +kernel⟩,
⟨(up [(O.INJ_GO,7,1)]), hd, 7, by unfold Accepts Served State.Quiet State.Still; decide +kernel⟩,
⟨(up [(O.INJ_KIND,7,1),(O.INJ_GO,7,1),(O.INJ_PERIOD,7,1)]), 7, by unfold State.Quiet State.Still; decide +kernel⟩⟩

theorem meets_MemoryTrainingAndPeek :
(∃ (s : State) (x : Nat), s.Quiet ∧ s.dev.mem.trainAt = some x) ∧
(∃ (s : State) (x : Nat) (ok1 : Bool) (n : Nat), s.Quiet ∧ s.dev.mem.trainAt = some x ∧ n = (if s.env.memMax = 2 ∧ s.part.fitted
      = 2 ∧ ok1 = true then 2 else 1) ∧ s.dev.o O.SU_STATE ≠ 4 ∧ (s.dev.o O.MEM_STATE ≠ 4 ∨ s.dev.found ≠ n)) ∧
(∃ (s : State) (x : Nat) (ok1 : Bool) (n : Nat), s.Quiet ∧ s.dev.mem.trainAt = some x ∧ n = (if s.env.memMax = 2 ∧ s.part.fitted
      = 2 ∧ ok1 = true then 2 else 1) ∧ s.dev.o O.SU_STATE ≠ 4 ∧ s.dev.o O.MEM_STATE = 4 ∧ s.dev.found = n) ∧
(∃ (s : State) (h : Hdr), s.Quiet ∧ Accepts s h O.MEM_RETRAIN 0 1 ∧ s.dev.o O.MEM_STATE = 2) ∧
(∃ (s : State) (n k : Nat), s.Quiet ∧ s.dev.pwr.warm = true ∧ s.dev.o O.SU_STATE = 4 ∧ s.dev.o O.MEM_STATE = 0 ∧
      s.dev.mem.trained = some (n, k)) ∧
(∃ (s : State), s.Quiet ∧ s.dev.pwr.warm = true ∧ s.dev.o O.SU_STATE = 4 ∧ s.dev.o O.MEM_STATE = 0 ∧ s.dev.mem.trained = none) ∧
(∃ (s : State) (h : Hdr) (a : Nat), s.Quiet ∧ Served s h O.MEM_PEEK ∧ s.dev.found ≠ 0 ∧ s.dev.o O.MEM_PEEK_ADDR = a ∧ a % 256 =
      0 ∧ a + 256 ≤ s.dev.capacity ∧ s.dev.blkPoison (a / 256) = false) ∧
(∃ (s : State) (h : Hdr) (a : Nat), s.Quiet ∧ Served s h O.MEM_PEEK ∧ s.dev.found ≠ 0 ∧ s.dev.o O.MEM_PEEK_ADDR = a ∧ a % 256 =
      0 ∧ a + 256 ≤ s.dev.capacity ∧ s.dev.blkPoison (a / 256) = true) :=
  ⟨⟨(st {memUp with mem := {trainAt := some 5}} [(O.MEM_STATE,0,1)]), 5, by unfold State.Quiet State.Still; decide +kernel⟩,
⟨(st {memUp with mem := {trainAt := some 5}} [(O.MEM_STATE,0,1)]), 5, true, 2,
      by unfold State.Quiet State.Still; decide +kernel⟩,
⟨(st {memUp with mem := {trainAt := some 5}} [(O.MEM_STATE,0,4)]), 5, true, 2,
      by unfold State.Quiet State.Still; decide +kernel⟩,
⟨(st memUp []), hd, by unfold Accepts Served State.Quiet State.Still; decide +kernel⟩,
⟨(st {memUp with pwr := {memUp.pwr with warm := true}, mem := {trained := some (2,1)}} [(O.MEM_STATE,0,0),(O.SU_STATE,0,4)]), 2,
      1, by unfold State.Quiet State.Still; decide +kernel⟩,
⟨(st {memUp with pwr := {memUp.pwr with warm := true}} [(O.MEM_STATE,0,0),(O.SU_STATE,0,4)]),
      by unfold State.Quiet State.Still; decide +kernel⟩,
⟨(st {memUp with gddr := [(0xFFFFFF05,7)]} [(O.MEM_PEEK_ADDR,0,0xFFFFFF00)]), hd, 0xFFFFFF00,
      by unfold Served State.Quiet State.Still; decide +kernel⟩,
⟨(st {memUp with mem := {memUp.mem with poison := [0xFFFFFF]}} [(O.MEM_PEEK_ADDR,0,0xFFFFFF00)]), hd, 0xFFFFFF00,
      by unfold Served State.Quiet State.Still; decide +kernel⟩⟩

theorem meets_MemoryUpkeepAndErrors :
(∃ (s : State) (ch : Nat), s.Quiet ∧ ch < 8 ∧ s.dev.o O.MEM_STATE = 2 ∧ s.dev.o O.MEM_CH_STATE ch = 1 ∧ tget 0 s.dev.mem.trackAt
      ch + 1500000 * s.dev.o O.MEM_TRACK_MS ≤ s.clock.time) ∧
(∃ (s : State) (ch bank : Nat), s.Quiet ∧ ch < 8 ∧ s.dev.o O.MEM_STATE = 2 ∧ s.dev.o O.MEM_CH_STATE ch = 1 ∧ bank < 16) ∧
(∃ (s : State) (req addr n : Nat), s.Quiet ∧ s.dev.memLive req addr = true ∧ n ≠ 0) ∧
(∃ (s : State) (req addr n : Nat), s.Quiet ∧ s.dev.memLive req addr = true ∧ n ≠ 0) ∧
(∃ (s : State) (ch : Nat), s.Quiet ∧ ch < 8 ∧ s.dev.o O.MEM_CH_STATE ch = 2) :=
  ⟨⟨(st memUp []), 7, by unfold State.Quiet State.Still; decide +kernel⟩,
⟨(st memUp []), 7, 15, by unfold State.Quiet State.Still; decide +kernel⟩,
⟨(st memUp []), 15, 0xFFFFFFFF, 1, by unfold State.Quiet State.Still; decide +kernel⟩,
⟨(st memUp []), 15, 0xFFFFFFFF, 1, by unfold State.Quiet State.Still; decide +kernel⟩,
⟨(st memUp [(O.MEM_CH_STATE,7,2)]), 7, by unfold State.Quiet State.Still; decide +kernel⟩⟩

theorem meets_Arbitration :
(∃ (s : State) (port : Nat) (own : List Nat) (r : Nat) (w : Waiter) (b : Burst) (l : List Burst), s.Quiet ∧ port < 4 ∧ tget none
      s.dev.mem.owner port = some r ∧ 2 ≤ tget 0 s.dev.mem.left port ∧ s.dev.mem.waiting.find? (fun x => x.port == port &&
      x.requester == r) = some w ∧ w.bursts = b :: l ∧ l ≠ [] ∧ (tget [] s.dev.mem.buffer port).length < 32 ∧ (∀ x ∈
      s.dev.mem.waiting, x.port = port → x.requester ≠ r → s.dev.urgent own x = false)) ∧
(∃ (s : State) (port : Nat) (l : List Waiter) (prev : Nat), s.Quiet ∧ port < 4 ∧ (∀ x ∈ s.dev.mem.waiting, x.bursts ≠ []) ∧
      (match tget none s.dev.mem.owner port with
        | some r => l = burstDone port r s.dev.mem.waiting ∧ prev = r ∧ tget 0 s.dev.mem.left port ≤ 1 ∧ (tget [] s.dev.mem.buffer port).length < 32
        | none => l = s.dev.mem.waiting ∧ prev = 15)
      ∧ (∃ x ∈ l, x.port = port)) ∧
(∃ (s : State) (port req : Nat) (w : Waiter) (pre : List Burst) (b : Burst) (post : List Burst), s.Quiet ∧ port < 4 ∧
      s.dev.mem.waiting.find? (fun x => x.port == port && x.requester == req) = some w ∧ w.bursts = pre ++ b :: post ∧ (∀ x ∈
      pre, x.promoted = true) ∧ b.promoted = false ∧ b.since + s.dev.o O.MEM_ARB_PROMOTE ≤ s.clock.time) :=
  ⟨⟨(st {memUp with mem := {memUp.mem with owner := [(3,some 2)], left := [(3,2)], waiting := [wt 2 2]}} []), 3, [], 2, (wt 2 2),
      bu0, [bu1], by unfold State.Quiet State.Still; decide +kernel⟩,
⟨(st {memUp with mem := {memUp.mem with waiting := [wt 2 2, wt 4 1]}} []), 3, [wt 2 2, wt 4 1], 15,
      by unfold State.Quiet State.Still; decide +kernel, by decide +kernel, by decide +kernel, ⟨rfl, rfl⟩, by decide +kernel⟩,
⟨(st {memUp with mem := {memUp.mem with waiting := [wt 2 2, wt 4 1]}} []), 3, 2, (wt 2 2), [], bu0, [bu1],
      by unfold State.Quiet State.Still; decide +kernel⟩⟩

theorem meets_Conversions :
(∃ (s : State) (w : Nat), s.Quiet ∧ w = s.dev.seqWord s.dev.hk.ent ∧ s.dev.seqRuns = true ∧ s.dev.hk.due ≤ s.clock.time ∧
      s.dev.hk.urgent = [] ∧ s.dev.hk.again = false ∧ s.dev.seqFree (seqConv w) = true ∧ overtaken s.env s.dev.hk.adc0 = false ∧
      overtaken s.env s.dev.hk.adc1 = false) ∧
(∃ (s : State) (adc : Nat) (c : Int) (cv : Conv) (x : Int), s.Quiet ∧ overtaken s.env s.dev.hk.adc0 = false ∧ overtaken s.env
      s.dev.hk.adc1 = false ∧ adc < 2 ∧ ((s.dev.hk.late = [] ∧ (if adc = 0 then s.dev.hk.adc0 else s.dev.hk.adc1) = some cv ∧
      cv.start + 600 ≤ s.clock.time) ∨ (s.dev.hk.late.find? (fun y => y.1 == adc) = some (adc, cv) ∧ cv.start + 900 ≤
      s.clock.time)) ∧ cv.input < 48 ∧ x = clampI (hkLo cv.input) (hkHi cv.input) c) ∧
(∃ (s : State) (cv : Conv), s.Quiet ∧ s.dev.hk.adc0 = some cv ∧ hkDie1 cv.input = true ∧ s.dev.hk.late = [] ∧ s.dev.hk.adc1 =
      none ∧ s.dev.hk.urgent = [] ∧ cv.start + 600 ≤ s.clock.time ∧ s.clock.time < cv.start + 900) ∧
(∃ (s : State) (h : Hdr), s.Quiet ∧ Accepts s h O.HK_RUN 0 0) ∧
(∃ (s : State) (h : Hdr), s.Quiet ∧ Accepts s h O.HK_RUN 0 1 ∧ s.dev.ob O.HK_RUN = false) ∧
(∃ (s : State) (sensor : Nat), s.Quiet ∧ sensor < 16 ∧ s.dev.hkAlive = true ∧ s.dev.hk.urgent = [] ∧ 93750 * sensor ≤
      s.clock.time % 1500000 ∧ tget 0 s.dev.hk.rounds sensor ≤ s.clock.time / 1500000 ∧ overtaken s.env s.dev.hk.adc0 = false ∧
      overtaken s.env s.dev.hk.adc1 = false ∧ s.dev.hk.adc0 = none) ∧
(∃ (s : State) (sensor : Nat) (x y : Conv) (ent rep : Nat), s.Quiet ∧ sensor < 16 ∧ s.dev.hkAlive = true ∧ s.dev.hk.urgent = []
      ∧ 93750 * sensor ≤ s.clock.time % 1500000 ∧ tget 0 s.dev.hk.rounds sensor ≤ s.clock.time / 1500000 ∧ overtaken s.env
      s.dev.hk.adc0 = false ∧ overtaken s.env s.dev.hk.adc1 = false ∧ s.dev.hk.adc0 = some x ∧ s.dev.hk.adc1 = some y ∧ x.seqEnt
      = some (ent, rep)) ∧
(∃ (s : State) (sensor : Nat) (x y : Conv), s.Quiet ∧ sensor < 16 ∧ s.dev.hkAlive = true ∧ s.dev.hk.urgent = [] ∧ 93750 * sensor
      ≤ s.clock.time % 1500000 ∧ tget 0 s.dev.hk.rounds sensor ≤ s.clock.time / 1500000 ∧ overtaken s.env s.dev.hk.adc0 = false
      ∧ overtaken s.env s.dev.hk.adc1 = false ∧ s.dev.hk.adc0 = some x ∧ s.dev.hk.adc1 = some y ∧ x.seqEnt = none) ∧
(∃ (s : State), s.Quiet ∧ s.dev.hkAlive = true ∧ (s.dev.hk.vhvArm = true ∨ ((s.dev.o O.HM_STATE = 2 ∨ s.dev.o O.HM_STATE = 3) ∧
      s.dev.hk.vhvAt ≤ s.clock.time)) ∧ s.dev.hk.urgent = [] ∧ s.dev.hk.adc0 = none ∧ overtaken s.env s.dev.hk.adc1 = false) ∧
(∃ (s : State) (h : Hdr) (el n : Nat) (codes : List Int), s.Quiet ∧ Served s h O.HK_NOW ∧ 1 ≤ n ∧ el + n ≤ 48 ∧ codes.length = n
      ∧ (∀ k, k < n → hkLo (el + k) ≤ codes.getD k 0 ∧ codes.getD k 0 ≤ hkHi (el + k))) :=
  ⟨⟨(st {devUp with hk := {}} [(O.HK_RUN,0,1)]), (devUp.seqWord 0), by unfold State.Quiet State.Still; decide +kernel⟩,
⟨(st {devUp with hk := {adc0 := some cv0}} [(O.HK_RUN,0,1)]), 0, 4095, cv0, 4095,
      by unfold State.Quiet State.Still; decide +kernel⟩,
⟨(st {devUp with hk := {adc0 := some {cv0 with input := 31}}} [(O.HK_RUN,0,1)]), {cv0 with input := 31},
      by unfold State.Quiet State.Still; decide +kernel⟩,
⟨(st {devUp with hk := {adc1 := some cv0}} [(O.HK_RUN,0,1)]), hd,
      by unfold Accepts Served State.Quiet State.Still; decide +kernel⟩,
⟨(st devUp [(O.HK_RUN,0,0)]), hd, by unfold Accepts Served State.Quiet State.Still; decide +kernel⟩,
⟨{(st devUp []) with clock := {time := 3000001406250, frac := 0}}, 15, by unfold State.Quiet State.Still; decide +kernel⟩,
⟨(st {devUp with hk := {adc0 := some cv0, adc1 := some {cv0 with start := 2999999999800}}} []), 0, cv0,
      {cv0 with start := 2999999999800}, 0, 0, by unfold State.Quiet State.Still; decide +kernel⟩,
⟨(st {devUp with hk := {adc0 := some {cv0 with seqEnt := none}, adc1 := some {cv0 with start := 2999999999800}}} []), 0,
      {cv0 with seqEnt := none}, {cv0 with start := 2999999999800}, by unfold State.Quiet State.Still; decide +kernel⟩,
⟨(st devUp [(O.HM_STATE,0,3)]), by unfold State.Quiet State.Still; decide +kernel⟩,
⟨(st devUp []), hd, 46, 2, [0,0], by unfold Served State.Quiet State.Still; decide +kernel⟩⟩

theorem meets_SensorsAndThermalShutdown :
(∃ (s : State) (adc sensor : Nat) (temp : Int) (cv : Conv), s.Quiet ∧ adc < 2 ∧ s.dev.hk.late = [] ∧ overtaken s.env
      s.dev.hk.adc0 = false ∧ overtaken s.env s.dev.hk.adc1 = false ∧ (if adc = 0 then s.dev.hk.adc0 else s.dev.hk.adc1) = some
      cv ∧ cv.start + 600 ≤ s.clock.time ∧ cv.seqEnt = none ∧ cv.input = 0x100 + sensor ∧ sensor < 16 ∧ bit s.dev.hk.failed
      sensor = false ∧ -550 ≤ temp ∧ temp ≤ 2000 ∧ bit (s.dev.stagesAt sensor temp) 4 = false) ∧
(∃ (s : State) (adc sensor : Nat) (temp : Int) (cv : Conv), s.Quiet ∧ adc < 2 ∧ s.dev.hk.late = [] ∧ overtaken s.env
      s.dev.hk.adc0 = false ∧ overtaken s.env s.dev.hk.adc1 = false ∧ (if adc = 0 then s.dev.hk.adc0 else s.dev.hk.adc1) = some
      cv ∧ cv.start + 600 ≤ s.clock.time ∧ cv.seqEnt = none ∧ cv.input = 0x100 + sensor ∧ sensor < 16 ∧ bit s.dev.hk.failed
      sensor = false ∧ -550 ≤ temp ∧ temp ≤ 2000 ∧ bit (s.dev.stagesAt sensor temp) 4 = true ∧ bit (tget 0 s.dev.hk.stages
      sensor) 4 = false ∧ s.dev.o O.JQ_STATE = 2) ∧
(∃ (s : State) (adc sensor : Nat) (temp : Int) (cv : Conv), s.Quiet ∧ adc < 2 ∧ s.dev.hk.late = [] ∧ overtaken s.env
      s.dev.hk.adc0 = false ∧ overtaken s.env s.dev.hk.adc1 = false ∧ (if adc = 0 then s.dev.hk.adc0 else s.dev.hk.adc1) = some
      cv ∧ cv.start + 600 ≤ s.clock.time ∧ cv.seqEnt = none ∧ cv.input = 0x100 + sensor ∧ sensor < 16 ∧ bit s.dev.hk.failed
      sensor = false ∧ (temp < -550 ∨ 2000 < temp) ∧ tget 0 s.dev.hk.outside sensor = 2) ∧
(∃ (s : State) (sensor : Nat), s.Quiet ∧ sensor < 16 ∧ s.dev.pwr.mode ≠ .shutdown) ∧
(∃ (s : State), s.Quiet ∧ s.dev.pwr.mode = .shutdown ∧ s.dev.ob O.THM_AUTO_RESTART = true ∧ s.dev.pwr.coolAt + 3000000000 ≤
      s.clock.time) :=
  ⟨⟨(st {devUp with hk := {adc0 := some (cvT 15)}} []), 0, 15, 250, (cvT 15), by unfold State.Quiet State.Still; decide +kernel⟩,
⟨(st {devUp with hk := {adc1 := some (cvT 15)}} [(O.JQ_STATE,0,2)]), 1, 15, 2000, (cvT 15),
      by unfold State.Quiet State.Still; decide +kernel⟩,
⟨(st {devUp with hk := {adc1 := some (cvT 15), outside := [(15,2)]}} [(O.JQ_STATE,0,2)]), 1, 15, 2001, (cvT 15),
      by unfold State.Quiet State.Still; decide +kernel⟩,
⟨(st devUp [(O.JQ_STATE,0,2),(O.HM_STATE,0,2)]), 15, by unfold State.Quiet State.Still; decide +kernel⟩,
⟨(st {devUp with pwr := {mode := .shutdown}} [(O.THM_AUTO_RESTART,0,1)]), by unfold State.Quiet State.Still; decide +kernel⟩⟩

theorem meets_ResetsLeave :
(∃ (s : State), s.Quiet) ∧
(∃ (s : State) (h : Hdr), s.Quiet ∧ Accepts s h O.RST_REQ 0 1 ∧ h.sess < 2) ∧
(∃ (s : State) (h : Hdr), s.Quiet ∧ Accepts s h O.RST_REQ 0 1 ∧ h.sess = 2) ∧
(∃ (s : State) (h : Hdr), s.Quiet ∧ Accepts s h O.RST_REQ 0 1 ∧ h.sess = 3) ∧
(∃ (s : State), s.Quiet ∧ s.dev.pwr.mode = .up) ∧
(∃ (s : State), s.Quiet ∧ s.dev.pwr.mode = .up) :=
  ⟨⟨(st devUp [(O.JQ_STATE,0,2),(O.RST_COUNT,1,5)]), by unfold State.Quiet State.Still; decide +kernel⟩,
⟨(up []), hd, by unfold Accepts Served State.Quiet State.Still; decide +kernel⟩,
⟨(up []), {hd with sess := 2}, by unfold Accepts Served State.Quiet State.Still; decide +kernel⟩,
⟨(up []), {hd with sess := 3}, by unfold Accepts Served State.Quiet State.Still; decide +kernel⟩,
⟨(st devUp [(O.JQ_STATE,0,2),(O.RST_COUNT,1,5)]), by unfold State.Quiet State.Still; decide +kernel⟩,
⟨(st devUp [(O.JQ_STATE,0,2),(O.RST_COUNT,1,5)]), by unfold State.Quiet State.Still; decide +kernel⟩⟩

theorem meets_StartUp :
(∃ (s : State), s.Quiet ∧ s.dev.pwr.mode = .rails) ∧
(∃ (s : State), s.Quiet ∧ s.dev.pwr.mode = .clock) ∧
(∃ (s : State), s.Quiet ∧ s.dev.pwr.mode = .up ∧ s.dev.o O.SU_STATE = 0) ∧
(∃ (s : State), s.Quiet ∧ s.dev.pwr.mode = .up ∧ s.dev.o O.SU_STATE = 1) ∧
(∃ (s : State), s.Quiet ∧ s.dev.o O.SU_STATE = 5 ∧ (s.dev.o O.LINK_STATE = 2 ∨ s.dev.pwr.phaseAt + 7500000 ≤ s.clock.time)) ∧
(∃ (s : State), s.Quiet ∧ Dev.calEnds s.env s.dev = true ∧ s.dev.pwr.heldWrites = []) ∧
(∃ (s : State) (slot : Nat), s.Quiet ∧ s.dev.pwr.mode = .up ∧ s.dev.o O.SU_STATE = 2 ∧ s.dev.pwr.copy = none ∧ slot =
      s.dev.nextSlot ∧ Dev.slotStatus s.env s.dev slot = 1) ∧
(∃ (s : State) (slot : Nat), s.Quiet ∧ s.dev.pwr.mode = .up ∧ s.dev.o O.SU_STATE = 2 ∧ s.dev.pwr.copy = none ∧ slot =
      s.dev.nextSlot ∧ Dev.slotStatus s.env s.dev slot ≠ 1) ∧
(∃ (s : State) (c : Nat), s.Quiet ∧ s.dev.pwr.mode = .up ∧ s.dev.o O.SU_STATE = 2 ∧ s.dev.pwr.copy = some c ∧ (Dev.copyImage
      s.env { s.dev with sent := [] }).1 = none) ∧
(∃ (s : State) (x : Bytes) (l : List Bytes) (a : Abort), s.Quiet ∧ s.dev.pwr.mode = .up ∧ s.dev.o O.SU_STATE = 3 ∧ s.dev.pwr.cfg
      = x :: l ∧ bootAbort (gopOf bootSes x) = some a) ∧
(∃ (s : State) (x : Bytes) (l : List Bytes) (m : GopMsg), s.Quiet ∧ s.dev.pwr.mode = .up ∧ s.dev.o O.SU_STATE = 3 ∧
      s.dev.pwr.cfg = x :: l ∧ gopOf bootSes x = some m ∧ bootAbort (some m) = none ∧ bootHolds m = true) ∧
(∃ (s : State) (x : Bytes) (l : List Bytes) (m : GopMsg), s.Quiet ∧ s.dev.pwr.mode = .up ∧ s.dev.o O.SU_STATE = 3 ∧
      s.dev.pwr.cfg = x :: l ∧ gopOf bootSes x = some m ∧ bootAbort (some m) = none ∧ bootHolds m = false ∧ (Dev.operate s.env
      { s.dev with sent := [], pwr := { s.dev.pwr with cfg := l } } m []).1.abort = none) :=
  ⟨⟨(st (pm .rails) []), by unfold State.Quiet State.Still; decide +kernel⟩,
⟨(st (pm .clock) []), by unfold State.Quiet State.Still; decide +kernel⟩,
⟨(up [(O.SU_STATE,0,0)]), by unfold State.Quiet State.Still; decide +kernel⟩,
⟨(up [(O.SU_STATE,0,1)]), by unfold State.Quiet State.Still; decide +kernel⟩,
⟨(up [(O.SU_STATE,0,5),(O.LINK_STATE,0,2)]), by unfold State.Quiet State.Still; decide +kernel⟩,
⟨(up [(O.SU_STATE,0,6)]), by unfold State.Quiet State.Still; decide +kernel⟩,
⟨(st imgUp [(O.SU_STATE,0,2)]), imgUp.nextSlot, by unfold State.Quiet State.Still; decide +kernel⟩,
⟨(up [(O.SU_STATE,0,2)]), devUp.nextSlot, by unfold State.Quiet State.Still; decide +kernel⟩,
⟨(st {devUp with pwr := {devUp.pwr with copy := some 0}} [(O.SU_STATE,0,2)]), 0,
      by unfold State.Quiet State.Still; decide +kernel⟩,
⟨(st (cfg []) [(O.SU_STATE,0,3)]), [], [],
      (match bootAbort (gopOf bootSes []) with
        | some a => a
        | none => (0,0)),
      by unfold State.Quiet State.Still; decide +kernel⟩,
⟨(st (cfg (reqBytes cfmH)) [(O.SU_STATE,0,3)]), (reqBytes cfmH), [], cfmH, by unfold State.Quiet State.Still; decide +kernel⟩,
⟨(st (cfg (reqBytes (cfm 2))) [(O.SU_STATE,0,3)]), (reqBytes (cfm 2)), [], (cfm 2),
      by unfold State.Quiet State.Still; decide +kernel⟩⟩

theorem meets_VhvDomainsAndSlowClock :
(∃ (s : State) (c : Instr) (mv : Int) (k : Nat), s.Quiet ∧ ((c = .vhvReverse mv ∧ mv < -500 ∧ k = 3) ∨ (c = .vhvUndervoltage mv
      ∧ mv < 8000 ∧ k = 1) ∨ (c = .vhvOvervoltage mv ∧ 62000 < mv ∧ k = 2))) ∧
(∃ (s : State) (mv : Int), s.Quiet ∧ s.dev.pwr.lockout ≠ 0 ∧ (s.dev.pwr.lockout = 2 ∧ mv ≤ 61000 ∨ s.dev.pwr.lockout ≠ 2 ∧ 8500
      ≤ mv ∧ mv ≤ 62000)) ∧
(∃ (s : State) (n : Nat), s.Quiet ∧ n < 96 ∧ s.dev.o O.PWR_DOM_STATE n = 1 ∧ tget 0 s.dev.pwr.rampAt n + 3000 ≤ s.clock.time) ∧
(∃ (s : State) (n : Nat), s.Quiet ∧ n < 96 ∧ s.dev.o O.PWR_DOM_STATE n = 1 ∧ tget 0 s.dev.pwr.rampAt n + 150000 ≤ s.clock.time) ∧
(∃ (s : State), s.Quiet ∧ s.dev.o O.DEV_TIME_SLOWSRC = 0) :=
  ⟨⟨(st devUp []), (.vhvReverse (-501)), (-501), 3, by unfold State.Quiet State.Still; decide +kernel⟩,
⟨(st {devUp with pwr := {devUp.pwr with lockout := 2}} []), 61000, by unfold State.Quiet State.Still; decide +kernel⟩,
⟨(st {devUp with pwr := {devUp.pwr with rampAt := [(95,2999999997000)]}} [(O.PWR_DOM_STATE,95,1)]), 95,
      by unfold State.Quiet State.Still; decide +kernel⟩,
⟨(st {devUp with pwr := {devUp.pwr with rampAt := [(95,2999999850000)]}} [(O.PWR_DOM_STATE,95,1)]), 95,
      by unfold State.Quiet State.Still; decide +kernel⟩,
⟨(up []), by unfold State.Quiet State.Still; decide +kernel⟩⟩

theorem meets_ParkAndWake :
(∃ (s : State) (h : Hdr), s.Quiet ∧ Accepts s h O.PWR_PARK 0 1 ∧ s.dev.o O.JQ_STATE = 0) ∧
(∃ (s : State) (h : Hdr), s.Quiet ∧ Accepts s h O.PWR_PARK 0 1 ∧ s.dev.o O.JQ_STATE = 2 ∧ s.dev.jq.flight ≠ none) ∧
(∃ (s : State), s.Quiet ∧ s.dev.o O.SU_STATE = 8 ∧ s.dev.pwr.mode = .up ∧ s.dev.o O.JQ_STATE = 0 ∧ s.dev.pwr.flashOp = 0 ∧ (∀ q,
      q < 4 → (s.dev.slot q).ramp = false) ∧ s.dev.pwr.wakeLatched = 0) ∧
(∃ (s : State), s.Quiet ∧ s.dev.o O.SU_STATE = 8 ∧ s.dev.pwr.mode = .up ∧ s.dev.o O.JQ_STATE = 0 ∧ s.dev.pwr.flashOp = 0 ∧ (∀ q,
      q < 4 → (s.dev.slot q).ramp = false) ∧ s.dev.pwr.wakeLatched ≠ 0) ∧
(∃ (s : State), s.Quiet ∧ s.dev.o O.SU_STATE = 8 ∧ s.dev.pwr.mode = .up ∧ bit (s.dev.o O.PWR_WAKE_EN) 0 = true) ∧
(∃ (s : State), s.Quiet ∧ s.dev.o O.SU_STATE = 8 ∧ s.dev.pwr.mode = .up ∧ bit (s.dev.o O.PWR_WAKE_EN) 3 = true) ∧
(∃ (s : State) (c : Instr) (b : Nat), s.Quiet ∧ s.dev.pwr.mode = .parked ∧ bit (s.dev.o O.PWR_WAKE_EN) b = true ∧ ((c = .canWake
      ∧ b = 0) ∨ (∃ pin r, c = .gpioWake pin r ∧ b = 1 ∧ pin < 4 ∧ bit (s.dev.o O.PWR_GPIO_WAKE) (2 * pin + if r then 0 else 1)
      = true) ∨ (c = .wakeTimer ∧ b = 2 ∧ s.dev.pwr.parkAt + 1500000000 * s.dev.o O.PWR_WAKE_TIMER_S ≤ s.clock.time) ∨ (c =
      .vhvWake ∧ b = 3))) :=
  ⟨⟨(up []), hd, by unfold Accepts Served State.Quiet State.Still; decide +kernel⟩,
⟨(st {devUp with jq := {flight := some fl1}} [(O.JQ_STATE,0,2)]), hd,
      by unfold Accepts Served State.Quiet State.Still; decide +kernel⟩,
⟨(up [(O.SU_STATE,0,8)]), by unfold State.Quiet State.Still; decide +kernel⟩,
⟨(st {devUp with pwr := {devUp.pwr with wakeLatched := 4}} [(O.SU_STATE,0,8)]),
      by unfold State.Quiet State.Still; decide +kernel⟩,
⟨(up [(O.SU_STATE,0,8),(O.PWR_WAKE_EN,0,1)]), by unfold State.Quiet State.Still; decide +kernel⟩,
⟨(up [(O.SU_STATE,0,8),(O.PWR_WAKE_EN,0,8)]), by unfold State.Quiet State.Still; decide +kernel⟩,
⟨(st {devUp with pwr := {mode := .parked}} [(O.PWR_WAKE_EN,0,15)]), .canWake, 0,
      by unfold State.Quiet State.Still; decide +kernel, by decide +kernel, by decide +kernel, .inl ⟨rfl, rfl⟩⟩⟩

theorem meets_FirmwareSlots :
(∃ (s : State) (h : Hdr) (slot : Nat), s.Quiet ∧ slot < 2 ∧ Accepts s h O.FW_SLOT_ERASE slot 1) ∧
(∃ (s : State) (slot : Nat), s.Quiet ∧ slot < 2 ∧ s.dev.pwr.flashOp = 1 ∧ s.dev.pwr.flashArg = slot ∧ s.dev.cal.saveDue = false
      ∧ s.dev.cal.eraseDue = false) ∧
(∃ (s : State) (h : Hdr) (slot : Nat) (bs : Bytes), s.Quiet ∧ slot < 2 ∧ Served s h O.FW_SLOT_IMAGE ∧ s.dev.o O.LOCK_OWNER =
      0xFF ∧ s.dev.commit = none ∧ s.dev.slotAbort slot = none ∧ 1 ≤ bs.length ∧ bs.length ≤ 512) :=
  ⟨⟨(up []), hd, 1, by unfold Accepts Served State.Quiet State.Still; decide +kernel⟩,
⟨(st {devUp with pwr := {devUp.pwr with flashOp := 1, flashArg := 1}} []), 1, by unfold State.Quiet State.Still; decide +kernel⟩,
⟨(up []), hd, 1, (zeros 512), by unfold Served State.Quiet State.Still; decide +kernel⟩⟩

theorem meets_TheFaultLog :
(∃ (s : State) (x : Nat), s.Quiet ∧ oldest s.dev.flt.held = some x ∧ x + 256 ≤ s.clock.time) ∧
(∃ (s : State) (h : Hdr) (v : Nat), s.Quiet ∧ Accepts s h O.FLT_ACK 0 v) ∧
(∃ (s : State) (h : Hdr), s.Quiet ∧ Accepts s h O.FLT_CLEAR 0 1) :=
  ⟨⟨(st {devUp with flt := {held := [en1]}} []), 2999999999744, by unfold State.Quiet State.Still; decide +kernel⟩,
⟨(st {devUp with flt := {unacked := [5,3]}} [(O.FLT_NEWEST_SEQ,0,5)]), hd, 4,
      by unfold Accepts Served State.Quiet State.Still; decide +kernel⟩,
⟨(up [(O.FLT_NEWEST_SEQ,0,5)]), hd, by unfold Accepts Served State.Quiet State.Still; decide +kernel⟩⟩

theorem meets_PlainWritesChangeOneElement :
∃ (s : State) (h : Hdr) (idx el v : Nat) (r : ObjRow), s.Quiet ∧ rowOf? idx = some r ∧ r.acc = .rw ∧ r.ty ≠ .dom ∧ r.cls = .now
      ∧ el < 4096 ∧ idx ∉ [O.RX_REPAIR, O.GOP_REQUESTS, O.GOP_ABORTS, O.LINK_TX_DISCARD, O.LINK_NOTIFY_DROPPED] ∧ (∀ d,
      Dev.landEl s.env h.sess d idx el v = d.so idx el v) ∧ Accepts s h idx el v :=
⟨(up []), hd, O.PWR_WAKE_TIMER_S, 0, 1000000, (r1 O.PWR_WAKE_TIMER_S), by unfold State.Quiet State.Still; decide +kernel,
    by decide +kernel, by decide +kernel, by decide +kernel, by decide +kernel, by decide +kernel, by decide +kernel, fun _ =>
    rfl, by unfold Accepts Served State.Still; decide +kernel⟩

theorem meets_ShotPathEventsKeepTheRest :
(∃ (s : State) (c : Instr) (l : List Nat), s.Quiet ∧ c.wf = true ∧ driveFrame c = some l) ∧
(∃ (s : State) (c : Instr) (l : List Nat), s.Quiet ∧ c.wf = true ∧ receiveFrame c = some l) :=
  ⟨⟨(up []), (.lineBar 7), [O.EM_BAR_AN,O.FLT_LOST], by unfold State.Quiet State.Still; decide +kernel⟩,
⟨(up []), (.biasVhvLow), [O.RX_BIAS_STATUS], by unfold State.Quiet State.Still; decide +kernel⟩⟩

theorem meets_OtherEventsKeepTheRest :
(∃ (s : State) (c : Instr) (l : List Nat), s.Quiet ∧ c.wf = true ∧ waveFrame c = some l) ∧
(∃ (s : State) (c : Instr) (l : List Nat), s.Quiet ∧ c.wf = true ∧ linkFrame c = some l) ∧
(∃ (s : State) (c : Instr) (l : List Nat), s.Quiet ∧ c.wf = true ∧ powerFrame c = some l) :=
  ⟨⟨(up []), (.pdStaleEnd 3), [O.PD_STATUS], by unfold State.Quiet State.Still; decide +kernel⟩,
⟨(up []), (.laneAligned 3), [O.LANE_STATE], by unfold State.Quiet State.Still; decide +kernel⟩,
⟨(up []), (.memRefresh 0 1), [], by unfold State.Quiet State.Still; decide +kernel⟩⟩

theorem meets_IdleStepsTheClock :
(∃ (s : State), s.pending = [] ∧ s.dev.jq.settle = false ∧ s.dev.pwr.rstDue = none ∧
      ({ s with clock := s.clock.tick s.dev.pwr.fabric } : State).Still ∧ (s.dev.pwr.fabric = false ∨ s.dev.o O.MEM_STATE ≠ 2)) ∧
(∃ (s : State), s.pending = [] ∧ s.dev.jq.settle = false ∧ s.dev.pwr.rstDue = none ∧
      ({ s with clock := s.clock.tick s.dev.pwr.fabric } : State).Still) ∧
(∃ (s : State), s.pending = [] ∧ s.dev.jq.settle = false ∧ s.dev.pwr.fabric = true) ∧
(∃ (s : State) (n x : Nat), s.pending = [] ∧ s.dev.jq.settle = false ∧ s.dev.pwr.rstDue = some (n, x) ∧ x + 1400000 ≤
      (s.clock.tick s.dev.pwr.fabric).time) :=
  ⟨⟨(st {devUp with pwr := {mode := .up}} []), by unfold State.Still; decide +kernel⟩,
⟨(st memUp []), by unfold State.Still; decide +kernel⟩,
⟨(up []), by decide +kernel⟩,
⟨(st {devUp with pwr := {devUp.pwr with rstDue := some (4,2999998600000)}} []), 4, 2999998600000, by decide +kernel⟩⟩

theorem meets_SlowClockCarriesTheFraction :
∃ (s : State), s.pending = [] ∧ s.Quiet ∧ s.dev.pwr.fabric = false ∧ s.clock.frac < 128 ∧ s.dev.jq.lineDue = none ∧ (∀ k < 4,
      (s.dev.slot k).due = none) ∧ s.dev.acq.syncs = [] ∧ s.dev.rx.darkLate = none :=
⟨(st {devUp with pwr := {mode := .parked}} []), by decide +kernel, by unfold State.Quiet State.Still; decide +kernel,
    by decide +kernel, by decide +kernel, by decide +kernel, by decide +kernel, by decide +kernel, by decide +kernel⟩

theorem meets_StepsKeepTheClock :
∃ (s : State), s.clock.frac < 128 :=
⟨(up []), by decide +kernel⟩

end Sys2Proof.Tests
end

section
/-! PROOF. Every command completes, and every step keeps the invariant of the clock (R53, R54, R55). -/

namespace Sys2Proof.Machine

/-! ### The clock -/

theorem Clock.time_lt_time_tick (c : Clock) (fabric : Bool) : c.time < (c.tick fabric).time := by
  cases fabric
  case true => exact Nat.lt_succ_self c.time
  case false =>
    show c.time < c.time + 45776 + (c.frac + 47) / 128
    omega

/-- A fabric cycle leaves the fraction; a tick of the slow clock keeps its seven bits (R55). -/
theorem Clock.frac_tick_lt {c : Clock} (fabric : Bool) (h : c.frac < 128) : (c.tick fabric).frac < 128 := by
  cases fabric
  case true => exact h
  case false => exact Nat.mod_lt _ (by decide)

/-! ### What a step does with the queue -/

theorem step_nil {s : State} (h : s.pending = []) : step s = tick s := by
  rw [step, h]

theorem step_cons {s : State} {c : Instr} {l : List Instr} (h : s.pending = c :: l) :
    step s = exec c { s with pending := l } := by
  rw [step, h]

/-! ### What the state keeps beside the device -/

/-- Device time after a command: only the power-on reset sets it, to 0 (R54, R872). -/
def Clock.after (i : Instr) (c : Clock) : Clock := if i = .powerOnReset then { time := 0, frac := 0 } else c

theorem Clock.frac_after_lt {c : Clock} (i : Instr) (h : c.frac < 128) : (c.after i).frac < 128 := by
  unfold Clock.after
  split
  · decide
  · exact h

/-- Every command completes; the part and the queue stay, and of all commands the power-on reset alone changes device time. -/
theorem exec_keeps_clock (c : Instr) (s : State) :
    Leads c s (fun t => t.part = s.part ∧ t.pending = s.pending ∧ t.clock = s.clock.after c) := by
  by_cases hc : c = .powerOnReset
  · subst hc
    exact ⟨_, rfl, rfl, rfl, rfl⟩
  · obtain ⟨f, hf⟩ | ⟨hp, -⟩ := exec_run c s
    · exact ⟨_, hf.trans (run_next f s), rfl, rfl, (if_neg hc).symm⟩
    · exact absurd hp hc

/-- Settles O60: a step is one command of the queue or one tick of the clock, and both are device effects, which never stop. -/
theorem stepsKeepTheClock : Obligations.StepsKeepTheClock := by
  refine ⟨fun c s => ?_, fun s hfrac => ?_⟩
  · obtain ⟨t, ht, -⟩ := exec_keeps_clock c s
    exact ⟨t, ht⟩
  cases hq : s.pending with
  | nil =>
    exact ⟨_, (step_nil hq).trans (run_next _ _), Clock.frac_tick_lt _ hfrac, rfl, hq,
      fun _ => Clock.time_lt_time_tick _ _, nofun⟩
  | cons c l =>
    obtain ⟨t, ht, hpart, hpend, hclock⟩ := exec_keeps_clock c { s with pending := l }
    have hfrac' : t.clock.frac < 128 := hclock ▸ Clock.frac_after_lt c hfrac
    refine ⟨t, (step_cons hq).trans ht, hfrac', hpart, hpend, nofun, ?_⟩
    rintro c' l' ⟨⟩
    split
    next hc => rw [hclock, Clock.after, if_pos hc]
    next hc => rw [hclock, Clock.after, if_neg hc]

end Sys2Proof.Machine
end

section
/-! PROOF. What the arbiter does where the sixteen requesters of Table 15-9 are the only ones (R774, R775, R793 to R799, R801). -/

namespace Sys2Proof.Machine

/-! ### The waiting requesters of a port -/

theorem rotFirst_cons (prev : Nat) (w : Waiter) (l : List Waiter) :
    rotFirst prev (w :: l) =
      some (match rotFirst prev l with
        | none => w
        | some x => if rotDist prev x.requester < rotDist prev w.requester then x else w) := by
  rw [rotFirst]
  cases rotFirst prev l with
  | none => rfl
  | some x => dsimp only; split <;> rfl

/-- Of a list that is not empty, the first in rotating order is one that no other precedes. -/
theorem rotFirst_least (prev : Nat) {l : List Waiter} (hl : l ≠ []) :
    ∃ w ∈ l, rotFirst prev l = some w ∧ ∀ x ∈ l, rotDist prev w.requester ≤ rotDist prev x.requester := by
  induction l with
  | nil => exact absurd rfl hl
  | cons w l ih =>
    rw [rotFirst_cons]
    by_cases hn : l = []
    · subst hn
      exact ⟨w, by simp, rfl, by simp⟩
    · obtain ⟨x, hx, hf, hle⟩ := ih hn
      rw [hf]
      dsimp only
      split
      next hlt => exact ⟨x, .tail _ hx, rfl, List.forall_mem_cons.mpr ⟨hlt.le, hle⟩⟩
      next hge =>
        exact ⟨w, .head _, rfl, List.forall_mem_cons.mpr ⟨le_rfl, fun y hy => (not_lt.mp hge).trans (hle y hy)⟩⟩

/-- Where somebody waits at a port, its next owner waits there; it is urgent if anybody is, and no other that is as urgent precedes
it in rotating order (R798). -/
theorem Dev.nextOwner_first (d : Dev) (own : List Nat) {port : Nat} (prev : Nat) (hw : ∃ x ∈ d.mem.waiting, x.port = port) :
    ∃ w ∈ d.mem.waiting, d.nextOwner own port prev = some w ∧ w.port = port ∧ ∀ x ∈ d.mem.waiting, x.port = port →
      (d.urgent own x = true → d.urgent own w = true) ∧
        (d.urgent own x = d.urgent own w → rotDist prev w.requester ≤ rotDist prev x.requester) := by
  unfold Dev.nextOwner
  simp only [beq_iff_eq]
  split
  next hnone =>
    obtain ⟨x, hx, hp⟩ := hw
    obtain ⟨w, hmem, hf, hle⟩ := rotFirst_least prev (l := d.mem.waiting.filter (fun w => w.port == port))
      (List.ne_nil_of_mem (List.mem_filter.mpr ⟨hx, beq_iff_eq.mpr hp⟩))
    simp only [List.mem_filter, beq_iff_eq, List.filter_eq_nil_iff, and_imp] at hmem hle hnone
    exact ⟨w, hmem.1, hf, hmem.2, fun x hx hp => ⟨fun hu => absurd hu (hnone x hx hp), fun _ => hle x hx hp⟩⟩
  next hsome =>
    obtain ⟨w, hmem, hf, hle⟩ := rotFirst_least prev hsome
    simp only [List.mem_filter, beq_iff_eq, and_imp] at hmem hle
    obtain ⟨⟨hmem, hport⟩, hurg⟩ := hmem
    exact ⟨w, hmem, hf, hport, fun x hx hp => ⟨fun _ => hurg, fun he => hle x hx hp (he.trans hurg)⟩⟩

/-- Serving a burst brings in no requester and moves none to another port. -/
theorem mem_burstDone {port r : Nat} {l : List Waiter} {x : Waiter} (h : x ∈ burstDone port r l) :
    x ∈ l ∨ (x.port = port ∧ x.requester = r ∧ ∃ w ∈ l, w.requester = r) := by
  induction l with
  | nil => exact absurd h List.not_mem_nil
  | cons w l ih =>
    unfold burstDone at h
    split at h
    next hw =>
      obtain ⟨hp, hr⟩ : w.port = port ∧ w.requester = r := by simpa using hw
      split at h
      · exact .inl (.tail _ h)
      · obtain rfl | h := List.mem_cons.mp h
        · exact .inr ⟨hp, hr, w, .head _, hr⟩
        · exact .inl (.tail _ h)
    next =>
      obtain rfl | h := List.mem_cons.mp h
      · exact .inl (.head _)
      · exact (ih h).imp (.tail _) (fun ⟨hp, hr, w, hw, he⟩ => ⟨hp, hr, w, .tail _ hw, he⟩)

theorem burstDone_of_find?_eq_none {port r : Nat} {l : List Waiter}
    (h : l.find? (fun x => x.port == port && x.requester == r) = none) : burstDone port r l = l := by
  induction l with
  | nil => rfl
  | cons w l ih =>
    simp only [List.find?_cons] at h
    unfold burstDone
    split at h
    · cases h
    · next hw => rw [hw, ih h]; rfl

/-- A requester with more than one request at a port has the others left there. -/
theorem find?_burstDone {port r : Nat} {l : List Waiter} {w : Waiter} {b : Burst} {bs : List Burst}
    (h : l.find? (fun x => x.port == port && x.requester == r) = some w) (hw : w.bursts = b :: bs) (hbs : bs ≠ []) :
    (burstDone port r l).find? (fun x => x.port == port && x.requester == r) = some { w with bursts := bs } := by
  induction l with
  | nil => cases h
  | cons x l ih =>
    simp only [List.find?_cons] at h
    unfold burstDone
    split at h
    next hx =>
      cases h
      have hlen : ¬ w.bursts.length ≤ 1 := by
        have := List.length_pos_iff.mpr hbs
        simp [hw]; omega
      rw [if_pos hx, if_neg hlen, List.find?_cons, hx, hw]
      rfl
    next hx =>
      rw [hx, if_neg Bool.false_ne_true, List.find?_cons_of_neg (by rw [hx]; exact Bool.false_ne_true), ih h]

/-! ### The counters of the waits -/

theorem Dev.countWait_eq (d : Dev) (port : Nat) (b : Burst) : ∃ objs, d.countWait port b = { d with objs := objs } := by
  unfold Dev.countWait
  dsimp only
  split <;> exact ⟨_, rfl⟩

theorem Dev.o_countWait {d : Dev} {port i el : Nat} {b : Burst} (hb : b.requester < 4096) (hel : el < 4096)
    (hw : i ≠ O.MEM_ARB_WAIT) (hm : i ≠ O.MEM_ARB_MAXWAIT) : (d.countWait port b).o i el = d.o i el := by
  unfold Dev.countWait
  dsimp only
  split
  · rw [Dev.o_so_ne hb hel (.inl hm), Dev.o_inc_ne hb hel (.inl hw)]
  · exact Dev.o_inc_ne hb hel (.inl hw)

/-! ### What a served burst leaves -/

/-- Only requesters of Table 15-9 wait at the ports. -/
def Mem.Numbered (m : Mem) : Prop := ∀ w ∈ m.waiting, w.requester < 16 ∧ ∀ b ∈ w.bursts, b.requester < 16

/-- All but the fabric's own state and the counters of the waits is as before. -/
structure WaitsFrom (d d' : Dev) : Prop where
  jq : d'.jq = d.jq
  pwr : d'.pwr = d.pwr
  o : ∀ i el, el < 4096 → i ≠ O.MEM_ARB_WAIT → i ≠ O.MEM_ARB_MAXWAIT → d'.o i el = d.o i el

theorem WaitsFrom.urgent {d d' : Dev} (h : WaitsFrom d d') {own : List Nat} {w : Waiter} (hw : w.requester < 16) :
    d'.urgent own w = d.urgent own w := by
  unfold Dev.urgent Dev.reqUrgent
  rw [h.o _ _ (by omega) (by decide) (by decide)]

theorem WaitsFrom.chanOf {d d' : Dev} (h : WaitsFrom d d') (a : Nat) : d'.chanOf a = d.chanOf a := by
  unfold Dev.chanOf Dev.found
  rw [h.o _ _ (by decide) (by decide) (by decide)]

theorem WaitsFrom.bankKey {d d' : Dev} (h : WaitsFrom d d') (b : Burst) : d'.bankKey b = d.bankKey b := by
  unfold Dev.bankKey Dev.bankOf Dev.found
  rw [h.chanOf, h.o _ _ (by decide) (by decide) (by decide)]

theorem Dev.chanOf_lt (d : Dev) (a : Nat) : d.chanOf a < 8 := by
  unfold Dev.chanOf bits
  split <;> omega

theorem WaitsFrom.chOffline {d d' : Dev} (h : WaitsFrom d d') (a : Nat) :
    d'.chOffline (d'.chanOf a) = d.chOffline (d.chanOf a) := by
  unfold Dev.chOffline
  rw [h.chanOf, h.o _ _ ((d.chanOf_lt a).trans (by decide)) (by decide) (by decide)]

/-- The device with the owner's first request `b` moved into the port's buffer (R775). -/
def Dev.takeBurst (d : Dev) (port r : Nat) (b : Burst) : Dev :=
  { d.countWait port b with
    mem := { d.mem with
      buffer := tset [] d.mem.buffer port (tget [] d.mem.buffer port ++ [b])
      waiting := burstDone port r d.mem.waiting
      left := tset 0 d.mem.left port (tget 0 d.mem.left port - 1) } }

theorem Dev.serveBurst_eq {e : Env} {d : Dev} {port r : Nat} {w : Waiter} {b : Burst} {l : List Burst}
    (hw : d.mem.waiting.find? (fun x => x.port == port && x.requester == r) = some w) (hb : w.bursts = b :: l)
    (hroom : (tget [] d.mem.buffer port).length < 32) : d.serveBurst e port r = (d.takeBurst port r b).drainPort e port := by
  unfold Dev.serveBurst Dev.takeBurst
  obtain ⟨objs, ho⟩ := d.countWait_eq port b
  simp only [hw, hb, if_neg (Nat.not_le.mpr hroom), ho]

theorem Dev.serveBurst_none {e : Env} {d : Dev} {port r : Nat}
    (hw : d.mem.waiting.find? (fun x => x.port == port && x.requester == r) = none) : d.serveBurst e port r = d := by
  unfold Dev.serveBurst
  simp only [hw]

theorem WaitsFrom.takeBurst {d : Dev} (port r : Nat) {b : Burst} (hb : b.requester < 16) :
    WaitsFrom d (d.takeBurst port r b) := by
  obtain ⟨objs, ho⟩ := d.countWait_eq port b
  refine ⟨?_, ?_, fun i el hel hw hm => (Dev.o_countWait (by omega) hel hw hm : (d.countWait port b).o i el = _)⟩
  · rw [Dev.takeBurst, ho]
  · rw [Dev.takeBurst, ho]

/-- A port's only request goes on into its bank's queue where that has room and the channel is in use (R774). -/
theorem Dev.drainPort_one {e : Env} {d : Dev} {port : Nat} {b : Burst} (hbuf : tget [] d.mem.buffer port = [b])
    (hon : d.chOffline (d.chanOf (b.blk * 256)) = false) (hroom : (tget [] d.mem.queue (d.bankKey b)).length < 8) :
    tget [] (d.drainPort e port).mem.buffer port = [] ∧ tget [] (d.drainPort e port).mem.queue (d.bankKey b) =
      tget [] d.mem.queue (d.bankKey b) ++ [{ b with since := e.now }] := by
  simp [Dev.drainPort, hbuf, Dev.fillQueues, hon, Nat.not_le.mpr hroom]

/-- The owner's request passes through an empty buffer into its bank's queue (R774, R775). -/
theorem Dev.drainPort_takeBurst {e : Env} {d : Dev} {port : Nat} (r : Nat) {b : Burst} (hb : b.requester < 16)
    (hbuf : tget [] d.mem.buffer port = []) (hon : d.chOffline (d.chanOf (b.blk * 256)) = false)
    (hroom : (tget [] d.mem.queue (d.bankKey b)).length < 8) :
    tget [] ((d.takeBurst port r b).drainPort e port).mem.buffer port = [] ∧
      tget [] ((d.takeBurst port r b).drainPort e port).mem.queue (d.bankKey b) =
        tget [] d.mem.queue (d.bankKey b) ++ [{ b with since := e.now }] := by
  have hfrom : WaitsFrom d (d.takeBurst port r b) := .takeBurst port r hb
  have hone : tget [] (d.takeBurst port r b).mem.buffer port = [b] := by
    show tget [] (tset [] d.mem.buffer port (tget [] d.mem.buffer port ++ [b])) port = [b]
    rw [tget_tset_self, hbuf, List.nil_append]
  rw [← hfrom.bankKey] at hroom ⊢
  exact Dev.drainPort_one hone ((hfrom.chOffline _).trans hon) hroom

/-! ### A burst boundary of a port -/

/-- The urgency wires of a burst boundary sampled (R799): the requesters whose own condition holds are noted. -/
def Dev.noteOwn (d : Dev) (own : List Nat) : Dev := { d with mem := { d.mem with own := own } }

/-- The device as a burst boundary of a port leaves it before the next owner is chosen: the urgency wires sampled (R799), the owner's
burst served. -/
def Dev.atBoundary (e : Env) (d : Dev) (port : Nat) (own : List Nat) : Dev :=
  match tget none d.mem.owner port with
  | some r => (d.noteOwn own).serveBurst e port r
  | none => d.noteOwn own

/-- A tenure that goes on leaves the owner (R795). -/
theorem Dev.handover_tenure {e : Env} {d : Dev} {port r : Nat} {own : List Nat} (hport : port < 4)
    (ho : tget none d.mem.owner port = some r) (ht : (d.atBoundary e port own).tenure own port r = true) :
    d.handover e port own = d.atBoundary e port own := by
  unfold Dev.atBoundary Dev.noteOwn at ht ⊢
  unfold Dev.handover
  simp only [ho] at ht ⊢
  rw [if_neg (Nat.not_le.mpr hport), if_pos ht]

/-- Where no tenure goes on, the next owner is granted one (R798). -/
theorem Dev.handover_grant {e : Env} {d : Dev} {port : Nat} {own : List Nat} {w : Waiter} (hport : port < 4)
    (ht : ∀ r, tget none d.mem.owner port = some r → (d.atBoundary e port own).tenure own port r = false)
    (hw : (d.atBoundary e port own).nextOwner own port ((tget none d.mem.owner port).getD 15) = some w) :
    d.handover e port own = (d.atBoundary e port own).grant e port w := by
  unfold Dev.atBoundary Dev.noteOwn at ht hw ⊢
  unfold Dev.handover
  rw [if_neg (Nat.not_le.mpr hport)]
  cases ho : tget none d.mem.owner port with
  | none =>
    simp only [ho] at hw ⊢
    rw [if_neg Bool.false_ne_true, hw]
  | some r =>
    have htr := ht r ho
    simp only [ho] at htr hw ⊢
    rw [if_neg (ne_true_of_eq_false htr), hw]

/-- An owner with bursts left and a request ready keeps its tenure unless somebody else is urgent (R795, R797). -/
theorem Dev.tenure_of {d : Dev} {own : List Nat} {port r : Nat} {w : Waiter}
    (hw : d.mem.waiting.find? (fun x => x.port == port && x.requester == r) = some w) (hleft : 0 < tget 0 d.mem.left port)
    (hurg : ∀ x ∈ d.mem.waiting, x.port = port → x.requester ≠ r → d.urgent own x = false) : d.tenure own port r = true := by
  have hnone : d.mem.waiting.any (fun x => x.port == port && x.requester != r && d.urgent own x) = false := by
    rw [List.any_eq_false]
    intro x hx
    simp only [Bool.and_eq_true, beq_iff_eq, bne_iff_ne]
    rintro ⟨⟨hp, hr⟩, hu⟩
    rw [hurg x hx hp hr] at hu
    exact Bool.false_ne_true hu
  unfold Dev.tenure
  simp [hw, hleft, hnone]

/-- With a second request ready and bursts left, the tenure outlasts a burst. -/
theorem Dev.tenure_takeBurst {d : Dev} {own : List Nat} {port r : Nat} {w : Waiter} {b : Burst} {l : List Burst}
    (hn : d.mem.Numbered) (hw : d.mem.waiting.find? (fun x => x.port == port && x.requester == r) = some w)
    (hb : w.bursts = b :: l) (hl : l ≠ []) (hleft : 2 ≤ tget 0 d.mem.left port)
    (hurg : ∀ x ∈ d.mem.waiting, x.port = port → x.requester ≠ r → d.urgent own x = false) :
    (d.takeBurst port r b).tenure own port r = true := by
  have hbn := (hn w (List.mem_of_find?_eq_some hw)).2 b (hb ▸ .head _)
  refine Dev.tenure_of (find?_burstDone hw hb hl) ?_ fun x hx hp hr => ?_
  · show 0 < tget 0 (tset 0 d.mem.left port (tget 0 d.mem.left port - 1)) port
    rw [tget_tset_self]
    omega
  · obtain hx | ⟨-, hr', -⟩ := mem_burstDone hx
    · rw [(WaitsFrom.takeBurst port r hbn).urgent (hn x hx).1]
      exact hurg x hx hp hr
    · exact absurd hr' hr

/-- A spent quantum ends the tenure (R795). -/
theorem Dev.tenure_spent {d : Dev} {own : List Nat} {port r : Nat} (hleft : tget 0 d.mem.left port = 0) :
    d.tenure own port r = false := by
  unfold Dev.tenure
  split <;> simp [hleft]

theorem Dev.tenure_idle {d : Dev} {own : List Nat} {port r : Nat}
    (hw : d.mem.waiting.find? (fun x => x.port == port && x.requester == r) = none) : d.tenure own port r = false := by
  unfold Dev.tenure
  rw [hw]

/-- At a boundary with an owner's request at hand and room for it, the request goes into the port's buffer and on. -/
theorem Dev.atBoundary_serves {e : Env} {d : Dev} {port r : Nat} {own : List Nat} {w : Waiter} {b : Burst} {l : List Burst}
    (ho : tget none d.mem.owner port = some r)
    (hw : d.mem.waiting.find? (fun x => x.port == port && x.requester == r) = some w) (hb : w.bursts = b :: l)
    (hroom : (tget [] d.mem.buffer port).length < 32) :
    d.atBoundary e port own = ((d.noteOwn own).takeBurst port r b).drainPort e port := by
  unfold Dev.atBoundary
  simp only [ho]
  exact Dev.serveBurst_eq hw hb hroom

theorem Dev.atBoundary_idle {e : Env} {d : Dev} {port r : Nat} {own : List Nat} (ho : tget none d.mem.owner port = some r)
    (hw : d.mem.waiting.find? (fun x => x.port == port && x.requester == r) = none) :
    d.atBoundary e port own = d.noteOwn own := by
  unfold Dev.atBoundary
  simp only [ho]
  exact Dev.serveBurst_none hw

theorem Dev.atBoundary_free {e : Env} {d : Dev} {port : Nat} {own : List Nat} (ho : tget none d.mem.owner port = none) :
    d.atBoundary e port own = d.noteOwn own := by
  unfold Dev.atBoundary
  simp only [ho]

theorem WaitsFrom.noteOwn (d : Dev) (own : List Nat) : WaitsFrom d (d.noteOwn own) := ⟨rfl, rfl, fun _ _ _ _ _ => rfl⟩

/-- A boundary with the owner's quantum spent: its last burst is served and its tenure is over. -/
theorem Dev.atBoundary_spent {e : Env} {d : Dev} {port r : Nat} {own : List Nat} (hn : d.mem.Numbered)
    (hbs : ∀ x ∈ d.mem.waiting, x.bursts ≠ []) (ho : tget none d.mem.owner port = some r)
    (hleft : tget 0 d.mem.left port ≤ 1) (hroom : (tget [] d.mem.buffer port).length < 32) :
    WaitsFrom d (d.atBoundary e port own) ∧ (d.atBoundary e port own).mem.waiting = burstDone port r d.mem.waiting ∧
      (d.atBoundary e port own).tenure own port r = false := by
  cases hw : d.mem.waiting.find? (fun x => x.port == port && x.requester == r) with
  | none =>
    rw [Dev.atBoundary_idle ho hw, burstDone_of_find?_eq_none hw]
    exact ⟨.noteOwn d own, rfl, Dev.tenure_idle (d := d.noteOwn own) hw⟩
  | some w =>
    have hmem := List.mem_of_find?_eq_some hw
    obtain ⟨b, l, hb⟩ := List.exists_cons_of_ne_nil (hbs w hmem)
    rw [Dev.atBoundary_serves ho hw hb hroom]
    have hfrom := WaitsFrom.takeBurst (d := d.noteOwn own) port r ((hn w hmem).2 b (hb ▸ .head _))
    refine ⟨⟨hfrom.jq, hfrom.pwr, hfrom.o⟩, rfl, Dev.tenure_spent ?_⟩
    show tget 0 (tset 0 d.mem.left port (tget 0 d.mem.left port - 1)) port = 0
    rw [tget_tset_self]
    omega

/-! ### The commands -/

theorem exec_arbHandover (port : Nat) (own : List Nat) (s : State) :
    exec (.arbHandover port own) s = run (fun e d => d.handover e port own) s := rfl

theorem exec_requestPromotion (port req : Nat) (s : State) :
    exec (.requestPromotion port req) s = run (fun e d => d.promote e port req) s := rfl

/-- While the owner of a port has bursts left and nobody else there is urgent it keeps its tenure, and the burst takes its oldest
request into the port's buffer and from there into its bank's queue (R774, R775, R795, R797). -/
theorem arbHandover_keeps_tenure {s : State} {port r : Nat} {own : List Nat} {w : Waiter} {b : Burst} {l : List Burst}
    (hq : s.Quiet) (hn : s.dev.mem.Numbered) (hport : port < 4) (ho : tget none s.dev.mem.owner port = some r)
    (hleft : 2 ≤ tget 0 s.dev.mem.left port)
    (hw : s.dev.mem.waiting.find? (fun x => x.port == port && x.requester == r) = some w) (hb : w.bursts = b :: l) (hl : l ≠ [])
    (hroom : (tget [] s.dev.mem.buffer port).length < 32)
    (hurg : ∀ x ∈ s.dev.mem.waiting, x.port = port → x.requester ≠ r → s.dev.urgent own x = false) :
    Leads (.arbHandover port own) s (fun t => tget none t.dev.mem.owner port = some r ∧
      tget 0 t.dev.mem.left port = tget 0 s.dev.mem.left port - 1 ∧
      t.dev.mem.waiting = burstDone port r s.dev.mem.waiting ∧
      (tget [] s.dev.mem.buffer port = [] → s.dev.chOffline (s.dev.chanOf (b.blk * 256)) = false →
        (tget [] s.dev.mem.queue (s.dev.bankKey b)).length < 8 →
        tget [] t.dev.mem.buffer port = [] ∧ tget [] t.dev.mem.queue (s.dev.bankKey b) =
          tget [] s.dev.mem.queue (s.dev.bankKey b) ++ [{ b with since := s.clock.time }])) := by
  obtain ⟨hset, hrst, hstill⟩ := hq
  obtain ⟨d, hd⟩ : ∃ d, d = Dev.noteOwn { s.dev with sent := [] } own := ⟨_, rfl⟩
  have hbn : b.requester < 16 := (hn w (List.mem_of_find?_eq_some hw)).2 b (hb ▸ .head _)
  have hfrom : WaitsFrom d (d.takeBurst port r b) := .takeBurst port r hbn
  have hat : Dev.atBoundary s.env { s.dev with sent := [] } port own = (d.takeBurst port r b).drainPort s.env port :=
    hd ▸ Dev.atBoundary_serves ho hw hb hroom
  have hkeeps : ((d.takeBurst port r b).drainPort s.env port).tenure own port r = true := by
    subst hd
    exact Dev.tenure_takeBurst (d := Dev.noteOwn { s.dev with sent := [] } own) hn hw hb hl hleft hurg
  refine leads_eff ((d.takeBurst port r b).drainPort s.env port) hstill (exec_arbHandover port own s)
    ((Dev.handover_tenure (d := { s.dev with sent := [] }) hport ho (hat ▸ hkeeps)).trans hat) ?_ ?_ fun subs => ?_
  all_goals subst hd
  · exact hfrom.jq ▸ hset
  · exact hfrom.pwr ▸ hrst
  · exact ⟨ho, tget_tset_self .., rfl, fun hbuf hon hqueue => Dev.drainPort_takeBurst r hbn hbuf hon hqueue⟩

theorem Dev.owner_grant (e : Env) (d : Dev) (port : Nat) (w : Waiter) :
    tget none (d.grant e port w).mem.owner port = some w.requester :=
  tget_tset_self none d.mem.owner port (some w.requester)

theorem Dev.left_grant (e : Env) (d : Dev) (port : Nat) (w : Waiter) :
    tget 0 (d.grant e port w).mem.left port = d.o O.MEM_ARB_QUANTUM w.requester := tget_tset_self ..

theorem Dev.grants_grant (e : Env) (d : Dev) (port : Nat) (w : Waiter) :
    (d.grant e port w).o O.MEM_ARB_GRANTS w.requester =
      ctrAdd O.MEM_ARB_GRANTS w.requester (d.o O.MEM_ARB_GRANTS w.requester) 1 := Dev.o_inc_self ..

/-- What the grant of a tenure leaves, the waiting requests of the ports being `l`: the new owner is urgent if anybody at the port
is, and of those as urgent as it the first in rotating order after `prev`; its quantum is full and the grant is counted (R798,
R801). -/
def State.Granted (s : State) (own : List Nat) (port prev : Nat) (l : List Waiter) (t : State) : Prop :=
  t.dev.mem.waiting = l ∧ ∃ w ∈ l, w.port = port ∧
    tget none t.dev.mem.owner port = some w.requester ∧
    tget 0 t.dev.mem.left port = s.dev.o O.MEM_ARB_QUANTUM w.requester ∧
    t.dev.o O.MEM_ARB_GRANTS w.requester = ctrAdd O.MEM_ARB_GRANTS w.requester (s.dev.o O.MEM_ARB_GRANTS w.requester) 1 ∧
    ∀ x ∈ l, x.port = port → (s.dev.urgent own x = true → s.dev.urgent own w = true) ∧
      (s.dev.urgent own x = s.dev.urgent own w → rotDist prev w.requester ≤ rotDist prev x.requester)

/-- A burst boundary that leaves no tenure going on grants the port to the next owner, where somebody waits there. -/
theorem leads_granted {s : State} {port : Nat} {own : List Nat} {d : Dev} (hq : s.Quiet) (hport : port < 4)
    (hat : Dev.atBoundary s.env { s.dev with sent := [] } port own = d) (hfrom : WaitsFrom s.dev d)
    (hnum : ∀ x ∈ d.mem.waiting, x.requester < 16)
    (hover : ∀ r, tget none s.dev.mem.owner port = some r → d.tenure own port r = false)
    (hany : ∃ x ∈ d.mem.waiting, x.port = port) :
    Leads (.arbHandover port own) s
      (s.Granted own port ((tget none s.dev.mem.owner port).getD 15) d.mem.waiting) := by
  obtain ⟨hset, hrst, hstill⟩ := hq
  obtain ⟨w, hmem, hnext, hwp, hfirst⟩ := d.nextOwner_first own ((tget none s.dev.mem.owner port).getD 15) hany
  have hw := hnum w hmem
  refine leads_eff (d.grant s.env port w) hstill (exec_arbHandover port own s) ?_ (hfrom.jq ▸ hset) (hfrom.pwr ▸ hrst)
    fun subs => ⟨rfl, w, hmem, hwp, Dev.owner_grant s.env d port w, ?_, ?_, fun x hx hp => ?_⟩
  · subst hat
    exact Dev.handover_grant hport hover hnext
  · refine (Dev.left_grant s.env d port w).trans ?_
    rw [hfrom.o _ _ (by omega) (by decide) (by decide)]
  · refine (Dev.grants_grant s.env d port w).trans ?_
    rw [hfrom.o _ _ (by omega) (by decide) (by decide)]
  · rw [← hfrom.urgent hw, ← hfrom.urgent (hnum x hx)]
    exact hfirst x hx hp

/-- Once the owner's quantum is spent its last burst is served, and the next owner is the first in rotating order of the urgent
requesters, or of all where none is urgent (R795, R798). -/
theorem arbHandover_grants_after_owner {s : State} {port r : Nat} {own : List Nat} (hq : s.Quiet) (hn : s.dev.mem.Numbered)
    (hport : port < 4) (hbs : ∀ x ∈ s.dev.mem.waiting, x.bursts ≠ []) (ho : tget none s.dev.mem.owner port = some r)
    (hleft : tget 0 s.dev.mem.left port ≤ 1) (hroom : (tget [] s.dev.mem.buffer port).length < 32)
    (hany : ∃ x ∈ burstDone port r s.dev.mem.waiting, x.port = port) :
    Leads (.arbHandover port own) s (s.Granted own port r (burstDone port r s.dev.mem.waiting)) := by
  obtain ⟨hfrom, hwait, hover⟩ :=
    Dev.atBoundary_spent (e := s.env) (d := { s.dev with sent := [] }) (own := own) hn hbs ho hleft hroom
  have hnum : ∀ x ∈ burstDone port r s.dev.mem.waiting, x.requester < 16 := by
    intro x hx
    obtain hx | ⟨-, hr, w, hw, hwr⟩ := mem_burstDone hx
    · exact (hn x hx).1
    · exact (hr.trans hwr.symm) ▸ (hn w hw).1
  have h := leads_granted hq hport rfl ⟨hfrom.jq, hfrom.pwr, hfrom.o⟩ (hwait ▸ hnum)
    (fun _ ho' => Option.some.inj (ho.symm.trans ho') ▸ hover) (hwait ▸ hany)
  rwa [hwait, ho] at h

/-- Where nobody owns the port the order counts from requester 0 (R798 and log entry 199). -/
theorem arbHandover_grants_first {s : State} {port : Nat} {own : List Nat} (hq : s.Quiet) (hn : s.dev.mem.Numbered)
    (hport : port < 4) (ho : tget none s.dev.mem.owner port = none) (hany : ∃ x ∈ s.dev.mem.waiting, x.port = port) :
    Leads (.arbHandover port own) s (s.Granted own port 15 s.dev.mem.waiting) := by
  have h := leads_granted (d := Dev.noteOwn { s.dev with sent := [] } own) hq hport (Dev.atBoundary_free ho)
    ⟨rfl, rfl, fun _ _ _ _ _ => rfl⟩ (fun x hx => (hn x hx).1) (fun r hr => nomatch ho.symm.trans hr) hany
  rwa [ho] at h

/-! ### A request promoted -/

theorem promoteFirst_append {due : Nat} {pre post : List Burst} {b : Burst} (hpre : ∀ x ∈ pre, x.promoted = true)
    (hb : b.promoted = false) (hdue : b.since ≤ due) :
    promoteFirst due (pre ++ b :: post) = some (pre ++ { b with promoted := true } :: post) := by
  induction pre with
  | nil => simp [promoteFirst, hb, hdue]
  | cons x pre ih =>
    obtain ⟨hx, hpre⟩ := List.forall_mem_cons.mp hpre
    simp [promoteFirst, hx, ih hpre]

/-- The device with the requests of a requester at a port replaced and a promotion counted. -/
def Dev.promoted (d : Dev) (port req : Nat) (l : List Burst) : Dev :=
  Dev.inc { d with mem := { d.mem with waiting := d.mem.waiting.map (fun (x : Waiter) =>
    if x.port == port && x.requester == req then { x with bursts := l } else x) } } O.MEM_ARB_PROMOTIONS req

theorem Dev.promote_eq {e : Env} {d : Dev} {port req : Nat} {w : Waiter} {l : List Burst}
    (hw : d.mem.waiting.find? (fun x => x.port == port && x.requester == req) = some w)
    (hage : d.o O.MEM_ARB_PROMOTE ≤ e.now) (hl : promoteFirst (e.now - d.o O.MEM_ARB_PROMOTE) w.bursts = some l) :
    d.promote e port req = d.promoted port req l := by
  unfold Dev.promote Dev.promoted
  simp only [hw, if_neg (Nat.not_lt.mpr hage), hl]

theorem Dev.find?_promoted {d : Dev} {port req : Nat} {w : Waiter} (l : List Burst)
    (hw : d.mem.waiting.find? (fun x => x.port == port && x.requester == req) = some w) :
    (d.promoted port req l).mem.waiting.find? (fun x => x.port == port && x.requester == req) =
      some { w with bursts := l } := by
  have hsame : (fun x : Waiter => x.port == port && x.requester == req) ∘
      (fun x => if x.port == port && x.requester == req then { x with bursts := l } else x) =
      fun x => x.port == port && x.requester == req := by
    funext x
    dsimp only [Function.comp]
    split <;> rfl
  have hat := List.find?_some hw
  simp only [Dev.promoted, Dev.mem_inc, List.find?_map, hsame, hw, Option.map_some]
  rw [if_pos hat]

/-- A requester's oldest request that is not promoted becomes so once it has waited MEM_ARB_PROMOTE cycles, and is counted (R794). -/
theorem requestPromotion_promotes_oldest {s : State} {port req : Nat} {w : Waiter} {pre post : List Burst} {b : Burst}
    (hq : s.Quiet) (hw : s.dev.mem.waiting.find? (fun x => x.port == port && x.requester == req) = some w)
    (hb : w.bursts = pre ++ b :: post) (hpre : ∀ x ∈ pre, x.promoted = true) (hnew : b.promoted = false)
    (hdue : b.since + s.dev.o O.MEM_ARB_PROMOTE ≤ s.clock.time) :
    Leads (.requestPromotion port req) s (fun t =>
      t.dev.mem.waiting.find? (fun x => x.port == port && x.requester == req) =
        some { w with bursts := pre ++ { b with promoted := true } :: post } ∧
      t.dev.o O.MEM_ARB_PROMOTIONS req = ctrAdd O.MEM_ARB_PROMOTIONS req (s.dev.o O.MEM_ARB_PROMOTIONS req) 1) := by
  obtain ⟨hset, hrst, hstill⟩ := hq
  have hfirst := promoteFirst_append (post := post) hpre hnew (Nat.le_sub_of_add_le hdue)
  have heff := Dev.promote_eq (e := s.env) (d := { s.dev with sent := [] }) hw (Nat.le_of_add_left_le hdue) (hb ▸ hfirst)
  exact leads_eff _ hstill (exec_requestPromotion port req s) heff hset hrst fun subs =>
    ⟨Dev.find?_promoted (d := { s.dev with sent := [] }) _ hw, Dev.o_inc_self ..⟩

end Sys2Proof.Machine
end

section
/-! PROOF. The statement about the arbiter lets any number stand for a requester; past the 12 bits of an element it fails. -/

namespace Sys2Proof.Machine

/-! ### A burst boundary at which a second requester waits -/

/-- One read of block 0 by a requester, waiting at port 0 since device time 0. -/
def readWaiter (r : Nat) : Waiter :=
  { port := 0, requester := r, bursts := [{ requester := r, blk := 0, write := false, rmw := false, since := 0 }] }

/-- Requester 0 serves the last burst of its tenure of port 0, granted at device time 5, and requester `r` waits behind it. -/
def lastBurst (r : Nat) : State :=
  { State.reset with
    clock := { time := 9, frac := 0 }
    dev := { mem := { waiting := [readWaiter 0, readWaiter r], owner := [(0, some 0)], left := [(0, 1)], grantAt := [(0, 5)] } } }

theorem lastBurst_quiet (r : Nat) : (lastBurst r).Quiet := by
  simp [State.Quiet, State.Still, lastBurst, State.reset, Dev.slot]

theorem lastBurst_numbered {r : Nat} (hr : r < 16) : (lastBurst r).dev.mem.Numbered := by
  simp [Mem.Numbered, lastBurst, readWaiter, hr]

/-- A requester of Table 15-9 is granted the port. -/
theorem lastBurst_granted {r : Nat} (hr : r < 16) :
    Leads (.arbHandover 0 []) (lastBurst r) ((lastBurst r).Granted [] 0 0 [readWaiter r]) :=
  arbHandover_grants_after_owner (lastBurst_quiet r) (lastBurst_numbered hr) (by decide)
    (by simp [lastBurst, readWaiter]) rfl le_rfl (Nat.succ_pos 31) ⟨_, List.mem_singleton_self _, rfl⟩

/-- The grants of requester 4096 are counted where the wait of requester 0 is: a key has room for elements of 12 bits (R20). -/
theorem okey_grants_4096 : okey O.MEM_ARB_GRANTS 4096 = okey O.MEM_ARB_WAIT 0 := rfl

/-- Refutes O45: no premise keeps a requester to the sixteen of Table 15-9. The last burst of requester 0 counts a wait of 5 cycles,
which by `okey_grants_4096` makes the grants of requester 4096 read 5 and its own grant 6, where the statement has 1. With
`Mem.Numbered` as a premise `arbHandover_keeps_tenure`, `arbHandover_grants_after_owner` and `arbHandover_grants_first` hold, and
`requestPromotion_promotes_oldest` without it. -/
theorem not_arbitration : ¬ Obligations.Arbitration := by
  unfold Obligations.Arbitration
  intro h
  obtain ⟨-, hgrant, -⟩ := h (lastBurst 4096) 0 [] (lastBurst_quiet 4096) (by decide)
  obtain ⟨t, ht, -, w, hw, -, -, -, hcount, -⟩ :=
    hgrant [readWaiter 4096] 0 (by decide) ⟨rfl, rfl, by decide, by decide⟩ ⟨_, List.mem_singleton_self _, rfl⟩
  obtain rfl := List.mem_singleton.mp hw
  obtain rfl : _ = t := Host.Outcome.next.inj ht
  exact absurd hcount (by decide +kernel)

end Sys2Proof.Machine
end

section
/-! PROOF. The layer that the statements of the subsystems share: what a delivery to the logger keeps, an accepted write that
comes into force at once, and events that change some objects alone. -/

namespace Sys2Proof.Machine

/-! ### The logger -/

/-- A delivery keeps what is held. -/
theorem Dev.mem_held_deliver {d : Dev} {en x : Entry} (h : x ∈ d.flt.held) : x ∈ (d.deliver en).flt.held := by
  unfold Dev.deliver
  split
  · exact h
  · exact List.mem_append_left _ h

theorem Dev.mem_held_log {e : Env} {d : Dev} {code loc cls detail : Nat} {inj : Bool} {x : Entry} (h : x ∈ d.flt.held) :
    x ∈ (d.log e code loc cls detail inj).flt.held := Dev.mem_held_deliver h

/-- Where the logger has room, the fault is held with its stamp, code and class (R903). -/
theorem Dev.exists_held_log {e : Env} {d : Dev} {code loc cls detail : Nat} {inj : Bool} (h : d.flt.held.length < 64) :
    ∃ en ∈ (d.log e code loc cls detail inj).flt.held, en.time = e.now ∧ en.code = code ∧ en.cls = cls := by
  rw [Dev.flt_log h]
  exact ⟨_, List.mem_append_right _ (List.mem_singleton_self _), rfl, rfl, rfl⟩

/-- A delivery makes the held entries at most one longer. -/
theorem Dev.length_held_deliver (d : Dev) (en : Entry) : (d.deliver en).flt.held.length ≤ d.flt.held.length + 1 := by
  unfold Dev.deliver
  split
  · exact Nat.le_succ _
  · simp

theorem Dev.length_held_log (e : Env) (d : Dev) (code loc cls detail : Nat) (inj : Bool) :
    (d.log e code loc cls detail inj).flt.held.length ≤ d.flt.held.length + 1 := Dev.length_held_deliver ..

/-- Hawkmoth's evaluation keeps what is held. -/
theorem Dev.mem_held_hmEval {e : Env} {d : Dev} {x : Entry} (h : x ∈ d.flt.held) : x ∈ (d.hmEval e).flt.held := by
  rcases Dev.hmEval_cases e d with ⟨_, k⟩ | ⟨_, c, inj, l, _, k⟩ | ⟨_, _, _, k⟩ | ⟨_, _, _, k⟩ | ⟨_, _, _, _, k⟩ <;> rw [k]
  · exact h
  · exact Dev.mem_held_log h
  · exact h
  · exact h
  · exact h

/-! ### The device that a command finds -/

/-- The device as a command before which nothing falls due finds it: what the last command sent is gone. -/
def State.begun (s : State) : Dev := { s.dev with sent := [] }

section
variable (s : State)

@[simp] theorem State.objs_begun : s.begun.objs = s.dev.objs := rfl
@[simp] theorem State.shadows_begun : s.begun.shadows = s.dev.shadows := rfl
@[simp] theorem State.domShadows_begun : s.begun.domShadows = s.dev.domShadows := rfl
@[simp] theorem State.commit_begun : s.begun.commit = s.dev.commit := rfl
@[simp] theorem State.doms_begun : s.begun.doms = s.dev.doms := rfl
@[simp] theorem State.gddr_begun : s.begun.gddr = s.dev.gddr := rfl
@[simp] theorem State.flash_begun : s.begun.flash = s.dev.flash := rfl
@[simp] theorem State.free_begun : s.begun.free = s.dev.free := rfl
@[simp] theorem State.ses_begun : s.begun.ses = s.dev.ses := rfl
@[simp] theorem State.subs_begun : s.begun.subs = s.dev.subs := rfl
@[simp] theorem State.lock_begun : s.begun.lock = s.dev.lock := rfl
@[simp] theorem State.flt_begun : s.begun.flt = s.dev.flt := rfl
@[simp] theorem State.link_begun : s.begun.link = s.dev.link := rfl
@[simp] theorem State.jq_begun : s.begun.jq = s.dev.jq := rfl
@[simp] theorem State.em_begun : s.begun.em = s.dev.em := rfl
@[simp] theorem State.hm_begun : s.begun.hm = s.dev.hm := rfl
@[simp] theorem State.rx_begun : s.begun.rx = s.dev.rx := rfl
@[simp] theorem State.tdc_begun : s.begun.tdc = s.dev.tdc := rfl
@[simp] theorem State.ex_begun : s.begun.ex = s.dev.ex := rfl
@[simp] theorem State.rl_begun : s.begun.rl = s.dev.rl := rfl
@[simp] theorem State.acq_begun : s.begun.acq = s.dev.acq := rfl
@[simp] theorem State.cal_begun : s.begun.cal = s.dev.cal := rfl
@[simp] theorem State.atl_begun : s.begun.atl = s.dev.atl := rfl
@[simp] theorem State.tap_begun : s.begun.tap = s.dev.tap := rfl
@[simp] theorem State.mem_begun : s.begun.mem = s.dev.mem := rfl
@[simp] theorem State.hk_begun : s.begun.hk = s.dev.hk := rfl
@[simp] theorem State.pwr_begun : s.begun.pwr = s.dev.pwr := rfl
@[simp] theorem State.sent_begun : s.begun.sent = [] := rfl
@[simp] theorem State.o_begun (i el : Nat) : s.begun.o i el = s.dev.o i el := rfl
@[simp] theorem State.ob_begun (i el : Nat) : s.begun.ob i el = s.dev.ob i el := rfl
@[simp] theorem State.sess_begun (n : Nat) : s.begun.sess n = s.dev.sess n := rfl

end

/-! ### The state that a command ends in -/

/-- The command has left device `d`, but for the marks of subscriptions; the part, device time and the queue stay. -/
structure State.Ends (s : State) (d : Dev) (t : State) : Prop where
  dev : t.dev = { d with subs := t.dev.subs }
  part : t.part = s.part
  clock : t.clock = s.clock
  pending : t.pending = s.pending

section
variable {s t : State} {d : Dev}

theorem State.Ends.env (h : s.Ends d t) : t.env = s.env := by
  unfold State.env
  rw [h.part, h.clock]

theorem State.Ends.objs (h : s.Ends d t) : t.dev.objs = d.objs := by rw [h.dev]
theorem State.Ends.shadows (h : s.Ends d t) : t.dev.shadows = d.shadows := by rw [h.dev]
theorem State.Ends.domShadows (h : s.Ends d t) : t.dev.domShadows = d.domShadows := by rw [h.dev]
theorem State.Ends.commit (h : s.Ends d t) : t.dev.commit = d.commit := by rw [h.dev]
theorem State.Ends.doms (h : s.Ends d t) : t.dev.doms = d.doms := by rw [h.dev]
theorem State.Ends.gddr (h : s.Ends d t) : t.dev.gddr = d.gddr := by rw [h.dev]
theorem State.Ends.flash (h : s.Ends d t) : t.dev.flash = d.flash := by rw [h.dev]
theorem State.Ends.free (h : s.Ends d t) : t.dev.free = d.free := by rw [h.dev]
theorem State.Ends.ses (h : s.Ends d t) : t.dev.ses = d.ses := by rw [h.dev]
theorem State.Ends.sent (h : s.Ends d t) : t.dev.sent = d.sent := by rw [h.dev]
theorem State.Ends.lock (h : s.Ends d t) : t.dev.lock = d.lock := by rw [h.dev]
theorem State.Ends.flt (h : s.Ends d t) : t.dev.flt = d.flt := by rw [h.dev]
theorem State.Ends.link (h : s.Ends d t) : t.dev.link = d.link := by rw [h.dev]
theorem State.Ends.jq (h : s.Ends d t) : t.dev.jq = d.jq := by rw [h.dev]
theorem State.Ends.em (h : s.Ends d t) : t.dev.em = d.em := by rw [h.dev]
theorem State.Ends.hm (h : s.Ends d t) : t.dev.hm = d.hm := by rw [h.dev]
theorem State.Ends.rx (h : s.Ends d t) : t.dev.rx = d.rx := by rw [h.dev]
theorem State.Ends.tdc (h : s.Ends d t) : t.dev.tdc = d.tdc := by rw [h.dev]
theorem State.Ends.ex (h : s.Ends d t) : t.dev.ex = d.ex := by rw [h.dev]
theorem State.Ends.rl (h : s.Ends d t) : t.dev.rl = d.rl := by rw [h.dev]
theorem State.Ends.acq (h : s.Ends d t) : t.dev.acq = d.acq := by rw [h.dev]
theorem State.Ends.cal (h : s.Ends d t) : t.dev.cal = d.cal := by rw [h.dev]
theorem State.Ends.atl (h : s.Ends d t) : t.dev.atl = d.atl := by rw [h.dev]
theorem State.Ends.tap (h : s.Ends d t) : t.dev.tap = d.tap := by rw [h.dev]
theorem State.Ends.mem (h : s.Ends d t) : t.dev.mem = d.mem := by rw [h.dev]
theorem State.Ends.hk (h : s.Ends d t) : t.dev.hk = d.hk := by rw [h.dev]
theorem State.Ends.pwr (h : s.Ends d t) : t.dev.pwr = d.pwr := by rw [h.dev]

theorem State.Ends.o (h : s.Ends d t) (i el : Nat) : t.dev.o i el = d.o i el := Dev.o_congr h.objs i el

theorem State.Ends.sess (h : s.Ends d t) (n : Nat) : t.dev.sess n = d.sess n := by
  unfold Dev.sess; rw [h.ses]

end

/-- A command before which nothing falls due and whose effect leaves nothing for its end ends in its effect. -/
theorem leads_ends {c : Instr} {f : Env → Dev → Dev} {s : State} {P : State → Prop} (d : Dev) (hq : s.Quiet) (hc : exec c s = run f s)
    (hd : f s.env s.begun = d) (hs : d.jq.settle = false) (hr : d.pwr.rstDue = none) (hP : ∀ t, s.Ends d t → P t) :
    Leads c s P :=
  leads_eff d hq.2.2 hc hd hs hr fun _ => hP _ ⟨rfl, rfl, rfl, rfl⟩

/-- A request has left device `d`, but for its response, the counters of `answerIdx` and the marks of subscriptions. -/
structure State.Replied (s : State) (d : Dev) (t : State) : Prop where
  sent : ∃ d', SentFrom d d' ∧ s.Ends d' t

section
variable {s t : State} {d : Dev}

theorem State.Replied.env (h : s.Replied d t) : t.env = s.env := by
  obtain ⟨_, -, he⟩ := h.sent
  exact he.env

theorem State.Replied.clock (h : s.Replied d t) : t.clock = s.clock := by
  obtain ⟨_, -, he⟩ := h.sent
  exact he.clock

theorem State.Replied.shadows (h : s.Replied d t) : t.dev.shadows = d.shadows := by
  obtain ⟨_, hs, he⟩ := h.sent
  rw [he.shadows, hs.rest]
theorem State.Replied.domShadows (h : s.Replied d t) : t.dev.domShadows = d.domShadows := by
  obtain ⟨_, hs, he⟩ := h.sent
  rw [he.domShadows, hs.rest]
theorem State.Replied.commit (h : s.Replied d t) : t.dev.commit = d.commit := by
  obtain ⟨_, hs, he⟩ := h.sent
  rw [he.commit, hs.rest]
theorem State.Replied.doms (h : s.Replied d t) : t.dev.doms = d.doms := by
  obtain ⟨_, hs, he⟩ := h.sent
  rw [he.doms, hs.rest]
theorem State.Replied.gddr (h : s.Replied d t) : t.dev.gddr = d.gddr := by
  obtain ⟨_, hs, he⟩ := h.sent
  rw [he.gddr, hs.rest]
theorem State.Replied.flash (h : s.Replied d t) : t.dev.flash = d.flash := by
  obtain ⟨_, hs, he⟩ := h.sent
  rw [he.flash, hs.rest]
theorem State.Replied.free (h : s.Replied d t) : t.dev.free = d.free := by
  obtain ⟨_, hs, he⟩ := h.sent
  rw [he.free, hs.rest]
theorem State.Replied.lock (h : s.Replied d t) : t.dev.lock = d.lock := by
  obtain ⟨_, hs, he⟩ := h.sent
  rw [he.lock, hs.rest]
theorem State.Replied.flt (h : s.Replied d t) : t.dev.flt = d.flt := by
  obtain ⟨_, hs, he⟩ := h.sent
  rw [he.flt, hs.rest]
theorem State.Replied.jq (h : s.Replied d t) : t.dev.jq = d.jq := by
  obtain ⟨_, hs, he⟩ := h.sent
  rw [he.jq, hs.rest]
theorem State.Replied.em (h : s.Replied d t) : t.dev.em = d.em := by
  obtain ⟨_, hs, he⟩ := h.sent
  rw [he.em, hs.rest]
theorem State.Replied.hm (h : s.Replied d t) : t.dev.hm = d.hm := by
  obtain ⟨_, hs, he⟩ := h.sent
  rw [he.hm, hs.rest]
theorem State.Replied.rx (h : s.Replied d t) : t.dev.rx = d.rx := by
  obtain ⟨_, hs, he⟩ := h.sent
  rw [he.rx, hs.rest]
theorem State.Replied.tdc (h : s.Replied d t) : t.dev.tdc = d.tdc := by
  obtain ⟨_, hs, he⟩ := h.sent
  rw [he.tdc, hs.rest]
theorem State.Replied.ex (h : s.Replied d t) : t.dev.ex = d.ex := by
  obtain ⟨_, hs, he⟩ := h.sent
  rw [he.ex, hs.rest]
theorem State.Replied.rl (h : s.Replied d t) : t.dev.rl = d.rl := by
  obtain ⟨_, hs, he⟩ := h.sent
  rw [he.rl, hs.rest]
theorem State.Replied.acq (h : s.Replied d t) : t.dev.acq = d.acq := by
  obtain ⟨_, hs, he⟩ := h.sent
  rw [he.acq, hs.rest]
theorem State.Replied.cal (h : s.Replied d t) : t.dev.cal = d.cal := by
  obtain ⟨_, hs, he⟩ := h.sent
  rw [he.cal, hs.rest]
theorem State.Replied.atl (h : s.Replied d t) : t.dev.atl = d.atl := by
  obtain ⟨_, hs, he⟩ := h.sent
  rw [he.atl, hs.rest]
theorem State.Replied.tap (h : s.Replied d t) : t.dev.tap = d.tap := by
  obtain ⟨_, hs, he⟩ := h.sent
  rw [he.tap, hs.rest]
theorem State.Replied.mem (h : s.Replied d t) : t.dev.mem = d.mem := by
  obtain ⟨_, hs, he⟩ := h.sent
  rw [he.mem, hs.rest]
theorem State.Replied.hk (h : s.Replied d t) : t.dev.hk = d.hk := by
  obtain ⟨_, hs, he⟩ := h.sent
  rw [he.hk, hs.rest]
theorem State.Replied.pwr (h : s.Replied d t) : t.dev.pwr = d.pwr := by
  obtain ⟨_, hs, he⟩ := h.sent
  rw [he.pwr, hs.rest]

theorem State.Replied.o (h : s.Replied d t) {i el : Nat} (hi : i ∉ answerIdx) (hel : el < 4096) : t.dev.o i el = d.o i el := by
  obtain ⟨_, hs, he⟩ := h.sent
  exact (he.o i el).trans (hs.objs i el hel hi)

/-- Of the link a response changes the packets that wait. -/
theorem State.Replied.link (h : s.Replied d t) : t.dev.link = { d.link with txq := t.dev.link.txq } := by
  obtain ⟨_, hs, he⟩ := h.sent
  rw [he.link, hs.rest]

end

/-! ### A write that comes into force at once -/

/-- An object of which a write of one element comes into force at once, whatever Jacquard's state, through the action of its object
alone (R75, R79): readable by its row, with elements of 12 bits; the objects whose write runs the bank check, opens a session or waits
for a Skipper are apart. -/
def landsAtOnce (idx : Nat) : Bool :=
  match rowOf? idx with
  | some r => r.idx == idx && r.els.all (fun p => p.2 < 4096) && r.ty != .dom && r.ty != .str && (r.acc == .rw || r.acc == .wo || r.acc == .rws) &&
      (r.cls == .now || r.cls == .stop) && idx != O.JQ_RUN && idx != O.JQ_SWAP_REQ && idx != O.SES_OPEN && idx != O.RX_REPAIR
  | none => false

/-- An element that is present belongs to its row. -/
theorem Dev.has_of_pres {e : Env} {d : Dev} {idx el : Nat} {r : ObjRow} (hr : rowOf? idx = some r) (h : d.pres e idx el = .ok) :
    r.has el = true := by
  unfold Dev.pres at h
  rw [hr] at h
  cases hn : r.has el
  · simp [hn] at h
  · rfl

/-- An element of a row whose elements have 12 bits. -/
theorem ObjRow.lt_of_has {r : ObjRow} {el : Nat} (h : r.has el = true) (hr : r.els.all (fun p => p.2 < 4096) = true) : el < 4096 := by
  obtain ⟨p, hp, hle⟩ := List.any_eq_true.mp h
  have := List.all_eq_true.mp hr p hp
  simp at hle this
  omega

/-- The device with what an accepted write of an element puts in force (R75, R79). -/
def State.landed (s : State) (h : Hdr) (idx el v : Nat) : Dev :=
  ((s.atRequest h.sess).shadowOff (okey idx el)).landEl s.env h.sess idx el v

theorem Dev.landKey_lands {e : Env} {n : Nat} {d : Dev} {idx el v : Nat} (hel : el < 4096) (hi : idx ≠ O.RX_REPAIR)
    (hb : d.busy e idx el v = none) : d.landKey e n (okey idx el) v = (d.shadowOff (okey idx el)).landEl e n idx el v := by
  have h1 : okey idx el / 4096 = idx := by unfold okey; omega
  have h2 : okey idx el % 4096 = el := by unfold okey; omega
  unfold Dev.landKey
  simp only [h1, h2]
  rw [if_neg (by simp [hi]), hb]
  rfl

theorem Dev.writeVal_lands {e : Env} {n : Nat} {d : Dev} {r : ObjRow} {el v : Nat}
    (hcls : (r.cls = .now ∨ r.cls = .stop) ∨ d.o O.JQ_STATE = 0) (hel : el < 4096) (hi : r.idx ≠ O.RX_REPAIR)
    (hb : d.busy e r.idx el v = none) :
    d.writeVal e n r el v = (d.shadowOff (okey r.idx el)).landEl e n r.idx el v := by
  unfold Dev.writeVal
  dsimp only
  rw [if_neg, Dev.landKey_lands hel hi hb]
  rintro ⟨hc, hj⟩
  rcases hcls with (hn | hn) | hn
  · simp [hn] at hc
  · simp [hn] at hc
  · exact hj hn

/-- An accepted write ends in the device with the value in force, answered. -/
theorem leads_landed {c : Instr} {s : State} {h : Hdr} {idx el v : Nat} {P : State → Prop} (hc : exec c s = write1 h idx el v s)
    (ha : Accepts s h idx el v) (hl : landsAtOnce idx = true)
    (hs : (s.landed h idx el v).jq.settle = false) (hd : (s.landed h idx el v).pwr.rstDue = none)
    (hP : ∀ t, s.Replied (s.landed h idx el v) t → P t) : Leads c s P := by
  unfold landsAtOnce at hl
  split at hl
  case h_2 => exact absurd hl Bool.false_ne_true
  case h_1 r hr =>
    simp only [Bool.and_eq_true, Bool.or_eq_true, beq_iff_eq, bne_iff_ne] at hl
    obtain ⟨⟨⟨⟨⟨⟨⟨⟨⟨hi, hels⟩, hdom⟩, hstr⟩, hacc⟩, hcls⟩, hrun⟩, hswap⟩, hses⟩, hrep⟩ := hl
    have hpres : (s.atRequest h.sess).pres s.env idx el = .ok := ha.2.2.1
    have hbusy : (s.atRequest h.sess).busy s.env idx el v = none := ha.2.2.2.2.2.2.2.1
    have hel : el < 4096 := ObjRow.lt_of_has (Dev.has_of_pres hr hpres) hels
    subst hi
    have hw : (s.atRequest h.sess).writeVal s.env h.sess r el v = s.landed h r.idx el v :=
      Dev.writeVal_lands (.inl hcls) hel hrep hbusy
    refine leads_write hc ha hr rfl (by omega) ⟨hdom, hstr⟩ ?_ ⟨hrun, hswap⟩ hses (hw ▸ hs) (hw ▸ hd)
      (fun d l hsent => hP _ ⟨d, hw ▸ hsent, rfl, rfl, rfl, rfl⟩)
    rcases hacc with (hacc | hacc) | hacc
    · exact .inl hacc
    · exact .inr (.inl hacc)
    · exact .inr (.inr hacc)

@[simp] theorem Dev.o_shadowOff (d : Dev) (k i el : Nat) : (d.shadowOff k).o i el = d.o i el := rfl

@[simp] theorem Dev.jq_shadowOff (d : Dev) (k : Nat) : (d.shadowOff k).jq = d.jq := rfl

@[simp] theorem Dev.pwr_shadowOff (d : Dev) (k : Nat) : (d.shadowOff k).pwr = d.pwr := rfl

end Sys2Proof.Machine
end

section
/-! PROOF. Emitter drive, Twill and Hawkmoth (chapters 04 and 05). -/

namespace Sys2Proof.Machine

/-! ### Bits of a word -/

theorem bit_eq_testBit (w i : Nat) : bit w i = w.testBit i := by
  unfold bit Nat.testBit
  rw [Nat.and_comm, Nat.and_one_is_mod]
  rcases Nat.mod_two_eq_zero_or_one (w >>> i) with h | h <;> simp [h]

theorem testBit_setBit_true (w i j : Nat) : (setBit w i true).testBit j = (w.testBit j || decide (i = j)) := by
  unfold setBit
  simp [Nat.testBit_or, Nat.one_shiftLeft, Nat.testBit_two_pow]

theorem bit_setBit_true (w i : Nat) : bit (setBit w i true) i = true := by
  rw [bit_eq_testBit, testBit_setBit_true]; simp

/-! ### Objects and Hawkmoth's evaluation -/

/-- A write of another object with small elements leaves an element. -/
theorem Dev.o_so_other {d : Dev} {i a v j b : Nat} (h : j ≠ i) (ha : a < 4096) (hb : b < 4096) :
    (d.so i a v).o j b = d.o j b := Dev.o_so_ne ha hb (.inl h)

theorem Dev.o_inc_other {d : Dev} {i a n j b : Nat} (h : j ≠ i) (ha : a < 4096) (hb : b < 4096) :
    (d.inc i a n).o j b = d.o j b := Dev.o_inc_ne ha hb (.inl h)

theorem Dev.o_log_other {e : Env} {d : Dev} {code loc cls detail : Nat} {inj : Bool} {i el : Nat} (h : i ≠ O.FLT_LOST)
    (hel : el < 4096) : (d.log e code loc cls detail inj).o i el = d.o i el := Dev.o_log hel h

theorem Dev.o_hmEval {e : Env} {d : Dev} {i el : Nat} (hi : i ∉ hmIdx) (hel : el < 4096) : (d.hmEval e).o i el = d.o i el :=
  HmFrom.hmEval.objs i el hel hi

theorem Dev.pwr_hmEval (e : Env) (d : Dev) : (d.hmEval e).pwr = d.pwr := HmFrom.hmEval.quiet.2
theorem Dev.settle_hmEval (e : Env) (d : Dev) : (d.hmEval e).jq.settle = d.jq.settle := HmFrom.hmEval.quiet.1
theorem Dev.hm_hmEval (e : Env) (d : Dev) : (d.hmEval e).hm = d.hm := by rw [HmFrom.hmEval.rest]
theorem Dev.em_hmEval (e : Env) (d : Dev) : (d.hmEval e).em = { d.em with closed := (d.hmEval e).em.closed } := by
  conv_lhs => rw [HmFrom.hmEval.rest]

/-- An evaluation of open switches leaves them open. -/
theorem Dev.closed_hmEval {e : Env} {d : Dev} (h : d.em.closed = 0) : (d.hmEval e).em.closed = 0 := by
  rcases (HmFrom.hmEval (e := e) (d := d)).closed with hc | hc
  · rw [hc, h]
  · exact hc

/-- A latching condition that comes first disarms with its own cause (R271). -/
theorem Dev.hmEval_disarms {e : Env} {d : Dev} {c : Nat} {inj : Bool} {l : List (Nat × Bool)} (h0 : d.o O.HM_STATE ≠ 0)
    (h : d.hmLatching e = (c, inj) :: l) : d.hmEval e = d.disarm e c (causeClass c) inj := by
  unfold Dev.hmEval
  simp [h0, h]

/-- A command that ends with Hawkmoth's evaluation ends in the evaluated device. -/
theorem leads_hmEval {c : Instr} {f : Env → Dev → Dev} {s : State} {P : State → Prop} (d : Dev) (hq : s.Quiet)
    (hc : exec c s = run f s) (hd : f s.env s.begun = d.hmEval s.env) (hs : d.jq.settle = false)
    (hr : d.pwr.rstDue = none) (hP : ∀ t, s.Ends (d.hmEval s.env) t → P t) : Leads c s P :=
  leads_ends _ hq hc hd ((Dev.settle_hmEval ..).trans hs) ((congrArg Pwr.rstDue (Dev.pwr_hmEval ..)).trans hr) hP

/-- An element that the evaluation leaves reads as before it. -/
theorem State.Ends.o_hmEval {s t : State} {d : Dev} (h : s.Ends (d.hmEval s.env) t) {i el : Nat} (hi : i ∉ hmIdx)
    (hel : el < 4096) : t.dev.o i el = d.o i el := (h.o i el).trans (Dev.o_hmEval hi hel)

/-! ### EMIT_EN -/

theorem Dev.hmLatching_emitEn_low {e : Env} {d : Dev} (h : d.hm.emitEn = false) : ∃ l, d.hmLatching e = (2, false) :: l := by
  unfold Dev.hmLatching
  simp [h]

/-- The EMIT_EN condition is absent where the ball is high and no injection raises it. -/
theorem Dev.armBlock_emitEn {e : Env} {d : Dev} (h : d.hm.emitEn = true) (hi : d.injected 0 = false) : d.armBlock e % 2 = 0 := by
  have h2 : (d.hmLatching e).any (fun p => p.1 == 2) = false := by
    unfold Dev.hmLatching
    simp only [h, hi, List.any_append]
    simp [apply_ite (fun l : List (Nat × Bool) => l.any (fun p => p.1 == 2))]
  unfold Dev.armBlock
  simp only [h2, b2n, Bool.false_eq_true, if_false]
  omega

theorem emitEnLow_disarms {s : State} (hq : s.Quiet) :
    Leads .emitEnLow s (fun t => t.dev.hm.emitEn = false ∧ t.dev.em.closed = 0 ∧ t.dev.o O.HM_STATE = 0 ∧
      (s.dev.o O.HM_STATE ≠ 0 → t.dev.o O.HM_DISARM_CAUSE = 2 ∧ t.dev.o O.HM_DISARM_TIME = s.clock.time)) := by
  obtain ⟨d, hd⟩ : ∃ d, d = Dev.cutDrive { s.begun with hm := { s.dev.hm with emitEn := false } } := ⟨_, rfl⟩
  have hlow : d.hm.emitEn = false := hd ▸ rfl
  have hstate : d.o O.HM_STATE = s.dev.o O.HM_STATE := hd ▸ rfl
  obtain ⟨l, hl⟩ := Dev.hmLatching_emitEn_low (e := s.env) hlow
  refine leads_hmEval d hq rfl (hd ▸ rfl) (hd ▸ hq.1) (hd ▸ hq.2.1) fun t ht => ⟨?_, ?_, ?_, fun h0 => ?_⟩
  · rw [ht.hm, Dev.hm_hmEval, hlow]
  · rw [ht.em, Dev.closed_hmEval (hd ▸ rfl)]
  · rw [ht.o, Dev.hmEval_latching (hl ▸ List.cons_ne_nil _ _)]
  · obtain ⟨-, hcause, htime, -⟩ := Dev.disarm_o s.env d 2 (causeClass 2) false
    rw [ht.o, ht.o, Dev.hmEval_disarms (hstate ▸ h0) hl, hcause, htime]
    exact ⟨rfl, rfl⟩

theorem emitEnHigh_unblocks {s : State} (hq : s.Quiet) :
    Leads .emitEnHigh s (fun t => t.dev.hm.emitEn = true ∧ (s.dev.injected 0 = false → t.dev.armBlock t.env % 2 = 0)) := by
  obtain ⟨d, hd⟩ : ∃ d : Dev, d = { s.begun with hm := { s.dev.hm with emitEn := true } } := ⟨_, rfl⟩
  refine leads_hmEval d hq rfl (hd ▸ rfl) (hd ▸ hq.1) (hd ▸ hq.2.1) fun t ht => ?_
  have hhigh : t.dev.hm.emitEn = true := by rw [ht.hm, Dev.hm_hmEval, hd]
  refine ⟨hhigh, fun hinj => Dev.armBlock_emitEn hhigh ?_⟩
  have ho : t.dev.o O.HM_INJECT = s.dev.o O.HM_INJECT := by
    rw [ht.o_hmEval (by decide) (by decide), hd]; rfl
  rw [Dev.injected, ho]
  exact hinj

/-- Settles O2: EMIT_EN low is the first of the latching causes, and high it leaves none of them but its injection. -/
theorem emitEnableCutsTheDrive : Obligations.EmitEnableCutsTheDrive :=
  fun _ hq => ⟨emitEnLow_disarms hq, emitEnHigh_unblocks hq⟩

/-! ### Driver shutdown and the VHV window -/

/-- A driver shutdown with its count, the drive cut and the entry, before Hawkmoth's evaluation (R263). -/
def Dev.tripped (e : Env) (d : Dev) (sensor : Nat) : Dev :=
  (((d.so O.EM_TSD_ACTIVE 0 1).inc O.EM_TSD_EVENTS).cutDrive).log e 0x020A (hvLoc 6) 3 sensor

theorem Dev.tsdTrip_eq {e : Env} {d : Dev} {n : Nat} (hlo : 12 ≤ n) (hhi : n < 16) (h0 : d.o O.EM_TSD_ACTIVE = 0) :
    d.tsdTrip e n = (d.tripped e n).hmEval e := by
  unfold Dev.tsdTrip Dev.ob
  rw [h0, if_neg (by simp; omega)]
  rfl

theorem driverTsdTrip_cuts {s : State} (hq : s.Quiet) {n : Nat} (hlo : 12 ≤ n) (hhi : n < 16) (h0 : s.dev.o O.EM_TSD_ACTIVE = 0) :
    Leads (.driverTsdTrip n) s (fun t => t.dev.o O.EM_TSD_ACTIVE = 1 ∧
      t.dev.o O.EM_TSD_EVENTS = ctrAdd O.EM_TSD_EVENTS 0 (s.dev.o O.EM_TSD_EVENTS) 1 ∧ t.dev.em.closed = 0 ∧
      t.dev.o O.HM_STATE ≠ 2) := by
  obtain ⟨d, hd⟩ : ∃ d, d = s.begun.tripped s.env n := ⟨_, rfl⟩
  have hactive : d.o O.EM_TSD_ACTIVE = 1 := by
    rw [hd, Dev.tripped, Dev.o_log_other (by decide) (by decide), Dev.o_cutDrive, Dev.o_inc_other (by decide) (by decide) (by decide),
      Dev.o_so_self]
  have hevents : d.o O.EM_TSD_EVENTS = ctrAdd O.EM_TSD_EVENTS 0 (s.dev.o O.EM_TSD_EVENTS) 1 := by
    rw [hd, Dev.tripped, Dev.o_log_other (by decide) (by decide), Dev.o_cutDrive, Dev.o_inc_self,
      Dev.o_so_other (by decide) (by decide) (by decide)]
    rfl
  have hclosed : d.em.closed = 0 := by rw [hd, Dev.tripped, Dev.em_log]; rfl
  have hpass : d.hmPassing = true := by simp [Dev.hmPassing, Dev.ob, hactive]
  refine leads_hmEval (f := fun e d => d.tsdTrip e n) d hq rfl (hd ▸ Dev.tsdTrip_eq hlo hhi h0) ?_ ?_ fun t ht => ⟨?_, ?_, ?_, ?_⟩
  · rw [hd, Dev.tripped, Dev.jq_log]; exact hq.1
  · rw [hd, Dev.tripped, Dev.pwr_log]; exact hq.2.1
  · rw [ht.o_hmEval (by decide) (by decide), hactive]
  · rw [ht.o_hmEval (by decide) (by decide), hevents]
  · rw [ht.em, Dev.closed_hmEval hclosed]
  · rw [ht.o]; exact Dev.hmEval_passing hpass

theorem Dev.tsdRestart_eq {e : Env} {d : Dev} (h1 : d.o O.EM_TSD_ACTIVE = 1) :
    d.tsdRestart e = (d.so O.EM_TSD_ACTIVE 0 0).hmEval e := by
  unfold Dev.tsdRestart Dev.ob
  rw [h1]
  rfl

theorem driverTsdRestart_ends {s : State} (hq : s.Quiet) (h1 : s.dev.o O.EM_TSD_ACTIVE = 1) :
    Leads .driverTsdRestart s (fun t => t.dev.o O.EM_TSD_ACTIVE = 0) :=
  leads_hmEval (s.begun.so O.EM_TSD_ACTIVE 0 0) hq rfl (Dev.tsdRestart_eq h1) hq.1 hq.2.1 fun t ht => by
    rw [ht.o_hmEval (by decide) (by decide), Dev.o_so_self]

/-- A voltage outside 10.0 V to 48.0 V (R229). -/
def outOfWindow (mv : Int) : Bool := mv < 10000 || 48000 < mv

/-- The device as the report of a VHV leaves it before Hawkmoth's evaluation (R229). -/
def Dev.vhvReported (e : Env) (d : Dev) (mv : Int) : Dev :=
  let d' := { d with em := { d.em with vhvMv := mv } }
  if outOfWindow mv && !d.vhvOut && d.o O.SU_STATE != 0 then d'.cutDrive.log e 0x020C (hvLoc 8) 1 (ofS 64 mv) else d'

theorem Dev.vhvReport_eq (e : Env) (d : Dev) (mv : Int) : d.vhvReport e mv = (d.vhvReported e mv).hmEval e := by
  unfold Dev.vhvReport Dev.vhvReported Dev.vhvWindowLog
  dsimp only
  by_cases h : (outOfWindow mv && !d.vhvOut && d.o O.SU_STATE != 0) = true
  · rw [if_pos h]; exact if_pos h
  · rw [if_neg h]; exact if_neg h

/-- A report changes the voltage, the drive and the log. -/
theorem Dev.vhvReported_keeps (e : Env) (d : Dev) (mv : Int) :
    (d.vhvReported e mv).jq.settle = d.jq.settle ∧ (d.vhvReported e mv).pwr = d.pwr ∧ (d.vhvReported e mv).em.vhvMv = mv := by
  unfold Dev.vhvReported
  dsimp only
  split
  · rw [Dev.jq_log, Dev.pwr_log, Dev.em_log]; exact ⟨rfl, rfl, rfl⟩
  · exact ⟨rfl, rfl, rfl⟩

/-- A command that reports a VHV ends in the report, evaluated. -/
theorem leads_vhvReport {c : Instr} {f : Env → Dev → Dev} {s : State} {mv : Int} {P : State → Prop} (hq : s.Quiet)
    (hc : exec c s = run f s) (hf : f s.env s.begun = s.begun.vhvReport s.env mv)
    (hP : ∀ t, s.Ends ((s.begun.vhvReported s.env mv).hmEval s.env) t → t.dev.em.vhvMv = mv → P t) :
    Leads c s P := by
  obtain ⟨hjq, hpwr, hmv⟩ := s.begun.vhvReported_keeps s.env mv
  refine leads_hmEval _ hq hc (hf.trans (Dev.vhvReport_eq ..)) (hjq.trans hq.1) ((congrArg Pwr.rstDue hpwr).trans hq.2.1)
    fun t ht => hP t ht ?_
  rw [ht.em, Dev.em_hmEval]
  exact hmv

theorem Dev.vhvExit_eq {e : Env} {d : Dev} {mv : Int} (h : mv < 10000 ∨ 48000 < mv) : d.vhvExit e mv = d.vhvReport e mv := by
  unfold Dev.vhvExit
  rw [if_pos (by simpa using h)]

theorem Dev.vhvReturn_eq {e : Env} {d : Dev} {mv : Int} (hlo : 10000 ≤ mv) (hhi : mv ≤ 48000) :
    d.vhvReturn e mv = d.vhvReport e mv := by
  unfold Dev.vhvReturn
  rw [if_neg (by simp; omega)]

theorem vhvAnodeWindowExit_holds {s : State} (hq : s.Quiet) {mv : Int} (hmv : mv < 10000 ∨ 48000 < mv) :
    Leads (.vhvAnodeWindowExit mv) s (fun t => t.dev.em.vhvMv = mv ∧ t.dev.o O.HM_STATE ≠ 2 ∧
      (s.dev.vhvOut = false → s.dev.o O.SU_STATE ≠ 0 → t.dev.em.closed = 0 ∧ Logged s t 0x020C 1)) := by
  have hwin : outOfWindow mv = true := by simpa [outOfWindow] using hmv
  refine leads_vhvReport (f := fun e d => d.vhvExit e mv) hq rfl (Dev.vhvExit_eq hmv) fun t ht ht' => ⟨ht', ?_, fun hin hsu => ?_⟩
  · rw [ht.o]
    refine Dev.hmEval_passing ?_
    obtain ⟨-, -, hrep⟩ := s.begun.vhvReported_keeps s.env mv
    unfold outOfWindow at hwin
    simp only [Dev.hmPassing, Dev.vhvOut, hrep, hwin, Bool.true_or]
  · obtain ⟨c, hcut⟩ : ∃ c, c = Dev.cutDrive { s.begun with em := { s.dev.em with vhvMv := mv } } := ⟨_, rfl⟩
    have hlog : s.begun.vhvReported s.env mv = c.log s.env 0x020C (hvLoc 8) 1 (ofS 64 mv) := by
      rw [hcut]
      refine if_pos ?_
      rw [hwin, show s.begun.vhvOut = false from hin]
      simpa using hsu
    rw [hlog] at ht
    refine ⟨?_, fun hroom => ?_⟩
    · rw [ht.em, Dev.closed_hmEval (by rw [Dev.em_log, hcut]; rfl)]
    · obtain ⟨en, hen, hspec⟩ := Dev.exists_held_log (e := s.env) (d := c) (code := 0x020C) (loc := hvLoc 8) (cls := 1)
        (detail := ofS 64 mv) (inj := false) (hcut ▸ Nat.lt_trans hroom (by decide))
      exact ⟨en, ht.flt ▸ Dev.mem_held_hmEval hen, hspec⟩

theorem vhvAnodeWindowReturn_clears {s : State} (hq : s.Quiet) {mv : Int} (hlo : 10000 ≤ mv) (hhi : mv ≤ 48000) :
    Leads (.vhvAnodeWindowReturn mv) s (fun t => t.dev.em.vhvMv = mv ∧ t.dev.vhvOut = false) := by
  refine leads_vhvReport (f := fun e d => d.vhvReturn e mv) hq rfl (Dev.vhvReturn_eq hlo hhi) fun t _ ht' => ⟨ht', ?_⟩
  unfold Dev.vhvOut
  rw [ht']
  simp; omega

/-! ### Line protection -/

/-- The device with a line's switch opened by a peak, and its shot cut (R231). -/
def Dev.lineCut (d : Dev) (line peak : Nat) (f : Flight) : Dev :=
  { d.inc O.EM_AN_OVER line with
    jq := { d.jq with flight := some { f with cut := true } }
    em := { d.em with
      peaks := tset 0 d.em.peaks line (max peak (tget 0 d.em.peaks line))
      tripped := setBit d.em.tripped line true
      closed := setBit d.em.closed line false
      overs := tset [] d.em.overs line (tget 0 d.em.fired line :: tget [] d.em.overs line) } }

theorem Dev.overCurrent_eq {d : Dev} {line peak : Nat} {f : Flight} (hf : d.jq.flight = some f)
    (h : (d.tripsAt line peak && f.emitted && f.wins && f.supp.isNone && decide (line < 8) && bit f.an line &&
      !bit d.em.tripped line) = true) : d.overCurrent line peak = d.lineCut line peak f := by
  unfold Dev.overCurrent
  simp only [hf]
  rw [if_pos h]
  rfl

theorem pulseOvercurrent_trips {s : State} (hq : s.Quiet) {line peak : Nat} {f : Flight} (hline : line < 8)
    (hf : s.dev.jq.flight = some f) (hem : f.emitted = true) (hwin : f.wins = true) (hsupp : f.supp = none)
    (han : bit f.an line = true) (htr : bit s.dev.em.tripped line = false)
    (hpeak : 5 * (s.dev.em.setp[line]?).getD 0 < 4 * peak ∨ 1100 < peak) :
    Leads (.pulseOvercurrent ⟨line, peak⟩) s (fun t =>
      t.dev.em.closed = setBit s.dev.em.closed line false ∧ bit t.dev.em.tripped line = true ∧
      t.dev.jq.flight = some { f with cut := true } ∧
      t.dev.o O.EM_AN_OVER line = ctrAdd O.EM_AN_OVER line (s.dev.o O.EM_AN_OVER line) 1) := by
  have htrip : s.begun.tripsAt line peak = true := by
    simp only [Dev.tripsAt, Bool.or_eq_true, decide_eq_true_eq]
    exact hpeak
  refine leads_ends (f := fun _ d => d.overCurrent line peak) _ hq rfl
    (Dev.overCurrent_eq hf (by simp [htrip, hem, hwin, hsupp, hline, han, htr])) hq.1 hq.2.1 fun t ht => ⟨?_, ?_, ?_, ?_⟩
  · rw [ht.em]; rfl
  · rw [ht.em]; exact bit_setBit_true ..
  · rw [ht.jq]; rfl
  · rw [ht.o]; exact Dev.o_inc_self ..

/-- The device with a line barred, its switch open and its events counted anew (R233). -/
def Dev.barred (d : Dev) (line : Nat) : Dev :=
  { d.so O.EM_BAR_AN 0 (setBit (d.o O.EM_BAR_AN) line true) with
    em := { d.em with overs := tset [] d.em.overs line [], unders := tset 0 d.em.unders line 0,
                      closed := setBit d.em.closed line false } }

theorem Dev.lineBar_eq {e : Env} {d : Dev} {line : Nat} (hline : line < 8) (hdue : d.overDue line = true ∨ d.underDue line = true) :
    d.lineBar e line = (d.barred line).log e (if d.overDue line then 0x0209 else 0x0208)
      (lineLoc line (if d.overDue line then 5 else 4)) 2 := by
  have hsome : (d.overDue line || d.underDue line) = true := by rcases hdue with h | h <;> simp [h]
  unfold Dev.lineBar Dev.barred
  rw [hsome, if_neg (by simp; omega)]
  dsimp only
  cases d.overDue line <;> rfl

theorem lineBar_bars {s : State} (hq : s.Quiet) {line : Nat} (hline : line < 8)
    (hdue : s.dev.overDue line = true ∨ s.dev.underDue line = true) :
    Leads (.lineBar line) s (fun t => t.dev.o O.EM_BAR_AN = setBit (s.dev.o O.EM_BAR_AN) line true ∧
      t.dev.em.closed = setBit s.dev.em.closed line false ∧
      tget 0 t.dev.em.unders line = 0 ∧ Logged s t (if s.dev.overDue line then 0x0209 else 0x0208) 2) := by
  refine leads_ends (f := fun e d => d.lineBar e line) _ hq rfl (Dev.lineBar_eq hline hdue) ?_ ?_ fun t ht => ⟨?_, ?_, ?_, fun hroom => ?_⟩
  · rw [Dev.jq_log]; exact hq.1
  · rw [Dev.pwr_log]; exact hq.2.1
  · rw [ht.o, Dev.o_log_other (by decide) (by decide)]
    exact Dev.o_so_self ..
  · rw [ht.em, Dev.em_log]; rfl
  · rw [ht.em, Dev.em_log]; exact tget_tset_self 0 s.dev.em.unders line 0
  · rw [ht.flt]
    exact Dev.exists_held_log (Nat.lt_trans hroom (by decide))

/-- Settles O3: each event cuts the drive or the line before Hawkmoth evaluates, which closes no switch. -/
theorem outputsAndDriversAreProtected : Obligations.OutputsAndDriversAreProtected :=
  ⟨fun _ hq => ⟨fun _ hlo hhi h0 => driverTsdTrip_cuts hq hlo hhi h0, driverTsdRestart_ends hq,
      fun _ hmv => vhvAnodeWindowExit_holds hq hmv, fun _ hlo hhi => vhvAnodeWindowReturn_clears hq hlo hhi⟩,
    fun _ hq => ⟨fun _ _ _ hline hf hem hwin hsupp han htr hpeak => pulseOvercurrent_trips hq hline hf hem hwin hsupp han htr hpeak,
      fun _ hline hdue => lineBar_bars hq hline hdue⟩⟩

end Sys2Proof.Machine
end

section
/-! PROOF. Drive test passes and the Twill chain (chapter 04). -/

namespace Sys2Proof.Machine

/-! ### Test passes -/

@[simp] theorem Dev.em_domOn (e : Env) (d : Dev) (n : Nat) : (d.domOn e n).em = d.em := by
  unfold Dev.domOn; dsimp only; split <;> rfl

@[simp] theorem Dev.jq_domOn (e : Env) (d : Dev) (n : Nat) : (d.domOn e n).jq = d.jq := by
  unfold Dev.domOn; dsimp only; split <;> rfl

/-- A domain switched on changes of the power state the start of its ramp alone. -/
theorem Dev.pwr_domOn (e : Env) (d : Dev) (n : Nat) : ∃ l, (d.domOn e n).pwr = { d.pwr with rampAt := l } := by
  unfold Dev.domOn
  dsimp only
  split
  · exact ⟨_, rfl⟩
  · exact ⟨_, rfl⟩

theorem Dev.testPass_eq {e : Env} {d : Dev} (hp : d.em.pass = none) (hw : d.passWanted e = true) (hr : d.passRoom e = true) :
    d.testPass e = d.passStart e := by
  unfold Dev.testPass
  rw [hp, hw, hr]
  rfl

/-- A pass that starts opens every switch and takes the request over (R257, R262). -/
theorem Dev.em_passStart (e : Env) (d : Dev) : (d.passStart e).em =
    { d.em with pass := some e.now, passLast := some e.now, req := false, startPass := false, closed := 0,
                passClear := d.em.barClear, barClear := false } := by
  unfold Dev.passStart
  simp

theorem testPassStart_starts {s : State} (hq : s.Quiet) (hp : s.dev.em.pass = none)
    (hw : Dev.passWanted s.env { s.dev with sent := [] } = true) (hr : Dev.passRoom s.env { s.dev with sent := [] } = true) :
    Leads .testPassStart s (fun t => t.dev.em.pass = some s.clock.time ∧ t.dev.em.passLast = some s.clock.time ∧
      t.dev.em.closed = 0 ∧ t.dev.em.req = false ∧ t.dev.em.passClear = s.dev.em.barClear ∧ t.dev.em.barClear = false) := by
  refine leads_ends (f := fun e d => d.testPass e) (s.begun.passStart s.env) hq rfl (Dev.testPass_eq hp hw hr) ?_ ?_ fun t ht => ?_
  · unfold Dev.passStart
    rw [Dev.jq_domOn]
    exact hq.1
  · obtain ⟨l, hl⟩ := Dev.pwr_domOn s.env s.begun 93
    unfold Dev.passStart
    rw [hl]
    exact hq.2.1
  · rw [ht.em, Dev.em_passStart]
    exact ⟨rfl, rfl, rfl, rfl, rfl, rfl⟩

/-- The bars that a pass lifts: all but those of the outputs that have failed it (R262). -/
def Dev.barsLifted (d : Dev) (an kd : Nat) : Dev :=
  if d.em.passClear then (d.so O.EM_BAR_AN 0 (d.o O.EM_BAR_AN &&& an)).so O.EM_BAR_KD 0 (d.o O.EM_BAR_KD &&& kd) else d

/-- A test pass ended: its time and result are noted, and with Jacquard STOPPED its domain is off (R260). -/
def Dev.passOver (e : Env) (d : Dev) (result : Nat) (hv : Bool) : Dev :=
  let d := (d.so O.EM_TEST_LAST_TIME 0 e.now).so O.EM_TEST_RESULT 0 result
  let d := { d with em := { d.em with pass := none, passDone := some e.now, passClear := false }, hm := { d.hm with hvDrive := hv } }
  if d.o O.JQ_STATE == 0 then d.domOff 93 else d

/-- What the end of a pass leaves of the device. -/
theorem Dev.passOver_spec (e : Env) (d : Dev) (result : Nat) (hv : Bool) :
    (d.passOver e result hv).em = { d.em with pass := none, passDone := some e.now, passClear := false } ∧
      (d.passOver e result hv).jq = d.jq ∧ (d.passOver e result hv).pwr = d.pwr ∧
      (d.passOver e result hv).o O.EM_TEST_LAST_TIME = e.now ∧ (d.passOver e result hv).o O.EM_TEST_RESULT = result ∧
      (d.passOver e result hv).o O.EM_BAR_AN = d.o O.EM_BAR_AN ∧ (d.passOver e result hv).o O.EM_BAR_KD = d.o O.EM_BAR_KD := by
  obtain ⟨x, hx⟩ : ∃ x, x = (d.so O.EM_TEST_LAST_TIME 0 e.now).so O.EM_TEST_RESULT 0 result := ⟨_, rfl⟩
  have htime : x.o O.EM_TEST_LAST_TIME = e.now := by
    rw [hx, Dev.o_so_other (by decide) (by decide) (by decide), Dev.o_so_self]
  have hres : x.o O.EM_TEST_RESULT = result := by rw [hx, Dev.o_so_self]
  have hoth : ∀ i, i ≠ O.EM_TEST_LAST_TIME → i ≠ O.EM_TEST_RESULT → x.o i = d.o i := by
    intro i h1 h2
    rw [hx, Dev.o_so_other h2 (by decide) (by decide), Dev.o_so_other h1 (by decide) (by decide)]
  unfold Dev.passOver
  rw [← hx]
  dsimp only
  split
  · refine ⟨hx ▸ rfl, hx ▸ rfl, hx ▸ rfl, ?_, ?_, ?_, ?_⟩
    · exact (Dev.o_so_other (by decide) (by decide) (by decide)).trans htime
    · exact (Dev.o_so_other (by decide) (by decide) (by decide)).trans hres
    · exact (Dev.o_so_other (by decide) (by decide) (by decide)).trans (hoth _ (by decide) (by decide))
    · exact (Dev.o_so_other (by decide) (by decide) (by decide)).trans (hoth _ (by decide) (by decide))
  · exact ⟨hx ▸ rfl, hx ▸ rfl, hx ▸ rfl, htime, hres, hoth _ (by decide) (by decide), hoth _ (by decide) (by decide)⟩

/-- The end of a pass that finds no fault. -/
theorem Dev.passEnd_nil {e : Env} {d : Dev} {t : Nat} (hp : d.em.pass = some t) (ht : t + 60000 ≤ e.now) :
    d.passEnd e [] = ((d.barsLifted 0 0).passOver e 0 false).hmEval e := by
  unfold Dev.passEnd Dev.barsLifted Dev.passOver
  simp only [hp]
  rw [if_neg (by omega)]
  rfl

/-- The end of a pass that finds one fault of an output of the part. -/
theorem Dev.passEnd_one {e : Env} {d : Dev} {t r i : Nat} (hp : d.em.pass = some t) (ht : t + 60000 ≤ e.now)
    (hri : passFaults [(r, i)] = [(r, i)]) :
    d.passEnd e [(r, i)] = (((d.barsLifted (if 5 ≤ r then setBit 0 i true else 0) (if r ≤ 4 then setBit 0 i true else 0)).driveFault e r i).passOver e
      (((if r ≤ 4 then setBit 0 i true else 0) <<< 8) + if 5 ≤ r then setBit 0 i true else 0)
      (r == 3 || r == 4 || r == 7)).hmEval e := by
  unfold Dev.passEnd Dev.barsLifted Dev.passOver
  simp only [hp, hri, List.foldl, List.any, Bool.or_false]
  rw [if_neg (by omega)]
  rfl

theorem Dev.barsLifted_keeps (d : Dev) (an kd : Nat) :
    (d.barsLifted an kd).em = d.em ∧ (d.barsLifted an kd).jq = d.jq ∧ (d.barsLifted an kd).pwr = d.pwr := by
  unfold Dev.barsLifted
  split
  · exact ⟨rfl, rfl, rfl⟩
  · exact ⟨rfl, rfl, rfl⟩

/-- A pass that lifts bars and finds no fault lifts them all (R262). -/
theorem Dev.barsLifted_all {d : Dev} (h : d.em.passClear = true) :
    (d.barsLifted 0 0).o O.EM_BAR_AN = 0 ∧ (d.barsLifted 0 0).o O.EM_BAR_KD = 0 := by
  unfold Dev.barsLifted
  rw [if_pos h, Dev.o_so_other (by decide) (by decide) (by decide), Dev.o_so_self, Dev.o_so_self, Nat.and_zero, Nat.and_zero]
  exact ⟨rfl, rfl⟩

theorem testPassEnd_passes {s : State} (hq : s.Quiet) {t0 : Nat} (hp : s.dev.em.pass = some t0) (ht0 : t0 + 60000 ≤ s.clock.time) :
    Leads (.testPassEnd []) s (fun t => t.dev.em.pass = none ∧ t.dev.em.passDone = some s.clock.time ∧
      t.dev.o O.EM_TEST_LAST_TIME = s.clock.time ∧ t.dev.o O.EM_TEST_RESULT = 0 ∧
      (s.dev.em.passClear = true → t.dev.o O.EM_BAR_AN = 0 ∧ t.dev.o O.EM_BAR_KD = 0)) := by
  obtain ⟨hem, hjq, hpwr, htime, hres, han, hkd⟩ := Dev.passOver_spec s.env (s.begun.barsLifted 0 0) 0 false
  obtain ⟨-, hjq', hpwr'⟩ := s.begun.barsLifted_keeps 0 0
  refine leads_hmEval (f := fun e d => d.passEnd e []) _ hq rfl (Dev.passEnd_nil hp ht0) ?_ ?_ fun t ht =>
    ⟨?_, ?_, ?_, ?_, fun hclear => ⟨?_, ?_⟩⟩
  · rw [hjq, hjq']; exact hq.1
  · rw [hpwr, hpwr']; exact hq.2.1
  · rw [ht.em, Dev.em_hmEval, hem]
  · rw [ht.em, Dev.em_hmEval, hem]; rfl
  · rw [ht.o_hmEval (by decide) (by decide), htime]; rfl
  · rw [ht.o_hmEval (by decide) (by decide), hres]
  · rw [ht.o_hmEval (by decide) (by decide), han, (Dev.barsLifted_all (d := s.begun) hclear).1]
  · rw [ht.o_hmEval (by decide) (by decide), hkd, (Dev.barsLifted_all (d := s.begun) hclear).2]

/-- The end of a pass with one fault ends in the fault's bar and the pass's result. -/
theorem leads_passEnd_one {s : State} {P : State → Prop} {t0 r i : Nat} (hq : s.Quiet) (hp : s.dev.em.pass = some t0)
    (ht0 : t0 + 60000 ≤ s.clock.time) (hri : passFaults [(r, i)] = [(r, i)]) {d x : Dev}
    (hd : d = s.begun.barsLifted (if 5 ≤ r then setBit 0 i true else 0) (if r ≤ 4 then setBit 0 i true else 0))
    (hx : d.driveFault s.env r i = x)
    (hjq : x.jq = s.dev.jq) (hpwr : x.pwr = s.dev.pwr)
    (hP : ∀ t : State, t.dev.o O.EM_BAR_AN = x.o O.EM_BAR_AN → t.dev.o O.EM_BAR_KD = x.o O.EM_BAR_KD →
      t.dev.o O.EM_TEST_RESULT = ((if r ≤ 4 then setBit 0 i true else 0) <<< 8) + (if 5 ≤ r then setBit 0 i true else 0) → P t) :
    Leads (.testPassEnd [(r, i)]) s P := by
  obtain ⟨-, hjq', hpwr', -, hres, han, hkd⟩ := Dev.passOver_spec s.env x
    (((if r ≤ 4 then setBit 0 i true else 0) <<< 8) + if 5 ≤ r then setBit 0 i true else 0) (r == 3 || r == 4 || r == 7)
  refine leads_hmEval (f := fun e d => d.passEnd e [(r, i)]) _ hq rfl ((Dev.passEnd_one (e := s.env) (d := s.begun) hp ht0 hri).trans (by rw [← hd, hx])) ?_ ?_
    fun t ht => hP t ?_ ?_ ?_
  · rw [hjq', hjq]; exact hq.1
  · rw [hpwr', hpwr]; exact hq.2.1
  · rw [ht.o_hmEval (by decide) (by decide), han]
  · rw [ht.o_hmEval (by decide) (by decide), hkd]
  · rw [ht.o_hmEval (by decide) (by decide), hres]

theorem setBit_zero_true (i : Nat) : setBit 0 i true = 2 ^ i := by
  unfold setBit
  rw [if_pos rfl, Nat.zero_or, Nat.one_shiftLeft]

theorem testPassEnd_bars_cathode {s : State} (hq : s.Quiet) {t0 r i : Nat} (hp : s.dev.em.pass = some t0)
    (ht0 : t0 + 60000 ≤ s.clock.time) (hr : r = 1 ∨ r = 2) (hi : i < 16) :
    Leads (.testPassEnd [(r, i)]) s (fun t => bit (t.dev.o O.EM_BAR_KD) i = true ∧ t.dev.o O.EM_TEST_RESULT = 2 ^ i <<< 8) := by
  obtain ⟨d, hd⟩ : ∃ d, d = s.begun.barsLifted (if 5 ≤ r then setBit 0 i true else 0) (if r ≤ 4 then setBit 0 i true else 0) := ⟨_, rfl⟩
  obtain ⟨-, hjq, hpwr⟩ := s.begun.barsLifted_keeps (if 5 ≤ r then setBit 0 i true else 0) (if r ≤ 4 then setBit 0 i true else 0)
  rw [← hd] at hjq hpwr
  have hri : passFaults [(r, i)] = [(r, i)] := by rcases hr with rfl | rfl <;> simp [passFaults, hi]
  have hfault : d.driveFault s.env r i =
      (d.so O.EM_BAR_KD 0 (setBit (d.o O.EM_BAR_KD) i true)).log s.env (0x0200 + r) (kdLoc i (r - 1)) 2 := by
    rcases hr with rfl | rfl <;> rfl
  refine leads_passEnd_one hq hp ht0 hri hd hfault ?_ ?_ fun t _ hkd hres => ⟨?_, ?_⟩
  · rw [Dev.jq_log]; exact hjq
  · rw [Dev.pwr_log]; exact hpwr
  · rw [hkd, Dev.o_log_other (by decide) (by decide), Dev.o_so_self]
    exact bit_setBit_true ..
  · rw [hres, setBit_zero_true, if_pos (by omega), if_neg (by omega)]
    rfl

theorem testPassEnd_bars_line {s : State} (hq : s.Quiet) {t0 r i : Nat} (hp : s.dev.em.pass = some t0)
    (ht0 : t0 + 60000 ≤ s.clock.time) (hr : r = 5 ∨ r = 6) (hi : i < 8) :
    Leads (.testPassEnd [(r, i)]) s (fun t => bit (t.dev.o O.EM_BAR_AN) i = true ∧ t.dev.o O.EM_TEST_RESULT = 2 ^ i) := by
  obtain ⟨d, hd⟩ : ∃ d, d = s.begun.barsLifted (if 5 ≤ r then setBit 0 i true else 0) (if r ≤ 4 then setBit 0 i true else 0) := ⟨_, rfl⟩
  obtain ⟨-, hjq, hpwr⟩ := s.begun.barsLifted_keeps (if 5 ≤ r then setBit 0 i true else 0) (if r ≤ 4 then setBit 0 i true else 0)
  rw [← hd] at hjq hpwr
  have hri : passFaults [(r, i)] = [(r, i)] := by rcases hr with rfl | rfl <;> simp [passFaults, hi]
  have hfault : d.driveFault s.env r i =
      (d.so O.EM_BAR_AN 0 (setBit (d.o O.EM_BAR_AN) i true)).log s.env (0x0200 + r) (lineLoc i (r - 5)) 2 := by
    rcases hr with rfl | rfl <;> rfl
  refine leads_passEnd_one hq hp ht0 hri hd hfault ?_ ?_ fun t han _ hres => ⟨?_, ?_⟩
  · rw [Dev.jq_log]; exact hjq
  · rw [Dev.pwr_log]; exact hpwr
  · rw [han, Dev.o_log_other (by decide) (by decide), Dev.o_so_self]
    exact bit_setBit_true ..
  · rw [hres, setBit_zero_true, if_neg (by omega), if_pos (by omega), Nat.zero_shiftLeft, Nat.zero_add]

/-- A starved second counted, with the open values that its entry takes (R259). -/
theorem Dev.testStarved_eq {e : Env} {d : Dev} (hrun : d.o O.JQ_STATE ≠ 0)
    (hdue : max d.em.starveAt (d.em.passDone.getD 0) + 1500000000 ≤ e.now) :
    ∃ code loc n, d.testStarved e =
      Dev.log e { (({ d with em := { d.em with starveAt := e.now } }).inc O.EM_TEST_STARVED) with free := n } code loc 0 := by
  unfold Dev.testStarved
  dsimp only
  rw [if_pos (by simpa [hrun] using hdue)]
  exact ⟨_, _, _, rfl⟩

theorem emTestStarved_counts {s : State} (hq : s.Quiet) (hrun : s.dev.o O.JQ_STATE ≠ 0)
    (hdue : max s.dev.em.starveAt (s.dev.em.passDone.getD 0) + 1500000000 ≤ s.clock.time) :
    Leads .emTestStarved s (fun t => t.dev.em.starveAt = s.clock.time ∧
      t.dev.o O.EM_TEST_STARVED = ctrAdd O.EM_TEST_STARVED 0 (s.dev.o O.EM_TEST_STARVED) 1) := by
  obtain ⟨code, loc, n, he⟩ := Dev.testStarved_eq (e := s.env) (d := s.begun) hrun hdue
  refine leads_ends (f := fun e d => d.testStarved e) _ hq rfl he ?_ ?_ fun t ht => ⟨?_, ?_⟩
  · rw [Dev.jq_log]; exact hq.1
  · rw [Dev.pwr_log]; exact hq.2.1
  · rw [ht.em, Dev.em_log]; rfl
  · rw [ht.o, Dev.o_log_other (by decide) (by decide)]
    exact Dev.o_inc_self ..

/-- Settles O4: by what the start of a pass, its end with no fault and with one, and a starved second leave. -/
theorem testPasses : Obligations.TestPasses :=
  ⟨fun _ hq => ⟨testPassStart_starts hq, fun _ => testPassEnd_passes hq, emTestStarved_counts hq⟩,
    fun _ _ _ _ hq hp ht0 => ⟨testPassEnd_bars_cathode hq hp ht0, testPassEnd_bars_line hq hp ht0⟩⟩

/-! ### The Twill chain -/

theorem Dev.stringStart_eq {e : Env} {d : Dev} {sh : Shot} {rest : List Shot} (hqueue : d.jq.queue = sh :: rest)
    (hmove : sh.move = false) (hthin : sh.thinned = false) (hwire : d.em.wire = none) (hneeds : d.twNeeds sh = true)
    (hflight : d.jq.flight = none) (hafter : d.em.lastEmit + 192 ≤ 2 * e.now + 1) :
    d.stringStart e = d.twStart (2 * e.now) (d.sharesOf (entAn sh.ent) (entLevel sh.ent)) := by
  unfold Dev.stringStart
  rw [hqueue, hwire, hflight, List.find?_cons_of_pos (by simp [hmove, hthin])]
  dsimp only
  rw [if_neg (by simp [hneeds]; omega)]

theorem twillStringStart_starts {s : State} (hq : s.Quiet) {sh : Shot} {rest : List Shot} (hqueue : s.dev.jq.queue = sh :: rest)
    (hmove : sh.move = false) (hthin : sh.thinned = false) (hwire : s.dev.em.wire = none) (hneeds : s.dev.twNeeds sh = true)
    (hflight : s.dev.jq.flight = none) (hafter : s.dev.em.lastEmit + 192 ≤ 2 * s.clock.time + 1) :
    Leads .twillStringStart s (fun t =>
      t.dev.sent = [.twill (twWords (s.dev.sharesOf (entAn sh.ent) (entLevel sh.ent)) s.dev.em.twSeq)
        ((twWords (s.dev.sharesOf (entAn sh.ent) (entLevel sh.ent)) s.dev.em.twSeq).flatMap twCells)] ∧
      t.dev.em.twSeq = (s.dev.em.twSeq + 1) % 16 ∧
      t.dev.o O.TW_STRINGS = ctrAdd O.TW_STRINGS 0 (s.dev.o O.TW_STRINGS) 1) := by
  refine leads_ends (f := fun e d => d.stringStart e) _ hq rfl
    (Dev.stringStart_eq hqueue hmove hthin hwire hneeds hflight hafter) hq.1 hq.2.1 fun t ht => ⟨?_, ?_, ?_⟩
  · rw [ht.sent]; rfl
  · rw [ht.em]; rfl
  · rw [ht.o]; exact Dev.o_inc_self ..

/-- The verdict on the cells of a string that came back, `last` being its probe as it was sent (R243, R252 to R254). -/
def twPasses (last : Option Nat) (highs : List Nat) (high : Option Nat) : Bool :=
  highs.length == 32 && (highs ++ high.toList).all (fun h => (twRead h).isSome) && twReadWord highs == last.getD 0

/-- TW_STATUS after a check (R252). -/
def twVerdict (last : Option Nat) (highs : List Nat) (high : Option Nat) : Nat :=
  if twPasses last highs high then 0 else if 64 ≤ highs.length then 1 else if highs.length == 0 then 2 else 3

theorem isSome_twRead (h : Nat) : (twRead h).isSome = decide (h ≤ 20) := by
  unfold twRead
  split
  · have : h ≤ 20 := by omega
    simp [this]
  · split <;> simp [*]

theorem twPasses_of {last : Option Nat} {highs : List Nat} {high : Option Nat} (hlen : highs.length = 32)
    (hcells : ∀ h ∈ highs ++ high.toList, h ≤ 20) (hprobe : last = some (twReadWord highs)) :
    twPasses last highs high = true := by
  have hall : (highs ++ high.toList).all (fun h => (twRead h).isSome) = true := by
    rw [List.all_eq_true]
    intro h hh
    rw [isSome_twRead]
    exact decide_eq_true (hcells h hh)
  unfold twPasses
  rw [hall, hlen, hprobe]
  simp

theorem twPasses_violation {last : Option Nat} {highs : List Nat} {high : Option Nat} (h : ∃ h ∈ highs ++ high.toList, 20 < h) :
    twPasses last highs high = false := by
  obtain ⟨x, hx, hlong⟩ := h
  have hall : (highs ++ high.toList).all (fun h => (twRead h).isSome) = false := by
    rw [List.all_eq_false]
    exact ⟨x, hx, by rw [isSome_twRead]; simpa using hlong⟩
  unfold twPasses
  rw [hall]
  simp

theorem twPasses_length {last : Option Nat} {highs : List Nat} {high : Option Nat} (h : highs.length ≠ 32) :
    twPasses last highs high = false := by
  unfold twPasses
  simp [h]

/-- The device with a check's verdict noted (R252). -/
def Dev.twNoted (d : Dev) (n verdict : Nat) (ok : Bool) : Dev :=
  let d := (d.so O.TW_RET_BITS 0 (satN 65535 n)).so O.TW_STATUS 0 verdict
  if ok then d else d.inc O.TW_CHECK_FAIL

/-- A check changes objects alone while it notes its verdict. -/
theorem Dev.twNoted_spec (d : Dev) (n verdict : Nat) (ok : Bool) :
    (∃ objs, d.twNoted n verdict ok = { d with objs := objs }) ∧ (d.twNoted n verdict ok).o O.TW_STATUS = verdict := by
  unfold Dev.twNoted
  dsimp only
  split
  · exact ⟨⟨_, rfl⟩, Dev.o_so_self ..⟩
  · exact ⟨⟨_, rfl⟩, (Dev.o_inc_other (by decide) (by decide) (by decide)).trans (Dev.o_so_self ..)⟩

/-- The check at the end of the latch hold: the string latches and its verdict is noted (R252 to R254). -/
theorem Dev.twCheck_eq {e : Env} {d : Dev} {w : TwWire} {highs : List Nat} {high : Option Nat} (hw : d.em.wire = some w)
    (hat : w.latchAt ≤ 2 * e.now + 1) :
    ∃ objs, d.twCheck e highs high = { d with objs := objs, em := { d.em with
        wire := none, latched := w.shares, twOk := twPasses w.words.getLast? highs high,
        resend := !twPasses w.words.getLast? highs high,
        twFails := if twPasses w.words.getLast? highs high then 0 else d.em.twFails + 1 } } ∧
      (d.twCheck e highs high).o O.TW_STATUS = twVerdict w.words.getLast? highs high := by
  obtain ⟨⟨objs, ho⟩, hst⟩ := d.twNoted_spec highs.length (twVerdict w.words.getLast? highs high) (twPasses w.words.getLast? highs high)
  have hrun : d.twCheck e highs high = { d.twNoted highs.length (twVerdict w.words.getLast? highs high)
      (twPasses w.words.getLast? highs high) with em := { d.em with
        wire := none, latched := w.shares, twOk := twPasses w.words.getLast? highs high,
        resend := !twPasses w.words.getLast? highs high,
        twFails := if twPasses w.words.getLast? highs high then 0 else d.em.twFails + 1 } } := by
    unfold Dev.twCheck Dev.twNoted twVerdict twPasses
    simp only [hw]
    rw [if_neg (by omega)]
    split <;> rfl
  refine ⟨objs, ?_, ?_⟩
  · rw [hrun, ho]
  · rw [hrun]; exact hst

/-- A chain check leaves its string latched and the verdict in TW_STATUS (R252 to R254). -/
theorem twillChainCheck_latches {s : State} (hq : s.Quiet) {w : TwWire} (str hold : List Nat) (high : Option Nat)
    (hw : s.dev.em.wire = some w) (hat : w.latchAt ≤ 2 * s.clock.time + 1) :
    Leads (.twillChainCheck str hold high) s (fun t => t.dev.em.wire = none ∧ t.dev.em.latched = w.shares ∧
      t.dev.o O.TW_STATUS = twVerdict w.words.getLast? (str ++ hold) high ∧
      t.dev.em.twFails = if twPasses w.words.getLast? (str ++ hold) high then 0 else s.dev.em.twFails + 1) := by
  obtain ⟨objs, he, hst⟩ := Dev.twCheck_eq (e := s.env) (d := s.begun) (highs := str ++ hold) (high := high) hw hat
  refine leads_ends (f := fun e d => d.twCheck e (str ++ hold) high) _ hq rfl he hq.1 hq.2.1 fun t ht => ⟨?_, ?_, ?_, ?_⟩
  · rw [ht.em]
  · rw [ht.em]
  · rw [ht.o, ← he, hst]
  · rw [ht.em]; rfl

theorem twillChainCheck_decides {s : State} (hq : s.Quiet) {w : TwWire} (str hold : List Nat) (high : Option Nat)
    (hw : s.dev.em.wire = some w) (hat : w.latchAt ≤ 2 * s.clock.time + 1) :
    Leads (.twillChainCheck str hold high) s (fun t => t.dev.em.wire = none ∧ t.dev.em.latched = w.shares ∧
      ((str ++ hold).length = 32 → (∀ h ∈ str ++ hold ++ high.toList, h ≤ 20) → w.words.getLast? = some (twReadWord (str ++ hold)) →
        t.dev.o O.TW_STATUS = 0 ∧ t.dev.em.twFails = 0) ∧
      ((str ++ hold).length = 32 → (∃ h ∈ str ++ hold ++ high.toList, 20 < h) →
        t.dev.o O.TW_STATUS = 3 ∧ t.dev.em.twFails = s.dev.em.twFails + 1) ∧
      (str ++ hold = [] → t.dev.o O.TW_STATUS = 2 ∧ t.dev.em.twFails = s.dev.em.twFails + 1) ∧
      (64 ≤ (str ++ hold).length → t.dev.o O.TW_STATUS = 1 ∧ t.dev.em.twFails = s.dev.em.twFails + 1)) := by
  obtain ⟨t, ht, hwire, hlatched, hstatus, hfails⟩ := twillChainCheck_latches hq str hold high hw hat
  refine ⟨t, ht, hwire, hlatched, fun hlen hcells hprobe => ?_, fun hlen hlong => ?_, fun hnone => ?_, fun hmany => ?_⟩
  · rw [hstatus, hfails, twVerdict, twPasses_of hlen hcells hprobe]
    exact ⟨rfl, rfl⟩
  · rw [hstatus, hfails, twVerdict, twPasses_violation hlong, hlen]
    exact ⟨rfl, rfl⟩
  · rw [hstatus, hfails, twVerdict, hnone, twPasses_length (by decide)]
    exact ⟨rfl, rfl⟩
  · rw [hstatus, hfails, twVerdict, twPasses_length (by omega), if_pos hmany]
    exact ⟨rfl, rfl⟩

/-- The device with Twill disabled by three failed checks, its entry apart (R255). -/
def Dev.twOff (d : Dev) : Dev :=
  { (d.so O.TW_ENABLE 0 0).so O.TW_STATUS 0 4 with em := { d.em with twOk := false, wire := none } }

theorem Dev.twOff_o (d : Dev) : d.twOff.o O.TW_ENABLE = 0 ∧ d.twOff.o O.TW_STATUS = 4 := by
  have h : ∀ i, d.twOff.o i = ((d.so O.TW_ENABLE 0 0).so O.TW_STATUS 0 4).o i := fun _ => rfl
  rw [h, h, Dev.o_so_other (by decide) (by decide) (by decide), Dev.o_so_self, Dev.o_so_self]
  exact ⟨rfl, rfl⟩

theorem Dev.twDisable_eq {e : Env} {d : Dev} (h3 : 3 ≤ d.em.twFails) (hon : d.o O.TW_ENABLE = 1) :
    d.twDisable e = d.twOff.log e 0x020B (locCode 0 2 63 63 16 7) 2 := by
  unfold Dev.twDisable Dev.ob
  rw [hon, if_pos (by simpa using h3)]
  rfl

theorem twillDisable_disables {s : State} (hq : s.Quiet) (h3 : 3 ≤ s.dev.em.twFails) (hon : s.dev.o O.TW_ENABLE = 1) :
    Leads .twillDisable s (fun t => t.dev.o O.TW_ENABLE = 0 ∧ t.dev.o O.TW_STATUS = 4 ∧ t.dev.em.wire = none) := by
  refine leads_ends (f := fun e d => d.twDisable e) _ hq rfl (Dev.twDisable_eq h3 hon) ?_ ?_ fun t ht => ⟨?_, ?_, ?_⟩
  · rw [Dev.jq_log]; exact hq.1
  · rw [Dev.pwr_log]; exact hq.2.1
  · rw [ht.o, Dev.o_log_other (by decide) (by decide), s.begun.twOff_o.1]
  · rw [ht.o, Dev.o_log_other (by decide) (by decide), s.begun.twOff_o.2]
  · rw [ht.em, Dev.em_log]; rfl

/-- Settles O5: by the start of a string, the verdict of its check, and the disabling. -/
theorem twillChain : Obligations.TwillChain :=
  fun _ hq => ⟨fun _ _ hqueue hmove hthin hwire hneeds hflight hafter =>
      twillStringStart_starts hq hqueue hmove hthin hwire hneeds hflight hafter,
    fun _ str hold high hw hat => twillChainCheck_decides hq str hold high hw hat, twillDisable_disables hq⟩

end Sys2Proof.Machine
end

section
/-! PROOF. Arming and supervision, the leak of the buckets, and the requests of the drive (chapters 04 and 05). -/

namespace Sys2Proof.Machine

/-! ### Arming -/

@[simp] theorem State.env_now (s : State) : s.env.now = s.clock.time := rfl

theorem Dev.landEl_hmArm (e : Env) (n : Nat) (d : Dev) : d.landEl e n O.HM_ARM 0 1 = d.hmArm e := rfl
theorem Dev.landEl_hmDisarm (e : Env) (n : Nat) (d : Dev) (v : Nat) : d.landEl e n O.HM_DISARM 0 v = d.hmDisarm e := rfl
theorem Dev.landEl_hmInject (e : Env) (n : Nat) (d : Dev) (v : Nat) :
    d.landEl e n O.HM_INJECT 0 v = (d.so O.HM_INJECT 0 v).hmEval e := rfl

/-- The device with the arming self-test begun (R266). -/
def Dev.arming (e : Env) (d : Dev) : Dev :=
  { d.so O.HM_STATE 0 1 with hm := { d.hm with armAt := e.now }, hk := { d.hk with vhvArm := true } }

theorem Dev.hmArm_eq {e : Env} {d : Dev} (h0 : d.o O.HM_STATE = 0) (hb : d.armBlock e = 0) : d.hmArm e = d.arming e := by
  unfold Dev.hmArm
  rw [h0, hb]
  rfl

theorem hmArm_starts_selftest {s : State} {h : Hdr} (hq : s.Quiet) (ha : Accepts s h O.HM_ARM 0 1) (h0 : s.dev.o O.HM_STATE = 0) :
    Leads (.hmArm h) s (fun t => t.dev.o O.HM_STATE = 1 ∧ t.dev.hm.armAt = s.clock.time) := by
  obtain ⟨d, hd⟩ : ∃ d, d = (s.atRequest h.sess).shadowOff (okey O.HM_ARM 0) := ⟨_, rfl⟩
  have hstate : d.o O.HM_STATE = 0 := by rw [hd, Dev.o_shadowOff, State.o_atRequest, h0]
  have hblock : d.armBlock s.env = 0 := by
    have hbusy : (s.atRequest h.sess).busy s.env O.HM_ARM 0 1 = none := ha.2.2.2.2.2.2.2.1
    have hsame : d.armBlock s.env = (s.atRequest h.sess).armBlock s.env := hd ▸ rfl
    have hif : (if ((s.atRequest h.sess).o O.HM_STATE == 0 && (s.atRequest h.sess).armBlock s.env != 0) = true
      then some ((10, 0) : Abort) else none) = none := hbusy
    rw [State.o_atRequest, h0] at hif
    rw [hsame]
    by_contra hne
    simp [hne] at hif
  have hland : s.landed h O.HM_ARM 0 1 = d.arming s.env := by
    rw [State.landed, Dev.landEl_hmArm, ← hd, Dev.hmArm_eq hstate hblock]
  refine leads_landed rfl ha (by decide) ?_ ?_ fun t ht => ?_
  · rw [hland, hd]
    exact (congrArg Jq.settle (State.jq_atRequest s h.sess)).trans hq.1
  · rw [hland, hd]
    exact (congrArg Pwr.rstDue (State.pwr_atRequest s h.sess)).trans hq.2.1
  · rw [hland] at ht
    refine ⟨?_, ?_⟩
    · rw [ht.o (by decide) (by decide)]; exact Dev.o_so_self d O.HM_STATE 0 1
    · rw [ht.hm]; rfl

theorem Dev.jq_settle_disarm (e : Env) (d : Dev) (c k : Nat) (inj : Bool) : (d.disarm e c k inj).jq.settle = d.jq.settle := by
  rw [HmFrom.disarm.rest]

theorem Dev.pwr_disarm (e : Env) (d : Dev) (c k : Nat) (inj : Bool) : (d.disarm e c k inj).pwr = d.pwr := by
  rw [HmFrom.disarm.rest]

theorem hmDisarm_disarms {s : State} {h : Hdr} {v : Nat} (hq : s.Quiet) (ha : Accepts s h O.HM_DISARM 0 v)
    (h0 : s.dev.o O.HM_STATE ≠ 0) :
    Leads (.hmDisarm h v) s (fun t => t.dev.o O.HM_STATE = 0 ∧ t.dev.o O.HM_DISARM_CAUSE = 1 ∧ t.dev.em.closed = 0) := by
  obtain ⟨d, hd⟩ : ∃ d, d = (s.atRequest h.sess).shadowOff (okey O.HM_DISARM 0) := ⟨_, rfl⟩
  have hstate : d.o O.HM_STATE ≠ 0 := by rw [hd, Dev.o_shadowOff, State.o_atRequest]; exact h0
  have hland : s.landed h O.HM_DISARM 0 v = d.disarm s.env 1 0 false := by
    rw [State.landed, Dev.landEl_hmDisarm, ← hd, Dev.hmDisarm, if_neg (by simpa using hstate)]
  obtain ⟨h1, h2, -, h4⟩ := Dev.disarm_o s.env d 1 0 false
  refine leads_landed rfl ha (by decide) ?_ ?_ fun t ht => ?_
  · rw [hland, Dev.jq_settle_disarm, hd, Dev.jq_shadowOff, State.jq_atRequest]; exact hq.1
  · rw [hland, Dev.pwr_disarm, hd, Dev.pwr_shadowOff, State.pwr_atRequest]; exact hq.2.1
  · rw [hland] at ht
    rw [ht.o (by decide) (by decide), ht.o (by decide) (by decide), ht.em]
    exact ⟨h1, h2, h4⟩

/-! ### The self-test's end -/

/-- A self-test passed with no latching cause: ARMED, or HOLD where a passing condition is present (R268). -/
theorem Dev.selfTestEnd_passes {e : Env} {d : Dev} (h1 : d.o O.HM_STATE = 1) (hl : d.hmLatching e = []) :
    d.selfTestEnd e true = if d.hmPassing then ((d.so O.HM_ARM_TIME 0 e.now).so O.HM_STATE 0 3).inc O.HM_INHIBITS
      else (d.so O.HM_ARM_TIME 0 e.now).so O.HM_STATE 0 2 := by
  have hpass : (d.so O.HM_ARM_TIME 0 e.now).hmPassing = d.hmPassing := by
    unfold Dev.hmPassing Dev.ob
    rw [Dev.o_so_other (by decide) (by decide) (by decide)]
    rfl
  unfold Dev.selfTestEnd
  rw [h1, hl]
  simp [hpass]

theorem hmSelftestEnd_arms {s : State} (hq : s.Quiet) (h1 : s.dev.o O.HM_STATE = 1) (hl : s.dev.hmLatching s.env = []) :
    Leads (.hmSelftestEnd true) s (fun t => t.dev.o O.HM_STATE = (if s.dev.hmPassing then 3 else 2) ∧
      t.dev.o O.HM_ARM_TIME = s.clock.time ∧
      t.dev.o O.HM_INHIBITS =
        (if s.dev.hmPassing then ctrAdd O.HM_INHIBITS 0 (s.dev.o O.HM_INHIBITS) 1 else s.dev.o O.HM_INHIBITS)) := by
  have hend := Dev.selfTestEnd_passes (e := s.env) (d := s.begun) h1 hl
  rw [show s.begun.hmPassing = s.dev.hmPassing from rfl] at hend
  cases hp : s.dev.hmPassing with
  | false =>
    rw [hp, if_neg Bool.false_ne_true] at hend
    refine leads_ends (f := fun e d => d.selfTestEnd e true) _ hq rfl hend hq.1 hq.2.1 fun t ht => ⟨?_, ?_, ?_⟩
    · rw [ht.o, Dev.o_so_self]; rfl
    · rw [ht.o, Dev.o_so_other (by decide) (by decide) (by decide), Dev.o_so_self]; rfl
    · rw [ht.o, Dev.o_so_other (by decide) (by decide) (by decide), Dev.o_so_other (by decide) (by decide) (by decide)]; rfl
  | true =>
    rw [hp, if_pos rfl] at hend
    refine leads_ends (f := fun e d => d.selfTestEnd e true) _ hq rfl hend hq.1 hq.2.1 fun t ht => ⟨?_, ?_, ?_⟩
    · rw [ht.o, Dev.o_inc_other (by decide) (by decide) (by decide), Dev.o_so_self]; rfl
    · rw [ht.o, Dev.o_inc_other (by decide) (by decide) (by decide), Dev.o_so_other (by decide) (by decide) (by decide),
        Dev.o_so_self]; rfl
    · rw [ht.o, Dev.o_inc_self, Dev.o_so_other (by decide) (by decide) (by decide),
        Dev.o_so_other (by decide) (by decide) (by decide)]; rfl

/-- A command that ends in a disarm leaves its state and cause, and moves no other object than the evaluation may. -/
theorem leads_disarm {c : Instr} {f : Env → Dev → Dev} {s : State} {P : State → Prop} (hq : s.Quiet) (hc : exec c s = run f s)
    (d : Dev) (cause k : Nat) (inj : Bool) (hd : f s.env s.begun = d.disarm s.env cause k inj) (hjq : d.jq.settle = false)
    (hpwr : d.pwr.rstDue = none)
    (hP : ∀ t : State, t.dev.o O.HM_STATE = 0 → t.dev.o O.HM_DISARM_CAUSE = cause → t.dev.em.closed = 0 →
      (∀ i, i ∉ hmIdx → t.dev.o i = d.o i) → P t) : Leads c s P := by
  obtain ⟨h1, h2, -, h4⟩ := Dev.disarm_o s.env d cause k inj
  refine leads_ends _ hq hc hd ((Dev.jq_settle_disarm ..).trans hjq) ((congrArg Pwr.rstDue (Dev.pwr_disarm ..)).trans hpwr)
    fun t ht => hP t ?_ ?_ ?_ fun i hi => ?_
  · rw [ht.o, h1]
  · rw [ht.o, h2]
  · rw [ht.em, h4]
  · rw [ht.o]; exact HmFrom.disarm.objs i 0 (by decide) hi

theorem hmSelftestEnd_latches {s : State} (hq : s.Quiet) {c : Nat} {inj : Bool} {l : List (Nat × Bool)} (h1 : s.dev.o O.HM_STATE = 1)
    (hl : s.dev.hmLatching s.env = (c, inj) :: l) :
    Leads (.hmSelftestEnd true) s (fun t => t.dev.o O.HM_STATE = 0 ∧ t.dev.o O.HM_DISARM_CAUSE = c ∧
      t.dev.o O.HM_ARM_TIME = s.dev.o O.HM_ARM_TIME) := by
  refine leads_disarm (f := fun e d => d.selfTestEnd e true) hq rfl s.begun c (causeClass c) inj ?_ hq.1 hq.2.1
    fun t hstate hcause _ hkeep => ⟨hstate, hcause, hkeep _ (by decide)⟩
  have h1' : s.begun.o O.HM_STATE = 1 := h1
  have hl' : s.begun.hmLatching s.env = (c, inj) :: l := hl
  simp [Dev.selfTestEnd, h1', hl']

theorem hmSelftestEnd_fails {s : State} (hq : s.Quiet) (h1 : s.dev.o O.HM_STATE = 1) :
    Leads (.hmSelftestEnd false) s (fun t => t.dev.o O.HM_STATE = 0 ∧ t.dev.o O.HM_DISARM_CAUSE = 7) := by
  refine leads_disarm (f := fun e d => d.selfTestEnd e false) hq rfl s.begun 7 3 false ?_ hq.1 hq.2.1
    fun t hstate hcause _ _ => ⟨hstate, hcause⟩
  have h1' : s.begun.o O.HM_STATE = 1 := h1
  simp [Dev.selfTestEnd, h1']

/-! ### Heartbeats, the die-to-die link and the configuration copies -/

theorem fwHeartbeatStroke_renews {s : State} (hq : s.Quiet) {v : Nat} (hv : v < 2) (hne : v ≠ s.dev.hm.fwVal) :
    Leads (.fwHeartbeatStroke v) s (fun t =>
      t.dev.hm.fwAlive = true ∧ t.dev.hm.fwAt = s.clock.time ∧ t.dev.hm.fwVal = v) := by
  have hrun : s.begun.fwStroke s.env v =
      { s.begun with hm := { s.dev.hm with fwVal := v, fwAt := s.clock.time, fwAlive := true } } := by
    unfold Dev.fwStroke
    rw [if_neg (by simp [hne]; omega)]
    rfl
  refine leads_ends (f := fun e d => d.fwStroke e v) _ hq rfl hrun hq.1 hq.2.1 fun t ht => ?_
  rw [ht.hm]
  exact ⟨rfl, rfl, rfl⟩

/-- A supervised condition that fails leaves Hawkmoth disarmed: `d` is the device with the condition's record changed. -/
theorem leads_supervision {c : Instr} {f : Env → Dev → Dev} {s : State} {P : State → Prop} (d : Dev) (hq : s.Quiet)
    (hc : exec c s = run f s) (hd : f s.env s.begun = d.hmEval s.env) (hs : d.jq.settle = false) (hr : d.pwr.rstDue = none)
    (hP : ∀ t : State, t.dev.hm = d.hm → (d.hmLatching s.env ≠ [] → t.dev.o O.HM_STATE = 0) → P t) : Leads c s P := by
  refine leads_hmEval d hq hc hd hs hr fun t ht => hP t ?_ fun hl => ?_
  · rw [ht.hm, Dev.hm_hmEval]
  · rw [ht.o, Dev.hmEval_latching hl]

theorem fwHeartbeatExpiry_disarms {s : State} (hq : s.Quiet) (halive : s.dev.hm.fwAlive = true)
    (hdue : s.dev.hm.fwAt + 1500 * s.dev.o O.HM_HB_TIMEOUT_US ≤ s.clock.time) :
    Leads .fwHeartbeatExpiry s (fun t => t.dev.hm.fwAlive = false ∧ t.dev.o O.HM_STATE = 0) := by
  have hrun : s.begun.fwExpiry s.env = Dev.hmEval s.env { s.begun with hm := { s.dev.hm with fwAlive := false } } := by
    unfold Dev.fwExpiry
    rw [if_pos (by simp [halive, hdue])]
    rfl
  refine leads_supervision (f := fun e d => d.fwExpiry e) _ hq rfl hrun hq.1 hq.2.1 fun t hhm hdis => ⟨by rw [hhm], hdis ?_⟩
  simp [Dev.hmLatching]

theorem hostHeartbeatExpiry_disarms {s : State} (hq : s.Quiet) (hses : s.dev.o O.HM_HOST_HB_SESSION ≠ 0xFF)
    (halive : s.dev.hm.hostAlive = true) (hdue : s.dev.hm.hostAt + 1500000 * s.dev.o O.HM_HOST_HB_TIMEOUT_MS ≤ s.clock.time) :
    Leads .hostHeartbeatExpiry s (fun t => t.dev.hm.hostAlive = false ∧ t.dev.o O.HM_STATE = 0) := by
  obtain ⟨d, hd⟩ : ∃ d : Dev, d = { s.begun with hm := { s.dev.hm with hostAlive := false } } := ⟨_, rfl⟩
  have hrun : s.begun.hostExpiry s.env = d.hmEval s.env := by
    unfold Dev.hostExpiry
    rw [if_pos (by simp [hses, halive, hdue]), hd]
    rfl
  have hdead : d.hostHbDead = true := by
    have ho : d.o O.HM_HOST_HB_SESSION = s.dev.o O.HM_HOST_HB_SESSION := hd ▸ rfl
    have hoff : d.hm.hostAlive = false := hd ▸ rfl
    unfold Dev.hostHbDead
    rw [ho, hoff]
    simpa using hses
  refine leads_supervision (f := fun e d => d.hostExpiry e) d hq rfl hrun (hd ▸ hq.1) (hd ▸ hq.2.1) fun t hhm hdis =>
    ⟨by rw [hhm, hd], hdis ?_⟩
  simp [Dev.hmLatching, hdead]

/-- A die-to-die fault cuts the drive, logs, and disarms unless Hawkmoth is (R957). -/
theorem Dev.d2dFault_eq (e : Env) (d : Dev) : d.d2dFault e =
    if d.o O.HM_STATE = 0 then d.cutDrive.log e 0x0E13 (locCode 1 14 63 63 127 19) 3
    else (d.cutDrive.log e 0x0E13 (locCode 1 14 63 63 127 19) 3).disarm e 6 3 false := by
  have ho : (d.cutDrive.log e 0x0E13 (locCode 1 14 63 63 127 19) 3).o O.HM_STATE = d.o O.HM_STATE :=
    Dev.o_log_other (by decide) (by decide)
  unfold Dev.d2dFault
  dsimp only
  rw [ho]
  simp only [beq_iff_eq]

theorem d2dLinkFault_disarms {s : State} (hq : s.Quiet) :
    Leads .d2dLinkFault s (fun t => t.dev.o O.HM_STATE = 0 ∧ t.dev.em.closed = 0 ∧
      (s.dev.o O.HM_STATE ≠ 0 → t.dev.o O.HM_DISARM_CAUSE = 6)) := by
  have hjq : (s.begun.cutDrive.log s.env 0x0E13 (locCode 1 14 63 63 127 19) 3).jq.settle = false := by
    rw [Dev.jq_log]; exact hq.1
  have hpwr : (s.begun.cutDrive.log s.env 0x0E13 (locCode 1 14 63 63 127 19) 3).pwr.rstDue = none := by
    rw [Dev.pwr_log]; exact hq.2.1
  have hrun := Dev.d2dFault_eq s.env s.begun
  rw [State.o_begun] at hrun
  by_cases h0 : s.dev.o O.HM_STATE = 0
  · rw [if_pos h0] at hrun
    refine leads_ends (f := fun e d => d.d2dFault e) _ hq rfl hrun hjq hpwr fun t ht => ⟨?_, ?_, fun hn => absurd h0 hn⟩
    · rw [ht.o, Dev.o_log_other (by decide) (by decide)]; exact h0
    · rw [ht.em, Dev.em_log]; rfl
  · rw [if_neg h0] at hrun
    exact leads_disarm (f := fun e d => d.d2dFault e) hq rfl _ 6 3 false hrun hjq hpwr fun t hstate hcause hclosed _ =>
      ⟨hstate, hclosed, fun _ => hcause⟩

/-- Whether the two configuration copies disagree (R289). -/
def Dev.copiesDiffer (e : Env) (d : Dev) : Bool := (hmConfig e).any (fun p => d.copyOf p.1 p.2.1 != d.o p.1 p.2.1)

theorem Dev.copiesDiffer_iff {e : Env} {d : Dev} :
    d.copiesDiffer e = true ↔ ∃ p ∈ hmConfig e, d.copyOf p.1 p.2.1 ≠ d.o p.1 p.2.1 := by
  simp [Dev.copiesDiffer]

theorem hmConfigCompare_decides {s : State} (hq : s.Quiet) (hdue : s.dev.hm.compareAt + 1500000 ≤ s.clock.time) :
    Leads (.hmConfigCompare []) s (fun t => t.dev.hm.compareAt = s.clock.time ∧
      (t.dev.hm.mismatch = true ↔ ∃ p ∈ hmConfig s.env, s.dev.copyOf p.1 p.2.1 ≠ s.dev.o p.1 p.2.1) ∧
      (t.dev.hm.mismatch = true → t.dev.o O.HM_STATE = 0)) := by
  have hrun : s.begun.configCompare s.env [] = Dev.hmEval s.env
      { s.begun with hm := { s.dev.hm with mismatch := s.dev.copiesDiffer s.env, compareAt := s.clock.time } } := by
    unfold Dev.configCompare
    rw [if_neg (by simp; omega)]
    rfl
  refine leads_supervision (f := fun e d => d.configCompare e []) _ hq rfl hrun hq.1 hq.2.1 fun t hhm hdis => ?_
  rw [hhm]
  refine ⟨rfl, Dev.copiesDiffer_iff, fun hm => hdis ?_⟩
  have hm' : s.dev.copiesDiffer s.env = true := hm
  simp [Dev.hmLatching, hm']

/-- Settles O6: by what each write and each failure of a supervised condition leaves. -/
theorem armingAndSupervision : Obligations.ArmingAndSupervision :=
  ⟨fun _ _ hq => ⟨hmArm_starts_selftest hq, fun _ => hmDisarm_disarms hq, hmSelftestEnd_arms hq,
      fun _ _ _ => hmSelftestEnd_latches hq, hmSelftestEnd_fails hq⟩,
    fun _ hq => ⟨fun _ => fwHeartbeatStroke_renews hq, fwHeartbeatExpiry_disarms hq, hostHeartbeatExpiry_disarms hq,
      d2dLinkFault_disarms hq, hmConfigCompare_decides hq⟩⟩

/-! ### The leak of the buckets -/

/-- One leak step at one pair of a table of levels. -/
def leakPut (k : Nat) (acc : Tab Nat) (p : Nat × Nat) : Tab Nat :=
  if p.1 / 256 == k then tset 0 acc p.1 (leakOnce p.2) else acc

theorem leakTab_eq (k : Nat) (m : Tab Nat) : leakTab k m = m.foldl (leakPut k) m := rfl

theorem tget_leakPut (k : Nat) (acc : Tab Nat) (p : Nat × Nat) (key : Nat) :
    tget 0 (leakPut k acc p) key = if p.1 = key ∧ key / 256 = k then leakOnce p.2 else tget 0 acc key := by
  by_cases hp : p.1 = key
  · subst hp
    unfold leakPut
    by_cases hk : p.1 / 256 = k
    · simp [hk]
    · simp [hk]
  · rw [if_neg (fun h => hp h.1)]
    unfold leakPut
    split
    · exact tget_tset_ne 0 0 acc _ (Ne.symm hp)
    · rfl

/-- One step at every pair of a sorted table: a level of the bucket that the table lists takes it. -/
theorem tget_foldl_leakPut {k : Nat} {l : Tab Nat} (hs : tsorted l = true) (acc : Tab Nat) (key : Nat) :
    tget 0 (l.foldl (leakPut k) acc) key =
      if key / 256 = k ∧ ∃ p ∈ l, p.1 = key then leakOnce (tget 0 l key) else tget 0 acc key := by
  induction l generalizing acc with
  | nil => simp
  | cons p t ih =>
    obtain ⟨habove, hs⟩ := tsorted_cons.mp hs
    rw [List.foldl_cons, ih hs, tget_leakPut, tget_cons]
    by_cases hp : p.1 = key
    · have hnot : ¬ ∃ q ∈ t, q.1 = key := fun ⟨q, hq, he⟩ => by have := habove q hq; omega
      simp [hp, hnot]
    · have hmem : (∃ q ∈ p :: t, q.1 = key) ↔ ∃ q ∈ t, q.1 = key := by simp [hp]
      simp only [hmem, hp, false_and, if_false]

/-- A key that no pair has reads 0. -/
theorem tget_of_forall_ne {m : Tab Nat} {key : Nat} (h : ¬ ∃ p ∈ m, p.1 = key) : tget 0 m key = 0 := by
  induction m with
  | nil => rfl
  | cons p t ih =>
    rw [tget_cons, if_neg fun hp => h ⟨p, .head _, hp⟩]
    exact ih fun ⟨q, hq, he⟩ => h ⟨q, .tail _ hq, he⟩

/-- A leak step of a bucket takes each of its levels one step down, whether the table lists it or it is 0 (R284). -/
theorem tget_leakTab {k : Nat} {m : Tab Nat} (hm : twf 0 m = true) {key : Nat} (hk : key / 256 = k) :
    tget 0 (leakTab k m) key = leakOnce (tget 0 m key) := by
  rw [leakTab_eq, tget_foldl_leakPut (twf_iff.mp hm).1]
  split
  · rfl
  next hnot =>
    rw [tget_of_forall_ne fun h => hnot ⟨hk, h⟩]
    rfl

theorem twf_leakTab {k : Nat} {m : Tab Nat} (hm : twf 0 m = true) : twf 0 (leakTab k m) = true := by
  have h : ∀ (l acc : Tab Nat), twf 0 acc = true → twf 0 (l.foldl (leakPut k) acc) = true := by
    intro l
    induction l with
    | nil => exact fun _ h => h
    | cons p t ih =>
      intro acc h
      refine ih _ ?_
      unfold leakPut
      split
      · exact twf_tset _ _ h
      · exact h
  exact h m m hm

/-- `n` leak steps of a bucket's table of levels. -/
def leakTabs (k : Nat) : Nat → Tab Nat → Tab Nat
  | 0, m => m
  | n + 1, m => leakTabs k n (leakTab k m)

theorem tget_leakTabs {k n : Nat} {m : Tab Nat} (hm : twf 0 m = true) {key : Nat} (hk : key / 256 = k) :
    tget 0 (leakTabs k n m) key = leakN n (tget 0 m key) := by
  induction n generalizing m with
  | zero => rfl
  | succ n ih => rw [leakTabs, ih (twf_leakTab hm), tget_leakTab hm hk]; rfl

/-- A throttle evaluation changes objects alone. -/
theorem Dev.throttleEval_eq (e : Env) (d : Dev) : ∃ objs, d.throttleEval e = { d with objs := objs } := by
  unfold Dev.throttleEval
  dsimp only
  split
  · exact ⟨_, rfl⟩
  · split
    · exact ⟨_, rfl⟩
    · split
      · exact ⟨_, rfl⟩
      · exact ⟨_, rfl⟩

/-- The steps of a bucket change its levels, and objects that the throttle may set. -/
theorem Dev.leakSteps_eq (e : Env) (k n : Nat) (d : Dev) :
    ∃ objs, Dev.leakSteps e k n d = { d with objs := objs, hm := { d.hm with levels := leakTabs k n d.hm.levels } } := by
  induction n generalizing d with
  | zero => exact ⟨_, rfl⟩
  | succ n ih =>
    unfold Dev.leakSteps
    dsimp only
    split
    · obtain ⟨objs, ho⟩ := Dev.throttleEval_eq e { d with hm := { d.hm with levels := leakTab k d.hm.levels } }
      obtain ⟨objs', ho'⟩ := ih { d with objs := objs, hm := { d.hm with levels := leakTab k d.hm.levels } }
      exact ⟨objs', by rw [ho, ho']; rfl⟩
    · obtain ⟨objs, ho⟩ := ih { d with hm := { d.hm with levels := leakTab k d.hm.levels } }
      exact ⟨objs, by rw [ho]; rfl⟩

/-- A bucket with no parity error takes the steps that are due. -/
theorem Dev.bucketStep_eq {e : Env} {d : Dev} {k : Nat} (hk : k < 3) (hdue : d.leakDue e k ≠ 0) :
    ∃ objs, d.bucketStep e k [] = { d with objs := objs, hm := { d.hm with
      levels := leakTabs k (d.leakDue e k) d.hm.levels, steps := tset 0 d.hm.steps k (e.now / leakPeriod k) } } := by
  obtain ⟨objs, ho⟩ := Dev.leakSteps_eq e k (d.leakDue e k) d
  refine ⟨objs, ?_⟩
  unfold Dev.bucketStep
  rw [if_neg (by simp [hdue]; omega)]
  show Dev.leakTo e d k = _
  unfold Dev.leakTo
  rw [ho]

/-- Settles O7: the levels take the steps that were due, of which none is due any more. -/
theorem leakStepsKeepTheLevel : Obligations.LeakStepsKeepTheLevel := by
  intro s k hq hk hwf
  by_cases hdue : s.dev.leakDue s.env k = 0
  · have hrun : s.begun.bucketStep s.env k [] = s.begun := by
      unfold Dev.bucketStep
      rw [if_pos (by rw [show s.begun.leakDue s.env k = 0 from hdue]; simp)]
    refine leads_ends (f := fun e d => d.bucketStep e k []) _ hq rfl hrun hq.1 hq.2.1 fun t ht => ⟨fun z _ => ?_, fun h => absurd hdue h⟩
    unfold Dev.level Dev.leakDue
    rw [ht.env, ht.hm]
    rfl
  · obtain ⟨objs, hrun⟩ := Dev.bucketStep_eq (d := s.begun) (e := s.env) hk hdue
    refine leads_ends (f := fun e d => d.bucketStep e k []) _ hq rfl hrun hq.1 hq.2.1 fun t ht => ⟨fun z hz => ?_, fun _ => ?_⟩
    · have hnone : t.dev.leakDue t.env k = 0 := by
        unfold Dev.leakDue
        rw [ht.env, ht.hm]
        show min 2000 (_ - tget 0 (tset 0 s.dev.hm.steps k (s.env.now / leakPeriod k)) k) = 0
        rw [tget_tset_self, Nat.sub_self, Nat.min_zero]
      unfold Dev.level
      rw [hnone, ht.hm]
      exact tget_leakTabs hwf (by omega)
    · rw [ht.hm]
      exact tget_tset_self ..

/-! ### Requests of the drive -/

theorem hmInject_takes {s : State} {h : Hdr} {v : Nat} (hq : s.Quiet) (ha : Accepts s h O.HM_INJECT 0 v) :
    Leads (.hmInject h v) s (fun t => t.dev.o O.HM_INJECT = v) := by
  obtain ⟨d, hd⟩ : ∃ d, d = ((s.atRequest h.sess).shadowOff (okey O.HM_INJECT 0)).so O.HM_INJECT 0 v := ⟨_, rfl⟩
  have hland : s.landed h O.HM_INJECT 0 v = d.hmEval s.env := by rw [State.landed, Dev.landEl_hmInject, hd]
  refine leads_landed rfl ha (by decide) ?_ ?_ fun t ht => ?_
  · rw [hland, Dev.settle_hmEval, hd, Dev.jq_so, Dev.jq_shadowOff, State.jq_atRequest]; exact hq.1
  · rw [hland, Dev.pwr_hmEval, hd, Dev.pwr_so, Dev.pwr_shadowOff, State.pwr_atRequest]; exact hq.2.1
  · rw [ht.o (by decide) (by decide), hland, Dev.o_hmEval (by decide) (by decide), hd, Dev.o_so_self]

theorem emBarClear_requests {s : State} {h : Hdr} (hq : s.Quiet) (ha : Accepts s h O.EM_BAR_CLEAR 0 1) :
    Leads (.emBarClear h) s (fun t => t.dev.em.req = true ∧ t.dev.em.barClear = true) := by
  refine leads_landed rfl ha (by decide) ?_ ?_ fun t ht => ?_
  · exact (congrArg Jq.settle (State.jq_atRequest s h.sess)).trans hq.1
  · exact (congrArg Pwr.rstDue (State.pwr_atRequest s h.sess)).trans hq.2.1
  · rw [ht.em]
    exact ⟨rfl, rfl⟩

theorem emTestReq_requests {s : State} {h : Hdr} (hq : s.Quiet) (ha : Accepts s h O.EM_TEST_REQ 0 1) :
    Leads (.emTestReq h) s (fun t => t.dev.em.req = true) := by
  refine leads_landed rfl ha (by decide) ?_ ?_ fun t ht => ?_
  · exact (congrArg Jq.settle (State.jq_atRequest s h.sess)).trans hq.1
  · exact (congrArg Pwr.rstDue (State.pwr_atRequest s h.sess)).trans hq.2.1
  · rw [ht.em]
    rfl

/-- Settles O8: each write comes into force at once, HM_INJECT's before Hawkmoth evaluates. -/
theorem driveRequests : Obligations.DriveRequests :=
  fun _ _ hq => ⟨fun _ => hmInject_takes hq, emBarClear_requests hq, emTestReq_requests hq⟩

end Sys2Proof.Machine
end

section
/-! PROOF. The machine as a whole: a command at the front, the state after reset, and the steps of the clock. -/

namespace Sys2Proof.Machine

/-- Settles O1: a step takes the command that waits first. -/
theorem frontCommandRuns : Obligations.FrontCommandRuns := fun _ _ _ => step_cons rfl

/-! ### The state after reset -/

/-- An object that nothing has written reads its default. -/
theorem Dev.o_of_objs_nil {d : Dev} (h : d.objs = []) (i el : Nat) : d.o i el = dflt i el := by
  unfold Dev.o
  rw [h]
  rfl

theorem reset_quiet : State.reset.Quiet := by
  simp [State.Quiet, State.Still, State.reset, Dev.slot]

/-- Settles O57: nothing has been written or queued. -/
theorem resetState : Obligations.ResetState := by
  have ho : ∀ i el, State.reset.dev.o i el = dflt i el := Dev.o_of_objs_nil rfl
  refine ⟨rfl, rfl, reset_quiet, ho, ?_, ?_, ?_, ?_, ?_, rfl, rfl, ?_, rfl, rfl, rfl⟩
  · rw [ho]; decide
  · rw [ho]; decide
  · rw [ho]; decide
  · rw [ho]; decide
  · rw [ho]; decide
  · decide +kernel

/-! ### Ticks of the slow clock -/

/-- A block without the fabric clock in which nothing waits for a device time: no command, no landing, no reset, no report, no line
boundary, no synchronisation, no dark gate. -/
structure State.Idle (s : State) : Prop where
  pending : s.pending = []
  settle : s.dev.jq.settle = false
  rstDue : s.dev.pwr.rstDue = none
  fabric : s.dev.pwr.fabric = false
  lineDue : s.dev.jq.lineDue = none
  slots : ∀ k < 4, (s.dev.slot k).due = none
  syncs : s.dev.acq.syncs = []
  dark : s.dev.rx.darkLate = none

theorem State.Idle.still {s : State} (h : s.Idle) : s.Still := by
  refine ⟨?_, fun k hk => ?_, ?_, ?_⟩
  · simp [h.lineDue]
  · simp [h.slots k hk]
  · simp [h.syncs]
  · simp [h.dark]

/-- Without the fabric clock no memory channel takes a command. -/
theorem Dev.cmdSlots_slow {e : Env} {d : Dev} (h : d.pwr.fabric = false) : d.cmdSlots e = d := by
  unfold Dev.cmdSlots
  simp [h]

/-- The state one tick of the slow clock later. -/
def State.slowTick (s : State) : State := { s with clock := s.clock.tick false }

theorem State.Idle.slowTick {s : State} (h : s.Idle) : s.slowTick.Idle :=
  ⟨h.pending, h.settle, h.rstDue, h.fabric, h.lineDue, h.slots, h.syncs, h.dark⟩

/-- A tick of an idle block without the fabric clock moves device time, and marks subscriptions. -/
theorem State.Idle.step {s : State} (h : s.Idle) :
    ∃ l, step s = .next { s.slowTick with dev := { s.begun with subs := l } } := by
  have hrun : tick s = run (fun e d => d.cmdSlots e) s.slowTick := by
    rw [tick, h.fabric]; rfl
  rw [step_nil h.pending, hrun]
  exact run_quiet h.slowTick.still (Dev.cmdSlots_slow h.fabric) h.settle h.rstDue

theorem State.Idle.marked {s : State} (h : s.Idle) (l : List Sub) : ({ s.slowTick with dev := { s.begun with subs := l } } : State).Idle :=
  ⟨h.pending, h.settle, h.rstDue, h.fabric, h.lineDue, h.slots, h.syncs, h.dark⟩

/-- The clock after some ticks of the slow clock. -/
def Clock.slowTicks : Nat → Clock → Clock
  | 0, c => c
  | n + 1, c => Clock.slowTicks n (c.tick false)

/-- The carries of the ticks add up (R55). -/
theorem Clock.slowTicks_eq (n : Nat) {c : Clock} (hc : c.frac < 128) :
    (Clock.slowTicks n c).time = c.time + 45776 * n + (c.frac + 47 * n) / 128 ∧
      (Clock.slowTicks n c).frac = (c.frac + 47 * n) % 128 := by
  induction n generalizing c with
  | zero => exact ⟨by simp only [Clock.slowTicks]; omega, by simp only [Clock.slowTicks]; omega⟩
  | succ n ih =>
    obtain ⟨ht, hf⟩ := ih (Clock.frac_tick_lt false hc)
    have htime : (c.tick false).time = c.time + 45776 + (c.frac + 47) / 128 := rfl
    have hfrac : (c.tick false).frac = (c.frac + 47) % 128 := rfl
    rw [Clock.slowTicks, ht, hf, htime, hfrac]
    omega

theorem core_run_succ {M : Host.Core} (n : Nat) {s t : M.State} (h : M.step s = .next t) : M.run (n + 1) s = M.run n t := by
  rw [Host.Core.run, h]

theorem run_idle (n : Nat) {s : State} (h : s.Idle) :
    ∃ t, Sys2Proof.core.run n s = .next t ∧ t.clock = Clock.slowTicks n s.clock ∧ t.dev.objs = s.dev.objs ∧
      t.dev.gddr = s.dev.gddr := by
  induction n generalizing s with
  | zero => exact ⟨s, rfl, rfl, rfl, rfl⟩
  | succ n ih =>
    obtain ⟨l, hstep⟩ := h.step
    obtain ⟨t, hrun, hclock, hobjs, hgddr⟩ := ih (h.marked l)
    refine ⟨t, ?_, hclock, hobjs, hgddr⟩
    exact (core_run_succ (M := Sys2Proof.core) n hstep).trans hrun

/-- Settles O59: an idle block without the fabric clock stays one, and the carries of its ticks add up. -/
theorem slowClockCarriesTheFraction : Obligations.SlowClockCarriesTheFraction := by
  intro s n hp hq hfab hfrac hline hslots hsyncs hdark
  obtain ⟨t, hrun, hclock, hobjs, hgddr⟩ := run_idle n (s := s) ⟨hp, hq.1, hq.2.1, hfab, hline, hslots, hsyncs, hdark⟩
  obtain ⟨htime, hf⟩ := Clock.slowTicks_eq n hfrac
  exact ⟨t, hrun, hclock ▸ htime, hclock ▸ hf, hobjs, hgddr⟩

/-! ### A subscription that a tick marks -/

/-- A subscription to changes of device time, as session 0 makes it at device time 0. -/
def timeSub : Sub :=
  { sess := 0, index := O.DEV_TIME, element := 0, count := 1, mode := 1, period := 1, due := 1500000, last := none, dirty := false,
    seen := [0] }

/-- The block after reset with that subscription. -/
def timeWatched : State := { State.reset with dev := { subs := [timeSub] } }

theorem timeWatched_still : ({ timeWatched with clock := timeWatched.clock.tick timeWatched.dev.pwr.fabric } : State).Still := by
  simp [State.Still, timeWatched, State.reset, Dev.slot]

/-- Refutes O58: a step of the clock also marks a subscription whose run reads otherwise by then (R152). After it the subscription to
DEV_TIME of `timeWatched` waits to be notified, where the statement has every subscription as before. -/
theorem not_idleStepsTheClock : ¬ Obligations.IdleStepsTheClock := by
  unfold Obligations.IdleStepsTheClock
  intro h
  obtain ⟨hfirst, -, -⟩ := h timeWatched rfl rfl
  obtain ⟨hslow, -⟩ := hfirst rfl timeWatched_still
  have hsame := congrArg (fun s : State => s.dev.subs) (Host.Outcome.next.inj (hslow (.inl rfl)))
  exact absurd hsame (by decide +kernel)

end Sys2Proof.Machine
end

section
/-! PROOF. The object protocol: requests that execute at once, and the objects that a row of the dictionary describes (chapter 02). -/

namespace Sys2Proof.Machine

/-! ### Rows of the dictionary -/

/-- Every row of the dictionary has a property. -/
def allRows (p : ObjRow → Bool) : Bool := (List.range 128).all fun page => (rowsOf page).all p

/-- No page from 128 on has rows. -/
theorem rowsOf_beyond {page : Nat} (h : 128 ≤ page) : rowsOf page = [] := by
  have hskip : ∀ {a b : List ObjRow} {k : Nat}, k < 128 → (if page == k then a else b) = b :=
    fun {_ _ k} hk => if_neg (by simp; omega)
  unfold rowsOf
  simp (disch := decide) only [↓hskip]

theorem idx_of_rowOf? {idx : Nat} {r : ObjRow} (h : rowOf? idx = some r) : r.idx = idx := by
  simpa using List.find?_some h

theorem prop_of_rowOf? {p : ObjRow → Bool} (hp : allRows p = true) {idx : Nat} {r : ObjRow} (h : rowOf? idx = some r) : p r = true := by
  have hmem := List.mem_of_find?_eq_some h
  by_cases hpage : idx / 256 < 128
  · exact List.all_eq_true.mp (List.all_eq_true.mp hp _ (List.mem_range.mpr hpage)) r hmem
  · rw [rowsOf_beyond (by omega)] at hmem
    exact absurd hmem List.not_mem_nil

/-! ### What an answer leaves of a session -/

theorem Dev.sess_setSess (d : Dev) (k n : Nat) (x : Ses) :
    (d.setSess k x).sess n = if n = k ∧ k < d.ses.length then x else d.sess n := by
  by_cases hn : n = k
  · subst hn
    by_cases hk : n < d.ses.length
    · rw [if_pos ⟨rfl, hk⟩, Dev.sess_setSess_self hk]
    · rw [if_neg (fun h => hk h.2)]
      simp [Dev.sess, Dev.setSess, hk]
  · rw [if_neg (fun h => hn h.1), Dev.sess_setSess_ne hn]

theorem Dev.ses_enq (d : Dev) (p : Packet) : (d.enq p).ses = d.ses := by
  unfold Dev.enq Dev.discard
  split
  · rfl
  · split
    · rfl
    · split
      · rfl
      · rfl

theorem Dev.ses_sends (f : Bytes → Out) (l : List Bytes) (d : Dev) : (l.foldl (fun d p => d.send (f p)) d).ses = d.ses := by
  induction l generalizing d with
  | nil => rfl
  | cons p l ih => exact ih _

theorem Dev.sess_congr {d d' : Dev} (h : d'.ses = d.ses) (n : Nat) : d'.sess n = d.sess n := by
  unfold Dev.sess; rw [h]

/-- What leaves for a session waits at most in its queue for the SPI poll. -/
theorem Dev.sess_emit (d : Dev) (s : Nat) (note ext : Bool) (base : Nat) (bs : Bytes) (n : Nat) :
    (d.emit s note ext base bs).sess n = { d.sess n with outq := ((d.emit s note ext base bs).sess n).outq } := by
  unfold Dev.emit
  split
  · unfold Dev.canSend
    split
    · rfl
    · rw [Dev.sess_congr (Dev.ses_sends ..)]
  · split
    · rw [Dev.sess_setSess]
      split
      next h => obtain ⟨rfl, -⟩ := h; rfl
      next => rfl
    · split
      · rw [Dev.sess_congr (Dev.ses_enq ..)]
      · rfl

@[simp] theorem Dev.sess_countReq (d : Dev) (s : Nat) (a : Ans) (n : Nat) : (d.countReq s a).sess n = d.sess n := by
  unfold Dev.countReq
  dsimp only
  split
  · rfl
  · rfl

@[simp] theorem Dev.ses_countReq (d : Dev) (s : Nat) (a : Ans) : (d.countReq s a).ses = d.ses := by
  unfold Dev.countReq
  dsimp only
  split
  · rfl
  · rfl

/-- A response is stored as the session's newest. -/
theorem Dev.stored_answer {e : Env} {d0 d : Dev} {m : GopMsg} {a : Ans} (h : m.req.sess < d.ses.length) :
    ((Dev.answer e d0 d m a).sess m.req.sess).stored.head? =
      some { msg := m, resp := gopBytes m.op (reqTag m.req) m.req.index m.req.element false a, time := e.now } := by
  unfold Dev.answer Dev.respond
  rw [Dev.sess_emit, Dev.sess_setSess_self (by rw [Dev.ses_countReq]; exact h)]
  rfl

/-- An answer leaves of a session all but its stored responses and its queue for the SPI poll. -/
theorem Dev.sess_answer (e : Env) (d0 d : Dev) (m : GopMsg) (a : Ans) (n : Nat) :
    (Dev.answer e d0 d m a).sess n = { d.sess n with
      stored := ((Dev.answer e d0 d m a).sess n).stored, outq := ((Dev.answer e d0 d m a).sess n).outq } := by
  unfold Dev.answer Dev.respond
  rw [Dev.sess_emit, Dev.sess_setSess]
  split
  next h => obtain ⟨rfl, -⟩ := h; rw [Dev.sess_countReq]
  next => rw [Dev.sess_countReq]

/-! ### A request that executes at once -/

/-- A request has been executed: its operation has left device `d` and is answered. -/
structure State.Executed (s : State) (d : Dev) (m : GopMsg) (a : Ans) (t : State) : Prop extends s.Replied d t where
  answered : m.req.sess < d.ses.length → Answered s t m a
  sess : ∀ n, t.dev.sess n = { d.sess n with stored := (t.dev.sess n).stored, outq := (t.dev.sess n).outq }

/-- A served request ends in what its operation leaves, answered. -/
theorem leads_request {c : Instr} {s : State} {m : GopMsg} {codes : List Int} {a : Ans} {P : State → Prop} (d : Dev)
    (hc : exec c s = request m codes s) (hs : Served s (reqHdr m.req) m.req.index) (hop : m.req.index ≠ O.SES_OPEN ∨ m.op ≠ 2)
    (hd : (s.atRequest m.req.sess).operate s.env m codes = (a, d)) (hset : d.jq.settle = false) (hrst : d.pwr.rstDue = none)
    (hP : ∀ t, s.Executed d m a t → P t) : Leads c s P := by
  have h4 : m.req.sess < 4096 := Nat.lt_trans hs.1 (by decide)
  have hstill : s.Still := hs.2.2.2.2.2.2.2.2.2
  have sf := SentFrom.answer (e := s.env) (d0 := s.atRequest m.req.sess) (d := d) (m := m) (a := a) h4
  have hrun : Dev.gopRun s.env { s.dev with sent := [] } m codes = Dev.answer s.env (s.atRequest m.req.sess) d m a := by
    have h := gopRun_served (codes := codes) hs ⟨rfl, rfl, rfl⟩ hop
    rw [show (reqHdr m.req).sess = m.req.sess from rfl, hd] at h
    exact h
  refine leads_eff (f := fun e d => d.gopRun e m codes) _ hstill hc hrun ?_ ?_ fun l => hP _ ⟨⟨_, sf, rfl, rfl, rfl, rfl⟩, fun hn => ?_, fun n => ?_⟩
  · rw [sf.rest]; exact hset
  · rw [sf.rest]; exact hrst
  · exact Dev.stored_answer hn
  · exact Dev.sess_answer s.env (s.atRequest m.req.sess) d m a n

theorem State.Executed.o {s t : State} {d : Dev} {m : GopMsg} {a : Ans} (h : s.Executed d m a t) {i el : Nat} (hi : i ∉ answerIdx)
    (hel : el < 4096) : t.dev.o i el = d.o i el := h.toReplied.o hi hel

end Sys2Proof.Machine
end

section
/-! PROOF. Reads and writes of elements (chapter 02). -/

namespace Sys2Proof.Machine

/-! ### READ -/

theorem State.serviceAbort_atRequest {s : State} {h : Hdr} {idx : Nat} (hs : Served s h idx) :
    (s.atRequest h.sess).serviceAbort h.sess idx = none := by
  have hsv := hs.2.2.2.1
  unfold Dev.serviceAbort at hsv ⊢
  rw [State.o_atRequest]
  exact hsv

theorem State.shadows_atRequest (s : State) (n : Nat) : (s.atRequest n).shadows = s.dev.shadows := by
  rw [State.atRequest_eq]

theorem State.lock_staged_atRequest (s : State) (n : Nat) : (s.atRequest n).lock.staged = s.dev.lock.staged := by
  show ((Dev.arrived s.env { s.dev with sent := [] } n).creditDue n).lock.staged = _
  rw [Dev.creditDue_eq]
  unfold Dev.arrived
  dsimp only
  split
  · rw [Dev.hostRenew_eq]
  · rw [Dev.hostRenew_eq]

/-- The device after a run of an RC object has been read: each element at what reading leaves (R76). -/
def Dev.clearRun (e : Env) (d : Dev) (idx : Nat) (els : List Nat) : Dev := els.foldl (fun d x => d.so idx x (d.clearVal e idx x)) d

/-- Reading clears elements of the object alone. -/
structure ClearsOnly (idx : Nat) (d d' : Dev) : Prop where
  rest : d' = { d with objs := d'.objs }
  o : ∀ i el, el < 4096 → i ≠ idx → d'.o i el = d.o i el

theorem Dev.clearRun_only {e : Env} {idx : Nat} {els : List Nat} (hels : ∀ x ∈ els, x < 4096) (d : Dev) :
    ClearsOnly idx d (d.clearRun e idx els) := by
  induction els generalizing d with
  | nil => exact ⟨rfl, fun _ _ _ _ => rfl⟩
  | cons x l ih =>
    obtain ⟨hx, hl⟩ := List.forall_mem_cons.mp hels
    obtain ⟨hrest, ho⟩ := ih hl (d.so idx x (d.clearVal e idx x))
    exact ⟨hrest, fun i el hel hi => (ho i el hel hi).trans (Dev.o_so_ne hx hel (.inl hi))⟩

/-- An element read stays cleared: HM_BUCKET_PEAK apart, at its default. -/
theorem Dev.o_clearRun {e : Env} {idx : Nat} (hidx : idx ≠ O.HM_BUCKET_PEAK) {els : List Nat} (hels : ∀ x ∈ els, x < 4096)
    (d : Dev) {x : Nat} (hx : x ∈ els ∨ d.o idx x = dflt idx x) (hlt : x < 4096) : (d.clearRun e idx els).o idx x = dflt idx x := by
  induction els generalizing d with
  | nil => exact hx.resolve_left List.not_mem_nil
  | cons y l ih =>
    obtain ⟨hy, hl⟩ := List.forall_mem_cons.mp hels
    have hclear : d.clearVal e idx y = dflt idx y := by simp [Dev.clearVal, hidx]
    refine ih hl _ ?_
    by_cases hxy : x = y
    · subst hxy
      exact .inr (by rw [Dev.o_so_self, hclear])
    · rw [Dev.o_so_ne hy hlt (.inr hxy)]
      exact hx.imp_left fun hmem => (List.mem_cons.mp hmem).resolve_left hxy

/-- A run of objects whose sampling changes nothing. -/
theorem Dev.readRun_eq {e : Env} {d : Dev} {r : ObjRow} {el n : Nat} {pend : Bool} {codes : List Int} (hnow : r.idx ≠ O.HK_NOW)
    (hbias : r.idx ≠ O.RX_BIAS_I_MEAS) :
    d.readRun e r el n pend true codes =
      ((runEls el n).flatMap (fun x => match (if pend then tget none d.shadows (okey r.idx x) else none) with
        | some v => leBytes r.ty.bytes v
        | none => d.elBytes e r x),
       if r.acc = .rc then d.clearRun e r.idx (runEls el n) else d) := by
  have hsample : ∀ l : List Nat, l.foldl (fun d x => Dev.sampleEl e d [] r.idx x) d = d := by
    intro l
    induction l with
    | nil => rfl
    | cons x l ih => rw [List.foldl_cons, show Dev.sampleEl e d [] r.idx x = d by simp [Dev.sampleEl, hnow, hbias], ih]
  unfold Dev.readRun
  dsimp only
  rw [if_neg (by simpa using hnow), hsample]
  simp only [Bool.true_and, decide_eq_true_eq]
  rfl

theorem mem_runEls {el n x : Nat} : x ∈ runEls el n ↔ el ≤ x ∧ x < el + n := by
  unfold runEls
  simp only [List.mem_map, List.mem_range]
  exact ⟨fun ⟨i, hi, he⟩ => by omega, fun ⟨h1, h2⟩ => ⟨x - el, by omega, by omega⟩⟩

theorem Dev.run_le_of_runCheck {e : Env} {d : Dev} {r : ObjRow} {el n : Nat} (h : d.runCheck e r el n = none) : el + n ≤ 4096 := by
  unfold Dev.runCheck at h
  split at h
  next hs => rw [h] at hs; exact absurd hs (by decide)
  next =>
    split at h
    · cases h
    · split at h
      · cases h
      · next hc => simp at hc; omega

theorem State.mem_run_lt {s : State} {q : Req} {r : ObjRow} (h : (s.atRequest q.sess).runCheck s.env r q.element q.count = none) :
    ∀ x ∈ runEls q.element q.count, x < 4096 := fun x hx => by
  have := Dev.run_le_of_runCheck h
  have := mem_runEls.mp hx
  omega

/-- What a READ leaves: an RC object's elements cleared. -/
def State.afterRead (s : State) (q : Req) (r : ObjRow) : Dev :=
  if r.acc = .rc then (s.atRequest q.sess).clearRun s.env r.idx (runEls q.element q.count) else s.atRequest q.sess

theorem State.afterRead_only {s : State} {q : Req} {r : ObjRow}
    (h : (s.atRequest q.sess).runCheck s.env r q.element q.count = none) : ClearsOnly r.idx (s.atRequest q.sess) (s.afterRead q r) := by
  unfold State.afterRead
  split
  · exact Dev.clearRun_only (State.mem_run_lt h) _
  · exact ⟨rfl, fun _ _ _ _ => rfl⟩

/-- The operation of a request that the device serves. -/
theorem Dev.operate_eq {e : Env} {d : Dev} {m : GopMsg} {codes : List Int} (h : d.serviceAbort m.req.sess m.req.index = none) :
    d.operate e m codes =
      (if m.op == 1 then d.opRead e m codes else if m.op == 2 then d.opWrite e m else if m.op == 3 then d.opReadBlock e m
       else if m.op == 4 then d.opWriteBlock e m else if m.op == 5 then d.opLock e m.req.sess
       else if m.op == 6 then d.opCommit e m.req.sess else if m.op == 7 then d.opAbortLock e m.req.sess
       else if m.op == 8 then d.opSubscribe e m else (refuse (3, 3), d)) := by
  unfold Dev.operate
  dsimp only
  rw [h]

section
variable {e : Env} {d : Dev} {q : Req} {codes : List Int} (pend md : Bool) (h : d.serviceAbort q.sess q.index = none)
include h

theorem Dev.operate_read : d.operate e (opMsg 1 pend md q) codes = d.opRead e (opMsg 1 pend md q) codes := Dev.operate_eq (m := opMsg 1 pend md q) h
theorem Dev.operate_write : d.operate e (opMsg 2 pend md q) codes = d.opWrite e (opMsg 2 pend md q) := Dev.operate_eq (m := opMsg 2 pend md q) h
theorem Dev.operate_readBlock : d.operate e (opMsg 3 pend md q) codes = d.opReadBlock e (opMsg 3 pend md q) := Dev.operate_eq (m := opMsg 3 pend md q) h
theorem Dev.operate_writeBlock : d.operate e (opMsg 4 pend md q) codes = d.opWriteBlock e (opMsg 4 pend md q) := Dev.operate_eq (m := opMsg 4 pend md q) h
theorem Dev.operate_lock : d.operate e (opMsg 5 pend md q) codes = d.opLock e q.sess := Dev.operate_eq (m := opMsg 5 pend md q) h
theorem Dev.operate_commit : d.operate e (opMsg 6 pend md q) codes = d.opCommit e q.sess := Dev.operate_eq (m := opMsg 6 pend md q) h
theorem Dev.operate_abortLock : d.operate e (opMsg 7 pend md q) codes = d.opAbortLock e q.sess := Dev.operate_eq (m := opMsg 7 pend md q) h
theorem Dev.operate_subscribe : d.operate e (opMsg 8 pend md q) codes = d.opSubscribe e (opMsg 8 pend md q) := Dev.operate_eq (m := opMsg 8 pend md q) h

end

theorem Dev.opRead_run {e : Env} {d : Dev} {m : GopMsg} {codes : List Int} {r : ObjRow} (hr : rowOf? m.req.index = some r)
    (hchk : d.runCheck e r m.req.element m.req.count = none) (hacc : r.acc ≠ .wo) (hmd : m.md = false) :
    d.opRead e m codes = (okAns e.now (d.readRun e r m.req.element m.req.count m.pend true codes).1,
      (d.readRun e r m.req.element m.req.count m.pend true codes).2) := by
  unfold Dev.opRead
  dsimp only
  rw [hr]
  dsimp only
  rw [hchk]
  dsimp only
  rw [if_neg hacc, if_neg (by simp [hmd])]
  rfl

theorem Dev.opRead_meta {e : Env} {d : Dev} {m : GopMsg} {codes : List Int} {r : ObjRow} (hr : rowOf? m.req.index = some r)
    (hchk : d.runCheck e r m.req.element m.req.count = none) (hacc : r.acc ≠ .wo) (hmd : m.md = true) (hone : m.req.count = 1)
    (hbits : r.ty ≠ .bits32) (hstr : r.ty ≠ .str) :
    d.opRead e m codes = (okAns e.now ((d.view m.req.sess []).metaBytes e r m.req.element), d) := by
  unfold Dev.opRead
  dsimp only
  rw [hr]
  dsimp only
  rw [hchk]
  dsimp only
  rw [if_neg hacc, if_pos hmd, if_neg (by simp [hone, hbits, hstr])]
  rfl

section
variable {s : State} {q : Req} {r : ObjRow}

/-- The read of a run, with or without PEND. -/
theorem State.operate_read (pend : Bool) (hs : Served s (reqHdr q) q.index) (hr : rowOf? q.index = some r)
    (hchk : (s.atRequest q.sess).runCheck s.env r q.element q.count = none) (hacc : r.acc ≠ .wo) (hnow : q.index ≠ O.HK_NOW)
    (hbias : q.index ≠ O.RX_BIAS_I_MEAS) :
    (s.atRequest q.sess).operate s.env (opMsg 1 pend false q) [] =
      (okAns s.clock.time ((runEls q.element q.count).flatMap (fun x =>
        match (if pend then tget none s.dev.shadows (okey q.index x) else none) with
        | some v => leBytes r.ty.bytes v
        | none => Dev.elBytes s.env (s.atRequest q.sess) r x)), s.afterRead q r) := by
  have hidx := idx_of_rowOf? hr
  refine ((Dev.operate_read pend false (State.serviceAbort_atRequest hs)).trans (Dev.opRead_run (m := opMsg 1 pend false q) hr hchk hacc rfl)).trans ?_
  show (okAns s.env.now (Dev.readRun s.env (s.atRequest q.sess) r q.element q.count pend true []).1,
    (Dev.readRun s.env (s.atRequest q.sess) r q.element q.count pend true []).2) = _
  rw [Dev.readRun_eq (hidx ▸ hnow) (hidx ▸ hbias), State.shadows_atRequest, hidx]
  unfold State.afterRead
  rw [hidx]
  rfl

theorem State.afterRead_keeps (h : (s.atRequest q.sess).runCheck s.env r q.element q.count = none) :
    (s.afterRead q r).jq = s.dev.jq ∧ (s.afterRead q r).pwr = s.dev.pwr ∧ (s.afterRead q r).ses = s.dev.ses := by
  rw [(State.afterRead_only h).rest]
  exact ⟨State.jq_atRequest .., State.pwr_atRequest .., State.ses_atRequest ..⟩

/-- A READ of a run is answered, and leaves the run cleared where it is RC. -/
theorem leads_read {c : Instr} {pend : Bool} {P : State → Prop} (hc : exec c s = request (opMsg 1 pend false q) [] s) (hq : s.Quiet)
    (hs : Served s (reqHdr q) q.index) (hr : rowOf? q.index = some r)
    (hchk : (s.atRequest q.sess).runCheck s.env r q.element q.count = none) (hacc : r.acc ≠ .wo) (hnow : q.index ≠ O.HK_NOW)
    (hbias : q.index ≠ O.RX_BIAS_I_MEAS)
    (hP : ∀ t, s.Executed (s.afterRead q r) (opMsg 1 pend false q) (okAns s.clock.time ((runEls q.element q.count).flatMap (fun x =>
        match (if pend then tget none s.dev.shadows (okey q.index x) else none) with
        | some v => leBytes r.ty.bytes v
        | none => Dev.elBytes s.env (s.atRequest q.sess) r x))) t → P t) : Leads c s P := by
  obtain ⟨hjq, hpwr, -⟩ := State.afterRead_keeps hchk
  exact leads_request (m := opMsg 1 pend false q) (codes := []) (s.afterRead q r) hc hs (.inr (by decide : (1 : Nat) ≠ 2))
    (State.operate_read pend hs hr hchk hacc hnow hbias)
    ((congrArg Jq.settle hjq).trans hq.1) ((congrArg Pwr.rstDue hpwr).trans hq.2.1) hP

theorem sess_lt_afterRead (hs : Served s (reqHdr q) q.index)
    (hchk : (s.atRequest q.sess).runCheck s.env r q.element q.count = none) : q.sess < (s.afterRead q r).ses.length := by
  obtain ⟨hlt, hlen, -⟩ := hs
  rw [(State.afterRead_keeps hchk).2.2, hlen]
  exact Nat.lt_trans hlt (by decide)

theorem read_answers (hq : s.Quiet) (hs : Served s (reqHdr q) q.index) (hr : rowOf? q.index = some r)
    (hchk : (s.atRequest q.sess).runCheck s.env r q.element q.count = none) (hacc : r.acc ≠ .wo) (hnow : q.index ≠ O.HK_NOW)
    (hbias : q.index ≠ O.RX_BIAS_I_MEAS) :
    Leads (.read q) s (fun t =>
      Answered s t (opMsg 1 false false q) (okAns s.clock.time
        ((runEls q.element q.count).flatMap (fun x => Dev.elBytes s.env (s.atRequest q.sess) r x))) ∧
      (∀ i el, el < 4096 → i ≠ q.index → i ∉ [O.GOP_REQUESTS, O.GOP_ABORTS, O.LINK_TX_DISCARD, O.LINK_NOTIFY_DROPPED] →
        t.dev.o i el = s.dev.o i el)) := by
  refine leads_read rfl hq hs hr hchk hacc hnow hbias fun t ht => ⟨ht.answered (sess_lt_afterRead hs hchk), fun i el hel hi hcount => ?_⟩
  rw [ht.o hcount hel, (State.afterRead_only hchk).o i el hel (idx_of_rowOf? hr ▸ hi), State.o_atRequest]

theorem readPend_answers (hq : s.Quiet) (hs : Served s (reqHdr q) q.index) (hr : rowOf? q.index = some r)
    (hchk : (s.atRequest q.sess).runCheck s.env r q.element q.count = none) (hacc : r.acc ≠ .wo) (hnow : q.index ≠ O.HK_NOW)
    (hbias : q.index ≠ O.RX_BIAS_I_MEAS) :
    Leads (.readPend q) s (fun t =>
      Answered s t (opMsg 1 true false q) (okAns s.clock.time
        ((runEls q.element q.count).flatMap (fun x => match tget none s.dev.shadows (okey q.index x) with
          | some v => leBytes r.ty.bytes v
          | none => Dev.elBytes s.env (s.atRequest q.sess) r x)))) :=
  leads_read rfl hq hs hr hchk hacc hnow hbias fun _ ht => ht.answered (sess_lt_afterRead hs hchk)

theorem readMeta_answers (hq : s.Quiet) (hs : Served s (reqHdr q) q.index) (hr : rowOf? q.index = some r)
    (hchk : (s.atRequest q.sess).runCheck s.env r q.element q.count = none) (hacc : r.acc ≠ .wo) (hone : q.count = 1)
    (hbits : r.ty ≠ .bits32) (hstr : r.ty ≠ .str) :
    Leads (.readMeta q) s (fun t => Answered s t (opMsg 1 false true q)
      (okAns s.clock.time (((s.atRequest q.sess).view q.sess []).metaBytes s.env r q.element))) := by
  refine leads_request (m := opMsg 1 false true q) (codes := []) (s.atRequest q.sess) rfl hs (.inr (by decide : (1 : Nat) ≠ 2)) ?_
    ((congrArg Jq.settle (State.jq_atRequest ..)).trans hq.1) ((congrArg Pwr.rstDue (State.pwr_atRequest ..)).trans hq.2.1)
    fun t ht => ht.answered ?_
  · exact (Dev.operate_read false true (State.serviceAbort_atRequest hs)).trans (Dev.opRead_meta (m := opMsg 1 false true q) hr hchk hacc rfl hone hbits hstr)
  · rw [State.ses_atRequest, hs.2.1]
    exact Nat.lt_trans hs.1 (by decide)

theorem rc_rows : allRows (fun r => r.acc != .rc || (r.idx != O.HK_NOW && r.idx != O.RX_BIAS_I_MEAS && r.idx != O.GOP_REQUESTS &&
    r.idx != O.GOP_ABORTS)) = true := by decide +kernel

theorem read_clears {x : Nat} (hq : s.Quiet) (hs : Served s (reqHdr q) q.index) (hr : rowOf? q.index = some r)
    (hchk : (s.atRequest q.sess).runCheck s.env r q.element q.count = none) (hacc : r.acc = .rc)
    (hidx : q.index ∉ [O.HM_BUCKET_PEAK, O.LINK_TX_DISCARD, O.LINK_NOTIFY_DROPPED]) (hlo : q.element ≤ x)
    (hhi : x < q.element + q.count) : Leads (.read q) s (fun t => t.dev.o q.index x = dflt q.index x) := by
  have hi := idx_of_rowOf? hr
  have hrow := prop_of_rowOf? rc_rows hr
  simp only [hacc, hi, bne_self_eq_false, Bool.false_or, Bool.and_eq_true, bne_iff_ne] at hrow
  obtain ⟨⟨⟨hnow, hbias⟩, hreq⟩, hab⟩ := hrow
  simp only [List.mem_cons, List.not_mem_nil, or_false, not_or] at hidx
  obtain ⟨hpeak, htx, hnote⟩ := hidx
  have hx : x ∈ runEls q.element q.count := mem_runEls.mpr ⟨hlo, hhi⟩
  have hlt := State.mem_run_lt hchk
  refine leads_read rfl hq hs hr hchk (by rw [hacc]; decide) hnow hbias fun t ht => ?_
  rw [ht.o (by simp [answerIdx, hreq, hab, htx, hnote]) (hlt x hx), State.afterRead, if_pos hacc, hi]
  exact Dev.o_clearRun hpeak hlt _ (.inl hx) (hlt x hx)

end

/-- Settles O9: a read changes the elements of an RC object alone. -/
theorem readsAnswerTheirValues : Obligations.ReadsAnswerTheirValues :=
  ⟨fun _ _ _ hq hs hr hchk hacc => ⟨fun hnow hbias => ⟨read_answers hq hs hr hchk hacc hnow hbias,
      readPend_answers hq hs hr hchk hacc hnow hbias⟩, readMeta_answers hq hs hr hchk hacc⟩,
    fun _ _ _ _ hq hs hr hchk hacc hidx hlo hhi => read_clears hq hs hr hchk hacc hidx hlo hhi⟩

end Sys2Proof.Machine
end

section
/-! PROOF. Writes of elements: into a shadow, or in force (chapter 02). -/

namespace Sys2Proof.Machine

/-- WRITE of one element of a row with elements of 12 bits. -/
theorem exec_write_one (s : State) (h : Hdr) (idx el v : Nat) :
    exec (.write (reqTo h idx el 1 (leBytes (elWidth idx) v))) s = write1 h idx el v s := rfl

theorem Dev.dropBankWrites_eq (d : Dev) : d.dropBankWrites = { d with ses := d.dropBankWrites.ses } := by
  unfold Dev.dropBankWrites
  dsimp only
  split
  · rfl
  · rfl

/-- A value that waits for its boundary goes into its shadow. -/
theorem Dev.writeVal_waits {e : Env} {n : Nat} {d : Dev} {r : ObjRow} {el v : Nat} (hcls : r.cls = .shot ∨ r.cls = .line ∨ r.cls = .frame)
    (hjq : d.o O.JQ_STATE ≠ 0) :
    d.writeVal e n r el v = Dev.dropBankWrites { d with shadows := tset none d.shadows (okey r.idx el) (some v) } := by
  unfold Dev.writeVal
  dsimp only
  rw [if_pos ⟨hcls, hjq⟩]

theorem waiting_rows : allRows (fun r => !((r.cls == .shot || r.cls == .line || r.cls == .frame) && (r.acc == .rw || r.acc == .wo)) ||
    (r.ty != .str && !answerIdx.contains r.idx && r.idx != O.JQ_RUN && r.idx != O.SES_OPEN)) = true := by decide +kernel

theorem waiting_row {idx : Nat} {r : ObjRow} (hr : rowOf? idx = some r) (hcls : r.cls = .shot ∨ r.cls = .line ∨ r.cls = .frame)
    (hacc : r.acc = .rw ∨ r.acc = .wo) : r.ty ≠ .str ∧ idx ∉ answerIdx ∧ idx ≠ O.JQ_RUN ∧ idx ≠ O.SES_OPEN := by
  have hrow := prop_of_rowOf? waiting_rows hr
  have hwaits : ((r.cls == .shot || r.cls == .line || r.cls == .frame) && (r.acc == .rw || r.acc == .wo)) = true := by
    simp [hcls, hacc, or_assoc]
  rw [hwaits, idx_of_rowOf? hr] at hrow
  simpa [and_assoc] using hrow

/-- An accepted write of an element whose row waits for a boundary, while Jacquard runs: its shadow takes it, and the objects but
the counters of requests stay. -/
theorem leads_waits {c : Instr} {s : State} {h : Hdr} {idx el v : Nat} {r : ObjRow} {P : State → Prop} (hc : exec c s = write1 h idx el v s)
    (hq : s.Quiet) (hr : rowOf? idx = some r) (hcls : r.cls = .shot ∨ r.cls = .line ∨ r.cls = .frame) (hacc : r.acc = .rw ∨ r.acc = .wo) (hdom : r.ty ≠ .dom)
    (hswap : idx ≠ O.JQ_SWAP_REQ) (hel : el < 4096) (hjq : s.dev.o O.JQ_STATE ≠ 0) (ha : Accepts s h idx el v)
    (hP : ∀ t : State, tget none t.dev.shadows (okey idx el) = some v →
      (∀ i k, k < 4096 → i ∉ answerIdx → t.dev.o i k = s.dev.o i k) → P t) : Leads c s P := by
  have hi := idx_of_rowOf? hr
  obtain ⟨hstr, -, hrun, hses⟩ := waiting_row hr hcls hacc
  have hw := Dev.writeVal_waits (e := s.env) (n := h.sess) (d := s.atRequest h.sess) (el := el) (v := v) hcls
    ((State.o_atRequest ..).symm ▸ hjq)
  rw [Dev.dropBankWrites_eq] at hw
  refine leads_write hc ha hr hi (by omega) ⟨hdom, hstr⟩ (by tauto) ⟨hrun, hswap⟩ hses ?_ ?_ fun d l hsent => hP _ ?_ fun i k hk hi => ?_
  · rw [hw]; exact (congrArg Jq.settle (State.jq_atRequest ..)).trans hq.1
  · rw [hw]; exact (congrArg Pwr.rstDue (State.pwr_atRequest ..)).trans hq.2.1
  · show tget none d.shadows _ = _
    rw [hsent.rest, hw, hi]
    exact tget_tset_self none (s.atRequest h.sess).shadows (okey idx el) (some v)
  · show d.o i k = _
    rw [hsent.objs i k hk hi, hw]
    exact State.o_atRequest ..

theorem write_waits {s : State} {h : Hdr} {idx el v : Nat} {r : ObjRow} (hq : s.Quiet) (hr : rowOf? idx = some r)
    (hcls : r.cls = .shot ∨ r.cls = .line ∨ r.cls = .frame) (hacc : r.acc = .rw ∨ r.acc = .wo) (hdom : r.ty ≠ .dom)
    (hswap : idx ≠ O.JQ_SWAP_REQ) (hel : el < 4096) (hjq : s.dev.o O.JQ_STATE ≠ 0) (ha : Accepts s h idx el v) :
    Leads (.write (reqTo h idx el 1 (leBytes (elWidth idx) v))) s (fun t =>
      tget none t.dev.shadows (okey idx el) = some v ∧ t.dev.o idx el = s.dev.o idx el) := by
  exact leads_waits (exec_write_one ..) hq hr hcls hacc hdom hswap hel hjq ha fun t hsh ho => ⟨hsh, ho idx el hel (waiting_row hr hcls hacc).2.1⟩

/-- An accepted write of an element that comes into force at once, as its row says or because Jacquard is STOPPED. -/
theorem leads_writeNow {c : Instr} {s : State} {h : Hdr} {idx el v : Nat} {r : ObjRow} {P : State → Prop}
    (hc : exec c s = write1 h idx el v s) (ha : Accepts s h idx el v)
    (hr : rowOf? idx = some r) (hcls : (r.cls = .now ∨ r.cls = .stop) ∨ s.dev.o O.JQ_STATE = 0) (hel : el < 4096)
    (hty : r.ty ≠ .dom ∧ r.ty ≠ .str) (hacc : r.acc = .rw ∨ r.acc = .wo ∨ r.acc = .rws)
    (hidx : idx ≠ O.JQ_RUN ∧ idx ≠ O.JQ_SWAP_REQ ∧ idx ≠ O.SES_OPEN ∧ idx ≠ O.RX_REPAIR)
    (hs : (s.landed h idx el v).jq.settle = false) (hd : (s.landed h idx el v).pwr.rstDue = none)
    (hP : ∀ t, s.Replied (s.landed h idx el v) t → P t) :
    Leads c s P := by
  have hi := idx_of_rowOf? hr
  subst hi
  have hbusy : (s.atRequest h.sess).busy s.env r.idx el v = none := ha.2.2.2.2.2.2.2.1
  have hw : (s.atRequest h.sess).writeVal s.env h.sess r el v = s.landed h r.idx el v :=
    Dev.writeVal_lands (hcls.imp_right fun h0 => (State.o_atRequest ..).trans h0) hel hidx.2.2.2 hbusy
  exact leads_write hc ha hr rfl (by omega) hty hacc ⟨hidx.1, hidx.2.1⟩ hidx.2.2.1 (hw ▸ hs) (hw ▸ hd)
    (fun d l hsent => hP _ ⟨d, hw ▸ hsent, rfl, rfl, rfl, rfl⟩)

theorem Dev.landEl_levelSet (e : Env) (n : Nat) (d : Dev) (el v : Nat) : d.landEl e n O.EM_LEVEL_SET el v = d.so O.EM_LEVEL_SET el v := rfl

theorem writeLevel_lands {s : State} {h : Hdr} {el v : Nat} (hq : s.Quiet) (hel : el < 128) (hjq : s.dev.o O.JQ_STATE = 0)
    (ha : Accepts s h O.EM_LEVEL_SET el v) :
    Leads (.write (reqTo h O.EM_LEVEL_SET el 1 (leBytes 2 v))) s (fun t => t.dev.o O.EM_LEVEL_SET el = v) := by
  obtain ⟨r, hr, hdom, hstr, hacc⟩ : ∃ r, rowOf? O.EM_LEVEL_SET = some r ∧ r.ty ≠ .dom ∧ r.ty ≠ .str ∧ r.acc = .rw :=
    ⟨_, rfl, by decide, by decide, rfl⟩
  have hw : s.landed h O.EM_LEVEL_SET el v = ((s.atRequest h.sess).shadowOff (okey O.EM_LEVEL_SET el)).so O.EM_LEVEL_SET el v := rfl
  refine leads_writeNow (exec_write_one ..) ha hr (.inr hjq) (by omega) ⟨hdom, hstr⟩ (.inl hacc) (by decide) ?_ ?_ fun t ht => ?_
  · rw [hw]; exact (congrArg Jq.settle (State.jq_atRequest ..)).trans hq.1
  · rw [hw]; exact (congrArg Pwr.rstDue (State.pwr_atRequest ..)).trans hq.2.1
  · rw [ht.o (by decide) (by omega), hw, Dev.o_so_self]

/-- Settles O10: the row's apply class and Jacquard's state decide between the shadow and the value in force. -/
theorem writesLandOrWait : Obligations.WritesLandOrWait :=
  fun _ _ _ _ hq => ⟨fun _ _ hr hcls hacc hdom hswap hel hjq ha => write_waits hq hr hcls hacc hdom hswap hel hjq ha,
    fun hel hjq ha => writeLevel_lands hq hel hjq ha⟩

/-! ### A value without an action of its own -/

theorem Dev.bankCheck_ne {d : Dev} {bank : Nat} : d.bankCheck bank ≠ some 0xFFFF := by
  unfold Dev.bankCheck
  split
  · decide
  · intro h
    have := List.mem_range.mp (List.mem_of_find?_eq_some h)
    omega

theorem Dev.jq_twStart (d : Dev) (t : Nat) (shares : List Nat) : (d.twStart t shares).jq = d.jq := rfl

theorem Dev.decoding_jqStart (e : Env) (d : Dev) : (d.jqStart e).jq.decoding = true := by
  unfold Dev.jqStart
  dsimp only
  split
  · rw [Dev.jq_twStart, Dev.jq_domOn]
  · rw [Dev.jq_domOn]

/-- A start with what the bank check finds (R202). -/
theorem Dev.jqRun_start {e : Env} {d : Dev} {r : Option Nat} (h : d.o O.JQ_STATE = 0)
    (hr : (d.so O.JQ_RUN 0 1).bankCheck (d.o O.JQ_ACTIVE_BANK) = r) :
    d.jqRun e 1 = match r with
      | none => ((d.so O.JQ_RUN 0 1).bankFault none).jqStart e
      | some x => (d.so O.JQ_RUN 0 1).bankFault (some x) := by
  have hst : (d.so O.JQ_RUN 0 1).o O.JQ_STATE = 0 := (Dev.o_so_other (by decide) (by decide) (by decide)).trans h
  have hbank : (d.so O.JQ_RUN 0 1).o O.JQ_ACTIVE_BANK = d.o O.JQ_ACTIVE_BANK := Dev.o_so_other (by decide) (by decide) (by decide)
  unfold Dev.jqRun
  dsimp only
  rw [if_neg (by decide), hst, if_neg (by decide), hbank]
  cases r with
  | none => simp only [hr, Option.isNone_none, if_true]
  | some x => simp only [hr, Option.isNone_some, Bool.false_eq_true, if_false]

theorem Dev.landEl_jqRun (e : Env) (n : Nat) (d : Dev) (v : Nat) : d.landEl e n O.JQ_RUN 0 v = d.jqRun e v := rfl

/-- A device whose Jacquard is RUNNING. -/
def runningDev : Dev := { objs := [(okey O.JQ_STATE 0, 2)] }

/-- JQ_RUN's values each have an action of their own (Table 03-3). -/
theorem Dev.landEl_jqRun_acts (e : Env) (n : Nat) {v : Nat} (hv : v ≤ 2) : ∃ d, Dev.landEl e n d O.JQ_RUN 0 v ≠ d.so O.JQ_RUN 0 v := by
  obtain rfl | rfl | rfl : v = 0 ∨ v = 1 ∨ v = 2 := by omega
  · have hstop : (runningDev.jqRun e 0).jq.stopNow = true := rfl
    refine ⟨runningDev, fun h => ?_⟩
    rw [← Dev.landEl_jqRun e n, h] at hstop
    exact absurd hstop (by decide)
  · refine ⟨{}, fun h => ?_⟩
    obtain ⟨r, hr⟩ : ∃ r, (Dev.so {} O.JQ_RUN 0 1).bankCheck (Dev.o {} O.JQ_ACTIVE_BANK) = r := ⟨_, rfl⟩
    rw [Dev.landEl_jqRun, Dev.jqRun_start (by decide) hr] at h
    cases r with
    | none => exact absurd (congrArg (fun d => d.jq.decoding) h) (by rw [Dev.decoding_jqStart]; decide)
    | some x =>
      have hf := congrArg (fun d => d.o O.JQ_SWAP_FAULT_ENTRY) h
      simp only [Dev.bankFault, Option.getD_some, Dev.o_so_self] at hf
      exact Dev.bankCheck_ne (hr.trans (congrArg some (hf.trans (by decide))))
  · have hstate : (runningDev.jqRun e 2).o O.JQ_STATE = 3 := rfl
    refine ⟨runningDev, fun h => ?_⟩
    rw [← Dev.landEl_jqRun e n, h] at hstate
    exact absurd hstate (by decide)

theorem plain_rows : allRows (fun r => !(r.acc == .rw && r.cls == .now) ||
    (r.ty != .str && r.idx != O.JQ_SWAP_REQ && r.idx != O.SES_OPEN && r.idx != O.CAP_GDDR7_FOUND)) = true := by decide +kernel

/-- Settles O54: the value is put, and an answer moves counters alone. JQ_RUN, whose write first runs the bank check, has an action of
its own. -/
theorem plainWritesChangeOneElement : Obligations.PlainWritesChangeOneElement := by
  intro s h idx el v r hq hr hacc hdom hcls hel hidx hplain ha
  have hi := idx_of_rowOf? hr
  have hrow := prop_of_rowOf? plain_rows hr
  simp only [hacc, hcls, hi, beq_self_eq_true, Bool.and_self, Bool.not_true, Bool.false_or, Bool.and_eq_true, bne_iff_ne] at hrow
  obtain ⟨⟨⟨hstr, hswap⟩, hses⟩, hfound⟩ := hrow
  simp only [List.mem_cons, List.not_mem_nil, or_false, not_or] at hidx
  obtain ⟨hrep, hreq, hab, htx, hnote⟩ := hidx
  have hrun : idx ≠ O.JQ_RUN := by
    rintro rfl
    have hel0 : el = 0 := by
      have hhas := Dev.has_of_pres hr ha.2.2.1
      rw [show r = ⟨O.JQ_RUN, [(0, 0)], .enum8, .rw, .now, false, 0, [(0, 2)], 0, 0⟩ from (Option.some.inj hr).symm] at hhas
      simpa [ObjRow.has] using hhas
    have hv : v ≤ 2 := by
      have hrng := ha.2.2.2.2.1
      rw [show rowOr O.JQ_RUN = ⟨O.JQ_RUN, [(0, 0)], .enum8, .rw, .now, false, 0, [(0, 2)], 0, 0⟩ from rfl] at hrng
      simp [ObjRow.inRange, OTy.int] at hrng
      omega
    subst hel0
    obtain ⟨d, hd⟩ := Dev.landEl_jqRun_acts s.env h.sess hv
    exact hd (hplain d)
  have hw : s.landed h idx el v = ((s.atRequest h.sess).shadowOff (okey idx el)).so idx el v := hplain _
  have hcount : idx ∉ answerIdx := by simp [answerIdx, hreq, hab, htx, hnote]
  refine leads_writeNow (exec_write_one ..) ha hr (.inl (.inl hcls)) hel ⟨hdom, hstr⟩ (.inl hacc) ⟨hrun, hswap, hses, hrep⟩ ?_ ?_
    fun t ht => ⟨?_, fun i x hx hne hni => ?_, ?_, Dev.gByte_congr ?_ ?_ ?_ ?_, ?_, ?_, ht.clock⟩
  · rw [hw]; exact (congrArg Jq.settle (State.jq_atRequest ..)).trans hq.1
  · rw [hw]; exact (congrArg Pwr.rstDue (State.pwr_atRequest ..)).trans hq.2.1
  · rw [ht.o hcount hel, hw, Dev.o_so_self]
  · rw [ht.o hni hx, hw, Dev.o_so_ne hel hx hne]
    exact State.o_atRequest ..
  · rw [ht.gddr, hw, State.atRequest_eq]; rfl
  · rw [ht.gddr, hw, State.atRequest_eq]; rfl
  · rw [ht.mem, hw, State.atRequest_eq]; rfl
  · rw [ht.mem, hw, State.atRequest_eq]; rfl
  · rw [ht.o (by decide) (by decide), hw, Dev.o_so_ne hel (by decide) (.inl (Ne.symm hfound))]
    exact State.o_atRequest ..
  · rw [ht.doms, hw, State.atRequest_eq]; rfl
  · rw [ht.flash, hw, State.atRequest_eq]; rfl

end Sys2Proof.Machine
end

section
/-! PROOF. Block reads and block writes (chapter 02). -/

namespace Sys2Proof.Machine

/-! ### Bytes of DOM objects -/

theorem Dev.setDom_eq (d : Dev) (idx el off : Nat) (bs : Bytes) : d.setDom idx el off bs = { d with doms := (d.setDom idx el off bs).doms } := by
  cases bs <;> rfl

/-- Bytes written are read back; the others are as before. -/
theorem Dev.domByte_setDom {d : Dev} {idx el off : Nat} {bs : Bytes} (i : Nat) :
    (d.setDom idx el off bs).domByte idx el i =
      if off ≤ i ∧ i < off + bs.length then bs.getD (i - off) 0 else d.domByte idx el i := by
  induction bs generalizing off with
  | nil => rw [if_neg (by simp)]; rfl
  | cons b bs ih =>
    have hput : (d.setDom idx el off (b :: bs)).domByte idx el i =
        if i = off then b else (d.setDom idx el (off + 1) bs).domByte idx el i := by
      show tget (domDflt idx i) (tset (domDflt idx off) _ (dkey idx el off) b) (dkey idx el i) = _
      split
      next h => subst h; exact tget_tset_self ..
      next h => exact tget_tset_ne _ _ _ _ (by unfold dkey; omega)
    rw [hput, ih, List.length_cons]
    by_cases hi : i = off
    · subst hi
      rw [if_pos rfl, if_pos (by omega), Nat.sub_self]
      rfl
    · rw [if_neg hi]
      by_cases hin : off + 1 ≤ i ∧ i < off + 1 + bs.length
      · obtain ⟨k, hk⟩ : ∃ k, i - off = k + 1 := ⟨i - (off + 1), by omega⟩
        rw [if_pos hin, if_pos (by omega), hk, List.getD_cons_succ, show i - (off + 1) = k by omega]
      · rw [if_neg hin, if_neg (by omega)]

theorem length_domBytes (d : Dev) (idx el off n : Nat) : (d.domBytes idx el off n).length = n := by simp [Dev.domBytes]

theorem Dev.domBytes_congr {d d' : Dev} (h : d'.doms = d.doms) (idx el off n : Nat) : d'.domBytes idx el off n = d.domBytes idx el off n := by
  unfold Dev.domBytes Dev.domByte
  rw [h]

/-! ### Sessions that blocks are read and written in -/

@[simp] theorem Dev.ses_length_expire (e : Env) (d : Dev) (n : Nat) : (d.expire e n).ses.length = d.ses.length := by
  simp [Dev.expire]

@[simp] theorem Dev.ses_length_holdSnap (e : Env) (d : Dev) (n idx el : Nat) : (d.holdSnap e n idx el).ses.length = d.ses.length := by
  simp [Dev.holdSnap]

theorem Dev.expire_eq (e : Env) (d : Dev) (n : Nat) : d.expire e n = { d with ses := (d.expire e n).ses } := rfl
theorem Dev.holdSnap_eq (e : Env) (d : Dev) (n idx el : Nat) : d.holdSnap e n idx el = { d with ses := (d.holdSnap e n idx el).ses } := rfl

/-- A snapshot that is still held, and is of the object, is held on. -/
theorem Dev.snap_held {e : Env} {d : Dev} {n idx el : Nat} {x : Snap} (hn : n < d.ses.length) (hx : (d.sess n).snap = some x)
    (hlast : e.now < x.last + 15000000) (hidx : x.index = idx) (hel : x.element = el) :
    (((d.expire e n).holdSnap e n idx el).sess n).snap = some { x with last := e.now } := by
  have hexp : ((d.expire e n).sess n).snap = some x := by
    unfold Dev.expire
    rw [Dev.sess_setSess_self hn]
    simp [hx, hlast]
  unfold Dev.holdSnap
  rw [Dev.sess_setSess_self (by simpa using hn)]
  simp [hexp, hidx, hel]

theorem State.sess_lt {s : State} {h : Hdr} {idx : Nat} (hs : Served s h idx) : h.sess < (s.atRequest h.sess).ses.length := by
  rw [State.ses_atRequest, hs.2.1]
  exact Nat.lt_trans hs.1 (by decide)

/-! ### READ_BLOCK -/

/-- The object of a READ_BLOCK is looked up before its sessions are touched. -/
theorem Dev.opReadBlock_first {e : Env} {d : Dev} {m : GopMsg} {r : ObjRow} {bs : Bytes} {d' : Dev}
    (hrow : d.domRow e m.req.index m.req.element = .inr r) (hacc : r.acc ≠ .wo) (hcount : m.req.count = 0)
    (hsnap : ((d.expire e m.req.sess).holdSnap e m.req.sess m.req.index m.req.element).domSnap e m.req.index m.req.element = (some bs, d')) :
    d.opReadBlock e m = d'.blockOut e m.req.sess 0
      { index := m.req.index, element := m.req.element, data := bs, stamp := e.now, last := e.now } := by
  unfold Dev.opReadBlock
  dsimp only
  rw [hrow]
  dsimp only
  rw [if_neg hacc, if_pos (by simp [hcount]), hsnap]

theorem Dev.opReadBlock_next {e : Env} {d : Dev} {m : GopMsg} {r : ObjRow} {x : Snap}
    (hrow : d.domRow e m.req.index m.req.element = .inr r) (hacc : r.acc ≠ .wo) (hcount : m.req.count ≠ 0)
    (hsnap : (((d.expire e m.req.sess).holdSnap e m.req.sess m.req.index m.req.element).sess m.req.sess).snap = some x)
    (hidx : x.index = m.req.index) (hel : x.element = m.req.element) :
    d.opReadBlock e m =
      Dev.blockOut e ((d.expire e m.req.sess).holdSnap e m.req.sess m.req.index m.req.element) m.req.sess m.req.count x := by
  unfold Dev.opReadBlock
  dsimp only
  rw [hrow]
  dsimp only
  rw [if_neg hacc, if_neg (by simp [hcount]), hsnap]
  dsimp only
  rw [if_pos (by simp [hidx, hel])]

/-- The device with a session's snapshot replaced. -/
def Dev.setSnap (d : Dev) (n : Nat) (x : Option Snap) : Dev := d.setSess n { d.sess n with snap := x }

theorem Dev.blockOut_eq {e : Env} {d : Dev} {n k : Nat} {x : Snap} (hk : k ≤ (x.data.length - 1) / 512) :
    d.blockOut e n k x = (okAns x.stamp (leBytes 4 x.data.length ++ (x.data.drop (512 * k)).take 512),
      d.setSnap n (if k = (x.data.length - 1) / 512 then none else some x)) := by
  unfold Dev.blockOut
  dsimp only
  rw [if_neg (Nat.not_lt.mpr hk)]
  simp only [beq_iff_eq]
  rfl

section
variable {s : State} {q : Req}

/-- A READ_BLOCK that answers a block of a snapshot. -/
theorem leads_readBlock {x : Snap} {P : State → Prop} (d : Dev) (hq : s.Quiet) (hs : Served s (reqHdr q) q.index)
    (hop : Dev.opReadBlock s.env (s.atRequest q.sess) (opMsg 3 false false q) = d.blockOut s.env q.sess q.count x)
    (hk : q.count ≤ (x.data.length - 1) / 512) (hlen : d.ses.length = (s.atRequest q.sess).ses.length)
    (hjq : d.jq = s.dev.jq) (hpwr : d.pwr = s.dev.pwr)
    (hP : ∀ t, Answered s t (opMsg 3 false false q) (okAns x.stamp (leBytes 4 x.data.length ++ (x.data.drop (512 * q.count)).take 512)) →
      (t.dev.sess q.sess).snap = (if q.count = (x.data.length - 1) / 512 then none else some x) → P t) :
    Leads (.readBlock q) s P := by
  have hlt : q.sess < d.ses.length := hlen ▸ State.sess_lt hs
  refine leads_request (m := opMsg 3 false false q) (codes := []) _ rfl hs (.inr (by decide : (3 : Nat) ≠ 2))
    ((Dev.operate_readBlock false false (State.serviceAbort_atRequest hs)).trans (hop.trans (Dev.blockOut_eq hk)))
    ((congrArg Jq.settle hjq).trans hq.1) ((congrArg Pwr.rstDue hpwr).trans hq.2.1) fun t ht => hP t (ht.answered ?_) ?_
  · show q.sess < (Dev.setSess ..).ses.length
    rw [Dev.ses_length_setSess]
    exact hlt
  · rw [ht.sess]
    show ((Dev.setSess d q.sess _).sess q.sess).snap = _
    rw [Dev.sess_setSess_self hlt]

theorem fltLog_row (e : Env) (d : Dev) {idx el : Nat} (hidx : idx = O.FLT_LOG) (hel : el = 0) :
    d.domRow e idx el = .inr ⟨O.FLT_LOG, [(0, 0)], .dom, .ro, .now, false, 0, [], 0, 0⟩ := by
  subst hidx hel
  have hpres : d.pres e O.FLT_LOG 0 = .ok := by
    unfold Dev.pres
    cases e.part.variant <;> rfl
  unfold Dev.domRow Dev.presAbort
  simp only [runEls_one, List.map_cons, List.map_nil, hpres]
  rfl

theorem readBlock_snaps (hq : s.Quiet) (hs : Served s (reqHdr q) q.index) (hidx : q.index = O.FLT_LOG) (hel : q.element = 0)
    (hcount : q.count = 0) :
    Leads (.readBlock q) s (fun t =>
      Answered s t (opMsg 3 false false q) (okAns s.clock.time (leBytes 4 8192 ++ (s.dev.domBytes O.FLT_LOG 0 0 8192).take 512)) ∧
      (t.dev.sess q.sess).snap = some { index := q.index, element := 0, data := s.dev.domBytes O.FLT_LOG 0 0 8192,
                                        stamp := s.clock.time, last := s.clock.time }) := by
  obtain ⟨d, hd⟩ : ∃ d, d = ((s.atRequest q.sess).expire s.env q.sess).holdSnap s.env q.sess q.index q.element := ⟨_, rfl⟩
  have hdoms : d.doms = s.dev.doms := by
    rw [hd, Dev.holdSnap_eq, Dev.expire_eq, State.atRequest_eq]
  have hsnap : d.domSnap s.env q.index q.element = (some (s.dev.domBytes O.FLT_LOG 0 0 8192), d) := by
    rw [hidx, hel, ← Dev.domBytes_congr hdoms]
    rfl
  have hrow := fltLog_row s.env (s.atRequest q.sess) hidx hel
  have hop : Dev.opReadBlock s.env (s.atRequest q.sess) (opMsg 3 false false q) = d.blockOut s.env q.sess q.count
      ⟨q.index, q.element, s.dev.domBytes O.FLT_LOG 0 0 8192, s.env.now, s.env.now⟩ := by
    rw [hcount]
    exact Dev.opReadBlock_first (m := opMsg 3 false false q) hrow (show Acc.ro ≠ Acc.wo by decide) hcount (hd ▸ hsnap)
  refine leads_readBlock (x := ⟨q.index, q.element, s.dev.domBytes O.FLT_LOG 0 0 8192, s.env.now, s.env.now⟩) d hq hs hop (Nat.le_trans (Nat.le_of_eq hcount) (Nat.zero_le _)) ?_ ?_ ?_ fun t ha hsn => ⟨?_, ?_⟩
  · rw [hd, Dev.ses_length_holdSnap, Dev.ses_length_expire]
  · rw [hd, Dev.holdSnap_eq, Dev.expire_eq]; exact State.jq_atRequest ..
  · rw [hd, Dev.holdSnap_eq, Dev.expire_eq]; exact State.pwr_atRequest ..
  · simp only [length_domBytes, hcount, Nat.mul_zero, List.drop_zero] at ha
    exact ha
  · rw [hsn]
    simp only [length_domBytes, hcount, hel]
    rfl

theorem readBlock_continues {x : Snap} {r : ObjRow} (hq : s.Quiet) (hs : Served s (reqHdr q) q.index)
    (hrow : Dev.domRow s.env (s.atRequest q.sess) q.index q.element = .inr r) (hacc : r.acc ≠ .wo) (hcount : q.count ≠ 0)
    (hx : (s.dev.sess q.sess).snap = some x) (hlast : s.clock.time < x.last + 15000000) (hidx : x.index = q.index)
    (hel : x.element = q.element) (hk : q.count ≤ (x.data.length - 1) / 512) :
    Leads (.readBlock q) s (fun t =>
      Answered s t (opMsg 3 false false q) (okAns x.stamp (leBytes 4 x.data.length ++ (x.data.drop (512 * q.count)).take 512)) ∧
      (t.dev.sess q.sess).snap =
        if q.count = (x.data.length - 1) / 512 then none else some { x with last := s.clock.time }) := by
  have hheld := Dev.snap_held (e := s.env) (State.sess_lt hs) ((congrArg Ses.snap (State.sess_atRequest ..)).trans hx) hlast hidx hel
  obtain ⟨d, hd⟩ : ∃ d, d = ((s.atRequest q.sess).expire s.env q.sess).holdSnap s.env q.sess q.index q.element := ⟨_, rfl⟩
  have hop := Dev.opReadBlock_next (m := opMsg 3 false false q) hrow hacc hcount hheld hidx hel
  refine leads_readBlock (x := { x with last := s.env.now }) d hq hs (hd ▸ hop) hk ?_ ?_ ?_ fun t ha hsn => ⟨ha, hsn⟩
  · rw [hd, Dev.ses_length_holdSnap, Dev.ses_length_expire]
  · rw [hd, Dev.holdSnap_eq, Dev.expire_eq]; exact State.jq_atRequest ..
  · rw [hd, Dev.holdSnap_eq, Dev.expire_eq]; exact State.pwr_atRequest ..

end

/-! ### WRITE_BLOCK -/

theorem crc32Bits_lt {n c : Nat} (h : c < 2 ^ 32) : crc32Bits n c < 2 ^ 32 := by
  induction n generalizing c with
  | zero => exact h
  | succ n ih =>
    refine ih ?_
    unfold crc32Bit
    split
    · exact Nat.xor_lt_two_pow (by omega) (by decide)
    · omega

/-- The CRC has 32 bits. -/
theorem crc32_lt (bs : Bytes) : crc32 bs < 2 ^ 32 := by
  have h : ∀ (l : Bytes) (c : Nat), c < 2 ^ 32 → l.foldl (fun c b => crc32Bits 8 (c ^^^ b.toNat)) c < 2 ^ 32 := by
    intro l
    induction l with
    | nil => exact fun _ h => h
    | cons b l ih =>
      exact fun c hc => ih _ (crc32Bits_lt (Nat.xor_lt_two_pow hc (Nat.lt_trans b.isLt (by decide))))
  exact Nat.xor_lt_two_pow (h bs _ (by decide)) (by decide)

/-- What a WRITE_BLOCK of a whole object carries: its length, its bytes and their CRC (R145, R146). -/
def wholeBlock (bs : Bytes) : Bytes := leBytes 4 bs.length ++ bs ++ leBytes 4 (crc32 bs)

theorem wholeBlock_total {bs : Bytes} (h : bs.length < 2 ^ 32) : fieldAt (wholeBlock bs) 0 4 = bs.length := by
  unfold fieldAt wholeBlock
  rw [List.drop_zero, List.append_assoc, List.take_left' (length_leBytes ..)]
  exact leNat_leBytes h

theorem wholeBlock_body (bs : Bytes) : (wholeBlock bs).drop 4 = bs ++ leBytes 4 (crc32 bs) := by
  unfold wholeBlock
  rw [List.append_assoc, List.drop_left' (length_leBytes ..)]

theorem wholeBlock_crc (bs : Bytes) : leNat ((bs ++ leBytes 4 (crc32 bs)).drop bs.length) = crc32 bs := by
  rw [List.drop_left, leNat_leBytes (crc32_lt bs)]

/-- A block write of a whole object whose CRC matches is done. -/
theorem Dev.blockIn_whole {e : Env} {d : Dev} {q : Req} {r : ObjRow} {bs : Bytes} (hdata : q.data = wholeBlock bs)
    (hlen : bs.length ≤ 512) (hab : d.blockAbort r.idx q.element bs = none)
    (hdone : ((d.setBw q.sess none).domDone e q.sess r q.element bs).1.abort = none) :
    d.blockIn e q r ⟨q.index, q.element, bs.length, 0, [], e.now⟩ = (d.setBw q.sess none).domDone e q.sess r q.element bs := by
  have hlast : 512 * (0 + 1) ≥ bs.length := by omega
  have hwant : bs.length - 512 * 0 + 4 = bs.length + 4 := by omega
  have hbody : (bs ++ leBytes 4 (crc32 bs)).length = bs.length + 4 := by simp
  unfold Dev.blockIn
  dsimp only
  rw [hdata, wholeBlock_body]
  simp only [hlast, decide_true, hwant, hbody, if_true, Nat.add_sub_cancel, List.take_left, List.nil_append, wholeBlock_crc, hab,
    bne_self_eq_false, Bool.and_false, Bool.false_eq_true, if_false, hdone]

/-- The device as the first block of a block write finds it: its session's own gone (R950). -/
def Dev.bwFresh (e : Env) (d : Dev) (n : Nat) : Dev := (d.expire e n).setBw n none

/-- A block write of a whole object in one block is taken up. -/
theorem Dev.opWriteBlock_whole {e : Env} {d : Dev} {q : Req} {r : ObjRow} {bs : Bytes}
    (hrow : (d.bwFresh e q.sess).domRow e q.index q.element = .inr r) (hacc : ¬(r.acc = .const ∨ r.acc = .ro ∨ r.acc = .rc))
    (hlock : (d.bwFresh e q.sess).o O.LOCK_OWNER = 0xFF) (hsess : q.sess < 4)
    (hstop : r.stopped = true → (d.bwFresh e q.sess).running q.index q.element = false) (hcount : q.count = 0)
    (hdata : q.data = wholeBlock bs) (hlen : bs.length ≤ 512) (hok : domLenOk (d.bwFresh e q.sess) q.index bs.length = true) :
    d.opWriteBlock e (opMsg 4 false false q) =
      (d.bwFresh e q.sess).blockIn e q r ⟨q.index, q.element, bs.length, 0, [], e.now⟩ := by
  have harrive : d.bwArrive e q = d.bwFresh e q.sess := by
    unfold Dev.bwArrive
    exact if_pos (by simp [hcount])
  have hstg : (d.bwFresh e q.sess).stages q.sess q.index = false := by
    unfold Dev.stages
    rw [hlock, beq_eq_false_iff_ne.mpr (by omega : (0xFF : Nat) ≠ q.sess), Bool.false_and]
  have hout : (d.bwFresh e q.sess).lockedOut q.sess q.index = false := by
    unfold Dev.lockedOut
    rw [hlock]
    rfl
  have hfour : ¬ (wholeBlock bs).length < 4 := by simp [wholeBlock]
  have htotal : fieldAt q.data 0 4 = bs.length := hdata ▸ wholeBlock_total (by omega)
  have hrun : (!false && r.stopped && (d.bwFresh e q.sess).running q.index q.element) = false := by
    cases h : r.stopped
    · rfl
    · rw [hstop h]; rfl
  unfold Dev.opWriteBlock
  simp only [opMsg, harrive, hrow, if_neg hacc, hout, hstg, hcount, htotal]
  rw [if_neg Bool.false_ne_true, if_neg (by simp), hdata, if_neg hfour, hrun, if_neg Bool.false_ne_true, if_pos (by rfl), hok]
  rfl

theorem Dev.o_bwFresh (e : Env) (d : Dev) (n i el : Nat) : (d.bwFresh e n).o i el = d.o i el := rfl

theorem Dev.bwFresh_eq (e : Env) (d : Dev) (n : Nat) : d.bwFresh e n = { d with ses := (d.bwFresh e n).ses } := rfl

theorem Dev.setBw_eq (d : Dev) (n : Nat) (w : Option BlockWrite) : d.setBw n w = { d with ses := (d.setBw n w).ses } := rfl

@[simp] theorem Dev.ses_length_setBw (d : Dev) (n : Nat) (w : Option BlockWrite) : (d.setBw n w).ses.length = d.ses.length := by
  simp [Dev.setBw]

@[simp] theorem Dev.ses_length_bwFresh (e : Env) (d : Dev) (n : Nat) : (d.bwFresh e n).ses.length = d.ses.length := by
  simp [Dev.bwFresh]

theorem Dev.bw_setBw {d : Dev} {n : Nat} {w : Option BlockWrite} (h : n < d.ses.length) : ((d.setBw n w).sess n).bw = w := by
  unfold Dev.setBw
  rw [Dev.sess_setSess_self h]

theorem State.bwFresh_served {s : State} {h : Hdr} {idx : Nat} (hs : Served s h idx) :
    h.sess < ((s.atRequest h.sess).bwFresh s.env h.sess).ses.length := by
  rw [Dev.ses_length_bwFresh]
  exact State.sess_lt hs

/-- A block write of a whole object that lands at once: the write done, what it lands answered. -/
theorem leads_writeBlock {c : Instr} {s : State} {h : Hdr} {idx : Nat} {r : ObjRow} {bs : Bytes} {P : State → Prop} (d : Dev)
    (hc : exec c s = request (blockMsg 4 h idx 0 0 (wholeBlock bs)) [] s) (hs : Served s h idx)
    (hfree : s.dev.o O.LOCK_OWNER = 0xFF)
    (hrow : ((s.atRequest h.sess).bwFresh s.env h.sess).domRow s.env idx 0 = .inr r)
    (hacc : ¬(r.acc = .const ∨ r.acc = .ro ∨ r.acc = .rc))
    (hstop : r.stopped = true → ((s.atRequest h.sess).bwFresh s.env h.sess).running idx 0 = false) (hlen : bs.length ≤ 512)
    (hok : domLenOk ((s.atRequest h.sess).bwFresh s.env h.sess) idx bs.length = true)
    (hab : ((s.atRequest h.sess).bwFresh s.env h.sess).blockAbort r.idx 0 bs = none)
    (hdone : (((s.atRequest h.sess).bwFresh s.env h.sess).setBw h.sess none).domDone s.env h.sess r 0 bs = (okAns s.clock.time [], d))
    (hset : d.jq.settle = false) (hrst : d.pwr.rstDue = none)
    (hP : ∀ t, s.Replied d t → (∀ n, t.dev.sess n = { d.sess n with stored := (t.dev.sess n).stored, outq := (t.dev.sess n).outq }) → P t) :
    Leads c s P := by
  have hop : Dev.opWriteBlock s.env (s.atRequest h.sess) (opMsg 4 false false (reqTo h idx 0 0 (wholeBlock bs))) =
      (okAns s.clock.time [], d) :=
    (Dev.opWriteBlock_whole (q := reqTo h idx 0 0 (wholeBlock bs)) hrow hacc ((State.o_atRequest ..).trans hfree) hs.1 hstop rfl rfl
      hlen hok).trans ((Dev.blockIn_whole (q := reqTo h idx 0 0 (wholeBlock bs)) rfl hlen hab
        (congrArg (fun x => x.1.abort) hdone)).trans hdone)
  exact leads_request (m := blockMsg 4 h idx 0 0 (wholeBlock bs)) (codes := []) d hc hs (.inr (by decide : (4 : Nat) ≠ 2))
    ((Dev.operate_writeBlock false false (State.serviceAbort_atRequest hs)).trans hop) hset hrst fun t ht => hP t ht.toReplied ht.sess

theorem zoneMap_row (e : Env) (d : Dev) :
    d.domRow e O.EM_ZONE_MAP 0 = .inr ⟨O.EM_ZONE_MAP, [(0, 0)], .dom, .rws, .now, false, 0, [], 0, 0⟩ := by
  have hpres : d.pres e O.EM_ZONE_MAP 0 = .ok := by
    unfold Dev.pres
    cases e.part.variant <;> rfl
  unfold Dev.domRow Dev.presAbort
  simp only [runEls_one, List.map_cons, List.map_nil, hpres]
  rfl

theorem Dev.domDone_zoneMap {e : Env} {d : Dev} {n : Nat} {bs : Bytes} (hn : n < 4) (hfree : d.o O.LOCK_OWNER = 0xFF)
    (hcommit : d.commit = none) (hall : ∀ v, v < 128 → BitVec.ofNat 8 v ∈ bs) :
    d.domDone e n ⟨O.EM_ZONE_MAP, [(0, 0)], .dom, .rws, .now, false, 0, [], 0, 0⟩ 0 bs =
      (okAns e.now [], (d.clearDom O.EM_ZONE_MAP 0).setDom O.EM_ZONE_MAP 0 0 bs) := by
  have hab : d.domAbort e O.EM_ZONE_MAP bs = none := by
    have hmap : (List.range 128).all (fun v => bs.contains (BitVec.ofNat 8 v)) = true :=
      List.all_eq_true.mpr fun v hv => List.contains_iff_mem.mpr (hall v (List.mem_range.mp hv))
    unfold Dev.domAbort
    simp only [hmap, if_true]
    rfl
  have hstg : d.stages n O.EM_ZONE_MAP = false := by
    unfold Dev.stages
    rw [hfree, beq_eq_false_iff_ne.mpr (by omega : (0xFF : Nat) ≠ n), Bool.false_and]
  have hcom : d.inCommit (okey O.EM_ZONE_MAP 0) = false := by
    unfold Dev.inCommit
    rw [hcommit]
  unfold Dev.domDone
  simp only [hab, hstg, hcom]
  rfl

theorem Dev.running_zoneMap (d : Dev) (el : Nat) : d.running O.EM_ZONE_MAP el = (d.o O.JQ_STATE != 0) := rfl

theorem writeBlock_zoneMap {s : State} {h : Hdr} {bs : Bytes} (hq : s.Quiet) (hs : Served s h O.EM_ZONE_MAP)
    (hfree : s.dev.o O.LOCK_OWNER = 0xFF) (hcommit : s.dev.commit = none) (hjq : s.dev.o O.JQ_STATE = 0) (hlen : bs.length = 128)
    (hall : ∀ v, v < 128 → BitVec.ofNat 8 v ∈ bs) :
    Leads (.writeBlock (reqTo h O.EM_ZONE_MAP 0 0 (leBytes 4 128 ++ bs ++ leBytes 4 (crc32 bs)))) s (fun t =>
      (∀ i, i < 128 → t.dev.domByte O.EM_ZONE_MAP 0 i = bs.getD i 0) ∧ (t.dev.sess h.sess).bw = none) := by
  obtain ⟨d, hd⟩ : ∃ d, d = ((s.atRequest h.sess).bwFresh s.env h.sess).setBw h.sess none := ⟨_, rfl⟩
  have hfree' : d.o O.LOCK_OWNER = 0xFF := by
    rw [hd, Dev.setBw_eq, Dev.bwFresh_eq]
    exact (State.o_atRequest ..).trans hfree
  have hbw : (d.sess h.sess).bw = none := by
    rw [hd]
    exact Dev.bw_setBw (State.bwFresh_served hs)
  have hc : d.commit = none := by
    rw [hd, Dev.setBw_eq, Dev.bwFresh_eq]
    exact (State.commit_atRequest ..).trans hcommit
  refine leads_writeBlock (bs := bs) ((d.clearDom O.EM_ZONE_MAP 0).setDom O.EM_ZONE_MAP 0 0 bs) (by rw [wholeBlock, hlen]; rfl) hs hfree
    (zoneMap_row ..) (by decide) (fun _ => ?_) (by omega) (by rw [hlen]; rfl) rfl
    (by rw [← hd]; exact Dev.domDone_zoneMap hs.1 hfree' hc hall) ?_ ?_ fun t ht hsess => ⟨fun i hi => ?_, ?_⟩
  · rw [Dev.running_zoneMap, Dev.o_bwFresh, State.o_atRequest, hjq]
    rfl
  · rw [Dev.setDom_eq, Dev.jq_clearDom, hd, Dev.setBw_eq, Dev.bwFresh_eq]
    exact (congrArg Jq.settle (State.jq_atRequest ..)).trans hq.1
  · rw [Dev.setDom_eq, Dev.pwr_clearDom, hd, Dev.setBw_eq, Dev.bwFresh_eq]
    exact (congrArg Pwr.rstDue (State.pwr_atRequest ..)).trans hq.2.1
  · rw [Dev.domByte_congr ht.doms, Dev.domByte_setDom, if_pos (by omega), Nat.sub_zero]
  · rw [hsess, Dev.setDom_eq]
    exact hbw

/-- Settles O11: a snapshot is kept until its last block, and a block write of one block is done with it. -/
theorem blocksAreReadAndWritten : Obligations.BlocksAreReadAndWritten :=
  ⟨fun _ _ hq hs => ⟨fun hidx hel hcount => readBlock_snaps hq hs hidx hel hcount,
      fun _ _ hrow hacc hcount hx hlast hidx hel hk => readBlock_continues hq hs hrow hacc hcount hx hlast hidx hel hk⟩,
    fun _ _ _ hq hs hfree hcommit hjq hlen hall => writeBlock_zoneMap hq hs hfree hcommit hjq hlen hall⟩

end Sys2Proof.Machine
end

section
/-! PROOF. The lock, commits, and what runs out (chapter 02). -/

namespace Sys2Proof.Machine

section
variable {s : State} {q : Req}

/-- A served request of an operation that leaves session table and queue as they are. -/
theorem leads_operation {c : Instr} {op : Nat} {a : Ans} {P : State → Prop} (d : Dev)
    (hc : exec c s = request (opMsg op false false q) [] s) (hs : Served s (reqHdr q) q.index) (hop : op ≠ 2)
    (hd : (s.atRequest q.sess).operate s.env (opMsg op false false q) [] = (a, d)) (hset : d.jq.settle = false)
    (hrst : d.pwr.rstDue = none) (hP : ∀ t, s.Executed d (opMsg op false false q) a t → P t) : Leads c s P :=
  leads_request (m := opMsg op false false q) (codes := []) d hc hs (.inr hop) hd hset hrst hP

theorem settle_atRequest (hq : s.Quiet) (n : Nat) : (s.atRequest n).jq.settle = false :=
  (congrArg Jq.settle (State.jq_atRequest ..)).trans hq.1

theorem rstDue_atRequest (hq : s.Quiet) (n : Nat) : (s.atRequest n).pwr.rstDue = none :=
  (congrArg Pwr.rstDue (State.pwr_atRequest ..)).trans hq.2.1

/-! ### LOCK and ABORT_LOCK -/

theorem Dev.opLock_free {e : Env} {d : Dev} {n : Nat} (hfree : d.o O.LOCK_OWNER = 0xFF) (hcommit : d.commit = none) :
    d.opLock e n = (okAns e.now [], { d.so O.LOCK_OWNER 0 n with
      lock := { deadline := e.now + 1500000 * d.o O.LOCK_LEASE_MS, staged := {} } }) := by
  unfold Dev.opLock
  dsimp only
  rw [hcommit, if_neg (by decide), if_pos (by simp [hfree])]
  rfl

theorem lock_takes (hq : s.Quiet) (hs : Served s (reqHdr q) q.index) (hfree : s.dev.o O.LOCK_OWNER = 0xFF)
    (hcommit : s.dev.commit = none) :
    Leads (.lock q) s (fun t => t.dev.o O.LOCK_OWNER = q.sess ∧ t.dev.lock =
      { deadline := s.clock.time + 1500000 * s.dev.o O.LOCK_LEASE_MS, staged := {} }) := by
  have hop := Dev.opLock_free (e := s.env) (n := q.sess) ((State.o_atRequest s q.sess ..).trans hfree)
    ((State.commit_atRequest s q.sess).trans hcommit)
  refine leads_operation (op := 5) _ rfl hs (by decide)
    ((Dev.operate_lock false false (State.serviceAbort_atRequest hs)).trans hop) (settle_atRequest hq _) (rstDue_atRequest hq _)
    fun t ht => ⟨?_, ?_⟩
  · rw [ht.o (by decide) (by decide)]
    exact Dev.o_so_self ..
  · rw [ht.lock, ← State.o_atRequest s q.sess]
    rfl

theorem Dev.o_freeLock_owner (d : Dev) : d.freeLock.o O.LOCK_OWNER = 0xFF := by
  rw [Dev.o_congr (show d.freeLock.objs = (d.so O.LOCK_OWNER 0 0xFF).objs from rfl), Dev.o_so_self]

theorem Dev.o_freeLock {d : Dev} {i el : Nat} (hi : i ≠ O.LOCK_OWNER) (hel : el < 4096) : d.freeLock.o i el = d.o i el := by
  rw [Dev.o_congr (show d.freeLock.objs = (d.so O.LOCK_OWNER 0 0xFF).objs from rfl), Dev.o_so_other hi (by decide) hel]

theorem Dev.opAbortLock_owner {e : Env} {d : Dev} {n : Nat} (h : d.o O.LOCK_OWNER = n) :
    d.opAbortLock e n = (okAns e.now [], d.freeLock) := by
  unfold Dev.opAbortLock
  rw [if_pos (by simp [h])]
  rfl

theorem abortLock_frees (hq : s.Quiet) (hs : Served s (reqHdr q) q.index) (hown : s.dev.o O.LOCK_OWNER = q.sess) :
    Leads (.abortLock q) s (fun t => t.dev.o O.LOCK_OWNER = 0xFF ∧ t.dev.lock = {}) := by
  have hop := Dev.opAbortLock_owner (e := s.env) ((State.o_atRequest s q.sess ..).trans hown)
  refine leads_operation (op := 7) _ rfl hs (by decide)
    ((Dev.operate_abortLock false false (State.serviceAbort_atRequest hs)).trans hop) (settle_atRequest hq _) (rstDue_atRequest hq _)
    fun t ht => ⟨?_, ?_⟩
  · rw [ht.o (by decide) (by decide), Dev.o_freeLock_owner]
  · rw [ht.lock]
    rfl

/-! ### COMMIT -/

/-- The device with the lock freed and its staged set committed in a class. -/
def Dev.afterCommit (d : Dev) (n : Nat) (c : Cls) : Dev :=
  { d.freeLock with commit := some { cls := c, sess := n, set := d.lock.staged } }

theorem Dev.opCommit_owner {e : Env} {d : Dev} {n : Nat} (hown : d.o O.LOCK_OWNER = n)
    (hstop : ∀ k, (k ∈ d.lock.staged.vals.map Prod.fst ∨ k ∈ d.lock.staged.doms.map Prod.fst) → d.stagedRuns k = false)
    {c : Cls} (hc : (if d.o O.JQ_STATE == 0 then .now else d.lock.staged.cls) = c) :
    d.opCommit e n = (okAns e.now (leBytes 1 c.code),
      if c = .now then (d.afterCommit n c).landCommit e else (d.afterCommit n c).dropBankWrites) := by
  have hv : (d.lock.staged.vals.any fun p => d.stagedRuns p.1) = false :=
    List.any_eq_false.mpr fun p hp => by rw [hstop p.1 (.inl (List.mem_map_of_mem hp))]; decide
  have hdm : (d.lock.staged.doms.any fun p => d.stagedRuns p.1) = false :=
    List.any_eq_false.mpr fun p hp => by rw [hstop p.1 (.inr (List.mem_map_of_mem hp))]; decide
  unfold Dev.opCommit
  dsimp only
  rw [if_neg (by simp [hown]), hv, hdm, if_neg (by decide), hc]
  rfl

theorem State.stagedRuns_atRequest (n k : Nat) : (s.atRequest n).stagedRuns k = s.dev.stagedRuns k := by
  rw [State.atRequest_eq]
  rfl

theorem commit_waits (hq : s.Quiet) (hs : Served s (reqHdr q) q.index) (hown : s.dev.o O.LOCK_OWNER = q.sess)
    (hjq : s.dev.o O.JQ_STATE ≠ 0) (hcls : s.dev.lock.staged.cls ≠ .now)
    (hstop : (s.dev.lock.staged.vals.all (fun p => !s.dev.stagedRuns p.1) &&
      s.dev.lock.staged.doms.all (fun p => !s.dev.stagedRuns p.1)) = true) :
    Leads (.commit q) s (fun t => t.dev.o O.LOCK_OWNER = 0xFF ∧ t.dev.lock = {} ∧
      t.dev.commit = some { cls := s.dev.lock.staged.cls, sess := q.sess, set := s.dev.lock.staged } ∧
      Answered s t (opMsg 6 false false q) (okAns s.clock.time (leBytes 1 s.dev.lock.staged.cls.code))) := by
  have hstg : (s.atRequest q.sess).lock.staged = s.dev.lock.staged := State.lock_staged_atRequest ..
  simp only [Bool.and_eq_true, List.all_eq_true, Bool.not_eq_true'] at hstop
  obtain ⟨hvals, hdoms⟩ := hstop
  have hop := Dev.opCommit_owner (e := s.env) (c := s.dev.lock.staged.cls) ((State.o_atRequest s q.sess ..).trans hown)
    (fun k hk => by
      rw [State.stagedRuns_atRequest]
      rw [hstg] at hk
      rcases hk with hk | hk
      · obtain ⟨p, hp, rfl⟩ := List.mem_map.mp hk
        exact hvals p hp
      · obtain ⟨p, hp, rfl⟩ := List.mem_map.mp hk
        exact hdoms p hp)
    (by rw [State.o_atRequest, hstg, if_neg (by simpa using hjq)])
  rw [if_neg hcls, Dev.dropBankWrites_eq] at hop
  refine leads_operation (op := 6) _ rfl hs (by decide)
    ((Dev.operate_commit false false (State.serviceAbort_atRequest hs)).trans hop) (settle_atRequest hq _) (rstDue_atRequest hq _)
    fun t ht => ⟨?_, ?_, ?_, ht.answered ?_⟩
  · rw [ht.o (by decide) (by decide)]
    exact Dev.o_freeLock_owner (s.atRequest q.sess)
  · rw [ht.lock]
    rfl
  · rw [ht.commit, ← hstg]
    rfl
  · show q.sess < (Dev.dropBankWrites _).ses.length
    have hlen : ∀ d : Dev, d.dropBankWrites.ses.length = d.ses.length := by
      intro d
      unfold Dev.dropBankWrites
      dsimp only
      split
      · rfl
      · exact List.length_map ..
    rw [hlen]
    exact State.sess_lt hs

/-- A set of one value that no command is, of an object that no condition holds back, lands as the value. -/
theorem Dev.landSet_one {e : Env} {n : Nat} {d : Dev} {idx el v : Nat} (hel : el < 4096) (hi : idx ≠ O.RX_REPAIR)
    (hcmd : isCommand idx = false) (hbusy : d.busy e idx el v = none) :
    d.landSet e n [(okey idx el, some v)] [] = (d.shadowOff (okey idx el)).landEl e n idx el v := by
  have hk : okey idx el / 4096 = idx := by unfold okey; omega
  unfold Dev.landSet
  simp only [List.filter_cons, List.filter_nil, hk, hcmd, Bool.not_false, if_true, Bool.false_eq_true, if_false, List.foldl_cons,
    List.foldl_nil]
  exact Dev.landKey_lands hel hi hbusy

theorem commit_lands {el v : Nat} (hq : s.Quiet) (hs : Served s (reqHdr q) q.index) (hown : s.dev.o O.LOCK_OWNER = q.sess)
    (hjq : s.dev.o O.JQ_STATE = 0) (hel : el < 128) (hset : s.dev.lock.staged = { vals := [(okey O.EM_LEVEL_SET el, some v)] }) :
    Leads (.commit q) s (fun t => t.dev.o O.LOCK_OWNER = 0xFF ∧ t.dev.commit = none ∧
      t.dev.o O.EM_LEVEL_SET el = v ∧ t.dev.o O.COMMIT_LANDED_TIME = s.clock.time) := by
  have hstg : (s.atRequest q.sess).lock.staged = { vals := [(okey O.EM_LEVEL_SET el, some v)] } :=
    (State.lock_staged_atRequest ..).trans hset
  have hrow : ∃ r, rowOf? (okey O.EM_LEVEL_SET el / 4096) = some r ∧ r.stopped = false := by
    rw [show okey O.EM_LEVEL_SET el / 4096 = O.EM_LEVEL_SET by unfold okey; omega]
    exact ⟨_, rfl, rfl⟩
  have hop := Dev.opCommit_owner (e := s.env) (c := .now) ((State.o_atRequest s q.sess ..).trans hown)
    (fun k hk => by
      rw [hstg] at hk
      obtain rfl : k = okey O.EM_LEVEL_SET el := by simpa using hk
      obtain ⟨r, hr, hstop⟩ := hrow
      simp only [Dev.stagedRuns, hr, hstop, Bool.false_and])
    (by rw [State.o_atRequest, hjq]; rfl)
  obtain ⟨d, hd⟩ : ∃ d, d = Dev.so { (s.atRequest q.sess).afterCommit q.sess .now with commit := none } O.COMMIT_LANDED_TIME 0 s.env.now :=
    ⟨_, rfl⟩
  have hland : ((s.atRequest q.sess).afterCommit q.sess .now).landCommit s.env =
      (d.shadowOff (okey O.EM_LEVEL_SET el)).so O.EM_LEVEL_SET el v := by
    have hone := Dev.landSet_one (e := s.env) (n := q.sess) (d := d) (idx := O.EM_LEVEL_SET) (el := el) (v := v) (by omega) (by decide) rfl rfl
    rw [Dev.landEl_levelSet] at hone
    rw [← hone, hd]
    show Dev.landSet s.env q.sess _ (s.atRequest q.sess).lock.staged.vals (s.atRequest q.sess).lock.staged.doms = _
    rw [hstg]
  rw [if_pos rfl, hland] at hop
  refine leads_operation (op := 6) _ rfl hs (by decide)
    ((Dev.operate_commit false false (State.serviceAbort_atRequest hs)).trans hop) ?_ ?_ fun t ht => ⟨?_, ?_, ?_, ?_⟩
  · rw [hd]; exact settle_atRequest hq _
  · rw [hd]; exact rstDue_atRequest hq _
  · rw [ht.o (by decide) (by decide), Dev.o_so_other (by decide) (by omega) (by decide), Dev.o_shadowOff, hd,
      Dev.o_so_other (by decide) (by decide) (by decide)]
    exact Dev.o_freeLock_owner (s.atRequest q.sess)
  · rw [ht.commit, hd]; rfl
  · rw [ht.o (by decide) (by omega), Dev.o_so_self]
  · rw [ht.o (by decide) (by decide), Dev.o_so_other (by decide) (by omega) (by decide), Dev.o_shadowOff, hd, Dev.o_so_self]
    rfl

end

/-! ### What runs out -/

theorem Dev.loseLock_keeps (e : Env) (d : Dev) :
    (d.loseLock e).o O.LOCK_OWNER = 0xFF ∧ (d.loseLock e).lock = {} ∧
      (d.loseLock e).o O.LOCK_LOST = ctrAdd O.LOCK_LOST 0 (d.o O.LOCK_LOST) 1 ∧ (d.loseLock e).jq = d.jq ∧ (d.loseLock e).pwr = d.pwr ∧
      (d.loseLock e).ses = d.ses := by
  unfold Dev.loseLock
  dsimp only
  refine ⟨?_, ?_, ?_, ?_, ?_, ?_⟩
  · rw [Dev.o_log_other (by decide) (by decide), Dev.o_inc_other (by decide) (by decide) (by decide), Dev.o_freeLock_owner]
  · rw [Dev.lock_log]; rfl
  · rw [Dev.o_log_other (by decide) (by decide), Dev.o_inc_self, Dev.o_freeLock (by decide) (by decide)]
  · rw [Dev.jq_log]; rfl
  · rw [Dev.pwr_log]; rfl
  · rw [Dev.ses_log]; rfl

section
variable {s : State}

theorem leaseExpiry_loses (hq : s.Quiet) (hown : s.dev.o O.LOCK_OWNER ≠ 0xFF) (hdue : s.dev.lock.deadline ≤ s.clock.time) :
    Leads .lockLeaseExpiry s (fun t => t.dev.o O.LOCK_OWNER = 0xFF ∧ t.dev.lock = {} ∧
      t.dev.o O.LOCK_LOST = ctrAdd O.LOCK_LOST 0 (s.dev.o O.LOCK_LOST) 1) := by
  obtain ⟨howner, hlock, hlost, hjq, hpwr, -⟩ := s.begun.loseLock_keeps s.env
  have hrun : s.begun.leaseExpiry s.env = s.begun.loseLock s.env := by
    unfold Dev.leaseExpiry
    exact if_pos (by simp only [State.o_begun, State.lock_begun, Bool.and_eq_true, bne_iff_ne]; exact ⟨hown, decide_eq_true hdue⟩)
  refine leads_ends (f := fun e d => d.leaseExpiry e) _ hq rfl hrun ((congrArg Jq.settle hjq).trans hq.1)
    ((congrArg Pwr.rstDue hpwr).trans hq.2.1) fun t ht => ⟨?_, ?_, ?_⟩
  · rw [ht.o, howner]
  · rw [ht.lock, hlock]
  · rw [ht.o, hlost, State.o_begun]

theorem tagExpiry_filters (hq : s.Quiet) (hlen : s.dev.ses.length = 5) {n : Nat} (tag : Nat) (hn : n < 5) :
    Leads (.tagStoreExpiry n tag) s (fun t => ∀ x, x ∈ (t.dev.sess n).stored ↔
      x ∈ (s.dev.sess n).stored ∧ (reqTag x.msg.req ≠ tag ∨ s.clock.time < x.time + 150000000)) := by
  refine leads_ends (f := fun e d => d.tagExpiry e n tag) (s.begun.tagExpiry s.env n tag) hq rfl rfl hq.1 hq.2.1 fun t ht x => ?_
  rw [ht.sess]
  unfold Dev.tagExpiry
  rw [Dev.sess_setSess_self (by rw [State.ses_begun, hlen]; exact hn)]
  simp only [List.mem_filter, Bool.or_eq_true, bne_iff_ne, decide_eq_true_eq]
  exact Iff.rfl

theorem Dev.sess_expire {e : Env} {d : Dev} {n : Nat} (hn : n < d.ses.length) :
    (d.expire e n).sess n = { d.sess n with
      snap := (d.sess n).snap.filter (fun (x : Snap) => e.now < x.last + 15000000)
      bw := (d.sess n).bw.filter (fun (w : BlockWrite) => e.now < w.last + 15000000) } := by
  unfold Dev.expire
  rw [Dev.sess_setSess_self hn]

theorem snapshot_lapses (hq : s.Quiet) (hlen : s.dev.ses.length = 5) {n : Nat} {x : Snap} (hn : n < 5)
    (hx : (s.dev.sess n).snap = some x) (hdue : x.last + 15000000 ≤ s.clock.time) :
    Leads (.snapshotExpiry n) s (fun t => (t.dev.sess n).snap = none) := by
  refine leads_ends (f := fun e d => d.expire e n) (s.begun.expire s.env n) hq rfl rfl hq.1 hq.2.1 fun t ht => ?_
  have hold : ¬ s.clock.time < x.last + 15000000 := Nat.not_lt.mpr hdue
  rw [ht.sess, Dev.sess_expire (by rw [State.ses_begun, hlen]; exact hn), State.sess_begun, hx]
  simp [Option.filter, hold]

theorem blockWrite_lapses (hq : s.Quiet) (hlen : s.dev.ses.length = 5) {n : Nat} {w : BlockWrite} (hn : n < 5)
    (hw : (s.dev.sess n).bw = some w) (hdue : w.last + 15000000 ≤ s.clock.time) :
    Leads (.blockWriteTimeout n) s (fun t => (t.dev.sess n).bw = none ∧ t.dev.doms = s.dev.doms) := by
  refine leads_ends (f := fun e d => d.expire e n) (s.begun.expire s.env n) hq rfl rfl hq.1 hq.2.1 fun t ht => ⟨?_, ht.doms⟩
  have hold : ¬ s.clock.time < w.last + 15000000 := Nat.not_lt.mpr hdue
  rw [ht.sess, Dev.sess_expire (by rw [State.ses_begun, hlen]; exact hn), State.sess_begun, hw]
  simp [Option.filter, hold]

end

/-- Settles O12: the lock's operations by what the owner and Jacquard's state allow, and the leases by their ages. -/
theorem locksCommitsAndLeases : Obligations.LocksCommitsAndLeases :=
  ⟨fun _ _ hq hs => ⟨fun hfree hcommit => lock_takes hq hs hfree hcommit, fun hown => abortLock_frees hq hs hown,
      fun hown hjq hcls hstop => commit_waits hq hs hown hjq hcls hstop,
      fun _ _ hown hjq hel hset => commit_lands hq hs hown hjq hel hset⟩,
    fun _ hq hlen => ⟨fun hown hdue => leaseExpiry_loses hq hown hdue, fun _ tag hn => tagExpiry_filters hq hlen tag hn,
      fun _ _ hn hx hdue => snapshot_lapses hq hlen hn hx hdue, fun _ _ hn hw hdue => blockWrite_lapses hq hlen hn hw hdue⟩⟩

end Sys2Proof.Machine
end

section
/-! PROOF. Sessions, subscriptions and notifications, and duplicates (chapter 02). -/

namespace Sys2Proof.Machine

/-! ### Commands and the marks of subscriptions -/

/-- A quiet command ends in its effect with the changed runs marked. -/
theorem leads_marked {c : Instr} {f : Env → Dev → Dev} {s : State} {P : State → Prop} (d : Dev) (hb : s.Still)
    (hc : exec c s = run f s) (hd : f s.env s.begun = d) (hs : d.jq.settle = false) (hr : d.pwr.rstDue = none)
    (hP : P { s with dev := d.markSubs s.env }) : Leads c s P := by
  refine ⟨_, hc.trans ?_, hP⟩
  rw [run_next, begin_still hb, show f s.env { s.dev with sent := [] } = d from hd, finish_quiet hs hr]

/-- A served request ends in what its operation leaves, answered, with the changed runs marked. -/
theorem leads_request_marked {c : Instr} {s : State} {m : GopMsg} {codes : List Int} {a : Ans} {P : State → Prop} (d : Dev)
    (hc : exec c s = request m codes s) (hs : Served s (reqHdr m.req) m.req.index) (hop : m.req.index ≠ O.SES_OPEN ∨ m.op ≠ 2)
    (hd : (s.atRequest m.req.sess).operate s.env m codes = (a, d)) (hset : d.jq.settle = false) (hrst : d.pwr.rstDue = none)
    (hP : ∀ d', SentFrom d d' → P { s with dev := d'.markSubs s.env }) : Leads c s P := by
  have h4 : m.req.sess < 4096 := Nat.lt_trans hs.1 (by decide)
  have sf := SentFrom.answer (e := s.env) (d0 := s.atRequest m.req.sess) (d := d) (m := m) (a := a) h4
  have hrun : Dev.gopRun s.env s.begun m codes = Dev.answer s.env (s.atRequest m.req.sess) d m a := by
    have h := gopRun_served (codes := codes) hs ⟨rfl, rfl, rfl⟩ hop
    rw [show (reqHdr m.req).sess = m.req.sess from rfl, hd] at h
    exact h
  refine leads_marked (f := fun e d => d.gopRun e m codes) _ hs.2.2.2.2.2.2.2.2.2 hc hrun ?_ ?_ (hP _ sf)
  · rw [sf.rest]; exact hset
  · rw [sf.rest]; exact hrst

theorem Dev.subs_markSubs (e : Env) (d : Dev) : (d.markSubs e).subs = d.subs.map (d.markSub e) := rfl

/-- A mark changes what a subscription has seen and whether a change waits. -/
theorem Dev.markSub_eq (e : Env) (d : Dev) (x : Sub) : ∃ b v, d.markSub e x = { x with dirty := b, seen := v } := by
  unfold Dev.markSub
  split
  · exact ⟨_, _, rfl⟩
  · exact ⟨_, _, rfl⟩

theorem SentFrom.subs {d d' : Dev} (h : SentFrom d d') : d'.subs = d.subs := by rw [h.rest]

theorem State.subs_atRequest (s : State) (n : Nat) : (s.atRequest n).subs = s.dev.subs := by rw [State.atRequest_eq]

/-! ### SUBSCRIBE -/

/-- What a SUBSCRIBE enters or replaces. -/
theorem Dev.subscribe_enters {e : Env} {d : Dev} {q : Req} {m p : Nat} (hm : m ∈ [1, 2, 3]) (h1 : 1 ≤ p) (hp : p ≤ 60000)
    (hroom : (d.subs.filter (fun x => x.sess == q.sess)).length < 64) :
    ∃ l, d.subscribe e q m p = (okAns e.now [], { d with subs := l }) ∧ ∃ x ∈ l, x.of q.sess q.index q.element q.count = true ∧ x.mode = m ∧
      x.period = p ∧ x.due = e.now + 1500000 * p := by
  have hm0 : ¬(m == 0) = true := by
    simp only [List.mem_cons, List.not_mem_nil, or_false] at hm
    simp; omega
  have hm3 : ¬(3 < m || (1 < m && (p == 0 || 60000 < p))) = true := by
    simp only [List.mem_cons, List.not_mem_nil, or_false] at hm
    simp; omega
  unfold Dev.subscribe
  dsimp only
  rw [if_neg hm0, if_neg hm3, if_neg (by simp; intro; omega)]
  refine ⟨_, rfl, ?_⟩
  split
  next hold =>
    obtain ⟨y, hy, hof⟩ := List.any_eq_true.mp hold
    refine ⟨_, List.mem_map_of_mem hy, ?_⟩
    rw [if_pos hof]
    exact ⟨by simp [Sub.of], rfl, rfl, rfl⟩
  next =>
    refine ⟨_, List.mem_append_right _ (List.mem_singleton_self _), ?_⟩
    exact ⟨by simp [Sub.of], rfl, rfl, rfl⟩

theorem subscribeData_mode {m p : Nat} (hm : m < 256) : byteAt (leBytes 1 m ++ leBytes 1 0 ++ leBytes 2 p) 0 = m := by
  simp [byteAt, leBytes]
  omega

theorem subscribeData_period {m p : Nat} (hp : p < 65536) : fieldAt (leBytes 1 m ++ leBytes 1 0 ++ leBytes 2 p) 2 2 = p := by
  unfold fieldAt
  rw [List.drop_left' (by simp), List.take_of_length_le (by simp)]
  exact leNat_leBytes hp

theorem Dev.opSubscribe_run {e : Env} {d : Dev} {m : GopMsg} {r : ObjRow} (hr : rowOf? m.req.index = some r)
    (hchk : d.runCheck e r m.req.element m.req.count = none) (hacc : r.acc ≠ .wo) (hlen : m.req.data.length = 4) :
    d.opSubscribe e m = d.subscribe e m.req (byteAt m.req.data 0) (fieldAt m.req.data 2 2) := by
  unfold Dev.opSubscribe
  dsimp only
  rw [hr]
  dsimp only
  rw [hchk]
  dsimp only
  rw [if_neg hacc, if_neg (by simp [hlen])]

section
variable {s : State} {q : Req}

theorem subscribe_enters {r : ObjRow} {m p : Nat} (hq : s.Quiet) (hs : Served s (reqHdr q) q.index) (hr : rowOf? q.index = some r)
    (hchk : (s.atRequest q.sess).runCheck s.env r q.element q.count = none) (hacc : r.acc ≠ .wo) (hm : m ∈ [1, 2, 3]) (h1 : 1 ≤ p)
    (hp : p ≤ 60000) (hdata : q.data = leBytes 1 m ++ leBytes 1 0 ++ leBytes 2 p)
    (hroom : (s.dev.subs.filter (fun x => x.sess == q.sess)).length < 64) :
    Leads (.subscribe q) s (fun t => ∃ x ∈ t.dev.subs, x.of q.sess q.index q.element q.count = true ∧ x.mode = m ∧
      x.period = p ∧ x.due = s.clock.time + 1500000 * p) := by
  have hmode : byteAt q.data 0 = m := hdata ▸ subscribeData_mode (by simp at hm; omega)
  have hperiod : fieldAt q.data 2 2 = p := hdata ▸ subscribeData_period (by omega)
  obtain ⟨l, hsub, x, hx, hof, hxm, hxp, hxd⟩ := Dev.subscribe_enters (e := s.env) (d := s.atRequest q.sess) (q := q) hm h1 hp
    ((congrArg (fun l => (List.filter (fun x : Sub => x.sess == q.sess) l).length) (State.subs_atRequest ..)).trans_lt hroom)
  have hop : Dev.opSubscribe s.env (s.atRequest q.sess) (opMsg 8 false false q) = (okAns s.env.now [], { s.atRequest q.sess with subs := l }) := by
    refine (Dev.opSubscribe_run (m := opMsg 8 false false q) hr hchk hacc (by rw [show (opMsg 8 false false q).req = q from rfl, hdata]; simp)).trans ?_
    show Dev.subscribe s.env (s.atRequest q.sess) q (byteAt q.data 0) (fieldAt q.data 2 2) = _
    rw [hmode, hperiod, hsub]
  refine leads_request_marked (m := opMsg 8 false false q) (codes := []) _ rfl hs (.inr (by decide : (8 : Nat) ≠ 2))
    ((Dev.operate_subscribe false false (State.serviceAbort_atRequest hs)).trans hop) (settle_atRequest hq _) (rstDue_atRequest hq _)
    fun d' hsent => ?_
  obtain ⟨b, v, hmark⟩ := d'.markSub_eq s.env x
  refine ⟨d'.markSub s.env x, ?_, ?_⟩
  · show _ ∈ (d'.markSubs s.env).subs
    rw [Dev.subs_markSubs, hsent.subs]
    exact List.mem_map_of_mem hx
  · rw [hmark]
    exact ⟨hof, hxm, hxp, hxd⟩

/-! ### Unknown operations -/

theorem Dev.operate_unknown {e : Env} {d : Dev} {op : Nat} {codes : List Int} (h : d.serviceAbort q.sess q.index = none)
    (hop : op ∉ [1, 2, 3, 4, 5, 6, 7, 8]) : d.operate e (opMsg op false false q) codes = (refuse (3, 3), d) := by
  rw [Dev.operate_eq (m := opMsg op false false q) h]
  simp only [List.mem_cons, List.not_mem_nil, or_false, not_or] at hop
  obtain ⟨h1, h2, h3, h4, h5, h6, h7, h8⟩ := hop
  simp only [opMsg, beq_iff_eq, h1, h2, h3, h4, h5, h6, h7, h8, if_false]

theorem exec_gopBadOp (op : Nat) (q : Req) (s : State) : exec (.gopBadOp op q) s = request (opMsg (op % 16) false false q) [] s := rfl

theorem badOp_refused {op : Nat} (hq : s.Quiet) (hop : op % 16 ∉ [1, 2, 3, 4, 5, 6, 7, 8]) (hs : Served s (reqHdr q) q.index) :
    Leads (.gopBadOp op q) s (fun t => Answered s t (opMsg (op % 16) false false q) (refuse (3, 3))) := by
  have hne : op % 16 ≠ 2 := fun h => hop (by rw [h]; decide)
  exact leads_operation (s.atRequest q.sess) (exec_gopBadOp op q s) hs hne
    (Dev.operate_unknown (State.serviceAbort_atRequest (h := reqHdr q) hs) hop) (settle_atRequest hq _)
    (rstDue_atRequest hq _) fun _ ht => ht.answered (State.sess_lt hs)

/-! ### SES_OPEN -/

/-- The device with a session opened afresh (R113 to R115). -/
def Dev.opened (d : Dev) (n : Nat) : Dev :=
  let d1 := d.so O.SES_EPOCH n ((d.o O.SES_EPOCH n + 1) % 4)
  let d2 := { d1 with subs := d1.subs.filter (fun x => x.sess != n) }
  let d3 := d2.setSess n { d2.sess n with stored := [], snap := none, bw := none, revoked := none }
  if d3.o O.LOCK_OWNER == n then d3.freeLock else d3

theorem sesOpen_row : rowOf? O.SES_OPEN = some ⟨O.SES_OPEN, [(0, 3)], .u8, .wo, .now, false, 0, [], 0, 0⟩ := rfl

theorem Dev.pres_sesOpen (e : Env) (d : Dev) {n : Nat} (hn : n < 4) : d.pres e O.SES_OPEN n = .ok := by
  have hhas : ObjRow.has ⟨O.SES_OPEN, [(0, 3)], .u8, .wo, .now, false, 0, [], 0, 0⟩ n = true := by
    simp [ObjRow.has]; omega
  have h5122 : absent5122 ⟨O.SES_OPEN, [(0, 3)], .u8, .wo, .now, false, 0, [], 0, 0⟩ n = false := rfl
  have hmod : moduleSet O.SES_OPEN n = false := rfl
  unfold Dev.pres
  rw [sesOpen_row]
  simp only [hhas, h5122, hmod]
  cases e.part.variant <;> rfl

theorem Dev.opSesOpen_eq {e : Env} {d : Dev} {q : Req} (hn : q.sess < 4) (hserv : d.serviceAbort q.sess O.SES_OPEN = none)
    (hel : q.element = q.sess) (hcount : q.count = 1) (hdata : q.data.length = 1) :
    d.opSesOpen e q = (okAns e.now [], d.opened q.sess) := by
  have hpres : d.presAbort e O.SES_OPEN q.sess 1 = none := by
    unfold Dev.presAbort
    simp only [runEls_one, List.map_cons, List.map_nil, Dev.pres_sesOpen e d hn]
    rfl
  have hchk : d.runCheck e ⟨O.SES_OPEN, [(0, 3)], .u8, .wo, .now, false, 0, [], 0, 0⟩ q.sess 1 = none := by
    unfold Dev.runCheck Dev.firstAbsent
    simp only [hpres, Option.filter_none, Option.isSome_none, Bool.false_eq_true, if_false]
    rw [if_neg (by decide), if_neg (by simp [ObjRow.width, OTy.bytes]; omega)]
  unfold Dev.opSesOpen
  rw [sesOpen_row]
  dsimp only
  rw [hserv]
  dsimp only
  rw [hel, hcount, hchk]
  dsimp only
  rw [if_neg (by simp), if_neg (by simp [hdata])]
  rfl

theorem Dev.opened_eq (d : Dev) (n : Nat) : d.opened n = { d with
    objs := (d.opened n).objs, ses := (d.opened n).ses, lock := (d.opened n).lock, subs := d.subs.filter (fun x => x.sess != n) } := by
  unfold Dev.opened
  dsimp only
  split
  · rfl
  · rfl

theorem Dev.o_opened_epoch {d : Dev} {n : Nat} (hn : n < 4) : (d.opened n).o O.SES_EPOCH n = (d.o O.SES_EPOCH n + 1) % 4 := by
  unfold Dev.opened
  dsimp only
  split
  · rw [Dev.o_freeLock (by decide) (by omega)]
    exact Dev.o_so_self ..
  · exact Dev.o_so_self ..

theorem Dev.o_opened_owner (d : Dev) {n : Nat} (hn : n < 4) : (d.opened n).o O.LOCK_OWNER ≠ n := by
  unfold Dev.opened
  dsimp only
  split
  · rw [Dev.o_freeLock_owner]
    omega
  next h => exact fun he => h (by simpa using he)

theorem Dev.sess_opened {d : Dev} {n : Nat} (hn : n < d.ses.length) :
    (d.opened n).sess n = { d.sess n with stored := [], snap := none, bw := none, revoked := none } := by
  unfold Dev.opened
  dsimp only
  split
  · exact Dev.sess_setSess_self hn
  · exact Dev.sess_setSess_self hn

/-- A SES_OPEN of a session that waits for nothing. -/
theorem gopRun_sesOpen {m : GopMsg} {codes : List Int} (hn : m.req.sess < 4) (hserves : s.dev.serves m.req.sess = true)
    (hheld : (s.dev.sess m.req.sess).held = none) (hqueue : (s.dev.sess m.req.sess).queue = []) (hop : m.op = 2)
    (hidx : m.req.index = O.SES_OPEN) :
    Dev.gopRun s.env s.begun m codes = (s.atRequest m.req.sess).sesOpen s.env m := by
  have hserves' : s.begun.serves m.req.sess = true := hserves
  unfold Dev.gopRun
  dsimp only
  rw [hserves', State.sess_begun, hheld, hqueue, if_neg (by simp; omega)]
  show Dev.request s.env (s.atRequest m.req.sess) m codes = _
  unfold Dev.request
  dsimp only
  rw [if_pos (by simp [hop, hidx])]

theorem sesOpen_opens (hq : s.Quiet) (hn : q.sess < 4) (hlen : s.dev.ses.length = 5) (hserves : s.dev.serves q.sess = true)
    (hserv : s.dev.serviceAbort q.sess O.SES_OPEN = none) (hheld : (s.dev.sess q.sess).held = none)
    (hqueue : (s.dev.sess q.sess).queue = []) (hel : q.element = q.sess) (hcount : q.count = 1) (hdata : q.data.length = 1) :
    Leads (.sesOpen q) s (fun t => t.dev.o O.SES_EPOCH q.sess = (s.dev.o O.SES_EPOCH q.sess + 1) % 4 ∧
      (t.dev.sess q.sess).stored = [] ∧ (t.dev.sess q.sess).snap = none ∧ (t.dev.sess q.sess).bw = none ∧
      (∀ x ∈ t.dev.subs, x.sess ≠ q.sess) ∧ t.dev.o O.LOCK_OWNER ≠ q.sess) := by
  obtain ⟨m, hm⟩ : ∃ m, m = opMsg 2 false false { q with index := O.SES_OPEN } := ⟨_, rfl⟩
  have hsess : m.req.sess = q.sess := hm ▸ rfl
  obtain ⟨d, hd⟩ : ∃ d, d = (s.atRequest q.sess).opened q.sess := ⟨_, rfl⟩
  have hopen : (s.atRequest q.sess).opSesOpen s.env m.req = (okAns s.env.now [], d) := by
    have hserv' : (s.atRequest q.sess).serviceAbort q.sess O.SES_OPEN = none := by
      unfold Dev.serviceAbort at hserv ⊢
      rw [State.o_atRequest]
      exact hserv
    rw [hd, hm]
    exact Dev.opSesOpen_eq (q := { q with index := O.SES_OPEN }) hn hserv' hel hcount hdata
  obtain ⟨d', hd', hsent, hstored⟩ : ∃ d', (s.atRequest q.sess).sesOpen s.env m = d' ∧ SentFrom d d' ∧
      ∀ n, d'.sess n = { d.sess n with outq := (d'.sess n).outq } := by
    refine ⟨_, rfl, ?_, fun n => ?_⟩
    · unfold Dev.sesOpen Dev.respond
      dsimp only
      rw [hopen, hsess]
      exact (SentFrom.countReq d _ (by omega)).trans (SentFrom.emit ..)
    · unfold Dev.sesOpen Dev.respond
      dsimp only
      rw [hopen, Dev.sess_emit, Dev.sess_countReq]
  have hrun : Dev.gopRun s.env s.begun m [] = d' := by
    rw [← hd', ← hsess]
    rw [← hsess] at hn hserves hheld hqueue
    exact gopRun_sesOpen hn hserves hheld hqueue (hm ▸ rfl) (hm ▸ rfl)
  have hlt : q.sess < (s.atRequest q.sess).ses.length := by rw [State.ses_atRequest, hlen]; omega
  refine leads_marked (f := fun e d => d.gopRun e m []) d' hq.2.2 (hm ▸ rfl) hrun ?_ ?_ ⟨?_, ?_, ?_, ?_, fun x hx => ?_, ?_⟩
  · rw [hsent.rest, hd, Dev.opened_eq]; exact settle_atRequest hq _
  · rw [hsent.rest, hd, Dev.opened_eq]; exact rstDue_atRequest hq _
  · show d'.o _ _ = _
    rw [hsent.objs _ _ (by omega) (by decide), hd, Dev.o_opened_epoch hn, State.o_atRequest]
  · show (d'.sess q.sess).stored = []
    rw [hstored, hd, Dev.sess_opened hlt]
  · show (d'.sess q.sess).snap = none
    rw [hstored, hd, Dev.sess_opened hlt]
  · show (d'.sess q.sess).bw = none
    rw [hstored, hd, Dev.sess_opened hlt]
  · change x ∈ (d'.markSubs s.env).subs at hx
    rw [Dev.subs_markSubs, hsent.subs, hd, Dev.opened_eq] at hx
    obtain ⟨y, hy, rfl⟩ := List.mem_map.mp hx
    obtain ⟨b, v, hmark⟩ := d'.markSub_eq s.env y
    rw [hmark]
    simpa using (List.mem_filter.mp hy).2
  · show d'.o _ _ ≠ _
    rw [hsent.objs _ _ (by decide) (by decide), hd]
    exact Dev.o_opened_owner _ hn

end

/-! ### Notifications -/

theorem Dev.readRun_plain {e : Env} {d : Dev} {r : ObjRow} {el n : Nat} (hnow : r.idx ≠ O.HK_NOW) (hbias : r.idx ≠ O.RX_BIAS_I_MEAS) :
    (d.readRun e r el n false false []).2 = d := by
  have hsample : ∀ l : List Nat, l.foldl (fun d x => Dev.sampleEl e d [] r.idx x) d = d := by
    intro l
    induction l with
    | nil => rfl
    | cons x l ih => rw [List.foldl_cons, show Dev.sampleEl e d [] r.idx x = d by simp [Dev.sampleEl, hnow, hbias], ih]
  have hskip : (r.idx == O.HK_NOW) = false := by simpa using hnow
  unfold Dev.readRun
  simp only [hskip, hsample, Bool.false_and, Bool.false_eq_true, if_false]

/-- The device with a session's notifications counted (R154). -/
def Dev.noted (d : Dev) (n : Nat) : Dev := d.setSess n { d.sess n with nseq := ((d.sess n).nseq + 1) % 64 }

/-- A notification leaves for its session. -/
theorem Dev.notify_sends {e : Env} {d : Dev} {x : Sub} {r : ObjRow} (hr : rowOf? x.index = some r)
    (hpres : d.presAbort e x.index x.element x.count = none) (hnow : x.index ≠ O.HK_NOW) (hbias : x.index ≠ O.RX_BIAS_I_MEAS) :
    ∃ ext base bs, d.notify e x = (d.noted x.sess).emit x.sess true ext base bs := by
  have hidx := idx_of_rowOf? hr
  have hrun := Dev.readRun_plain (e := e) (d := d) (el := x.element) (n := x.count) (hidx ▸ hnow) (hidx ▸ hbias)
  unfold Dev.notify
  rw [hr]
  dsimp only
  rw [hpres, if_neg (by decide), hrun]
  exact ⟨_, _, _, rfl⟩

/-- The one subscription of a device, notified and replaced. -/
theorem Dev.notify_replaced {e : Env} {d : Dev} {x x' : Sub} {r : ObjRow} (hr : rowOf? x.index = some r)
    (hpres : d.presAbort e x.index x.element x.count = none) (hnow : x.index ≠ O.HK_NOW) (hbias : x.index ≠ O.RX_BIAS_I_MEAS)
    (hsubs : d.subs = [x]) (hlen : x.sess < d.ses.length) (hkey : x.of x'.sess x'.index x'.element x'.count = true) :
    ((d.notify e x).setSub x').subs = [x'] ∧ ((d.notify e x).setSub x').jq = d.jq ∧ ((d.notify e x).setSub x').pwr = d.pwr ∧
      (((d.notify e x).setSub x').sess x.sess).nseq = ((d.sess x.sess).nseq + 1) % 64 := by
  obtain ⟨ext, base, bs, hn⟩ := Dev.notify_sends (e := e) hr hpres hnow hbias
  have hsent : SentFrom d (d.notify e x) := hn ▸ (SentFrom.setSess ..).trans (SentFrom.emit ..)
  refine ⟨?_, ?_, ?_, ?_⟩
  · show (d.notify e x).subs.map _ = _
    rw [hsent.subs, hsubs]
    simp [hkey]
  · show (d.notify e x).jq = _
    rw [hsent.rest]
  · show (d.notify e x).pwr = _
    rw [hsent.rest]
  · show ((d.notify e x).sess x.sess).nseq = _
    rw [hn, Dev.sess_emit]
    show ((d.noted x.sess).sess x.sess).nseq = _
    unfold Dev.noted
    rw [Dev.sess_setSess_self hlen]

theorem Dev.find?_only {d : Dev} {x : Sub} (h : d.subs = [x]) :
    d.subs.find? (fun y => y.of x.sess x.index x.element x.count) = some x := by
  rw [h]
  simp [Sub.of]

section
variable {s : State} {x : Sub} {r : ObjRow}

/-- A command that notifies the one subscription and replaces it. -/
theorem leads_notified {c : Instr} {f : Env → Dev → Dev} {x' : Sub} {P : State → Prop} (hq : s.Quiet) (hc : exec c s = run f s)
    (hrun : f s.env s.begun = (s.begun.notify s.env x).setSub x') (hlen : s.dev.ses.length = 5) (hsess : x.sess < 4)
    (hsubs : s.dev.subs = [x]) (hr : rowOf? x.index = some r) (hpres : Dev.presAbort s.env s.dev x.index x.element x.count = none)
    (hnow : x.index ≠ O.HK_NOW) (hbias : x.index ≠ O.RX_BIAS_I_MEAS) (hkey : x.of x'.sess x'.index x'.element x'.count = true)
    (hP : ∀ t, (t.dev.sess x.sess).nseq = ((s.dev.sess x.sess).nseq + 1) % 64 →
      (∃ b v, t.dev.subs = [{ x' with dirty := b, seen := v }]) → P t) : Leads c s P := by
  obtain ⟨hsub, hjq, hpwr, hseq⟩ := Dev.notify_replaced (e := s.env) (d := s.begun) (x' := x') hr hpres hnow hbias hsubs
    (by rw [State.ses_begun, hlen]; omega) hkey
  refine leads_marked _ hq.2.2 hc hrun ((congrArg Jq.settle hjq).trans hq.1) ((congrArg Pwr.rstDue hpwr).trans hq.2.1) (hP _ hseq ?_)
  obtain ⟨b, v, hmark⟩ := ((s.begun.notify s.env x).setSub x').markSub_eq s.env x'
  refine ⟨b, v, ?_⟩
  show (Dev.markSubs s.env _).subs = _
  rw [Dev.subs_markSubs, hsub, List.map_singleton, hmark]

theorem notifyPeriodic_leaves (hq : s.Quiet) (hlen : s.dev.ses.length = 5) (hsess : x.sess < 4) (hserves : s.dev.serves x.sess = true)
    (hsubs : s.dev.subs = [x]) (hr : rowOf? x.index = some r) (hpres : Dev.presAbort s.env s.dev x.index x.element x.count = none)
    (hnow : x.index ≠ O.HK_NOW) (hbias : x.index ≠ O.RX_BIAS_I_MEAS) (hmode : 2 ≤ x.mode) (hdue : x.due ≤ s.clock.time) :
    Leads (.notifyPeriodic x.sess x.index x.element x.count) s (fun t =>
      (t.dev.sess x.sess).nseq = ((s.dev.sess x.sess).nseq + 1) % 64 ∧
      ∃ b v, t.dev.subs = [{ x with due := x.due + 1500000 * x.period, dirty := b, seen := v }]) := by
  have hrun : s.begun.notifyPeriodic s.env x.sess x.index x.element x.count =
      (s.begun.notify s.env x).setSub { x with due := x.due + 1500000 * x.period } := by
    have hserves' : s.begun.serves x.sess = true := hserves
    have hdue' : decide (x.due ≤ s.env.now) = true := decide_eq_true hdue
    unfold Dev.notifyPeriodic
    rw [Dev.find?_only (d := s.begun) hsubs]
    dsimp only
    rw [if_pos (by rw [hserves', hdue', decide_eq_true hmode]; rfl)]
  exact leads_notified (f := fun e d => d.notifyPeriodic e x.sess x.index x.element x.count) hq rfl hrun hlen hsess hsubs hr hpres hnow
    hbias (by simp [Sub.of]) fun t hseq hsub => ⟨hseq, hsub⟩

theorem notifyChange_leaves (hq : s.Quiet) (hlen : s.dev.ses.length = 5) (hsess : x.sess < 4) (hserves : s.dev.serves x.sess = true)
    (hsubs : s.dev.subs = [x]) (hr : rowOf? x.index = some r) (hpres : Dev.presAbort s.env s.dev x.index x.element x.count = none)
    (hnow : x.index ≠ O.HK_NOW) (hbias : x.index ≠ O.RX_BIAS_I_MEAS) (hmode : x.mode % 2 = 1) (hdirty : x.dirty = true)
    (hfree : ∀ t0, x.last = some t0 → t0 + 1500000 ≤ s.clock.time) :
    Leads (.notifyChange x.sess x.index x.element x.count) s (fun t =>
      (t.dev.sess x.sess).nseq = ((s.dev.sess x.sess).nseq + 1) % 64 ∧
      ∃ b v, t.dev.subs = [{ x with last := some s.clock.time, dirty := b, seen := v }]) := by
  have hrun : s.begun.notifyChange s.env x.sess x.index x.element x.count =
      (s.begun.notify s.env x).setSub { x with last := some s.env.now, dirty := false } := by
    have hserves' : s.begun.serves x.sess = true := hserves
    unfold Dev.notifyChange
    rw [Dev.find?_only (d := s.begun) hsubs]
    dsimp only
    rw [hdirty, hserves', if_pos]
    cases hlast : x.last with
    | none => simp [hmode]
    | some t0 => simp [hmode, hfree t0 hlast]
  exact leads_notified (f := fun e d => d.notifyChange e x.sess x.index x.element x.count) hq rfl hrun hlen hsess hsubs hr hpres hnow
    hbias (by simp [Sub.of]) fun t hseq hsub => ⟨hseq, hsub⟩

end

/-- Settles O13: what a session opens, subscribes to or is notified of. -/
theorem sessionsAndNotifications : Obligations.SessionsAndNotifications :=
  ⟨fun _ _ hq => ⟨fun _ _ _ hs hr hchk hacc hm h1 hp hdata hroom => subscribe_enters hq hs hr hchk hacc hm h1 hp hdata hroom,
      fun hn hlen hserves hserv hheld hqueue hel hcount hdata => sesOpen_opens hq hn hlen hserves hserv hheld hqueue hel hcount hdata,
      fun _ hop hs => badOp_refused hq hop hs⟩,
    fun _ _ _ hq hlen hsess hserves hsubs hr hpres hnow hbias =>
      ⟨notifyPeriodic_leaves hq hlen hsess hserves hsubs hr hpres hnow hbias,
        notifyChange_leaves hq hlen hsess hserves hsubs hr hpres hnow hbias⟩⟩

end Sys2Proof.Machine
end

section
/-! PROOF. Duplicates, and the carriers (chapter 02). -/

namespace Sys2Proof.Machine

/-! ### Duplicates -/

/-- A request of a session that waits for nothing is taken up at once. -/
theorem gopRun_free {s : State} {m : GopMsg} {codes : List Int} (hn : m.req.sess < 4) (hserves : s.dev.serves m.req.sess = true)
    (hheld : (s.dev.sess m.req.sess).held = none) (hqueue : (s.dev.sess m.req.sess).queue = []) :
    Dev.gopRun s.env s.begun m codes = (s.atRequest m.req.sess).request s.env m codes := by
  have hserves' : s.begun.serves m.req.sess = true := hserves
  unfold Dev.gopRun
  dsimp only
  rw [hserves', State.sess_begun, hheld, hqueue, if_neg (by simp; omega)]
  rfl

/-- The device with a duplicate counted, and what its request holds held on, before the stored response leaves (R119, R142, R147). -/
def Dev.dupCounted (e : Env) (d : Dev) (m : GopMsg) (x : Stored) : Dev :=
  let d1 := d.inc O.GOP_DUPLICATES m.req.sess
  let d2 := (if x.msg == m then d1 else d1.inc O.GOP_TAG_CONFLICT m.req.sess).expire e m.req.sess
  if x.msg.op == 3 then d2.holdSnap e m.req.sess x.msg.req.index x.msg.req.element
  else if x.msg.op == 4 then d2.holdBw e m.req.sess else d2

theorem Dev.dupAnswer_eq (e : Env) (d : Dev) (m : GopMsg) (x : Stored) :
    d.dupAnswer e m x = Dev.respond (d.dupCounted e m x) (d.dupCounted e m x) m.req.sess x.resp := rfl

theorem Dev.dupCounted_eq (e : Env) (d : Dev) (m : GopMsg) (x : Stored) :
    d.dupCounted e m x = { d with objs := (d.dupCounted e m x).objs, ses := (d.dupCounted e m x).ses } := by
  unfold Dev.dupCounted
  dsimp only
  split
  · split
    · rfl
    · rfl
  · split
    · split
      · rfl
      · rfl
    · split
      · rfl
      · rfl

theorem Dev.objs_dupCounted (e : Env) (d : Dev) (m : GopMsg) (x : Stored) :
    (d.dupCounted e m x).objs =
      (if x.msg == m then d.inc O.GOP_DUPLICATES m.req.sess else (d.inc O.GOP_DUPLICATES m.req.sess).inc O.GOP_TAG_CONFLICT m.req.sess).objs := by
  unfold Dev.dupCounted
  dsimp only
  split
  · rfl
  · split
    · rfl
    · rfl

theorem Dev.o_dupCounted {e : Env} {d : Dev} {m : GopMsg} {x : Stored} (hn : m.req.sess < 4) {i el : Nat} (hel : el < 4096)
    (hdup : i ≠ O.GOP_DUPLICATES) (hconf : i ≠ O.GOP_TAG_CONFLICT) : (d.dupCounted e m x).o i el = d.o i el := by
  rw [Dev.o_congr (Dev.objs_dupCounted e d m x)]
  split
  · exact Dev.o_inc_other hdup (by omega) hel
  · rw [Dev.o_inc_other hconf (by omega) hel, Dev.o_inc_other hdup (by omega) hel]

theorem Dev.o_dupCounted_count {e : Env} {d : Dev} {m : GopMsg} {x : Stored} (hn : m.req.sess < 4) :
    (d.dupCounted e m x).o O.GOP_DUPLICATES m.req.sess =
      ctrAdd O.GOP_DUPLICATES m.req.sess (d.o O.GOP_DUPLICATES m.req.sess) 1 := by
  rw [Dev.o_congr (Dev.objs_dupCounted e d m x)]
  split
  · exact Dev.o_inc_self ..
  · rw [Dev.o_inc_other (by decide) (by omega) (by omega), Dev.o_inc_self]

theorem Dev.sent_sends (f : Bytes → Out) (l : List Bytes) (d : Dev) :
    (l.foldl (fun d p => d.send (f p)) d).sent = d.sent ++ l.map f := by
  induction l generalizing d with
  | nil => simp
  | cons p l ih => rw [List.foldl_cons, ih, Dev.sent_send, List.map_cons, List.append_assoc]; rfl

theorem Dev.busOff_dupCounted {e : Env} {d : Dev} {m : GopMsg} {x : Stored} (n : Nat) :
    ((d.dupCounted e m x).sess n).busOff = (d.sess n).busOff := by
  have hset : ∀ (d : Dev) (k : Nat) (y : Ses), y.busOff = (d.sess k).busOff → ((d.setSess k y).sess n).busOff = (d.sess n).busOff := by
    intro d k y hy
    rw [Dev.sess_setSess]
    split
    next h => rw [hy, h.1]
    next => rfl
  have hexp : ∀ d : Dev, ((d.expire e m.req.sess).sess n).busOff = (d.sess n).busOff := fun d => hset d _ _ rfl
  unfold Dev.dupCounted
  dsimp only
  split
  · rw [show ((Dev.holdSnap e _ _ _ _).sess n).busOff = _ from hset _ _ _ rfl, hexp]
    split
    · rfl
    · rfl
  · split
    · rw [show ((Dev.holdBw e _ _).sess n).busOff = _ from hset _ _ _ rfl, hexp]
      split
      · rfl
      · rfl
    · rw [hexp]
      split
      · rfl
      · rfl

theorem Dev.objs_sends (f : Bytes → Out) (l : List Bytes) (d : Dev) : (l.foldl (fun d p => d.send (f p)) d).objs = d.objs := by
  induction l generalizing d with
  | nil => rfl
  | cons p l ih => exact ih _

theorem Dev.o_enq {d : Dev} {p : Packet} (hp : p.ty < 4096) {i el : Nat} (htx : i ≠ O.LINK_TX_DISCARD)
    (hnote : i ≠ O.LINK_NOTIFY_DROPPED) (hel : el < 4096) : (d.enq p).o i el = d.o i el := by
  unfold Dev.enq Dev.discard
  split
  · exact Dev.o_inc_other htx hp hel
  · split
    · rfl
    · split
      · exact Dev.o_inc_other hnote (by decide) hel
      · rfl

/-- What leaves for a session moves at most the link's counters of discarded packets. -/
theorem Dev.o_emit {d : Dev} {s : Nat} {note ext : Bool} {base : Nat} {bs : Bytes} {i el : Nat} (htx : i ≠ O.LINK_TX_DISCARD)
    (hnote : i ≠ O.LINK_NOTIFY_DROPPED) (hel : el < 4096) : (d.emit s note ext base bs).o i el = d.o i el := by
  unfold Dev.emit
  split
  · unfold Dev.canSend
    split
    · rfl
    · exact Dev.o_congr (Dev.objs_sends ..) i el
  · split
    · rfl
    · split
      · exact Dev.o_enq (show 6 < 4096 by decide) htx hnote hel
      · rfl

/-- What leaves for session 0 where its controller is on the bus (R98 to R100). -/
theorem Dev.sent_respond_can {d0 d : Dev} {bs : Bytes} (h : (d.sess 0).busOff = false) :
    (Dev.respond d0 d 0 bs).sent = d.sent ++ (canSegments bs).map
      (fun p => Out.can 0 (d0.ob O.CAN_GOP_IDMODE 0) (d0.o O.CAN_GOP_BASE_ID 0 + 1) p) := by
  unfold Dev.respond Dev.emit Dev.canSend
  rw [if_pos (by decide), h]
  exact Dev.sent_sends _ _ d

/-- Settles O15: a duplicate is counted and its stored response leaves again. -/
theorem duplicatesDoNotExecute : Obligations.DuplicatesDoNotExecute := by
  intro s q x hq hn hserves hheld hqueue hep hidx hx
  obtain ⟨m, hm⟩ : ∃ m, m = opMsg 2 false false q := ⟨_, rfl⟩
  have hreq : m.req = q := hm ▸ rfl
  obtain ⟨d, hd⟩ : ∃ d, d = (s.atRequest q.sess).dupCounted s.env m x := ⟨_, rfl⟩
  have hrun : Dev.gopRun s.env s.begun m [] = Dev.respond d d q.sess x.resp := by
    have hfree := gopRun_free (s := s) (m := m) (codes := [])
    rw [hreq] at hfree
    rw [hfree hn hserves hheld hqueue]
    have hdup : (s.atRequest q.sess).duplicate s.env m = some x := by
      unfold Dev.duplicate
      rw [hreq, State.sess_atRequest]
      exact hx
    unfold Dev.request
    dsimp only
    rw [hreq, if_neg (by simp [hidx]), if_neg (by rw [State.o_atRequest, hep]; simp), hdup]
    dsimp only
    rw [Dev.dupAnswer_eq, hreq, ← hd]
  have hsent : SentFrom d (Dev.respond d d q.sess x.resp) := SentFrom.emit ..
  have ho : ∀ i el, el < 4096 → i ≠ O.GOP_DUPLICATES → i ≠ O.GOP_TAG_CONFLICT → d.o i el = s.dev.o i el := fun i el hel h1 h2 => by
    rw [hd, Dev.o_dupCounted (hreq ▸ hn) hel h1 h2, State.o_atRequest]
  have hkeep : ∀ {α : Type} (f : Dev → α), (∀ d objs ses, f { d with objs := objs, ses := ses } = f d) →
      f d = f (s.atRequest q.sess) := fun f hf => by rw [hd, Dev.dupCounted_eq, hf]
  refine leads_ends (f := fun e d => d.gopRun e m []) _ hq (hm ▸ rfl) hrun ?_ ?_
    fun t ht => ⟨fun i el hel hi => ?_, ?_, ?_, ?_, ?_, ?_, ?_, ?_, fun h0 hbus => ?_⟩
  · rw [hsent.rest]
    exact (congrArg Jq.settle (hkeep Dev.jq fun _ _ _ => rfl)).trans (settle_atRequest hq _)
  · rw [hsent.rest]
    exact (congrArg Pwr.rstDue (hkeep Dev.pwr fun _ _ _ => rfl)).trans (rstDue_atRequest hq _)
  · simp only [List.mem_cons, List.not_mem_nil, or_false, not_or] at hi
    obtain ⟨hdup, hconf, htx, hnote⟩ := hi
    rw [ht.o, Dev.respond, Dev.o_emit htx hnote hel, ho i el hel hdup hconf]
  · rw [ht.o, hsent.objs _ _ (by omega) (by decide), hd]
    have hcount := Dev.o_dupCounted_count (e := s.env) (d := s.atRequest q.sess) (m := m) (x := x) (hreq ▸ hn)
    rw [hreq] at hcount
    rw [hcount, State.o_atRequest]
  · rw [ht.shadows, hsent.rest]
    exact (hkeep Dev.shadows fun _ _ _ => rfl).trans (State.shadows_atRequest ..)
  · rw [ht.lock, hsent.rest]
    exact (congrArg (fun l => l.staged) (hkeep Dev.lock fun _ _ _ => rfl)).trans (State.lock_staged_atRequest ..)
  · rw [ht.commit, hsent.rest]
    exact (hkeep Dev.commit fun _ _ _ => rfl).trans (State.commit_atRequest ..)
  · rw [ht.doms, hsent.rest, show d.doms = _ from hkeep Dev.doms fun _ _ _ => rfl, State.atRequest_eq]
  · rw [ht.gddr, hsent.rest, show d.gddr = _ from hkeep Dev.gddr fun _ _ _ => rfl, State.atRequest_eq]
  · rw [ht.flash, hsent.rest, show d.flash = _ from hkeep Dev.flash fun _ _ _ => rfl, State.atRequest_eq]
  · have hbus' : (d.sess 0).busOff = false := by rw [hd, Dev.busOff_dupCounted, State.sess_atRequest, hbus]
    rw [ht.sent, h0, Dev.sent_respond_can hbus', show d.sent = [] from (hkeep Dev.sent fun _ _ _ => rfl).trans (State.sent_atRequest ..)]
    simp only [List.nil_append, Dev.ob, ho _ _ (show 0 < 4096 by decide) (show O.CAN_GOP_IDMODE ≠ O.GOP_DUPLICATES by decide) (by decide),
      ho _ _ (show 0 < 4096 by decide) (show O.CAN_GOP_BASE_ID ≠ O.GOP_DUPLICATES by decide) (by decide)]

end Sys2Proof.Machine
end

section
/-! PROOF. The carriers (chapter 02). -/

namespace Sys2Proof.Machine

/-! ### A request that has arrived -/

theorem Dev.ses_arrived (e : Env) (d : Dev) (n : Nat) : (d.arrived e n).ses = d.ses := by
  rw [Dev.arrived_eq]

theorem Dev.sess_arrived (e : Env) (d : Dev) (n k : Nat) : (d.arrived e n).sess k = d.sess k := Dev.sess_congr (Dev.ses_arrived ..) k

/-- The device with a request waiting last in its session. -/
def Dev.queuedFor (e : Env) (d : Dev) (m : GopMsg) : Dev :=
  (d.arrived e m.req.sess).setSess m.req.sess { d.sess m.req.sess with queue := (d.sess m.req.sess).queue ++ [m] }

theorem Dev.gopIn_queues {e : Env} {d : Dev} {m : GopMsg} (hserves : d.serves m.req.sess = true)
    (hroom : (d.sess m.req.sess).queue.length ≤ 7) : d.gopIn e m = d.queuedFor e m := by
  have hlen : ¬ 9 ≤ (d.sess m.req.sess).queue.length + (if (d.sess m.req.sess).held.isSome then 1 else 0) := by split <;> omega
  unfold Dev.gopIn
  dsimp only
  rw [hserves, if_neg (by decide)]
  simp only [Dev.sess_arrived]
  rw [if_neg hlen]
  rfl

theorem Dev.queuedFor_eq (e : Env) (d : Dev) (m : GopMsg) : d.queuedFor e m = { d with
    hm := (d.arrived e m.req.sess).hm, lock := (d.arrived e m.req.sess).lock, ses := (d.queuedFor e m).ses } :=
  congrArg (fun x => { x with ses := (d.queuedFor e m).ses }) (Dev.arrived_eq e d m.req.sess)

theorem Dev.queue_queuedFor {e : Env} {d : Dev} {m : GopMsg} (h : m.req.sess < d.ses.length) :
    ((d.queuedFor e m).sess m.req.sess).queue = (d.sess m.req.sess).queue ++ [m] := by
  unfold Dev.queuedFor
  rw [Dev.sess_setSess_self (by rw [Dev.ses_arrived]; exact h)]

/-- A message belongs to the session of its carrier, and has at least eight bytes. -/
theorem gopOf_some {n : Nat} {bs : Bytes} {m : GopMsg} (h : gopOf n bs = some m) : m.req.sess = n ∧ 8 ≤ bs.length := by
  unfold gopOf at h
  split at h
  · cases h
  · dsimp only at h
    cases h
    exact ⟨rfl, by omega⟩

/-! ### CAN FD -/

/-- A message in one CAN FD segment (R98, R99). -/
def oneSegment (bs : Bytes) : Bytes := leBytes 1 192 ++ leBytes 2 bs.length ++ bs

theorem oneSegment_head (bs : Bytes) : byteAt (oneSegment bs) 0 = 192 := rfl

theorem oneSegment_length {bs : Bytes} (h : bs.length < 65536) : fieldAt (oneSegment bs) 1 2 = bs.length := by
  unfold fieldAt oneSegment
  rw [List.append_assoc, List.drop_left' (by simp), List.take_left' (by simp)]
  exact leNat_leBytes h

theorem oneSegment_body (bs : Bytes) : (oneSegment bs).drop 3 = bs := by
  unfold oneSegment
  rw [List.drop_left' (by simp)]

/-- A message in one segment is received whole. -/
theorem Dev.canFirst_whole {e : Env} {d : Dev} {c : Nat} {bs : Bytes} {m : GopMsg} (hlo : 8 ≤ bs.length) (hhi : bs.length ≤ 61)
    (hm : gopOf c bs = some m) :
    d.canFirst e c (oneSegment bs) = (d.setSess c { d.sess c with canRx := none }).gopIn e m := by
  have hlen : fieldAt (oneSegment bs) 1 2 = bs.length := oneSegment_length (by omega)
  have hlong : ¬ (oneSegment bs).length < 3 := by simp [oneSegment]; omega
  unfold Dev.canFirst
  dsimp only
  rw [hlen, oneSegment_head, oneSegment_body, if_neg (by simp [hlong]; omega)]
  unfold Dev.canTake
  dsimp only
  rw [List.nil_append, List.length_nil, Nat.sub_zero, List.take_length, decide_eq_true (le_refl bs.length), if_neg (by decide), if_pos (by decide), hm]

section
variable {s : State}

/-- A command that queues a request for a session. -/
theorem leads_queued {c : Instr} {f : Env → Dev → Dev} {m : GopMsg} {P : State → Prop} (d : Dev) (hq : s.Quiet)
    (hc : exec c s = run f s) (hrun : f s.env s.begun = d.queuedFor s.env m) (hset : d.jq.settle = false) (hrst : d.pwr.rstDue = none)
    (hP : ∀ t, s.Ends (d.queuedFor s.env m) t → P t) : Leads c s P := by
  refine leads_ends _ hq hc hrun ?_ ?_ hP
  · rw [Dev.queuedFor_eq]; exact hset
  · rw [Dev.queuedFor_eq]; exact hrst

theorem canSegment_queues {c : Nat} {bs : Bytes} {m : GopMsg} (hq : s.Quiet) (hup : s.dev.canUp c = true) (hlen : s.dev.ses.length = 5)
    (hlo : 8 ≤ bs.length) (hhi : bs.length ≤ 61) (hm : gopOf c bs = some m) (hnone : (s.dev.sess c).canRx = none)
    (hroom : (s.dev.sess c).queue.length ≤ 7) :
    Leads (.canSegmentRx c ⟨s.dev.ob O.CAN_GOP_IDMODE c, s.dev.o O.CAN_GOP_BASE_ID c⟩ (leBytes 1 192 ++ leBytes 2 bs.length ++ bs)) s
      (fun t => (t.dev.sess c).queue = (s.dev.sess c).queue ++ [m]) := by
  obtain ⟨hsess, -⟩ := gopOf_some hm
  have hc2 : c < 2 ∧ s.dev.serves c = true := by
    unfold Dev.canUp at hup
    simp only [Bool.and_eq_true, decide_eq_true_eq] at hup
    exact ⟨hup.1.1, hup.1.2⟩
  obtain ⟨d, hd⟩ : ∃ d, d = s.begun.setSess c { s.begun.sess c with canRx := none } := ⟨_, rfl⟩
  have hdsess : d.sess c = { s.dev.sess c with canRx := none } := by
    rw [hd, Dev.sess_setSess_self (by rw [State.ses_begun, hlen]; omega)]
    rfl
  have hrun : s.begun.canRx s.env c (s.dev.ob O.CAN_GOP_IDMODE c) (s.dev.o O.CAN_GOP_BASE_ID c) (oneSegment bs) = d.queuedFor s.env m := by
    have hup' : s.begun.canUp c = true := hup
    have hne : (oneSegment bs == []) = false := rfl
    unfold Dev.canRx
    rw [hup', hne, State.ob_begun, State.o_begun, if_neg (by simp), oneSegment_head, if_pos (by decide), State.sess_begun, hnone]
    dsimp only
    rw [Dev.canFirst_whole hlo hhi hm, ← hd]
    refine Dev.gopIn_queues ?_ ?_
    · rw [hsess, hd]; exact hc2.2
    · rw [hsess, hdsess]; exact hroom
  refine leads_queued (f := fun e d => d.canRx e c (s.dev.ob O.CAN_GOP_IDMODE c) (s.dev.o O.CAN_GOP_BASE_ID c) (oneSegment bs)) (m := m) d hq
    rfl hrun (hd ▸ hq.1) (hd ▸ hq.2.1) fun t ht => ?_
  have hqueue := Dev.queue_queuedFor (e := s.env) (d := d) (m := m) (by rw [hsess, hd, Dev.ses_length_setSess, State.ses_begun, hlen]; omega)
  rw [hsess, hdsess] at hqueue
  rw [ht.sess, hqueue]

/-! ### SPI -/

theorem spiRequest_queues {mosi : Bytes} {m : GopMsg} (hq : s.Quiet) (hserves : s.dev.serves 2 = true) (hlen : s.dev.ses.length = 5)
    (hgood : spiGood mosi = true) (hlong : 8 ≤ fieldAt mosi 1 2)
    (hm : gopOf 2 ((mosi.drop 3).take (fieldAt mosi 1 2)) = some m) (hroom : (s.dev.sess 2).queue.length ≤ 7) :
    Leads (.spiRequestFrame mosi) s (fun t => (t.dev.sess 2).queue = (s.dev.sess 2).queue ++ [m] ∧
      t.dev.sent = [.miso (leBytes 1 s.dev.spiStatus ++ zeros (mosi.length - 1))]) := by
  obtain ⟨hsess, -⟩ := gopOf_some hm
  have hhead : byteAt mosi 0 = 1 := by
    unfold spiGood at hgood
    simp only [Bool.and_eq_true, beq_iff_eq] at hgood
    exact hgood.1.1.1
  have hne : (mosi == []) = false := by
    cases mosi
    · exact absurd hhead (by decide)
    · rfl
  obtain ⟨d, hd⟩ : ∃ d, d = s.begun.send (.miso (leBytes 1 s.begun.spiStatus ++ zeros (mosi.length - 1))) := ⟨_, rfl⟩
  have hdsess : d.sess 2 = s.dev.sess 2 := by rw [hd]; rfl
  have hrun : s.begun.spiRx s.env mosi = d.queuedFor s.env m := by
    have hserves' : s.begun.serves 2 = true := hserves
    unfold Dev.spiRx
    rw [hserves', hne, if_neg (by decide), hhead, if_neg (by decide)]
    unfold Dev.spiFrame
    dsimp only
    rw [hhead, if_neg (by simp; omega), hgood, if_neg (by decide), hm]
    dsimp only
    rw [← hd]
    refine Dev.gopIn_queues ?_ ?_
    · rw [hsess, hd]; exact hserves
    · rw [hsess, hdsess]; exact hroom
  refine leads_queued (f := fun e d => d.spiRx e mosi) (m := m) d hq rfl hrun (hd ▸ hq.1) (hd ▸ hq.2.1) fun t ht => ⟨?_, ?_⟩
  · have hqueue := Dev.queue_queuedFor (e := s.env) (d := d) (m := m) (by rw [hsess, hd]; show 2 < s.dev.ses.length; omega)
    rw [hsess, hdsess] at hqueue
    rw [ht.sess, hqueue]
  · rw [ht.sent, Dev.queuedFor_eq, hd]
    rfl

theorem spiPoll_answers {note : Bool} {msg : Bytes} {rest : List (Bool × Bytes)} {n : Nat} (hq : s.Quiet)
    (hserves : s.dev.serves 2 = true) (hlen : s.dev.ses.length = 5) (hout : (s.dev.sess 2).outq = (note, msg) :: rest)
    (hn : msg.length + 5 ≤ n) :
    Leads (.spiPollFrame n) s (fun t => (t.dev.sess 2).outq = rest ∧
      t.dev.sent = [.miso (leBytes 1 s.dev.spiStatus ++ (leBytes 2 msg.length ++ msg) ++
        leBytes 2 (crc16 (leBytes 2 msg.length ++ msg)))]) := by
  obtain ⟨all, hall⟩ : ∃ all, all = leBytes 1 s.dev.spiStatus ++ (leBytes 2 msg.length ++ msg) ++ leBytes 2 (crc16 (leBytes 2 msg.length ++ msg)) :=
    ⟨_, rfl⟩
  have hall_len : all.length = msg.length + 5 := by
    rw [hall]
    simp
    omega
  have hrun : s.begun.spiPoll n = (s.begun.send (.miso all)).setSess 2 { s.dev.sess 2 with outq := rest } := by
    have hserves' : s.begun.serves 2 = true := hserves
    have hstatus : s.begun.spiStatus = s.dev.spiStatus := rfl
    unfold Dev.spiPoll
    rw [hserves', if_neg (by simp; omega)]
    simp only [State.sess_begun, hout, hstatus, ← hall]
    rw [if_pos (by omega), List.take_of_length_le (by omega)]
    show (s.begun.send _).setSess 2 { s.dev.sess 2 with outq := (s.dev.sess 2).outq.drop 1 } = _
    rw [hout]
    rfl
  refine leads_ends (f := fun _ d => d.spiPoll n) _ hq rfl hrun hq.1 hq.2.1 fun t ht => ⟨?_, ?_⟩
  · rw [ht.sess, Dev.sess_setSess_self (by show 2 < s.dev.ses.length; omega)]
  · rw [ht.sent, ← hall]
    rfl

/-! ### The Gaern back-channel -/

theorem gaernPacket_queues {b g a : List RxCol} {p : Bytes × Bool} {d' d : Dev} {x : RxSeg} {m : GopMsg} (hq : s.Quiet)
    (hup : s.dev.linkUp = true) (hlanes : s.dev.o O.LINK_ACTIVE_HRX ≠ 0) (hcols : s.begun.rxColumns (b ++ g ++ a) = ([p], d'))
    (hseg : d'.rxSeg p.2 p.1 = (some x, d)) (hty : x.ty = 6) (hm : gopOf 3 x.payload = some m) (hlen : d.ses.length = 5)
    (hserves : d.serves 3 = true) (hroom : (d.sess 3).queue.length ≤ 7) (hset : d.jq.settle = false) (hrst : d.pwr.rstDue = none) :
    Leads (.gaernGopPacketRx b g a) s (fun t => (t.dev.sess 3).queue = (d.sess 3).queue ++ [m]) := by
  obtain ⟨hsess, hlong⟩ := gopOf_some hm
  have hne : (x.payload == []) = false := by
    cases h : x.payload
    · rw [h] at hlong; exact absurd hlong (by decide)
    · rfl
  have hrun : s.begun.gaernRx s.env (b ++ g ++ a) = d.queuedFor s.env m := by
    have hup' : s.begun.linkUp = true := hup
    unfold Dev.gaernRx
    rw [hup', State.o_begun, if_neg (by simp [hlanes])]
    dsimp only
    rw [hcols]
    show Dev.rxSegment s.env d' p = _
    unfold Dev.rxSegment
    rw [hseg]
    dsimp only
    unfold Dev.rxPacket
    rw [hty, if_neg (by decide), hne, if_neg (by decide), hm]
    dsimp only
    exact Dev.gopIn_queues (hsess ▸ hserves) (hsess ▸ hroom)
  refine leads_queued (f := fun e d => d.gaernRx e (b ++ g ++ a)) (m := m) d hq rfl hrun hset hrst fun t ht => ?_
  have hqueue := Dev.queue_queuedFor (e := s.env) (d := d) (m := m) (by rw [hsess, hlen]; decide)
  rw [hsess] at hqueue
  rw [ht.sess, hqueue]

/-! ### Failures of a carrier -/

/-- A failing carrier ends the lock of its session. -/
theorem Dev.carrierFail_keeps (e : Env) (d : Dev) {n : Nat} (hn : n < 5) :
    (d.carrierFail e n).o O.LOCK_OWNER ≠ n ∧ (d.carrierFail e n).ses = d.ses ∧ (d.carrierFail e n).jq = d.jq ∧
      (d.carrierFail e n).pwr = d.pwr := by
  obtain ⟨howner, -, -, hjq, hpwr, hses⟩ := d.loseLock_keeps e
  unfold Dev.carrierFail
  split
  · exact ⟨by rw [howner]; omega, hses, hjq, hpwr⟩
  next h => exact ⟨by simpa using h, rfl, rfl, rfl⟩

theorem canBusOff_fails {c : Nat} (hq : s.Quiet) (hlen : s.dev.ses.length = 5) (hc : c < 2) (hserves : s.dev.serves c = true) :
    Leads (.canBusOff c) s (fun t => (t.dev.sess c).busOff = true ∧ t.dev.o O.LOCK_OWNER ≠ c) := by
  obtain ⟨d, hd⟩ : ∃ d, d = s.begun.setSess c { s.begun.sess c with busOff := true } := ⟨_, rfl⟩
  obtain ⟨howner, hses, hjq, hpwr⟩ := d.carrierFail_keeps s.env (n := c) (by omega)
  have hrun : s.begun.canBusOff s.env c = d.carrierFail s.env c := by
    have hserves' : s.begun.serves c = true := hserves
    unfold Dev.canBusOff
    rw [hserves', if_pos (by simp [hc]), hd]
  refine leads_ends (f := fun e d => d.canBusOff e c) _ hq rfl hrun (by rw [hjq, hd]; exact hq.1) (by rw [hpwr, hd]; exact hq.2.1)
    fun t ht => ⟨?_, ?_⟩
  · rw [ht.sess, Dev.sess_congr hses, hd, Dev.sess_setSess_self (by rw [State.ses_begun, hlen]; omega)]
  · rw [ht.o]
    exact howner

theorem canRecovery_ends {c : Nat} (hq : s.Quiet) (hlen : s.dev.ses.length = 5) (hc : c < 2) :
    Leads (.canBusOffRecovery c) s (fun t => (t.dev.sess c).busOff = false) := by
  refine leads_ends (f := fun _ d => d.canRecover c) (s.begun.canRecover c) hq rfl rfl ?_ ?_ fun t ht => ?_
  · unfold Dev.canRecover; rw [if_pos hc]; exact hq.1
  · unfold Dev.canRecover; rw [if_pos hc]; exact hq.2.1
  · rw [ht.sess]
    unfold Dev.canRecover
    rw [if_pos hc, Dev.sess_setSess_self (by rw [State.ses_begun, hlen]; omega)]

theorem canTimeout_discards {c : Nat} {r : CanRx} (hq : s.Quiet) (hlen : s.dev.ses.length = 5) (hc : c < 2)
    (hr : (s.dev.sess c).canRx = some r) (hdue : r.last + 30000000 ≤ s.clock.time) :
    Leads (.canSegmentTimeout c) s (fun t => (t.dev.sess c).canRx = none ∧
      t.dev.o O.CAN_SEG_DISCARDS c = ctrAdd O.CAN_SEG_DISCARDS c (s.dev.o O.CAN_SEG_DISCARDS c) 1) := by
  have hrun : s.begun.canTimeout s.env c = s.begun.canDrop c := by
    have hdue' : r.last + 30000000 ≤ s.env.now := hdue
    unfold Dev.canTimeout
    rw [State.sess_begun, hr]
    dsimp only
    rw [if_pos (by simp only [Bool.and_eq_true, decide_eq_true_eq]; exact ⟨hc, hdue'⟩)]
  refine leads_ends (f := fun e d => d.canTimeout e c) _ hq rfl hrun hq.1 hq.2.1 fun t ht => ⟨?_, ?_⟩
  · rw [ht.sess]
    unfold Dev.canDrop
    rw [Dev.sess_setSess_self (by show c < s.dev.ses.length; omega)]
  · rw [ht.o]
    exact Dev.o_inc_self ..

theorem spiFailure_ends {new old : Nat} (hq : s.Quiet) (hlen : s.dev.ses.length = 5) (hnew : (s.dev.sess 2).refused[0]? = some new)
    (hold : (s.dev.sess 2).refused[7]? = some old) (hdue : new ≤ old + 150000000) :
    Leads .spiCarrierFailure s (fun t => (t.dev.sess 2).refused = [] ∧ t.dev.o O.LOCK_OWNER ≠ 2) := by
  obtain ⟨d, hd⟩ : ∃ d, d = s.begun.setSess 2 { s.begun.sess 2 with refused := [] } := ⟨_, rfl⟩
  obtain ⟨howner, hses, hjq, hpwr⟩ := d.carrierFail_keeps s.env (n := 2) (by decide)
  have hrun : s.begun.spiFail s.env = d.carrierFail s.env 2 := by
    unfold Dev.spiFail
    dsimp only
    rw [State.sess_begun, hnew, hold]
    dsimp only
    rw [if_pos hdue, hd]
    rfl
  refine leads_ends (f := fun e d => d.spiFail e) _ hq rfl hrun (by rw [hjq, hd]; exact hq.1) (by rw [hpwr, hd]; exact hq.2.1)
    fun t ht => ⟨?_, ?_⟩
  · rw [ht.sess, Dev.sess_congr hses, hd, Dev.sess_setSess_self (by rw [State.ses_begun, hlen]; decide)]
  · rw [ht.o]
    exact howner

end

/-- Settles O14: what each carrier delivers, takes out, or loses. -/
theorem carriers : Obligations.Carriers :=
  ⟨fun _ _ hq => ⟨fun _ _ hup hlen hlo hhi hm hnone hroom => canSegment_queues hq hup hlen hlo hhi hm hnone hroom,
      fun _ hserves hlen hgood hlong hm hroom => spiRequest_queues hq hserves hlen hgood hlong hm hroom,
      fun _ _ _ _ _ _ _ hup hlanes hcols hseg hty hm hlen hserves hroom hset hrst =>
        gaernPacket_queues hq hup hlanes hcols hseg hty hm hlen hserves hroom hset hrst⟩,
    fun _ _ _ _ _ hq hserves hlen hout hn => spiPoll_answers hq hserves hlen hout hn,
    fun _ hq hlen => ⟨fun _ hc hserves => canBusOff_fails hq hlen hc hserves, fun _ hc => canRecovery_ends hq hlen hc,
      fun _ _ hc hr hdue => canTimeout_discards hq hlen hc hr hdue,
      fun _ _ hnew hold hdue => spiFailure_ends hq hlen hnew hold hdue⟩⟩

end Sys2Proof.Machine
end

section
/-! PROOF. Starting and stopping Jacquard (chapter 03). -/

namespace Sys2Proof.Machine

/-! ### Writes that run the bank check (R202, R203) -/

section
variable {s : State} {h : Hdr} {idx el v : Nat} {r : ObjRow}

theorem State.runCheck_accepts (ha : Accepts s h idx el v) (hi : r.idx = idx) (hel : el + 1 ≤ 4096) (hty : r.ty ≠ .dom ∧ r.ty ≠ .str) :
    (s.atRequest h.sess).runCheck s.env r el 1 = none := by
  have hpres : (s.atRequest h.sess).pres s.env idx el = .ok := ha.2.2.1
  have hpa : (s.atRequest h.sess).presAbort s.env idx el 1 = none := by simp [Dev.presAbort, runEls_one, hpres]
  have hfa : (s.atRequest h.sess).firstAbsent s.env idx el = none := by simp [Dev.firstAbsent, hpa]
  have hwid : r.width ≤ 1024 := by
    unfold ObjRow.width
    rw [if_neg hty.2]
    cases r.ty <;> decide
  unfold Dev.runCheck
  rw [hi, hfa, hpa]
  simp only [Option.isSome_none]
  rw [if_neg (by simp), if_neg hty.1, if_neg]
  simp
  omega

theorem State.stages_accepts (ha : Accepts s h idx el v) : (s.atRequest h.sess).stages h.sess idx = false := by
  have hsess := ha.1.1
  unfold Dev.stages
  rw [State.o_atRequest, ha.2.1]
  have : (255 == h.sess) = false := by simp; omega
  simp [this]

theorem State.lockedOut_accepts (ha : Accepts s h idx el v) : (s.atRequest h.sess).lockedOut h.sess idx = false := by
  unfold Dev.lockedOut
  rw [State.o_atRequest, ha.2.1]
  rfl

theorem parseVals_one {w : Nat} (hv : v < 256 ^ w) : parseVals w 1 (leBytes w v) = [v] := by
  have : (leBytes w v).take w = leBytes w v := List.take_of_length_le (by simp)
  simp [parseVals, this, leNat_leBytes hv]

/-- An accepted write of an object whose write runs the bank check: where the bank passes, the write executes on what the check left. -/
theorem opWrite_tested {d : Dev} (ha : Accepts s h idx el v) (hr : rowOf? idx = some r) (hel : el + 1 ≤ 4096)
    (hty : r.ty ≠ .dom ∧ r.ty ≠ .str) (hacc : r.acc = .rw ∨ r.acc = .wo ∨ r.acc = .rws)
    (htest : (s.atRequest h.sess).bankTest idx false [v] = (none, d))
    (hok : (d.writeExec s.env h.sess r el [v]).1.abort = none) :
    (s.atRequest h.sess).opWrite s.env (writeMsg h idx el v) = d.writeExec s.env h.sess r el [v] := by
  have hi := idx_of_rowOf? hr
  have hchk := State.runCheck_accepts ha hi hel hty
  have hstage := State.stages_accepts ha
  have hlock := State.lockedOut_accepts ha
  obtain ⟨-, -, -, hv, hrng, hsp, -, hbusy, -⟩ := ha
  have hor : rowOr idx = r := by unfold rowOr; rw [hr]; rfl
  have hw : elWidth idx = r.ty.bytes := by unfold elWidth; rw [hr]
  rw [hor] at hrng
  have hvals : parseVals r.ty.bytes 1 (leBytes (elWidth idx) v) = [v] := by
    rw [hw] at hv ⊢
    exact parseVals_one hv
  have hva : (s.atRequest h.sess).valueAbort s.env h.sess r el [v] = none := by
    unfold Dev.valueAbort
    simp [hrng, runEls_one, hi, hsp]
  have hrun : ¬ (r.idx == O.JQ_RUN && [v] == [1] && !(s.atRequest h.sess).stages h.sess r.idx && (s.atRequest h.sess).runAbort.isSome) = true := by
    rintro hc
    simp only [hi, Bool.and_eq_true, beq_iff_eq, List.cons.injEq, and_true] at hc
    obtain ⟨⟨⟨rfl, rfl⟩, -⟩, hc⟩ := hc
    have : (s.atRequest h.sess).runAbort = none := hbusy
    simp [this] at hc
  unfold Dev.opWrite
  simp only [writeMsg, opMsg, reqTo, hr, hchk, hvals]
  rw [if_neg (by rcases hacc with h | h | h <;> simp [h]), if_neg (by simp [hw]), hlock, hva, if_neg (by simp), if_neg hrun, hi, hstage]
  simp only [htest, hok]
  rfl

/-- Such a write ends in what its execution left, answered. -/
theorem leads_tested {c : Instr} {P : State → Prop} {d : Dev} (hc : exec c s = write1 h idx el v s) (ha : Accepts s h idx el v)
    (hr : rowOf? idx = some r) (hel : el + 1 ≤ 4096) (hty : r.ty ≠ .dom ∧ r.ty ≠ .str) (hacc : r.acc = .rw ∨ r.acc = .wo ∨ r.acc = .rws)
    (hses : idx ≠ O.SES_OPEN) (htest : (s.atRequest h.sess).bankTest idx false [v] = (none, d))
    (hok : (d.writeExec s.env h.sess r el [v]).1.abort = none)
    (hs : (d.writeExec s.env h.sess r el [v]).2.jq.settle = false) (hd : (d.writeExec s.env h.sess r el [v]).2.pwr.rstDue = none)
    (hP : ∀ t, s.Replied (d.writeExec s.env h.sess r el [v]).2 t → P t) : Leads c s P :=
  leads_request (m := writeMsg h idx el v) (codes := []) _ hc ha.1 (.inl hses)
    (((Dev.operate_eq (m := writeMsg h idx el v) (State.serviceAbort_atRequest ha.1)).trans
      (opWrite_tested ha hr hel hty hacc htest hok)).trans Prod.mk.eta.symm) hs hd fun t ht => hP t ht.toReplied

end

/-- The bank check reads the entries of its bank, the bank's start entry and the columns of the geometry. -/
theorem Dev.bankCheck_congr {d d' : Dev} {bank : Nat} (hdoms : d'.doms = d.doms)
    (hstart : d'.o O.JQ_START_ENTRY bank = d.o O.JQ_START_ENTRY bank) (hgeo : d'.o O.RL_GEOMETRY = d.o O.RL_GEOMETRY) :
    d'.bankCheck bank = d.bankCheck bank := by
  have hent : ∀ i, d'.entry bank i = d.entry bank i := fun i => by
    unfold Dev.entry Dev.domNat
    rw [Dev.domBytes_congr hdoms]
  have hcols : d'.colLimit = d.colLimit := congrArg (1024 * 2 ^ ·) hgeo
  have hfails : d'.entryFails bank = d.entryFails bank := by
    funext i
    simp only [Dev.entryFails, hstart, hcols, hent]
  unfold Dev.bankCheck
  simp only [hent, hfails]

/-! ### A bank above those that the device has -/

/-- A bank's number, of which an element of 12 bits has no room. -/
def farBank : Nat := 4096

theorem domByte_above {d : Dev} {idx el off : Nat} (h : ∀ p ∈ d.doms, p.1 < dkey idx el off) : d.domByte idx el off = domDflt idx off := by
  unfold Dev.domByte
  generalize d.doms = m at h
  induction m with
  | nil => rfl
  | cons p m ih =>
    have := h p List.mem_cons_self
    rw [tget, if_neg (by simp; omega), ih fun q hq => h q (List.mem_cons_of_mem _ hq)]

theorem leNat_zeros (n : Nat) : leNat (List.replicate n (0 : Byte)) = 0 := by
  induction n with
  | zero => rfl
  | succ n ih => simpa [List.replicate_succ, leNat] using ih

/-- Past the bytes that are listed the entries are all zeros. -/
theorem entry_farBank {d : Dev} {i : Nat} (h : ∀ p ∈ d.doms, p.1 < dkey (O.JQ_BANK_0 + farBank) 0 (16 * i)) : d.entry farBank i = 0 := by
  have hz : d.domBytes (O.JQ_BANK_0 + farBank) 0 (16 * i) 16 = List.replicate 16 0 := by
    unfold Dev.domBytes
    rw [List.map_congr_left (g := fun _ => (0 : Byte)) fun j _ => ?_, List.map_const', List.length_range]
    refine (domByte_above fun p hp => Nat.lt_of_lt_of_le (h p hp) (by simp only [dkey]; omega)).trans rfl
  unfold Dev.entry Dev.domNat
  rw [hz, leNat_zeros]

theorem bankCheck_farBank {d : Dev} (h : ∀ p ∈ d.doms, p.1 < dkey (O.JQ_BANK_0 + farBank) 0 32)
    (hend : d.entry farBank 0 ≠ 0 ∧ entKind (d.entry farBank 0) = 2) (h0 : d.entryFails farBank 0 = false)
    (h1 : d.entryFails farBank 1 = false) (hs : d.o O.JQ_START_ENTRY farBank < 2) : d.bankCheck farBank = none := by
  unfold Dev.bankCheck
  rw [if_neg, List.find?_eq_none]
  · intro i _
    match i with
    | 0 => simp [h0]
    | 1 => simp [h1]
    | i + 2 =>
      have hz : d.entry farBank (i + 2) = 0 := entry_farBank fun p hp => Nat.lt_of_lt_of_le (h p hp) (by simp only [dkey]; omega)
      have hne : ¬ i + 2 = d.o O.JQ_START_ENTRY farBank := by omega
      simp [Dev.entryFails, hz, hne, isShot]
  · rw [Bool.not_eq_true', Bool.not_eq_false, List.any_eq_true]
    exact ⟨0, List.mem_range.mpr (by omega), by simp [hend]⟩

/-- A device in READY whose active bank is `farBank`, which holds an END with a link to a SHOT. The result of the last bank check, 1,
stands where the start entry of `farBank` is read. -/
def farDev : Dev :=
  (((((Dev.so { pwr := { mode := .up, fabric := true } } O.SU_STATE 0 7).so O.RL_STATE 0 2).so O.JQ_ACTIVE_BANK 0 farBank).so
    O.JQ_SWAP_FAULT_ENTRY 0 1).setDom (O.JQ_BANK_0 + farBank) 0 0 (leBytes 16 (2 * 2 ^ 17 + 1) ++ leBytes 16 (2 ^ 75 + 2 ^ 59 + 2 ^ 16)))

def farState : State := { part := partAtReset, clock := { time := 3000000000000, frac := 0 }, pending := [], dev := farDev }

def farHdr : Hdr := { sess := 0, epoch := 0, seq := 1 }

theorem farDev_passes : farDev.bankCheck farBank = none :=
  bankCheck_farBank (by decide +kernel) (by decide +kernel) (by decide +kernel) (by decide +kernel) (by decide +kernel)

theorem farState_accepts : Accepts farState farHdr O.JQ_RUN 0 1 := by
  unfold Accepts Served State.Still
  decide +kernel

theorem farState_quiet : farState.Quiet := by
  unfold State.Quiet State.Still
  decide +kernel

/-- The device that executes the write: the bank check that the write runs has passed. -/
def farTested : Dev := (farState.atRequest 0).so O.JQ_SWAP_FAULT_ENTRY 0 0xFFFF

theorem farState_tested : (farState.atRequest 0).bankTest O.JQ_RUN false [1] = (none, farTested) := by
  have hc : (farState.atRequest 0).bankCheck ((farState.atRequest 0).o O.JQ_ACTIVE_BANK) = none :=
    (Dev.bankCheck_congr (d := farDev) (bank := farBank) (by decide +kernel) (by decide +kernel) (by decide +kernel)).trans farDev_passes
  unfold Dev.bankTest
  dsimp only
  rw [if_neg (by decide), if_pos (by decide +kernel), hc]
  rfl

theorem farTested_runs : (farTested.writeExec farState.env farHdr.sess (rowOr O.JQ_RUN) 0 [1]).1.abort = none ∧
    (farTested.writeExec farState.env farHdr.sess (rowOr O.JQ_RUN) 0 [1]).2.jq.settle = false ∧
    (farTested.writeExec farState.env farHdr.sess (rowOr O.JQ_RUN) 0 [1]).2.pwr.rstDue = none ∧
    (farTested.writeExec farState.env farHdr.sess (rowOr O.JQ_RUN) 0 [1]).2.o O.JQ_STATE = 0 := by
  decide +kernel

theorem farState_leads : Leads (.jqRunStart farHdr) farState (fun t => t.dev.o O.JQ_STATE = 0) := by
  obtain ⟨hok, hset, hrst, hstate⟩ := farTested_runs
  exact leads_tested (h := farHdr) (r := rowOr O.JQ_RUN) rfl farState_accepts rfl (by decide) (by decide) (by decide) (by decide)
    farState_tested hok hset hrst fun t ht => (ht.o (by decide) (by decide)).trans hstate

/-- Refutes O16: no premise keeps JQ_ACTIVE_BANK to the two banks. The start entry of bank 4096 has the key of JQ_SWAP_FAULT_ENTRY (a key
has room for elements of 12 bits, R20), so the passed check of the write moves it to an END, and the check of the landing finds that:
Jacquard stays STOPPED where the statement has it start. -/
theorem not_startAndStop : ¬ Obligations.StartAndStop := by
  rintro ⟨hstart, -⟩
  obtain ⟨t, ht, hone, -⟩ := (hstart farState farHdr farState_quiet).1 farState_accepts (by decide +kernel) farDev_passes
  obtain ⟨t', ht', hzero⟩ := farState_leads
  obtain rfl : t = t' := Host.Outcome.next.inj (ht.symm.trans ht')
  exact absurd (hone.symm.trans hzero) (by decide)

end Sys2Proof.Machine
end

section
/-! PROOF. The decode of entries (chapter 03), over what an action leaves unchanged among the elements in force. -/

namespace Sys2Proof.Machine

/-! ### Actions that change some objects alone -/

/-- No element changes but those of some objects. -/
structure Dev.Frame (l : List Nat) (d d' : Dev) : Prop where
  o : ∀ {i el}, el < 4096 → i ∉ l → d'.o i el = d.o i el

namespace Dev.Frame
variable {l l' : List Nat} {d d' d'' : Dev}

theorem refl (l : List Nat) (d : Dev) : Frame l d d := ⟨fun _ _ => rfl⟩

theorem trans (h : Frame l d d') (k : Frame l d' d'') : Frame l d d'' := ⟨fun he hi => (k.o he hi).trans (h.o he hi)⟩

theorem mono (h : Frame l d d') (hl : l ⊆ l') : Frame l' d d' := ⟨fun he hi => h.o he fun hm => hi (hl hm)⟩

/-- An action on other parts of the device. -/
theorem of_objs (h : d'.objs = d.objs) : Frame l d d' := ⟨fun _ _ => Dev.o_congr h _ _⟩

theorem so {i el v : Nat} (hel : el < 4096) (hi : i ∈ l) : Frame l d (d.so i el v) :=
  ⟨fun he hj => Dev.o_so_other (fun h => hj (h ▸ hi)) hel he⟩

theorem inc {i el n : Nat} (hel : el < 4096) (hi : i ∈ l) : Frame l d (d.inc i el n) := so hel hi

theorem log {e : Env} {code loc cls detail : Nat} {inj : Bool} (h : O.FLT_LOST ∈ l) : Frame l d (d.log e code loc cls detail inj) :=
  ⟨fun he hj => Dev.o_log_other (fun h' => hj (h' ▸ h)) he⟩

theorem ite {p : Prop} [Decidable p] {a b : Dev} (ha : Frame l d a) (hb : Frame l d b) : Frame l d (if p then a else b) := by
  split
  · exact ha
  · exact hb

theorem foldl {α : Type} {f : Dev → α → Dev} {xs : List α} (h : ∀ d, ∀ x ∈ xs, Frame l d (f d x)) (d : Dev) : Frame l d (xs.foldl f d) := by
  induction xs generalizing d with
  | nil => exact refl l d
  | cons x xs ih => exact (h d x List.mem_cons_self).trans (ih (fun d y hy => h d y (List.mem_cons_of_mem _ hy)) _)

end Dev.Frame

/-! ### Domains and receive groups -/

/-- The objects that a domain's switching changes. -/
def domIdx : List Nat := [O.PWR_DOM_STATE, O.PWR_DOM_SWITCHES]

theorem Dev.frame_domSet {e : Env} {d : Dev} {n : Nat} {on : Bool} (hn : n < 4096) : Dev.Frame domIdx d (d.domSet e n on) := by
  unfold Dev.domSet Dev.domOn Dev.domOff
  dsimp only
  split
  · split
    · exact Dev.Frame.refl _ _
    · exact ((Dev.Frame.so hn (by decide)).trans (.inc hn (by decide))).trans (.of_objs rfl)
  · exact .so hn (by decide)

/-- Nothing has changed but objects and the starts of ramps. -/
def Dev.Switched (d d' : Dev) : Prop := d' = { d with objs := d'.objs, pwr := { d.pwr with rampAt := d'.pwr.rampAt } }

theorem Dev.Switched.trans {d d' d'' : Dev} (h : Dev.Switched d d') (k : Dev.Switched d' d'') : Dev.Switched d d'' := by
  unfold Dev.Switched at *
  rw [k, h]

theorem Dev.switched_domSet (e : Env) (d : Dev) (n : Nat) (on : Bool) : Dev.Switched d (d.domSet e n on) := by
  unfold Dev.Switched Dev.domSet Dev.domOn Dev.domOff
  dsimp only
  split
  · split
    · rfl
    · rfl
  · rfl

theorem Dev.switched_groupSet (e : Env) (d : Dev) (g st : Nat) : Dev.Switched d (d.groupSet e g st) :=
  (show Dev.Switched d (d.so O.RX_GROUP_STATE g st) from rfl).trans
    ((Dev.switched_domSet e _ g _).trans (Dev.switched_domSet e _ (64 + g / 4) _))

theorem Dev.frame_groupDom {e : Env} {d : Dev} {g : Nat} (hg : g < 32) : Dev.Frame domIdx d (d.groupDom e g) :=
  (Dev.frame_domSet (by omega)).trans (Dev.frame_domSet (by omega))

theorem Dev.o_groupSet {e : Env} {d : Dev} {g st : Nat} (hg : g < 32) : (d.groupSet e g st).o O.RX_GROUP_STATE g = st := by
  unfold Dev.groupSet
  rw [(Dev.frame_groupDom hg).o (by omega) (by decide), Dev.o_so_self]

theorem Dev.frame_groupSet {e : Env} {d : Dev} {g st : Nat} (hg : g < 32) :
    Dev.Frame (O.RX_GROUP_STATE :: domIdx) d (d.groupSet e g st) :=
  (Dev.Frame.so (by omega) List.mem_cons_self).trans ((Dev.frame_groupDom hg).mono (List.subset_cons_self ..))

/-- The objects that a wake request changes. -/
def wakeIdx : List Nat := O.RX_GROUP_WAKES :: O.RX_GROUP_STATE :: domIdx

/-- The wake of a group noted: its time, the state it left, and that no step-down waits. -/
def Dev.wakeNoted (d : Dev) (g now st : Nat) : Dev :=
  { d with rx := { d.rx with wakeAt := tset 0 d.rx.wakeAt g now, wakeFrom := tset 0 d.rx.wakeFrom g st,
                             stepHeld := tset 0 d.rx.stepHeld g 0 } }

theorem Dev.frame_wakeNoted (l : List Nat) (d : Dev) (g now st : Nat) : Dev.Frame l d (d.wakeNoted g now st) := .of_objs rfl

/-- A wake request of a group that is OFF or in STANDBY. -/
theorem Dev.groupWake_asleep {e : Env} {d : Dev} {g : Nat} (h : d.o O.RX_GROUP_STATE g = 0 ∨ d.o O.RX_GROUP_STATE g = 2) :
    d.groupWake e g = ((if d.o O.RX_GROUP_STATE g == 0 then d.inc O.RX_GROUP_WAKES g else d).wakeNoted g e.now
      (d.o O.RX_GROUP_STATE g)).groupSet e g 1 := if_pos (by simpa using h)

/-- A wake request of another group at most withdraws a step-down. -/
theorem Dev.groupWake_awake {e : Env} {d : Dev} {g : Nat} (h : ¬ (d.o O.RX_GROUP_STATE g = 0 ∨ d.o O.RX_GROUP_STATE g = 2)) :
    d.groupWake e g = { d with rx := (d.groupWake e g).rx } := by
  unfold Dev.groupWake
  dsimp only
  rw [if_neg (by simpa using h)]
  split
  · rfl
  · rfl

theorem Dev.frame_groupWake {e : Env} {d : Dev} {g : Nat} (hg : g < 32) : Dev.Frame wakeIdx d (d.groupWake e g) := by
  by_cases h : d.o O.RX_GROUP_STATE g = 0 ∨ d.o O.RX_GROUP_STATE g = 2
  · rw [Dev.groupWake_asleep h]
    have hcount : Dev.Frame wakeIdx d (if d.o O.RX_GROUP_STATE g == 0 then d.inc O.RX_GROUP_WAKES g else d) :=
      .ite (.inc (by omega) (by decide)) (Dev.Frame.refl _ _)
    have hset := (Dev.frame_groupSet (e := e) (d := Dev.wakeNoted (if d.o O.RX_GROUP_STATE g == 0 then d.inc O.RX_GROUP_WAKES g else d)
      g e.now (d.o O.RX_GROUP_STATE g)) (st := 1) hg).mono (l' := wakeIdx) (List.subset_cons_self ..)
    exact (hcount.trans (Dev.frame_wakeNoted ..)).trans hset
  · rw [Dev.groupWake_awake h]
    exact .of_objs rfl

/-- Nothing has changed but objects, the receive groups and the starts of ramps. -/
def Dev.Woken (d d' : Dev) : Prop := d' = { d with objs := d'.objs, rx := d'.rx, pwr := { d.pwr with rampAt := d'.pwr.rampAt } }

theorem Dev.Woken.trans {d d' d'' : Dev} (h : Dev.Woken d d') (k : Dev.Woken d' d'') : Dev.Woken d d'' := by
  unfold Dev.Woken at *
  rw [k, h]

theorem Dev.Switched.woken {d d' : Dev} (h : Dev.Switched d d') : Dev.Woken d d' := by
  unfold Dev.Switched at h
  unfold Dev.Woken
  rw [h]

theorem Dev.woken_groupWake (e : Env) (d : Dev) (g : Nat) : Dev.Woken d (d.groupWake e g) := by
  by_cases h : d.o O.RX_GROUP_STATE g = 0 ∨ d.o O.RX_GROUP_STATE g = 2
  · rw [Dev.groupWake_asleep h]
    refine Dev.Woken.trans ?_ (Dev.switched_groupSet ..).woken
    split
    · rfl
    · rfl
  · rw [Dev.groupWake_awake h]
    rfl

/-- What every step of a fold keeps, the fold keeps. -/
theorem rel_foldl {α : Type} {R : Dev → Dev → Prop} (hrefl : ∀ d, R d d) (htrans : ∀ {a b c}, R a b → R b c → R a c) {f : Dev → α → Dev}
    (h : ∀ d x, R d (f d x)) (xs : List α) (d : Dev) : R d (xs.foldl f d) := by
  induction xs generalizing d with
  | nil => exact hrefl d
  | cons x xs ih => exact htrans (h d x) (ih _)

theorem Dev.woken_wakeLate (e : Env) (d : Dev) (s : Shot) : Dev.Woken d (d.wakeLate e s) := by
  refine rel_foldl (R := Dev.Woken) (fun _ => rfl) Dev.Woken.trans (fun d g => ?_) _ d
  split
  · exact Dev.woken_groupWake ..
  · rfl

theorem Dev.frame_wakeLate (e : Env) (d : Dev) (s : Shot) : Dev.Frame wakeIdx d (d.wakeLate e s) := by
  refine Dev.Frame.foldl (fun d g hg => ?_) d
  have hlt : g < 32 := List.mem_range.mp (List.mem_of_mem_filter hg)
  exact .ite (Dev.frame_groupWake hlt) (Dev.Frame.refl _ _)

/-! ### What a decode hands on -/

theorem Dev.atl_handTargets (e : Env) (d : Dev) (w t : Nat) : d.handTargets e w t = { d with atl := (d.handTargets e w t).atl } := by
  have hadd : ∀ (d : Dev) (s : Nat) (ang : Int), d.addTarget e s ang t = { d with atl := (d.addTarget e s ang t).atl } := by
    intro d s ang
    unfold Dev.addTarget
    split
    · rfl
    · rfl
  unfold Dev.handTargets
  dsimp only
  split
  · rw [hadd]
  · rw [hadd, hadd]

/-- Nothing has changed but Ringlet. -/
def Dev.OnlyRl (d d' : Dev) : Prop := d' = { d with rl := d'.rl }

theorem Dev.onlyRl_touch (d : Dev) (blk : Nat) : Dev.OnlyRl d (d.touch blk) := by
  unfold Dev.OnlyRl Dev.touch
  split
  · rfl
  · rfl

theorem Dev.rl_prefetch (d : Dev) (col chans : Nat) : Dev.OnlyRl d (d.prefetch col chans) := by
  unfold Dev.prefetch
  split
  · rfl
  · refine rel_foldl (R := Dev.OnlyRl) (fun _ => rfl) (fun h k => ?_) (fun d c => ?_) _ d
    · unfold Dev.OnlyRl at *
      rw [k, h]
    · dsimp only
      split
      · exact Dev.onlyRl_touch ..
      · split
        · rfl
        · rfl

/-! ### One shot decoded -/

/-- No element has changed but those of some objects, and Jacquard and a reset that waits are as before. -/
structure Dev.Beside (l : List Nat) (d d' : Dev) : Prop extends Dev.Frame l d d' where
  jq : d'.jq = d.jq
  rstDue : d'.pwr.rstDue = d.pwr.rstDue

namespace Dev.Beside
variable {l l' : List Nat} {d d' d'' : Dev}

theorem refl (l : List Nat) (d : Dev) : Beside l d d := ⟨.refl l d, rfl, rfl⟩

theorem trans (h : Beside l d d') (k : Beside l d' d'') : Beside l d d'' :=
  ⟨h.toFrame.trans k.toFrame, k.jq.trans h.jq, k.rstDue.trans h.rstDue⟩

theorem mono (h : Beside l d d') (hl : l ⊆ l') : Beside l' d d' := ⟨h.toFrame.mono hl, h.jq, h.rstDue⟩

theorem ite {p : Prop} [Decidable p] {a b : Dev} (ha : Beside l d a) (hb : Beside l d b) : Beside l d (if p then a else b) := by
  split
  · exact ha
  · exact hb

theorem so {i el v : Nat} (hel : el < 4096) (hi : i ∈ l) : Beside l d (d.so i el v) := ⟨.so hel hi, rfl, rfl⟩

theorem inc {i el n : Nat} (hel : el < 4096) (hi : i ∈ l) : Beside l d (d.inc i el n) := ⟨.inc hel hi, rfl, rfl⟩

theorem log {e : Env} {code loc cls detail : Nat} {inj : Bool} (h : O.FLT_LOST ∈ l) : Beside l d (d.log e code loc cls detail inj) :=
  ⟨.log h, Dev.jq_log .., congrArg Pwr.rstDue (Dev.pwr_log ..)⟩

end Dev.Beside

theorem Dev.beside_wakeLate (e : Env) (d : Dev) (s : Shot) : Dev.Beside wakeIdx d (d.wakeLate e s) :=
  ⟨Dev.frame_wakeLate e d s, by rw [Dev.woken_wakeLate e d s], by rw [Dev.woken_wakeLate e d s]⟩

theorem Dev.beside_handTargets (e : Env) (d : Dev) (w t : Nat) : Dev.Beside [] d (d.handTargets e w t) :=
  ⟨.of_objs (by rw [Dev.atl_handTargets]), by rw [Dev.atl_handTargets], by rw [Dev.atl_handTargets]⟩

theorem Dev.beside_prefetch (d : Dev) (col chans : Nat) : Dev.Beside [] d (d.prefetch col chans) :=
  ⟨.of_objs (by rw [Dev.rl_prefetch]), by rw [Dev.rl_prefetch], by rw [Dev.rl_prefetch]⟩

/-- The dither of a shot of an entry (R172, R173). -/
def Dev.ditherOf (d : Dev) (w : Nat) : Nat :=
  if entNoDither w then 0 else ditherNs (lfsrDraw 10 (lfsrDraw 2 d.jq.lfsr 0).2 0).1 (d.o O.JQ_DITHER_SPAN)

/-- The objects that the decode of a shot changes. -/
def shotIdx : List Nat := [O.JQ_SHOTS, O.JQ_MOVED, O.JQ_FRAME_OVERRUN, O.JQ_SUPP_THROTTLE] ++ wakeIdx

/-- What the decode of a shot without an accumulation group leaves: the shot queued last, and its count. -/
structure ShotDecoded (w rep : Nat) (d d' : Dev) : Prop where
  shot : ∃ sh, d'.jq.queue = d.jq.queue ++ [sh] ∧ sh.ent = w ∧ sh.move = false ∧ sh.dither = d.ditherOf w ∧
    sh.planned = (d.planOf d.jq.plan d.jq.origin w rep (3 * d.ditherOf w)).planned
  next : d'.jq.next = d.jq.next
  settle : d'.jq.settle = d.jq.settle
  rstDue : d'.pwr.rstDue = d.pwr.rstDue
  shots : d'.o O.JQ_SHOTS = ctrAdd O.JQ_SHOTS 0 (d.o O.JQ_SHOTS) 1
  frame : Dev.Frame shotIdx d d'

theorem Dev.accTake_single {e : Env} {d : Dev} {s : Shot} {chans : Nat} (h : entAcc s.ent = 0) :
    d.accTake e s chans = { d with jq := { d.jq with queue := d.jq.queue ++ [s] } } := if_pos (by rw [h]; rfl)

theorem Dev.decodeShot_queues {e : Env} {d : Dev} {w bank idx rep : Nat} (hacc : entAcc w = 0) :
    ShotDecoded w rep d (d.decodeShot e w bank idx rep) := by
  unfold Dev.decodeShot
  lift_lets
  extract_lets t r thin dit p first change d1 d2 d3 d4 s jq5 d5 d6 s6
  have hcount : Dev.Beside [O.JQ_MOVED, O.JQ_FRAME_OVERRUN, O.JQ_SUPP_THROTTLE] d1 d4 :=
    ((Dev.Beside.ite (.inc (by decide) (by decide)) (.refl _ _)).trans
      (Dev.Beside.ite (.inc (by decide) (by decide)) (.refl _ _))).trans (.ite (.inc (by decide) (by decide)) (.refl _ _))
  have hhand : Dev.Beside [] d5 d6 := (Dev.beside_handTargets ..).trans (Dev.beside_prefetch ..)
  have hwake := Dev.beside_wakeLate e (d6.accTake e s6 s6.chans) s6
  have htake := Dev.accTake_single (e := e) (d := d6) (s := s6) (chans := s6.chans) hacc
  have hjq : (Dev.wakeLate e (d6.accTake e s6 s6.chans) s6).jq =
      { d.jq with lfsr := r.2, plan := p.ref, firstDue := false, hseq := s.hseq, queue := d.jq.queue ++ [s6] } := by
    rw [hwake.jq, htake, hhand.jq]
    show { ({ d4.jq with lfsr := r.2, plan := p.ref, firstDue := false, hseq := s.hseq } : Jq) with queue := d4.jq.queue ++ [s6] } = _
    rw [hcount.jq]
    rfl
  have hframe : Dev.Frame ([O.JQ_MOVED, O.JQ_FRAME_OVERRUN, O.JQ_SUPP_THROTTLE] ++ wakeIdx) d1
      (Dev.wakeLate e (d6.accTake e s6 s6.chans) s6) :=
    (((hcount.toFrame.mono (List.subset_append_left ..)).trans (.of_objs (d' := d5) rfl)).trans (hhand.toFrame.mono (List.nil_subset _))).trans
      ((Dev.Frame.of_objs (by rw [htake])).trans (hwake.toFrame.mono (List.subset_append_right ..)))
  refine ⟨⟨s6, ?_, rfl, rfl, rfl, rfl⟩, ?_, ?_, ?_, ?_, ?_⟩
  · rw [hjq]
  · rw [hjq]
  · rw [hjq]
  · rw [hwake.rstDue, htake]
    exact (hhand.rstDue.trans hcount.rstDue)
  · rw [hframe.o (by decide) (by decide)]
    exact Dev.o_inc_self ..
  · exact (Dev.Frame.inc (by decide) (by decide)).trans (hframe.mono (List.subset_cons_self ..))

/-! ### An entry decoded -/

theorem Dev.dropMoves_nil {d : Dev} {done : Shot → Bool} (h : d.jq.queue = []) : d.dropMoves done = d := by
  unfold Dev.dropMoves
  rw [h]
  show { d with jq := { d.jq with queue := [] } } = d
  rw [← h]

/-- Between the ends of frames the walk goes on where the queue is empty. -/
theorem Dev.entryDecode_walks {e : Env} {d : Dev} {ecc : Nat} (hstate : d.o O.JQ_STATE ≠ 0) (hdec : d.jq.decoding = true)
    (hnew : d.jq.newFrame = false) (hqueue : d.jq.queue = []) (htimely : d.decodeTimely e ecc = true) :
    d.entryDecode e ecc = (d.decodeEntry e ecc).stopCheck e := by
  have hat : d.decodeAt = some d := if_neg (by rw [hnew]; decide)
  have hroom : d.queued = 0 := by
    unfold Dev.queued
    rw [hqueue]
    rfl
  unfold Dev.entryDecode
  dsimp only
  rw [Dev.dropMoves_nil hqueue, if_neg (by simp [hstate, hdec, hroom]), hat]
  exact if_pos htimely

theorem Dev.stopCheck_running {e : Env} {d : Dev} (h : d.o O.JQ_STATE ≠ 3) : d.stopCheck e = d :=
  if_neg (by simp [h])

/-- The device as an entry is decoded: the place of the walk and the throttle level shown, the entry numbered. -/
def Dev.entryBegun (d : Dev) : Dev :=
  let d' := (d.so O.JQ_READ_PTR 0 (32768 * d.jq.bank + d.jq.next)).so O.JQ_THROTTLE_LEVEL 0 d.throttle
  { d' with jq := { d.jq with ord := d.jq.ord + 1 } }

theorem Dev.frame_entryBegun (d : Dev) : Dev.Frame [O.JQ_READ_PTR, O.JQ_THROTTLE_LEVEL] d d.entryBegun :=
  ((Dev.Frame.so (by decide) (by decide)).trans (.so (by decide) (by decide))).trans (.of_objs rfl)

theorem Dev.o_entryBegun_readPtr (d : Dev) : d.entryBegun.o O.JQ_READ_PTR = 32768 * d.jq.bank + d.jq.next := by
  rw [Dev.o_congr (show d.entryBegun.objs = ((d.so O.JQ_READ_PTR 0 (32768 * d.jq.bank + d.jq.next)).so O.JQ_THROTTLE_LEVEL 0
    d.throttle).objs from rfl), Dev.o_so_other (by decide) (by decide) (by decide), Dev.o_so_self]

theorem Dev.accCloseAll_nil {e : Env} {d : Dev} (h : d.jq.acc = []) : d.accCloseAll e = d := by
  unfold Dev.accCloseAll
  rw [h]
  rfl

/-- A frame has ended at an entry that links to another. -/
def Dev.entryEnded (d : Dev) (link : Nat) : Dev := { d.entryBegun with
  jq := { d.entryBegun.jq with next := link, newFrame := true, decoding := d.entryBegun.o O.JQ_STATE != 3 } }

theorem Dev.o_entryEnded (d : Dev) (link i el : Nat) : (d.entryEnded link).o i el = d.entryBegun.o i el := rfl

theorem Dev.jq_entryEnded (d : Dev) (link : Nat) : (d.entryEnded link).jq = { d.jq with
  ord := d.jq.ord + 1, next := link, newFrame := true, decoding := d.entryBegun.o O.JQ_STATE != 3 } := rfl

theorem Dev.pwr_entryEnded (d : Dev) (link : Nat) : (d.entryEnded link).pwr = d.pwr := rfl

/-- The decode of an END, where no accumulation group is open (R166). -/
theorem Dev.decodeEntry_end {e : Env} {d : Dev} {w : Nat} (hw : d.entry d.jq.bank d.jq.next = w) (hkind : entKind w = 2)
    (hacc : d.jq.acc = []) : d.decodeEntry e 0 = d.entryEnded (entLink w) := by
  have hne : w ≠ 0 := by rintro rfl; exact absurd hkind (by decide)
  have hclose : d.entryBegun.accCloseAll e = d.entryBegun := Dev.accCloseAll_nil hacc
  have heq : d.decodeEntry e 0 = d.entryBegun.frameEnd e (entLink w) := by
    unfold Dev.decodeEntry
    dsimp only
    rw [hw, if_neg (by decide), if_neg (by simpa using hne), if_pos (by simp [hkind])]
    rfl
  rw [heq]
  unfold Dev.frameEnd
  rw [hclose]
  rfl

/-- The decode of a SHOT without repeats (R165, R166). -/
theorem Dev.decodeEntry_shot {e : Env} {d : Dev} {w : Nat} (hw : d.entry d.jq.bank d.jq.next = w) (hshot : isShot w = true)
    (hrep : entRepeat w = 0) : d.decodeEntry e 0 = (d.entryBegun.decodeShot e w d.jq.bank d.jq.next 0).advance := by
  simp only [isShot, Bool.and_eq_true, bne_iff_ne, beq_iff_eq] at hshot
  obtain ⟨hne, hkind⟩ := hshot
  unfold Dev.decodeEntry
  dsimp only
  rw [hw, if_neg (by decide), if_neg (by simpa using hne), if_neg (by simp [hkind]), if_neg (by simp [hkind]), hrep]
  rfl

theorem Dev.advance_keeps (d : Dev) : d.advance.jq = { d.jq with next := (d.jq.next + 1) % 32768 } ∧
    d.advance.pwr = d.pwr ∧ Dev.Frame [O.JQ_BANK_WRAP] d d.advance := by
  unfold Dev.advance
  dsimp only
  split
  · exact ⟨rfl, rfl, (Dev.Frame.inc (by decide) (by decide)).trans (.of_objs rfl)⟩
  · exact ⟨rfl, rfl, .of_objs rfl⟩

/-- The plan reads the end of the last window, the blank time and the dark time. -/
theorem Dev.planOf_congr {d d' : Dev} {ref : PlanRef} {f w rep dit : Nat} (hstart : d'.jq.start = d.jq.start)
    (hblank : d'.o O.EM_BLANK_NS = d.o O.EM_BLANK_NS) (hdark : d'.o O.RJ_DARK_NS = d.o O.RJ_DARK_NS) :
    d'.planOf ref f w rep dit = d.planOf ref f w rep dit := by
  have hear : d'.earliest ref = d.earliest ref := by
    funext an
    simp only [Dev.earliest, Dev.prefireCp, hstart, hblank, hdark]
  unfold Dev.planOf
  rw [hear]

section
variable {s : State}

theorem entryDecode_end (hq : s.Quiet) (hstate : s.dev.o O.JQ_STATE = 2) (hdec : s.dev.jq.decoding = true)
    (hnew : s.dev.jq.newFrame = false) (hqueue : s.dev.jq.queue = []) (hacc : s.dev.jq.acc = [])
    (hkind : entKind (s.dev.entry s.dev.jq.bank s.dev.jq.next) = 2) :
    Leads (.entryDecode 0) s (fun t => t.dev.jq.next = entLink (s.dev.entry s.dev.jq.bank s.dev.jq.next) ∧
      t.dev.jq.newFrame = true ∧ t.dev.o O.JQ_READ_PTR = 32768 * s.dev.jq.bank + s.dev.jq.next) := by
  have htimely : s.begun.decodeTimely s.env 0 = true := by
    unfold Dev.decodeTimely
    simp [show s.begun.entry s.dev.jq.bank s.dev.jq.next = s.dev.entry s.dev.jq.bank s.dev.jq.next from rfl, hkind]
  have hdecode := Dev.decodeEntry_end (e := s.env) (d := s.begun) rfl hkind hacc
  have hframe := s.begun.frame_entryBegun
  have hrun := Dev.entryDecode_walks (e := s.env) (d := s.begun) (ecc := 0) (by simp [hstate]) hdec hnew hqueue htimely
  rw [hdecode, Dev.stopCheck_running ?_] at hrun
  · refine leads_ends (f := fun e d => d.entryDecode e 0) _ hq rfl hrun ?_ ?_ fun t ht => ⟨?_, ?_, ?_⟩
    · rw [Dev.jq_entryEnded]
      exact hq.1
    · rw [Dev.pwr_entryEnded]
      exact hq.2.1
    · rw [ht.jq, Dev.jq_entryEnded]
      rfl
    · rw [ht.jq, Dev.jq_entryEnded]
    · rw [ht.o, Dev.o_entryEnded]
      exact s.begun.o_entryBegun_readPtr
  · rw [Dev.o_entryEnded, hframe.o (by decide) (by decide), State.o_begun, hstate]
    decide

theorem entryDecode_shot {w : Nat} (hq : s.Quiet) (hstate : s.dev.o O.JQ_STATE = 2) (hdec : s.dev.jq.decoding = true)
    (hnew : s.dev.jq.newFrame = false) (hqueue : s.dev.jq.queue = []) (hw : s.dev.entry s.dev.jq.bank s.dev.jq.next = w)
    (hshot : isShot w = true) (hrep : entRepeat w = 0) (hacc : entAcc w = 0) (htimely : Dev.decodeTimely s.env s.dev 0 = true)
    (hdither : entNoDither w = true) :
    Leads (.entryDecode 0) s (fun t => ∃ sh, t.dev.jq.queue = [sh] ∧ sh.ent = w ∧ sh.move = false ∧ sh.dither = 0 ∧
      sh.planned = (s.dev.planOf s.dev.jq.plan s.dev.jq.origin w 0 0).planned ∧
      t.dev.o O.JQ_SHOTS = ctrAdd O.JQ_SHOTS 0 (s.dev.o O.JQ_SHOTS) 1 ∧ t.dev.jq.next = (s.dev.jq.next + 1) % 32768) := by
  have hbegun := s.begun.frame_entryBegun
  obtain ⟨⟨sh, hsq, hent, hmove, hdit, hplan⟩, hnext, hset, hrst, hshots, hframe⟩ :=
    Dev.decodeShot_queues (e := s.env) (d := s.begun.entryBegun) (bank := s.begun.jq.bank) (idx := s.begun.jq.next) (rep := 0) hacc
  have hdecode := Dev.decodeEntry_shot (e := s.env) (d := s.begun) hw hshot hrep
  have hrun := Dev.entryDecode_walks (e := s.env) (d := s.begun) (ecc := 0) (by simp [hstate]) hdec hnew hqueue htimely
  have hzero : s.begun.entryBegun.ditherOf w = 0 := if_pos hdither
  generalize s.begun.entryBegun.decodeShot s.env w s.begun.jq.bank s.begun.jq.next 0 = d at *
  obtain ⟨hjq, hpwr, hadv⟩ := d.advance_keeps
  have hrunning : d.advance.o O.JQ_STATE = 2 := by
    rw [hadv.o (by decide) (by decide), hframe.o (by decide) (by decide), hbegun.o (by decide) (by decide), State.o_begun, hstate]
  rw [hdecode, Dev.stopCheck_running (by rw [hrunning]; decide)] at hrun
  refine leads_ends (f := fun e d => d.entryDecode e 0) d.advance hq rfl hrun ?_ ?_ fun t ht => ⟨sh, ?_, hent, hmove, ?_, ?_, ?_, ?_⟩
  · rw [hjq]
    exact hset.trans hq.1
  · rw [hpwr]
    exact hrst.trans hq.2.1
  · rw [ht.jq, hjq]
    exact hsq.trans (congrArg (· ++ [sh]) hqueue)
  · rw [hdit, hzero]
  · rw [hplan, hzero]
    exact congrArg Plan.planned (Dev.planOf_congr rfl (hbegun.o (by decide) (by decide)) (hbegun.o (by decide) (by decide)))
  · rw [ht.o, hadv.o (by decide) (by decide), hshots, hbegun.o (by decide) (by decide), State.o_begun]
  · rw [ht.jq, hjq]
    exact congrArg (fun n => (n + 1) % 32768) hnext

/-- Settles O17: an END ends the frame, a SHOT is queued and the walk goes on. -/
theorem entriesDecode : Obligations.EntriesDecode :=
  fun _ hq hstate hdec hnew hqueue hacc => ⟨fun hkind => entryDecode_end hq hstate hdec hnew hqueue hacc hkind,
    fun _ hw hshot hrep ha htimely hdither => entryDecode_shot hq hstate hdec hnew hqueue hw hshot hrep ha htimely hdither⟩

end

end Sys2Proof.Machine
end

section
/-! PROOF. The power states of receive groups (chapter 06), and a wake whose waiting repair finds the logger full. -/

namespace Sys2Proof.Machine

/-! ### A command's end, tested -/

/-- The command ends in a state that passes a test. -/
def endsWith (c : Instr) (s : State) (p : State → Bool) : Bool :=
  match exec c s with
  | .next t => p t
  | _ => false

theorem Leads.endsWith {c : Instr} {s : State} {P : State → Prop} {p : State → Bool} (h : Leads c s P) (hp : ∀ t, P t → p t = true) :
    endsWith c s p = true := by
  obtain ⟨t, ht, hP⟩ := h
  unfold Machine.endsWith
  rw [ht]
  exact hp t hP

/-! ### A group's wake lands a repair while the logger is full -/

/-- Receive group 0 wakes from STANDBY; a repair of position 3 waits for its Skipper, channel 0 is served by a FAULTY slice, and the
logger holds its 64 entries. -/
def repairDev : Dev :=
  { (Dev.so {} O.RX_GROUP_STATE 0 1).so O.RX_SLICE_STATUS 0 1 with
    shadows := [(okey O.RX_REPAIR 0, some 3)]
    rx := { wakeFrom := [(0, 2)] }
    flt := { held := List.replicate 64 { time := 0, loc := 0, code := 0x0502, cls := 2, injected := false, detail := 0, reps := 0 } } }

def repairState : State := { State.reset with clock := { time := 3000000000000, frac := 0 }, dev := repairDev }

theorem repairState_quiet : repairState.Quiet := by
  unfold State.Quiet State.Still
  decide +kernel

/-- Refutes O55: a wake lets a repair land that waited for the Skipper, and the channels that it leaves without records are logged
(R340, R574); the logger of `repairState` is full, so that FLT_LOST counts, which `receiveFrame` does not list for the wake's end. -/
theorem not_shotPathEventsKeepTheRest : ¬ Obligations.ShotPathEventsKeepTheRest := by
  rintro ⟨-, h⟩
  have hend := (h repairState (.groupWakeDone 0 true) _ repairState_quiet (by decide) rfl).endsWith (p := fun t => t.dev.o O.FLT_LOST == 0)
    fun t ⟨ho, _⟩ => by rw [ho _ _ (by decide) (by decide)]; decide
  exact absurd hend (by decide +kernel)

/-! ### What keeps the states of the groups -/

/-- Jacquard, a reset that waits and the states of the receive groups are as before. -/
structure Dev.GroupsKept (d d' : Dev) : Prop where
  jq : d'.jq = d.jq
  rstDue : d'.pwr.rstDue = d.pwr.rstDue
  state : ∀ g, g < 4096 → d'.o O.RX_GROUP_STATE g = d.o O.RX_GROUP_STATE g

namespace Dev.GroupsKept
variable {d d' d'' : Dev}

theorem refl (d : Dev) : GroupsKept d d := ⟨rfl, rfl, fun _ _ => rfl⟩

theorem trans (h : GroupsKept d d') (k : GroupsKept d' d'') : GroupsKept d d'' :=
  ⟨k.jq.trans h.jq, k.rstDue.trans h.rstDue, fun g hg => (k.state g hg).trans (h.state g hg)⟩

/-- An object of a higher index: its key lies above those of the states, whatever the element. -/
theorem so {i el v : Nat} (hi : O.RX_GROUP_STATE < i) : GroupsKept d (d.so i el v) :=
  ⟨rfl, rfl, fun g hg => Dev.o_so_key (by simp only [okey]; omega)⟩

theorem inc {i el n : Nat} (hi : O.RX_GROUP_STATE < i) : GroupsKept d (d.inc i el n) := so hi

theorem ite {p : Prop} [Decidable p] {a b : Dev} (ha : GroupsKept d a) (hb : GroupsKept d b) : GroupsKept d (if p then a else b) := by
  split
  · exact ha
  · exact hb

theorem log {e : Env} {code loc cls detail : Nat} {inj : Bool} : GroupsKept d (d.log e code loc cls detail inj) :=
  ⟨Dev.jq_log .., congrArg Pwr.rstDue (Dev.pwr_log ..), fun _ hg => Dev.o_log_other (by decide) hg⟩

theorem foldl {α : Type} {f : Dev → α → Dev} (h : ∀ d x, GroupsKept d (f d x)) (xs : List α) (d : Dev) : GroupsKept d (xs.foldl f d) :=
  rel_foldl refl trans h xs d

end Dev.GroupsKept

theorem Dev.kept_serveThese (d : Dev) (ready : List SwitchReq) : Dev.GroupsKept d (d.serveThese ready) := by
  have hserve : ∀ (d : Dev) (r : SwitchReq), Dev.GroupsKept d (d.serve r.chan r.slice) := fun d r =>
    .ite ((Dev.GroupsKept.so (by decide)).trans (.inc (by decide))) (.so (by decide))
  have hdone : ∀ (d : Dev) (r : SwitchReq), Dev.GroupsKept d (d.serveDone (r.chan / 16)) := fun d r =>
    .ite (.refl d) ⟨rfl, rfl, fun _ _ => rfl⟩
  have hqueue : Dev.GroupsKept d { d with rx := { d.rx with switches := d.rx.switches.filter (fun r => !ready.contains r) } } :=
    ⟨rfl, rfl, fun _ _ => rfl⟩
  exact (hqueue.trans (.foldl hserve ready _)).trans (.foldl hdone ready _)

theorem Dev.kept_serveReq (d : Dev) (ch s : Nat) : Dev.GroupsKept d (d.serveReq ch s) := by
  have hqueue : Dev.GroupsKept d { d with rx := { d.rx with switches := d.rx.switches.filter (fun r => r.chan != ch) ++
    [{ chan := ch, slice := s }] } } := ⟨rfl, rfl, fun _ _ => rfl⟩
  exact .ite (hqueue.trans (Dev.kept_serveThese ..)) hqueue

theorem Dev.kept_takeBack (d : Dev) (g : Nat) : Dev.GroupsKept d (d.takeBack g) := by
  unfold Dev.takeBack
  split
  · exact .ite (.refl d) ⟨rfl, rfl, fun _ _ => rfl⟩
  · exact Dev.kept_serveReq ..

theorem Dev.kept_domSet {e : Env} {d : Dev} {n : Nat} {on : Bool} (hn : n < 4096) : Dev.GroupsKept d (d.domSet e n on) :=
  ⟨by rw [Dev.switched_domSet e d n on], by rw [Dev.switched_domSet e d n on], fun _ hg => (Dev.frame_domSet hn).o hg (by decide)⟩

/-- The step-down of a group that is OFF or FAILED. -/
theorem Dev.kept_groupIdle {e : Env} {d : Dev} {g : Nat} (h : d.o O.RX_GROUP_STATE g = 4) : Dev.GroupsKept d (d.groupIdle e g) := by
  have hdown : ∀ off, Dev.GroupsKept d (d.groupDown e g off) := fun off => by
    unfold Dev.groupDown
    dsimp only
    rw [h]
    exact .ite (.refl d) (.refl d)
  unfold Dev.groupIdle
  dsimp only
  refine .ite (hdown _) (.ite (.refl d) ?_)
  split
  · exact hdown _
  · exact .ite (.refl d) (.ite (hdown _) (hdown _))

theorem Dev.kept_calHoldOff {e : Env} {d : Dev} {g : Nat} (hg : g < 32) (h : d.o O.RX_GROUP_STATE g = 4) :
    Dev.GroupsKept d (d.calHoldOff e g) := by
  have hoff : Dev.GroupsKept d { d with rx := { d.rx with calHold := setBit d.rx.calHold g false } } := ⟨rfl, rfl, fun _ _ => rfl⟩
  have href := hoff.trans (Dev.kept_domSet (e := e) (n := 85)
    (on := ({ d with rx := { d.rx with calHold := setBit d.rx.calHold g false } } : Dev).rx.calHold != 0) (by decide))
  exact (href.trans (Dev.kept_groupIdle ((href.state g (by omega)).trans h))).trans
    ((Dev.kept_domSet (by omega)).trans (Dev.kept_domSet (by omega)))

/-- A pass of a FAILED group is dropped (R562). -/
theorem Dev.kept_calDrop {e : Env} {d : Dev} {g : Nat} (hg : g < 32) (h : d.o O.RX_GROUP_STATE g = 4) :
    Dev.GroupsKept d (d.calDrop e g) := by
  have hdue : Dev.GroupsKept d ((d.setPass g none).calDue g) := ⟨rfl, rfl, fun _ _ => rfl⟩
  unfold Dev.calDrop
  refine .ite (.refl d) ?_
  have hback := hdue.trans (Dev.GroupsKept.ite (p := (tget 0 ((d.setPass g none).calDue g).rx.holder g == 1) = true)
    (Dev.kept_takeBack ((d.setPass g none).calDue g) g) (.refl _))
  exact hback.trans (Dev.kept_calHoldOff hg ((hback.state g (by omega)).trans h))

theorem Dev.kept_repairLost (e : Env) (d : Dev) (g : Nat) : Dev.GroupsKept d (d.repairLost e g) := by
  refine .foldl (fun d pos => ?_) _ d
  exact .ite (.refl d) ((show Dev.GroupsKept d { d with cal := { d.cal with noRepair := setBit d.cal.noRepair (16 * g + pos) true } } from
    ⟨rfl, rfl, fun _ _ => rfl⟩).trans .log)

theorem Dev.kept_repairLand (e : Env) (d : Dev) (g v : Nat) : Dev.GroupsKept d (d.repairLand e g v) := by
  unfold Dev.repairLand
  lift_lets
  extract_lets old c d1 rx1 d2 d3 c' rx3 d4 d5
  have h1 : Dev.GroupsKept d d1 := (Dev.GroupsKept.so (by decide)).trans (.so (by decide))
  have h2 : Dev.GroupsKept d d2 := .ite (h1.trans ⟨rfl, rfl, fun _ _ => rfl⟩) (.refl d)
  have h3 : Dev.GroupsKept d d3 := h2.trans (.so (by decide))
  have h4 : Dev.GroupsKept d d4 := h3.trans ⟨rfl, rfl, fun _ _ => rfl⟩
  have h5 : Dev.GroupsKept d d5 := .ite (((h4.trans (.so (by decide))).trans (.so (by decide))).trans (.inc (by decide))) h3
  exact h5.trans (Dev.kept_repairLost ..)

theorem Dev.kept_repairSettle (e : Env) (d : Dev) (g : Nat) : Dev.GroupsKept d (d.repairSettle e g) := by
  unfold Dev.repairSettle
  split
  case h_1 v _ =>
    exact .ite ((show Dev.GroupsKept d { d with shadows := tset none d.shadows (okey O.RX_REPAIR g) none } from
      ⟨rfl, rfl, fun _ _ => rfl⟩).trans (Dev.kept_repairLand ..)) (.refl d)
  · exact .refl d

/-! ### Wakes, and a group tried again -/

section
variable {s : State} {g : Nat}

theorem wakeRequest_wakes {sh : Shot} (hq : s.Quiet) (hg : g < 32)
    (hfind : s.dev.jq.queue.find? (fun x => s.dev.shotLights s.env x g) = some sh) (hdue : s.dev.wakeDue s.env sh g = true)
    (hstate : s.dev.o O.RX_GROUP_STATE g = 0 ∨ s.dev.o O.RX_GROUP_STATE g = 2) :
    Leads (.wakeRequest g) s (fun t => t.dev.o O.RX_GROUP_STATE g = 1 ∧ tget 0 t.dev.rx.wakeAt g = s.clock.time ∧
      tget 0 t.dev.rx.wakeFrom g = s.dev.o O.RX_GROUP_STATE g) := by
  have hrun : s.begun.wakeRequest s.env g = s.begun.groupWake s.env g := by
    unfold Dev.wakeRequest
    rw [show s.begun.jq.queue.find? (fun x => s.begun.shotLights s.env x g) = some sh from hfind]
    exact if_pos hdue
  have hwoken := Dev.woken_groupWake s.env s.begun g
  refine leads_ends (f := fun e d => d.wakeRequest e g) _ hq rfl hrun ?_ ?_ fun t ht => ?_
  · rw [hwoken]
    exact hq.1
  · rw [hwoken]
    exact hq.2.1
  · rw [ht.o, ht.rx, Dev.groupWake_asleep (d := s.begun) hstate, Dev.o_groupSet hg, Dev.switched_groupSet]
    exact ⟨rfl, tget_tset_self .., tget_tset_self ..⟩

omit s g in
theorem Dev.groupWakeDone_eq {e : Env} {d : Dev} {g : Nat} {ok : Bool} (hstate : d.o O.RX_GROUP_STATE g = 1)
    (hheld : tget 0 d.rx.stepHeld g = 0)
    (hdue : ¬ (if tget 0 d.rx.wakeFrom g == 0 then !ok || decide (e.now < tget 0 d.rx.wakeAt g + 60000)
      else decide (e.now < tget 0 d.rx.wakeAt g + 300)) = true) :
    d.groupWakeDone e g ok = Dev.groupSet e { d with rx := { d.rx with stepHeld := tset 0 d.rx.stepHeld g 0 } } g 3 := by
  unfold Dev.groupWakeDone
  dsimp only
  rw [if_neg (by simp [hstate]), if_neg hdue, if_pos (by simp [hheld])]

/-- A wake that has ended with no step-down held, in a group without a pass (R182, R321). -/
theorem groupWakeDone_ends {ok : Bool} (hq : s.Quiet) (hg : g < 32) (hstate : s.dev.o O.RX_GROUP_STATE g = 1)
    (hheld : tget 0 s.dev.rx.stepHeld g = 0) (hpass : s.dev.calPass g = none)
    (hdue : ¬ (if tget 0 s.begun.rx.wakeFrom g == 0 then !ok || decide (s.env.now < tget 0 s.begun.rx.wakeAt g + 60000)
      else decide (s.env.now < tget 0 s.begun.rx.wakeAt g + 300)) = true) :
    Leads (.groupWakeDone g ok) s (fun t => t.dev.o O.RX_GROUP_STATE g = 3) := by
  obtain ⟨x, hx⟩ : ∃ x : Dev, x = { s.begun with rx := { s.begun.rx with stepHeld := tset 0 s.begun.rx.stepHeld g 0 } } := ⟨_, rfl⟩
  have hdone : s.begun.groupWakeDone s.env g ok = x.groupSet s.env g 3 :=
    (Dev.groupWakeDone_eq (d := s.begun) hstate hheld hdue).trans (by rw [hx])
  have hset := Dev.switched_groupSet s.env x g 3
  have hnone : (x.groupSet s.env g 3).calPass g = none := by
    unfold Dev.calPass
    rw [hset, hx]
    exact hpass
  have hkept := Dev.kept_repairSettle s.env (x.groupSet s.env g 3) g
  have hrun : (s.begun.groupWakeDone s.env g ok).calAdvance s.env g = (x.groupSet s.env g 3).repairSettle s.env g := by
    unfold Dev.calAdvance
    rw [hdone, hnone]
  refine leads_ends (f := fun e d => (d.groupWakeDone e g ok).calAdvance e g) _ hq rfl hrun ?_ ?_ fun t ht => ?_
  · rw [hkept.jq, hset, hx]
    exact hq.1
  · rw [hkept.rstDue, hset, hx]
    exact hq.2.1
  · rw [ht.o, hkept.state g (by omega), Dev.o_groupSet hg]

theorem groupWakeFail_fails (hq : s.Quiet) (hg : g < 32) (hstate : s.dev.o O.RX_GROUP_STATE g = 1)
    (hfrom : tget 0 s.dev.rx.wakeFrom g = 0) (hdue : tget 0 s.dev.rx.wakeAt g + 150000 ≤ s.clock.time) :
    Leads (.groupWakeFail g) s (fun t => t.dev.o O.RX_GROUP_STATE g = 4) := by
  obtain ⟨x, hx⟩ : ∃ x : Dev, x = { s.begun with rx := { s.begun.rx with stepHeld := tset 0 s.begun.rx.stepHeld g 0 } } := ⟨_, rfl⟩
  have hfail : s.begun.groupWakeFail s.env g = (x.groupSet s.env g 4).log s.env 0x0406 (rxLoc 4 g 127 5) 2 := by
    unfold Dev.groupWakeFail
    rw [if_pos (by simp [hstate, hfrom]; exact decide_eq_true hdue), ← hx]
  have hset := Dev.switched_groupSet s.env x g 4
  have hlog : Dev.GroupsKept (x.groupSet s.env g 4) _ := .log (e := s.env) (code := 0x0406) (loc := rxLoc 4 g 127 5) (cls := 2)
    (detail := 0) (inj := false)
  have hfour := (hlog.state g (by omega)).trans (Dev.o_groupSet hg)
  have hkept := hlog.trans (Dev.kept_calDrop (e := s.env) hg hfour)
  have hrun : (fun (e : Env) (d : Dev) =>
      let d := d.groupWakeFail e g
      if d.o O.RX_GROUP_STATE g == 4 then d.calDrop e g else d) s.env s.begun =
      ((x.groupSet s.env g 4).log s.env 0x0406 (rxLoc 4 g 127 5) 2).calDrop s.env g := by
    dsimp only
    rw [hfail, if_pos (by rw [hfour]; rfl)]
  refine leads_ends (f := fun e d =>
      let d := d.groupWakeFail e g
      if d.o O.RX_GROUP_STATE g == 4 then d.calDrop e g else d) _ hq rfl hrun ?_ ?_ fun t ht => ?_
  · rw [hkept.jq, hset, hx]
    exact hq.1
  · rw [hkept.rstDue, hset, hx]
    exact hq.2.1
  · rw [ht.o, hkept.state g (by omega), Dev.o_groupSet hg]

/-- RX_GROUP_RETRY (Table 06-3). -/
theorem groupRetry_retries {h : Hdr} (hq : s.Quiet) (hg : g < 32) (ha : Accepts s h O.RX_GROUP_RETRY g 1)
    (hstate : s.dev.o O.RX_GROUP_STATE g = 4) : Leads (.rxGroupRetry h g) s (fun t => t.dev.o O.RX_GROUP_STATE g = 0) := by
  obtain ⟨x, hx⟩ : ∃ x, x = (s.atRequest h.sess).shadowOff (okey O.RX_GROUP_RETRY g) := ⟨_, rfl⟩
  have hw : s.landed h O.RX_GROUP_RETRY g 1 = x.groupSet s.env g 0 := by
    rw [hx]
    exact if_pos (by simp [State.o_atRequest, hstate])
  have hset := Dev.switched_groupSet s.env x g 0
  refine leads_landed (idx := O.RX_GROUP_RETRY) (el := g) (v := 1) rfl ha (by decide) ?_ ?_ fun t ht => ?_
  · rw [hw, hset, hx]
    exact settle_atRequest hq _
  · rw [hw, hset, hx]
    exact rstDue_atRequest hq _
  · rw [ht.o (by decide) (by omega), hw, Dev.o_groupSet hg]

/-- Settles O18: the states of Table 06-3 from a wake request on. -/
theorem groupPower : Obligations.GroupPower := by
  refine ⟨fun s g sh hq hg hfind hdue hstate => wakeRequest_wakes hq hg hfind hdue hstate, fun s g hq hg => ⟨?_, ?_, ?_, ?_⟩⟩
  · intro hstate hheld hfrom hdue hpass ok
    refine groupWakeDone_ends hq hg hstate hheld hpass ?_
    simp [hfrom, State.env]
    exact decide_eq_false (by omega)
  · intro hstate hheld hfrom hdue hpass
    refine groupWakeDone_ends hq hg hstate hheld hpass ?_
    simp [hfrom, State.env]
    exact decide_eq_false (by omega)
  · exact fun hstate hfrom hdue => groupWakeFail_fails hq hg hstate hfrom hdue
  · exact fun h ha hstate => groupRetry_retries hq hg ha hstate

end

end Sys2Proof.Machine
end

section
/-! PROOF. The boundary of a shot (chapter 01). -/

namespace Sys2Proof.Machine

/-! ### A boundary at which nothing lands -/

theorem Dev.boundaryLand_nothing {e : Env} {d : Dev} {cs : List Cls} (hsh : d.shadows = []) (hds : d.domShadows = [])
    (hc : d.commit = none) : d.boundaryLand e cs = d := by
  have hfirst : d.commitFirst cs = d := by
    unfold Dev.commitFirst
    rw [hc]
  have hland : d.landShadows e cs = d := by
    unfold Dev.landShadows
    rw [hsh, hds]
    rfl
  unfold Dev.boundaryLand Dev.landCommitAt
  rw [hfirst, hland, hc]

theorem Dev.calAdvance_nothing {e : Env} {d : Dev} {g : Nat} (hsh : d.shadows = []) (hpass : d.cal.pass = []) : d.calAdvance e g = d := by
  have hnone : d.calPass g = none := by
    unfold Dev.calPass
    rw [hpass]
    rfl
  have hno : tget none d.shadows (okey O.RX_REPAIR g) = none := by
    rw [hsh]
    rfl
  unfold Dev.calAdvance Dev.repairSettle
  rw [hnone, hno]

theorem Dev.serveLand_nothing {e : Env} {d : Dev} (h : d.rx.switches = []) : d.serveLand e = d := if_pos (by rw [h]; rfl)

theorem foldl_fixed {α : Type} {f : Dev → α → Dev} {d : Dev} {xs : List α} (h : ∀ x ∈ xs, f d x = d) : xs.foldl f d = d := by
  induction xs with
  | nil => rfl
  | cons x xs ih => rw [List.foldl_cons, h x List.mem_cons_self, ih fun y hy => h y (List.mem_cons_of_mem _ hy)]

/-- Nothing has changed but the emitter drive. -/
def Dev.OnlyEm (d d' : Dev) : Prop := d' = { d with em := d'.em }

/-- The boundary of a shot that begins neither a frame nor a line set loads its level, where nothing waits for it (R223, R240). -/
theorem Dev.landAt_nothing {e : Env} {d : Dev} {s : Shot} (hfirst : s.frameFirst = false) (hline : s.lineChange = false)
    (hsh : d.shadows = []) (hds : d.domShadows = []) (hc : d.commit = none) (hsw : d.rx.switches = []) (hpass : d.cal.pass = []) :
    Dev.OnlyEm d (d.landAt e s) := by
  have hem : ∀ d', Dev.OnlyEm d d' → Dev.OnlyEm d ((List.range 32).foldl (fun d g => d.calAdvance e g) (d'.closeLines.serveLand e)) := by
    intro d' h
    have hclose : Dev.OnlyEm d d'.closeLines := by
      unfold Dev.OnlyEm at h ⊢
      rw [h]
      rfl
    rw [Dev.serveLand_nothing (by rw [hclose]; exact hsw), foldl_fixed fun g _ => Dev.calAdvance_nothing (by rw [hclose]; exact hsh)
      (by rw [hclose]; exact hpass)]
    exact hclose
  unfold Dev.landAt
  dsimp only
  rw [hfirst, hline, Bool.false_and, if_neg Bool.false_ne_true, if_neg Bool.false_ne_true,
    Dev.boundaryLand_nothing (cs := [.shot]) hsh hds hc, if_neg Bool.false_ne_true]
  apply hem
  split
  · rfl
  · rfl

/-! ### The pre-fire sequence -/

/-- Jacquard and a reset that waits are as before. -/
structure Dev.SameJq (d d' : Dev) : Prop where
  jq : d'.jq = d.jq
  rstDue : d'.pwr.rstDue = d.pwr.rstDue

namespace Dev.SameJq
variable {d d' d'' : Dev}

theorem refl (d : Dev) : SameJq d d := ⟨rfl, rfl⟩

theorem trans (h : SameJq d d') (k : SameJq d' d'') : SameJq d d'' := ⟨k.jq.trans h.jq, k.rstDue.trans h.rstDue⟩

theorem ite {p : Prop} [Decidable p] {a b : Dev} (ha : SameJq d a) (hb : SameJq d b) : SameJq d (if p then a else b) := by
  split
  · exact ha
  · exact hb

theorem foldl {α : Type} {f : Dev → α → Dev} (h : ∀ d x, SameJq d (f d x)) (xs : List α) (d : Dev) : SameJq d (xs.foldl f d) :=
  rel_foldl refl trans h xs d

end Dev.SameJq

theorem Dev.sameJq_interpCal (d : Dev) (m : List (Nat × Nat × Nat)) (slice : Nat) : Dev.SameJq d (d.interpCal m slice) :=
  .ite ⟨rfl, rfl⟩ ⟨rfl, rfl⟩

theorem Dev.sameJq_litChan (m : BoundMeas) (s : Shot) (held : Nat) (d : Dev) (ch : Nat) : Dev.SameJq d (d.litChan m s held ch) := by
  have hinit : ∀ pol, Dev.SameJq d (d.rangeInit pol ch) := fun pol => .ite (.refl d) ⟨rfl, rfl⟩
  have hrange : ∀ (d : Dev) pol, Dev.SameJq d (d.shotRange ch pol s.acc).2 := by
    intro d pol
    unfold Dev.shotRange
    split
    · exact .refl d
    · dsimp only
      split
      · exact .refl d
      · exact ⟨rfl, rfl⟩
  have hload : ∀ (d : Dev) r b, Dev.SameJq d (d.loadChan ch r b) := fun _ _ _ => ⟨rfl, rfl⟩
  unfold Dev.litChan
  exact (((hinit _).trans (hrange _ _)).trans (hload _ _ _)).trans ((Dev.sameJq_interpCal ..).trans ⟨rfl, rfl⟩)

theorem Dev.sameJq_emitCal (d : Dev) (m : Option (Nat × Nat)) : Dev.SameJq d (d.emitCal m) := by
  unfold Dev.emitCal
  split
  · exact .ite ⟨rfl, rfl⟩ (.refl d)
  · exact .refl d

/-- The shot in flight with the measurements of its dark gate. -/
def Flight.withDark (f : Flight) (m : BoundMeas) : Flight := { f with dark := some m }

/-- The pre-fire sequence of a shot without an accumulation group leaves of Jacquard all but the measurements of the dark gate. -/
theorem Dev.preFire_keeps {e : Env} {d : Dev} {m : BoundMeas} {s : Shot} {emit : Nat} (hacc : s.acc = none) :
    (d.preFire e m s emit).jq = { d.jq with flight := d.jq.flight.map (fun f => f.withDark m) } ∧
      (d.preFire e m s emit).pwr.rstDue = d.pwr.rstDue := by
  obtain ⟨x, hx⟩ : ∃ x : Dev, x = { d with jq := { d.jq with flight := d.jq.flight.map (fun f => f.withDark m) } } := ⟨_, rfl⟩
  obtain ⟨s', held, cs, heq⟩ : ∃ s' held cs, d.preFire e m s emit = List.foldl (Dev.litChan m s' held) (x.emitCal m.emitCal) cs := by
    unfold Dev.preFire Dev.joinGroup
    dsimp only
    rw [hacc, hx]
    exact ⟨_, _, _, rfl⟩
  have h := (Dev.sameJq_emitCal x m.emitCal).trans (.foldl (Dev.sameJq_litChan m s' held) cs _)
  rw [heq, h.jq, h.rstDue, hx]
  exact ⟨rfl, rfl⟩

/-! ### The boundary -/

/-- A shot as it goes into flight, with its boundary and its emission. -/
def flown (s : Shot) (bound emit : Nat) : Flight := { shot := { s with planned := emit }, bound := bound, emit := emit }

theorem Dev.takeHead_last {d : Dev} {s x : Shot} {bound emit : Nat} (h : d.jq.queue = [x]) :
    (d.takeHead s bound emit).jq.flight = some (flown s bound emit) ∧ (d.takeHead s bound emit).jq.queue = [] ∧
      (d.takeHead s bound emit).jq.settle = d.jq.settle ∧ (d.takeHead s bound emit).pwr = d.pwr := by
  unfold Dev.takeHead Dev.replan
  dsimp only
  rw [h]
  exact ⟨rfl, rfl, rfl, rfl⟩

/-- What the boundary of a shot without an accumulation group leaves in flight. -/
structure Bounded (d d' : Dev) (s : Shot) (m : BoundMeas) (bound : Nat) : Prop where
  flight : d'.jq.flight = some ((flown s bound (bound + d.prefireCp)).withDark m)
  queue : d'.jq.queue = []
  settle : d'.jq.settle = d.jq.settle
  rstDue : d'.pwr.rstDue = d.pwr.rstDue

theorem Dev.boundaryAt_flies {e : Env} {d : Dev} {m : BoundMeas} {s x : Shot} {bound : Nat} (hqueue : d.jq.queue = [x])
    (hthin : s.thinned = false) (hfirst : s.frameFirst = false) (hacc : s.acc = none) (hline : s.lineChange = false)
    (hsh : d.shadows = []) (hds : d.domShadows = []) (hc : d.commit = none) (hsw : d.rx.switches = []) (hpass : d.cal.pass = []) :
    Bounded d (d.boundaryAt e m s bound) s m bound := by
  obtain ⟨x', hx⟩ : ∃ x' : Dev, x' = { d with jq := { d.jq with bound := bound } } := ⟨_, rfl⟩
  have hland : Dev.OnlyEm x' (x'.landAt e s) := by
    refine Dev.landAt_nothing hfirst hline ?_ ?_ ?_ ?_ ?_ <;> rw [hx] <;> assumption
  have hpre : (x'.landAt e s).prefireCp = d.prefireCp := by rw [hland, hx]; rfl
  have hq' : (x'.landAt e s).jq.queue = [x] := by rw [hland, hx]; exact hqueue
  have heq : d.boundaryAt e m s bound = ((x'.landAt e s).takeHead s bound (bound + d.prefireCp)).preFire e m s (bound + d.prefireCp) := by
    unfold Dev.boundaryAt
    dsimp only
    rw [hthin, if_neg Bool.false_ne_true, ← hx, hpre]
  obtain ⟨hflight, hempty, hset, hpwr⟩ := Dev.takeHead_last (s := s) (bound := bound) (emit := bound + d.prefireCp) hq'
  obtain ⟨hjq, hrst⟩ := Dev.preFire_keeps (e := e) (d := (x'.landAt e s).takeHead s bound (bound + d.prefireCp)) (m := m) (s := s)
    (emit := bound + d.prefireCp) hacc
  rw [heq]
  refine ⟨?_, ?_, ?_, ?_⟩
  · rw [hjq, hflight]
    rfl
  · rw [hjq, hempty]
  · rw [hjq, hset, hland, hx]
  · rw [hrst, hpwr, hland, hx]

theorem Dev.dropMoves_shot {d : Dev} {done : Shot → Bool} {s : Shot} (h : d.jq.queue = [s]) (hmove : s.move = false) :
    d.dropMoves done = d := by
  have hgo : d.movesGo done [s] d.jq.base = ([s], d.jq.base) := if_neg (by simp [hmove])
  unfold Dev.dropMoves
  rw [h, hgo]
  show { d with jq := { d.jq with queue := [s] } } = d
  rw [← h]

theorem Dev.replanDark_same {d : Dev} {s : Shot} (h : s.frameFirst = false) : d.replanDark s = d :=
  if_pos (by unfold Dev.darkNext; rw [h]; exact beq_self_eq_true _)

/-- The boundary of the only shot that waits comes, where nothing delays it (R35, R36). -/
theorem Dev.shotBoundary_comes {e : Env} {d : Dev} {m : BoundMeas} {s : Shot} (hstate : d.o O.JQ_STATE ≠ 0) (hfl : d.jq.flight = none)
    (hqueue : d.jq.queue = [s]) (hmove : s.move = false) (hthin : s.thinned = false) (hfirst : s.frameFirst = false) (hacc : s.acc = none)
    (htw : d.ob O.TW_ENABLE = false) (hawake : d.groupsAsleep e s = false) (hdue : s.planned - d.prefireCp ≤ 2 * e.now + 1) :
    d.shotBoundary e m = d.boundaryAt e m s (max (s.planned - d.prefireCp) (2 * e.now)) := by
  have hdark : d.darkNext s = d.o O.RJ_DARK_NS := by
    unfold Dev.darkNext
    rw [hfirst]
    rfl
  have htwb : ∀ n, d.twBound s n = some 0 := fun n => if_pos (by rw [htw]; rfl)
  unfold Dev.shotBoundary
  dsimp only
  rw [if_neg (by simp [hstate, hfl, hqueue, hmove]), Dev.dropMoves_shot hqueue hmove]
  simp only [hqueue, Dev.replanDark_same hfirst, hdark, hthin, htwb, hawake, hacc]
  rw [if_neg (by unfold Dev.prefireCp at hdue; omega), if_neg Bool.false_ne_true, if_neg (by simp), if_neg Bool.false_ne_true]
  dsimp only
  rw [if_neg (by omega), if_neg (by omega), Nat.zero_max]
  rfl

/-- Settles O19: the shot goes into flight, with the longer of its due time and the present as its boundary. -/
theorem shotBoundaryPutsTheShotInFlight : Obligations.ShotBoundaryPutsTheShotInFlight := by
  intro s sh m hq hstate hfl hqueue hmove hthin hfirst hacc hline hsh hds hc htw hpass _ _ hsw hawake hdue
  have hrun := Dev.shotBoundary_comes (e := s.env) (d := s.begun) (m := m) (by simp [hstate]) hfl hqueue hmove hthin hfirst hacc htw
    hawake hdue
  have hb := Dev.boundaryAt_flies (e := s.env) (d := s.begun) (m := m) (bound := max (sh.planned - s.begun.prefireCp) (2 * s.env.now))
    hqueue hthin hfirst hacc hline hsh hds hc hsw hpass
  refine leads_ends (f := fun e d => d.shotBoundary e m) _ hq rfl hrun (hb.settle.trans hq.1) (hb.rstDue.trans hq.2.1) fun t ht =>
    ⟨_, ht.jq ▸ hb.flight, ht.jq ▸ hb.queue, rfl, rfl, rfl, rfl, rfl⟩

end Sys2Proof.Machine
end

section
/-! PROOF. Fire commit, and that no other shot emits (chapters 01, 03 and 05). -/

namespace Sys2Proof.Machine

/-! ### What keeps Jacquard and the objects from its own up to an index -/

/-- Jacquard, a reset that waits, and the objects from JQ_RUN up to index `n` are as before. -/
structure Dev.Spans (n : Nat) (d d' : Dev) : Prop where
  jq : d'.jq = d.jq
  rstDue : d'.pwr.rstDue = d.pwr.rstDue
  o : ∀ {i el}, O.JQ_RUN ≤ i → i < n → el < 4096 → d'.o i el = d.o i el

namespace Dev.Spans
variable {n m : Nat} {d d' d'' : Dev}

theorem refl (d : Dev) : Spans n d d := ⟨rfl, rfl, fun _ _ _ => rfl⟩

theorem trans (h : Spans n d d') (k : Spans n d' d'') : Spans n d d'' :=
  ⟨k.jq.trans h.jq, k.rstDue.trans h.rstDue, fun hlo hhi he => (k.o hlo hhi he).trans (h.o hlo hhi he)⟩

theorem mono (h : Spans n d d') (hm : m ≤ n) : Spans m d d' := ⟨h.jq, h.rstDue, fun hlo hhi he => h.o hlo (by omega) he⟩

/-- An action on other parts of the device. -/
theorem of_objs (hjq : d'.jq = d.jq) (hrst : d'.pwr.rstDue = d.pwr.rstDue) (ho : d'.objs = d.objs) : Spans n d d' :=
  ⟨hjq, hrst, fun _ _ _ => Dev.o_congr ho _ _⟩

/-- An object of a higher index: its keys lie above, whatever the element. -/
theorem so {i el v : Nat} (hi : n ≤ i) : Spans n d (d.so i el v) :=
  ⟨rfl, rfl, fun _ hhi _ => Dev.o_so_key (by simp only [okey]; omega)⟩

theorem inc {i el k : Nat} (hi : n ≤ i) : Spans n d (d.inc i el k) := so hi

theorem ite {p : Prop} [Decidable p] {a b : Dev} (ha : Spans n d a) (hb : Spans n d b) : Spans n d (if p then a else b) := by
  split
  · exact ha
  · exact hb

theorem foldl {α : Type} {f : Dev → α → Dev} (h : ∀ d x, Spans n d (f d x)) (xs : List α) (d : Dev) : Spans n d (xs.foldl f d) :=
  rel_foldl refl trans h xs d

theorem log {e : Env} {code loc cls detail : Nat} {inj : Bool} (hn : n ≤ O.FLT_LOST) : Spans n d (d.log e code loc cls detail inj) :=
  ⟨Dev.jq_log .., congrArg Pwr.rstDue (Dev.pwr_log ..), fun _ _ he => Dev.o_log_other (by omega) he⟩

end Dev.Spans

theorem Dev.spans_enq {n : Nat} (d : Dev) (p : Packet) (hn : n ≤ O.LINK_NOTIFY_DROPPED) : Dev.Spans n d (d.enq p) := by
  have hn' : n ≤ O.LINK_TX_DISCARD := Nat.le_trans hn (by decide)
  unfold Dev.enq Dev.discard
  split
  · exact .inc hn'
  · split
    · exact .refl d
    · split
      · exact .inc hn
      · exact .of_objs rfl rfl rfl

theorem Dev.spans_flushHdrs {n : Nat} (d : Dev) (hn : n ≤ O.LINK_NOTIFY_DROPPED) : Dev.Spans n d d.flushHdrs := by
  unfold Dev.flushHdrs
  split
  · exact .refl d
  · refine Dev.Spans.trans ?_ (Dev.spans_enq _ _ hn)
    exact .of_objs rfl rfl rfl

theorem Dev.spans_hdrDone {n : Nat} (e : Env) (d : Dev) (word : Nat) (result : Bool) (recs : List Nat) (hn : n ≤ O.LINK_NOTIFY_DROPPED) :
    Dev.Spans n d (d.hdrDone e word result recs) := by
  unfold Dev.hdrDone
  dsimp only
  split
  · exact (Dev.spans_flushHdrs _ hn).trans (Dev.spans_enq _ _ hn)
  · split
    · exact .refl d
    · split
      · refine Dev.Spans.trans ?_ (Dev.spans_flushHdrs _ hn)
        exact .of_objs rfl rfl rfl
      · exact .of_objs rfl rfl rfl

theorem Dev.spans_domSet {n : Nat} {e : Env} {d : Dev} {k : Nat} {on : Bool} (hk : k < 4096) : Dev.Spans n d (d.domSet e k on) :=
  ⟨by rw [Dev.switched_domSet e d k on], by rw [Dev.switched_domSet e d k on], fun {i _} hlo _ he => by
    refine (Dev.frame_domSet hk).o he fun h => ?_
    obtain rfl | rfl : i = O.PWR_DOM_STATE ∨ i = O.PWR_DOM_SWITCHES := by simpa [domIdx] using h
    · exact absurd hlo (by decide)
    · exact absurd hlo (by decide)⟩

theorem Dev.spans_groupSet {n : Nat} {e : Env} {d : Dev} {g st : Nat} (hg : g < 32) (hn : n ≤ O.RX_GROUP_STATE) :
    Dev.Spans n d (d.groupSet e g st) :=
  (Dev.Spans.so hn).trans ((Dev.spans_domSet (by omega)).trans (Dev.spans_domSet (by omega)))

theorem Dev.spans_groupIdle {n : Nat} {e : Env} {d : Dev} {g : Nat} (hg : g < 32) (hn : n ≤ O.RX_GROUP_STATE) :
    Dev.Spans n d (d.groupIdle e g) := by
  have hdown : ∀ off, Dev.Spans n d (d.groupDown e g off) := fun off =>
    .ite (.refl d) (.ite (Dev.spans_groupSet hg hn) (.ite (Dev.spans_groupSet hg hn) (.ite (.of_objs rfl rfl rfl) (.refl d))))
  unfold Dev.groupIdle
  dsimp only
  refine .ite (hdown _) (.ite (.refl d) ?_)
  split
  · exact hdown _
  · exact .ite (.refl d) (.ite (hdown _) (hdown _))

theorem Dev.spans_verdict {n : Nat} (d : Dev) (ch pol : Nat) (sat : Bool) (peak : Nat) : Dev.Spans n d (d.verdict ch pol sat peak) :=
  .ite (.refl d) (.of_objs rfl rfl rfl)

/-- A group that closes changes objects of extraction and of the link alone. -/
theorem Dev.spans_exClose {n : Nat} (e : Env) (d : Dev) (inst : Nat) (hn : n ≤ O.EX_MAX_ECHOES) : Dev.Spans n d (d.exClose e inst) := by
  have hcap : ∀ (d : Dev) g, Dev.Spans n d (d.capture e g) := by
    intro d g
    unfold Dev.capture
    dsimp only
    split
    · exact .refl d
    · rw [Dev.setDom_eq]
      exact .of_objs rfl rfl rfl
  unfold Dev.exClose Dev.closeGroup
  split
  · exact .refl d
  case h_2 g _ =>
    refine .ite (.refl d) ?_
    have hver := ((Dev.Spans.inc (n := n) (d := d) (i := O.EX_GROUPS) (el := 0) (k := 1) (Nat.le_trans hn (by decide))).trans (hcap _ g)).trans
      (.foldl (fun d (v : Nat × Nat × Bool × Nat) => Dev.spans_verdict d v.1 v.2.1 v.2.2.1 v.2.2.2) g.verdicts _)
    dsimp only
    split
    · refine hver.trans (Dev.Spans.trans ?_ (Dev.spans_hdrDone _ _ _ _ _ (Nat.le_trans hn (by decide))))
      exact .of_objs rfl rfl rfl
    · exact hver.trans (.of_objs rfl rfl rfl)

/-! ### Traffic of GDDR7 -/

theorem Dev.spans_memLog {n : Nat} (e : Env) (d : Dev) (k a r m : Nat) (hn : n ≤ O.MEM_STATE) : Dev.Spans n d (d.memLog e k a r m) := by
  unfold Dev.memLog
  dsimp only
  rw [Dev.setDom_eq]
  have hi : n ≤ O.MEM_ERR_COUNT := Nat.le_trans hn (by decide)
  refine Dev.Spans.trans ?_ (.inc hi)
  exact .of_objs rfl rfl rfl

theorem Dev.spans_gWrite {n : Nat} (d : Dev) (a : Nat) (bs : Bytes) : Dev.Spans n d (d.gWrite a bs) := by
  induction bs generalizing a with
  | nil => exact .refl d
  | cons b bs ih =>
    unfold Dev.gWrite
    exact .ite (ih _) ((ih (a + 1)).trans (.of_objs rfl rfl rfl))

theorem Dev.spans_memWr {n : Nat} (e : Env) (d : Dev) (req a : Nat) (bs : Bytes) (hn : n ≤ O.MEM_STATE) :
    Dev.Spans n d (d.memWr e req a bs) := by
  have hcount : ∀ (d : Dev) b, Dev.Spans n d (d.wrCount a bs.length b) := by
    intro d b
    have htwo : Dev.Spans n d ((d.inc O.MEM_CH_WR_BYTES (d.chanOf (b * 256)) (atomBytes a bs.length b)).inc O.MEM_CH_RMW
        (d.chanOf (b * 256)) (partAtoms a bs.length b)) :=
      (Dev.Spans.inc (Nat.le_trans hn (by decide))).trans (.inc (Nat.le_trans hn (by decide)))
    unfold Dev.wrCount
    dsimp only
    split
    · refine htwo.trans (Dev.Spans.trans ?_ (.so (Nat.le_trans hn (by decide))))
      exact .of_objs rfl rfl rfl
    · exact htwo
  unfold Dev.memWr
  split
  · exact Dev.spans_memLog _ _ _ _ _ _ hn
  · refine Dev.Spans.trans ((Dev.spans_gWrite d a bs).trans (.foldl hcount (blocksOf a bs.length) _)) ?_
    exact .of_objs rfl rfl rfl

/-! ### The buckets -/

theorem Dev.spans_setLevel {n : Nat} (d : Dev) (k s v : Nat) (hn : n ≤ O.HM_BUCKET_PEAK) : Dev.Spans n d (d.setLevel k s v) := by
  unfold Dev.setLevel
  dsimp only
  split
  · exact Dev.Spans.trans (d' := { d with hm := { d.hm with levels := tset 0 d.hm.levels (k * 256 + s) v } }) (.of_objs rfl rfl rfl) (.so hn)
  · exact .of_objs rfl rfl rfl

theorem Dev.spans_throttleEval {n : Nat} (e : Env) (d : Dev) (hn : n ≤ O.HM_THROTTLE_REQ) : Dev.Spans n d (d.throttleEval e) :=
  .ite (.refl d) (.ite (.so hn) (.ite (.so hn) (.refl d)))

theorem Dev.spans_leakSteps {n : Nat} (e : Env) (k m : Nat) (d : Dev) (hn : n ≤ O.HM_THROTTLE_REQ) :
    Dev.Spans n d (Dev.leakSteps e k m d) := by
  induction m generalizing d with
  | zero => exact .refl d
  | succ m ih =>
    unfold Dev.leakSteps
    dsimp only
    refine Dev.Spans.trans ?_ (ih _)
    refine Dev.Spans.trans (d' := { d with hm := { d.hm with levels := leakTab k d.hm.levels } }) (.of_objs rfl rfl rfl) ?_
    exact .ite (Dev.spans_throttleEval _ _ hn) (.refl _)

theorem Dev.spans_leakTo {n : Nat} (e : Env) (d : Dev) (k : Nat) (hn : n ≤ O.HM_THROTTLE_REQ) : Dev.Spans n d (d.leakTo e k) :=
  (Dev.spans_leakSteps e k (d.leakDue e k) d hn).trans (.of_objs rfl rfl rfl)

theorem Dev.spans_bucketsNow {n : Nat} (e : Env) (d : Dev) (parity : List Nat) (hn : n ≤ O.HM_BUCKET_PEAK) :
    Dev.Spans n d (d.bucketsNow e parity) := by
  have hparity : ∀ (d : Dev) p, Dev.Spans n d (d.bucketParity e p) := fun d p =>
    (Dev.spans_setLevel _ _ _ _ hn).trans (.log (Nat.le_trans hn (by decide)))
  exact (Dev.Spans.foldl (fun d k => Dev.spans_leakTo e d k (Nat.le_trans hn (by decide))) (List.range 3) d).trans
    (.foldl hparity (parity.filter (fun p => p / 256 < 3 && p % 256 < 144)) _)

theorem Dev.spans_charge {n : Nat} (d : Dev) (qs : List (Nat × Nat)) (hn : n ≤ O.HM_BUCKET_PEAK) : Dev.Spans n d (d.charge qs) :=
  .foldl (fun d (sq : Nat × Nat) => .foldl (fun d k => Dev.spans_setLevel d k sq.1 _ hn) _ d) qs d

theorem Dev.spans_logRepeat {n : Nat} (e : Env) (d : Dev) (code loc cls : Nat) (hmem : n ≤ O.MEM_STATE) :
    Dev.Spans n d (d.logRepeat e code loc cls) := by
  unfold Dev.logRepeat
  split
  · exact .of_objs rfl rfl rfl
  · split
    · unfold Dev.mirror
      rw [Dev.setDom_eq]
      split
      · exact .of_objs rfl rfl rfl
      · refine Dev.Spans.trans ?_ (Dev.spans_memWr _ _ _ _ _ hmem)
        exact .of_objs rfl rfl rfl
    · exact .log (Nat.le_trans hmem (by decide))

theorem Dev.spans_zoneRefused {n : Nat} (e : Env) (d : Dev) (sq : Nat × Nat) (hn : n ≤ O.HM_ZONE_REFUSED) :
    Dev.Spans n d (d.zoneRefused e sq) := by
  have hn' : n ≤ O.FLT_LOST := Nat.le_trans hn (by decide)
  unfold Dev.zoneRefused
  dsimp only
  split
  · refine Dev.Spans.trans ?_ (.log hn')
    exact (Dev.Spans.inc (el := sq.1) (k := 1) hn).trans (.of_objs rfl rfl rfl)
  · exact (Dev.Spans.inc hn).trans (Dev.spans_logRepeat _ _ _ _ _ (Nat.le_trans hn (by decide)))

/-! ### The end of a shot that emits nothing -/

theorem Dev.spans_groupShort {n : Nat} (d : Dev) (s : Shot) : Dev.Spans n d (d.groupShort s) := by
  unfold Dev.groupShort
  split
  · exact .of_objs rfl rfl rfl
  · exact .refl d

theorem Dev.spans_bareHdr {n : Nat} (e : Env) (d : Dev) (s : Shot) (emit flags : Nat) (hn : n ≤ O.LINK_NOTIFY_DROPPED) :
    Dev.Spans n d (d.bareHdr e s emit flags) := by
  unfold Dev.bareHdr
  exact Dev.spans_hdrDone _ _ _ _ _ hn

theorem Dev.spans_suppHdr {n : Nat} (e : Env) (d : Dev) (s : Shot) (cause : Nat) (hn : n ≤ O.LINK_NOTIFY_DROPPED) :
    Dev.Spans n d (d.suppHdr e s cause) := by
  unfold Dev.suppHdr
  exact Dev.spans_bareHdr _ _ _ _ _ hn

theorem Dev.spans_darkWait {n : Nat} (d : Dev) (f : Flight) : Dev.Spans n d (d.darkWait f) := by
  unfold Dev.darkWait
  split
  · exact .refl d
  · exact .of_objs rfl rfl rfl

/-- Nothing has changed of the objects from JQ_RUN up to index `n`, and Jacquard keeps all but what is in flight and its line boundary. -/
structure Dev.Over (n : Nat) (d d' : Dev) : Prop where
  flight : d'.jq.flight = none
  settle : d'.jq.settle = d.jq.settle
  rstDue : d'.pwr.rstDue = d.pwr.rstDue
  o : ∀ {i el}, O.JQ_RUN ≤ i → i < n → el < 4096 → d'.o i el = d.o i el

/-- A shot's last flag closes its group (R443). -/
def Dev.accOver (e : Env) (d : Dev) (s : Shot) : Dev :=
  match s.acc with
  | some i => if s.accLast then d.exClose e i else d
  | none => d

theorem Dev.spans_accOver {n : Nat} (e : Env) (d : Dev) (s : Shot) (hn : n ≤ O.EX_MAX_ECHOES) : Dev.Spans n d (d.accOver e s) := by
  unfold Dev.accOver
  split
  · exact .ite (Dev.spans_exClose _ _ _ hn) (.refl d)
  · exact .refl d

/-- Nothing of a shot is in flight, and no window is left. -/
def Dev.landedNone (d : Dev) : Dev := { d with jq := { d.jq with flight := none }, rx := { d.rx with windows := [] } }

theorem Dev.shotOver_eq (e : Env) (d : Dev) (s : Shot) : d.shotOver e s =
    (((groupsOf (d.shotChans e s)).foldl (fun d g => d.groupIdle e g) d.landedNone).accOver e s).stopCheck e := rfl

theorem Dev.spans_groupsIdle {n : Nat} {e : Env} {d : Dev} {m : Nat} (hn : n ≤ O.RX_GROUP_STATE) :
    Dev.Spans n d ((groupsOf m).foldl (fun d g => d.groupIdle e g) d) := by
  have hlt : ∀ g ∈ groupsOf m, g < 32 := fun g hg => List.mem_range.mp (List.mem_of_mem_filter hg)
  generalize groupsOf m = gs at hlt ⊢
  induction gs generalizing d with
  | nil => exact .refl d
  | cons g gs ih =>
    exact (Dev.spans_groupIdle (hlt g List.mem_cons_self) hn).trans (ih fun x hx => hlt x (List.mem_cons_of_mem _ hx))

theorem Dev.Over.after {n m : Nat} {a b c : Dev} (h : Dev.Over m b c) (k : Dev.Spans n a b) (hm : n ≤ m) : Dev.Over n a c :=
  ⟨h.flight, by rw [h.settle, k.jq], h.rstDue.trans k.rstDue, fun hlo hhi he => (h.o hlo (by omega) he).trans (k.o hlo hhi he)⟩

/-- While Jacquard runs, the end of a shot leaves nothing in flight (R183). -/
theorem Dev.shotOver_over {e : Env} {d : Dev} {s : Shot} (hstate : d.o O.JQ_STATE ≠ 3) : Dev.Over O.RX_GROUP_STATE d (d.shotOver e s) := by
  have hspan := (Dev.spans_groupsIdle (n := O.RX_GROUP_STATE) (e := e) (d := d.landedNone) (m := d.shotChans e s) le_rfl).trans
    (Dev.spans_accOver e _ s (by decide))
  rw [Dev.shotOver_eq, Dev.stopCheck_running]
  · exact ⟨by rw [hspan.jq]; rfl, by rw [hspan.jq]; rfl, hspan.rstDue, fun hlo hhi he => (hspan.o hlo hhi he).trans rfl⟩
  · rw [hspan.o (by decide) (by decide) (by decide)]
    exact hstate

/-- The line boundary of a shot that opens no windows falls where they would have closed. -/
def Dev.silenced (d : Dev) (f : Flight) : Dev :=
  { (d.darkWait f) with jq := { d.jq with lineDue := some (f.emit + windowCp (entWclass f.shot.ent)) } }

theorem Dev.silenced_o (d : Dev) (f : Flight) (i el : Nat) : (d.silenced f).o i el = d.o i el :=
  Dev.o_congr (show (d.darkWait f).objs = d.objs by unfold Dev.darkWait; split <;> rfl) i el

theorem Dev.endSilent_eq (e : Env) (d : Dev) (f : Flight) (cause : Nat) :
    d.endSilent e f cause = (((d.silenced f).groupShort f.shot).suppHdr e f.shot cause).shotOver e f.shot := rfl

/-- While Jacquard runs, a shot that emits nothing is over, and nothing is in flight (R38, R196). -/
theorem Dev.endSilent_over {e : Env} {d : Dev} {f : Flight} {cause : Nat} (hstate : d.o O.JQ_STATE ≠ 3) :
    Dev.Over O.RX_GROUP_STATE d (d.endSilent e f cause) := by
  have hspan : Dev.Spans O.RX_GROUP_STATE (d.silenced f) (((d.silenced f).groupShort f.shot).suppHdr e f.shot cause) :=
    (Dev.spans_groupShort ..).trans (Dev.spans_suppHdr _ _ _ _ (by decide))
  have hsame : ∀ {i el}, O.JQ_RUN ≤ i → i < O.RX_GROUP_STATE → el < 4096 →
      (((d.silenced f).groupShort f.shot).suppHdr e f.shot cause).o i el = d.o i el :=
    fun hlo hhi he => (hspan.o hlo hhi he).trans (Dev.silenced_o ..)
  have hover := Dev.shotOver_over (e := e) (s := f.shot) (d := ((d.silenced f).groupShort f.shot).suppHdr e f.shot cause)
    (by rw [hsame (by decide) (by decide) (by decide)]; exact hstate)
  have hwait := Dev.spans_darkWait (n := 0) d f
  rw [Dev.endSilent_eq]
  refine ⟨hover.flight, ?_, ?_, fun hlo hhi he => (hover.o hlo hhi he).trans (hsame hlo hhi he)⟩
  · rw [hover.settle, hspan.jq]
    rfl
  · rw [hover.rstDue, hspan.rstDue]
    exact hwait.rstDue

/-! ### The decision -/

/-- A shot that nothing refuses passes, with the lines and cathodes that are not barred. -/
theorem Dev.fireDecide_passes {e : Env} {d : Dev} {f : Flight} (hangle : d.angleOff f.shot.ent = false)
    (hroom : d.hmRefusal e (d.flightCharges f) = none) :
    (d.fireDecide e f).jq = { d.jq with flight := some (f.passed d) } ∧ (d.fireDecide e f).pwr.rstDue = d.pwr.rstDue := by
  have heq : d.fireDecide e f =
      d.firePass { f with an := d.effAn (entAn f.shot.ent), kd := d.effKd (entKd f.shot.ent) } (d.flightCharges f) := by
    unfold Dev.fireDecide
    dsimp only
    rw [hangle, if_neg Bool.false_ne_true]
    simp only [Dev.flightCharges] at hroom ⊢
    rw [hroom]
  have hspan : Dev.Spans O.JQ_RUN d (d.charge (d.flightCharges f)) := Dev.spans_charge _ _ (by decide)
  rw [heq]
  unfold Dev.firePass
  exact ⟨by rw [← hspan.jq]; rfl, hspan.rstDue⟩

/-- What the decision makes of a shot that it refuses: nothing is in flight. -/
theorem Dev.fireDecide_refused {e : Env} {d : Dev} {f : Flight} (hstate : d.o O.JQ_STATE ≠ 3)
    (h : d.angleOff f.shot.ent = true ∨ (d.hmRefusal e (d.flightCharges f)).isSome) :
    Dev.Over O.JQ_SHOTS d (d.fireDecide e f) := by
  have hover : ∀ {d' : Dev} {f' : Flight} {cause : Nat}, Dev.Spans O.JQ_SHOTS d d' → Dev.Over O.JQ_SHOTS d (d'.endSilent e f' cause) :=
    fun hspan => (Dev.endSilent_over (by rw [hspan.o (by decide) (by decide) (by decide)]; exact hstate)).after hspan (by decide)
  unfold Dev.fireDecide
  dsimp only
  by_cases hangle : d.angleOff f.shot.ent = true
  · rw [if_pos hangle]
    exact hover (.inc (by decide))
  · rw [if_neg hangle]
    obtain ⟨c, hc⟩ := Option.isSome_iff_exists.mp (h.resolve_left hangle)
    simp only [Dev.flightCharges] at hc
    rw [hc]
    dsimp only
    refine hover ((Dev.Spans.trans ?_ (.inc (by decide))).trans (.inc (by decide)))
    exact .ite (.foldl (fun d q => Dev.spans_zoneRefused e d q (by decide)) _ d) (.refl d)

/-- A shot that comes outside ARMED and HOLD is counted as refused by Hawkmoth (R274). -/
theorem Dev.fireDecide_unarmed {e : Env} {d : Dev} {f : Flight} (hstate : d.o O.JQ_STATE ≠ 3) (hangle : d.angleOff f.shot.ent = false)
    (h2 : d.o O.HM_STATE ≠ 2) (h3 : d.o O.HM_STATE ≠ 3) :
    (d.fireDecide e f).o O.JQ_SUPP_HAWKMOTH = ctrAdd O.JQ_SUPP_HAWKMOTH 0 (d.o O.JQ_SUPP_HAWKMOTH) 1 := by
  have href : ∀ qs, d.hmRefusal e qs = some 0 := fun qs => by
    unfold Dev.hmRefusal
    rw [if_neg (by simp [h3]), if_pos (by simp [h2])]
  unfold Dev.fireDecide
  dsimp only
  rw [hangle, if_neg Bool.false_ne_true, href]
  dsimp only
  rw [if_neg (by decide)]
  have hsame : ∀ {i el}, i ≠ O.HM_SUPP_CAUSE → i ≠ O.JQ_SUPP_HAWKMOTH → el < 4096 →
      ((d.inc O.HM_SUPP_CAUSE 0).inc O.JQ_SUPP_HAWKMOTH).o i el = d.o i el := fun hi hj he => by
    rw [Dev.o_inc_other hj (by decide) he, Dev.o_inc_other hi (by decide) he]
  have hover := Dev.endSilent_over (e := e) (d := (d.inc O.HM_SUPP_CAUSE 0).inc O.JQ_SUPP_HAWKMOTH)
    (f := { f with an := d.effAn (entAn f.shot.ent), kd := d.effKd (entKd f.shot.ent) }) (cause := 2)
    (by rw [hsame (by decide) (by decide) (by decide)]; exact hstate)
  rw [hover.o (by decide) (by decide) (by decide), Dev.o_inc_self, Dev.o_inc_other (by decide) (by decide) (by decide)]

/-- Hawkmoth refuses nothing while it is ARMED, the mirror travels and the buckets have room (R274). -/
theorem Dev.hmRefusal_none {e : Env} {d : Dev} {qs : List (Nat × Nat)} (h : d.hmRefusal e qs = none) :
    d.o O.HM_STATE = 2 ∧ d.travelOk e = true ∧ d.bucketTest qs = true := by
  unfold Dev.hmRefusal at h
  split_ifs at h with h3 h2 ht hb
  simp_all

/-! ### Fire commit -/

section
variable {s : State} {f : Flight} {parity : List Nat}

theorem State.atFireCommit_o {i el : Nat} (hlo : O.JQ_RUN ≤ i) (hhi : i < O.EM_STATE) (he : el < 4096) :
    (s.atFireCommit parity).o i el = s.dev.o i el := by
  have hspan : Dev.Spans O.EM_STATE s.begun (Dev.bucketsNow s.env s.begun parity) := Dev.spans_bucketsNow _ _ _ (by decide)
  refine (Dev.o_hmEval (fun h => ?_) he).trans (hspan.o hlo hhi he)
  have hall : ∀ j ∈ hmIdx, O.EM_STATE ≤ j := by decide
  exact absurd (hall i h) (Nat.not_le.mpr hhi)

theorem State.atFireCommit_jq : (s.atFireCommit parity).jq = { s.dev.jq with flight := (s.atFireCommit parity).jq.flight } ∧
    (s.atFireCommit parity).pwr.rstDue = s.dev.pwr.rstDue := by
  have hspan : Dev.Spans O.JQ_RUN s.begun (Dev.bucketsNow s.env s.begun parity) := Dev.spans_bucketsNow _ _ _ (by decide)
  have hm : HmFrom (Dev.bucketsNow s.env s.begun parity) (s.atFireCommit parity) := HmFrom.hmEval
  refine ⟨?_, ?_⟩
  · rw [hm.rest]
    exact congrArg (fun j : Jq => { j with flight := (s.atFireCommit parity).jq.flight }) hspan.jq
  · rw [hm.rest]
    exact hspan.rstDue

/-- A fire commit that is due decides on the device that it finds. -/
theorem fireCommit_runs (hfl : s.dev.jq.flight = some f) (hcom : f.committed = false) (hdue : f.emit - 240 ≤ 2 * s.clock.time + 1) :
    s.begun.fireCommit s.env parity = (s.atFireCommit parity).fireDecide s.env f := by
  unfold Dev.fireCommit
  rw [show s.begun.jq.flight = some f from hfl]
  dsimp only
  rw [if_neg]
  · rfl
  · rw [hcom, Bool.false_or]
    exact decide_eq_false (by exact Nat.not_lt.mpr hdue) ▸ Bool.false_ne_true

theorem fireCommit_passes (hq : s.Quiet) (hfl : s.dev.jq.flight = some f) (hcom : f.committed = false)
    (hdue : f.emit - 240 ≤ 2 * s.clock.time + 1) (hangle : (s.atFireCommit parity).angleOff f.shot.ent = false)
    (hroom : (s.atFireCommit parity).hmRefusal s.env ((s.atFireCommit parity).flightCharges f) = none) :
    Leads (.fireCommit parity) s (fun t => t.dev.jq.flight = some (f.passed (s.atFireCommit parity))) := by
  obtain ⟨hjq, hrst⟩ := Dev.fireDecide_passes hangle hroom
  obtain ⟨hat, hpwr⟩ := State.atFireCommit_jq (s := s) (parity := parity)
  refine leads_ends (f := fun e d => d.fireCommit e parity) _ hq rfl (fireCommit_runs hfl hcom hdue) ?_ ?_ fun t ht => ?_
  · rw [hjq, hat]
    exact hq.1
  · rw [hrst, hpwr]
    exact hq.2.1
  · rw [ht.jq, hjq]

/-- A refused shot leaves nothing in flight. -/
theorem fireCommit_refuses {P : State → Prop} (hq : s.Quiet) (hstate : s.dev.o O.JQ_STATE = 2) (hfl : s.dev.jq.flight = some f)
    (hcom : f.committed = false) (hdue : f.emit - 240 ≤ 2 * s.clock.time + 1)
    (h : (s.atFireCommit parity).angleOff f.shot.ent = true ∨
      ((s.atFireCommit parity).hmRefusal s.env ((s.atFireCommit parity).flightCharges f)).isSome)
    (hP : ∀ t, s.Ends ((s.atFireCommit parity).fireDecide s.env f) t → t.dev.jq.flight = none → P t) :
    Leads (.fireCommit parity) s P := by
  obtain ⟨hat, hpwr⟩ := State.atFireCommit_jq (s := s) (parity := parity)
  have hover := Dev.fireDecide_refused (e := s.env)
    (by rw [State.atFireCommit_o (by decide) (by decide) (by decide), hstate]; decide) h
  refine leads_ends (f := fun e d => d.fireCommit e parity) _ hq rfl (fireCommit_runs hfl hcom hdue) ?_ ?_ fun t ht => hP t ht ?_
  · rw [hover.settle, hat]
    exact hq.1
  · rw [hover.rstDue, hpwr]
    exact hq.2.1
  · rw [ht.jq, hover.flight]

/-- Settles O20: the decision on the device that the fire commit finds. -/
theorem fireCommitDecides : Obligations.FireCommitDecides := by
  intro s f hq hstate hfl hcom _ hdue hangle
  refine ⟨fun hroom => fireCommit_passes hq hfl hcom hdue hangle hroom, fun h2 h3 => ?_⟩
  have href : ∀ qs, (s.atFireCommit []).hmRefusal s.env qs = some 0 := fun qs => by
    unfold Dev.hmRefusal
    rw [if_neg (by simp [h3]), if_pos (by simp [h2])]
  refine fireCommit_refuses hq hstate hfl hcom hdue (.inr (by rw [href]; rfl)) fun t ht hnone => ⟨hnone, ?_⟩
  rw [ht.o, Dev.fireDecide_unarmed (by rw [State.atFireCommit_o (by decide) (by decide) (by decide), hstate]; decide) hangle h2 h3,
    State.atFireCommit_o (by decide) (by decide) (by decide)]

/-! ### The emission that follows -/

/-- Where nothing fires, an emission sends nothing. -/
theorem emission_silent {u : State} {m : EmitMeas} (hq : s.Quiet) (hf : ∀ g, s.dev.jq.flight = some g → g.fires = false)
    (hu : exec (.emission m) s = .next u) : u.dev.sent = [] := by
  have hrun : s.begun.emission s.env m = s.begun := by
    unfold Dev.emission
    cases hfl : s.dev.jq.flight with
    | none => rw [show s.begun.jq.flight = none from hfl]
    | some g =>
      rw [show s.begun.jq.flight = some g from hfl]
      exact if_pos (by rw [hf g hfl]; rfl)
  obtain ⟨t, ht, hsent⟩ : Leads (.emission m) s (fun t => t.dev.sent = []) :=
    leads_ends (f := fun e d => d.emission e m) s.begun hq rfl hrun hq.1 hq.2.1 fun t ht => ht.sent
  obtain rfl : t = u := Host.Outcome.next.inj (ht.symm.trans hu)
  exact hsent

/-- Settles O21: a shot that the fire commit does not let through is no longer in flight, or still does not fire. -/
theorem onlyArmedShotsEmit : Obligations.OnlyArmedShotsEmit := by
  intro s t u f parity m hstate hq hqt hfl hfires ht hu ⟨kds, ps, hout⟩
  have hnot : ¬ ∀ g, t.dev.jq.flight = some g → g.fires = false := fun h => by
    rw [emission_silent hqt h hu] at hout
    exact absurd hout List.not_mem_nil
  have hleads : ∀ {P : State → Prop}, Leads (.fireCommit parity) s P → P t := fun ⟨t', ht', hP⟩ =>
    Host.Outcome.next.inj (ht'.symm.trans ht) ▸ hP
  by_cases hdue : f.committed = true ∨ 2 * s.clock.time + 1 < f.emit - 240
  · have hrun : s.begun.fireCommit s.env parity = s.begun := by
      unfold Dev.fireCommit
      rw [show s.begun.jq.flight = some f from hfl]
      exact if_pos ((Bool.or_eq_true _ _).mpr (hdue.imp_right fun h => decide_eq_true h))
    have hsame : t.dev.jq.flight = some f := hleads (P := fun t => t.dev.jq.flight = some f)
      (leads_ends (f := fun e d => d.fireCommit e parity) s.begun hq rfl hrun hq.1 hq.2.1 fun t' ht' => by rw [ht'.jq]; exact hfl)
    refine absurd (fun g hg => ?_) hnot
    rw [hsame] at hg
    exact Option.some.inj hg ▸ hfires
  · simp only [not_or, Bool.not_eq_true, Nat.not_lt] at hdue
    obtain ⟨hcom, hdue⟩ := hdue
    by_cases hpass : (s.atFireCommit parity).angleOff f.shot.ent = true ∨
      ((s.atFireCommit parity).hmRefusal s.env ((s.atFireCommit parity).flightCharges f)).isSome
    · have hnone : t.dev.jq.flight = none := hleads (P := fun t => t.dev.jq.flight = none)
        (fireCommit_refuses hq hstate hfl hcom hdue hpass fun _ _ h => h)
      refine absurd (fun g hg => ?_) hnot
      rw [hnone] at hg
      exact absurd hg.symm (Option.some_ne_none g)
    · simp only [not_or, Bool.not_eq_true, Option.isSome_eq_false_iff, Option.isNone_iff_eq_none] at hpass
      obtain ⟨hangle, href⟩ := hpass
      exact ⟨hangle, Dev.hmRefusal_none href⟩

end

end Sys2Proof.Machine
end

section
/-! PROOF. Emission, and the close of a shot's windows (chapters 01, 04, 07 and 08). -/

namespace Sys2Proof.Machine

/-! ### What leaves the outputs and the drive alone -/

/-- `Spans` of the objects below the receive path, and neither an output nor the emitter drive has changed. -/
structure Dev.Steady (d d' : Dev) : Prop extends Dev.Spans O.RX_GROUP_STATE d d' where
  sent : d'.sent = d.sent
  em : d'.em = d.em

namespace Dev.Steady
variable {d d' d'' : Dev}

theorem refl (d : Dev) : Steady d d := ⟨.refl d, rfl, rfl⟩

theorem trans (h : Steady d d') (k : Steady d' d'') : Steady d d'' :=
  ⟨h.toSpans.trans k.toSpans, k.sent.trans h.sent, k.em.trans h.em⟩

theorem so {i el v : Nat} (hi : O.RX_GROUP_STATE ≤ i) : Steady d (d.so i el v) := ⟨.so hi, rfl, rfl⟩

theorem inc {i el k : Nat} (hi : O.RX_GROUP_STATE ≤ i) : Steady d (d.inc i el k) := so hi

/-- An action on parts of the device that these facts do not speak of. -/
theorem of_objs (hjq : d'.jq = d.jq) (hrst : d'.pwr.rstDue = d.pwr.rstDue) (ho : d'.objs = d.objs) (hs : d'.sent = d.sent)
    (he : d'.em = d.em) : Steady d d' := ⟨.of_objs hjq hrst ho, hs, he⟩

theorem ite {p : Prop} [Decidable p] {a b : Dev} (ha : Steady d a) (hb : Steady d b) : Steady d (if p then a else b) := by
  split
  · exact ha
  · exact hb

theorem foldl {α : Type} {f : Dev → α → Dev} (h : ∀ d x, Steady d (f d x)) (xs : List α) (d : Dev) : Steady d (xs.foldl f d) :=
  rel_foldl refl trans h xs d

end Dev.Steady

theorem Dev.steady_darkGate (d : Dev) (lsb ch r b da db dc : Nat) : Dev.Steady d (d.darkGate lsb ch r b da db dc) := by
  unfold Dev.darkGate
  extract_lets inew ib ib' d1 rate d2
  have hrate : ∀ (x : Dev) (idx n : Nat), O.RX_GROUP_STATE ≤ idx → Dev.Steady x (rate x idx n) := fun _ _ _ hi => .so hi
  have h1 : Dev.Steady d d1 := .so (by decide)
  have h2 : Dev.Steady d1 d2 := ((hrate d1 O.RJ_RATE_A da (by decide)).trans (hrate _ O.RJ_RATE_B db (by decide))).trans
    (hrate _ O.RJ_RATE_C dc (by decide))
  exact (h1.trans h2).trans (.of_objs rfl rfl rfl rfl rfl)

theorem Dev.steady_darkEnd (e : Env) (d : Dev) (f : Flight) : Dev.Steady d (d.darkEnd e f) := by
  have hof : ∀ m lsb (d : Dev) (c : Nat × Nat), Dev.Steady d (d.darkOf e m lsb c.1 c.2) := by
    intro m lsb d c
    unfold Dev.darkOf
    exact .ite (.refl d) (Dev.steady_darkGate ..)
  unfold Dev.darkEnd
  split
  · exact .refl d
  case h_2 m _ =>
    unfold Dev.darkEval
    exact .ite (.inc (by decide)) (.foldl (hof m _) _ d)

theorem Dev.steady_emitStamp (d : Dev) (m : Option (Nat × Nat)) : Dev.Steady d (d.emitStamp m).2.2 := by
  have hmiss : ∀ t : Tdc, Dev.Steady d { (d.inc O.TDC_EMIT_MISS) with tdc := t } := fun t =>
    (Dev.Steady.inc (by decide)).trans (.of_objs rfl rfl rfl rfl rfl)
  unfold Dev.emitStamp
  split
  · dsimp only
    split
    · exact (Dev.Steady.so (by decide)).trans (.of_objs rfl rfl rfl rfl rfl)
    · exact hmiss _
  · exact hmiss _

theorem Dev.steady_winCount (d : Dev) (l : Nat) (w : Win) : Dev.Steady d (d.winCount l w) := by
  have hinc : ∀ (p : Prop) [Decidable p] (d : Dev) {i el : Nat}, O.RX_GROUP_STATE ≤ i → Dev.Steady d (if p then d.inc i el else d) :=
    fun p _ d i el hi => .ite (.inc hi) (.refl d)
  have hshow : ∀ d : Dev, Dev.Steady d (d.rangeShow w.chan w.range) := by
    intro d
    unfold Dev.rangeShow
    extract_lets d1
    have h1 : Dev.Steady d d1 := hinc _ d (by decide)
    have h2 : Dev.Steady d1 (d1.so O.RX_RANGE_NOW w.chan w.range) := .so (by decide)
    exact (h1.trans h2).trans (.of_objs rfl rfl rfl rfl rfl)
  unfold Dev.winCount
  extract_lets d1 d2 d3 rx3 d4
  have h1 : Dev.Steady d d1 := hinc _ d (by decide)
  have h2 : Dev.Steady d1 d2 := hinc _ d1 (by decide)
  have h3 : Dev.Steady d2 d3 := hinc _ d2 (by decide)
  have h4 : Dev.Steady d3 d4 := .of_objs rfl rfl rfl rfl rfl
  exact (((h1.trans h2).trans h3).trans h4).trans (hshow d4)

/-- The windows open with the shot in flight as it has emitted. -/
theorem Dev.openWindows_keeps (e : Env) (d : Dev) (f : Flight) (high : List (Nat × Nat)) : ∃ d', Dev.Steady d d' ∧
    d.openWindows e f high = { d' with jq := { d'.jq with flight := some { f with emitted := true, wins := true } } } := by
  refine ⟨_, ?_, rfl⟩
  refine Dev.Steady.trans ?_ (.foldl (fun d w => Dev.steady_winCount d _ w) _ _)
  exact .of_objs rfl rfl rfl rfl rfl

/-! ### The emission of a shot -/

theorem length_codePulses (w : Nat) : (codePulses w).length = codeNp w := by simp [codePulses]

theorem codeNp_pos (w : Nat) : 0 < codeNp w := Nat.succ_pos _

/-- What the emission of a shot leaves: what left the outputs, the time of the last emission, and the shot with its windows open. -/
structure Emitted (d d' : Dev) (f : Flight) (out : List Out) (last : Nat) (supp : Option Nat) : Prop where
  sent : d'.sent = out
  lastEmit : d'.em.lastEmit = last
  settle : d'.jq.settle = d.jq.settle
  rstDue : d'.pwr.rstDue = d.pwr.rstDue
  flight : ∃ f', d'.jq.flight = some f' ∧ f'.emitted = true ∧ f'.wins = true ∧ f'.shot = f.shot ∧ f'.supp = supp

/-- An over-current pulse cuts the shot at most. -/
theorem Emitted.overCurrent {d d' : Dev} {f : Flight} {out : List Out} {last : Nat} {supp : Option Nat} (h : Emitted d d' f out last supp)
    (line peak : Nat) : Emitted d (d'.overCurrent line peak) f out last supp := by
  obtain ⟨hsent, hlast, hset, hrst, g, hg, hemit, hwins, hshot, hsupp⟩ := h
  unfold Dev.overCurrent
  rw [hg]
  dsimp only
  split
  · exact ⟨hsent, hlast, hset, hrst, _, rfl, hemit, hwins, hshot, hsupp⟩
  · exact ⟨hsent, hlast, hset, hrst, g, hg, hemit, hwins, hshot, hsupp⟩

theorem Emitted.overCurrents {d d' : Dev} {f : Flight} {out : List Out} {last : Nat} {supp : Option Nat} (h : Emitted d d' f out last supp)
    (peaks : List (Nat × Nat)) : Emitted d (peaks.foldl (fun d p => d.overCurrent p.1 p.2) d') f out last supp := by
  induction peaks generalizing d' with
  | nil => exact h
  | cons p peaks ih => exact ih (h.overCurrent p.1 p.2)

/-- A shot's lines counted and their peaks taken. -/
theorem Dev.peakStart_keeps (d : Dev) (an : Nat) (peaks : List (Nat × Nat)) : (d.peakStart an peaks).jq = d.jq ∧
    (d.peakStart an peaks).pwr = d.pwr ∧ (d.peakStart an peaks).sent = d.sent := by
  unfold Dev.peakStart
  refine rel_foldl (R := fun a b => b.jq = a.jq ∧ b.pwr = a.pwr ∧ b.sent = a.sent) (fun _ => ⟨rfl, rfl, rfl⟩) ?_ ?_ _ d
  · rintro a b c ⟨hjq, hpwr, hsent⟩ ⟨kjq, kpwr, ksent⟩
    exact ⟨kjq.trans hjq, kpwr.trans hpwr, ksent.trans hsent⟩
  · exact fun _ _ => ⟨rfl, rfl, rfl⟩

/-- Opened windows after steps that leave Jacquard and the outputs alone. -/
theorem emitted_openWindows {e : Env} {d d' : Dev} {f g : Flight} {high : List (Nat × Nat)} (hjq : d'.jq = d.jq)
    {out : List Out} {last : Nat} (hrst : d'.pwr.rstDue = d.pwr.rstDue) (hsent : d'.sent = out) (hlast : d'.em.lastEmit = last)
    (hshot : g.shot = f.shot) : Emitted d (d'.openWindows e g high) f out last g.supp := by
  obtain ⟨x, hx, heq⟩ := d'.openWindows_keeps e g high
  rw [heq]
  exact ⟨hx.sent.trans hsent, (congrArg Em.lastEmit hx.em).trans hlast, (congrArg Jq.settle hx.jq).trans (congrArg Jq.settle hjq), hx.rstDue.trans hrst,
    _, rfl, rfl, rfl, hshot, rfl⟩

/-- A shot that fires whole, with no trigger output and without Twill. -/
theorem Dev.fireShot_emits {e : Env} {d : Dev} {f : Flight} {m : EmitMeas} (hacc : f.shot.acc = none) (htrig : entTrig f.shot.ent = false)
    (htw : d.ob O.TW_ENABLE = false) : Emitted d (d.fireShot e f m (codeNp (d.o O.EM_CODE (entCode f.shot.ent)))) f
      (d.sent ++ [.pulses (d.kdTrims f.kd) (codePulses (d.o O.EM_CODE (entCode f.shot.ent)))]) f.emit f.supp := by
  have hdark := d.steady_darkEnd e f
  have hcode : (d.darkEnd e f).o O.EM_CODE (entCode f.shot.ent) = d.o O.EM_CODE (entCode f.shot.ent) :=
    hdark.o (by decide) (by decide) (Nat.lt_of_lt_of_le (Nat.mod_lt _ (by decide)) (by decide))
  have htrim : (d.darkEnd e f).kdTrims f.kd = d.kdTrims f.kd := by
    unfold Dev.kdTrims
    refine List.map_congr_left fun k hk => ?_
    have hlt : k < 16 := List.mem_range.mp (List.mem_of_mem_filter hk)
    rw [hdark.o (by decide) (by decide) (by omega)]
  have hout : (d.darkEnd e f).emitOut e f (codeNp (d.o O.EM_CODE (entCode f.shot.ent))) = (d.darkEnd e f).send
      (.pulses (d.kdTrims f.kd) (codePulses (d.o O.EM_CODE (entCode f.shot.ent)))) := by
    have hoff : ((d.darkEnd e f).send (.pulses (d.kdTrims f.kd) (codePulses (d.o O.EM_CODE (entCode f.shot.ent))))).ob O.TW_ENABLE = false :=
      (congrArg (· != 0) (hdark.o (by decide) (by decide) (by decide))).trans htw
    unfold Dev.emitOut
    dsimp only
    rw [hcode, htrim, List.take_of_length_le (Nat.le_of_eq (length_codePulses _)), hoff, htrig]
    rfl
  unfold Dev.fireShot
  dsimp only
  rw [if_neg (by simp), hout, hacc]
  generalize hx : (d.darkEnd e f).send (.pulses (d.kdTrims f.kd) (codePulses (d.o O.EM_CODE (entCode f.shot.ent)))) = x
  have hstamp := x.steady_emitStamp m.edge
  obtain ⟨hjq, hpwr, hsent⟩ := (x.emitStamp m.edge).2.2.peakStart_keeps f.an m.peaks
  refine (emitted_openWindows ?_ ?_ ?_ ?_ ?_).overCurrents m.peaks
  · exact (hjq.trans hstamp.jq).trans ((congrArg Dev.jq hx.symm).trans hdark.jq)
  · exact ((congrArg Pwr.rstDue hpwr).trans hstamp.rstDue).trans ((congrArg (fun d => d.pwr.rstDue) hx.symm).trans hdark.rstDue)
  · exact (hsent.trans hstamp.sent).trans ((congrArg Dev.sent hx.symm).trans (congrArg (· ++ _) hdark.sent))
  · rfl
  · rfl

theorem Dev.o_openWindows {e : Env} {d : Dev} {f : Flight} {high : List (Nat × Nat)} {i el : Nat} (hlo : O.JQ_RUN ≤ i)
    (hhi : i < O.RX_GROUP_STATE) (he : el < 4096) : (d.openWindows e f high).o i el = d.o i el := by
  obtain ⟨x, hx, heq⟩ := d.openWindows_keeps e f high
  rw [heq]
  exact hx.o hlo hhi he

/-- A shot that has passed fire commit and emits nothing: counted as cut, with its cathodes' pulses if any are left (R281, R40). -/
theorem Dev.emptyShot_cuts {e : Env} {d : Dev} {f : Flight} {m : EmitMeas} {n : Nat} : ∃ out,
    Emitted d (d.emptyShot e f m n) f out d.em.lastEmit (some 2) ∧ (n = 0 → out = d.sent) ∧
      (d.emptyShot e f m n).o O.HM_CUT_SHOTS = ctrAdd O.HM_CUT_SHOTS 0 (d.o O.HM_CUT_SHOTS) 1 := by
  obtain ⟨x, hx⟩ : ∃ x : Dev, x = ((d.darkEnd e f).inc O.HM_CUT_SHOTS).dropBlank (f.emit - 240) (f.emit + 600) := ⟨_, rfl⟩
  obtain ⟨y, hy⟩ : ∃ y : Dev, y = if n == 0 then x else x.send (.pulses (x.kdTrims f.kd)
    ((codePulses (x.o O.EM_CODE (entCode f.shot.ent))).take n)) := ⟨_, rfl⟩
  have hdark := d.steady_darkEnd e f
  have hyx : y.jq = x.jq ∧ y.pwr = x.pwr ∧ y.objs = x.objs ∧ y.em = x.em ∧ (n = 0 → y.sent = x.sent) := by
    rw [hy]
    split
    · exact ⟨rfl, rfl, rfl, rfl, fun _ => rfl⟩
    next h0 => exact ⟨rfl, rfl, rfl, rfl, fun h => absurd h (by simpa using h0)⟩
  obtain ⟨hjq, hpwr, hobjs, hem, hsent⟩ := hyx
  have hstamp := y.steady_emitStamp (if n == 0 || f.kd == 0 then none else m.edge)
  have heq : d.emptyShot e f m n = (y.emitStamp (if n == 0 || f.kd == 0 then none else m.edge)).2.2.openWindows e
      { f with supp := some 2, stamp := (y.emitStamp (if n == 0 || f.kd == 0 then none else m.edge)).1,
               miss := (y.emitStamp (if n == 0 || f.kd == 0 then none else m.edge)).2.1, dark := none } m.high := by
    rw [hy, hx]
    rfl
  rw [heq]
  refine ⟨_, emitted_openWindows (g := { f with supp := some 2, stamp := _, miss := _, dark := none }) ?_ ?_ rfl ?_ rfl, fun hn => ?_, ?_⟩
  · exact (hstamp.jq.trans hjq).trans ((congrArg Dev.jq hx).trans hdark.jq)
  · exact (hstamp.rstDue.trans (congrArg Pwr.rstDue hpwr)).trans ((congrArg (fun d => d.pwr.rstDue) hx).trans hdark.rstDue)
  · exact congrArg Em.lastEmit ((hstamp.em.trans hem).trans ((congrArg Dev.em hx).trans hdark.em))
  · exact (hstamp.sent.trans (hsent hn)).trans ((congrArg Dev.sent hx).trans hdark.sent)
  · rw [Dev.o_openWindows (by decide) (by decide) (by decide), hstamp.o (by decide) (by decide) (by decide), Dev.o_congr hobjs,
      Dev.o_congr (show x.objs = ((d.darkEnd e f).inc O.HM_CUT_SHOTS).objs by rw [hx]; rfl), Dev.o_inc_self,
      hdark.o (by decide) (by decide) (by decide)]

section
variable {s : State} {f : Flight} {m : EmitMeas}

/-- An emission that is due of a shot that fires. -/
theorem emission_runs (hfl : s.dev.jq.flight = some f) (hfires : f.fires = true) (hemit : f.emitted = false)
    (hdue : f.emit ≤ 2 * s.clock.time + 1) : s.begun.emission s.env m =
      if s.begun.pulsesLeft f m.left == 0 || f.an == 0 || f.kd == 0 then s.begun.emptyShot s.env f m (s.begun.pulsesLeft f m.left)
      else s.begun.fireShot s.env f m (s.begun.pulsesLeft f m.left) := by
  have hnot : ¬ (!f.fires || f.emitted || decide (2 * s.env.now + 1 < f.emit)) = true := by
    rw [hfires, hemit]
    exact fun h => absurd (of_decide_eq_true h) (Nat.not_lt.mpr hdue)
  unfold Dev.emission
  rw [show s.begun.jq.flight = some f from hfl]
  exact if_neg hnot

theorem emission_fires (hq : s.Quiet) (hfl : s.dev.jq.flight = some f) (hfires : f.fires = true) (hemit : f.emitted = false)
    (hdue : f.emit ≤ 2 * s.clock.time + 1) (hinh : f.inhibited = false) (han : f.an ≠ 0) (hkd : f.kd ≠ 0) (hleft : m.left = none)
    (hacc : f.shot.acc = none) (htrig : entTrig f.shot.ent = false) (htw : s.dev.ob O.TW_ENABLE = false) :
    Leads (.emission m) s (fun t =>
      t.dev.sent = [.pulses (s.dev.kdTrims f.kd) (codePulses (s.dev.o O.EM_CODE (entCode f.shot.ent)))] ∧
      t.dev.em.lastEmit = f.emit ∧ ∃ f', t.dev.jq.flight = some f' ∧ f'.emitted = true ∧ f'.wins = true ∧ f'.shot = f.shot) := by
  have hn : s.begun.pulsesLeft f m.left = codeNp (s.begun.o O.EM_CODE (entCode f.shot.ent)) := by
    unfold Dev.pulsesLeft
    dsimp only
    rw [hinh, hleft, if_neg Bool.false_ne_true, Option.getD_none, Nat.min_self]
  have hpos := codeNp_pos (s.dev.o O.EM_CODE (entCode f.shot.ent))
  have hrun := emission_runs (m := m) hfl hfires hemit hdue
  rw [hn, if_neg (by simp [han, hkd, Nat.pos_iff_ne_zero.mp hpos])] at hrun
  obtain ⟨hsent, hlast, hset, hrst, f', hf', he', hw', hs', -⟩ := Dev.fireShot_emits (e := s.env) (d := s.begun) (f := f) (m := m) hacc htrig htw
  refine leads_ends (f := fun e d => d.emission e m) _ hq rfl hrun (hset.trans hq.1) (hrst.trans hq.2.1) fun t ht =>
    ⟨ht.sent.trans hsent, (congrArg Em.lastEmit ht.em).trans hlast, f', (congrArg Jq.flight ht.jq).trans hf', he', hw', hs'⟩

theorem emission_empty (hq : s.Quiet) (hfl : s.dev.jq.flight = some f) (hfires : f.fires = true) (hemit : f.emitted = false)
    (hdue : f.emit ≤ 2 * s.clock.time + 1) (hnone : f.inhibited = true ∨ f.an = 0 ∨ f.kd = 0) :
    Leads (.emission m) s (fun t => t.dev.em.lastEmit = s.dev.em.lastEmit ∧ (f.inhibited = true → t.dev.sent = []) ∧
      t.dev.o O.HM_CUT_SHOTS = ctrAdd O.HM_CUT_SHOTS 0 (s.dev.o O.HM_CUT_SHOTS) 1 ∧
      ∃ f', t.dev.jq.flight = some f' ∧ f'.supp = some 2 ∧ f'.wins = true ∧ f'.shot = f.shot) := by
  have hzero : f.inhibited = true → s.begun.pulsesLeft f m.left = 0 := fun h => if_pos h
  have hrun := emission_runs (m := m) hfl hfires hemit hdue
  rw [if_pos (by rcases hnone with h | h | h <;> simp [h, hzero])] at hrun
  obtain ⟨out, ⟨hsent, hlast, hset, hrst, f', hf', he', hw', hs', hp'⟩, hout, hcut⟩ :=
    Dev.emptyShot_cuts (e := s.env) (d := s.begun) (f := f) (m := m) (n := s.begun.pulsesLeft f m.left)
  exact leads_ends (f := fun e d => d.emission e m) _ hq rfl hrun (hset.trans hq.1) (hrst.trans hq.2.1) fun t ht =>
    ⟨(congrArg Em.lastEmit ht.em).trans hlast, fun h => (ht.sent.trans hsent).trans (hout (hzero h)), (ht.o _ _).trans hcut,
      f', (congrArg Jq.flight ht.jq).trans hf', hp', hw', hs'⟩

end

/-! ### The close of the windows -/

/-- `Spans` of Jacquard's own objects. -/
abbrev Dev.Closes (d d' : Dev) : Prop := Dev.Spans O.EM_STATE d d'

theorem Dev.closes_memRd (e : Env) (d : Dev) (req a n : Nat) : Dev.Closes d (d.memRd e req a n).2 := by
  have hcount : ∀ (d : Dev) b, Dev.Closes d (d.rdCount a n b) := fun d b =>
    (Dev.Spans.inc (by decide)).trans (.ite (.inc (by decide)) (.refl _))
  unfold Dev.memRd
  split
  · exact Dev.spans_memLog _ _ _ _ _ _ (by decide)
  · exact (Dev.Spans.foldl hcount (blocksOf a n) d).trans (.of_objs rfl rfl rfl)

theorem Dev.closes_statCount (d : Dev) (x : Option Int) : Dev.Closes d (d.statCount x) := by
  unfold Dev.statCount
  split
  · refine Dev.Spans.trans (.so (i := O.TDC_STAT_HITS) (el := 0) (v := d.o O.TDC_STAT_HITS + 1) (by decide)) ?_
    exact .of_objs rfl rfl rfl
  · exact .so (by decide)

theorem Dev.closes_statSample (d : Dev) (e16 : Int) (w : Win) : Dev.Closes d (d.statSample e16 w) := by
  have hshow : ∀ d : Dev, Dev.Closes d d.statShow := fun d =>
    ((Dev.Spans.so (by decide)).trans (.so (by decide))).trans (.so (by decide))
  unfold Dev.statSample
  exact .ite (.refl d) (((Dev.closes_statCount ..).trans (.ite (.so (by decide)) (.refl _))).trans (hshow _))

theorem Dev.closes_closeCount (m : CloseMeas) (f : Flight) (d : Dev) (w : Win) : Dev.Closes d (Dev.closeCount m f d w) := by
  unfold Dev.closeCount
  extract_lets v sat d1 d2 pol d3
  have h1 : Dev.Closes d d1 := .ite (.inc (by decide)) (.refl d)
  have h2 : Dev.Closes d1 d2 := .inc (by decide)
  have h3 : Dev.Closes d2 d3 := by
    show Dev.Closes d2 (match f.shot.acc with
      | some i => _
      | none => _)
    split
    · exact .of_objs rfl rfl rfl
    · exact Dev.spans_verdict ..
  exact ((h1.trans h2).trans h3).trans (Dev.closes_statSample ..)

theorem Dev.closes_digiCounts (e : Env) (d : Dev) (m : List (Nat × Nat × List Int)) (emit : Nat) : Dev.Closes d (d.digiCounts e m emit) := by
  unfold Dev.digiCounts
  refine (Dev.Spans.foldl (fun d (p : Nat × Nat × List Int) => .inc (by decide)) _ d).trans (.foldl (fun d c => ?_) _ _)
  split
  · exact .refl d
  · exact .inc (by decide)

theorem Dev.closes_binWin (d : Dev) (w : Win) (wclass : Nat) (e16 : Int) : Dev.Closes d (d.binWin w wclass e16) := by
  refine .foldl (fun d (s : Stamp) => ?_) _ d
  exact .ite (.inc (by decide)) (.ite (.inc (by decide)) (.of_objs rfl rfl rfl))

theorem Dev.closes_setGroup (d : Dev) (i : Nat) (g : ExGroup) : Dev.Closes d (d.setGroup i g) := .of_objs rfl rfl rfl

theorem Dev.closes_closeMulti (e : Env) (d : Dev) (f : Flight) (i : Nat) (ws : List Win) (voided : Nat → Bool) (blanked ovf : Bool) :
    Dev.Closes d (d.closeMulti e f i ws voided blanked ovf) := by
  have hacc : ∀ (d : Dev) w, Dev.Closes d (Dev.accumulate f i voided d w) := by
    intro d w
    unfold Dev.accumulate
    split
    · exact .refl d
    · exact (Dev.closes_binWin ..).trans (Dev.closes_setGroup ..)
  unfold Dev.closeMulti
  extract_lets d1 g added g' d2
  have h1 : Dev.Closes d d1 := .foldl hacc ws d
  have h2 : Dev.Closes d1 d2 := Dev.closes_setGroup ..
  exact (h1.trans h2).trans (Dev.spans_bareHdr _ _ _ _ _ (by decide))

/-- What the extraction of a window counts. -/
theorem Dev.singleShot_dev (d : Dev) (w : Win) (code : Nat) (e16 tg : Int) (amb : Bool) (dg : Pulse → Option (Option Rat)) :
    ∃ narrow fallback clamps unmatched, (d.singleShot w code e16 tg amb dg).2.2 =
      (((d.inc O.EX_SS_NARROW w.chan narrow).inc O.EX_DIGI_FALLBACK 0 fallback).inc O.EX_WALK_CLAMPS w.chan clamps).inc
        O.EX_SS_UNMATCHED w.chan unmatched := by
  unfold Dev.singleShot
  extract_lets ch all d1 ps0 ps d2 need m unm cs d3 d4 ordered
  exact ⟨_, _, _, _, rfl⟩

theorem Dev.closes_singleShot (d : Dev) (w : Win) (code : Nat) (e16 tg : Int) (amb : Bool) (dg : Pulse → Option (Option Rat)) :
    Dev.Closes d (d.singleShot w code e16 tg amb dg).2.2 := by
  obtain ⟨a, b, c, x, h⟩ := d.singleShot_dev w code e16 tg amb dg
  rw [h]
  exact (((Dev.Spans.inc (by decide)).trans (.inc (by decide))).trans (.inc (by decide))).trans (.inc (by decide))

theorem Dev.closes_observe (e : Env) (m : CloseMeas) (f : Flight) (serial : Nat) (d : Dev) (w : Win) :
    Dev.Closes d (Dev.observe e m f serial d w) := by
  unfold Dev.observe
  extract_lets code tg ofs
  split
  next found unm d1 hss =>
    have h1 : Dev.Closes d d1 := by
      have := Dev.closes_singleShot d w code f.stamp tg (d.ambHigh w.chan)
        (fun p => d.digiPeak e m.samples f.emit w.chan { p with tr := p.tr + ofs, tf := p.tf + ofs })
      rwa [hss] at this
    extract_lets echoes d2 intf d3 src d4 o
    have h2 : Dev.Closes d1 d2 := .inc (by decide)
    have h3 : Dev.Closes d2 d3 := .ite (.inc (by decide)) (.refl _)
    have h4 : Dev.Closes d3 d4 := .ite (.of_objs rfl rfl rfl) (.refl _)
    exact (((h1.trans h2).trans h3).trans h4).trans (.of_objs rfl rfl rfl)

theorem Dev.closes_closeSingle (e : Env) (d : Dev) (m : CloseMeas) (f : Flight) (ws : List Win) (blanked ovf : Bool) :
    Dev.Closes d (d.closeSingle e m f ws blanked ovf) := by
  unfold Dev.closeSingle
  split
  · exact Dev.spans_bareHdr _ _ _ _ _ (by decide)
  · have hopen : ∀ d : Dev, Dev.Closes d (d.openJob (flightWord f blanked ovf) false ws.length).2 := fun d => .of_objs rfl rfl rfl
    exact (hopen d).trans (.foldl (fun d w => Dev.closes_observe e m f _ d w) ws _)

theorem Dev.closes_acq (d : Dev) (a : Acq) : Dev.Closes d { d with acq := a } := .of_objs rfl rfl rfl

theorem Dev.closes_mark (d : Dev) (t : Trig) (started missed : Bool) : Dev.Closes d (d.mark t started missed) := by
  unfold Dev.mark
  split
  · exact .refl d
  · extract_lets n w d1
    have h1 : Dev.Closes d d1 := .inc (by decide)
    split
    · exact h1.trans (.inc (by decide))
    · exact (h1.trans (Dev.closes_acq ..)).trans (Dev.spans_enq _ _ (by decide))

theorem Dev.closes_takeTrig (d : Dev) : Dev.Closes d d.takeTrig := by
  unfold Dev.takeTrig
  split
  · exact .refl d
  next t _ =>
    extract_lets src d1 st started missed d2 d3
    have h2 : Dev.Closes d d2 := (Dev.closes_acq d _).trans (Dev.closes_mark ..)
    split
    · have h3 : Dev.Closes d2 (d3.so O.ACQ_STATE 0 4) := (Dev.closes_acq d2 _).trans (.so (by decide))
      exact (h2.trans h3).trans (Dev.closes_acq ..)
    · split
      · exact h2.trans (.inc (by decide))
      · exact h2

theorem Dev.closes_snapPut (e : Env) (d : Dev) (rseq : Nat) (bs : Bytes) (drop : Bool) : Dev.Closes d (d.snapPut e rseq bs drop) := by
  unfold Dev.snapPut
  extract_lets slot d1
  have h1 : Dev.Closes d d1 := Dev.spans_memWr _ _ _ _ _ (by decide)
  exact h1.trans (Dev.closes_acq ..)

theorem Dev.closes_snapRec (e : Env) (d : Dev) (rseq : Nat) (bs : Bytes) (drop : Bool) : Dev.Closes d (d.snapRec e rseq bs drop) := by
  have hput := Dev.closes_snapPut e d rseq bs drop
  unfold Dev.snapRec
  dsimp only
  split
  · exact hput.trans (.ite (.so (by decide)) (.refl _))
  · split
    · exact hput.trans (Dev.closes_acq ..)
    · split
      · exact hput.trans (Dev.closes_acq ..)
      · exact .refl d

theorem Dev.closes_streamRec (e : Env) (d : Dev) (rseq : Nat) (bs : Bytes) : Dev.Closes d (d.streamRec e rseq bs) := by
  have hread : ∀ (d : Dev) a n g, Dev.Closes d { (d.memRd e 6 a n).2 with acq := g } := fun d a n g =>
    (Dev.closes_memRd e d 6 a n).trans (Dev.closes_acq ..)
  unfold Dev.streamRec
  refine .ite ((Dev.Spans.inc (by decide)).trans (Dev.closes_acq ..)) ?_
  exact ((Dev.spans_memWr _ _ _ _ _ (by decide)).trans (hread ..)).trans (Dev.spans_enq _ _ (by decide))

theorem Dev.closes_acqRecord (e : Env) (d : Dev) (m : CloseMeas) (f : Flight) (word : Nat) (ws : List Win) :
    Dev.Closes d (d.acqRecord e m f word ws) := by
  have htake : ∀ d : Dev, Dev.Closes d d.takeTrigs := fun d => .foldl (fun d _ => Dev.closes_takeTrig d) _ d
  unfold Dev.acqRecord
  refine .ite (.refl d) ?_
  extract_lets ws' winOf srcs sts d1 blocks rseq trec
  refine .ite (.refl d) ?_
  split
  next data nlost _ =>
    extract_lets head bs d2 s1 d3 d4
    have h2 : Dev.Closes d1 d2 := .inc (by decide)
    have h3 : Dev.Closes d2 d3 := Dev.closes_acq ..
    have h4 : Dev.Closes d3 d4 := Dev.closes_snapRec ..
    exact (((htake d).trans h2).trans (h3.trans h4)).trans (.ite (Dev.closes_streamRec ..) (.refl _))

theorem Dev.closes_peakCheck (d : Dev) (an : Nat) : Dev.Closes d (d.peakCheck an) := by
  refine .foldl (fun d l => ?_) _ d
  extract_lets pk sp d1
  have h1 : Dev.Closes d d1 := .so (by decide)
  refine h1.trans (.ite ?_ (.of_objs rfl rfl rfl))
  exact (Dev.Spans.inc (i := O.EM_AN_UNDER) (by decide)).trans (.of_objs rfl rfl rfl)

/-- What the windows of the shot in flight leave: counts, observations or bins, their header, and the record (R393, R440, R528). -/
def Dev.harvest (e : Env) (d : Dev) (m : CloseMeas) (f : Flight) : Dev :=
  let rs := d.rx.windows.map (fun w => d.closeWin e f m.trips { w with sat := w.sat || (CloseMeas.verdict m w.chan).2 })
  let ws := rs.map Prod.fst
  let blanked := rs.any Prod.snd
  let ovf := ws.any Win.ovf
  let voided := fun (c : Nat) => d.o O.RX_VOILE_MODE == 2 && rs.any (fun (r : Win × Bool) => r.1.chan == c && r.2)
  let d := if blanked then d.inc O.RX_VOILE_SHOTS else d
  let d := ws.foldl (Dev.closeCount m f) d
  let d := d.digiCounts e m.samples f.emit
  let d := match f.shot.acc with
    | some i => d.closeMulti e f i ws voided blanked ovf
    | none => d.closeSingle e m f ws blanked ovf
  if f.supp.isSome then d else (d.acqRecord e m f (flightWord f blanked ovf) ws).peakCheck f.an

theorem Dev.windowClose_eq {e : Env} {d : Dev} {m : CloseMeas} {f : Flight} (hfl : d.jq.flight = some f) (hwins : f.wins = true)
    (hdue : f.emit + windowCp (entWclass f.shot.ent) ≤ 2 * e.now + 1) : d.windowClose e m =
      (Dev.nextLine e { ((d.harvest e m f).dropMoves (fun s => s.planned ≤ 2 * e.now + 1)) with
        jq := { ((d.harvest e m f).dropMoves (fun s => s.planned ≤ 2 * e.now + 1)).jq with flight := none } }).shotOver e f.shot := by
  unfold Dev.windowClose
  rw [hfl]
  exact if_neg (by simp [hwins, hdue])

theorem Dev.closes_harvest (e : Env) (d : Dev) (m : CloseMeas) (f : Flight) : Dev.Closes d (d.harvest e m f) := by
  unfold Dev.harvest
  extract_lets rs ws blanked ovf voided d1 d2 d3 d4
  have h1 : Dev.Closes d d1 := .ite (.inc (by decide)) (.refl d)
  have h2 : Dev.Closes d1 d2 := .foldl (Dev.closes_closeCount m f) ws d1
  have h3 : Dev.Closes d2 d3 := Dev.closes_digiCounts ..
  have h4 : Dev.Closes d3 d4 := by
    show Dev.Closes d3 (match f.shot.acc with
      | some i => _
      | none => _)
    split
    · exact Dev.closes_closeMulti ..
    · exact Dev.closes_closeSingle ..
  exact (((h1.trans h2).trans h3).trans h4).trans (.ite (.refl _) ((Dev.closes_acqRecord ..).trans (Dev.closes_peakCheck ..)))

/-! ### The end of the shot leaves no window -/

theorem Dev.windows_groupIdle (e : Env) (d : Dev) (g : Nat) : (d.groupIdle e g).rx.windows = d.rx.windows := by
  have hset : ∀ st, (d.groupSet e g st).rx.windows = d.rx.windows := fun st => by rw [Dev.switched_groupSet e d g st]
  have hdown : ∀ off, (d.groupDown e g off).rx.windows = d.rx.windows := by
    intro off
    unfold Dev.groupDown
    dsimp only
    split
    · rfl
    · split
      · exact hset _
      · split
        · exact hset _
        · split <;> rfl
  unfold Dev.groupIdle
  dsimp only
  split_ifs
  · exact hdown _
  · rfl
  · split
    · exact hdown _
    · split_ifs
      · rfl
      · exact hdown _
      · exact hdown _

theorem Dev.windows_hdrDone (e : Env) (d : Dev) (word : Nat) (result : Bool) (recs : List Nat) :
    (d.hdrDone e word result recs).rx.windows = d.rx.windows := by
  have henq : ∀ (d : Dev) p, (d.enq p).rx.windows = d.rx.windows := by
    intro d p
    unfold Dev.enq
    split_ifs <;> rfl
  have hflush : ∀ d : Dev, d.flushHdrs.rx.windows = d.rx.windows := by
    intro d
    unfold Dev.flushHdrs
    split
    · rfl
    · exact henq ..
  unfold Dev.hdrDone
  split
  · exact (henq ..).trans (hflush d)
  · split
    · rfl
    · dsimp only
      split
      · exact hflush _
      · rfl

theorem Dev.windows_exClose (e : Env) (d : Dev) (inst : Nat) : (d.exClose e inst).rx.windows = d.rx.windows := by
  have hcap : ∀ (d : Dev) g, (d.capture e g).rx.windows = d.rx.windows := by
    intro d g
    unfold Dev.capture
    dsimp only
    split
    · rfl
    · rw [Dev.setDom_eq]
  have hver : ∀ (l : List (Nat × Nat × Bool × Nat)) (d : Dev),
      (l.foldl (fun d v => d.verdict v.1 v.2.1 v.2.2.1 v.2.2.2) d).rx.windows = d.rx.windows := by
    intro l
    induction l with
    | nil => exact fun _ => rfl
    | cons v l ih =>
      have hone : ∀ d : Dev, (d.verdict v.1 v.2.1 v.2.2.1 v.2.2.2).rx.windows = d.rx.windows := by
        intro d
        unfold Dev.verdict
        split <;> rfl
      exact fun d => (ih _).trans (hone d)
  unfold Dev.exClose Dev.closeGroup
  split
  · rfl
  case h_2 g _ =>
    split
    · rfl
    · dsimp only
      split
      · exact (Dev.windows_hdrDone ..).trans ((hver ..).trans ((hcap ..).trans rfl))
      · exact (hver ..).trans ((hcap ..).trans rfl)

/-- While Jacquard runs, the end of a shot leaves no window (R183). -/
theorem Dev.shotOver_windows {e : Env} {d : Dev} {s : Shot} (hstate : d.o O.JQ_STATE ≠ 3) : (d.shotOver e s).rx.windows = [] := by
  have hspan := (Dev.spans_groupsIdle (n := O.RX_GROUP_STATE) (e := e) (d := d.landedNone) (m := d.shotChans e s) le_rfl).trans
    (Dev.spans_accOver e _ s (by decide))
  have hidle : ∀ (l : List Nat) (d : Dev), (l.foldl (fun d g => d.groupIdle e g) d).rx.windows = d.rx.windows := by
    intro l
    induction l with
    | nil => exact fun _ => rfl
    | cons g l ih => exact fun d => (ih _).trans (Dev.windows_groupIdle ..)
  have hacc : ∀ d : Dev, (d.accOver e s).rx.windows = d.rx.windows := by
    intro d
    unfold Dev.accOver
    split
    · split
      · exact Dev.windows_exClose ..
      · rfl
    · rfl
  rw [Dev.shotOver_eq, Dev.stopCheck_running]
  · exact (hacc _).trans ((hidle ..).trans rfl)
  · rw [hspan.o (by decide) (by decide) (by decide)]
    exact hstate

theorem windowClose_ends {s : State} {f : Flight} {m : CloseMeas} (hq : s.Quiet) (hstate : s.dev.o O.JQ_STATE = 2)
    (hfl : s.dev.jq.flight = some f) (hwins : f.wins = true) (hdue : f.emit + windowCp (entWclass f.shot.ent) ≤ 2 * s.clock.time + 1)
    (hqueue : s.dev.jq.queue = []) : Leads (.windowClose m) s (fun t => t.dev.jq.flight = none ∧ t.dev.rx.windows = []) := by
  obtain ⟨x, hx⟩ : ∃ x : Dev, x = s.begun.harvest s.env m f := ⟨_, rfl⟩
  have hspan : Dev.Closes s.begun x := by rw [hx]; exact Dev.closes_harvest ..
  have hxq : x.jq.queue = [] := (congrArg Jq.queue hspan.jq).trans hqueue
  obtain ⟨y, hy⟩ : ∃ y : Dev, y = { x with jq := { x.jq with flight := none } } := ⟨_, rfl⟩
  have hline : y.nextLine s.env = y := by
    unfold Dev.nextLine
    rw [show y.jq.queue = [] by rw [hy]; exact hxq]
    rfl
  have hrun : s.begun.windowClose s.env m = y.shotOver s.env f.shot := by
    rw [Dev.windowClose_eq (e := s.env) (d := s.begun) hfl hwins hdue, ← hx, Dev.dropMoves_nil hxq, ← hy, hline]
  have hrunning : y.o O.JQ_STATE ≠ 3 := by
    have ho : y.o O.JQ_STATE = x.o O.JQ_STATE := Dev.o_congr (by rw [hy]) _ _
    rw [ho, hspan.o (by decide) (by decide) (by decide)]
    exact fun h => absurd (hstate.symm.trans h) (by decide)
  have hover := Dev.shotOver_over (e := s.env) (s := f.shot) hrunning
  have hset : y.jq.settle = false := by
    rw [hy]
    exact (congrArg Jq.settle hspan.jq).trans hq.1
  have hrst : y.pwr.rstDue = none := by
    rw [hy]
    exact hspan.rstDue.trans hq.2.1
  exact leads_ends (f := fun e d => d.windowClose e m) _ hq rfl hrun (hover.settle.trans hset) (hover.rstDue.trans hrst) fun t ht =>
    ⟨(congrArg Jq.flight ht.jq).trans hover.flight, (congrArg Rx.windows ht.rx).trans (Dev.shotOver_windows hrunning)⟩

/-- Settles O22: the emission drives the outputs or is counted as cut, and what the windows leave changes nothing of Jacquard, whose
flight and windows the end of the shot clears. -/
theorem emissionAndTheEndOfTheShot : Obligations.EmissionAndTheEndOfTheShot := by
  unfold Obligations.EmissionAndTheEndOfTheShot
  exact ⟨fun s f m hq hstate hfl hfires hemit hdue =>
      ⟨fun hinh han hkd hleft hacc htrig htw => emission_fires hq hfl hfires hemit hdue hinh han hkd hleft hacc htrig htw,
       fun hnone => emission_empty hq hfl hfires hemit hdue hnone⟩,
    fun s f m hq hstate hfl hwins hdue hqueue => windowClose_ends hq hstate hfl hwins hdue hqueue⟩

end Sys2Proof.Machine
end


section
/-! PROOF. Frame origins under SYNC_IN (R169, R170). -/

namespace Sys2Proof.Machine

/-! ### Origins -/

theorem Dev.lastOrigin_first {d : Dev} (hnext : d.jq.originNext = none) (hlater : d.jq.originLater = []) : d.lastOrigin = d.jq.origin := by
  unfold Dev.lastOrigin
  rw [hnext, hlater]
  rfl

theorem Dev.addOrigin_first {d : Dev} {f : Nat} (hnext : d.jq.originNext = none) :
    d.addOrigin f = { d with jq := { d.jq with originNext := some f } } := by
  unfold Dev.addOrigin
  rw [hnext]
  rfl

theorem Dev.addOrigin_later {d : Dev} {f x : Nat} (hnext : d.jq.originNext = some x) :
    d.addOrigin f = { d with jq := { d.jq with originLater := d.jq.originLater ++ [f] } } := by
  unfold Dev.addOrigin
  rw [hnext]
  rfl

/-- The device after one frame without an edge, none having been fixed before it. -/
def Dev.missedOne (d : Dev) : Dev :=
  { (d.inc O.JQ_SYNC_MISSED) with jq := { d.jq with originNext := some (d.jq.origin + 3000 * d.o O.JQ_FRAME_PERIOD) } }

theorem Dev.missOrigin_first {d : Dev} (hnext : d.jq.originNext = none) (hlater : d.jq.originLater = []) : d.missOrigin = d.missedOne := by
  unfold Dev.missOrigin
  rw [Dev.lastOrigin_first hnext hlater, Dev.addOrigin_first hnext]
  rfl

theorem Dev.missedOne_missed (d : Dev) :
    d.missedOne.o O.JQ_SYNC_MISSED = ctrAdd O.JQ_SYNC_MISSED 0 (d.o O.JQ_SYNC_MISSED) 1 := by
  rw [Dev.o_congr (show d.missedOne.objs = (d.inc O.JQ_SYNC_MISSED).objs from rfl), Dev.o_inc_self]

theorem Dev.missedOne_period (d : Dev) : d.missedOne.o O.JQ_FRAME_PERIOD = d.o O.JQ_FRAME_PERIOD := by
  rw [Dev.o_congr (show d.missedOne.objs = (d.inc O.JQ_SYNC_MISSED).objs from rfl), Dev.o_inc_other (by decide) (by decide) (by decide)]

theorem Dev.missedOne_lastOrigin {d : Dev} (hlater : d.jq.originLater = []) :
    d.missedOne.lastOrigin = d.jq.origin + 3000 * d.o O.JQ_FRAME_PERIOD := by
  unfold Dev.lastOrigin
  rw [show d.missedOne.jq.originLater = [] from hlater]
  rfl

theorem Dev.missBefore_none {d : Dev} {t n : Nat} (h : t ≤ d.lastOrigin + 4500 * d.o O.JQ_FRAME_PERIOD) : Dev.missBefore t n d = d := by
  cases n with
  | zero => rfl
  | succ n => exact if_neg (by omega)

theorem Dev.missBefore_succ {d : Dev} {t n : Nat} (h : d.lastOrigin + 4500 * d.o O.JQ_FRAME_PERIOD < t) :
    Dev.missBefore t (n + 1) d = Dev.missBefore t n d.missOrigin := if_pos h

/-! ### The edge -/

section
variable {e : Env} {d : Dev}

theorem Dev.syncEdge_awaits (h : d.awaitsSync = true) : d.syncEdge e =
    (let m := Dev.missBefore (2 * e.now) ((2 * e.now - d.lastOrigin) / (3000 * d.o O.JQ_FRAME_PERIOD) + 1) d
     if m.lastOrigin + 1500 * m.o O.JQ_FRAME_PERIOD < 2 * e.now then m.addOrigin (2 * e.now + 150000) else m) := by
  unfold Dev.syncEdge
  rw [h]
  rfl

variable (h : d.awaitsSync = true) (hnext : d.jq.originNext = none) (hlater : d.jq.originLater = [])
include h hnext hlater

/-- An edge in its place fixes the next origin (R169). -/
theorem Dev.syncEdge_timely (hlo : d.jq.origin + 1500 * d.o O.JQ_FRAME_PERIOD < 2 * e.now)
    (hhi : 2 * e.now ≤ d.jq.origin + 4500 * d.o O.JQ_FRAME_PERIOD) :
    d.syncEdge e = { d with jq := { d.jq with originNext := some (2 * e.now + 150000) } } := by
  have hlast := Dev.lastOrigin_first hnext hlater
  rw [Dev.syncEdge_awaits h, Dev.missBefore_none (by rw [hlast]; exact hhi)]
  dsimp only
  rw [hlast, if_pos hlo, Dev.addOrigin_first hnext]

/-- An edge one period late shows the miss first and fixes the origin after (R169, R170). -/
theorem Dev.syncEdge_late (hlo : d.jq.origin + 4500 * d.o O.JQ_FRAME_PERIOD < 2 * e.now)
    (hhi : 2 * e.now ≤ d.jq.origin + 7500 * d.o O.JQ_FRAME_PERIOD) :
    d.syncEdge e = { d.missedOne with jq := { d.missedOne.jq with originLater := d.jq.originLater ++ [2 * e.now + 150000] } } := by
  have hlast := Dev.lastOrigin_first hnext hlater
  have hmiss : ∀ n, Dev.missBefore (2 * e.now) (n + 1) d = d.missedOne := by
    intro n
    rw [Dev.missBefore_succ (by rw [hlast]; exact hlo), Dev.missOrigin_first hnext hlater]
    exact Dev.missBefore_none (by rw [Dev.missedOne_lastOrigin hlater, Dev.missedOne_period]; omega)
  rw [Dev.syncEdge_awaits h, hmiss]
  dsimp only
  rw [Dev.missedOne_lastOrigin hlater, Dev.missedOne_period, if_pos (by omega), Dev.addOrigin_later rfl]
  rfl

theorem Dev.syncMissed_due (hdue : d.jq.origin + 4500 * d.o O.JQ_FRAME_PERIOD ≤ 2 * e.now) : d.syncMissed e = d.missedOne := by
  unfold Dev.syncMissed
  rw [Dev.lastOrigin_first hnext hlater, if_pos (by simp [h, hdue]), Dev.missOrigin_first hnext hlater]

end

/-- What the filter chains take from the same edge leaves Jacquard and the objects (R526). -/
theorem Dev.syncIn_eq (e : Env) (d : Dev) : ∃ a, d.syncIn e = { (d.syncEdge e) with acq := a } := by
  unfold Dev.syncIn
  dsimp only
  split
  · exact ⟨_, rfl⟩
  · exact ⟨(d.syncEdge e).acq, rfl⟩

/-- A SYNC_IN edge leads to what Jacquard's share of it does. -/
theorem leads_syncIn {s : State} {x : Dev} {P : State → Prop} (hq : s.Quiet) (hx : s.begun.syncEdge s.env = x)
    (hset : x.jq.settle = s.dev.jq.settle) (hrst : x.pwr.rstDue = s.dev.pwr.rstDue)
    (hP : ∀ t : State, t.dev.jq = x.jq → (∀ i el, t.dev.o i el = x.o i el) → P t) : Leads .syncInEdge s P := by
  obtain ⟨a, ha⟩ := Dev.syncIn_eq s.env s.begun
  rw [hx] at ha
  exact leads_ends (f := fun e d => d.syncIn e) _ hq rfl ha (hset.trans hq.1) (hrst.trans hq.2.1) fun t ht =>
    hP t ht.jq fun i el => (ht.o i el).trans (Dev.o_congr rfl _ _)

/-- Settles O23: an edge is held against the latest fixed origin, after the frames that have missed theirs. -/
theorem frameSynchronisation : Obligations.FrameSynchronisation := by
  unfold Obligations.FrameSynchronisation
  intro s hq hstate hsync hnext hlater
  have hawait : s.begun.awaitsSync = true := by
    unfold Dev.awaitsSync
    simp [hstate, hsync]
  refine ⟨fun hlo hhi => ?_, fun hlo hhi => ?_, fun hdue => ?_⟩
  · exact leads_syncIn hq (Dev.syncEdge_timely (e := s.env) hawait hnext hlater hlo hhi) rfl rfl fun t hjq ho => ⟨by rw [hjq]; rfl, ho _ _⟩
  · refine leads_syncIn hq (Dev.syncEdge_late (e := s.env) hawait hnext hlater hlo hhi) rfl rfl fun t hjq ho => ⟨by rw [hjq]; rfl, ?_, ?_⟩
    · rw [hjq]
      exact congrArg (· ++ [2 * s.clock.time + 150000]) hlater
    · exact (ho _ _).trans (Dev.missedOne_missed s.begun)
  · exact leads_ends (f := fun e d => d.syncMissed e) _ hq rfl (Dev.syncMissed_due (e := s.env) hawait hnext hlater hdue) hq.1 hq.2.1
      fun t ht => ⟨by rw [ht.jq]; rfl, (ht.o _ _).trans (Dev.missedOne_missed s.begun)⟩

end Sys2Proof.Machine
end


section
/-! PROOF. Bank swaps and patches (chapter 03). -/

namespace Sys2Proof.Machine

/-! ### What a pending swap is read from -/

theorem Dev.swapPending_congr {d d' : Dev} (hsh : d'.shadows = d.shadows) (hst : d'.lock.staged = d.lock.staged)
    (hc : d'.commit = d.commit) : d'.swapPending = d.swapPending := by
  unfold Dev.swapPending
  rw [hsh, hst, hc]

/-- A 1 in its shadow makes a swap pending (R204). -/
theorem Dev.swapPending_of_shadow {d : Dev} (h : tget none d.shadows (okey O.JQ_SWAP_REQ 0) = some 1) : d.swapPending = true := by
  unfold Dev.swapPending
  dsimp only
  rw [h]
  rfl

/-- A 0 in its shadow leaves none pending where neither the lock nor a commit holds one. -/
theorem Dev.swapPending_cancelled {d : Dev} (h : tget none d.shadows (okey O.JQ_SWAP_REQ 0) = some 0) (hst : d.lock.staged = {})
    (hc : d.commit = none) : d.swapPending = false := by
  unfold Dev.swapPending
  dsimp only
  rw [h, hst, hc]
  rfl

theorem Dev.landEl_swapReq (e : Env) (n : Nat) (d : Dev) (el v : Nat) :
    d.landEl e n O.JQ_SWAP_REQ el v = if v == 1 then d.swapLand e else d := rfl

theorem Dev.swapLand_eq (e : Env) (d : Dev) :
    d.swapLand e = (d.so O.JQ_ACTIVE_BANK 0 d.otherBank).so O.JQ_SWAP_TIME 0 e.now := rfl

theorem Dev.jq_swapLand (e : Env) (d : Dev) : (d.swapLand e).jq = d.jq := rfl

theorem Dev.pwr_swapLand (e : Env) (d : Dev) : (d.swapLand e).pwr = d.pwr := rfl

theorem Dev.ses_swapLand (e : Env) (d : Dev) : (d.swapLand e).ses = d.ses := rfl

/-! ### Writes of JQ_SWAP_REQ -/

section
variable {s : State} {h : Hdr} {v : Nat}

/-- The row of JQ_SWAP_REQ. -/
def swapRow : ObjRow := ⟨O.JQ_SWAP_REQ, [(0, 0)], .u8, .wo, .frame, false, 0, [(0, 1)], 0, 0⟩

/-- A write that executes under no lock and no commit of it is a write of its value. -/
theorem Dev.writeExec_swap {e : Env} {d : Dev} {n : Nat} (hstg : d.stages n O.JQ_SWAP_REQ = false)
    (hcom : d.inCommit (okey O.JQ_SWAP_REQ 0) = false) :
    d.writeExec e n swapRow 0 [v] = (okAns e.now [], d.writeVal e n swapRow 0 v) := by
  have hstg' : d.stages n swapRow.idx = false := hstg
  have hcom' : d.inCommit (okey swapRow.idx (0 + 0)) = false := hcom
  unfold Dev.writeExec
  rw [hstg', if_neg Bool.false_ne_true, if_neg (by rw [show swapRow.stopped = false from rfl]; simp)]
  simp only [runEls_one, List.length_cons, List.length_nil, Nat.zero_add, List.zip_cons_cons, List.zip_nil_right, List.findSome?_cons,
    List.findSome?_nil, show d.busy e swapRow.idx 0 v = none from rfl, List.any_cons, List.any_nil, Bool.or_false]
  rw [show d.inCommit (okey swapRow.idx 0) = false from hcom, if_neg Bool.false_ne_true]
  rfl

/-- What an accepted write of JQ_SWAP_REQ executes on: its bank check, if it runs one, has passed. -/
def State.swapTested (s : State) (h : Hdr) (v : Nat) : Dev :=
  if v = 1 then (s.atRequest h.sess).so O.JQ_SWAP_FAULT_ENTRY 0 0xFFFF else s.atRequest h.sess

theorem State.swapTested_eq (s : State) (h : Hdr) (v : Nat) :
    s.swapTested h v = { s.atRequest h.sess with objs := (s.swapTested h v).objs } := by
  unfold State.swapTested
  split <;> rfl

theorem State.o_swapTested {i el : Nat} (hi : i ≠ O.JQ_SWAP_FAULT_ENTRY) (hel : el < 4096) : (s.swapTested h v).o i el = s.dev.o i el := by
  unfold State.swapTested
  split
  · rw [Dev.o_so_other hi (by decide) hel, State.o_atRequest]
  · exact State.o_atRequest ..

theorem State.doms_atRequest (s : State) (n : Nat) : (s.atRequest n).doms = s.dev.doms := by rw [State.atRequest_eq]

theorem State.bankTest_swap (hpass : v = 1 → s.dev.bankCheck s.dev.otherBank = none) :
    (s.atRequest h.sess).bankTest O.JQ_SWAP_REQ false [v] = (none, s.swapTested h v) := by
  unfold Dev.bankTest State.swapTested
  dsimp only
  by_cases hv : v = 1
  · have hother : (s.atRequest h.sess).otherBank = s.dev.otherBank := by
      unfold Dev.otherBank
      rw [State.o_atRequest]
    rw [if_pos (by simp [hv]), if_pos hv, hother,
      Dev.bankCheck_congr (State.doms_atRequest ..) (State.o_atRequest ..) (State.o_atRequest ..), hpass hv]
    rfl
  · rw [if_neg (by simp [hv]), if_neg (by rw [show (O.JQ_SWAP_REQ == O.JQ_RUN) = false from rfl]; simp), if_neg hv]

/-- An accepted write of JQ_SWAP_REQ whose bank check passes writes its value. -/
theorem leads_swap {P : State → Prop} (hq : s.Quiet) (ha : Accepts s h O.JQ_SWAP_REQ 0 v)
    (hpass : v = 1 → s.dev.bankCheck s.dev.otherBank = none)
    (hs : ((s.swapTested h v).writeVal s.env h.sess swapRow 0 v).jq = (s.swapTested h v).jq)
    (hd : ((s.swapTested h v).writeVal s.env h.sess swapRow 0 v).pwr = (s.swapTested h v).pwr)
    (hP : ∀ t, s.Replied ((s.swapTested h v).writeVal s.env h.sess swapRow 0 v) t → P t) :
    Leads (.write (reqTo h O.JQ_SWAP_REQ 0 1 (leBytes (elWidth O.JQ_SWAP_REQ) v))) s P := by
  have hstg : (s.swapTested h v).stages h.sess O.JQ_SWAP_REQ = false := by
    have := State.stages_accepts ha
    unfold Dev.stages at this ⊢
    rw [State.o_swapTested (by decide) (by decide), ← State.o_atRequest s h.sess]
    exact this
  have hcom : (s.swapTested h v).inCommit (okey O.JQ_SWAP_REQ 0) = false := by
    have hc : (s.swapTested h v).commit = s.dev.commit := by rw [State.swapTested_eq, ← State.commit_atRequest s h.sess]
    have := ha.2.2.2.2.2.2.2.2
    unfold Dev.inCommit at this ⊢
    rw [hc]
    exact this
  have hx := Dev.writeExec_swap (e := s.env) (d := s.swapTested h v) (v := v) hstg hcom
  have hjq : (s.swapTested h v).jq = s.dev.jq := by rw [State.swapTested_eq, ← State.jq_atRequest s h.sess]
  have hpwr : (s.swapTested h v).pwr = s.dev.pwr := by rw [State.swapTested_eq, ← State.pwr_atRequest s h.sess]
  refine leads_tested (r := swapRow) (exec_write_one ..) ha rfl (by decide) (by decide) (by decide) (by decide)
    (State.bankTest_swap hpass) (by rw [hx]; rfl) ?_ ?_ fun t ht => hP t (by rw [hx] at ht; exact ht)
  · rw [hx]
    exact (congrArg Jq.settle (hs.trans hjq)).trans hq.1
  · rw [hx]
    exact (congrArg Pwr.rstDue (hd.trans hpwr)).trans hq.2.1

/-- While Jacquard runs the value waits in its shadow (R80, R204). -/
theorem swapReq_waits {P : State → Prop} (hq : s.Quiet) (ha : Accepts s h O.JQ_SWAP_REQ 0 v)
    (hpass : v = 1 → s.dev.bankCheck s.dev.otherBank = none) (hrun : s.dev.o O.JQ_STATE ≠ 0)
    (hP : ∀ t : State, tget none t.dev.shadows (okey O.JQ_SWAP_REQ 0) = some v → t.dev.lock.staged = s.dev.lock.staged →
      t.dev.commit = s.dev.commit → (∀ i el, i ∉ answerIdx → el < 4096 → t.dev.o i el = (s.swapTested h v).o i el) → P t) :
    Leads (.write (reqTo h O.JQ_SWAP_REQ 0 1 (leBytes (elWidth O.JQ_SWAP_REQ) v))) s P := by
  have hw := Dev.writeVal_waits (e := s.env) (n := h.sess) (d := s.swapTested h v) (r := swapRow) (el := 0) (v := v) (.inr (.inr rfl))
    (by rw [State.o_swapTested (by decide) (by decide)]; exact hrun)
  rw [Dev.dropBankWrites_eq] at hw
  refine leads_swap hq ha hpass (by rw [hw]) (by rw [hw]) fun t ht => hP t ?_ ?_ ?_ fun i el hi hel => ?_
  · rw [ht.shadows, hw]
    exact tget_tset_self none (s.swapTested h v).shadows (okey O.JQ_SWAP_REQ 0) (some v)
  · rw [ht.lock, hw]
    exact (congrArg (fun d => d.lock.staged) (State.swapTested_eq s h v)).trans (State.lock_staged_atRequest ..)
  · rw [ht.commit, hw]
    exact (congrArg Dev.commit (State.swapTested_eq s h v)).trans (State.commit_atRequest ..)
  · rw [ht.o hi hel, hw]
    rfl

theorem swapReq_pends (hq : s.Quiet) (ha : Accepts s h O.JQ_SWAP_REQ 0 1) (hpass : s.dev.bankCheck s.dev.otherBank = none)
    (hrun : s.dev.o O.JQ_STATE ≠ 0) : Leads (.jqSwapRequest h) s (fun t => t.dev.swapPending = true ∧
      t.dev.o O.JQ_SWAP_FAULT_ENTRY = 0xFFFF ∧ t.dev.o O.JQ_ACTIVE_BANK = s.dev.o O.JQ_ACTIVE_BANK) := by
  refine swapReq_waits hq ha (fun _ => hpass) hrun fun t hsh _ _ ho => ⟨Dev.swapPending_of_shadow hsh, ?_, ?_⟩
  · rw [ho _ _ (by decide) (by decide)]
    exact Dev.o_so_self ..
  · rw [ho _ _ (by decide) (by decide), State.o_swapTested (by decide) (by decide)]

theorem swapReq_cancels (hq : s.Quiet) (ha : Accepts s h O.JQ_SWAP_REQ 0 0) (hrun : s.dev.o O.JQ_STATE ≠ 0)
    (hst : s.dev.lock.staged = {}) (hc : s.dev.commit = none) : Leads (.jqSwapCancel h) s (fun t => t.dev.swapPending = false) :=
  swapReq_waits hq ha (fun h => absurd h (by decide)) hrun fun _ hsh hst' hc' _ =>
    Dev.swapPending_cancelled hsh (hst'.trans hst) (hc'.trans hc)

/-- While Jacquard is STOPPED the active bank changes at once (R208). -/
theorem swapReq_lands (hq : s.Quiet) (ha : Accepts s h O.JQ_SWAP_REQ 0 1) (hpass : s.dev.bankCheck s.dev.otherBank = none)
    (hstop : s.dev.o O.JQ_STATE = 0) : Leads (.jqSwapRequest h) s (fun t =>
      t.dev.o O.JQ_ACTIVE_BANK = 1 - s.dev.o O.JQ_ACTIVE_BANK ∧ t.dev.o O.JQ_SWAP_TIME = s.clock.time) := by
  have hstate : (s.swapTested h 1).o O.JQ_STATE = 0 := (State.o_swapTested (by decide) (by decide)).trans hstop
  have hw : (s.swapTested h 1).writeVal s.env h.sess swapRow 0 1 = ((s.swapTested h 1).shadowOff (okey O.JQ_SWAP_REQ 0)).swapLand s.env := by
    rw [Dev.writeVal_lands (r := swapRow) (.inr hstate) (by decide) (by decide) rfl, show swapRow.idx = O.JQ_SWAP_REQ from rfl,
      Dev.landEl_swapReq, if_pos (by decide)]
  refine leads_swap hq ha (fun _ => hpass) (by rw [hw, Dev.jq_swapLand, Dev.jq_shadowOff]) (by rw [hw, Dev.pwr_swapLand, Dev.pwr_shadowOff])
    fun t ht => ⟨?_, ?_⟩
  · rw [ht.o (by decide) (by decide), hw, Dev.swapLand_eq, Dev.o_so_other (by decide) (by decide) (by decide), Dev.o_so_self]
    unfold Dev.otherBank
    rw [Dev.o_shadowOff, State.o_swapTested (by decide) (by decide)]
  · rw [ht.o (by decide) (by decide), hw, Dev.swapLand_eq, Dev.o_so_self]
    rfl

end

/-! ### A request held for a frame decision (R207) -/

/-- An operation that leaves Jacquard, the reset and what is held of every session as they were. -/
structure Dev.HoldsOn (d d' : Dev) : Prop where
  jq : d'.jq = d.jq
  pwr : d'.pwr = d.pwr
  length : d'.ses.length = d.ses.length
  held : ∀ n, (d'.sess n).held = (d.sess n).held

namespace Dev.HoldsOn
variable {d d' d'' : Dev}

theorem refl (d : Dev) : Dev.HoldsOn d d := ⟨rfl, rfl, rfl, fun _ => rfl⟩

theorem trans (h : Dev.HoldsOn d d') (k : Dev.HoldsOn d' d'') : Dev.HoldsOn d d'' :=
  ⟨k.jq.trans h.jq, k.pwr.trans h.pwr, k.length.trans h.length, fun n => (k.held n).trans (h.held n)⟩

theorem of_ses (hjq : d'.jq = d.jq) (hpwr : d'.pwr = d.pwr) (hses : d'.ses = d.ses) : Dev.HoldsOn d d' :=
  ⟨hjq, hpwr, congrArg List.length hses, fun n => congrArg Ses.held (Dev.sess_congr hses n)⟩

end Dev.HoldsOn

theorem Dev.holdsOn_dropBankWrites (d : Dev) : Dev.HoldsOn d d.dropBankWrites := by
  unfold Dev.dropBankWrites
  dsimp only
  split
  · exact .refl d
  · refine ⟨rfl, rfl, List.length_map .., fun n => ?_⟩
    unfold Dev.sess
    rw [List.getElem?_map]
    cases d.ses[n]? with
    | none => rfl
    | some x =>
      simp only [Option.map_some, Option.getD_some]
      split <;> rfl

theorem Dev.holdsOn_swapVals {e : Env} {n el : Nat} {vs : List Nat} (d : Dev) (hel : el + vs.length ≤ 4096) :
    Dev.HoldsOn d (d.writeVals e n swapRow el vs) := by
  have hone : ∀ (d : Dev) (x v : Nat), x < 4096 → Dev.HoldsOn d (d.writeVal e n swapRow x v) := by
    intro d x v hx
    unfold Dev.writeVal
    dsimp only
    split
    · refine Dev.HoldsOn.trans ?_ (Dev.holdsOn_dropBankWrites _)
      exact .of_ses rfl rfl rfl
    · rw [Dev.landKey_lands hx (by decide) rfl, show swapRow.idx = O.JQ_SWAP_REQ from rfl, Dev.landEl_swapReq]
      split
      · exact .of_ses (Dev.jq_swapLand ..) (Dev.pwr_swapLand ..) (Dev.ses_swapLand ..)
      · exact .of_ses rfl rfl rfl
  unfold Dev.writeVals
  have hlt : ∀ p ∈ (List.range vs.length).zip vs, el + p.1 < 4096 := fun p hp => by
    have := List.mem_range.mp (List.of_mem_zip hp).1
    omega
  generalize (List.range vs.length).zip vs = ps at hlt
  induction ps generalizing d with
  | nil => exact .refl d
  | cons p ps ih =>
    exact (hone d _ p.2 (hlt p List.mem_cons_self)).trans (ih _ fun q hq => hlt q (List.mem_cons_of_mem _ hq))

theorem length_parseVals (w n : Nat) (bs : Bytes) : (parseVals w n bs).length = n := by
  induction n generalizing bs with
  | zero => rfl
  | succ n ih => exact congrArg Nat.succ (ih _)

theorem Dev.holdsOn_swapExec {e : Env} {n el : Nat} {vs : List Nat} (d : Dev) (hel : el + vs.length ≤ 4096) :
    Dev.HoldsOn d (d.writeExec e n swapRow el vs).2 := by
  have hstage : ∀ x, Dev.HoldsOn d (d.stage e x).2 := by
    intro x
    unfold Dev.stage
    split
    · refine Dev.HoldsOn.trans ?_ (Dev.holdsOn_dropBankWrites _)
      exact .of_ses rfl rfl rfl
    · exact .refl d
  unfold Dev.writeExec
  split
  · exact hstage _
  · split
    · exact .refl d
    · split
      · exact .refl d
      · split
        · exact .refl d
        · exact Dev.holdsOn_swapVals d hel

theorem Dev.holdsOn_bankTest (d : Dev) (idx : Nat) (staged : Bool) (vs : List Nat) : Dev.HoldsOn d (d.bankTest idx staged vs).2 := by
  have hfault : ∀ r, Dev.HoldsOn d (d.bankFault r) := fun _ => .of_ses rfl rfl rfl
  unfold Dev.bankTest
  dsimp only
  split
  · exact hfault _
  · split
    · exact hfault _
    · exact .refl d

/-- Whatever a write of JQ_SWAP_REQ does, sessions hold what they held. -/
theorem Dev.holdsOn_operateSwap {e : Env} {m : GopMsg} {codes : List Int} (d : Dev) (hop : m.op = 2) (hidx : m.req.index = O.JQ_SWAP_REQ) :
    Dev.HoldsOn d (d.operate e m codes).2 := by
  have hwrite : Dev.HoldsOn d (d.opWrite e m).2 := by
    unfold Dev.opWrite
    dsimp only
    rw [hidx, show rowOf? O.JQ_SWAP_REQ = some swapRow from rfl]
    dsimp only
    split
    · exact .refl d
    next hchk =>
      have hel := Dev.run_le_of_runCheck hchk
      rw [if_neg (by decide)]
      split
      · exact .refl d
      · split
        · exact .refl d
        · split
          · exact .refl d
          · split
            · exact .refl d
            · have htest := Dev.holdsOn_bankTest d swapRow.idx (d.stages m.req.sess swapRow.idx)
                (parseVals swapRow.ty.bytes m.req.count m.req.data)
              split
              next a d' hb => rw [hb] at htest; exact htest
              next d' hb =>
                rw [hb] at htest
                dsimp only
                split
                · exact .refl d
                · exact htest.trans (Dev.holdsOn_swapExec d' (by rw [length_parseVals]; exact hel))
  unfold Dev.operate
  dsimp only
  split
  · exact .refl d
  · rw [if_neg (by rw [hop]; decide), if_pos (by rw [hop]; rfl)]
    exact hwrite

theorem heldSwap_executes {s : State} {n : Nat} {m : GopMsg} (hq : s.Quiet) (hn : n < 5) (hlen : s.dev.ses.length = 5)
    (hheld : (s.dev.sess n).held = some m) (hsess : m.req.sess = n) (hop : m.op = 2) (hidx : m.req.index = O.JQ_SWAP_REQ)
    (hfree : s.dev.frameDecided = false) (hserves : s.dev.serves n = true) :
    Leads (.heldSwapExecute n) s (fun t => (t.dev.sess n).held = none ∧ ∃ a, Answered s t m a) := by
  obtain ⟨d, hd⟩ : ∃ d : Dev, d = s.begun.setSess n { s.begun.sess n with held := none } := ⟨_, rfl⟩
  have hdlen : d.ses.length = 5 := by
    rw [hd, Dev.ses_length_setSess]
    exact hlen
  have hdheld : (d.sess n).held = none := by
    rw [hd, Dev.sess_setSess_self (by rw [State.ses_begun, hlen]; exact hn)]
  have hdjq : d.jq = s.dev.jq := by rw [hd]; rfl
  have hdpwr : d.pwr = s.dev.pwr := by rw [hd]; rfl
  obtain ⟨x, hx⟩ : ∃ x, x = d.operate s.env m [] := ⟨_, rfl⟩
  have hon : Dev.HoldsOn d x.2 := by rw [hx]; exact Dev.holdsOn_operateSwap d hop hidx
  have hrun : s.begun.heldRun s.env n = Dev.answer s.env d x.2 m x.1 := by
    unfold Dev.heldRun
    rw [show (s.begun.sess n).held = some m from hheld]
    dsimp only
    rw [if_neg (by rw [show s.begun.frameDecided = false from hfree, show s.begun.serves n = true from hserves]; decide), ← hd, ← hx]
  have sf := SentFrom.answer (e := s.env) (d0 := d) (d := x.2) (m := m) (a := x.1) (by rw [hsess]; omega)
  refine leads_ends (f := fun e d => d.heldRun e n) _ hq rfl hrun ?_ ?_ fun t ht => ⟨?_, x.1, ?_⟩
  · rw [sf.rest]
    exact (congrArg Jq.settle (hon.jq.trans hdjq)).trans hq.1
  · rw [sf.rest]
    exact (congrArg Pwr.rstDue (hon.pwr.trans hdpwr)).trans hq.2.1
  · rw [ht.sess, Dev.sess_answer]
    exact (hon.held n).trans hdheld
  · unfold Answered
    rw [ht.sess]
    exact Dev.stored_answer (by rw [hon.length, hdlen, hsess]; exact hn)

/-! ### A patch -/

theorem Dev.patchClose_congr {d d' : Dev} (hobjs : d'.objs = d.objs) (hdoms : d'.doms = d.doms) (hjq : d'.jq = d.jq)
    (hsw : d'.swapPending = d.swapPending) (bs : Bytes) : d'.patchClose bs = d.patchClose bs := by
  have ho : ∀ i el, d'.o i el = d.o i el := fun i el => Dev.o_congr hobjs i el
  have hent : ∀ b i, d'.entry b i = d.entry b i := fun b i => by
    unfold Dev.entry Dev.domNat
    rw [Dev.domBytes_congr hdoms]
  have hwalk : ∀ n b i, d'.walkFrom b n i = d.walkFrom b n i := by
    intro n
    induction n with
    | zero => exact fun _ _ => rfl
    | succ n ih =>
      intro b i
      unfold Dev.walkFrom
      simp only [hent, ho, ih]
  unfold Dev.patchClose Dev.bankBusy Dev.otherBank
  simp only [ho, hwalk, hjq, hsw]

/-- The row of JQ_PATCH. -/
def patchRow : ObjRow := ⟨O.JQ_PATCH, [(0, 0)], .dom, .wo, .now, false, 0, [], 0, 0⟩

theorem patch_row (e : Env) (d : Dev) : d.domRow e O.JQ_PATCH 0 = .inr patchRow := by
  have hpres : d.pres e O.JQ_PATCH 0 = .ok := by
    unfold Dev.pres
    cases e.part.variant <;> rfl
  unfold Dev.domRow Dev.presAbort
  simp only [runEls_one, List.map_cons, List.map_nil, hpres]
  rfl

theorem patch_lengths {bs : Bytes} (h : patchOk bs = true) : 32 ≤ bs.length ∧ bs.length ≤ 512 := by
  unfold patchOk at h
  simp only [Bool.and_eq_true, decide_eq_true_eq, beq_iff_eq] at h
  omega

theorem Dev.domDone_patch {e : Env} {d : Dev} {n : Nat} {bs : Bytes} (hn : n < 4) (hfree : d.o O.LOCK_OWNER = 0xFF)
    (hcommit : d.commit = none) (hok : patchOk bs = true) (hclose : d.patchClose bs = false) :
    d.domDone e n patchRow 0 bs = (okAns e.now [], d.patchWrite bs) := by
  have hab : d.domAbort e patchRow.idx bs = none := by
    unfold Dev.domAbort
    dsimp only
    rw [if_pos (by decide : (patchRow.idx == O.JQ_PATCH) = true), hok, hclose]
    rfl
  have hstg : d.stages n patchRow.idx = false := by
    unfold Dev.stages
    rw [hfree, beq_eq_false_iff_ne.mpr (by omega : (0xFF : Nat) ≠ n), Bool.false_and]
  have hcom : d.inCommit (okey patchRow.idx 0) = false := by
    unfold Dev.inCommit
    rw [hcommit]
  have hland : d.writeDom e patchRow 0 bs = d.patchWrite bs := by
    have h : d.writeDom e patchRow 0 bs = d.patchLand e bs := by
      unfold Dev.writeDom
      rw [if_neg (fun h => absurd h.1 (by decide))]
      rfl
    rw [h, Dev.patchLand, if_neg (by rw [hclose]; exact Bool.false_ne_true)]
  unfold Dev.domDone
  rw [hab]
  dsimp only
  rw [hstg, if_neg Bool.false_ne_true, hcom, if_neg Bool.false_ne_true, if_neg (by decide), hland]
  rfl

theorem patch_writes {s : State} {h : Hdr} {bs : Bytes} (hq : s.Quiet) (hs : Served s h O.JQ_PATCH) (hfree : s.dev.o O.LOCK_OWNER = 0xFF)
    (hcommit : s.dev.commit = none) (hok : patchOk bs = true) (hclose : s.dev.patchClose bs = false) :
    Leads (.jqPatch h (leBytes 4 bs.length ++ bs ++ leBytes 4 (crc32 bs))) s (fun t => ∀ i, i < bs.length - 16 →
      t.dev.domByte (O.JQ_BANK_0 + fieldAt bs 0 1) 0 (16 * fieldAt bs 2 2 + i) = bs.getD (16 + i) 0) := by
  obtain ⟨d, hd⟩ : ∃ d, d = ((s.atRequest h.sess).bwFresh s.env h.sess).setBw h.sess none := ⟨_, rfl⟩
  obtain ⟨hlo, hhi⟩ := patch_lengths hok
  have hdeq : d = { (s.atRequest h.sess) with ses := d.ses } := by
    rw [hd, Dev.setBw_eq, Dev.bwFresh_eq]
  have hobjs : d.objs = s.dev.objs := by rw [hdeq]; exact State.objs_atRequest ..
  have hjq : d.jq = s.dev.jq := by rw [hdeq]; exact State.jq_atRequest ..
  have hsw : d.swapPending = s.dev.swapPending := Dev.swapPending_congr (by rw [hdeq]; exact State.shadows_atRequest ..)
    (by rw [hdeq]; exact State.lock_staged_atRequest ..) (by rw [hdeq]; exact State.commit_atRequest ..)
  have hdone := Dev.domDone_patch (e := s.env) (d := d) hs.1 ((Dev.o_congr hobjs _ _).trans hfree)
    (by rw [hdeq]; exact (State.commit_atRequest ..).trans hcommit) hok
    ((Dev.patchClose_congr hobjs (by rw [hdeq]; exact State.doms_atRequest ..) hjq hsw bs).trans hclose)
  refine leads_writeBlock (bs := bs) (d.patchWrite bs) rfl hs hfree (patch_row ..) (by decide) (fun h => absurd h (by decide)) hhi
    (by unfold domLenOk; simp [hlo, hhi]) rfl (by rw [← hd]; exact hdone) ?_ ?_ fun t ht _ i hi => ?_
  · rw [Dev.patchWrite, Dev.setDom_eq]
    exact (congrArg Jq.settle hjq).trans hq.1
  · rw [Dev.patchWrite, Dev.setDom_eq, hdeq]
    exact (congrArg Pwr.rstDue (State.pwr_atRequest ..)).trans hq.2.1
  · rw [Dev.domByte_congr ht.doms, Dev.patchWrite, Dev.domByte_setDom, if_pos (by rw [List.length_drop]; omega), Nat.add_sub_cancel_left,
      List.getD_eq_getElem?_getD, List.getElem?_drop, ← List.getD_eq_getElem?_getD]

/-- Settles O24: a write of JQ_SWAP_REQ goes through the bank check into its shadow or into force, and a patch into its bank. -/
theorem banksSwapAndPatch : Obligations.BanksSwapAndPatch := by
  unfold Obligations.BanksSwapAndPatch
  exact ⟨fun s h hq => ⟨fun ha hpass => ⟨swapReq_pends hq ha hpass, swapReq_lands hq ha hpass⟩,
      fun ha hrun hst hc => swapReq_cancels hq ha hrun hst hc,
      fun n m hn hlen hheld hsess hop hidx hfree hserves => heldSwap_executes hq hn hlen hheld hsess hop hidx hfree hserves⟩,
    fun s h bs hq hs hfree hcommit hok hclose => patch_writes hq hs hfree hcommit hok hclose⟩

end Sys2Proof.Machine
end


section
/-! PROOF. A takeover's return where the Skipper serves two positions (chapter 06). -/

namespace Sys2Proof.Machine

/-- A device in READY, its elements at their defaults. -/
def readyDev : Dev := (Dev.so { pwr := { mode := .up, fabric := true } } O.SU_STATE 0 7).so O.RL_STATE 0 2

/-- The block 2,000 s after its reset, with a device. -/
def stateAt (d : Dev) : State := { part := partAtReset, clock := { time := 3000000000000, frac := 0 }, pending := [], dev := d }

/-- The host holds the Skipper of receive group 0, which serves positions 0 and 1 of it. -/
def twoServedState : State :=
  stateAt ((Dev.so { readyDev with rx := { holder := [(0, 2)] } } O.RX_SLICE_OF 0 512).so O.RX_SLICE_OF 1 512)

theorem twoServedState_accepts : Accepts twoServedState farHdr O.RX_SKIP_REQ 0 0xFF := by
  unfold Accepts Served State.Still
  decide +kernel

theorem twoServedState_quiet : twoServedState.Quiet := by
  unfold State.Quiet State.Still
  decide +kernel

/-- Refutes O25: no premise keeps the Skipper to one position. In `twoServedState` the return of the host's takeover puts position 0 back
on its home slice, and the Skipper, which still serves position 1, stays held where the statement has it free. -/
theorem not_skipperServes : ¬ Obligations.SkipperServes := by
  intro h
  obtain ⟨-, hreturn, -⟩ := h twoServedState farHdr 0 0 twoServedState_quiet (by decide) (by decide) (by decide +kernel) (by decide +kernel)
  have hend := ((hreturn twoServedState_accepts (by decide +kernel) (by decide +kernel)).1 (by decide +kernel)).endsWith
    (p := fun t => tget 0 t.dev.rx.holder 0 == 0) fun t ⟨_, hfree⟩ => by rw [hfree]; rfl
  exact absurd hend (by decide +kernel)

end Sys2Proof.Machine
end

section
/-! PROOF. Voile spans and the watch of the inputs (chapter 06). -/

namespace Sys2Proof.Machine

/-- A table set along a range holds, at each place of it, the value set there. -/
theorem tget_foldl_tset {α : Type} [DecidableEq α] (x : α) (f : Nat → α) (t : Tab α) (n k : Nat) :
    tget x ((List.range n).foldl (fun h c => tset x h c (f c)) t) k = if k < n then f k else tget x t k := by
  induction n with
  | zero => simp
  | succ n ih =>
    rw [List.range_succ, List.foldl_append, List.foldl_cons, List.foldl_nil]
    rcases Nat.lt_trichotomy k n with h | rfl | h
    · rw [tget_tset_ne _ _ _ _ (by omega), ih, if_pos h, if_pos (by omega)]
    · simp
    · rw [tget_tset_ne _ _ _ _ (by omega), ih, if_neg (by omega), if_neg (by omega)]

theorem Env.channels_le (e : Env) : e.channels ≤ 512 := by
  unfold Env.channels Env.groups
  split <;> decide

/-! ### Voile -/

section
variable {s : State} {x f : Nat}

theorem blankNFall_opens (hq : s.Quiet) (hx : x < 64) (hlow : s.dev.rx.blankLow = none) :
    Leads (.blankNFall x) s (fun t => t.dev.rx.blankLow = some (64 * s.clock.time + x)) := by
  refine leads_ends (f := fun e d => d.blankFall (64 * e.now + x % 64))
    { s.begun with rx := { s.dev.rx with blankLow := some (64 * s.clock.time + x) } } hq rfl ?_ hq.1 hq.2.1 fun t ht => ?_
  · rw [Nat.mod_eq_of_lt hx, Dev.blankFall, if_neg (by simp [hlow])]
    rfl
  · rw [ht.rx]

/-- The spans after a rise at a time, of a pulse that fell at another: those that a later window may still meet, and its own where
it is long enough. -/
def Dev.risenSpans (e : Env) (d : Dev) (f t : Nat) : List (Nat × Nat) :=
  let keep := d.rx.spans.filter (fun p => 64 * e.now ≤ p.2 + 2000000)
  if t < f + 960 then keep else keep ++ [(f - 96 * d.o O.RX_VOILE_LEAD_NS, t + 96 * d.o O.RX_VOILE_GUARD_NS)]

theorem Dev.blankRise_eq {e : Env} {d : Dev} {t : Nat} (hlow : d.rx.blankLow = some f) :
    d.blankRise e t = { d with rx := { d.rx with blankLow := none, spans := d.risenSpans e f t } } := by
  unfold Dev.blankRise
  rw [hlow]
  rfl

theorem leads_blankNRise {P : State → Prop} (hq : s.Quiet) (hx : x < 64) (hlow : s.dev.rx.blankLow = some f)
    (hP : ∀ t : State, t.dev.rx.blankLow = none →
      t.dev.rx.spans = s.dev.risenSpans s.env f (64 * s.clock.time + x) → P t) : Leads (.blankNRise x) s P := by
  refine leads_ends (f := fun e d => d.blankRise e (64 * e.now + x % 64)) _ hq rfl
    (Dev.blankRise_eq (d := s.begun) hlow) hq.1 hq.2.1 fun t ht => hP t ?_ ?_
  · rw [ht.rx]
  · rw [ht.rx, Nat.mod_eq_of_lt hx]; rfl

theorem blankNRise_makes_span (hq : s.Quiet) (hx : x < 64) (hlow : s.dev.rx.blankLow = some f) (hlong : f + 960 ≤ 64 * s.clock.time + x) :
    Leads (.blankNRise x) s (fun t => t.dev.rx.blankLow = none ∧
      (f - 96 * s.dev.o O.RX_VOILE_LEAD_NS, 64 * s.clock.time + x + 96 * s.dev.o O.RX_VOILE_GUARD_NS) ∈ t.dev.rx.spans) :=
  leads_blankNRise hq hx hlow fun t hlow' hspans => ⟨hlow', by
    rw [hspans, Dev.risenSpans, if_neg (by omega)]; simp⟩

theorem blankNRise_makes_none (hq : s.Quiet) (hx : x < 64) (hlow : s.dev.rx.blankLow = some f) (hshort : 64 * s.clock.time + x < f + 960) :
    Leads (.blankNRise x) s (fun t => t.dev.rx.blankLow = none ∧ ∀ p ∈ t.dev.rx.spans, p ∈ s.dev.rx.spans) :=
  leads_blankNRise hq hx hlow fun t hlow' hspans => ⟨hlow', fun p hp => by
    rw [hspans, Dev.risenSpans, if_pos hshort] at hp; exact (List.mem_filter.1 hp).1⟩

end

/-! ### The inputs -/

theorem Dev.rx_inputSet (e : Env) (d : Dev) (ch st : Nat) : (d.inputSet e ch st).rx = d.rx := by
  unfold Dev.inputSet
  dsimp only
  split
  · simp
  · split <;> simp

theorem Dev.sameJq_inputSet (e : Env) (d : Dev) (ch st : Nat) : Dev.SameJq d (d.inputSet e ch st) := by
  unfold Dev.inputSet
  refine .ite ⟨?_, ?_⟩ (.ite ⟨?_, ?_⟩ ⟨?_, ?_⟩) <;> simp

theorem Dev.frame_inputSet {e : Env} {d : Dev} {ch st : Nat} (hch : ch < 4096) :
    Dev.Frame [O.RX_INPUT_STATUS, O.FLT_LOST] d (d.inputSet e ch st) := by
  unfold Dev.inputSet
  have hso : Dev.Frame [O.RX_INPUT_STATUS, O.FLT_LOST] d (d.so O.RX_INPUT_STATUS ch st) := .so hch (by simp)
  exact .ite (hso.trans (.log (by simp))) (.ite (hso.trans (.log (by simp))) hso)

theorem Dev.o_inputSet {e : Env} {d : Dev} {ch st : Nat} (hch : ch < 4096) : (d.inputSet e ch st).o O.RX_INPUT_STATUS ch = st := by
  unfold Dev.inputSet
  dsimp only
  split
  · rw [Dev.o_log_other (by decide) hch, Dev.o_so_self]
  · split
    · rw [Dev.o_log_other (by decide) hch, Dev.o_so_self]
    · exact Dev.o_so_self ..

theorem inputShortBias_isolates {s : State} {ch : Nat} (hq : s.Quiet) (hch : ch < s.env.channels)
    (hg : s.dev.o O.RX_GROUP_STATE (ch / 16) ≠ 0) (hst : s.dev.o O.RX_INPUT_STATUS ch ≠ 3) :
    Leads (.inputShortBias ch) s (fun t => t.dev.o O.RX_INPUT_STATUS ch = 3 ∧ bit t.dev.rx.isolated ch = true) := by
  have hlt : ch < 4096 := by have := s.env.channels_le; omega
  obtain ⟨d, hd⟩ : ∃ d, d = { s.begun with rx := { s.dev.rx with isolated := setBit s.dev.rx.isolated ch true } } := ⟨_, rfl⟩
  have hrun : s.begun.inputShort s.env ch = d.inputSet s.env ch 3 := by
    rw [Dev.inputShort, State.o_begun, State.o_begun, if_neg (by simp [hg, hst, hch]), hd]
    rfl
  have hkeep := Dev.sameJq_inputSet s.env d ch 3
  refine leads_ends (f := fun e d => d.inputShort e ch) _ hq rfl hrun ?_ ?_ fun t ht => ⟨?_, ?_⟩
  · rw [hkeep.jq, hd]; exact hq.1
  · rw [hkeep.rstDue, hd]; exact hq.2.1
  · rw [ht.o]; exact Dev.o_inputSet hlt
  · rw [ht.rx, Dev.rx_inputSet, hd]; exact bit_setBit_true ..

/-! ### The dark-rate watch -/

/-- The device with the sub-interval of the watch ended: each channel's count in its history, the counts begun anew. -/
def Dev.subEnded (e : Env) (d : Dev) : Dev :=
  { d with rx := { d.rx with
      dkHist := (List.range e.channels).foldl (fun (h : Tab (List (Nat × Nat))) c =>
        tset [] h c (((tget 0 d.rx.dkCount c, tget 0 d.rx.dkWins c) :: tget [] d.rx.dkHist c).take 9)) d.rx.dkHist,
      dkCount := [], dkWins := [], watchAt := d.rx.watchAt + 150000000 } }

/-- The verdict of the watch on one channel. -/
def Dev.darkVerdict (e : Env) (d : Dev) (c : Nat) : Dev :=
  let n := d.darkSum c
  let st := d.o O.RX_INPUT_STATUS c
  let d := d.so O.RX_DARK_RATE c n
  if st == 5 then (if 0 < n then d.so O.RX_INPUT_STATUS c 0 else d)
  else if (st == 0 || st == 6) && d.openSuspect c then d.inputSet e c 5
  else d

theorem Dev.darkWatch_eq {e : Env} {d : Dev} (hen : d.ob O.RX_WATCH_EN = true) (hdue : d.rx.watchAt + 150000000 ≤ e.now) :
    d.darkWatch e = (List.range e.channels).foldl (fun d c => d.darkVerdict e c) (d.subEnded e) := by
  unfold Dev.darkWatch
  rw [if_neg (by simp [hen]; omega)]
  rfl

/-- The verdicts on the first channels leave the watch alone and give each of them its rate. -/
structure Dev.Judged (n : Nat) (d d' : Dev) : Prop where
  same : Dev.SameJq d d'
  rx : d'.rx = d.rx
  rate : ∀ c, c < n → d'.o O.RX_DARK_RATE c = d.darkSum c

theorem Dev.darkVerdict_keeps (e : Env) (d : Dev) (c : Nat) :
    Dev.SameJq d (d.darkVerdict e c) ∧ (d.darkVerdict e c).rx = d.rx := by
  have hso : Dev.SameJq d (d.so O.RX_DARK_RATE c (d.darkSum c)) := ⟨rfl, rfl⟩
  unfold Dev.darkVerdict
  dsimp only
  refine ⟨.ite (.ite (hso.trans ⟨rfl, rfl⟩) hso) (.ite (hso.trans (Dev.sameJq_inputSet ..)) hso), ?_⟩
  split
  · split <;> rfl
  · split
    · exact Dev.rx_inputSet ..
    · rfl

theorem Dev.darkVerdict_frame {e : Env} {d : Dev} {c : Nat} (hc : c < 4096) :
    Dev.Frame [O.RX_INPUT_STATUS, O.FLT_LOST] (d.so O.RX_DARK_RATE c (d.darkSum c)) (d.darkVerdict e c) := by
  unfold Dev.darkVerdict
  exact .ite (.ite (.so hc (by simp)) (.refl ..)) (.ite (Dev.frame_inputSet hc) (.refl ..))

theorem Dev.judged_verdicts (e : Env) (d : Dev) {n : Nat} (hn : n ≤ 512) :
    Dev.Judged n d ((List.range n).foldl (fun d c => d.darkVerdict e c) d) := by
  induction n with
  | zero => exact ⟨.refl d, rfl, fun c hc => absurd hc (Nat.not_lt_zero c)⟩
  | succ n ih =>
    obtain ⟨hsame, hrx, hrate⟩ := ih (by omega)
    rw [List.range_succ, List.foldl_append, List.foldl_cons, List.foldl_nil]
    generalize (List.range n).foldl (fun d c => d.darkVerdict e c) d = d' at hsame hrx hrate ⊢
    obtain ⟨hsame', hrx'⟩ := Dev.darkVerdict_keeps e d' n
    refine ⟨hsame.trans hsame', hrx'.trans hrx, fun c hc => ?_⟩
    rw [(Dev.darkVerdict_frame (e := e) (d := d') (c := n) (by omega)).o (by omega) (by decide)]
    rcases Nat.lt_or_ge c n with hlt | hge
    · rw [Dev.o_so_ne (by omega) (by omega) (Or.inr (by omega))]; exact hrate c hlt
    · obtain rfl : c = n := by omega
      rw [Dev.o_so_self]
      unfold Dev.darkSum; rw [hrx]

theorem darkRateWatch_ends_subinterval {s : State} {ch : Nat} (hq : s.Quiet) (hch : ch < s.env.channels)
    (hen : s.dev.ob O.RX_WATCH_EN = true) (hdue : s.dev.rx.watchAt + 150000000 ≤ s.clock.time) :
    Leads .darkRateWatch s (fun t => t.dev.rx.watchAt = s.dev.rx.watchAt + 150000000 ∧ t.dev.rx.dkCount = [] ∧
      tget [] t.dev.rx.dkHist ch =
        ((tget 0 s.dev.rx.dkCount ch, tget 0 s.dev.rx.dkWins ch) :: tget [] s.dev.rx.dkHist ch).take 9 ∧
      t.dev.o O.RX_DARK_RATE ch = t.dev.darkSum ch) := by
  have hrun := Dev.darkWatch_eq (e := s.env) (d := s.begun) hen hdue
  obtain ⟨hsame, hrx, hrate⟩ := Dev.judged_verdicts s.env (s.begun.subEnded s.env) s.env.channels_le
  refine leads_ends (f := fun e d => d.darkWatch e) _ hq rfl hrun ?_ ?_ fun t ht => ?_
  · rw [hsame.jq]; exact hq.1
  · rw [hsame.rstDue]; exact hq.2.1
  · have htrx := ht.rx.trans hrx
    refine ⟨by rw [htrx]; rfl, by rw [htrx]; rfl, ?_, ?_⟩
    · rw [htrx]
      exact (tget_foldl_tset ..).trans (if_pos hch)
    · rw [ht.o, hrate ch hch]
      unfold Dev.darkSum; rw [htrx]

/-- Settles O26. -/
theorem voileAndInputWatch : Obligations.VoileAndInputWatch :=
  ⟨fun _ _ hq hx => ⟨blankNFall_opens hq hx, fun _ => blankNRise_makes_span hq hx, fun _ => blankNRise_makes_none hq hx⟩,
    fun _ _ hq hch => ⟨inputShortBias_isolates hq hch, darkRateWatch_ends_subinterval hq hch⟩⟩

end Sys2Proof.Machine
end

section
/-! PROOF. The bias outputs (chapter 06). -/

namespace Sys2Proof.Machine

/-- A fold along a range that keeps a fact until it comes to a place, makes another fact there, and keeps that one after. -/
theorem foldl_range_visits {α : Type} {f : α → Nat → α} {K P : α → Prop} {b m : Nat}
    (hbefore : ∀ d c, c < m → c ≠ b → K d → K (f d c)) (hat : ∀ d, K d → P (f d b))
    (hafter : ∀ d c, c < m → c ≠ b → P d → P (f d c)) (hb : b < m) {d : α} (hd : K d) : P ((List.range m).foldl f d) := by
  have hboth : ∀ n, n ≤ m → (n ≤ b → K ((List.range n).foldl f d)) ∧ (b < n → P ((List.range n).foldl f d)) := by
    intro n
    induction n with
    | zero => exact fun _ => ⟨fun _ => hd, fun h => absurd h (Nat.not_lt_zero b)⟩
    | succ n ih =>
      intro hn
      rw [List.range_succ, List.foldl_append, List.foldl_cons, List.foldl_nil]
      refine ⟨fun h => hbefore _ n hn (by omega) ((ih (by omega)).1 (by omega)), fun h => ?_⟩
      rcases Nat.lt_or_ge b n with hlt | hge
      · exact hafter _ n hn (by omega) ((ih (by omega)).2 hlt)
      · obtain rfl : n = b := by omega
        exact hat _ ((ih (by omega)).1 hge)
  exact (hboth m (Nat.le_refl m)).2 hb

/-! ### One output -/

/-- A step of other outputs: this one's objects and what the device keeps beside them stay. -/
structure Dev.BiasKept (b : Nat) (d d' : Dev) : Prop where
  same : Dev.SameJq d d'
  o : ∀ i, i ∈ [O.RX_BIAS_STATUS, O.RX_BIAS_ENABLE] → d'.o i b = d.o i b
  out : tget {} d'.rx.bias b = tget {} d.rx.bias b

theorem Dev.BiasKept.refl (b : Nat) (d : Dev) : Dev.BiasKept b d d := ⟨.refl d, fun _ _ => rfl, rfl⟩

theorem Dev.BiasKept.trans {b : Nat} {d d' d'' : Dev} (h : Dev.BiasKept b d d') (k : Dev.BiasKept b d' d'') : Dev.BiasKept b d d'' :=
  ⟨h.same.trans k.same, fun i hi => (k.o i hi).trans (h.o i hi), k.out.trans h.out⟩

section
variable {e : Env} {d : Dev} {b c st v : Nat} {x : Bias} {vhv : Bool}

/-- An output with its status and what is kept beside it set. -/
theorem Dev.biasKept_set (hb : b < 4096) (hc : c < 4096) (h : c ≠ b) :
    Dev.BiasKept b d ((d.so O.RX_BIAS_STATUS c st).setBias c x) :=
  ⟨⟨rfl, rfl⟩, fun _ _ => Dev.o_so_ne hc hb (Or.inr h.symm), tget_tset_ne _ _ _ _ h.symm⟩

theorem Dev.o_set : ((d.so O.RX_BIAS_STATUS b st).setBias b x).o O.RX_BIAS_STATUS b = st := Dev.o_so_self ..

theorem Dev.out_setBias : tget {} (d.setBias b x).rx.bias b = x := tget_tset_self ..

theorem Dev.o_biasOff : (d.biasOff b st vhv).o O.RX_BIAS_STATUS b = st := Dev.o_set

theorem Dev.o_biasRamp : (d.biasRamp e b v).o O.RX_BIAS_STATUS b = 1 := Dev.o_set

end

/-! ### The events of one output -/

section
variable {s : State} {b : Nat}

theorem biasRampDone_regulates (hq : s.Quiet) (hst : s.dev.o O.RX_BIAS_STATUS b = 1)
    (hat : (tget {} s.dev.rx.bias b).rampFrom = s.dev.o O.RX_BIAS_TARGET_MV b) (hdue : (tget {} s.dev.rx.bias b).rampAt ≤ s.clock.time) :
    Leads (.biasRampDone b) s (fun t => t.dev.o O.RX_BIAS_STATUS b = 2) := by
  refine leads_ends (f := fun e d => d.biasRampDone e b) (s.begun.so O.RX_BIAS_STATUS b 2) hq rfl ?_ hq.1 hq.2.1 fun t ht => ?_
  · have hslew := Nat.mul_le_mul_right (s.dev.o O.RX_BIAS_SLEW b) hdue
    rw [Dev.biasRampDone, if_pos (by simpa [hst, hat] using hslew)]
  · rw [ht.o, Dev.o_so_self]

theorem biasCurrentLimit_enters (hq : s.Quiet)
    (hst : s.dev.o O.RX_BIAS_STATUS b = 1 ∨ s.dev.o O.RX_BIAS_STATUS b = 2 ∨ s.dev.o O.RX_BIAS_STATUS b = 7) :
    Leads (.biasCurrentLimit b true) s (fun t => t.dev.o O.RX_BIAS_STATUS b = 3 ∧
      tget {} t.dev.rx.bias b =
        { (tget {} s.dev.rx.bias b) with limitAt := s.clock.time, back := s.dev.o O.RX_BIAS_STATUS b,
                                         rampFrom := if s.dev.o O.RX_BIAS_STATUS b = 1 then s.dev.biasPos s.env b
                                           else (tget {} s.dev.rx.bias b).rampFrom }) := by
  refine leads_ends (f := fun e d => d.biasLimit e b true) ((s.begun.so O.RX_BIAS_STATUS b 3).setBias b _) hq rfl
    (if_pos ?_) hq.1 hq.2.1 fun t ht => ⟨?_, ?_⟩
  · simpa [or_assoc] using hst
  · rw [ht.o, Dev.o_set]
  · rw [ht.rx, Dev.out_setBias, State.o_begun]
    simp only [beq_iff_eq]
    rfl

theorem biasCurrentLimit_leaves (hq : s.Quiet) (hst : s.dev.o O.RX_BIAS_STATUS b = 3) :
    Leads (.biasCurrentLimit b false) s (fun t => t.dev.o O.RX_BIAS_STATUS b = (tget {} s.dev.rx.bias b).back) := by
  refine leads_ends (f := fun e d => d.biasLimit e b false) ((s.begun.so O.RX_BIAS_STATUS b _).setBias b _) hq rfl
    (if_pos (by simp [hst])) hq.1 hq.2.1 fun t ht => ?_
  rw [ht.o, Dev.o_set]
  rfl

/-- A fault turns the output off with its status, and is logged. -/
theorem leads_biasFault {c : Instr} {f : Env → Dev → Dev} {st code loc cls : Nat} (hb : b < 8) (hq : s.Quiet) (hc : exec c s = run f s)
    (hd : f s.env s.begun = (s.begun.biasOff b st false).log s.env code loc cls) :
    Leads c s (fun t => t.dev.o O.RX_BIAS_STATUS b = st) := by
  refine leads_ends _ hq hc hd ?_ ?_ fun t ht => ?_
  · rw [Dev.jq_log]; exact hq.1
  · rw [Dev.pwr_log]; exact hq.2.1
  · rw [ht.o, Dev.o_log_other (by decide) (by omega), Dev.o_biasOff]

theorem biasOvercurrentFault_turns_off (hb : b < 8) (hq : s.Quiet) (hst : s.dev.o O.RX_BIAS_STATUS b = 3)
    (hdue : (tget {} s.dev.rx.bias b).limitAt + 1500000 ≤ s.clock.time) :
    Leads (.biasOvercurrentFault b) s (fun t => t.dev.o O.RX_BIAS_STATUS b = 4) :=
  leads_biasFault (f := fun e d => d.biasOc e b) hb hq rfl (if_pos (by simp [hst, hdue]))

theorem biasOvervoltageFault_turns_off (hb : b < 8) (hq : s.Quiet) (hst : s.dev.o O.RX_BIAS_STATUS b ∈ [1, 2, 3, 7]) :
    Leads (.biasOvervoltageFault b) s (fun t => t.dev.o O.RX_BIAS_STATUS b = 5) :=
  leads_biasFault (f := fun e d => d.biasOv e b) hb hq rfl (if_pos (List.contains_iff_mem.2 hst))

theorem biasUndervoltageFault_turns_off (hb : b < 8) (hq : s.Quiet) (hst : s.dev.o O.RX_BIAS_STATUS b ∈ [2, 7]) :
    Leads (.biasUndervoltageFault b) s (fun t => t.dev.o O.RX_BIAS_STATUS b = 6) :=
  leads_biasFault (f := fun e d => d.biasUv e b) hb hq rfl (if_pos (List.contains_iff_mem.2 hst))

theorem biasOpenWarn_warns (hb : b < 8) (hq : s.Quiet) (hst : s.dev.o O.RX_BIAS_STATUS b = 2)
    (hact : ∃ i, i < 4 ∧ s.dev.o O.RX_GROUP_STATE (4 * b + i) = 3) :
    Leads (.biasOpenWarn b) s (fun t => t.dev.o O.RX_BIAS_STATUS b = 7) := by
  obtain ⟨i, hi, hg⟩ := hact
  have hany : (List.range 4).any (fun i => s.dev.o O.RX_GROUP_STATE (4 * b + i) == 3) = true :=
    List.any_eq_true.2 ⟨i, List.mem_range.2 hi, beq_iff_eq.2 hg⟩
  refine leads_ends (f := fun e d => d.biasOpen e b) _ hq rfl (if_pos (by simpa [hst] using hany)) ?_ ?_ fun t ht => ?_
  · rw [Dev.jq_log]; exact hq.1
  · rw [Dev.pwr_log]; exact hq.2.1
  · rw [ht.o, Dev.o_log_other (by decide) (by omega), Dev.o_so_self]

/-! ### VHV below 9 V, and its recovery -/

/-- One output when VHV falls: off until VHV recovers, where it is on. -/
def Dev.vhvCut (d : Dev) (b : Nat) : Dev :=
  if [1, 2, 3, 7].contains (d.o O.RX_BIAS_STATUS b) then d.biasOff b 0 true else d

theorem Dev.biasKept_vhvCut {d : Dev} {b c : Nat} (hb : b < 8) (hc : c < 8) (h : c ≠ b) : Dev.BiasKept b d (d.vhvCut c) := by
  unfold Dev.vhvCut
  split
  · exact Dev.biasKept_set (by omega) (by omega) h
  · exact .refl b d

theorem Dev.vhvLow_vhvCut (d : Dev) (b : Nat) : (d.vhvCut b).rx.vhvLow = d.rx.vhvLow := by
  unfold Dev.vhvCut
  split <;> rfl

theorem Dev.vhvLow_vhvCuts (bs : List Nat) (d : Dev) : (bs.foldl Dev.vhvCut d).rx.vhvLow = d.rx.vhvLow :=
  List.foldlRecOn bs _ (motive := fun x => x.rx.vhvLow = d.rx.vhvLow) rfl fun x hx b _ => (Dev.vhvLow_vhvCut x b).trans hx

theorem biasVhvLow_turns_off (hb : b < 8) (hq : s.Quiet) (hst : s.dev.o O.RX_BIAS_STATUS b ∈ [1, 2, 3, 7]) :
    Leads .biasVhvLow s (fun t => t.dev.o O.RX_BIAS_STATUS b = 0 ∧ (tget {} t.dev.rx.bias b).vhvOff = true ∧ t.dev.rx.vhvLow = true) := by
  obtain ⟨d, hd⟩ : ∃ d, d = { s.begun with rx := { s.dev.rx with vhvLow := true } } := ⟨_, rfl⟩
  obtain ⟨d', hsame, hkept⟩ : ∃ d' : Dev, Dev.SameJq d d' ∧
      Dev.BiasKept b (d'.biasOff b 0 true) ((List.range 8).foldl Dev.vhvCut d) := by
    refine foldl_range_visits (K := Dev.BiasKept b d)
      (P := fun x => ∃ d' : Dev, Dev.SameJq d d' ∧ Dev.BiasKept b (d'.biasOff b 0 true) x)
      (fun d' c hc hne hk => hk.trans (Dev.biasKept_vhvCut hb hc hne)) (fun d' hk => ⟨d', hk.same, ?_⟩)
      (fun d' c hc hne ⟨x, hx, hk⟩ => ⟨x, hx, hk.trans (Dev.biasKept_vhvCut hb hc hne)⟩) hb (.refl b d)
    rw [Dev.vhvCut, if_pos (List.contains_iff_mem.2 (by rw [hk.o _ (by simp), hd]; exact hst))]
    exact .refl ..
  refine leads_ends (f := fun _ d => d.biasVhvLow) ((List.range 8).foldl Dev.vhvCut d) hq rfl (by rw [hd]; rfl) ?_ ?_
    fun t ht => ⟨?_, ?_, ?_⟩
  · rw [hkept.same.jq]; exact (congrArg Jq.settle hsame.jq).trans (hd ▸ hq.1)
  · rw [hkept.same.rstDue]; exact hsame.rstDue.trans (hd ▸ hq.2.1)
  · rw [ht.o, hkept.o _ (by simp), Dev.o_biasOff]
  · rw [ht.rx, hkept.out, Dev.biasOff, Dev.out_setBias]
  · rw [ht.rx, Dev.vhvLow_vhvCuts, hd]

theorem Dev.biasKept_vhvBack {e : Env} {d : Dev} {b c : Nat} (hb : b < 8) (hc : c < 8) (h : c ≠ b) :
    Dev.BiasKept b d (d.biasVhvBack e c) := by
  unfold Dev.biasVhvBack
  have hend : Dev.BiasKept b d { d with rx := { d.rx with vhvLow := false } } := ⟨⟨rfl, rfl⟩, fun _ _ => rfl, rfl⟩
  dsimp only
  split
  · exact hend.trans (Dev.biasKept_set (by omega) (by omega) h)
  · exact hend

/-- An output that VHV has turned off, and that is enabled, ramps again from 0. -/
theorem Dev.biasVhvBack_ramps {e : Env} {d : Dev} {b : Nat} (hoff : (tget {} d.rx.bias b).vhvOff = true)
    (hen : d.ob O.RX_BIAS_ENABLE b = true) :
    d.biasVhvBack e b = ({ d with rx := { d.rx with vhvLow := false } } : Dev).biasRamp e b 0 :=
  if_pos (Bool.and_eq_true_iff.2 ⟨hoff, hen⟩)

theorem biasVhvRecovery_restarts (hb : b < 8) (hq : s.Quiet) (hoff : (tget {} s.dev.rx.bias b).vhvOff = true)
    (hen : s.dev.ob O.RX_BIAS_ENABLE b = true) :
    Leads .biasVhvRecovery s (fun t => t.dev.o O.RX_BIAS_STATUS b = 1 ∧ (tget {} t.dev.rx.bias b).vhvOff = false) := by
  obtain ⟨d', hsame, hkept⟩ : ∃ d' : Dev, Dev.SameJq s.begun d' ∧
      Dev.BiasKept b (d'.biasRamp s.env b 0) ((List.range 8).foldl (fun d b => d.biasVhvBack s.env b) s.begun) := by
    refine foldl_range_visits (K := Dev.BiasKept b s.begun)
      (P := fun x => ∃ d' : Dev, Dev.SameJq s.begun d' ∧ Dev.BiasKept b (d'.biasRamp s.env b 0) x)
      (fun d' c hc hne hk => hk.trans (Dev.biasKept_vhvBack hb hc hne))
      (fun d' hk => ⟨{ d' with rx := { d'.rx with vhvLow := false } }, hk.same.trans ⟨rfl, rfl⟩, ?_⟩)
      (fun d' c hc hne ⟨x, hx, hk⟩ => ⟨x, hx, hk.trans (Dev.biasKept_vhvBack hb hc hne)⟩) hb (.refl b s.begun)
    rw [Dev.biasVhvBack_ramps (by rw [hk.out]; exact hoff) (by unfold Dev.ob; rw [hk.o _ (by simp)]; exact hen)]
    exact .refl ..
  refine leads_ends (f := fun e d => (List.range 8).foldl (fun d b => d.biasVhvBack e b) d) _ hq rfl rfl ?_ ?_ fun t ht => ⟨?_, ?_⟩
  · rw [hkept.same.jq]; exact (congrArg Jq.settle hsame.jq).trans hq.1
  · rw [hkept.same.rstDue]; exact hsame.rstDue.trans hq.2.1
  · rw [ht.o, hkept.o _ (by simp), Dev.o_biasRamp]
  · rw [ht.rx, hkept.out, Dev.biasRamp, Dev.out_setBias]

/-! ### Writes of RX_BIAS_ENABLE -/

theorem Dev.landEl_biasEnable (e : Env) (n : Nat) (d : Dev) (b v : Nat) :
    d.landEl e n O.RX_BIAS_ENABLE b v = d.biasEnable e b v := rfl

/-- The device with RX_BIAS_ENABLE set and its domain following. -/
def Dev.biasEnabled (e : Env) (d : Dev) (b v : Nat) : Dev := (d.so O.RX_BIAS_ENABLE b v).biasDom e

theorem Dev.switched_biasEnabled (e : Env) (d : Dev) (b v : Nat) : Dev.Switched d (d.biasEnabled e b v) :=
  (show Dev.Switched d (d.so O.RX_BIAS_ENABLE b v) from rfl).trans (Dev.switched_domSet ..)

theorem Dev.frame_biasDom {e : Env} {d : Dev} : Dev.Frame domIdx d (d.biasDom e) := Dev.frame_domSet (by decide)

theorem Dev.biasEnabled_keeps (e : Env) (d : Dev) (b v : Nat) :
    Dev.SameJq d (d.biasEnabled e b v) ∧ (d.biasEnabled e b v).rx = d.rx := by
  have h := Dev.switched_biasEnabled e d b v
  refine ⟨⟨?_, ?_⟩, ?_⟩ <;> rw [h]

theorem Dev.o_biasEnabled {e : Env} {d : Dev} {b v : Nat} (hb : b < 8) : (d.biasEnabled e b v).o O.RX_BIAS_ENABLE b = v := by
  rw [Dev.biasEnabled, Dev.frame_biasDom.o (by omega) (by decide), Dev.o_so_self]

theorem State.rx_atRequest (s : State) (n : Nat) : (s.atRequest n).rx = s.dev.rx := by rw [State.atRequest_eq]

/-- What a write of RX_BIAS_ENABLE leaves follows from what the landing makes of the device, its domain switched. -/
theorem leads_biasEnable {P : State → Prop} {h : Hdr} {v : Nat} (hq : s.Quiet) (ha : Accepts s h O.RX_BIAS_ENABLE b v)
    (hP : ∀ d : Dev, Dev.SameJq s.dev d → d.rx = s.dev.rx → d.o O.RX_BIAS_STATUS b = s.dev.o O.RX_BIAS_STATUS b →
      Dev.SameJq d (d.biasEnable s.env b v) ∧ ∀ t, s.Replied (d.biasEnable s.env b v) t → P t) :
    Leads (.rxBiasEnable h b v) s P := by
  obtain ⟨d, hd⟩ : ∃ d, d = (s.atRequest h.sess).shadowOff (okey O.RX_BIAS_ENABLE b) := ⟨_, rfl⟩
  have hjq : d.jq = s.dev.jq := by rw [hd, Dev.jq_shadowOff, State.jq_atRequest]
  have hpwr : d.pwr = s.dev.pwr := by rw [hd, Dev.pwr_shadowOff, State.pwr_atRequest]
  obtain ⟨hsame, hend⟩ := hP d ⟨hjq, by rw [hpwr]⟩ (by rw [hd]; exact State.rx_atRequest ..) (by
    rw [hd, Dev.o_shadowOff, State.o_atRequest])
  have hland : s.landed h O.RX_BIAS_ENABLE b v = d.biasEnable s.env b v := by rw [State.landed, Dev.landEl_biasEnable, hd]
  refine leads_landed rfl ha (by decide) ?_ ?_ fun t ht => hend t (hland ▸ ht)
  · rw [hland, hsame.jq, hjq]; exact hq.1
  · rw [hland, hsame.rstDue, hpwr]; exact hq.2.1

theorem rxBiasEnable_turns_off {h : Hdr} (hb : b < 8) (hq : s.Quiet) (ha : Accepts s h O.RX_BIAS_ENABLE b 0) :
    Leads (.rxBiasEnable h b 0) s (fun t => t.dev.o O.RX_BIAS_STATUS b = 0 ∧ t.dev.o O.RX_BIAS_ENABLE b = 0) := by
  refine leads_biasEnable hq ha fun d hjq hrx hst => ?_
  have hrun : d.biasEnable s.env b 0 = (d.biasEnabled s.env b 0).biasOff b 0 false := rfl
  rw [hrun]
  refine ⟨(Dev.biasEnabled_keeps ..).1.trans ⟨rfl, rfl⟩, fun t ht => ⟨?_, ?_⟩⟩
  · rw [ht.o (by decide) (by omega), Dev.o_biasOff]
  · rw [ht.o (by decide) (by omega)]
    exact (Dev.o_so_other (d := d.biasEnabled s.env b 0) (i := O.RX_BIAS_STATUS) (a := b) (v := 0) (by decide) (by omega) (by omega)).trans
      (Dev.o_biasEnabled hb)

theorem rxBiasEnable_ends_warning {h : Hdr} (hb : b < 8) (hq : s.Quiet) (ha : Accepts s h O.RX_BIAS_ENABLE b 1)
    (hwarn : s.dev.o O.RX_BIAS_STATUS b = 7) :
    Leads (.rxBiasEnable h b 1) s (fun t => t.dev.o O.RX_BIAS_STATUS b = 2) := by
  refine leads_biasEnable hq ha fun d hjq hrx hst => ?_
  have hrun : d.biasEnable s.env b 1 = (d.biasEnabled s.env b 1).so O.RX_BIAS_STATUS b 2 := by
    unfold Dev.biasEnable
    rw [hst, hwarn]
    rfl
  rw [hrun]
  exact ⟨(Dev.biasEnabled_keeps ..).1.trans ⟨rfl, rfl⟩, fun t ht => by rw [ht.o (by decide) (by omega), Dev.o_so_self]⟩

/-- An output turned on takes a target and ramps to it from 0. -/
theorem Dev.biasEnable_ramps {e : Env} {d : Dev} {b : Nat} (hst : d.o O.RX_BIAS_STATUS b ∈ [0, 4, 5, 6]) (hlow : d.rx.vhvLow = false) :
    ∃ v, d.biasEnable e b 1 = ((d.biasEnabled e b 1).so O.RX_BIAS_TARGET_MV b v).biasRamp e b 0 := by
  have hlow' : (d.biasEnabled e b 1).rx.vhvLow = false := by rw [(Dev.biasEnabled_keeps e d b 1).2, hlow]
  have hrun : d.biasEnable e b 1 = (let d' := d.biasEnabled e b 1
      if d'.rx.vhvLow then d'.biasOff b 0 true
      else (d'.so O.RX_BIAS_TARGET_MV b (if d'.o O.JQ_STATE == 0 || d'.o O.RX_BIAS_TARGET_MV b == 0 then d'.biasTarget b
        else d'.o O.RX_BIAS_TARGET_MV b)).biasRamp e b 0) := if_pos (List.contains_iff_mem.2 hst)
  exact ⟨_, hrun.trans (if_neg (by rw [hlow']; decide))⟩

theorem rxBiasEnable_restarts {h : Hdr} (hb : b < 8) (hq : s.Quiet) (ha : Accepts s h O.RX_BIAS_ENABLE b 1)
    (hoff : s.dev.o O.RX_BIAS_STATUS b ∈ [0, 4, 5, 6]) (hlow : s.dev.rx.vhvLow = false) :
    Leads (.rxBiasEnable h b 1) s (fun t => t.dev.o O.RX_BIAS_STATUS b = 1 ∧ t.dev.o O.RX_BIAS_ENABLE b = 1 ∧
      (tget {} t.dev.rx.bias b).rampFrom = 0 ∧ (tget {} t.dev.rx.bias b).rampAt = s.clock.time) := by
  refine leads_biasEnable hq ha fun d hjq hrx hst => ?_
  obtain ⟨v, hrun⟩ := Dev.biasEnable_ramps (e := s.env) (by rw [hst]; exact hoff) (by rw [hrx]; exact hlow)
  rw [hrun]
  refine ⟨(Dev.biasEnabled_keeps ..).1.trans ⟨rfl, rfl⟩, fun t ht => ⟨?_, ?_, ?_, ?_⟩⟩
  · rw [ht.o (by decide) (by omega), Dev.o_biasRamp]
  · rw [ht.o (by decide) (by omega)]
    exact ((Dev.o_so_other (d := (d.biasEnabled s.env b 1).so O.RX_BIAS_TARGET_MV b v) (i := O.RX_BIAS_STATUS) (a := b) (v := 1)
      (by decide) (by omega) (by omega)).trans
      (Dev.o_so_other (i := O.RX_BIAS_TARGET_MV) (a := b) (by decide) (by omega) (by omega))).trans (Dev.o_biasEnabled hb)
  · rw [ht.rx, Dev.biasRamp, Dev.out_setBias]
  · rw [ht.rx, Dev.biasRamp, Dev.out_setBias]; rfl

/-- Settles O27. -/
theorem biasOutputs : Obligations.BiasOutputs :=
  fun _ _ hq hb => ⟨biasRampDone_regulates hq, biasCurrentLimit_enters hq, biasCurrentLimit_leaves hq,
    biasOvercurrentFault_turns_off hb hq, biasOvervoltageFault_turns_off hb hq, biasUndervoltageFault_turns_off hb hq,
    biasOpenWarn_warns hb hq, biasVhvLow_turns_off hb hq, biasVhvRecovery_restarts hb hq,
    fun _ => rxBiasEnable_turns_off hb hq, fun _ => rxBiasEnable_ends_warning hb hq, fun _ => rxBiasEnable_restarts hb hq⟩

end

end Sys2Proof.Machine
end

section
/-! PROOF. A Skipper slice that becomes FAULTY while a change of serving slice waits for a channel that the part does not have
(chapters 06 and 07). -/

namespace Sys2Proof.Machine

/-- The Skipper of receive group 0 serves position 0 for a calibration pass and has 1,024 implausible calibrations; a change to
slice 5 waits for channel 33,280, whose element of RX_SLICE_OF is kept where RX_SLICE_STATUS keeps slice 512. -/
def straySwitchState : State :=
  stateAt (Dev.so { readyDev with
    rx := { holder := [(0, 1)], switches := [{ chan := 33280, slice := 5 }] }
    tdc := { implaus := [(512, 1024)] } } O.RX_SLICE_OF 0 512)

theorem straySwitchState_quiet : straySwitchState.Quiet := by
  unfold State.Quiet State.Still
  decide +kernel

/-- Refutes O28: no premise keeps the pending changes of serving slice to channels of the part. In `straySwitchState` slice 512
becomes FAULTY, its takeover returns, and the changes that wait land with it, Jacquard being STOPPED: the stray one leaves 5 in
RX_SLICE_STATUS of slice 512, where the statement has FAULTY or REPAIRED. -/
theorem not_crossingsAndTiming : ¬ Obligations.CrossingsAndTiming := by
  rintro ⟨-, h⟩
  obtain ⟨-, hfaulty, -⟩ := h straySwitchState straySwitchState_quiet
  have hend := (hfaulty 512 (by decide) (by decide +kernel) (by decide +kernel)).endsWith
    (p := fun t => [1, 2].contains (t.dev.o O.RX_SLICE_STATUS 512)) fun t ⟨hst, _⟩ => List.contains_iff_mem.2 hst
  exact absurd hend (by decide +kernel)

end Sys2Proof.Machine
end

section
/-! PROOF. Extraction and Ringlet (chapters 08 and 09). -/

namespace Sys2Proof.Machine

/-! ### What Ringlet's traffic leaves alone -/

/-- Memory, its log and the fault log may have changed, and no other part but the objects. -/
def Dev.OnlyStore (d d' : Dev) : Prop := d' = { d with objs := d'.objs, doms := d'.doms, gddr := d'.gddr, mem := d'.mem, flt := d'.flt }

namespace Dev.OnlyStore
variable {d d' d'' : Dev}

theorem refl (d : Dev) : OnlyStore d d := rfl

theorem trans (h : OnlyStore d d') (k : OnlyStore d' d'') : OnlyStore d d'' := by
  unfold OnlyStore at h k ⊢
  rw [k, h]

theorem ite {p : Prop} [Decidable p] {a b : Dev} (ha : OnlyStore d a) (hb : OnlyStore d b) : OnlyStore d (if p then a else b) := by
  split
  · exact ha
  · exact hb

theorem foldl {α : Type} {f : Dev → α → Dev} (h : ∀ d x, OnlyStore d (f d x)) (xs : List α) (d : Dev) : OnlyStore d (xs.foldl f d) :=
  rel_foldl refl trans h xs d

theorem ex (h : OnlyStore d d') : d'.ex = d.ex := by rw [h]

theorem rl (h : OnlyStore d d') : d'.rl = d.rl := by rw [h]

end Dev.OnlyStore

section
variable (e : Env) (d : Dev)

theorem Dev.onlyStore_log (code loc cls detail : Nat) (inj : Bool) : Dev.OnlyStore d (d.log e code loc cls detail inj) := by
  unfold Dev.log Dev.deliver
  exact .ite rfl rfl

theorem Dev.onlyStore_memLog (k a r m : Nat) : Dev.OnlyStore d (d.memLog e k a r m) := by
  unfold Dev.memLog
  dsimp only
  rw [Dev.setDom_eq]
  rfl

theorem Dev.onlyStore_gWrite (a : Nat) (bs : Bytes) : Dev.OnlyStore d (d.gWrite a bs) := by
  induction bs generalizing a with
  | nil => exact rfl
  | cons b bs ih => exact .ite (ih _) ((ih (a + 1)).trans rfl)

theorem Dev.onlyStore_wrCount (d : Dev) (a n b : Nat) : Dev.OnlyStore d (d.wrCount a n b) := by
  unfold Dev.wrCount
  exact .ite rfl rfl

theorem Dev.onlyStore_memWr (req a : Nat) (bs : Bytes) : Dev.OnlyStore d (d.memWr e req a bs) := by
  refine .ite (Dev.onlyStore_memLog ..) (((Dev.onlyStore_gWrite d a bs).trans
    (.foldl (fun d b => Dev.onlyStore_wrCount d a bs.length b) _ _)).trans rfl)

theorem Dev.onlyStore_rdCount (d : Dev) (a n b : Nat) : Dev.OnlyStore d (d.rdCount a n b) := by
  unfold Dev.rdCount
  exact .ite rfl rfl

theorem Dev.onlyStore_memRd (req a n : Nat) : Dev.OnlyStore d (d.memRd e req a n).2 := by
  unfold Dev.memRd
  split
  · exact Dev.onlyStore_memLog ..
  · exact (Dev.OnlyStore.foldl (fun d b => Dev.onlyStore_rdCount d a n b) (blocksOf a n) d).trans rfl

theorem Dev.onlyStore_mirror : Dev.OnlyStore d (d.mirror e) := .ite rfl (Dev.onlyStore_memWr ..)

theorem Dev.onlyStore_logRepeat (code loc cls : Nat) : Dev.OnlyStore d (d.logRepeat e code loc cls) := by
  unfold Dev.logRepeat
  refine .ite rfl ?_
  split
  · rw [Dev.setDom_eq]
    refine Dev.OnlyStore.trans ?_ (Dev.onlyStore_mirror ..)
    exact rfl
  · exact Dev.onlyStore_log ..

end

/-- The observations, the groups and their bins, and the count of observations stay; where `ring` holds, so do the blocks cached and
wanted. -/
structure Dev.Aside (ring : Bool) (d d' : Dev) : Prop where
  same : Dev.SameJq d d'
  obs : d'.ex.obs = d.ex.obs
  groups : d'.ex.groups = d.ex.groups
  bins : d'.ex.bins = d.ex.bins
  counted : d'.o O.RL_OBS = d.o O.RL_OBS
  blocks : ring = true → d'.rl.cache = d.rl.cache ∧ d'.rl.wanted = d.rl.wanted

namespace Dev.Aside
variable {ring : Bool} {d d' d'' : Dev}

theorem refl (d : Dev) : Aside ring d d := ⟨.refl d, rfl, rfl, rfl, rfl, fun _ => ⟨rfl, rfl⟩⟩

theorem trans (h : Aside ring d d') (k : Aside ring d' d'') : Aside ring d d'' :=
  ⟨h.same.trans k.same, k.obs.trans h.obs, k.groups.trans h.groups, k.bins.trans h.bins, k.counted.trans h.counted, fun hr =>
    ⟨(k.blocks hr).1.trans (h.blocks hr).1, (k.blocks hr).2.trans (h.blocks hr).2⟩⟩

theorem ite {p : Prop} [Decidable p] {a b : Dev} (ha : Aside ring d a) (hb : Aside ring d b) : Aside ring d (if p then a else b) := by
  split
  · exact ha
  · exact hb

theorem foldl {α : Type} {f : Dev → α → Dev} (h : ∀ d x, Aside ring d (f d x)) (xs : List α) (d : Dev) : Aside ring d (xs.foldl f d) :=
  rel_foldl refl trans h xs d

/-- An action beside the objects. -/
theorem of_parts (hs : Dev.SameJq d d') (hobs : d'.ex.obs = d.ex.obs) (hgroups : d'.ex.groups = d.ex.groups)
    (hbins : d'.ex.bins = d.ex.bins) (ho : d'.objs = d.objs)
    (hblocks : ring = true → d'.rl.cache = d.rl.cache ∧ d'.rl.wanted = d.rl.wanted) : Aside ring d d' :=
  ⟨hs, hobs, hgroups, hbins, Dev.o_congr ho _ _, hblocks⟩

theorem so {i el v : Nat} (hi : O.RL_OBS < i ∨ i ≠ O.RL_OBS ∧ el < 4096) : Aside ring d (d.so i el v) := by
  refine ⟨⟨rfl, rfl⟩, rfl, rfl, rfl, ?_, fun _ => ⟨rfl, rfl⟩⟩
  rcases hi with hi | ⟨hi, hel⟩
  · exact Dev.o_so_key (by simp only [okey]; omega)
  · exact Dev.o_so_other hi.symm hel (by decide)

theorem inc {i el n : Nat} (hi : O.RL_OBS < i ∨ i ≠ O.RL_OBS ∧ el < 4096) : Aside ring d (d.inc i el n) := so hi

/-- Traffic of memory and entries of the log. -/
theorem of_store (hs : Dev.OnlyStore d d') (ho : Dev.Spans O.MEM_STATE d d') : Aside ring d d' :=
  ⟨⟨ho.jq, ho.rstDue⟩, by rw [hs.ex], by rw [hs.ex], by rw [hs.ex], ho.o (by decide) (by decide) (by decide), fun _ => by rw [hs.rl]; exact ⟨rfl, rfl⟩⟩

end Dev.Aside

section
variable {ring : Bool}

theorem Dev.aside_log (e : Env) (d : Dev) (code loc cls detail : Nat) (inj : Bool) : Dev.Aside ring d (d.log e code loc cls detail inj) :=
  .of_store (Dev.onlyStore_log ..) (.log (by decide))

theorem Dev.aside_memWr (e : Env) (d : Dev) (req a : Nat) (bs : Bytes) : Dev.Aside ring d (d.memWr e req a bs) :=
  .of_store (Dev.onlyStore_memWr ..) (Dev.spans_memWr _ _ _ _ _ (Nat.le_refl _))

theorem Dev.spans_memRd (e : Env) (d : Dev) (req a n : Nat) : Dev.Spans O.MEM_STATE d (d.memRd e req a n).2 := by
  unfold Dev.memRd
  split
  · exact Dev.spans_memLog _ _ _ _ _ _ (Nat.le_refl _)
  · have hcount : ∀ (d : Dev) b, Dev.Spans O.MEM_STATE d (d.rdCount a n b) := fun d b =>
      (Dev.Spans.inc (by decide)).trans (.ite (.inc (by decide)) (.refl _))
    refine (Dev.Spans.foldl hcount (blocksOf a n) d).trans ?_
    exact .of_objs rfl rfl rfl

theorem Dev.aside_memRd (e : Env) (d : Dev) (req a n : Nat) : Dev.Aside ring d (d.memRd e req a n).2 :=
  .of_store (Dev.onlyStore_memRd ..) (Dev.spans_memRd ..)

theorem Dev.aside_keepCopy (d : Dev) (r slot word : Nat) : Dev.Aside ring d (d.keepCopy r slot word) := by
  unfold Dev.keepCopy
  exact .ite (.refl d) (.of_parts ⟨rfl, rfl⟩ rfl rfl rfl rfl fun _ => ⟨rfl, rfl⟩)

/-- Ringlet's own state replaced. -/
theorem Dev.aside_rl (d : Dev) (r : Rl) (h : ring = true → r.cache = d.rl.cache ∧ r.wanted = d.rl.wanted) :
    Dev.Aside ring d { d with rl := r } := .of_parts ⟨rfl, rfl⟩ rfl rfl rfl rfl h

theorem Dev.aside_anyRl (d : Dev) (r : Rl) : Dev.Aside false d { d with rl := r } := Dev.aside_rl d r fun h => nomatch h

theorem Dev.aside_putEntry (e : Env) (d : Dev) (serial r word : Nat) : Dev.Aside ring d (d.putEntry e serial r word) := by
  unfold Dev.putEntry
  extract_lets valid oseq slot w bs d1 d2 r2 d3 d4 r4
  have h1 : Dev.Aside ring d d1 := Dev.aside_keepCopy ..
  have h2 : Dev.Aside ring d1 d2 := .inc (by decide)
  have h3 : Dev.Aside ring d2 d3 := Dev.aside_rl _ _ fun _ => ⟨rfl, rfl⟩
  have h4 : Dev.Aside ring d1 d4 := by
    refine .ite ((h2.trans h3).trans (Dev.aside_memWr ..)) (Dev.Aside.trans ?_ (Dev.aside_memWr ..))
    exact Dev.aside_rl _ _ fun _ => ⟨rfl, rfl⟩
  exact (h1.trans h4).trans (Dev.aside_rl _ _ fun _ => ⟨rfl, rfl⟩)

theorem Dev.aside_free (d : Dev) (n : Nat) : Dev.Aside ring d { d with free := n } :=
  .of_parts ⟨rfl, rfl⟩ rfl rfl rfl rfl fun _ => ⟨rfl, rfl⟩

theorem Dev.aside_lateWrite (e : Env) (d : Dev) (blk : Nat) : Dev.Aside ring d (d.lateWrite e blk) := by
  unfold Dev.lateWrite
  refine (Dev.aside_rl d { d.rl with late := d.rl.late.filter (fun l => blockOf l.ring != blk) } fun _ => ⟨rfl, rfl⟩).trans
    (.foldl (fun d l => ?_) _ _)
  have hinc : Dev.Aside ring d (d.inc O.RL_VOID_CHK 0 ((d.ringEntries l.ring).filter d.badChk).length) := .inc (by decide)
  exact (hinc.trans (Dev.aside_free ..)).trans (Dev.aside_putEntry ..)

theorem Dev.aside_cacheEcc (e : Env) (d : Dev) (blk : Nat) (ecc : Option Nat) : Dev.Aside ring d (d.cacheEcc e blk ecc) := by
  unfold Dev.cacheEcc
  split
  · unfold Dev.cacheError
    split
    · exact .refl d
    · refine Dev.Aside.trans ?_ (Dev.aside_log ..)
      refine Dev.Aside.trans ?_ (.inc (by decide))
      exact Dev.aside_rl _ _ fun _ => ⟨rfl, rfl⟩
  · exact .refl d

end

/-! ### The oldest observation -/

theorem Dev.aside_dirtyCheck (e : Env) (d : Dev) : Dev.Aside false d (d.dirtyCheck e) := by
  unfold Dev.dirtyCheck
  extract_lets old n m d1
  have h1 : Dev.Aside false d d1 := .so (by decide)
  refine .ite ((h1.trans (Dev.aside_anyRl ..)).trans (Dev.aside_log ..))
    (.ite (h1.trans (.of_store (Dev.onlyStore_logRepeat ..) (Dev.spans_logRepeat _ _ _ _ _ (Nat.le_refl _))))
      (.ite (h1.trans (Dev.aside_anyRl ..)) h1))

theorem Dev.aside_winLevel (e : Env) (d : Dev) (o : Obs) (h : o.chan < 4096) : Dev.Aside false d (d.winLevel e o) := by
  unfold Dev.winLevel
  exact .ite (.refl d) ((Dev.Aside.so (.inr ⟨by decide, h⟩)).trans (Dev.aside_dirtyCheck ..))

theorem Dev.aside_lateMark (d : Dev) (o : Obs) : Dev.Aside false d (d.lateMark o) := by
  unfold Dev.lateMark
  exact .ite (.refl d) (Dev.aside_anyRl ..)

theorem Dev.aside_touch (d : Dev) (blk : Nat) : Dev.Aside false d (d.touch blk) := by
  unfold Dev.touch
  split
  · exact Dev.aside_anyRl ..
  · exact .refl d

theorem Dev.aside_classifyRing (e : Env) (d : Dev) (o : Obs) : Dev.Aside false d (d.classifyRing e o).2 := by
  unfold Dev.classifyRing
  extract_lets ents d1 ents' cs r d2 d3 hits d4 d5
  have h1 : Dev.Aside false d d1 := .inc (by decide)
  have h2 : Dev.Aside false d1 d2 := .inc (by decide)
  have h3 : Dev.Aside false d2 d3 := .inc (by decide)
  exact (((h1.trans h2).trans h3).trans (Dev.aside_putEntry ..)).trans (Dev.aside_memWr ..)

theorem Dev.aside_classifyLate (e : Env) (d : Dev) (o : Obs) (ecc : Option Nat) : Dev.Aside false d (d.classifyLate e o ecc).2 := by
  unfold Dev.classifyLate
  extract_lets prelim d1 blk l r1 d2 r2 d3
  have h1 : Dev.Aside false d d1 := .inc (by decide)
  have h2 : Dev.Aside false d1 d2 := Dev.aside_anyRl ..
  refine (h1.trans h2).trans (Dev.Aside.trans ?_ (Dev.aside_memWr ..))
  exact .ite ((Dev.aside_cacheEcc ..).trans (Dev.aside_lateWrite ..)) (.ite (.refl _) (Dev.aside_anyRl ..))

theorem Dev.aside_tap (d : Dev) (x : Tap) : Dev.Aside false d { d with tap := x } :=
  .of_parts ⟨rfl, rfl⟩ rfl rfl rfl rfl fun _ => ⟨rfl, rfl⟩

theorem Dev.aside_setRaster (d : Dev) (r : Raster) : Dev.Aside false d (d.setRaster r) := Dev.aside_tap ..

theorem Dev.aside_placeTarget (e : Env) (d : Dev) (o : Obs) (fin : List (Nat × Nat)) (col : Nat) (result : Bool) (num t : Nat) :
    Dev.Aside false d (d.placeTarget e o fin col result num t) := by
  unfold Dev.placeTarget
  split
  · exact .refl d
  · exact .ite (.refl d) (.ite ((Dev.Aside.inc (by decide)).trans (Dev.aside_setRaster ..))
      (.ite (.inc (by decide)) ((Dev.aside_memWr ..).trans (Dev.aside_setRaster ..))))

theorem Dev.aside_placeObs (e : Env) (d : Dev) (o : Obs) (fin : List (Nat × Nat)) : Dev.Aside false d (d.placeObs e o fin) := by
  unfold Dev.placeObs
  split
  · exact .foldl (fun d t => Dev.aside_placeTarget ..) _ d
  · exact .refl d

theorem Dev.aside_retire (d : Dev) (num : Nat) : Dev.Aside false d (d.retire num) := by
  unfold Dev.retire
  exact Dev.Aside.trans (.ite (.so (by decide)) (.refl d)) (Dev.aside_tap ..)

theorem Dev.aside_flipNext (e : Env) (d : Dev) : Dev.Aside false d (d.flipNext e) := by
  have hdrop : ∀ (d : Dev) n, Dev.Aside false d
      { (d.retire n).inc O.TAP_DROPPED with tap := { (d.retire n).tap with dropped := satN 65535 ((d.retire n).tap.dropped + 1) } } :=
    fun d n => ((Dev.aside_retire d n).trans (.inc (by decide))).trans (Dev.aside_tap ..)
  unfold Dev.flipNext
  split
  · unfold Dev.flipRaster
    exact .ite (.refl d) (((Dev.Aside.foldl hdrop _ d).trans (.so (by decide))).trans (Dev.aside_setRaster ..))
  · exact .refl d

theorem Dev.aside_tryFlip (e : Env) (d : Dev) : Dev.Aside false d (d.tryFlip e) :=
  .foldl (fun d _ => Dev.aside_flipNext e d) _ d

theorem Dev.aside_enq (d : Dev) (p : Packet) : Dev.Aside false d (d.enq p) := by
  unfold Dev.enq
  refine .ite (.inc (.inl (by simp only [O.RL_OBS, O.LINK_TX_DISCARD]; omega))) (.ite (.refl d) (.ite (.inc (by decide)) ?_))
  exact .of_parts ⟨rfl, rfl⟩ rfl rfl rfl rfl fun h => nomatch h

/-- Extraction's jobs, header packets and record buffer replaced. -/
theorem Dev.aside_ex (d : Dev) (x : Ex) (h : x.obs = d.ex.obs ∧ x.groups = d.ex.groups ∧ x.bins = d.ex.bins) :
    Dev.Aside false d { d with ex := x } := .of_parts ⟨rfl, rfl⟩ h.1 h.2.1 h.2.2 rfl fun h => nomatch h

theorem Dev.aside_flushHdrs (d : Dev) : Dev.Aside false d d.flushHdrs := by
  unfold Dev.flushHdrs
  refine .ite (.refl d) (Dev.Aside.trans ?_ (Dev.aside_enq ..))
  exact Dev.aside_ex _ _ ⟨rfl, rfl, rfl⟩

theorem Dev.aside_hdrDone (e : Env) (d : Dev) (word : Nat) (result : Bool) (recs : List Nat) :
    Dev.Aside false d (d.hdrDone e word result recs) := by
  unfold Dev.hdrDone
  refine .ite ((Dev.aside_flushHdrs d).trans (Dev.aside_enq ..)) (.ite (.refl d) ?_)
  extract_lets x1 d1
  have h1 : Dev.Aside false d d1 := Dev.aside_ex _ _ ⟨rfl, rfl, rfl⟩
  exact .ite (h1.trans (Dev.aside_flushHdrs d1)) h1

theorem Dev.aside_jobStep (e : Env) (d : Dev) (serial : Nat) (recs : List Nat) : Dev.Aside false d (d.jobStep e serial recs) := by
  unfold Dev.jobStep
  split
  · exact .refl d
  · extract_lets room kept j1 d1 x2 d2
    have h1 : Dev.Aside false d d1 := Dev.aside_ex d _ ⟨rfl, rfl, rfl⟩
    have h2 : Dev.Aside false d d2 := h1.trans (Dev.aside_ex d1 _ ⟨rfl, rfl, rfl⟩)
    refine .ite ((h2.trans ?_).trans (Dev.aside_hdrDone ..)) (h2.trans (Dev.aside_ex _ _ ⟨rfl, rfl, rfl⟩))
    exact .of_parts ⟨rfl, rfl⟩ rfl rfl rfl rfl fun h => nomatch h

theorem Dev.aside_publish (d : Dev) : Dev.Aside false d d.publish :=
  .foldl (fun d f => .ite (.refl d) ((Dev.Aside.so (by decide)).trans (Dev.aside_anyRl ..))) _ d

/-- The oldest observation taken. -/
def Dev.obsTaken (d : Dev) (rest : List Obs) : Dev := ({ d with ex := { d.ex with obs := rest } }).inc O.RL_OBS

theorem Dev.aside_echoClassify {e : Env} {d : Dev} {ecc : Option Nat} {x : Obs} {rest : List Obs} (hobs : d.ex.obs = x :: rest)
    (hx : x.chan < 512) : Dev.Aside false (d.obsTaken rest) (d.echoClassify e ecc) := by
  unfold Dev.echoClassify Dev.classify
  refine Dev.Aside.trans ?_ (Dev.aside_tryFlip ..)
  split
  · rename_i hnil; exact absurd (hnil.symm.trans hobs) (List.cons_ne_nil _ _).symm
  rename_i x' rest' hcons
  obtain ⟨rfl, rfl⟩ := List.cons.inj (hcons.symm.trans hobs)
  extract_lets x1 d1 d2 blk r d3
  have h2 : Dev.Aside false (d.obsTaken rest') d2 := (Dev.aside_winLevel e _ x' (by omega)).trans (Dev.aside_lateMark ..)
  have hr : Dev.Aside false d2 r.2 := by
    unfold r
    split
    · exact .refl d2
    · split
      · exact ((Dev.aside_touch ..).trans (Dev.aside_cacheEcc ..)).trans (Dev.aside_classifyRing ..)
      · exact Dev.aside_classifyLate ..
  exact (((h2.trans hr).trans (Dev.aside_placeObs ..)).trans (Dev.aside_jobStep ..)).trans (Dev.aside_publish _)

section
variable {s : State}

theorem echoClassify_counts {ecc : Option Nat} {x : Obs} {rest : List Obs} (hq : s.Quiet) (hobs : s.dev.ex.obs = x :: rest)
    (hx : x.chan < 512) :
    Leads (.echoClassify ecc) s (fun t => t.dev.ex.obs = rest ∧ t.dev.o O.RL_OBS = ctrAdd O.RL_OBS 0 (s.dev.o O.RL_OBS) 1) := by
  have hkeep := Dev.aside_echoClassify (e := s.env) (d := s.begun) (ecc := ecc) hobs hx
  refine leads_ends (f := fun e d => d.echoClassify e ecc) _ hq rfl rfl ?_ ?_ fun t ht => ⟨?_, ?_⟩
  · rw [hkeep.same.jq]; exact hq.1
  · rw [hkeep.same.rstDue]; exact hq.2.1
  · rw [ht.ex, hkeep.obs]; rfl
  · rw [ht.o, hkeep.counted]; exact Dev.o_inc_self ..

/-! ### Histogram readout and header packets -/

theorem shotHeaderPacketTimeout_closes (hq : s.Quiet) (hhdrs : s.dev.ex.hdrs ≠ []) (hdue : s.dev.ex.hdrAt + 15000 ≤ s.clock.time) :
    Leads .shotHeaderPacketTimeout s (fun t => t.dev.ex.hdrs = [] ∧ (s.dev.linkUp = true →
      t.dev.link.txq = s.dev.link.txq ++ [{ ty := 2, data := s.dev.ex.hdrs.flatMap (leBytes 16) }])) := by
  have hrun : s.begun.hdrTimeout s.env = ({ s.begun with ex := { s.dev.ex with hdrs := [] } } : Dev).enq
      { ty := 2, data := s.dev.ex.hdrs.flatMap (leBytes 16) } := by
    rw [Dev.hdrTimeout, if_pos (by simp [hhdrs, hdue]), Dev.flushHdrs, if_neg (by simp [hhdrs])]
    rfl
  have hkeep := Dev.spans_enq (n := O.LINK_NOTIFY_DROPPED) { s.begun with ex := { s.dev.ex with hdrs := [] } }
    { ty := 2, data := s.dev.ex.hdrs.flatMap (leBytes 16) } (Nat.le_refl _)
  refine leads_ends (f := fun e d => d.hdrTimeout e) _ hq rfl hrun ?_ ?_ fun t ht => ⟨?_, fun hup => ?_⟩
  · rw [hkeep.jq]; exact hq.1
  · rw [hkeep.rstDue]; exact hq.2.1
  · rw [ht.ex]
    unfold Dev.enq
    split
    · rfl
    · split
      · rfl
      · split <;> rfl
  · have hup' : ({ s.begun with ex := { s.dev.ex with hdrs := [] } } : Dev).linkUp = true := hup
    rw [ht.link, Dev.enq, hup', if_neg (by decide), if_neg (by simp), if_neg (by simp)]
    rfl

end

/-- A histogram of a channel read out: its bins empty, and no group of it holds it to be read. -/
structure Dev.ReadOut (ch inst : Nat) (d : Dev) : Prop where
  bins : ∀ b, b < 4096 → tget 0 d.ex.bins (binKey ch b) = 0
  groups : ∀ p ∈ d.ex.groups, p.1 = inst → bit p.2.toRead ch = false

theorem Dev.ReadOut.aside {ch inst : Nat} {d d' : Dev} {ring : Bool} (h : d.ReadOut ch inst) (k : Dev.Aside ring d d') : d'.ReadOut ch inst :=
  ⟨by rw [k.bins]; exact h.bins, by rw [k.groups]; exact h.groups⟩

theorem bit_setBit_false (w i : Nat) : bit (setBit w i false) i = false := by
  unfold setBit
  rw [if_neg (by decide)]
  split
  · next h =>
    rw [bit_eq_testBit] at h ⊢
    have hadd : (w - 1 <<< i) + 2 ^ i = w := by
      rw [Nat.one_shiftLeft, Nat.sub_add_cancel (Nat.ge_two_pow_of_testBit h)]
    have hflip := Nat.testBit_two_pow_add_eq (w - 1 <<< i) i
    rw [Nat.add_comm, hadd, h] at hflip
    simpa using hflip.symm
  · next h => simpa using h

theorem Dev.setGroup_groups {d : Dev} {inst : Nat} {g : ExGroup} {p : Nat × ExGroup} (hp : p ∈ (d.setGroup inst g).ex.groups)
    (hi : p.1 = inst) : p.2 = g := by
  have hl : (d.setGroup inst g).ex.groups = if d.ex.groups.any (fun p => p.1 == inst) then
      d.ex.groups.map (fun p => if p.1 == inst then (inst, g) else p) else d.ex.groups ++ [(inst, g)] := rfl
  rw [hl] at hp
  split at hp
  · obtain ⟨q, -, rfl⟩ := List.mem_map.1 hp
    split at hi
    · next hqi => rw [if_pos hqi]
    · next hqi => exact absurd (beq_iff_eq.2 hi) hqi
  · next hany =>
    rcases List.mem_append.1 hp with hp | hp
    · exact absurd (List.any_eq_true.2 ⟨p, hp, (beq_iff_eq.2 hi : (p.1 == inst) = true)⟩) hany
    · rw [List.mem_singleton.1 hp]

theorem Dev.sameJq_inc (d : Dev) (i el n : Nat) : Dev.SameJq d (d.inc i el n) := ⟨rfl, rfl⟩

theorem Dev.sameJq_multiShot (d : Dev) (ch w c : Nat) (g : GChan) : Dev.SameJq d (d.multiShot ch w c g).2 := by
  unfold Dev.multiShot
  extract_lets k taps base corr ps cs d1 ordered
  exact (Dev.sameJq_inc (i := O.EX_SIDELOBES) ..).trans (Dev.sameJq_inc ..)

theorem Dev.readout_reads {e : Env} {d : Dev} {ch inst : Nat} {par : Bool} {g : ExGroup}
    (hg : d.ex.groups.find? (fun p => p.2.closed && bit p.2.toRead ch) = some (inst, g))
    (hplace : bits g.toRead (ch / 64 * 64) (ch % 64) = 0) (hdue : g.closeAt + 128 * (tilePlace g.chans ch + 1) ≤ e.now) :
    Dev.SameJq d (d.readout e ch par) ∧ (d.readout e ch par).ReadOut ch inst := by
  unfold Dev.readout
  split
  · rename_i hnone; exact absurd (hnone.symm.trans hg) (by simp)
  rename_i inst' g' hsome
  obtain ⟨rfl, rfl⟩ : inst' = inst ∧ g' = g := by simpa using hsome.symm.trans hg
  rw [if_neg (by simp [hplace]; omega)]
  extract_lets x w r echoes d1 d2 left o wait rel x3 d3 x4 d4
  have hr : Dev.SameJq d r.2 := by
    unfold r
    split
    · exact .refl d
    · exact Dev.sameJq_multiShot ..
  have h2 : Dev.SameJq d1 d2 := .ite ⟨Dev.jq_log .., by rw [Dev.pwr_log]⟩ (.refl d1)
  have h3 : Dev.SameJq d d3 := ((hr.trans (⟨rfl, rfl⟩ : Dev.SameJq r.2 d1)).trans h2).trans ⟨rfl, rfl⟩
  have hbins : ∀ b, b < 4096 → tget 0 d3.ex.bins (binKey ch b) = 0 := fun b hb =>
    tget_tdrop_in _ _ (by simp [binKey]) (by simp [binKey]; omega)
  have h4 : Dev.SameJq d d4 ∧ d4.ReadOut ch inst' := by
    unfold d4
    split
    · refine ⟨h3.trans ⟨rfl, rfl⟩, hbins, fun p hp hi => ?_⟩
      simp [hi] at hp
    · refine ⟨h3.trans ⟨rfl, rfl⟩, hbins, fun p hp hi => ?_⟩
      rw [Dev.setGroup_groups hp hi]
      exact bit_setBit_false ..
  split
  · have hkeep := (Dev.aside_jobStep e d4 g'.serial []).trans (Dev.aside_publish _)
    exact ⟨h4.1.trans hkeep.same, h4.2.aside hkeep⟩
  · exact h4

section
variable {s : State}

theorem histogramReadoutDone_clears {ch inst : Nat} {par : Bool} {g : ExGroup} (hq : s.Quiet)
    (hg : s.dev.ex.groups.find? (fun p => p.2.closed && bit p.2.toRead ch) = some (inst, g))
    (hplace : bits g.toRead (ch / 64 * 64) (ch % 64) = 0) (hdue : g.closeAt + 128 * (tilePlace g.chans ch + 1) ≤ s.clock.time) :
    Leads (.histogramReadoutDone ch par) s (fun t => (∀ b, b < 4096 → tget 0 t.dev.ex.bins (binKey ch b) = 0) ∧
      (∀ p ∈ t.dev.ex.groups, p.1 = inst → bit p.2.toRead ch = false)) := by
  obtain ⟨hsame, hread⟩ := Dev.readout_reads (e := s.env) (d := s.begun) (par := par) hg hplace hdue
  have hflip := Dev.aside_tryFlip s.env (s.begun.readout s.env ch par)
  have hend := hread.aside hflip
  refine leads_ends (f := fun e d => d.histRead e ch par) _ hq rfl rfl ?_ ?_ fun t ht => ?_
  · exact (congrArg Jq.settle (hsame.trans hflip.same).jq).trans hq.1
  · exact (hsame.trans hflip.same).rstDue.trans hq.2.1
  · rw [ht.ex]; exact ⟨hend.bins, hend.groups⟩

/-! ### The ring cache and the sweep -/

/-- A block arrived: cached in its place, no longer wanted, its rings void where its answer is poisoned. -/
structure Dev.Arrived (blk : Nat) (d d' : Dev) : Prop where
  same : Dev.SameJq d d'
  cached : d'.cached blk = true
  wanted : d'.rl.wanted = d.rl.wanted.erase blk

theorem Dev.lateWrite_none {e : Env} {d : Dev} {blk : Nat} (h : ∀ l ∈ d.rl.late, blockOf l.ring ≠ blk) :
    d.lateWrite e blk = { d with rl := { d.rl with late := d.rl.late.filter (fun l => blockOf l.ring != blk) } } := by
  have hmine : d.rl.late.filter (fun l => blockOf l.ring == blk) = [] := List.filter_eq_nil_iff.2 fun l hl => by simpa using h l hl
  unfold Dev.lateWrite
  rw [hmine]
  rfl

theorem mem_ringsOf {blk r : Nat} (h : blockOf r = blk) : r ∈ ringsOf blk :=
  List.mem_map.2 ⟨r % 32, List.mem_range.2 (Nat.mod_lt _ (by decide)), by unfold blockOf at h; omega⟩

theorem Dev.blockArrive_arrives {e : Env} {d : Dev} {blk n : Nat} {p : Bool} {ecc : Option Nat} {out : Option Nat}
    (hwant : blk ∈ d.rl.wanted) (hen : d.ob O.RL_ENABLE = true) (hplace : d.cachePlace = some (n, out)) :
    Dev.Arrived blk d (d.blockArrive e blk p ecc) ∧ (p = true → (∀ l ∈ d.rl.late, blockOf l.ring ≠ blk) →
      ∀ r j, blockOf r = blk → j < 8 → 8 * r + j ∈ (d.blockArrive e blk p ecc).rl.voided) := by
  unfold Dev.blockArrive
  rw [if_neg (by simp [hwant, hen])]
  split
  · rename_i hnone; exact absurd (hnone.symm.trans hplace) (by simp)
  rename_i n' out' hsome
  obtain ⟨rfl, rfl⟩ : n' = n ∧ out' = out := by simpa using hsome.symm.trans hplace
  extract_lets d1 gone bad x2 d2 d3
  have h1 : Dev.Aside true d d1 := Dev.aside_memRd ..
  have hrl : d1.rl = d.rl := (Dev.onlyStore_memRd ..).rl
  have h3 : Dev.Aside true d2 d3 := .ite (Dev.aside_cacheEcc ..) (.refl d2)
  have h4 : Dev.Aside true d2 (d3.lateWrite e blk) := h3.trans (Dev.aside_lateWrite ..)
  refine ⟨⟨(h1.same.trans (⟨rfl, rfl⟩ : Dev.SameJq d1 d2)).trans h4.same, ?_, ?_⟩, fun hp hlate r j hr hj => ?_⟩
  · unfold Dev.cached
    rw [(h4.blocks rfl).1]
    exact List.any_eq_true.2 ⟨(blk, n'), List.mem_cons_self, beq_self_eq_true _⟩
  · rw [(h4.blocks rfl).2]
    show d1.rl.wanted.erase blk = _
    rw [hrl]
  · have hl2 : ∀ l ∈ d2.rl.late, blockOf l.ring ≠ blk := by
      show ∀ l ∈ d1.rl.late, _
      rw [hrl]; exact hlate
    have hd3 : d3 = d2 := if_neg (by simpa using hl2)
    rw [hd3, Dev.lateWrite_none hl2]
    refine List.mem_append_left _ (List.mem_flatMap.2 ⟨r, ?_, List.mem_map.2 ⟨j, List.mem_range.2 hj, rfl⟩⟩)
    exact List.mem_filter.2 ⟨mem_ringsOf hr, by simp [hp]⟩

theorem ringBlockArrival_caches {blk n : Nat} {p : Bool} {ecc out : Option Nat} (hq : s.Quiet) (hwant : blk ∈ s.dev.rl.wanted)
    (hen : s.dev.ob O.RL_ENABLE = true) (hplace : s.dev.cachePlace = some (n, out)) :
    Leads (.ringBlockArrival blk ⟨p, ecc⟩) s (fun t => t.dev.cached blk = true ∧ t.dev.rl.wanted = s.dev.rl.wanted.erase blk ∧
      (p = true → (∀ l ∈ s.dev.rl.late, blockOf l.ring ≠ blk) →
        ∀ r j, blockOf r = blk → j < 8 → 8 * r + j ∈ t.dev.rl.voided)) := by
  obtain ⟨h, hvoid⟩ := Dev.blockArrive_arrives (e := s.env) (d := s.begun) (p := p) (ecc := ecc) hwant hen hplace
  refine leads_ends (f := fun e d => d.blockArrive e blk p ecc) _ hq rfl rfl ?_ ?_ fun t ht => ⟨?_, ?_, ?_⟩
  · exact (congrArg Jq.settle h.same.jq).trans hq.1
  · exact h.same.rstDue.trans hq.2.1
  · unfold Dev.cached; rw [ht.rl]; exact h.cached
  · rw [ht.rl]; exact h.wanted
  · rw [ht.rl]; exact hvoid

theorem Dev.sameJq_rl (d : Dev) (r : Rl) : Dev.SameJq d { d with rl := r } := ⟨rfl, rfl⟩

/-- Traffic of the sweep: Ringlet's own state and the count of its passes stay. -/
structure Dev.Swept (d d' : Dev) : Prop where
  same : Dev.SameJq d d'
  rl : d'.rl = d.rl
  passes : d'.o O.RL_SWEEP_PASS = d.o O.RL_SWEEP_PASS

namespace Dev.Swept
variable {d d' d'' : Dev}

theorem refl (d : Dev) : Swept d d := ⟨.refl d, rfl, rfl⟩

theorem trans (h : Swept d d') (k : Swept d' d'') : Swept d d'' :=
  ⟨h.same.trans k.same, k.rl.trans h.rl, k.passes.trans h.passes⟩

theorem of_store (hs : Dev.OnlyStore d d') (ho : Dev.Spans O.MEM_STATE d d') : Swept d d' :=
  ⟨⟨ho.jq, ho.rstDue⟩, hs.rl, ho.o (by decide) (by decide) (by decide)⟩

theorem inc {i n : Nat} (hi : O.RL_SWEEP_PASS ≠ i) : Swept d (d.inc i 0 n) :=
  ⟨⟨rfl, rfl⟩, rfl, Dev.o_inc_other hi (by decide) (by decide)⟩

theorem foldl {α : Type} {f : Dev → α → Dev} (h : ∀ d x, Swept d (f d x)) (xs : List α) (d : Dev) : Swept d (xs.foldl f d) :=
  rel_foldl refl trans h xs d

end Dev.Swept

theorem Dev.swept_memWr (e : Env) (d : Dev) (req a : Nat) (bs : Bytes) : Dev.Swept d (d.memWr e req a bs) :=
  .of_store (Dev.onlyStore_memWr ..) (Dev.spans_memWr _ _ _ _ _ (Nat.le_refl _))

/-- One step of the sweep: a pass ends where it comes back to its first part. -/
structure Dev.SweepStepped (d d' : Dev) : Prop where
  same : Dev.SameJq d d'
  sweep : d'.rl.sweep = (d.rl.sweep + 1) % 32
  frame : d'.rl.sweepFrame = some (d.o O.RL_FRAME)
  pass : d.rl.sweep = 31 → d'.o O.RL_SWEEP_PASS = ctrAdd O.RL_SWEEP_PASS 0 (d.o O.RL_SWEEP_PASS) 1

/-- The sweep goes on to its next part. -/
def Dev.sweepOn (d : Dev) (f : Nat) : Dev :=
  let next := (d.rl.sweep + 1) % 32
  let d := if next == 0 then d.inc O.RL_SWEEP_PASS else d
  { d with rl := { d.rl with sweep := next, sweepFrame := some f } }

theorem Dev.sweepStepped_of_swept {d d3 : Dev} (h : Dev.Swept d d3) : Dev.SweepStepped d (d3.sweepOn (d.o O.RL_FRAME)) := by
  refine ⟨h.same.trans (Dev.SameJq.trans (.ite (Dev.sameJq_inc ..) (.refl d3)) (Dev.sameJq_rl ..)), ?_, rfl, fun h31 => ?_⟩
  · rw [← h.rl]; rfl
  · unfold Dev.sweepOn
    dsimp only
    have h0 : ((d3.rl.sweep + 1) % 32 == 0) = true := by rw [h.rl, h31]; rfl
    rw [if_pos h0]
    exact (Dev.o_inc_self ..).trans (by rw [h.passes])

theorem Dev.sweepStep_sweeps {e : Env} {d : Dev} (hjq : d.o O.JQ_STATE ≠ 0) (hst : d.o O.RL_STATE = 2) (hen : d.ob O.RL_ENABLE = true)
    (hf : d.rl.sweepFrame ≠ some (d.o O.RL_FRAME)) : Dev.SweepStepped d (d.sweepStep e) := by
  unfold Dev.sweepStep
  generalize ringAddr (16384 * d.rl.sweep) = first, ringAddr (16384 * (d.rl.sweep + 1)) = past
  extract_lets +onlyGivenNames f lo hi bad d1 slots word dead d2 mine d3
  rw [if_neg (by simp [hjq, hst, hen, hf, f])]
  have h1 : Dev.Swept d d1 := (Dev.Swept.of_store (Dev.onlyStore_memRd ..) (Dev.spans_memRd ..)).trans
    (.foldl (fun d b => (Dev.Swept.inc (by decide)).trans (Dev.swept_memWr ..)) _ _)
  have h2 : Dev.Swept d1 d2 := .inc (by decide)
  have h3 : Dev.Swept d d3 := (h1.trans h2).trans (.foldl (fun d r => Dev.swept_memWr ..) _ _)
  exact Dev.sweepStepped_of_swept h3

theorem ringletSweep_advances (hq : s.Quiet) (hjq : s.dev.o O.JQ_STATE ≠ 0) (hst : s.dev.o O.RL_STATE = 2)
    (hen : s.dev.ob O.RL_ENABLE = true) (hf : s.dev.rl.sweepFrame ≠ some (s.dev.o O.RL_FRAME)) :
    Leads .ringletSweep s (fun t => t.dev.rl.sweep = (s.dev.rl.sweep + 1) % 32 ∧
      t.dev.rl.sweepFrame = some (s.dev.o O.RL_FRAME) ∧
      (s.dev.rl.sweep = 31 → t.dev.o O.RL_SWEEP_PASS = ctrAdd O.RL_SWEEP_PASS 0 (s.dev.o O.RL_SWEEP_PASS) 1)) := by
  obtain ⟨hsame, hsweep, hframe, hpass⟩ := Dev.sweepStep_sweeps (e := s.env) (d := s.begun) hjq hst hen hf
  refine leads_ends (f := fun e d => d.sweepStep e) _ hq rfl rfl ?_ ?_ fun t ht => ?_
  · exact (congrArg Jq.settle hsame.jq).trans hq.1
  · exact hsame.rstDue.trans hq.2.1
  · rw [ht.rl, ht.o]; exact ⟨hsweep, hframe, hpass⟩

/-! ### Generation steps -/

theorem Dev.o_genStep (d : Dev) : d.genStep.o O.RL_GEN = if (d.o O.RL_GEN + 1) % 256 = 0xA5 then 0xA6 else (d.o O.RL_GEN + 1) % 256 := by
  unfold Dev.genStep
  rw [Dev.o_so_self]
  simp only [beq_iff_eq]

theorem rlReset_steps {h : Hdr} (hq : s.Quiet) (ha : Accepts s h O.RL_RESET 0 1) (hjq : s.dev.o O.JQ_STATE = 0) :
    Leads (.rlReset h) s (fun t => t.dev.o O.RL_GEN =
      if (s.dev.o O.RL_GEN + 1) % 256 = 0xA5 then 0xA6 else (s.dev.o O.RL_GEN + 1) % 256) := by
  have hland : s.landed h O.RL_RESET 0 1 = ((s.atRequest h.sess).shadowOff (okey O.RL_RESET 0)).genStep := rfl
  refine leads_writeNow rfl ha rfl (.inr hjq) (by decide) (by decide) (by decide) (by decide) ?_ ?_ fun t ht => ?_
  · rw [hland]; exact (congrArg Jq.settle (State.jq_atRequest ..)).trans hq.1
  · rw [hland]; exact (congrArg Pwr.rstDue (State.pwr_atRequest ..)).trans hq.2.1
  · rw [ht.o (by decide) (by decide), hland, Dev.o_genStep, Dev.o_shadowOff, State.o_atRequest]

theorem rlReset_waits {h : Hdr} (hq : s.Quiet) (ha : Accepts s h O.RL_RESET 0 1) (hjq : s.dev.o O.JQ_STATE ≠ 0) :
    Leads (.rlReset h) s (fun t => t.dev.o O.RL_GEN = s.dev.o O.RL_GEN ∧ tget none t.dev.shadows (okey O.RL_RESET 0) = some 1) :=
  leads_waits (r := ⟨O.RL_RESET, [(0, 0)], .u8, .wo, .frame, false, 0, [(1, 1)], 0, 0⟩) rfl hq rfl (by decide) (by decide) (by decide) (by decide)
    (by decide) hjq ha fun _ hsh ho => ⟨ho _ _ (by decide) (by decide), hsh⟩

theorem leads_rlGeometry {h : Hdr} {v : Nat} {P : State → Prop} (hq : s.Quiet) (ha : Accepts s h O.RL_GEOMETRY 0 v)
    (hP : ∀ t : State, (∀ i, i ∉ answerIdx → t.dev.o i = (((s.atRequest h.sess).shadowOff (okey O.RL_GEOMETRY 0)).geometry v).o i) → P t) :
    Leads (.rlGeometry h v) s P := by
  have hland : s.landed h O.RL_GEOMETRY 0 v = ((s.atRequest h.sess).shadowOff (okey O.RL_GEOMETRY 0)).geometry v := rfl
  have hkeep : ∀ d : Dev, Dev.SameJq d (d.geometry v) := fun d => .ite (.refl d) ⟨rfl, rfl⟩
  refine leads_landed rfl ha (by decide) ?_ ?_ fun t ht => hP t fun i hi => ?_
  · rw [hland, (hkeep _).jq]; exact (congrArg Jq.settle (State.jq_atRequest ..)).trans hq.1
  · rw [hland, (hkeep _).rstDue]; exact (congrArg Pwr.rstDue (State.pwr_atRequest ..)).trans hq.2.1
  · rw [← hland]; exact ht.o hi (by decide)

theorem rlGeometry_steps {h : Hdr} {v : Nat} (hq : s.Quiet) (ha : Accepts s h O.RL_GEOMETRY 0 v) (hne : v ≠ s.dev.o O.RL_GEOMETRY) :
    Leads (.rlGeometry h v) s (fun t => t.dev.o O.RL_GEOMETRY = v ∧ t.dev.o O.RL_GEN =
      if (s.dev.o O.RL_GEN + 1) % 256 = 0xA5 then 0xA6 else (s.dev.o O.RL_GEN + 1) % 256) := by
  refine leads_rlGeometry hq ha fun t ht => ?_
  rw [Dev.geometry, if_neg (by rw [Dev.o_shadowOff, State.o_atRequest]; simpa using hne)] at ht
  refine ⟨?_, ?_⟩
  · rw [ht _ (by decide), Dev.genStep, Dev.o_so_other (by decide) (by decide) (by decide), Dev.o_so_self]
  · rw [ht _ (by decide), Dev.o_genStep, Dev.o_so_other (by decide) (by decide) (by decide), Dev.o_shadowOff, State.o_atRequest]

theorem rlGeometry_same {h : Hdr} (hq : s.Quiet) (ha : Accepts s h O.RL_GEOMETRY 0 (s.dev.o O.RL_GEOMETRY)) :
    Leads (.rlGeometry h (s.dev.o O.RL_GEOMETRY)) s (fun t => t.dev.o O.RL_GEN = s.dev.o O.RL_GEN) := by
  refine leads_rlGeometry hq ha fun t ht => ?_
  rw [Dev.geometry, if_pos (by rw [Dev.o_shadowOff, State.o_atRequest]; exact beq_self_eq_true _)] at ht
  rw [ht _ (by decide), Dev.o_shadowOff, State.o_atRequest]

end

/-! ### The ring region cleared -/

/-- An address holds zero whatever its channel has been through: nothing undefined covers it. -/
def Dev.Blank (d : Dev) (a : Nat) : Prop := (∀ p ∈ d.mem.undef, ¬ (p.1 ≤ a ∧ a < p.2.1)) ∧ tget 0 d.gddr a = 0

theorem Dev.Blank.gByte {d : Dev} {a : Nat} (h : d.Blank a) : d.gByte a = 0 := by
  have hnone : d.mem.undef.find? (fun p => p.1 ≤ a && a < p.2.1) = none :=
    List.find?_eq_none.2 fun p hp => by simpa using h.1 p hp
  unfold Dev.gByte
  rw [hnone]
  exact h.2

theorem Dev.Blank.congr {d d' : Dev} {a : Nat} (h : d.Blank a) (hu : d'.mem.undef = d.mem.undef) (hg : d'.gddr = d.gddr) : d'.Blank a := by
  unfold Dev.Blank
  rw [hu, hg]
  exact h

theorem mem_cutOut {l : List (Nat × Nat × Nat)} {lo hi a : Nat} {p : Nat × Nat × Nat} (hp : p ∈ cutOut l lo hi) (h1 : p.1 ≤ a) (h2 : a < p.2.1) :
    (a < lo ∨ hi ≤ a) ∧ ∃ q ∈ l, q.1 ≤ a ∧ a < q.2.1 := by
  obtain ⟨q, hq, hp⟩ := List.mem_flatMap.1 hp
  rcases List.mem_append.1 hp with hp | hp
  · split at hp
    · rw [List.mem_singleton.1 hp] at h1 h2
      simp only [lt_min_iff] at h1 h2
      exact ⟨.inl h2.2, q, hq, h1, h2.1⟩
    · simp at hp
  · split at hp
    · rw [List.mem_singleton.1 hp] at h1 h2
      simp only [max_le_iff] at h1 h2
      exact ⟨.inr h1.2, q, hq, h1.1, h2⟩
    · simp at hp

theorem Dev.Blank.gZero {d : Dev} {a lo n : Nat} (h : d.Blank a) : (d.gZero lo n).Blank a := by
  refine ⟨fun p hp hcov => ?_, ?_⟩
  · obtain ⟨-, q, hq, hcov'⟩ := mem_cutOut hp hcov.1 hcov.2
    exact h.1 q hq hcov'
  · show tget 0 (tdrop d.gddr lo n) a = 0
    by_cases hin : lo ≤ a ∧ a < lo + n
    · exact tget_tdrop_in _ _ hin.1 hin.2
    · rw [tget_tdrop_out _ _ (by omega)]; exact h.2

theorem Dev.blank_gZero {d : Dev} {a lo n : Nat} (h1 : lo ≤ a) (h2 : a < lo + n) : (d.gZero lo n).Blank a :=
  ⟨fun p hp hcov => by
    rcases (mem_cutOut hp hcov.1 hcov.2).1 with h | h
    · omega
    · omega, tget_tdrop_in _ _ h1 h2⟩

/-- Counts of writes leave the bytes, the channels' states and the fit. -/
structure Dev.Counted (d d' : Dev) : Prop where
  same : Dev.SameJq d d'
  rl : d'.rl = d.rl
  o : ∀ i el, O.JQ_RUN ≤ i → i ≤ O.MEM_CH_STATE → el < 4096 → d'.o i el = d.o i el
  found : d'.found = d.found

theorem Dev.Counted.trans {d d' d'' : Dev} (h : Dev.Counted d d') (k : Dev.Counted d' d'') : Dev.Counted d d'' :=
  ⟨h.same.trans k.same, k.rl.trans h.rl, fun i el hlo hhi hel => (k.o i el hlo hhi hel).trans (h.o i el hlo hhi hel), k.found.trans h.found⟩

theorem Dev.Counted.of_objs {d d' : Dev} (hs : Dev.SameJq d d') (hrl : d'.rl = d.rl) (ho : d'.objs = d.objs) : Dev.Counted d d' :=
  ⟨hs, hrl, fun _ _ _ _ _ => Dev.o_congr ho _ _, Dev.o_congr ho _ _⟩

theorem Dev.counted_so {d : Dev} {i el v : Nat} (hi : O.MEM_CH_STATE < i) : Dev.Counted d (d.so i el v) :=
  ⟨⟨rfl, rfl⟩, rfl, fun _ _ _ hhi _ => Dev.o_so_key (by simp only [okey]; omega),
    Dev.o_so_key (by simp only [okey, O.CAP_GDDR7_FOUND, O.MEM_CH_STATE] at *; omega)⟩

theorem Dev.counted_wrCount (d : Dev) (a n blk : Nat) : Dev.Counted d (d.wrCount a n blk) ∧
    (d.wrCount a n blk).mem.undef = d.mem.undef := by
  have htwo : Dev.Counted d ((d.inc O.MEM_CH_WR_BYTES (d.chanOf (blk * 256)) (atomBytes a n blk)).inc O.MEM_CH_RMW
      (d.chanOf (blk * 256)) (partAtoms a n blk)) := (Dev.counted_so (by decide)).trans (Dev.counted_so (by decide))
  unfold Dev.wrCount
  dsimp only
  split
  · refine ⟨htwo.trans (Dev.Counted.trans ?_ (Dev.counted_so (by decide))), rfl⟩
    exact .of_objs ⟨rfl, rfl⟩ rfl rfl
  · exact ⟨htwo, rfl⟩

theorem Dev.Counted.chOffline {d d' : Dev} (h : Dev.Counted d d') (a : Nat) :
    d'.chOffline (d'.chanOf a) = d.chOffline (d.chanOf a) := by
  have hch : d.chanOf a < 4096 := by
    unfold Dev.chanOf bits
    split <;> omega
  have hsame : d'.chanOf a = d.chanOf a := by unfold Dev.chanOf; rw [h.found]
  unfold Dev.chOffline
  rw [hsame, h.o _ _ (by decide) (by decide) hch]

theorem Dev.counted_zeroBlock (d : Dev) (a n blk : Nat) : Dev.Counted d (d.zeroBlock a n blk) := by
  unfold Dev.zeroBlock
  refine Dev.Counted.trans ?_ (Dev.counted_wrCount ..).1
  split
  · exact .of_objs ⟨rfl, rfl⟩ rfl rfl
  · exact .of_objs ⟨rfl, rfl⟩ rfl rfl

theorem Dev.Blank.zeroBlock {d : Dev} {x a n blk : Nat} (h : d.Blank x) : (d.zeroBlock a n blk).Blank x := by
  unfold Dev.zeroBlock
  refine Dev.Blank.congr ?_ (Dev.counted_wrCount ..).2 (Dev.gddr_wrCount ..)
  split
  · exact h
  · exact h.gZero

theorem Dev.blank_zeroBlock {d : Dev} {x a n : Nat} (h1 : a ≤ x) (h2 : x < a + n) (hoff : d.chOffline (d.chanOf x) = false) :
    (d.zeroBlock a n (x / 256)).Blank x := by
  have hch : d.chanOf (256 * (x / 256)) = d.chanOf x := by
    unfold Dev.chanOf bits
    split
    · simp only [Nat.shiftRight_eq_div_pow]; omega
    · simp only [Nat.shiftRight_eq_div_pow]; omega
  unfold Dev.zeroBlock
  refine Dev.Blank.congr ?_ (Dev.counted_wrCount ..).2 (Dev.gddr_wrCount ..)
  rw [hch, hoff, if_neg (by decide)]
  exact Dev.blank_gZero (by omega) (by omega)

theorem mem_blocksOf {a n x : Nat} (h1 : a ≤ x) (h2 : x < a + n) : x / 256 ∈ blocksOf a n := by
  unfold blocksOf
  rw [if_neg (by simp; omega)]
  exact List.mem_map.2 ⟨x / 256 - a / 256, List.mem_range.2 (by omega), by omega⟩

theorem Dev.counted_memZero (d : Dev) (a n : Nat) : Dev.Counted d (d.memZero a n) :=
  rel_foldl (fun d => Dev.Counted.of_objs (d := d) (.refl d) rfl rfl) (fun h k => Dev.Counted.trans h k) (fun d b => Dev.counted_zeroBlock d a n b) _ d

theorem Dev.Blank.memZero {d : Dev} {x : Nat} (h : d.Blank x) (a n : Nat) : (d.memZero a n).Blank x :=
  List.foldlRecOn _ _ (motive := fun d => Dev.Blank d x) h fun _ hd _ _ => hd.zeroBlock

theorem Dev.blank_memZero {d : Dev} {x a n : Nat} (h1 : a ≤ x) (h2 : x < a + n) (hoff : d.chOffline (d.chanOf x) = false) :
    (d.memZero a n).Blank x := by
  have hgo : ∀ (bs : List Nat) (d : Dev), x / 256 ∈ bs → d.chOffline (d.chanOf x) = false →
      (bs.foldl (fun d b => d.zeroBlock a n b) d).Blank x := by
    intro bs
    induction bs with
    | nil => exact fun _ h => absurd h List.not_mem_nil
    | cons b bs ih =>
      intro d hb hoff
      rw [List.foldl_cons]
      by_cases hx : x / 256 = b
      · subst hx
        exact List.foldlRecOn _ _ (motive := fun d => Dev.Blank d x) (Dev.blank_zeroBlock h1 h2 hoff) fun _ hd _ _ => hd.zeroBlock
      · refine ih _ ((List.mem_cons.1 hb).resolve_left hx) ?_
        rw [(Dev.counted_zeroBlock ..).chOffline]; exact hoff
  exact hgo _ d (mem_blocksOf h1 h2) hoff

/-! ### Start-up goes on -/

/-- The lanes, their domains, the phase of start-up and the training of memory may have moved; the bytes of GDDR7 and Ringlet have
not. -/
structure Dev.Onward (d d' : Dev) : Prop where
  same : Dev.SameJq d d'
  gddr : d'.gddr = d.gddr
  undef : d'.mem.undef = d.mem.undef
  state : d'.o O.RL_STATE = d.o O.RL_STATE

namespace Dev.Onward
variable {d d' d'' : Dev}

theorem refl (d : Dev) : Onward d d := ⟨.refl d, rfl, rfl, rfl⟩

theorem trans (h : Onward d d') (k : Onward d' d'') : Onward d d'' :=
  ⟨h.same.trans k.same, k.gddr.trans h.gddr, k.undef.trans h.undef, k.state.trans h.state⟩

theorem ite {p : Prop} [Decidable p] {a b : Dev} (ha : Onward d a) (hb : Onward d b) : Onward d (if p then a else b) := by
  split
  · exact ha
  · exact hb

theorem foldl {α : Type} {f : Dev → α → Dev} (h : ∀ d x, Onward d (f d x)) (xs : List α) (d : Dev) : Onward d (xs.foldl f d) :=
  rel_foldl refl trans h xs d

theorem of_parts (hs : Dev.SameJq d d') (hg : d'.gddr = d.gddr) (hu : d'.mem.undef = d.mem.undef) (ho : d'.objs = d.objs) : Onward d d' :=
  ⟨hs, hg, hu, Dev.o_congr ho _ _⟩

theorem so {i el v : Nat} (hi : O.RL_STATE < i ∨ i ≠ O.RL_STATE ∧ el < 4096) : Onward d (d.so i el v) := by
  refine ⟨⟨rfl, rfl⟩, rfl, rfl, ?_⟩
  rcases hi with hi | ⟨hi, hel⟩
  · exact Dev.o_so_key (by simp only [okey]; omega)
  · exact Dev.o_so_other hi.symm hel (by decide)

theorem inc {i el n : Nat} (hi : O.RL_STATE < i ∨ i ≠ O.RL_STATE ∧ el < 4096) : Onward d (d.inc i el n) := so hi

theorem domSet {e : Env} {n : Nat} {on : Bool} (hn : n < 4096) : Onward d (d.domSet e n on) := by
  have h := Dev.switched_domSet e d n on
  refine ⟨⟨?_, ?_⟩, ?_, ?_, (Dev.frame_domSet hn).o (by decide) (by decide)⟩ <;> rw [h]

end Dev.Onward

theorem Dev.onward_link (d : Dev) (l : Link) : Dev.Onward d { d with link := l } := .of_parts ⟨rfl, rfl⟩ rfl rfl rfl

theorem Dev.onward_prbsCount (e : Env) (d : Dev) (l : Nat) : Dev.Onward d (d.prbsCount e l) := by
  have hinc : Dev.Onward d (d.inc O.PRBS_BITS l (d.prbsNew e l)) := .inc (.inl (by decide))
  exact .ite (hinc.trans (Dev.onward_link ..)) (.refl d)

theorem Dev.onward_laneTestOff (e : Env) (d : Dev) (l : Nat) : Dev.Onward d (d.laneTestOff e l) := by
  have hso : ∀ (d : Dev) i, O.RL_STATE < i → Dev.Onward d (d.so i l 0) := fun d i hi => .so (.inl hi)
  unfold Dev.laneTestOff
  extract_lets d1
  have h1 : Dev.Onward d d1 := ((Dev.onward_prbsCount e d l).trans (hso _ O.PRBS_CHK (by decide))).trans (hso _ O.PRBS_SYNC (by decide))
  exact .ite ((h1.trans (hso _ O.PRBS_GEN (by decide))).trans (hso _ O.INJ_GO (by decide))) h1

theorem Dev.onward_startTrain (e : Env) (d : Dev) : Dev.Onward d (d.startTrain e) := by
  have hlane : ∀ (d : Dev) l, Dev.Onward d ((d.laneTestOff e l).so O.LANE_STATE l 1) := fun d l =>
    (Dev.onward_laneTestOff e d l).trans (.so (.inl (by decide)))
  have hoff : ∀ (d : Dev) l, Dev.Onward d (if d.o O.LANE_STATE l == 6 then d else d.so O.LANE_STATE l 0) := fun d l =>
    .ite (.refl d) (.so (.inl (by decide)))
  have hsend : ∀ (d : Dev) tx rx al lo, Dev.Onward d (d.sendTrain e tx rx al lo) := fun d tx rx al lo => .of_parts ⟨rfl, rfl⟩ rfl rfl rfl
  unfold Dev.startTrain
  extract_lets tx rx lanes d1 d2 d3 d4 d5 l6 d6
  have h2 : Dev.Onward d d2 := (Dev.Onward.foldl hlane lanes d).trans (.foldl hoff _ d1)
  have h3 : Dev.Onward d2 d3 := by
    refine List.foldlRecOn _ _ (motive := Dev.Onward d2) (.refl d2) fun x hx l hl => hx.trans (.domSet ?_)
    have := List.mem_range.1 hl
    omega
  have h4 : Dev.Onward d3 d4 := .domSet (by decide)
  have h5 : Dev.Onward d4 d5 := ((Dev.Onward.so (.inl (by decide))).trans (.so (.inl (by decide)))).trans (.so (.inl (by decide)))
  exact ((((h2.trans h3).trans h4).trans h5).trans (Dev.onward_link ..)).trans (hsend ..)

theorem Dev.onward_linkEnable (e : Env) (d : Dev) : Dev.Onward d (d.linkEnable e) := .ite (Dev.onward_startTrain e d) (.refl d)

theorem Dev.onward_phase (e : Env) (d : Dev) (p : Nat) : Dev.Onward d (d.phase e p) := by
  unfold Dev.phase
  extract_lets s d1 d2 p2
  have h1 : Dev.Onward d d1 := by
    unfold d1
    split
    · next hs => exact .so (.inr ⟨by decide, by omega⟩)
    · exact .refl d
  have h2 : Dev.Onward d1 d2 := .so (.inr (by decide))
  exact (h1.trans h2).trans (.of_parts ⟨rfl, rfl⟩ rfl rfl rfl)

theorem Dev.onward_trainStart (e : Env) (d : Dev) (st : Nat) : Dev.Onward d (d.trainStart e st) := by
  have hdom : ∀ (d : Dev) n, n < 4096 → Dev.Onward d (d.domOn e n) := fun d n hn => Dev.Onward.domSet (on := true) hn
  unfold Dev.trainStart
  extract_lets d1 d2
  have h2 : Dev.Onward d d2 := (hdom d 80 (by decide)).trans (.ite (hdom d1 81 (by decide)) (.refl d1))
  exact h2.trans ((Dev.Onward.so (.inl (by decide))).trans (.of_parts ⟨rfl, rfl⟩ rfl rfl rfl))

theorem Dev.onward_suStep (e : Env) (d : Dev) : Dev.Onward d (d.suStep e) := by
  have hlink : Dev.Onward d ((d.phase e 5).linkEnable e) := (Dev.onward_phase ..).trans (Dev.onward_linkEnable ..)
  exact .ite ((Dev.onward_phase ..).trans (Dev.onward_trainStart ..)) (.ite hlink (.ite hlink (.refl d)))

theorem Dev.ringCleared_eq {d : Dev} (hst : d.o O.RL_STATE = 1) : ∃ d', Dev.Counted d d' ∧
    (∀ a, ringBase ≤ a → a < ringBase + ringSize → d.chOffline (d.chanOf a) = false → d'.Blank a) ∧
    d.ringCleared = d'.so O.RL_STATE 0 2 :=
  ⟨(d.memZero ringBase ringSize).memZero mapBase mapSize, (Dev.counted_memZero ..).trans (Dev.counted_memZero ..),
    fun _ h1 h2 hoff => (Dev.blank_memZero h1 h2 hoff).memZero .., if_pos (beq_iff_eq.2 hst)⟩

section
variable {s : State}

theorem ringletClearDone_clears (hq : s.Quiet) (hst : s.dev.o O.RL_STATE = 1) :
    Leads .ringletClearDone s (fun t => t.dev.o O.RL_STATE = 2 ∧
      ∀ a, ringBase ≤ a → a < ringBase + ringSize → s.dev.chOffline (s.dev.chanOf a) = false → t.dev.gByte a = 0) := by
  obtain ⟨d, hkeep, hblank, hclear⟩ := Dev.ringCleared_eq (d := s.begun) hst
  have hrun : s.begun.clearDone s.env = (d.so O.RL_STATE 0 2).suStep s.env := congrArg (Dev.suStep s.env) hclear
  have hon := Dev.onward_suStep s.env (d.so O.RL_STATE 0 2)
  refine leads_ends (f := fun e d => d.clearDone e) _ hq rfl hrun ?_ ?_ fun t ht => ⟨?_, fun a h1 h2 hoff => ?_⟩
  · rw [hon.same.jq]; exact (congrArg Jq.settle hkeep.same.jq).trans hq.1
  · rw [hon.same.rstDue]; exact hkeep.same.rstDue.trans hq.2.1
  · rw [ht.o, hon.state, Dev.o_so_self]
  · exact ((hblank a h1 h2 hoff).congr (by rw [ht.mem, hon.undef]; rfl) (by rw [ht.gddr, hon.gddr]; rfl)).gByte

end

/-- Settles O29. -/
theorem extractionAndRinglet : Obligations.ExtractionAndRinglet :=
  ⟨fun _ hq => ⟨fun _ _ _ _ _ hg hplace hdue => histogramReadoutDone_clears hq hg hplace hdue, shotHeaderPacketTimeout_closes hq,
      fun _ _ _ => echoClassify_counts hq⟩,
    fun _ hq => ⟨fun _ _ _ _ _ => ringBlockArrival_caches hq, ringletSweep_advances hq⟩,
    fun _ _ hq => ⟨rlReset_steps hq, rlReset_waits hq, fun _ => rlGeometry_steps hq, rlGeometry_same hq, ringletClearDone_clears hq⟩⟩

end Sys2Proof.Machine
end

section
/-! PROOF. A synchronisation of a chain that the part does not have (chapter 10). -/

namespace Sys2Proof.Machine

/-- A JG5122, which has 16 digitiser slices, with slice 20 READY. -/
def absentChainState : State :=
  { stateAt (readyDev.so O.DG_STATE 20 2) with part := { partAtReset with variant := .jg5122 } }

theorem absentChainState_quiet : absentChainState.Quiet := by
  unfold State.Quiet State.Still
  decide +kernel

theorem absentChainState_accepts : Accepts absentChainState farHdr O.FILT_SYNC 0 (2 ^ 20) := by
  unfold Accepts Served State.Still
  decide +kernel

/-- Refutes O30: the statement has FILT_SYNC synchronise every chain below 32 that takes samples, and no premise keeps the chain to
those of the part. In `absentChainState` the write of bit 20 leaves FILT_STATE of chain 20 at IDLE. -/
theorem not_digitisersAndFilters : ¬ Obligations.DigitisersAndFilters := by
  rintro ⟨-, h⟩
  obtain ⟨-, -, hsync, -⟩ := h absentChainState farHdr 20 absentChainState_quiet (by decide)
  have hend := (hsync (2 ^ 20) absentChainState_accepts).endsWith (p := fun t => t.dev.o O.FILT_STATE 20 == 0)
    fun t ⟨hon, _⟩ => beq_iff_eq.2 (hon (by decide +kernel) (by decide +kernel)).1
  exact absurd hend (by decide +kernel)

end Sys2Proof.Machine
end

section
/-! PROOF. A Skipper slice that fails its calibration while a change of serving slice waits for a channel that the part does not
have (chapter 11). -/

namespace Sys2Proof.Machine

/-- The channel past those of the part whose element of RX_SLICE_OF is kept where CAL_Q_FAILS keeps slice 512. -/
def strayPassChannel : Nat := (O.CAL_Q_FAILS - O.RX_SLICE_OF) * 4096 + 512

/-- The Skipper of receive group 0 serves position 0 for a calibration pass that measures all slices, and is itself measured; a
change to slice 5 waits for `strayPassChannel`. -/
def strayPassState : State :=
  stateAt (((readyDev.so O.RX_GROUP_STATE 0 3).so O.RX_SLICE_OF 0 512).setPass 0 (some { all := true, since := some 0 })
    |> fun d => { d with rx := { holder := [(0, 1)], switches := [{ chan := strayPassChannel, slice := 5 }] } })

theorem strayPassState_quiet : strayPassState.Quiet := by
  unfold State.Quiet State.Still
  decide +kernel

/-- A measurement with a zero offset beyond its limit (Table 11-4). -/
def badZero : CalMeas :=
  { zero := [100], ofs := [], gain := [], c1 := 0, c2 := 0, hits := [], dnl := 0, inl := 0, delay := [], resid := [] }

/-- Refutes O32: no premise keeps the pending changes of serving slice to channels of the part. In `strayPassState` the failed
Skipper's takeover returns, and the changes that wait land with it, Jacquard being STOPPED: the stray one leaves 5 in CAL_Q_FAILS
of slice 512, where the statement has 1. -/
theorem not_calibrationPasses : ¬ Obligations.CalibrationPasses := by
  intro h
  obtain ⟨-, -, hslice, -⟩ := h strayPassState 0 strayPassState_quiet (by decide)
  obtain ⟨-, hfail, -⟩ := hslice { all := true, since := some 0 } badZero 0 (by decide +kernel) rfl rfl rfl (by decide)
    (by decide +kernel) (by decide +kernel)
  have hend := (hfail rfl (by decide +kernel)).endsWith
    (p := fun t => t.dev.o O.CAL_Q_FAILS 512 == ctrAdd O.CAL_Q_FAILS 512 (strayPassState.dev.o O.CAL_Q_FAILS 512) 1)
    fun t ⟨hcount, _⟩ => beq_iff_eq.2 hcount
  exact absurd hend (by decide +kernel)

end Sys2Proof.Machine
end

section
/-! PROOF. A failed command/address retrain of a channel that the fit does not have (chapter 15). -/

namespace Sys2Proof.Machine

/-- One GDDR7 device is fitted, which has channels 0 to 3, while channel 4 retrains. -/
def strayRetrainState : State :=
  stateAt ((readyDev.so O.CAP_GDDR7_FOUND 0 1).so O.MEM_CH_STATE 4 2)

theorem strayRetrainState_quiet : strayRetrainState.Quiet := by
  unfold State.Quiet State.Still
  decide +kernel

/-- Refutes O44: no premise keeps the channel that retrains to those of the fit. A failed retrain takes the channel of its lowest
address, 256 times its number, OFFLINE; with one device fitted that address of channel 4 is of channel 0. -/
theorem not_memoryUpkeepAndErrors : ¬ Obligations.MemoryUpkeepAndErrors := by
  rintro ⟨-, -, h⟩
  have hend := (h strayRetrainState 4 false strayRetrainState_quiet (by decide) (by decide +kernel)).endsWith
    (p := fun t => t.dev.o O.MEM_CH_STATE 4 == 3) fun t ⟨hst, _⟩ => beq_iff_eq.2 hst
  exact absurd hend (by decide +kernel)

end Sys2Proof.Machine
end

section
/-! PROOF. What a command's own effect leaves for its end, and tests on a lane (chapter 14). -/

namespace Sys2Proof.Machine

/-! ### The end of a command -/

/-- An action leaves for the end of its command what it has found: a stop of Jacquard that settles, a software reset that waits. -/
structure Dev.Calm (d d' : Dev) : Prop where
  settle : d'.jq.settle = d.jq.settle
  rstDue : d'.pwr.rstDue = d.pwr.rstDue

namespace Dev.Calm
variable {d d' d'' : Dev}

theorem refl (d : Dev) : Calm d d := ⟨rfl, rfl⟩

theorem trans (h : Calm d d') (k : Calm d' d'') : Calm d d'' := ⟨k.settle.trans h.settle, k.rstDue.trans h.rstDue⟩

theorem of_same (h : SameJq d d') : Calm d d' := ⟨congrArg Jq.settle h.jq, h.rstDue⟩

theorem of_hm (h : HmFrom d d') : Calm d d' := ⟨h.quiet.1, congrArg Pwr.rstDue h.quiet.2⟩

theorem so (d : Dev) (i el v : Nat) : Calm d (d.so i el v) := ⟨rfl, rfl⟩

theorem sos (d : Dev) (l : List (Nat × Nat × Nat)) : Calm d (d.sos l) := by
  unfold Dev.sos
  exact rel_foldl refl trans (fun d p => so d p.1 p.2.1 p.2.2) l d

theorem inc (d : Dev) (i el n : Nat) : Calm d (d.inc i el n) := ⟨rfl, rfl⟩

theorem deliver (d : Dev) (en : Entry) : Calm d (d.deliver en) := by
  unfold Dev.deliver
  split
  · exact inc ..
  · exact ⟨rfl, rfl⟩

theorem log {e : Env} {code loc cls detail : Nat} {inj : Bool} (d : Dev) : Calm d (d.log e code loc cls detail inj) := deliver ..

theorem ite {p : Prop} [Decidable p] {a b : Dev} (ha : Calm d a) (hb : Calm d b) : Calm d (if p then a else b) := by
  split
  · exact ha
  · exact hb

theorem foldl {α : Type} {f : Dev → α → Dev} (h : ∀ d x, Calm d (f d x)) (xs : List α) (d : Dev) : Calm d (xs.foldl f d) :=
  rel_foldl refl trans h xs d

end Dev.Calm

/-- A command before which nothing falls due ends in its effect, where that leaves nothing for the command's end. -/
theorem leads_calm {c : Instr} {f : Env → Dev → Dev} {s : State} {P : State → Prop} (d : Dev) (hq : s.Quiet) (hc : exec c s = run f s)
    (hd : f s.env s.begun = d) (hk : Dev.Calm s.begun d) (hP : ∀ t, s.Ends d t → P t) : Leads c s P :=
  leads_ends d hq hc hd (hk.settle.trans hq.1) (hk.rstDue.trans hq.2.1) hP

/-! ### The device that an accepted write finds -/

/-- The device as the landing of an accepted write finds it. -/
def State.asked (s : State) (h : Hdr) (idx el : Nat) : Dev := (s.atRequest h.sess).shadowOff (okey idx el)

section
variable (s : State) (h : Hdr) (idx el : Nat)

theorem State.asked_eq : s.asked h idx el = { s.dev with
    sent := [], hm := (s.asked h idx el).hm, lock := (s.asked h idx el).lock, link := (s.asked h idx el).link,
    shadows := (s.asked h idx el).shadows } := by
  unfold State.asked Dev.shadowOff
  dsimp only
  rw [State.atRequest_eq]

@[simp] theorem State.o_asked (i x : Nat) : (s.asked h idx el).o i x = s.dev.o i x := State.o_atRequest ..
@[simp] theorem State.ob_asked (i x : Nat) : (s.asked h idx el).ob i x = s.dev.ob i x := congrArg (· != 0) (State.o_asked ..)
@[simp] theorem State.jq_asked : (s.asked h idx el).jq = s.dev.jq := by rw [State.asked_eq]
@[simp] theorem State.pwr_asked : (s.asked h idx el).pwr = s.dev.pwr := by rw [State.asked_eq]
@[simp] theorem State.acq_asked : (s.asked h idx el).acq = s.dev.acq := by rw [State.asked_eq]
@[simp] theorem State.atl_asked : (s.asked h idx el).atl = s.dev.atl := by rw [State.asked_eq]
@[simp] theorem State.cal_asked : (s.asked h idx el).cal = s.dev.cal := by rw [State.asked_eq]
@[simp] theorem State.mem_asked : (s.asked h idx el).mem = s.dev.mem := by rw [State.asked_eq]
@[simp] theorem State.hk_asked : (s.asked h idx el).hk = s.dev.hk := by rw [State.asked_eq]
@[simp] theorem State.flt_asked : (s.asked h idx el).flt = s.dev.flt := by rw [State.asked_eq]
@[simp] theorem State.flash_asked : (s.asked h idx el).flash = s.dev.flash := by rw [State.asked_eq]

end

/-- An accepted write that comes into force at once ends, answered, in what its landing makes of the device. -/
theorem leads_lands {c : Instr} {s : State} {h : Hdr} {idx el v : Nat} {P : State → Prop} (d : Dev) (hq : s.Quiet)
    (ha : Accepts s h idx el v) (hc : exec c s = write1 h idx el v s) (hl : landsAtOnce idx = true)
    (hd : (s.asked h idx el).landEl s.env h.sess idx el v = d) (hk : Dev.Calm (s.asked h idx el) d)
    (hP : ∀ t, s.Replied d t → P t) : Leads c s P := by
  subst hd
  refine leads_landed hc ha hl (hk.settle.trans ?_) (hk.rstDue.trans ?_) hP
  · rw [State.jq_asked]; exact hq.1
  · rw [State.pwr_asked]; exact hq.2.1

end Sys2Proof.Machine
end

section
/-! PROOF. Tests on a lane (chapter 14). -/

namespace Sys2Proof.Machine

section
variable {s : State} {h : Hdr} {n v : Nat}

/-! ### The sequence sent and checked -/

/-- A sequence is chosen only on a lane that is not in use (R751). -/
theorem Accepts.lane_free {idx : Nat} (ha : Accepts s h idx n v) (hidx : idx = O.PRBS_GEN ∨ idx = O.PRBS_CHK) (hv : v ≠ 0) :
    s.dev.laneInUse n = false := by
  have hbusy : (s.atRequest h.sess).busy s.env idx n v = none := ha.2.2.2.2.2.2.2.1
  have hb : (s.atRequest h.sess).busy s.env idx n v =
      if (v != 0 && (s.atRequest h.sess).laneInUse n) = true then some (10, 0) else none := by
    rcases hidx with rfl | rfl <;> rfl
  have huse : (s.atRequest h.sess).laneInUse n = s.dev.laneInUse n := by simp only [Dev.laneInUse, State.o_atRequest]
  rw [hb, huse] at hbusy
  by_contra hn
  simp [hv, hn] at hbusy

theorem Dev.laneInUse_congr {d d' : Dev} (hst : d'.o O.LANE_STATE n = d.o O.LANE_STATE n)
    (hlink : d'.o O.LINK_STATE = d.o O.LINK_STATE) : d'.laneInUse n = d.laneInUse n := by
  unfold Dev.laneInUse
  rw [hst, hlink]

theorem prbsGen_sends (hq : s.Quiet) (hn : n < 8) (hv : v ≠ 0) (ha : Accepts s h O.PRBS_GEN n v) :
    Leads (.prbsGen h n v) s (fun t => t.dev.o O.PRBS_GEN n = v ∧ t.dev.o O.LANE_STATE n = 6) := by
  have hfree : ((s.asked h O.PRBS_GEN n).so O.PRBS_GEN n v).laneInUse n = false := by
    rw [Dev.laneInUse_congr (Dev.o_so_other (by decide) (by omega) (by omega)) (Dev.o_so_other (by decide) (by omega) (by decide)),
      Dev.laneInUse_congr (State.o_asked ..) (State.o_asked ..), ha.lane_free (.inl rfl) hv]
  have hrun : (s.asked h O.PRBS_GEN n).prbsGen n v = ((s.asked h O.PRBS_GEN n).so O.PRBS_GEN n v).so O.LANE_STATE n 6 := by
    unfold Dev.prbsGen
    dsimp only
    rw [if_neg (by simp [hfree]), if_neg (by simp [hv])]
  refine leads_lands _ hq ha rfl (by decide) hrun ⟨rfl, rfl⟩ fun t ht => ⟨?_, ?_⟩
  · rw [ht.o (by decide) (by omega), Dev.o_so_other (by decide) (by omega) (by omega), Dev.o_so_self]
  · rw [ht.o (by decide) (by omega), Dev.o_so_self]

/-- The checker of a lane begun anew on a sequence (R748, R750). -/
def Dev.checkSet (d : Dev) (l v : Nat) : Dev :=
  (((d.so O.PRBS_CHK l v).so O.PRBS_BITS l 0).so O.PRBS_ERRS l 0).so O.PRBS_SYNC l 0

theorem Dev.frame_checkSet {d : Dev} {l : Nat} (hl : l < 4096) :
    Dev.Frame [O.PRBS_CHK, O.PRBS_BITS, O.PRBS_ERRS, O.PRBS_SYNC] d (d.checkSet l v) :=
  (((Dev.Frame.so hl (by simp)).trans (.so hl (by simp))).trans (.so hl (by simp))).trans (.so hl (by simp))

theorem prbsChk_begins (hq : s.Quiet) (hn : n < 10) (hv : v ≠ 0) (ha : Accepts s h O.PRBS_CHK n v) :
    Leads (.prbsChk h n v) s (fun t => t.dev.o O.PRBS_CHK n = v ∧ t.dev.o O.PRBS_BITS n = 0 ∧ t.dev.o O.PRBS_ERRS n = 0 ∧
      t.dev.o O.PRBS_SYNC n = 0 ∧ t.dev.o O.LANE_STATE n = 6) := by
  have hset := Dev.frame_checkSet (d := s.asked h O.PRBS_CHK n) (v := v) (l := n) (by omega)
  have hfree : ((s.asked h O.PRBS_CHK n).checkSet n v).laneInUse n = false := by
    rw [Dev.laneInUse_congr (hset.o (by omega) (by decide)) (hset.o (by decide) (by decide)),
      Dev.laneInUse_congr (State.o_asked ..) (State.o_asked ..), ha.lane_free (.inr rfl) hv]
  have hrun : (s.asked h O.PRBS_CHK n).prbsChk n v = ((s.asked h O.PRBS_CHK n).checkSet n v).so O.LANE_STATE n 6 := by
    show (if ((s.asked h O.PRBS_CHK n).checkSet n v).laneInUse n then _ else _) = _
    rw [if_neg (by simp [hfree]), if_neg (by simp [hv])]
    rfl
  have hso : ∀ {d : Dev} {i j x}, j ≠ i → (d.so i n x).o j n = d.o j n := fun hij => Dev.o_so_other hij (by omega) (by omega)
  refine leads_lands _ hq ha rfl (by decide) hrun ⟨rfl, rfl⟩ fun t ht => ⟨?_, ?_, ?_, ?_, ?_⟩ <;> rw [ht.o (by decide) (by omega)]
  · rw [hso (by decide), Dev.checkSet, hso (by decide), hso (by decide), hso (by decide), Dev.o_so_self]
  · rw [hso (by decide), Dev.checkSet, hso (by decide), hso (by decide), Dev.o_so_self]
  · rw [hso (by decide), Dev.checkSet, hso (by decide), Dev.o_so_self]
  · rw [hso (by decide), Dev.checkSet, Dev.o_so_self]
  · exact Dev.o_so_self ..

/-! ### Sync of the checker -/

theorem prbsSyncGain_syncs (hq : s.Quiet) (hn : n < 10) (hchk : s.dev.o O.PRBS_CHK n ≠ 0) (hsync : s.dev.o O.PRBS_SYNC n = 0)
    (hsame : 8 ≤ n ∨ s.dev.o O.PRBS_GEN n = s.dev.o O.PRBS_CHK n) :
    Leads (.prbsSyncGain n) s (fun t => t.dev.o O.PRBS_SYNC n = 1 ∧ tget 0 t.dev.link.prbsAt n = s.clock.time) := by
  refine leads_calm (f := fun e d => d.prbsGain e n) _ hq rfl (if_pos ?_) ⟨rfl, rfl⟩ fun t ht => ⟨?_, ?_⟩
  · simpa [hn, hchk, Dev.ob, hsync] using hsame
  · rw [ht.o]; exact Dev.o_so_self s.begun O.PRBS_SYNC n 1
  · rw [ht.link]; exact tget_tset_self ..

theorem le_foldl_add {α : Type} (f : α → Nat) (l : List α) (k : Nat) : k ≤ l.foldl (fun s p => s + f p) k := by
  induction l generalizing k with
  | nil => exact Nat.le_refl k
  | cons x l ih => exact Nat.le_trans (Nat.le_add_right k (f x)) (ih _)

/-- A sum along a list is at least its first term. -/
theorem lt_foldl_add_cons {α : Type} (f : α → Nat) (x : α) (l : List α) {k : Nat} (h : k < f x) :
    k < (x :: l).foldl (fun s p => s + f p) 0 :=
  Nat.lt_of_lt_of_le h (by simpa using le_foldl_add f l (0 + f x))

/-- A checker in sync counts its errors and drops sync with more than 32 of them (R749, R750). -/
theorem Dev.prbsLoss_drops {e : Env} {d : Dev} (hn : n < 10) (hsync : d.ob O.PRBS_SYNC n = true) (hv : 32 < v) :
    ∃ l, d.prbsLoss e n v = ({ ((d.prbsCount e n).inc O.PRBS_ERRS n v) with link := l } : Dev).so O.PRBS_SYNC n 0 := by
  unfold Dev.prbsLoss
  rw [if_pos (by simp [hn, hsync])]
  dsimp only
  rw [if_pos (lt_foldl_add_cons (fun p : Nat × Nat => p.2) (e.now, v) _ hv)]
  exact ⟨_, rfl⟩

theorem Dev.frame_prbsCount {e : Env} {d : Dev} (hn : n < 4096) : Dev.Frame [O.PRBS_BITS] d (d.prbsCount e n) := by
  unfold Dev.prbsCount
  split
  · exact (Dev.Frame.inc hn (by simp)).trans (.of_objs rfl)
  · exact .refl ..

theorem Dev.calm_prbsCount (e : Env) (d : Dev) (l : Nat) : Dev.Calm d (d.prbsCount e l) := by
  unfold Dev.prbsCount
  split
  · exact ⟨rfl, rfl⟩
  · exact .refl d

theorem prbsSyncLoss_drops (hq : s.Quiet) (hn : n < 10) (hsync : s.dev.o O.PRBS_SYNC n ≠ 0) (hv : 32 < v) :
    Leads (.prbsSyncLoss n v) s (fun t => t.dev.o O.PRBS_SYNC n = 0 ∧
      t.dev.o O.PRBS_ERRS n = ctrAdd O.PRBS_ERRS n (s.dev.o O.PRBS_ERRS n) v) := by
  obtain ⟨l, hrun⟩ := Dev.prbsLoss_drops (e := s.env) (d := s.begun) hn (bne_iff_ne.2 hsync) hv
  refine leads_calm (f := fun e d => d.prbsLoss e n v) _ hq rfl hrun
    ((Dev.calm_prbsCount s.env s.begun n).trans ⟨rfl, rfl⟩) fun t ht => ⟨?_, ?_⟩
  · rw [ht.o, Dev.o_so_self]
  · rw [ht.o, Dev.o_so_other (by decide) (by omega) (by omega)]
    refine (Dev.o_inc_self (s.begun.prbsCount s.env n) ..).trans ?_
    rw [(Dev.frame_prbsCount (by omega)).o (by omega) (by decide), State.o_begun]

/-! ### Injected errors -/

/-- An error of a kind on a lane that sends no sequence (R753). -/
theorem Dev.inject_counts {e : Env} {d : Dev} (hn : n < 4096) (hkind : d.o O.INJ_KIND n ≠ 0) (hgen : d.o O.PRBS_GEN n = 0) :
    Dev.Calm d (d.inject e n) ∧ tget 0 (d.inject e n).link.injAt n = e.now ∧
      Dev.Frame [O.LANE_DISP, O.LANE_CV] (d.inc O.INJ_COUNT n) (d.inject e n) := by
  unfold Dev.inject
  dsimp only
  rw [hgen, if_neg (by simp [hkind]), if_neg (by decide)]
  have hinj := tget_tset_self (0 : Nat) d.link.injAt n e.now
  have hinc : ∀ {i x} {d' : Dev}, i ∈ [O.LANE_DISP, O.LANE_CV] → d'.objs = (d.inc O.INJ_COUNT n).objs →
      Dev.Frame [O.LANE_DISP, O.LANE_CV] (d.inc O.INJ_COUNT n) (d'.inc i n x) :=
    fun hi ho => (Dev.Frame.of_objs ho).trans (.inc hn hi)
  split
  · exact ⟨⟨rfl, rfl⟩, hinj, hinc (by simp) rfl⟩
  · split
    · exact ⟨⟨rfl, rfl⟩, hinj, hinc (by simp) rfl⟩
    · exact ⟨⟨rfl, rfl⟩, hinj, hinc (by simp) rfl⟩

theorem injGoStart_injects (hq : s.Quiet) (hn : n < 8) (ha : Accepts s h O.INJ_GO n 1) (hper : s.dev.o O.INJ_PERIOD n = 0)
    (hkind : s.dev.o O.INJ_KIND n ≠ 0) (hgen : s.dev.o O.PRBS_GEN n = 0) :
    Leads (.injGoStart h n) s (fun t => t.dev.o O.INJ_GO n = 1 ∧
      t.dev.o O.INJ_COUNT n = ctrAdd O.INJ_COUNT n (s.dev.o O.INJ_COUNT n) 1) := by
  have hgo : ∀ i, i ≠ O.INJ_GO → ((s.asked h O.INJ_GO n).so O.INJ_GO n 1).o i n = s.dev.o i n := fun i hi => by
    rw [Dev.o_so_other hi (by omega) (by omega), State.o_asked]
  have hrun : (s.asked h O.INJ_GO n).injStart s.env n = ((s.asked h O.INJ_GO n).so O.INJ_GO n 1).inject s.env n := by
    unfold Dev.injStart
    dsimp only
    rw [hgo _ (by decide), hper, if_pos (by decide)]
  obtain ⟨hcalm, -, hframe⟩ := Dev.inject_counts (e := s.env) (d := (s.asked h O.INJ_GO n).so O.INJ_GO n 1) (n := n) (by omega)
    (by rw [hgo _ (by decide)]; exact hkind) (by rw [hgo _ (by decide)]; exact hgen)
  refine leads_lands _ hq ha rfl (by decide) hrun ⟨hcalm.settle, hcalm.rstDue⟩ fun t ht => ⟨?_, ?_⟩
  · rw [ht.o (by decide) (by omega), hframe.o (by omega) (by decide), Dev.o_inc_other (by decide) (by omega) (by omega), Dev.o_so_self]
  · rw [ht.o (by decide) (by omega), hframe.o (by omega) (by decide), Dev.o_inc_self, hgo _ (by decide)]

theorem injGoStart_waits (hq : s.Quiet) (hn : n < 8) (ha : Accepts s h O.INJ_GO n 1) (hper : s.dev.o O.INJ_PERIOD n ≠ 0) :
    Leads (.injGoStart h n) s (fun t => t.dev.o O.INJ_GO n = 1 ∧ tget 0 t.dev.link.injAt n = s.clock.time ∧
      t.dev.o O.INJ_COUNT n = s.dev.o O.INJ_COUNT n) := by
  have hgo : ∀ i, i ≠ O.INJ_GO → ((s.asked h O.INJ_GO n).so O.INJ_GO n 1).o i n = s.dev.o i n := fun i hi => by
    rw [Dev.o_so_other hi (by omega) (by omega), State.o_asked]
  obtain ⟨d, hd⟩ : ∃ d, d = (s.asked h O.INJ_GO n).so O.INJ_GO n 1 := ⟨_, rfl⟩
  have hrun : (s.asked h O.INJ_GO n).injStart s.env n =
      { d with link := { d.link with injAt := tset 0 d.link.injAt n s.env.now } } := by
    unfold Dev.injStart
    dsimp only
    rw [hgo _ (by decide), if_neg (by simpa using hper), hd]
  refine leads_lands _ hq ha rfl (by decide) hrun (hd ▸ ⟨rfl, rfl⟩) fun t ht => ⟨?_, ?_, ?_⟩
  · rw [ht.o (by decide) (by omega), hd]; exact Dev.o_so_self (s.asked h O.INJ_GO n) O.INJ_GO n 1
  · rw [ht.link]; exact tget_tset_self ..
  · rw [ht.o (by decide) (by omega), hd]; exact hgo _ (by decide)

theorem injGoStop_stops (hq : s.Quiet) (hn : n < 8) (ha : Accepts s h O.INJ_GO n 0) :
    Leads (.injGoStop h n) s (fun t => t.dev.o O.INJ_GO n = 0) := by
  have hrun : (s.asked h O.INJ_GO n).landEl s.env h.sess O.INJ_GO n 0 = (s.asked h O.INJ_GO n).so O.INJ_GO n 0 := rfl
  refine leads_lands _ hq ha rfl (by decide) hrun ⟨rfl, rfl⟩ fun t ht => ?_
  rw [ht.o (by decide) (by omega), Dev.o_so_self]

theorem injPeriodic_injects (hq : s.Quiet) (hn : n < 8) (hgo : s.dev.o O.INJ_GO n ≠ 0) (hper : s.dev.o O.INJ_PERIOD n ≠ 0)
    (hkind : s.dev.o O.INJ_KIND n ≠ 0) (hgen : s.dev.o O.PRBS_GEN n = 0)
    (hdue : tget 0 s.dev.link.injAt n + s.dev.colCycles (s.dev.o O.INJ_PERIOD n) ≤ s.clock.time) :
    Leads (.injPeriodic n) s (fun t => t.dev.o O.INJ_COUNT n = ctrAdd O.INJ_COUNT n (s.dev.o O.INJ_COUNT n) 1 ∧
      tget 0 t.dev.link.injAt n = s.clock.time) := by
  obtain ⟨hcalm, hat, hframe⟩ := Dev.inject_counts (e := s.env) (d := s.begun) (n := n) (by omega) hkind hgen
  refine leads_calm (f := fun e d => d.injPeriodic e n) (s.begun.inject s.env n) hq rfl (if_pos ?_) hcalm fun t ht => ⟨?_, ?_⟩
  · simp only [State.o_begun, Dev.ob, hn, hgo, hper, bne_iff_ne, ne_eq, not_false_eq_true, decide_true, Bool.true_and, Bool.and_eq_true,
      and_self, true_and]
    exact decide_eq_true hdue
  · rw [ht.o, hframe.o (by omega) (by decide), Dev.o_inc_self, State.o_begun]
  · rw [ht.link, hat]; rfl

/-- Settles O42. -/
theorem laneTests : Obligations.LaneTests :=
  fun _ _ _ _ hq => ⟨prbsGen_sends hq, prbsChk_begins hq, prbsSyncGain_syncs hq, prbsSyncLoss_drops hq,
    fun hn ha => ⟨injGoStart_injects hq hn ha, injGoStart_waits hq hn ha⟩, injGoStop_stops hq, injPeriodic_injects hq⟩

end

end Sys2Proof.Machine
end

section
/-! PROOF. VHV lockouts, power domains and the slow clock (chapter 17). -/

namespace Sys2Proof.Machine

/-! ### What the logger holds, and what a disarm would add -/

/-- The entries that the logger holds, with the one that Hawkmoth's disarm may still add. -/
def Dev.load (d : Dev) : Nat := d.flt.held.length + if d.o O.HM_STATE = 0 then 0 else 1

theorem Dev.held_le_load (d : Dev) : d.flt.held.length ≤ d.load := Nat.le_add_right ..

theorem Dev.load_le (d : Dev) : d.load ≤ d.flt.held.length + 1 := by
  unfold Dev.load
  split <;> omega

theorem Dev.load_congr {d d' : Dev} (hflt : d'.flt = d.flt) (hst : d'.o O.HM_STATE = d.o O.HM_STATE) : d'.load = d.load := by
  unfold Dev.load
  rw [hflt, hst]

theorem Dev.load_log (e : Env) (d : Dev) (code loc cls detail : Nat) (inj : Bool) :
    (d.log e code loc cls detail inj).load ≤ d.load + 1 := by
  have hlen := Dev.length_held_log e d code loc cls detail inj
  have hst : (d.log e code loc cls detail inj).o O.HM_STATE = d.o O.HM_STATE := Dev.o_log_other (by decide) (by decide)
  unfold Dev.load
  rw [hst]
  omega

/-- Hawkmoth logs its disarm once: it leaves no more to come than it has found. -/
theorem Dev.load_hmEval (e : Env) (d : Dev) : (d.hmEval e).load ≤ d.load := by
  rcases Dev.hmEval_cases e d with ⟨_, h⟩ | ⟨h0, c, inj, l, _, h⟩ | ⟨h2, _, _, h⟩ | ⟨h3, _, _, h⟩ | ⟨_, _, _, _, h⟩ <;> rw [h]
  · obtain ⟨hst, -⟩ := Dev.disarm_o e d c (causeClass c) inj
    have hlen : (d.disarm e c (causeClass c) inj).flt.held.length ≤ d.flt.held.length + 1 := Dev.length_held_log ..
    unfold Dev.load
    rw [hst, if_pos rfl, if_neg h0]
    exact hlen
  · have hst : ((d.so O.HM_STATE 0 3).inc O.HM_INHIBITS).cutDrive.o O.HM_STATE = 3 := by
      rw [Dev.o_cutDrive, Dev.o_inc_other (by decide) (by decide) (by decide), Dev.o_so_self]
    unfold Dev.load
    rw [hst, h2]
    exact Nat.le_refl _
  · unfold Dev.load
    rw [Dev.o_so_self, h3]
    exact Nat.le_refl _

/-! ### Outputs turned off -/

/-- The objects that turning outputs off may change. -/
def offIdx : List Nat := hmIdx ++ [O.ATL_STATE, O.ATL_CLEAN_MS, O.ATL_COIL_STATUS, O.RX_BIAS_STATUS]

/-- A step that turns outputs off and lets Hawkmoth evaluate: it turns none on, and logs a disarm at most. -/
structure Dev.Withdraws (d d' : Dev) : Prop where
  frame : Dev.Frame offIdx d d'
  settle : d'.jq.settle = d.jq.settle
  pwr : d'.pwr = d.pwr
  vhvMv : d'.em.vhvMv = d.em.vhvMv
  closed : d.em.closed = 0 → d'.em.closed = 0
  vhvLow : d.rx.vhvLow = true → d'.rx.vhvLow = true
  bias : ∀ b, b < 8 → d'.o O.RX_BIAS_STATUS b = d.o O.RX_BIAS_STATUS b ∨ d'.o O.RX_BIAS_STATUS b = 0
  load : d'.load ≤ d.load

namespace Dev.Withdraws
variable {d d' d'' : Dev}

theorem refl (d : Dev) : Withdraws d d :=
  ⟨.refl _ d, rfl, rfl, rfl, id, id, fun _ _ => .inl rfl, Nat.le_refl _⟩

theorem trans (h : Withdraws d d') (k : Withdraws d' d'') : Withdraws d d'' := by
  refine ⟨h.frame.trans k.frame, k.settle.trans h.settle, k.pwr.trans h.pwr, k.vhvMv.trans h.vhvMv, fun hc => k.closed (h.closed hc),
    fun hl => k.vhvLow (h.vhvLow hl), fun b hb => ?_, Nat.le_trans k.load h.load⟩
  rcases k.bias b hb with hk | hk
  · rw [hk]; exact h.bias b hb
  · exact .inr hk

theorem ite {p : Prop} [Decidable p] {a b : Dev} (ha : Withdraws d a) (hb : Withdraws d b) : Withdraws d (if p then a else b) := by
  split
  · exact ha
  · exact hb

theorem foldl {α : Type} {f : Dev → α → Dev} {xs : List α} (h : ∀ d, ∀ x ∈ xs, Withdraws d (f d x)) (d : Dev) :
    Withdraws d (xs.foldl f d) :=
  List.foldlRecOn xs f (motive := Withdraws d) (refl d) fun x hx a ha => hx.trans (h x a ha)

end Dev.Withdraws
theorem Dev.withdraws_hmEval (e : Env) (d : Dev) : Dev.Withdraws d (d.hmEval e) where
  frame := ⟨fun hel hi => Dev.o_hmEval (fun hm => hi (List.mem_append_left _ hm)) hel⟩
  settle := Dev.settle_hmEval ..
  pwr := Dev.pwr_hmEval ..
  vhvMv := by rw [Dev.em_hmEval]
  closed := Dev.closed_hmEval
  vhvLow := fun h => by rw [HmFrom.hmEval.rest]; exact h
  bias := fun b hb => .inl (Dev.o_hmEval (by decide) (by omega))
  load := Dev.load_hmEval ..

/-- A write of an object of an output or of a slot, beside what is kept of outputs and slots. -/
theorem Dev.withdraws_so {d d' : Dev} {i el v : Nat} (hd : d' = { d.so i el v with rx := d'.rx, atl := d'.atl })
    (hlow : d'.rx.vhvLow = d.rx.vhvLow) (hel : el < 4096) (hi : i ∈ offIdx) (hst : i ≠ O.HM_STATE)
    (hv : i = O.RX_BIAS_STATUS → v = 0) : Dev.Withdraws d d' := by
  have ho : ∀ j x, d'.o j x = (d.so i el v).o j x := fun j x => Dev.o_congr (by rw [hd]) j x
  refine ⟨⟨fun {j x} hx hj => ?_⟩, by rw [hd]; rfl, by rw [hd]; rfl, by rw [hd]; rfl, fun h => by rw [hd]; exact h,
    fun h => hlow.trans h, fun b hb => ?_, Nat.le_of_eq (Dev.load_congr (by rw [hd]; rfl) ?_)⟩
  · rw [ho, Dev.o_so_other (fun h : j = i => hj (h ▸ hi)) hel hx]
  · rw [ho]
    by_cases hb' : i = O.RX_BIAS_STATUS
    · subst hb'
      by_cases hel' : el = b
      · rw [hel', Dev.o_so_self]; exact .inr (hv rfl)
      · exact .inl (Dev.o_so_ne hel (by omega) (.inr (Ne.symm hel')))
    · exact .inl (Dev.o_so_other (Ne.symm hb') hel (by omega))
  · rw [ho, Dev.o_so_other (Ne.symm hst) hel (by decide)]

theorem Dev.withdraws_vhvCut (d : Dev) {b : Nat} (hb : b < 8) : Dev.Withdraws d (d.vhvCut b) := by
  unfold Dev.vhvCut
  split
  · exact Dev.withdraws_so (i := O.RX_BIAS_STATUS) (el := b) (v := 0) rfl rfl (by omega) (by decide) (by decide) fun _ => rfl
  · exact .refl d

theorem Dev.withdraws_coilSet (d : Dev) (k v : Nat) : Dev.Withdraws d (d.coilSet k v) := by
  unfold Dev.coilSet Dev.coilOf
  split
  · next c hc =>
    have hlt : c < 4096 := by
      split at hc
      · obtain rfl := Option.some.inj hc; decide
      · split at hc
        · obtain rfl := Option.some.inj hc; decide
        · exact absurd hc (by simp)
    exact Dev.withdraws_so rfl rfl hlt (i := O.ATL_COIL_STATUS) (by decide) (by decide) (fun h => absurd h (by decide))
  · exact .refl d

theorem Dev.withdraws_slotOff (e : Env) (d : Dev) {k v : Nat} (hk : k < 4096) : Dev.Withdraws d (d.slotOff e k v) := by
  have hso : ∀ (d : Dev) {i}, i ∈ offIdx ∧ i ≠ O.HM_STATE → Dev.Withdraws d (d.so i k 0) := fun d _ hi =>
    Dev.withdraws_so rfl rfl hk hi.1 hi.2 fun _ => rfl
  have hset : ∀ (d : Dev) x, Dev.Withdraws d (d.setSlot k x) := fun d x => ⟨.of_objs rfl, rfl, rfl, rfl, id, id, fun _ _ => .inl rfl, Nat.le_refl _⟩
  exact (((((hso d (by decide)).trans (hso _ (by decide))).trans (Dev.withdraws_coilSet _ k v)).trans (hset _ _)).trans
    (Dev.withdraws_hmEval e _))

theorem Dev.withdraws_coilsOff (e : Env) (d : Dev) : Dev.Withdraws d (d.coilsOff e) :=
  .foldl (fun d k hk => .ite (Dev.withdraws_slotOff e d (Nat.lt_trans (List.mem_range.1 hk) (by decide))) (.refl d)) d

theorem Dev.withdraws_vhvCuts (d : Dev) : Dev.Withdraws d ((List.range 8).foldl Dev.vhvCut d) :=
  .foldl (fun d _ hb => Dev.withdraws_vhvCut d (List.mem_range.1 hb)) d

/-- Once each output has had its cut none is on. -/
theorem Dev.bias_vhvCuts {d : Dev} {b : Nat} (hb : b < 8) : ((List.range 8).foldl Dev.vhvCut d).o O.RX_BIAS_STATUS b ∉ [1, 2, 3, 7] := by
  refine foldl_range_visits (K := fun _ => True) (P := fun x : Dev => x.o O.RX_BIAS_STATUS b ∉ [1, 2, 3, 7])
    (fun _ _ _ _ _ => trivial) (fun x _ => ?_) (fun x c hc hne hx => ?_) hb trivial
  · unfold Dev.vhvCut
    split
    · rw [Dev.o_biasOff]; decide
    · next h => simpa using h
  · rw [(Dev.biasKept_vhvCut hb hc hne).o _ (by simp)]; exact hx

/-! ### Lockouts -/

/-- A device with a lockout in its state objects. -/
def Dev.inLockout (d : Dev) (k : Nat) : Dev := { d.so O.PWR_VHV_STATE 0 k with pwr := { d.pwr with lockout := k } }

/-- What a lockout does while the device is up: the report of the voltage, then every VHV-fed output off (R861). -/
def Dev.outputsOff (e : Env) (d : Dev) (mv : Int) : Dev := ((d.vhvReport e mv).cutDrive.biasVhvLow).coilsOff e

/-- The entry of a lockout of a kind. -/
def lockoutCode (k : Nat) : Nat := if k = 3 then 0x0E10 else if k = 1 then 0x0E11 else 0x0E12

def lockoutClass (k : Nat) : Nat := if k = 1 then 1 else 3

theorem Dev.lockoutOn_down {e : Env} {d : Dev} {k : Nat} {mv : Int} (h : d.pwr.mode ≠ .up) : d.lockoutOn e k mv =
    { d.inLockout k with em := { d.em with vhvMv := mv }, rx := { d.rx with vhvLow := true } } :=
  if_pos (bne_iff_ne.2 h)

theorem Dev.lockoutOn_up {e : Env} {d : Dev} {k : Nat} {mv : Int} (h : d.pwr.mode = .up) (hk : k = 1 ∨ k = 2 ∨ k = 3) :
    ∃ loc, d.lockoutOn e k mv = if d.pwr.lockout = k then (d.inLockout k).outputsOff e mv
      else ((d.inLockout k).outputsOff e mv).log e (lockoutCode k) loc (lockoutClass k) := by
  have hup : ¬((d.inLockout k).pwr.mode != .up) = true := by
    rw [show (d.inLockout k).pwr.mode = .up from h]
    decide
  obtain ⟨w, hw⟩ : ∃ w, w = (d.inLockout k).outputsOff e mv := ⟨_, rfl⟩
  have hrun : d.lockoutOn e k mv = if (d.pwr.lockout == k) = true then w
      else if (k == 3) = true then w.log e 0x0E10 (locCode 1 14 63 63 127 16) 3
      else if (k == 1) = true then w.log e 0x0E11 (locCode 1 14 63 63 127 17) 1
      else w.log e 0x0E12 (locCode 1 14 63 63 127 18) 3 := by
    rw [hw]; exact if_neg hup
  rw [hrun, ← hw]
  simp only [beq_iff_eq]
  rcases hk with rfl | rfl | rfl
  · exact ⟨_, rfl⟩
  · exact ⟨_, rfl⟩
  · exact ⟨_, rfl⟩

section
variable {e : Env} {d : Dev} {mv : Int}

/-- A report of the voltage adds its own entry at most. -/
theorem Dev.load_vhvReported : (d.vhvReported e mv).load ≤ d.load + 1 := by
  unfold Dev.vhvReported
  dsimp only
  split
  · exact Dev.load_log ..
  · exact Nat.le_succ _

theorem Dev.frame_vhvReported : Dev.Frame offIdx d (d.vhvReported e mv) := by
  unfold Dev.vhvReported
  dsimp only
  split
  · have hcut : Dev.Frame offIdx d (Dev.cutDrive { d with em := { d.em with vhvMv := mv } }) := .of_objs rfl
    exact hcut.trans (Dev.Frame.log (l := offIdx) (by decide))
  · exact .of_objs rfl

/-- A lockout leaves each VHV-fed output off, and holds two entries more at most (R861, Table 17-2). -/
theorem Dev.outputsOff_spec (e : Env) (d : Dev) (mv : Int) :
    Dev.Frame offIdx d (d.outputsOff e mv) ∧ Dev.Calm d (d.outputsOff e mv) ∧ (d.outputsOff e mv).pwr = d.pwr ∧
      (d.outputsOff e mv).em.vhvMv = mv ∧ (d.outputsOff e mv).rx.vhvLow = true ∧ (d.outputsOff e mv).em.closed = 0 ∧
      (∀ b, b < 8 → (d.outputsOff e mv).o O.RX_BIAS_STATUS b ∉ [1, 2, 3, 7]) ∧
      (d.outputsOff e mv).flt.held.length ≤ d.flt.held.length + 2 := by
  obtain ⟨hsettle, hpwr, hmv⟩ := d.vhvReported_keeps e mv
  obtain ⟨r, hr⟩ : ∃ r, r = d.vhvReported e mv := ⟨_, rfl⟩
  rw [← hr] at hsettle hpwr hmv
  have heval := Dev.withdraws_hmEval e r
  obtain ⟨low, hlow⟩ : ∃ low : Dev, low = { (r.hmEval e).cutDrive with rx := { (r.hmEval e).rx with vhvLow := true } } := ⟨_, rfl⟩
  have hcuts := Dev.withdraws_vhvCuts low
  have hcoils := Dev.withdraws_coilsOff e ((List.range 8).foldl Dev.vhvCut low)
  have hrun : d.outputsOff e mv = ((List.range 8).foldl Dev.vhvCut low).coilsOff e := by
    rw [hlow, hr]
    unfold Dev.outputsOff
    rw [Dev.vhvReport_eq]
    rfl
  have hobjs : low.objs = (r.hmEval e).objs := by rw [hlow]; rfl
  have hload : low.load = (r.hmEval e).load := Dev.load_congr (by rw [hlow]; rfl) (Dev.o_congr hobjs ..)
  have hoff := hcuts.trans hcoils
  rw [hrun]
  refine ⟨?_, ⟨?_, ?_⟩, ?_, ?_, ?_, ?_, fun b hb => ?_, ?_⟩
  · exact ((hr ▸ Dev.frame_vhvReported).trans heval.frame).trans ((Dev.Frame.of_objs hobjs).trans hoff.frame)
  · rw [hoff.settle, hlow, ← hsettle]; exact heval.settle
  · rw [hoff.pwr, hlow, ← hpwr]; exact congrArg Pwr.rstDue heval.pwr
  · rw [hoff.pwr, hlow, ← hpwr]; exact heval.pwr
  · rw [hoff.vhvMv, hlow, ← hmv]; exact heval.vhvMv
  · exact hoff.vhvLow (by rw [hlow])
  · exact hoff.closed (by rw [hlow]; rfl)
  · rcases hcoils.bias b hb with h | h
    · rw [h]; exact Dev.bias_vhvCuts hb
    · rw [h]; decide
  · have h1 := hoff.load
    have h2 := heval.load
    have h3 : r.load ≤ d.load + 1 := hr ▸ Dev.load_vhvReported
    have h4 := Dev.held_le_load (((List.range 8).foldl Dev.vhvCut low).coilsOff e)
    have h5 := Dev.load_le d
    omega

end

section
variable {s : State} {c : Instr} {f : Env → Dev → Dev} {mv : Int} {k : Nat}

/-- What a lockout of a kind leaves (Table 17-2). -/
theorem leads_lockout (hq : s.Quiet) (hc : exec c s = run f s) (hf : f s.env s.begun = s.begun.lockoutOn s.env k mv)
    (hk : k = 1 ∨ k = 2 ∨ k = 3) :
    Leads c s (fun t => t.dev.o O.PWR_VHV_STATE = k ∧ t.dev.pwr.lockout = k ∧ t.dev.em.vhvMv = mv ∧ t.dev.rx.vhvLow = true ∧
      (s.dev.pwr.mode = .up → t.dev.em.closed = 0 ∧ (∀ b, b < 8 → t.dev.o O.RX_BIAS_STATUS b ∉ [1, 2, 3, 7]) ∧
        (s.dev.pwr.lockout ≠ k → Logged s t (lockoutCode k) (lockoutClass k)))) := by
  have hstate : (s.begun.inLockout k).o O.PWR_VHV_STATE = k := Dev.o_so_self s.begun O.PWR_VHV_STATE 0 k
  by_cases hup : s.dev.pwr.mode = .up
  · obtain ⟨loc, hrun⟩ := Dev.lockoutOn_up (e := s.env) (d := s.begun) (mv := mv) hup hk
    obtain ⟨hframe, hcalm, hpwr, hmv, hlow, hclosed, hbias, hlen⟩ := (s.begun.inLockout k).outputsOff_spec s.env mv
    have ho : ((s.begun.inLockout k).outputsOff s.env mv).o O.PWR_VHV_STATE = k := (hframe.o (by decide) (by decide)).trans hstate
    obtain ⟨w, hw⟩ : ∃ w, w = (s.begun.inLockout k).outputsOff s.env mv := ⟨_, rfl⟩
    rw [← hw] at hrun hcalm hpwr hmv hlow hclosed hbias hlen ho
    have hcalm' : Dev.Calm s.begun w := (show Dev.Calm s.begun (s.begun.inLockout k) from ⟨rfl, rfl⟩).trans hcalm
    by_cases hwas : s.dev.pwr.lockout = k
    · rw [State.pwr_begun, if_pos hwas] at hrun
      exact leads_calm w hq hc (hf.trans hrun) hcalm' fun t ht =>
        ⟨(ht.o ..).trans ho, by rw [ht.pwr, hpwr]; rfl, by rw [ht.em, hmv], by rw [ht.rx, hlow],
          fun _ => ⟨by rw [ht.em, hclosed], fun b hb => by rw [ht.o]; exact hbias b hb, fun hn => absurd hwas hn⟩⟩
    · rw [State.pwr_begun, if_neg hwas] at hrun
      refine leads_calm _ hq hc (hf.trans hrun) (hcalm'.trans (.log w)) fun t ht => ⟨?_, ?_, ?_, ?_, fun _ => ⟨?_, fun b hb => ?_, fun _ hroom => ?_⟩⟩
      · rw [ht.o, Dev.o_log_other (by decide) (by decide), ho]
      · rw [ht.pwr, Dev.pwr_log, hpwr]; rfl
      · rw [ht.em, Dev.em_log, hmv]
      · rw [ht.rx, Dev.rx_log, hlow]
      · rw [ht.em, Dev.em_log, hclosed]
      · rw [ht.o, Dev.o_log_other (by decide) (by omega)]; exact hbias b hb
      · rw [ht.flt]
        exact Dev.exists_held_log (Nat.lt_of_le_of_lt hlen (show s.dev.flt.held.length + 2 < 64 by omega))
  · refine leads_calm _ hq hc (hf.trans (Dev.lockoutOn_down hup)) ⟨rfl, rfl⟩ fun t ht =>
      ⟨(ht.o ..).trans hstate, by rw [ht.pwr]; rfl, by rw [ht.em], by rw [ht.rx], fun h => absurd h hup⟩

theorem vhvLockout_comes (hq : s.Quiet)
    (hc : (c = .vhvReverse mv ∧ mv < -500 ∧ k = 3) ∨ (c = .vhvUndervoltage mv ∧ mv < 8000 ∧ k = 1) ∨
      (c = .vhvOvervoltage mv ∧ 62000 < mv ∧ k = 2)) :
    Leads c s (fun t => t.dev.o O.PWR_VHV_STATE = k ∧ t.dev.pwr.lockout = k ∧ t.dev.em.vhvMv = mv ∧ t.dev.rx.vhvLow = true ∧
      (s.dev.pwr.mode = .up → t.dev.em.closed = 0 ∧ (∀ b, b < 8 → t.dev.o O.RX_BIAS_STATUS b ∉ [1, 2, 3, 7]) ∧
        (s.dev.pwr.lockout ≠ k → Logged s t (lockoutCode k) (lockoutClass k)))) := by
  rcases hc with ⟨rfl, hmv, rfl⟩ | ⟨rfl, hmv, rfl⟩ | ⟨rfl, hmv, rfl⟩
  · exact leads_lockout (f := fun e d => d.vhvReverse e mv) hq rfl (if_pos hmv) (.inr (.inr rfl))
  · exact leads_lockout (f := fun e d => d.vhvUnder e mv) hq rfl (if_pos hmv) (.inl rfl)
  · exact leads_lockout (f := fun e d => d.vhvOver e mv) hq rfl (if_pos hmv) (.inr (.inl rfl))

/-! ### The end of a lockout -/

/-- An output that VHV's recovery lets ramp again: nothing of the supplies or of the voltage changes. -/
theorem Dev.biasVhvBack_keeps (e : Env) (d : Dev) {b : Nat} (hb : b < 8) :
    Dev.Frame [O.RX_BIAS_STATUS] d (d.biasVhvBack e b) ∧ (d.biasVhvBack e b).em = d.em ∧ (d.biasVhvBack e b).pwr = d.pwr ∧
      (d.biasVhvBack e b).jq = d.jq := by
  unfold Dev.biasVhvBack
  dsimp only
  split
  · have hend : Dev.Frame [O.RX_BIAS_STATUS] d { d with rx := { d.rx with vhvLow := false } } := .of_objs rfl
    exact ⟨hend.trans ((Dev.Frame.so (v := 1) (show b < 4096 by omega) (List.mem_singleton_self _)).trans (.of_objs rfl)), rfl, rfl, rfl⟩
  · exact ⟨.of_objs rfl, rfl, rfl, rfl⟩

theorem Dev.vhvBacks_keep (e : Env) (d : Dev) :
    Dev.Frame [O.RX_BIAS_STATUS] d ((List.range 8).foldl (fun d b => d.biasVhvBack e b) d) ∧
      ((List.range 8).foldl (fun d b => d.biasVhvBack e b) d).em = d.em ∧
      ((List.range 8).foldl (fun d b => d.biasVhvBack e b) d).pwr = d.pwr ∧
      ((List.range 8).foldl (fun d b => d.biasVhvBack e b) d).jq = d.jq := by
  refine List.foldlRecOn (List.range 8) _ (motive := fun x : Dev => Dev.Frame [O.RX_BIAS_STATUS] d x ∧ x.em = d.em ∧ x.pwr = d.pwr ∧
    x.jq = d.jq) ⟨.refl _ d, rfl, rfl, rfl⟩ fun x hx b hb => ?_
  obtain ⟨hframe, hem, hpwr, hjq⟩ := hx
  obtain ⟨hframe', hem', hpwr', hjq'⟩ := Dev.biasVhvBack_keeps e x (List.mem_range.1 hb)
  exact ⟨hframe.trans hframe', hem'.trans hem, hpwr'.trans hpwr, hjq'.trans hjq⟩

/-- The end of a lockout while the device is up: the voltage is reported, and the outputs restart where it allows them. -/
theorem Dev.vhvBack_up {e : Env} {d : Dev} (hup : d.pwr.mode = .up)
    (hend : (d.pwr.lockout != 0 && if d.pwr.lockout == 2 then decide (mv ≤ 61000) else decide (8500 ≤ mv) && decide (mv ≤ 62000)) = true) :
    d.vhvBack e mv = if mv < 9000 then (d.inLockout 0).vhvReport e mv
      else (List.range 8).foldl (fun d b => d.biasVhvBack e b) ((d.inLockout 0).vhvReport e mv) := by
  have hup' : ¬((d.inLockout 0).pwr.mode != .up) = true := by
    rw [show (d.inLockout 0).pwr.mode = .up from hup]
    decide
  exact (if_pos hend).trans (if_neg hup')

theorem vhvRecovery_clears (hq : s.Quiet) (hlock : s.dev.pwr.lockout ≠ 0)
    (hmv : s.dev.pwr.lockout = 2 ∧ mv ≤ 61000 ∨ s.dev.pwr.lockout ≠ 2 ∧ 8500 ≤ mv ∧ mv ≤ 62000) :
    Leads (.vhvRecovery mv) s (fun t => t.dev.o O.PWR_VHV_STATE = 0 ∧ t.dev.pwr.lockout = 0 ∧ t.dev.em.vhvMv = mv) := by
  have hstate : (s.begun.inLockout 0).o O.PWR_VHV_STATE = 0 := Dev.o_so_self s.begun O.PWR_VHV_STATE 0 0
  have hend : (s.begun.pwr.lockout != 0 && if s.begun.pwr.lockout == 2 then decide (mv ≤ 61000) else decide (8500 ≤ mv) && decide (mv ≤ 62000)) = true := by
    rw [State.pwr_begun]
    rcases hmv with ⟨h2, hm⟩ | ⟨h2, hlo, hhi⟩
    · simp [h2, hm]
    · simp [h2, hlock, hlo, hhi]
  by_cases hup : s.dev.pwr.mode = .up
  · obtain ⟨hsettle, hpwr, hrep⟩ := (s.begun.inLockout 0).vhvReported_keeps s.env mv
    obtain ⟨r, hr⟩ : ∃ r, r = (s.begun.inLockout 0).vhvReported s.env mv := ⟨_, rfl⟩
    rw [← hr] at hsettle hpwr hrep
    have heval := Dev.withdraws_hmEval s.env r
    obtain ⟨hframe', hem', hpwr', hjq'⟩ := Dev.vhvBacks_keep s.env (r.hmEval s.env)
    have hframe : Dev.Frame offIdx (s.begun.inLockout 0) (r.hmEval s.env) := (hr ▸ Dev.frame_vhvReported).trans heval.frame
    have hrun := Dev.vhvBack_up (e := s.env) (d := s.begun) (mv := mv) hup hend
    rw [Dev.vhvReport_eq, ← hr] at hrun
    have hr0 : r.jq.settle = false := hsettle.trans hq.1
    have hr1 : r.pwr.rstDue = none := (congrArg Pwr.rstDue hpwr).trans hq.2.1
    by_cases hlow : mv < 9000
    · rw [if_pos hlow] at hrun
      refine leads_hmEval (f := fun e d => d.vhvBack e mv) r hq rfl hrun hr0 hr1 fun t ht => ⟨?_, ?_, ?_⟩
      · rw [ht.o, hframe.o (by decide) (by decide), hstate]
      · rw [ht.pwr, heval.pwr, hpwr]; rfl
      · rw [ht.em, heval.vhvMv, hrep]
    · rw [if_neg hlow] at hrun
      refine leads_ends (f := fun e d => d.vhvBack e mv) _ hq rfl hrun ?_ ?_ fun t ht => ⟨?_, ?_, ?_⟩
      · rw [hjq', heval.settle, hr0]
      · rw [hpwr', heval.pwr, hr1]
      · rw [ht.o, hframe'.o (by decide) (by decide), hframe.o (by decide) (by decide), hstate]
      · rw [ht.pwr, hpwr', heval.pwr, hpwr]; rfl
      · rw [ht.em, hem', heval.vhvMv, hrep]
  · have hrun : s.begun.vhvBack s.env mv =
        { s.begun.inLockout 0 with em := { s.begun.em with vhvMv := mv }, rx := { s.begun.rx with vhvLow := decide (mv < 9000) } } :=
      (if_pos hend).trans (if_pos (bne_iff_ne.2 hup))
    refine leads_calm (f := fun e d => d.vhvBack e mv) _ hq rfl hrun ⟨rfl, rfl⟩ fun t ht => ⟨(ht.o ..).trans hstate, ?_, ?_⟩
    · rw [ht.pwr]; rfl
    · rw [ht.em]

/-! ### Domains and the slow crystal -/

theorem powerDomainRampDone_is_on {n : Nat} (hq : s.Quiet) (hn : n < 96) (hst : s.dev.o O.PWR_DOM_STATE n = 1)
    (hdue : tget 0 s.dev.pwr.rampAt n + 3000 ≤ s.clock.time) :
    Leads (.powerDomainRampDone n) s (fun t => t.dev.o O.PWR_DOM_STATE n = 2) := by
  refine leads_calm (f := fun e d => d.rampOk e n) _ hq rfl (if_pos ?_) (.so ..) fun t ht => ?_
  · simp only [State.o_begun, hst, hn, beq_self_eq_true, decide_true, Bool.true_and, Bool.and_self]
    exact decide_eq_true hdue
  · rw [ht.o, Dev.o_so_self]

/-- A domain that does not complete its ramp: one from 64 on is logged, one that start-up needs stops it (R863, R864). -/
theorem Dev.rampFault_eq {e : Env} {d : Dev} {n : Nat} (hn : n < 96) (hst : d.o O.PWR_DOM_STATE n = 1)
    (hdue : tget 0 d.pwr.rampAt n + 150000 ≤ e.now) :
    d.rampFault e n =
      if n < 64 then d.so O.PWR_DOM_STATE n 3
      else if 82 ≤ n ∧ d.o O.SU_STATE < 7 then ((d.so O.PWR_DOM_STATE n 3).log e 0x0E0B (loc14 11) 4 n).so O.SU_STATE 0 10
      else (d.so O.PWR_DOM_STATE n 3).log e 0x0E0B (loc14 11) 2 n := by
  have hsu : (d.so O.PWR_DOM_STATE n 3).o O.SU_STATE = d.o O.SU_STATE := Dev.o_so_other (by decide) (by omega) (by decide)
  have hrun : d.rampFault e n = if n < 64 then d.so O.PWR_DOM_STATE n 3
      else if (decide (82 ≤ n) && decide ((d.so O.PWR_DOM_STATE n 3).o O.SU_STATE < 7)) = true then
        ((d.so O.PWR_DOM_STATE n 3).log e 0x0E0B (loc14 11)
          (if (decide (82 ≤ n) && decide ((d.so O.PWR_DOM_STATE n 3).o O.SU_STATE < 7)) = true then 4 else 2) n).so O.SU_STATE 0 10
      else (d.so O.PWR_DOM_STATE n 3).log e 0x0E0B (loc14 11)
        (if (decide (82 ≤ n) && decide ((d.so O.PWR_DOM_STATE n 3).o O.SU_STATE < 7)) = true then 4 else 2) n :=
    if_pos (by simp [hn, hst, hdue])
  rw [hrun, hsu]
  by_cases hstop : 82 ≤ n ∧ d.o O.SU_STATE < 7
  · simp [hstop]
  · have hgo : ¬(decide (82 ≤ n) && decide (d.o O.SU_STATE < 7)) = true := by simpa using hstop
    rw [if_neg hstop, if_neg hgo, if_neg hgo]

theorem powerDomainFault_faults {n : Nat} (hq : s.Quiet) (hn : n < 96) (hst : s.dev.o O.PWR_DOM_STATE n = 1)
    (hdue : tget 0 s.dev.pwr.rampAt n + 150000 ≤ s.clock.time) :
    Leads (.powerDomainFault n) s (fun t => t.dev.o O.PWR_DOM_STATE n = 3 ∧
      (64 ≤ n → Logged s t 0x0E0B (if 82 ≤ n ∧ s.dev.o O.SU_STATE < 7 then 4 else 2)) ∧
      t.dev.o O.SU_STATE = if 82 ≤ n ∧ s.dev.o O.SU_STATE < 7 then 10 else s.dev.o O.SU_STATE) := by
  have hrun := Dev.rampFault_eq (e := s.env) (d := s.begun) hn hst hdue
  have hsu : (s.begun.so O.PWR_DOM_STATE n 3).o O.SU_STATE = s.dev.o O.SU_STATE :=
    Dev.o_so_other (by decide) (by omega) (by decide)
  rw [State.o_begun] at hrun
  by_cases hlow : n < 64
  · rw [if_pos hlow] at hrun
    refine leads_calm (f := fun e d => d.rampFault e n) _ hq rfl hrun (.so ..) fun t ht =>
      ⟨by rw [ht.o, Dev.o_so_self], fun h => absurd hlow (by omega), ?_⟩
    rw [ht.o, hsu, if_neg (by omega)]
  · rw [if_neg hlow] at hrun
    by_cases hstop : 82 ≤ n ∧ s.dev.o O.SU_STATE < 7
    · rw [if_pos hstop] at hrun ⊢
      refine leads_calm (f := fun e d => d.rampFault e n) _ hq rfl hrun ((Dev.Calm.so ..).trans ((Dev.Calm.log _).trans (.so ..)))
        fun t ht => ⟨?_, fun _ hroom => ?_, ?_⟩
      · rw [ht.o, Dev.o_so_other (by decide) (by decide) (by omega), Dev.o_log_other (by decide) (by omega), Dev.o_so_self]
      · rw [ht.flt]
        exact Dev.exists_held_log (Nat.lt_trans hroom (by decide))
      · rw [ht.o, Dev.o_so_self, if_pos hstop]
    · rw [if_neg hstop] at hrun ⊢
      refine leads_calm (f := fun e d => d.rampFault e n) _ hq rfl hrun ((Dev.Calm.so ..).trans (Dev.Calm.log _))
        fun t ht => ⟨?_, fun _ hroom => ?_, ?_⟩
      · rw [ht.o, Dev.o_log_other (by decide) (by omega), Dev.o_so_self]
      · rw [ht.flt]
        exact Dev.exists_held_log (Nat.lt_trans hroom (by decide))
      · rw [ht.o, Dev.o_log_other (by decide) (by decide), hsu, if_neg hstop]

theorem slowCrystalFail_gives_way (hq : s.Quiet) (hsrc : s.dev.o O.DEV_TIME_SLOWSRC = 0) :
    Leads .slowCrystalFail s (fun t => t.dev.o O.DEV_TIME_SLOWSRC = 1 ∧
      t.dev.o O.CLK_SLOW_FAILS = ctrAdd O.CLK_SLOW_FAILS 0 (s.dev.o O.CLK_SLOW_FAILS) 1 ∧ Logged s t 0x0E0C 1) := by
  refine leads_calm (f := fun e d => d.crystalFail e) _ hq rfl (if_pos (by simp [hsrc]))
    ((Dev.Calm.so ..).trans ((Dev.Calm.inc ..).trans (.log _))) fun t ht => ⟨?_, ?_, fun hroom => ?_⟩
  · rw [ht.o, Dev.o_log_other (by decide) (by decide), Dev.o_inc_other (by decide) (by decide) (by decide), Dev.o_so_self]
  · rw [ht.o, Dev.o_log_other (by decide) (by decide), Dev.o_inc_self, Dev.o_so_other (by decide) (by decide) (by decide)]
    rfl
  · rw [ht.flt]
    exact Dev.exists_held_log (Nat.lt_trans hroom (by decide))

end

/-- Settles O50: what comes before a lockout's own entry adds two entries at most. -/
theorem vhvDomainsAndSlowClock : Obligations.VhvDomainsAndSlowClock :=
  ⟨fun _ _ _ _ hq => ⟨vhvLockout_comes hq, vhvRecovery_clears hq⟩,
    fun _ hq => ⟨fun _ hn hst => ⟨powerDomainRampDone_is_on hq hn hst, powerDomainFault_faults hq hn hst⟩, slowCrystalFail_gives_way hq⟩⟩

end Sys2Proof.Machine
end

section
/-! PROOF. A block write of a whole object with its answer, and the firmware slots (chapters 02 and 17). -/

namespace Sys2Proof.Machine

/-! ### A block write of a whole object -/

/-- A block write of a whole object whose check refuses it: what the check has done stays where R883 says so. -/
theorem Dev.blockIn_refused {e : Env} {d d' : Dev} {q : Req} {r : ObjRow} {bs : Bytes} {ab : Abort} {ans : Ans}
    (hdata : q.data = wholeBlock bs) (hlen : bs.length ≤ 512) (hab : d.blockAbort r.idx q.element bs = none)
    (hdone : (d.setBw q.sess none).domDone e q.sess r q.element bs = (ans, d')) (hans : ans.abort = some ab) :
    d.blockIn e q r ⟨q.index, q.element, bs.length, 0, [], e.now⟩ =
      (ans, if (ab.1 == 11 && r.idx == O.FW_SLOT_IMAGE) = true then d' else d'.setBw q.sess none) := by
  have hlast : 512 * (0 + 1) ≥ bs.length := by omega
  have hwant : bs.length - 512 * 0 + 4 = bs.length + 4 := by omega
  have hbody : (bs ++ leBytes 4 (crc32 bs)).length = bs.length + 4 := by simp
  unfold Dev.blockIn
  dsimp only
  rw [hdata, wholeBlock_body]
  simp only [hlast, decide_true, hwant, hbody, if_true, Nat.add_sub_cancel, List.take_left, List.nil_append, wholeBlock_crc, hab,
    bne_self_eq_false, Bool.and_false, Bool.false_eq_true, if_false, hdone, hans]
  rfl

/-- A block write of a whole object in one block ends in what the block leaves, answered. -/
theorem leads_wholeBlock {c : Instr} {s : State} {h : Hdr} {idx el : Nat} {r : ObjRow} {bs : Bytes} {a : Ans} {P : State → Prop} (d : Dev)
    (hc : exec c s = request (blockMsg 4 h idx el 0 (wholeBlock bs)) [] s) (hs : Served s h idx) (hfree : s.dev.o O.LOCK_OWNER = 0xFF)
    (hrow : ((s.atRequest h.sess).bwFresh s.env h.sess).domRow s.env idx el = .inr r) (hacc : ¬(r.acc = .const ∨ r.acc = .ro ∨ r.acc = .rc))
    (hstop : r.stopped = true → ((s.atRequest h.sess).bwFresh s.env h.sess).running idx el = false) (hlen : bs.length ≤ 512)
    (hok : domLenOk ((s.atRequest h.sess).bwFresh s.env h.sess) idx bs.length = true)
    (hin : ((s.atRequest h.sess).bwFresh s.env h.sess).blockIn s.env (reqTo h idx el 0 (wholeBlock bs)) r
      ⟨idx, el, bs.length, 0, [], s.env.now⟩ = (a, d))
    (hset : d.jq.settle = false) (hrst : d.pwr.rstDue = none)
    (hP : ∀ t, s.Executed d (blockMsg 4 h idx el 0 (wholeBlock bs)) a t → P t) : Leads c s P :=
  leads_request (m := blockMsg 4 h idx el 0 (wholeBlock bs)) (codes := []) d hc hs (.inr (by decide : (4 : Nat) ≠ 2))
    ((Dev.operate_writeBlock false false (State.serviceAbort_atRequest hs)).trans
      ((Dev.opWriteBlock_whole (q := reqTo h idx el 0 (wholeBlock bs)) hrow hacc ((State.o_atRequest ..).trans hfree) hs.1 hstop rfl rfl
        hlen hok).trans hin)) hset hrst hP

/-- The device as a completed block write finds it: what a request's arrival notes aside, and its session's own write gone. -/
def State.blockDone (s : State) (n : Nat) : Dev := ((s.atRequest n).bwFresh s.env n).setBw n none

section
variable (s : State) (n : Nat)

theorem State.blockDone_eq : s.blockDone n = { s.atRequest n with ses := (s.blockDone n).ses } := rfl

@[simp] theorem State.o_blockDone (i el : Nat) : (s.blockDone n).o i el = s.dev.o i el := State.o_atRequest ..
@[simp] theorem State.jq_blockDone : (s.blockDone n).jq = s.dev.jq := State.jq_atRequest ..
@[simp] theorem State.pwr_blockDone : (s.blockDone n).pwr = s.dev.pwr := State.pwr_atRequest ..
@[simp] theorem State.commit_blockDone : (s.blockDone n).commit = s.dev.commit := State.commit_atRequest ..
@[simp] theorem State.flash_blockDone : (s.blockDone n).flash = s.dev.flash := by
  rw [State.blockDone_eq, State.atRequest_eq]

theorem State.sess_blockDone {h : Hdr} {idx : Nat} (hs : Served s h idx) : h.sess < (s.blockDone h.sess).ses.length := by
  unfold State.blockDone
  rw [Dev.ses_length_setBw]
  exact State.bwFresh_served hs

end

/-- With nobody holding the lock and no commit pending an object of a completed block write is written at once. -/
theorem Dev.domDone_free {d : Dev} {n idx el : Nat} (hn : n < 4) (hfree : d.o O.LOCK_OWNER = 0xFF) (hcommit : d.commit = none) :
    d.stages n idx = false ∧ d.inCommit (okey idx el) = false := by
  refine ⟨?_, ?_⟩
  · unfold Dev.stages
    rw [hfree, beq_eq_false_iff_ne.mpr (by omega : (0xFF : Nat) ≠ n), Bool.false_and]
  · unfold Dev.inCommit
    rw [hcommit]

/-! ### Bytes of the flash -/

/-- Programming clears bits of the bytes it covers, and of no others. -/
theorem tget_flashPut (m : Tab Byte) (a x : Nat) (bs : Bytes) :
    tget 0xFF (flashPut m a bs) x = if a ≤ x ∧ x < a + bs.length then tget 0xFF m x &&& bs.getD (x - a) 0 else tget 0xFF m x := by
  induction bs generalizing a with
  | nil => rw [if_neg (by simp)]; rfl
  | cons b bs ih =>
    by_cases hx : x = a
    · subst hx
      rw [if_pos (by simp), Nat.sub_self]
      show tget 0xFF (tset 0xFF _ x (tget 0xFF (flashPut m (x + 1) bs) x &&& b)) x = _
      rw [tget_tset_self, ih, if_neg (by omega)]
      rfl
    · show tget 0xFF (tset 0xFF _ a _) x = _
      rw [tget_tset_ne _ _ _ _ hx, ih, List.length_cons]
      by_cases hin : a + 1 ≤ x ∧ x < a + 1 + bs.length
      · obtain ⟨k, hk⟩ : ∃ k, x - a = k + 1 := ⟨x - (a + 1), by omega⟩
        rw [if_pos hin, if_pos (by omega), hk, List.getD_cons_succ, show x - (a + 1) = k by omega]
      · rw [if_neg hin, if_neg (by omega)]

/-! ### A slot erased -/

section
variable {s : State} {h : Hdr} {slot : Nat}

theorem fwSlotErase_begins (hq : s.Quiet) (ha : Accepts s h O.FW_SLOT_ERASE slot 1) :
    Leads (.fwSlotErase h slot) s (fun t => t.dev.o O.FW_FLASH_BUSY = 1 ∧ t.dev.pwr.flashOp = 1 ∧ t.dev.pwr.flashArg = slot) := by
  refine leads_lands ((s.asked h O.FW_SLOT_ERASE slot).slotErase slot) hq ha rfl (by decide) rfl ⟨rfl, rfl⟩ fun t ht => ⟨?_, ?_, ?_⟩
  · rw [ht.o (by decide) (by decide)]; exact Dev.o_so_self (s.asked h O.FW_SLOT_ERASE slot) O.FW_FLASH_BUSY 0 1
  · rw [ht.pwr]; rfl
  · rw [ht.pwr]; rfl

/-- The end of an erase that nothing waits for (R883). -/
def Dev.erased (d : Dev) (slot : Nat) : Dev :=
  { d.sos [(O.FW_FLASH_BUSY, 0, 0), (O.FW_SLOT_STATUS, slot, 4), (O.FW_SLOT_SEQ, slot, 0), (O.FW_SLOT_VERSION, slot, 0)] with
    flash := tdrop d.flash (slotBase slot) 0x200000, pwr := { d.pwr with flashOp := 0 } }

theorem Dev.o_erased (d : Dev) (slot i el : Nat) : (d.erased slot).o i el =
    ((((d.so O.FW_FLASH_BUSY 0 0).so O.FW_SLOT_STATUS slot 4).so O.FW_SLOT_SEQ slot 0).so O.FW_SLOT_VERSION slot 0).o i el :=
  Dev.o_congr (by simp only [Dev.erased, Dev.sos, List.foldl_cons, List.foldl_nil]) i el

theorem Dev.eraseDone_eq {e : Env} {d : Dev} (hop : d.pwr.flashOp = 1) (harg : d.pwr.flashArg = slot) (hsave : d.cal.saveDue = false)
    (herase : d.cal.eraseDue = false) : d.eraseDone e slot = d.erased slot := by
  have hnext : (d.erased slot).calSaveNext e = d.erased slot := by
    unfold Dev.calSaveNext
    rw [if_neg (by rw [show (d.erased slot).pwr.flashOp = 0 from rfl]; decide),
      if_neg (by rw [show (d.erased slot).cal.eraseDue = d.cal.eraseDue from rfl, herase]; decide),
      if_neg (by rw [show (d.erased slot).cal.saveDue = d.cal.saveDue from rfl, hsave]; decide)]
  have hrun : d.eraseDone e slot = (d.erased slot).calSaveNext e := if_pos (by simp [hop, harg])
  rw [hrun, hnext]

theorem fwEraseDone_erases (hq : s.Quiet) (hslot : slot < 2) (hop : s.dev.pwr.flashOp = 1) (harg : s.dev.pwr.flashArg = slot)
    (hsave : s.dev.cal.saveDue = false) (herase : s.dev.cal.eraseDue = false) :
    Leads (.fwEraseDone slot) s (fun t => t.dev.o O.FW_FLASH_BUSY = 0 ∧ t.dev.pwr.flashOp = 0 ∧ t.dev.o O.FW_SLOT_STATUS slot = 4 ∧
      ∀ a, tget 0xFF t.dev.flash a =
        if slotBase slot ≤ a ∧ a < slotBase slot + 0x200000 then 0xFF else tget 0xFF s.dev.flash a) := by
  refine leads_calm (f := fun e d => d.eraseDone e slot) _ hq rfl (Dev.eraseDone_eq hop harg hsave herase) ⟨rfl, rfl⟩
    fun t ht => ⟨?_, ?_, ?_, fun a => ?_⟩
  · rw [ht.o, Dev.o_erased, Dev.o_so_other (by decide) (by omega) (by decide), Dev.o_so_other (by decide) (by omega) (by decide),
      Dev.o_so_other (by decide) (by omega) (by decide), Dev.o_so_self]
  · rw [ht.pwr]; rfl
  · rw [ht.o, Dev.o_erased, Dev.o_so_other (by decide) (by omega) (by omega), Dev.o_so_other (by decide) (by omega) (by omega), Dev.o_so_self]
  · rw [ht.flash]
    show tget 0xFF (tdrop s.dev.flash (slotBase slot) 0x200000) a = _
    split
    next hin => exact tget_tdrop_in _ _ hin.1 hin.2
    next hout => exact tget_tdrop_out _ _ (by omega)

/-! ### A slot programmed -/

theorem slotImage_row (e : Env) (d : Dev) (hslot : slot < 2) :
    d.domRow e O.FW_SLOT_IMAGE slot = .inr ⟨O.FW_SLOT_IMAGE, [(0, 1)], .dom, .wo, .now, false, 0, [], 0, 0⟩ := by
  have hpres : d.pres e O.FW_SLOT_IMAGE slot = .ok := by
    unfold Dev.pres
    obtain rfl | rfl : slot = 0 ∨ slot = 1 := by omega
    · cases e.part.variant <;> rfl
    · cases e.part.variant <;> rfl
  unfold Dev.domRow Dev.presAbort
  simp only [runEls_one, List.map_cons, List.map_nil, hpres]
  rfl

/-- A slot with an image programmed over it, before its check. -/
def Dev.programmed (d : Dev) (slot : Nat) (bs : Bytes) : Dev := { d with flash := flashPut d.flash (slotBase slot) bs }

theorem Dev.slotStatus_congr {d d' : Dev} {e e' : Env} (hpart : e'.part = e.part) (hflash : d'.flash = d.flash) (slot : Nat) :
    Dev.slotStatus e' d' slot = Dev.slotStatus e d slot := by
  unfold Dev.slotStatus Env.stepping Dev.flashBytes
  rw [hpart, hflash]

theorem Dev.slotProgram_valid {e : Env} {d : Dev} {bs : Bytes} (hok : (d.programmed slot bs).slotStatus e slot = 1) :
    ∃ q v, d.slotProgram e slot bs =
      (true, (d.programmed slot bs).sos [(O.FW_SLOT_STATUS, slot, 1), (O.FW_SLOT_SEQ, slot, q), (O.FW_SLOT_VERSION, slot, v)]) :=
  ⟨_, _, if_pos (beq_iff_eq.2 hok)⟩

theorem Dev.slotProgram_invalid {e : Env} {d : Dev} {bs : Bytes} (hbad : (d.programmed slot bs).slotStatus e slot ≠ 1) :
    d.slotProgram e slot bs = (false, (d.programmed slot bs).so O.FW_SLOT_STATUS slot 3) :=
  if_neg fun h => hbad (beq_iff_eq.1 h)

/-- The row of FW_SLOT_IMAGE. -/
def imageRow : ObjRow := ⟨O.FW_SLOT_IMAGE, [(0, 1)], .dom, .wo, .now, false, 0, [], 0, 0⟩

theorem Dev.domDone_image {e : Env} {d d' : Dev} {n : Nat} {bs : Bytes} {ok : Bool} (hn : n < 4) (hfree : d.o O.LOCK_OWNER = 0xFF)
    (hcommit : d.commit = none) (hrun : d.slotProgram e slot bs = (ok, d')) :
    d.domDone e n imageRow slot bs = (if ok = true then okAns e.now [] else refuse (11, 14), d') := by
  obtain ⟨hstg, hcom⟩ := Dev.domDone_free (idx := O.FW_SLOT_IMAGE) (el := slot) hn hfree hcommit
  have hab : d.domAbort e O.FW_SLOT_IMAGE bs = none := rfl
  unfold Dev.domDone imageRow
  simp only [hab, hstg, hcom, Bool.false_eq_true, if_false, beq_self_eq_true, if_true, hrun]
  cases ok <;> rfl

/-- An image of one block ends in the slot programmed, with the answer of its check (R883). -/
theorem leads_slotImage {bs : Bytes} {P : State → Prop} {ok : Bool} {d : Dev} (hq : s.Quiet) (hslot : slot < 2) (hs : Served s h O.FW_SLOT_IMAGE)
    (hfree : s.dev.o O.LOCK_OWNER = 0xFF) (hcommit : s.dev.commit = none) (hab : s.dev.slotAbort slot = none) (hpos : 1 ≤ bs.length)
    (hlen : bs.length ≤ 512) (hrun : (s.blockDone h.sess).slotProgram s.env slot bs = (ok, d)) (hcalm : Dev.Calm (s.blockDone h.sess) d)
    (hP : ∀ t, s.Executed d (blockMsg 4 h O.FW_SLOT_IMAGE slot 0 (wholeBlock bs))
      (if ok = true then okAns s.clock.time [] else refuse (11, 14)) t → P t) :
    Leads (.fwSlotImage h slot 0 (wholeBlock bs)) s P := by
  have hdone := Dev.domDone_image (n := h.sess) (d := s.blockDone h.sess) hs.1 ((State.o_blockDone ..).trans hfree)
    ((State.commit_blockDone ..).trans hcommit) hrun
  have hab' : ((s.atRequest h.sess).bwFresh s.env h.sess).blockAbort imageRow.idx slot bs = none := by
    show ((s.atRequest h.sess).bwFresh s.env h.sess).slotAbort slot = none
    rw [← hab]
    unfold Dev.slotAbort Dev.ob
    rw [Dev.o_bwFresh, Dev.o_bwFresh, Dev.o_bwFresh, State.o_atRequest, State.o_atRequest, State.o_atRequest]
  have hok : domLenOk ((s.atRequest h.sess).bwFresh s.env h.sess) O.FW_SLOT_IMAGE bs.length = true := by
    show (decide (1 ≤ bs.length) && decide (bs.length ≤ 1572864)) = true
    simp only [Bool.and_eq_true, decide_eq_true_eq]
    omega
  refine leads_wholeBlock d rfl hs hfree (slotImage_row s.env _ hslot) (by decide) (fun hn => absurd hn (by decide)) hlen hok
    (a := if ok = true then okAns s.clock.time [] else refuse (11, 14)) ?_ (hcalm.settle.trans ?_) (hcalm.rstDue.trans ?_) hP
  · cases ok
    · exact Dev.blockIn_refused (q := reqTo h O.FW_SLOT_IMAGE slot 0 (wholeBlock bs)) rfl hlen hab' hdone rfl
    · exact (Dev.blockIn_whole (q := reqTo h O.FW_SLOT_IMAGE slot 0 (wholeBlock bs)) rfl hlen hab'
        (congrArg (fun x => x.1.abort) hdone)).trans hdone
  · rw [State.jq_blockDone]; exact hq.1
  · rw [State.pwr_blockDone]; exact hq.2.1

theorem State.Executed.flash {s t : State} {d : Dev} {m : GopMsg} {a : Ans} (h : s.Executed d m a t) : t.dev.flash = d.flash :=
  h.toReplied.flash

theorem fwSlotImage_programs {bs : Bytes} (hq : s.Quiet) (hslot : slot < 2) (hs : Served s h O.FW_SLOT_IMAGE)
    (hfree : s.dev.o O.LOCK_OWNER = 0xFF) (hcommit : s.dev.commit = none) (hab : s.dev.slotAbort slot = none) (hpos : 1 ≤ bs.length)
    (hlen : bs.length ≤ 512) :
    Leads (.fwSlotImage h slot 0 (wholeBlock bs)) s (fun t =>
      (∀ a, tget 0xFF t.dev.flash a = if slotBase slot ≤ a ∧ a < slotBase slot + bs.length
        then tget 0xFF s.dev.flash a &&& bs.getD (a - slotBase slot) 0 else tget 0xFF s.dev.flash a) ∧
      t.dev.o O.FW_SLOT_STATUS slot = (if Dev.slotStatus t.env t.dev slot = 1 then 1 else 3) ∧
      Answered s t (blockMsg 4 h O.FW_SLOT_IMAGE slot 0 (wholeBlock bs))
        (if Dev.slotStatus t.env t.dev slot = 1 then okAns s.clock.time [] else refuse (11, 14))) := by
  obtain ⟨w, hw⟩ : ∃ w, w = (s.blockDone h.sess).programmed slot bs := ⟨_, rfl⟩
  have hbytes : ∀ a, tget 0xFF w.flash a = if slotBase slot ≤ a ∧ a < slotBase slot + bs.length
      then tget 0xFF s.dev.flash a &&& bs.getD (a - slotBase slot) 0 else tget 0xFF s.dev.flash a := fun a => by
    rw [hw]
    show tget 0xFF (flashPut (s.blockDone h.sess).flash (slotBase slot) bs) a = _
    rw [tget_flashPut, State.flash_blockDone]
  have hses : h.sess < w.ses.length := by rw [hw]; exact State.sess_blockDone s hs
  have hcalm : Dev.Calm (s.blockDone h.sess) w := hw ▸ ⟨rfl, rfl⟩
  have hstatus : ∀ (t : State) (d : Dev), s.env.part = t.env.part → t.dev.flash = d.flash → d.flash = w.flash →
      Dev.slotStatus t.env t.dev slot = w.slotStatus s.env slot := fun t d hp hf hd => Dev.slotStatus_congr hp.symm (hf.trans hd) slot
  by_cases hok : w.slotStatus s.env slot = 1
  · obtain ⟨q, v, hrun⟩ := Dev.slotProgram_valid (d := s.blockDone h.sess) (hw ▸ hok)
    rw [← hw] at hrun
    refine leads_slotImage hq hslot hs hfree hcommit hab hpos hlen hrun (hcalm.trans ⟨rfl, rfl⟩) fun t ht => ⟨fun a => ?_, ?_, ?_⟩
    · rw [ht.flash]; exact hbytes a
    · rw [hstatus t _ (by rw [ht.env]) ht.flash rfl, if_pos hok, ht.o (by decide) (by omega)]
      show (((w.so O.FW_SLOT_STATUS slot 1).so O.FW_SLOT_SEQ slot q).so O.FW_SLOT_VERSION slot v).o _ slot = 1
      rw [Dev.o_so_other (by decide) (by omega) (by omega), Dev.o_so_other (by decide) (by omega) (by omega), Dev.o_so_self]
    · rw [hstatus t _ (by rw [ht.env]) ht.flash rfl, if_pos hok]
      exact ht.answered hses
  · have hrun := Dev.slotProgram_invalid (d := s.blockDone h.sess) (hw ▸ hok)
    rw [← hw] at hrun
    refine leads_slotImage hq hslot hs hfree hcommit hab hpos hlen hrun (hcalm.trans ⟨rfl, rfl⟩) fun t ht => ⟨fun a => ?_, ?_, ?_⟩
    · rw [ht.flash]; exact hbytes a
    · rw [hstatus t _ (by rw [ht.env]) ht.flash rfl, if_neg hok, ht.o (by decide) (by omega), Dev.o_so_self]
    · rw [hstatus t _ (by rw [ht.env]) ht.flash rfl, if_neg hok]
      exact ht.answered hses

/-- Settles O52. -/
theorem firmwareSlots : Obligations.FirmwareSlots :=
  fun _ _ _ hq hslot => ⟨fwSlotErase_begins hq, fwEraseDone_erases hq hslot,
    fun _ hs hfree hcommit hab hpos hlen => fwSlotImage_programs hq hslot hs hfree hcommit hab hpos hlen⟩

end

end Sys2Proof.Machine
end

section
/-! PROOF. What traffic of GDDR7 changes beside its bytes, and the fault log (chapters 15 and 18). -/

namespace Sys2Proof.Machine

/-! ### Traffic of GDDR7 -/

/-- Bytes of another DOM object are as before a write. -/
theorem Dev.domByte_setDom_other {d : Dev} {idx el idx' el' off i : Nat} {bs : Bytes} (h : okey idx' el' ≠ okey idx el)
    (hoff : off + bs.length ≤ 0x2000000) (hi : i < 0x2000000) : (d.setDom idx el off bs).domByte idx' el' i = d.domByte idx' el' i := by
  induction bs generalizing off with
  | nil => rfl
  | cons b bs ih =>
    rw [List.length_cons] at hoff
    have hkey : dkey idx' el' i ≠ dkey idx el off := by
      unfold dkey
      omega
    exact (tget_tset_ne _ _ _ _ hkey).trans (ih (by omega))

/-- The counters that requests of GDDR7 change. -/
def trafficIdx : List Nat :=
  [O.MEM_CH_WR_BYTES, O.MEM_CH_RMW, O.MEM_CH_POISON_BLOCKS, O.MEM_CH_RD_BYTES, O.MEM_CH_POISON, O.MEM_ERR_COUNT]

/-- Requests of GDDR7 change its bytes, what is kept of them, their counters and the memory log. -/
structure Dev.Traffic (d d' : Dev) : Prop where
  rest : d' = { d with objs := d'.objs, doms := d'.doms, gddr := d'.gddr,
                       mem := { d.mem with undef := d'.mem.undef, poison := d'.mem.poison, waiting := d'.mem.waiting } }
  frame : Dev.Frame trafficIdx d d'
  dom : ∀ {idx el i}, el < 4096 → i < 0x2000000 → idx ≠ O.MEM_ERR_LOG → d'.domByte idx el i = d.domByte idx el i

namespace Dev.Traffic
variable {d d' d'' : Dev}

theorem refl (d : Dev) : Traffic d d := ⟨rfl, .refl _ d, fun _ _ _ => rfl⟩

theorem trans (h : Traffic d d') (k : Traffic d' d'') : Traffic d d'' := by
  refine ⟨?_, h.frame.trans k.frame, fun he hi hn => (k.dom he hi hn).trans (h.dom he hi hn)⟩
  have hk := k.rest
  rw [h.rest] at hk
  exact hk

theorem ite {p : Prop} [Decidable p] {a b : Dev} (ha : Traffic d a) (hb : Traffic d b) : Traffic d (if p then a else b) := by
  split
  · exact ha
  · exact hb

theorem foldl {α : Type} {f : Dev → α → Dev} (h : ∀ d x, Traffic d (f d x)) (xs : List α) (d : Dev) : Traffic d (xs.foldl f d) :=
  rel_foldl refl trans h xs d

theorem inc {i el n : Nat} (hel : el < 4096) (hi : i ∈ trafficIdx) : Traffic d (d.inc i el n) := ⟨rfl, .inc hel hi, fun _ _ _ => rfl⟩

theorem so {i el v : Nat} (hel : el < 4096) (hi : i ∈ trafficIdx) : Traffic d (d.so i el v) := ⟨rfl, .so hel hi, fun _ _ _ => rfl⟩

/-- What is kept of the bytes, beside objects and DOM objects. -/
theorem bytes (h : d' = { d with gddr := d'.gddr, mem := { d.mem with undef := d'.mem.undef, poison := d'.mem.poison,
                                                                      waiting := d'.mem.waiting } }) : Traffic d d' :=
  ⟨by rw [h], .of_objs (by rw [h]), fun _ _ _ => by rw [h]; rfl⟩

theorem o (h : Traffic d d') {i el : Nat} (hel : el < 4096) (hi : i ∉ trafficIdx) : d'.o i el = d.o i el := h.frame.o hel hi

theorem flt (h : Traffic d d') : d'.flt = d.flt := by rw [h.rest]
theorem jq (h : Traffic d d') : d'.jq = d.jq := by rw [h.rest]
theorem pwr (h : Traffic d d') : d'.pwr = d.pwr := by rw [h.rest]

theorem calm (h : Traffic d d') : Calm d d' := ⟨congrArg Jq.settle h.jq, congrArg Pwr.rstDue h.pwr⟩

theorem domBytes (h : Traffic d d') {idx el off n : Nat} (hel : el < 4096) (hoff : off + n ≤ 0x2000000) (hidx : idx ≠ O.MEM_ERR_LOG) :
    d'.domBytes idx el off n = d.domBytes idx el off n :=
  List.map_congr_left fun i hi => h.dom hel (by have := List.mem_range.1 hi; omega) hidx

end Dev.Traffic

section
variable (e : Env) (d : Dev)

theorem Dev.traffic_memLog (k a r m : Nat) : Dev.Traffic d (d.memLog e k a r m) := by
  obtain ⟨bs, hlen, hrun⟩ : ∃ bs : Bytes, bs.length = 32 ∧
      d.memLog e k a r m = (d.setDom O.MEM_ERR_LOG 0 (d.o O.MEM_ERR_COUNT % 32 * 32) bs).inc O.MEM_ERR_COUNT := by
    refine ⟨_, ?_, rfl⟩
    simp only [List.length_append, length_leBytes, zeros, List.length_replicate]
  rw [hrun]
  refine Dev.Traffic.trans ⟨?_, .of_objs ?_, fun {idx el i} he hi hn => ?_⟩ (.inc (by decide) (by decide))
  · rw [Dev.setDom_eq]
  · rw [Dev.setDom_eq]
  · exact Dev.domByte_setDom_other (okey_ne he (by decide) (.inl hn)) (by rw [hlen]; omega) hi

theorem Dev.traffic_gWrite (a : Nat) (bs : Bytes) : Dev.Traffic d (d.gWrite a bs) := by
  induction bs generalizing a with
  | nil => exact .refl d
  | cons b bs ih => exact .ite (ih _) ((ih (a + 1)).trans (.bytes rfl))

theorem Dev.chanOf_lt_elements (a : Nat) : d.chanOf a < 4096 := Nat.lt_trans (Dev.chanOf_lt ..) (by decide)

theorem Dev.traffic_wrCount (a n b : Nat) : Dev.Traffic d (d.wrCount a n b) := by
  have hch := d.chanOf_lt_elements (b * 256)
  have hcount := (Dev.Traffic.inc (d := d) (i := O.MEM_CH_WR_BYTES) (n := atomBytes a n b) hch (by decide)).trans
    (.inc (i := O.MEM_CH_RMW) (n := partAtoms a n b) hch (by decide))
  unfold Dev.wrCount
  refine .ite ((hcount.trans (.bytes ?_)).trans (.so hch (by decide))) hcount
  rfl

theorem Dev.traffic_arrive (r a n : Nat) (w : Bool) : Dev.Traffic d (d.arrive e r a n w) := .bytes rfl

theorem Dev.traffic_memWr (r a : Nat) (bs : Bytes) : Dev.Traffic d (d.memWr e r a bs) :=
  .ite (Dev.traffic_memLog ..) (((Dev.traffic_gWrite d a bs).trans
    (.foldl (fun d b => Dev.traffic_wrCount d a bs.length b) _ _)).trans (Dev.traffic_arrive ..))

theorem Dev.traffic_rdCount (a n b : Nat) : Dev.Traffic d (d.rdCount a n b) := by
  have hch := d.chanOf_lt_elements (b * 256)
  have hcount : Dev.Traffic d (d.inc O.MEM_CH_RD_BYTES (d.chanOf (b * 256)) (atomBytes a n b)) := .inc hch (by decide)
  unfold Dev.rdCount
  exact .ite (hcount.trans (.inc hch (by decide))) hcount

theorem Dev.traffic_memRd (r a n : Nat) : Dev.Traffic d (d.memRd e r a n).2 := by
  unfold Dev.memRd
  split
  · exact Dev.traffic_memLog ..
  · exact (Dev.Traffic.foldl (fun d b => Dev.traffic_rdCount d a n b) (blocksOf a n) d).trans (Dev.traffic_arrive ..)

theorem Dev.traffic_mirror : Dev.Traffic d (d.mirror e) := .ite (.refl d) (Dev.traffic_memWr ..)

end

/-! ### One entry written -/

/-- Whether an entry comes within the concurrency window of the last one written (R60). -/
def Dev.concurs (d : Dev) (en : Entry) : Bool :=
  match d.flt.lastTime with
  | some y => d.concurrent y en.time
  | none => false

/-- An entry in the slot of the next number, counted in its class, FLT_FIRST taken where it is the first that needs an
acknowledgement (R911, R916). -/
def Dev.entered (d : Dev) (en : Entry) : Dev :=
  let bs := entryBytes en d.flt.next (d.concurs en)
  let d' := ((d.setDom O.FLT_LOG 0 (32 * (d.flt.next % 256)) bs).so O.FLT_NEWEST_SEQ 0 d.flt.next).inc O.FLT_CLASS_COUNT en.cls
  { (if 3 ≤ en.cls && d.flt.unacked == [] then d'.setDom O.FLT_FIRST 0 0 bs else d') with
    flt := { d.flt with next := d.flt.next + 1, lastTime := some en.time,
                        unacked := if 3 ≤ en.cls then d.flt.unacked ++ [d.flt.next] else d.flt.unacked } }

/-- The device with the loss of an entry of its slot counted, where that was not acknowledged (R912). -/
def Dev.displaced (d : Dev) : Dev :=
  if d.slotUsed (d.flt.next % 256) && d.seqAbove (d.domNat O.FLT_LOG 0 (32 * (d.flt.next % 256) + 16) 4) then d.inc O.FLT_LOST else d

theorem Dev.displaced_eq (d : Dev) : d.displaced = { d with objs := d.displaced.objs } := by
  unfold Dev.displaced
  split <;> rfl

theorem Dev.frame_displaced (d : Dev) : Dev.Frame [O.FLT_LOST] d d.displaced :=
  .ite (.inc (by decide) (by decide)) (.refl _ d)

theorem Dev.writeEntry_full {d : Dev} {en : Entry} (h : d.flt.next = 0xFFFFFFFF) : d.writeEntry en = d.inc O.FLT_LOST :=
  if_pos (beq_iff_eq.2 h)

theorem Dev.writeEntry_enters {d : Dev} {en : Entry} (h : d.flt.next ≠ 0xFFFFFFFF) : d.writeEntry en = d.displaced.entered en := by
  have hflt : d.displaced.flt = d.flt := by rw [Dev.displaced_eq]
  have hrun : d.writeEntry en =
      let bs := entryBytes en d.flt.next (d.displaced.concurs en)
      let d' := ((d.displaced.setDom O.FLT_LOG 0 (32 * (d.flt.next % 256)) bs).so O.FLT_NEWEST_SEQ 0 d.flt.next).inc O.FLT_CLASS_COUNT en.cls
      let d'' := if 3 ≤ en.cls && d'.flt.unacked == [] then d'.setDom O.FLT_FIRST 0 0 bs else d'
      { d'' with flt := { d''.flt with next := d.flt.next + 1, lastTime := some en.time,
                                       unacked := if 3 ≤ en.cls then d''.flt.unacked ++ [d.flt.next] else d''.flt.unacked } } :=
    if_neg fun hn => h (beq_iff_eq.1 hn)
  obtain ⟨x, hx⟩ : ∃ x, x = d.displaced := ⟨_, rfl⟩
  rw [← hx] at hflt hrun
  rw [hrun, ← hx, ← hflt]
  have hset : ∀ (d' : Dev) idx off bs, (d'.setDom idx 0 off bs).flt = d'.flt := fun d' idx off bs => by rw [Dev.setDom_eq]
  have hinc : ∀ (d' : Dev) i el n j x v, ((d'.so j x v).inc i el n).flt = d'.flt := fun _ _ _ _ _ _ _ => rfl
  have hite : ∀ (c : Bool) (a b : Dev), (if c then a else b).flt = if c then a.flt else b.flt := fun c a b => by cases c <;> rfl
  unfold Dev.entered
  simp only [hite, hset, hinc, ite_self]

section
variable {d : Dev} {en : Entry}

theorem length_entryBytes (en : Entry) (seq : Nat) (conc : Bool) : (entryBytes en seq conc).length = 32 := by
  simp [entryBytes, zeros]

/-- Bytes written to a DOM object are read back as a run. -/
theorem Dev.domBytes_setDom (d : Dev) (idx el off : Nat) (bs : Bytes) : (d.setDom idx el off bs).domBytes idx el off bs.length = bs := by
  refine List.ext_getElem (length_domBytes ..) fun i h1 h2 => ?_
  have hget : ((d.setDom idx el off bs).domBytes idx el off bs.length)[i] = (d.setDom idx el off bs).domByte idx el (off + i) := by
    simp [Dev.domBytes]
  rw [hget, Dev.domByte_setDom, if_pos (by omega), Nat.add_sub_cancel_left, List.getD_eq_getElem _ _ h2]

theorem Dev.frame_setDom (l : List Nat) (d : Dev) (idx el off : Nat) (bs : Bytes) : Dev.Frame l d (d.setDom idx el off bs) :=
  .of_objs (by rw [Dev.setDom_eq])

theorem Dev.calm_setDom (d : Dev) (idx el off : Nat) (bs : Bytes) : Dev.Calm d (d.setDom idx el off bs) := by
  rw [Dev.setDom_eq]
  exact ⟨rfl, rfl⟩

theorem Dev.calm_entered (d : Dev) (en : Entry) : Dev.Calm d (d.entered en) := by
  have hcount := (Dev.calm_setDom d O.FLT_LOG 0 (32 * (d.flt.next % 256)) (entryBytes en d.flt.next (d.concurs en))).trans
    ((Dev.Calm.so _ O.FLT_NEWEST_SEQ 0 d.flt.next).trans (.inc _ O.FLT_CLASS_COUNT en.cls 1))
  have hfirst := Dev.Calm.ite (p := (decide (3 ≤ en.cls) && d.flt.unacked == []) = true)
    (hcount.trans (Dev.calm_setDom _ O.FLT_FIRST 0 0 (entryBytes en d.flt.next (d.concurs en)))) hcount
  exact ⟨hfirst.settle, hfirst.rstDue⟩

/-- Objects as an entered entry leaves them: what FLT_FIRST takes is no object of one element. -/
theorem Dev.o_entered (d : Dev) (en : Entry) (i el : Nat) :
    (d.entered en).o i el = ((d.so O.FLT_NEWEST_SEQ 0 d.flt.next).inc O.FLT_CLASS_COUNT en.cls).o i el := by
  refine Dev.o_congr ?_ i el
  unfold Dev.entered
  dsimp only
  split
  · rw [Dev.setDom_eq, Dev.setDom_eq]; rfl
  · rw [Dev.setDom_eq]; rfl

theorem Dev.newest_entered (hcls : en.cls < 8) : (d.entered en).o O.FLT_NEWEST_SEQ = d.flt.next := by
  rw [Dev.o_entered, Dev.o_inc_other (by decide) (by omega) (by decide), Dev.o_so_self]

theorem Dev.classCount_entered (hcls : en.cls < 8) :
    (d.entered en).o O.FLT_CLASS_COUNT en.cls = ctrAdd O.FLT_CLASS_COUNT en.cls (d.o O.FLT_CLASS_COUNT en.cls) 1 := by
  rw [Dev.o_entered, Dev.o_inc_self, Dev.o_so_other (by decide) (by decide) (by omega)]

theorem Dev.slot_entered : (d.entered en).domBytes O.FLT_LOG 0 (32 * (d.flt.next % 256)) 32 = entryBytes en d.flt.next (d.concurs en) := by
  obtain ⟨bs, hbs⟩ : ∃ bs, bs = entryBytes en d.flt.next (d.concurs en) := ⟨_, rfl⟩
  have hlen : bs.length = 32 := hbs ▸ length_entryBytes ..
  have hself := Dev.domBytes_setDom d O.FLT_LOG 0 (32 * (d.flt.next % 256)) bs
  rw [hlen] at hself
  rw [← hbs]
  refine Eq.trans ?_ hself
  refine List.map_congr_left fun i hi => ?_
  have hlt := List.mem_range.1 hi
  unfold Dev.entered
  dsimp only
  rw [← hbs]
  split
  · exact Dev.domByte_setDom_other (by decide) (by rw [hlen]; decide) (by omega)
  · rfl

/-- Writing an entry keeps the entries held. -/
theorem Dev.writeEntry_keeps (d : Dev) (en : Entry) : Dev.Calm d (d.writeEntry en) ∧ (d.writeEntry en).flt.held = d.flt.held := by
  by_cases h : d.flt.next = 0xFFFFFFFF
  · rw [Dev.writeEntry_full h]
    exact ⟨.inc .., rfl⟩
  · rw [Dev.writeEntry_enters h]
    have hdis : Dev.Calm d d.displaced := by rw [Dev.displaced_eq]; exact ⟨rfl, rfl⟩
    refine ⟨hdis.trans (Dev.calm_entered ..), ?_⟩
    show d.displaced.flt.held = d.flt.held
    rw [Dev.displaced_eq]

theorem Dev.writeEntry_numbers (h : d.flt.next < 0xFFFFFFFF) (hcls : en.cls < 8) :
    (d.writeEntry en).flt.next = d.flt.next + 1 ∧ (d.writeEntry en).o O.FLT_NEWEST_SEQ = d.flt.next := by
  have hflt : d.displaced.flt = d.flt := by rw [Dev.displaced_eq]
  rw [Dev.writeEntry_enters (by omega), Dev.newest_entered hcls, hflt]
  exact ⟨congrArg (fun f => f.next + 1) hflt, rfl⟩

end

/-! ### A batch written -/

theorem length_rankIns (en : Entry) (l : List Entry) : (rankIns en l).length = l.length + 1 := by
  induction l with
  | nil => rfl
  | cons x l ih =>
    unfold rankIns
    split
    · rfl
    · rw [List.length_cons, ih, List.length_cons]

theorem mem_rankIns {en x : Entry} {l : List Entry} (h : x ∈ rankIns en l) : x = en ∨ x ∈ l := by
  induction l with
  | nil => exact .inl (List.mem_singleton.1 h)
  | cons y l ih =>
    unfold rankIns at h
    split at h
    · exact List.mem_cons.1 h
    · rcases List.mem_cons.1 h with rfl | h
      · exact .inr List.mem_cons_self
      · exact (ih h).imp_right (List.mem_cons_of_mem _)

/-- Sorting by rank keeps the entries and their number. -/
theorem rankSort_keeps (l : List Entry) : (rankSort l).length = l.length ∧ ∀ x ∈ rankSort l, x ∈ l := by
  have h : ∀ (l acc : List Entry), (l.foldl (fun acc en => rankIns en acc) acc).length = acc.length + l.length ∧
      ∀ x ∈ l.foldl (fun acc en => rankIns en acc) acc, x ∈ acc ∨ x ∈ l := by
    intro l
    induction l with
    | nil => exact fun acc => ⟨rfl, fun x hx => .inl hx⟩
    | cons y l ih =>
      intro acc
      obtain ⟨hlen, hmem⟩ := ih (rankIns y acc)
      refine ⟨by rw [List.foldl_cons, hlen, length_rankIns, List.length_cons]; omega, fun x hx => ?_⟩
      rcases hmem x hx with hx | hx
      · rcases mem_rankIns hx with rfl | hx
        · exact .inr List.mem_cons_self
        · exact .inl hx
      · exact .inr (List.mem_cons_of_mem _ hx)
  obtain ⟨hlen, hmem⟩ := h l []
  exact ⟨by rw [rankSort, hlen]; simp, fun x hx => (hmem x hx).resolve_left (by simp)⟩

theorem Dev.writeEntries_keep (l : List Entry) (d : Dev) : Dev.Calm d (l.foldl Dev.writeEntry d) ∧ (l.foldl Dev.writeEntry d).flt.held = d.flt.held :=
  List.foldlRecOn l _ (motive := fun x : Dev => Dev.Calm d x ∧ x.flt.held = d.flt.held) ⟨.refl d, rfl⟩ fun x hx en _ =>
    ⟨hx.1.trans (Dev.writeEntry_keeps x en).1, (Dev.writeEntry_keeps x en).2.trans hx.2⟩

/-- Each entry takes the next number while there are numbers left (R911). -/
theorem Dev.writeEntries_number {l : List Entry} {d : Dev} (hl : l ≠ []) (hcls : ∀ en ∈ l, en.cls < 8)
    (hroom : d.flt.next + l.length ≤ 0xFFFFFFFF) :
    (l.foldl Dev.writeEntry d).flt.next = d.flt.next + l.length ∧
      (l.foldl Dev.writeEntry d).o O.FLT_NEWEST_SEQ = d.flt.next + l.length - 1 := by
  induction l generalizing d with
  | nil => exact absurd rfl hl
  | cons en l ih =>
    rw [List.length_cons] at hroom ⊢
    obtain ⟨hnext, hnew⟩ := Dev.writeEntry_numbers (d := d) (en := en) (by omega) (hcls en List.mem_cons_self)
    rw [List.foldl_cons]
    by_cases hnil : l = []
    · subst hnil
      exact ⟨hnext, hnew⟩
    · obtain ⟨h1, h2⟩ := ih (d := d.writeEntry en) hnil (fun x hx => hcls x (List.mem_cons_of_mem _ hx)) (by rw [hnext]; omega)
      rw [h1, h2, hnext]
      omega

/-- The oldest stamp is that of an entry. -/
theorem mem_of_oldest {l : List Entry} {x : Nat} (h : oldest l = some x) : ∃ en ∈ l, en.time = x := by
  have hgen : ∀ (l : List Entry) (m : Option Nat), l.foldl (fun m en => match m with
      | none => some en.time
      | some t => some (min t en.time)) m = some x → m = some x ∨ ∃ en ∈ l, en.time = x := by
    intro l
    induction l with
    | nil => exact fun m h => .inl h
    | cons en l ih =>
      intro m h
      rw [List.foldl_cons] at h
      rcases ih _ h with hm | ⟨en', hen, ht⟩
      · cases m with
        | none => exact .inr ⟨en, List.mem_cons_self, Option.some.inj hm⟩
        | some t =>
          have hmin : min t en.time = x := Option.some.inj hm
          rcases Nat.le_total t en.time with hle | hle
          · rw [Nat.min_eq_left hle] at hmin
            exact .inl (congrArg some hmin)
          · rw [Nat.min_eq_right hle] at hmin
            exact .inr ⟨en, List.mem_cons_self, hmin⟩
      · exact .inr ⟨en', List.mem_cons_of_mem _ hen, ht⟩
  exact (hgen l none h).resolve_left (by simp)

section
variable {s : State} {h : Hdr}

/-- The entries of a batch, and those that stay held. -/
def Dev.batchOf (d : Dev) (x : Nat) : List Entry := d.flt.held.filter (fun en => en.time ≤ x + d.concWindow)

def Dev.heldAfter (d : Dev) (x : Nat) : Dev :=
  { d with flt := { d.flt with held := d.flt.held.filter (fun en => x + d.concWindow < en.time) } }

theorem Dev.batch_eq {e : Env} {d : Dev} {x : Nat} (hold : oldest d.flt.held = some x) (hdue : x + 256 ≤ e.now) :
    d.batch e = ((rankSort (d.batchOf x)).foldl Dev.writeEntry (d.heldAfter x)).mirror e := by
  unfold Dev.batch
  rw [hold]
  exact if_neg (Nat.not_lt.2 hdue)

theorem Dev.concurs_congr {d d' : Dev} (hflt : d'.flt.lastTime = d.flt.lastTime) (hpwr : d'.pwr = d.pwr) (en : Entry) :
    d'.concurs en = d.concurs en := by
  unfold Dev.concurs Dev.concurrent Dev.concWindow
  rw [hflt, hpwr]

theorem pinFaultN_low {d : Dev} {n : Nat} (h : n ∈ d.flt.unacked) : d.pinFaultN = false := by
  have hne : (d.flt.unacked != []) = true := bne_iff_ne.2 (List.ne_nil_of_mem h)
  unfold Dev.pinFaultN Dev.faultLow
  rw [hne, Bool.or_true]
  rfl

/-- A lone entry fills the slot of its number with its 32 bytes and counts in its class (R911, Table 18-3). -/
theorem Dev.writeEntry_lone {d : Dev} {en : Entry} (hroom : d.flt.next < 0xFFFFFFFF) (hcls : en.cls < 8) :
    (d.writeEntry en).domBytes O.FLT_LOG 0 (32 * (d.flt.next % 256)) 32 = entryBytes en d.flt.next (d.concurs en) ∧
      (d.writeEntry en).o O.FLT_CLASS_COUNT en.cls = ctrAdd O.FLT_CLASS_COUNT en.cls (d.o O.FLT_CLASS_COUNT en.cls) 1 ∧
      (3 ≤ en.cls → d.flt.next ∈ (d.writeEntry en).flt.unacked) := by
  have hflt : d.displaced.flt = d.flt := by rw [Dev.displaced_eq]
  have hpwr : d.displaced.pwr = d.pwr := by rw [Dev.displaced_eq]
  rw [Dev.writeEntry_enters (by omega)]
  refine ⟨?_, ?_, fun h3 => ?_⟩
  · rw [← hflt, Dev.slot_entered, Dev.concurs_congr (congrArg Flt.lastTime hflt) hpwr]
  · rw [Dev.classCount_entered hcls, (Dev.frame_displaced d).o (by omega) (by decide)]
  · show d.flt.next ∈ (if 3 ≤ en.cls then d.displaced.flt.unacked ++ [d.displaced.flt.next] else d.displaced.flt.unacked)
    rw [if_pos h3, hflt]
    exact List.mem_append_right _ (List.mem_singleton_self _)

theorem faultLogBatchWrite_writes {x : Nat} (hq : s.Quiet) (hold : oldest s.dev.flt.held = some x) (hdue : x + 256 ≤ s.clock.time) :
    Leads .faultLogBatchWrite s (fun t => t.dev.flt.held = s.dev.flt.held.filter (fun en => x + s.dev.concWindow < en.time) ∧
      ((∀ en ∈ s.dev.flt.held, en.cls < 8) →
        s.dev.flt.next + (s.dev.flt.held.filter (fun en => en.time ≤ x + s.dev.concWindow)).length ≤ 0xFFFFFFFF →
        t.dev.flt.next = s.dev.flt.next + (s.dev.flt.held.filter (fun en => en.time ≤ x + s.dev.concWindow)).length ∧
        t.dev.o O.FLT_NEWEST_SEQ = t.dev.flt.next - 1) ∧
      (∀ en, s.dev.flt.held = [en] → s.dev.flt.next < 0xFFFFFFFF → en.cls < 8 →
        t.dev.domBytes O.FLT_LOG 0 (32 * (s.dev.flt.next % 256)) 32 = entryBytes en s.dev.flt.next (s.dev.concurs en) ∧
        t.dev.o O.FLT_CLASS_COUNT en.cls = ctrAdd O.FLT_CLASS_COUNT en.cls (s.dev.o O.FLT_CLASS_COUNT en.cls) 1 ∧
        (3 ≤ en.cls → s.dev.flt.next ∈ t.dev.flt.unacked ∧ t.dev.pinFaultN = false))) := by
  obtain ⟨d0, hd0⟩ : ∃ d0, d0 = s.begun.heldAfter x := ⟨_, rfl⟩
  obtain ⟨w, hw⟩ : ∃ w, w = (rankSort (s.dev.batchOf x)).foldl Dev.writeEntry d0 := ⟨_, rfl⟩
  obtain ⟨hcalm, hheld⟩ := Dev.writeEntries_keep (rankSort (s.dev.batchOf x)) d0
  rw [← hw] at hcalm hheld
  have hmirror := Dev.traffic_mirror s.env w
  have hrun : s.begun.batch s.env = w.mirror s.env := by
    rw [Dev.batch_eq (d := s.begun) hold hdue, ← hd0, hw]
    rfl
  obtain ⟨hlen, hmem⟩ := rankSort_keeps (s.dev.batchOf x)
  refine leads_calm (f := fun e d => d.batch e) _ hq rfl hrun ((show Dev.Calm s.begun d0 from hd0 ▸ ⟨rfl, rfl⟩).trans (hcalm.trans hmirror.calm))
    fun t ht => ⟨?_, fun hcls hroom => ?_, fun en hone hroom hcls => ?_⟩
  · rw [ht.flt, hmirror.flt, hheld, hd0]; rfl
  · obtain ⟨en, hen, htime⟩ := mem_of_oldest hold
    have hne : rankSort (s.dev.batchOf x) ≠ [] := by
      have hin : en ∈ s.dev.batchOf x := List.mem_filter.2 ⟨hen, by simp [htime]⟩
      have := List.length_pos_of_mem hin
      exact List.ne_nil_of_length_pos (by omega)
    obtain ⟨hnext, hnew⟩ := Dev.writeEntries_number (d := d0) hne (fun en hen => hcls en (List.mem_of_mem_filter (hmem en hen)))
      (by rw [hlen, hd0]; exact hroom)
    rw [← hw, hlen] at hnext hnew
    rw [ht.o, hmirror.o (by decide) (by decide), ht.flt, hmirror.flt, hnew, hnext, hd0]
    exact ⟨rfl, rfl⟩
  · have hx : en.time = x := by
      obtain ⟨en', hen, htime⟩ := mem_of_oldest hold
      rw [hone] at hen
      rw [← htime, List.mem_singleton.1 hen]
    have hbatch : s.dev.batchOf x = [en] := by
      unfold Dev.batchOf
      rw [hone]
      simp [hx]
    have hlone : w = d0.writeEntry en := by rw [hw, hbatch]; rfl
    obtain ⟨hslot, hcount, hun⟩ := Dev.writeEntry_lone (d := d0) (en := en) (hd0 ▸ hroom) hcls
    have hnext : d0.flt.next = s.dev.flt.next := by rw [hd0]; rfl
    have hconc : d0.concurs en = s.dev.concurs en := by rw [hd0]; rfl
    have ho : d0.o O.FLT_CLASS_COUNT en.cls = s.dev.o O.FLT_CLASS_COUNT en.cls := by rw [hd0]; rfl
    rw [hnext, hconc] at hslot
    rw [ho] at hcount
    rw [hnext] at hun
    have hin : 3 ≤ en.cls → s.dev.flt.next ∈ t.dev.flt.unacked := fun h3 => by rw [ht.flt, hmirror.flt, hlone]; exact hun h3
    refine ⟨?_, ?_, fun h3 => ⟨hin h3, pinFaultN_low (hin h3)⟩⟩
    · rw [Dev.domBytes_congr ht.doms, hmirror.domBytes (by decide) (by omega) (by decide), hlone, hslot]
    · rw [ht.o, hmirror.o (by omega) (by decide), hlone, hcount]

/-! ### Acknowledgement and clearing -/

/-- The device with the entries up to a number acknowledged, the mirror aside (R913, R916). -/
def Dev.acked (d : Dev) (v : Nat) : Dev :=
  let d' := { d.so O.FLT_ACKED_SEQ 0 v with flt := { d.flt with unacked := d.flt.unacked.filter (fun n => v < n) } }
  if d.flt.unacked.filter (fun n => v < n) == [] then d'.clearDom O.FLT_FIRST 0 else d'

theorem Dev.ack_eq {e : Env} {d : Dev} {v : Nat} (h : d.seqAbove v = true) : d.ack e v = (d.acked v).mirror e := by
  unfold Dev.ack
  rw [if_neg (by simp [h])]
  rfl

theorem Dev.acked_keeps (d : Dev) (v : Nat) :
    (d.acked v).flt = { d.flt with unacked := d.flt.unacked.filter (fun n => v < n) } ∧
      (d.acked v).objs = (d.so O.FLT_ACKED_SEQ 0 v).objs ∧ Dev.Calm d (d.acked v) := by
  unfold Dev.acked
  dsimp only
  split
  · exact ⟨rfl, rfl, rfl, rfl⟩
  · exact ⟨rfl, rfl, rfl, rfl⟩

theorem Dev.landEl_fltAck (e : Env) (d : Dev) (n v : Nat) : d.landEl e n O.FLT_ACK 0 v = d.ack e v := by
  iterate 17 refine (if_neg (by decide)).trans ?_
  exact if_pos (by decide)

theorem Dev.landEl_fltClear (e : Env) (d : Dev) (n v : Nat) : d.landEl e n O.FLT_CLEAR 0 v = d.fltClear e := by
  iterate 18 refine (if_neg (by decide)).trans ?_
  exact if_pos (by decide)

theorem fltAck_acknowledges {v : Nat} (hq : s.Quiet) (ha : Accepts s h O.FLT_ACK 0 v) :
    Leads (.fltAck h v) s (fun t =>
      (s.dev.seqAbove v = true → t.dev.o O.FLT_ACKED_SEQ = v ∧ t.dev.flt.unacked = s.dev.flt.unacked.filter (fun n => v < n) ∧
        (s.dev.o O.SU_STATE = 7 → (∀ n ∈ s.dev.flt.unacked, n ≤ v) → t.dev.pinFaultN = true)) ∧
      (s.dev.seqAbove v = false → t.dev.o O.FLT_ACKED_SEQ = s.dev.o O.FLT_ACKED_SEQ ∧
        t.dev.flt.unacked = s.dev.flt.unacked)) := by
  have habove : (s.asked h O.FLT_ACK 0).seqAbove v = s.dev.seqAbove v := by
    unfold Dev.seqAbove
    rw [State.o_asked]
  cases hv : s.dev.seqAbove v
  · have hrun : (s.asked h O.FLT_ACK 0).ack s.env v = s.asked h O.FLT_ACK 0 := if_pos (by rw [habove, hv]; rfl)
    refine leads_lands _ hq ha rfl (by decide) ((Dev.landEl_fltAck ..).trans hrun) (.refl _) fun t ht => ⟨fun hn => absurd hn (by decide), fun _ => ⟨?_, ?_⟩⟩
    · rw [ht.o (by decide) (by decide), State.o_asked]
    · rw [ht.flt, State.flt_asked]
  · obtain ⟨hflt, hobjs, hcalm⟩ := Dev.acked_keeps (s.asked h O.FLT_ACK 0) v
    have hmirror := Dev.traffic_mirror s.env ((s.asked h O.FLT_ACK 0).acked v)
    have hrun := Dev.ack_eq (e := s.env) (habove.trans hv)
    refine leads_lands _ hq ha rfl (by decide) ((Dev.landEl_fltAck ..).trans hrun) (hcalm.trans hmirror.calm) fun t ht => ⟨fun _ => ?_, fun hn => absurd hn (by decide)⟩
    have hun : t.dev.flt.unacked = s.dev.flt.unacked.filter (fun n => v < n) := by
      rw [ht.flt, hmirror.flt, hflt, State.flt_asked]
    refine ⟨?_, hun, fun hsu hall => ?_⟩
    · rw [ht.o (by decide) (by decide), hmirror.o (by decide) (by decide), Dev.o_congr hobjs, Dev.o_so_self]
    · have hnil : t.dev.flt.unacked = [] := by
        rw [hun, List.filter_eq_nil_iff]
        intro n hn
        simpa using hall n hn
      have hst : t.dev.o O.SU_STATE = 7 := by
        rw [ht.o (by decide) (by decide), hmirror.o (by decide) (by decide), Dev.o_congr hobjs,
          Dev.o_so_other (by decide) (by decide) (by decide), State.o_asked, hsu]
      unfold Dev.pinFaultN Dev.faultLow
      rw [hnil, hst]
      rfl

theorem fltClear_empties (hq : s.Quiet) (ha : Accepts s h O.FLT_CLEAR 0 1) :
    Leads (.fltClear h) s (fun t => (∀ i, i < 8192 → t.dev.domByte O.FLT_LOG 0 i = 0) ∧ t.dev.flt.next = s.dev.flt.next) := by
  have hmirror := Dev.traffic_mirror s.env ((s.asked h O.FLT_CLEAR 0).clearDom O.FLT_LOG 0)
  have hclear : Dev.Calm (s.asked h O.FLT_CLEAR 0) ((s.asked h O.FLT_CLEAR 0).clearDom O.FLT_LOG 0) := ⟨rfl, rfl⟩
  refine leads_lands (((s.asked h O.FLT_CLEAR 0).clearDom O.FLT_LOG 0).mirror s.env) hq ha rfl (by decide) (Dev.landEl_fltClear ..)
    (hclear.trans hmirror.calm) fun t ht => ⟨fun i hi => ?_, ?_⟩
  · rw [Dev.domByte_congr ht.doms, hmirror.dom (by decide) (by omega) (by decide)]
    show tget (domDflt O.FLT_LOG i) (tdrop _ (dkey O.FLT_LOG 0 0) 0x2000000) (dkey O.FLT_LOG 0 i) = 0
    rw [tget_tdrop_in _ _ (by unfold dkey; omega) (by unfold dkey; omega)]
    rfl
  · rw [ht.flt, hmirror.flt]
    exact congrArg Flt.next (State.flt_asked s h O.FLT_CLEAR 0)

end

/-- Settles O53: entries are written in the order of rank, each under the next number, and the mirror follows. -/
theorem theFaultLog : Obligations.TheFaultLog :=
  ⟨fun _ _ hq hold hdue => faultLogBatchWrite_writes hq hold hdue, fun _ _ hq => ⟨fun _ => fltAck_acknowledges hq, fltClear_empties hq⟩⟩

end Sys2Proof.Machine
end

section
/-! PROOF. Rounding, the input check, the bias monitors and the digitisers' calibration (chapters 06, 10 and 11). -/

namespace Sys2Proof.Machine

/-! ### Rounding -/

theorem roundHE_cases (q : Rat) : (roundHE q = q.floor ∧ q - (q.floor : Rat) ≤ 1 / 2) ∨ (roundHE q = q.floor + 1 ∧ 1 / 2 ≤ q - (q.floor : Rat)) := by
  unfold roundHE
  dsimp only
  split
  next h => exact .inl ⟨rfl, le_of_lt h⟩
  next h =>
    split
    next h' => exact .inr ⟨rfl, le_of_lt h'⟩
    next h' =>
      split
      · exact .inl ⟨rfl, not_lt.1 h'⟩
      · exact .inr ⟨rfl, not_lt.1 h⟩

/-- The nearest integer lies within a half. -/
theorem roundHE_near (q : Rat) : (roundHE q : Rat) - q ≤ 1 / 2 ∧ q - (roundHE q : Rat) ≤ 1 / 2 := by
  have hlo : (q.floor : Rat) ≤ q := Int.floor_le q
  have hhi : q < (q.floor : Rat) + 1 := Int.lt_floor_add_one q
  rcases roundHE_cases q with ⟨h, hr⟩ | ⟨h, hr⟩
  · rw [h]
    constructor <;> linarith
  · rw [h]
    push_cast
    constructor <;> linarith

/-- An integer is its own rounding. -/
theorem roundHE_intCast (n : Int) : roundHE (n : Rat) = n := by
  obtain ⟨h1, h2⟩ := roundHE_near (n : Rat)
  have hle : roundHE (n : Rat) - n < 1 := by exact_mod_cast lt_of_le_of_lt h1 (show (1 / 2 : Rat) < 1 by norm_num)
  have hge : n - roundHE (n : Rat) < 1 := by exact_mod_cast lt_of_le_of_lt h2 (show (1 / 2 : Rat) < 1 by norm_num)
  omega

/-! ### The input check -/

/-- A fold comes to one of its places: what that place makes and the others keep holds after it. -/
theorem foldl_visits {α β : Type} {f : α → β → α} {P : α → Prop} {xs : List β} {x : β} (hx : x ∈ xs) (hat : ∀ d, P (f d x))
    (hafter : ∀ d, ∀ y ∈ xs, P d → P (f d y)) (d : α) : P (xs.foldl f d) := by
  induction xs generalizing d with
  | nil => exact absurd hx (by simp)
  | cons y ys ih =>
    rw [List.foldl_cons]
    rcases List.mem_cons.1 hx with rfl | hx
    · exact List.foldlRecOn ys f (motive := P) (hat d) fun d hd z hz => hafter d z (List.mem_cons_of_mem _ hz) hd
    · exact ih hx (fun d z hz => hafter d z (List.mem_cons_of_mem _ hz)) _

section
variable {s : State}

/-- An input sorted: its isolation ends, and its status is set where it changes (R330). -/
def Dev.inputPut (e : Env) (d : Dev) (c st : Nat) : Dev :=
  let d := { d with rx := { d.rx with isolated := setBit d.rx.isolated c false } }
  if d.o O.RX_INPUT_STATUS c == st then d else d.inputSet e c st

/-- Sorting an input keeps what calibration holds, and the other inputs. -/
structure Dev.Sorted (c : Nat) (d d' : Dev) : Prop where
  same : Dev.SameJq d d'
  cal : d'.cal = d.cal
  others : ∀ i, i < 4096 → i ≠ c → d'.o O.RX_INPUT_STATUS i = d.o O.RX_INPUT_STATUS i

theorem Dev.cal_inputSet (e : Env) (d : Dev) (ch st : Nat) : (d.inputSet e ch st).cal = d.cal := by
  unfold Dev.inputSet
  dsimp only
  split
  · simp
  · split <;> simp

theorem Dev.o_inputSet_other {e : Env} {d : Dev} {ch st i : Nat} (hch : ch < 4096) (hi : i < 4096) (h : i ≠ ch) :
    (d.inputSet e ch st).o O.RX_INPUT_STATUS i = d.o O.RX_INPUT_STATUS i := by
  have hso : (d.so O.RX_INPUT_STATUS ch st).o O.RX_INPUT_STATUS i = d.o O.RX_INPUT_STATUS i := Dev.o_so_ne hch hi (.inr h)
  unfold Dev.inputSet
  dsimp only
  split
  · rw [Dev.o_log_other (by decide) hi, hso]
  · split
    · rw [Dev.o_log_other (by decide) hi, hso]
    · exact hso

theorem Dev.sorted_inputPut {e : Env} {d : Dev} {c st : Nat} (hc : c < 4096) : Dev.Sorted c d (d.inputPut e c st) := by
  have hend : Dev.Sorted c d { d with rx := { d.rx with isolated := setBit d.rx.isolated c false } } := ⟨⟨rfl, rfl⟩, rfl, fun _ _ _ => rfl⟩
  unfold Dev.inputPut
  dsimp only
  split
  · exact hend
  · exact ⟨hend.same.trans (Dev.sameJq_inputSet ..), (Dev.cal_inputSet ..).trans hend.cal, fun i hi hne =>
      (Dev.o_inputSet_other hc hi hne).trans (hend.others i hi hne)⟩

theorem Dev.o_inputPut {e : Env} {d : Dev} {c st : Nat} (hc : c < 4096) : (d.inputPut e c st).o O.RX_INPUT_STATUS c = st := by
  unfold Dev.inputPut
  dsimp only
  split
  next h => exact beq_iff_eq.1 h
  next => exact Dev.o_inputSet hc

/-- An input sorted by its capacitance, its own response and its neighbours' (R330). -/
def inputClass (d : Dev) (cap resp lo hi : Nat) : Nat :=
  if cap < d.o O.RX_CIN_OPEN_PF then 1 else if resp < 5 then 2 else if 25 < lo ∨ 25 < hi then 4 else 0

/-- The neighbours of an input that respond to its test current. -/
def nearInputs (e : Env) (ch lo hi : Nat) : List Nat :=
  (if 25 < lo && ch != 0 then [ch - 1] else []) ++ (if 25 < hi && ch + 1 < e.channels then [ch + 1] else [])

theorem nearInputs_spec {e : Env} {ch lo hi c : Nat} (hc : c ∈ nearInputs e ch lo hi) (hch : ch < e.channels) : c < e.channels ∧ ch ≠ c := by
  unfold nearInputs at hc
  rcases List.mem_append.1 hc with h | h
  · split at h
    next hlo =>
      have h0 : ch ≠ 0 := by simpa using (Bool.and_eq_true_iff.1 hlo).2
      rw [List.mem_singleton.1 h]
      omega
    next => simp at h
  · split at h
    next hhi =>
      have h1 : ch + 1 < e.channels := by simpa using (Bool.and_eq_true_iff.1 hhi).2
      rw [List.mem_singleton.1 h]
      omega
    next => simp at h

/-- The device with the instant of an input's check. -/
def Dev.checkNoted (e : Env) (d : Dev) (ch : Nat) : Dev := { d with cal := { d.cal with checkAt := tset 0 d.cal.checkAt ch (e.now + 1) } }

theorem Dev.inputCheck_sorts {e : Env} {d : Dev} {ch cap resp lo hi : Nat} (hch : ch < e.channels) (hat : tget 0 d.cal.checkAt ch = 0)
    (hgap : d.gapOk e (ch / 16) = true) (hcal : d.underCal e (d.o O.RX_SLICE_OF ch) = false)
    (hstart : d.calStartup = true → d.rampsDone e = true) :
    d.inputCheck e ch cap resp lo hi =
      if inputClass d cap resp lo hi = 4 then
        (nearInputs e ch lo hi).foldl (fun x c => x.inputPut e c 4) ((d.checkNoted e ch).inputPut e ch 4)
      else (d.checkNoted e ch).inputPut e ch (inputClass d cap resp lo hi) := by
  have hdue : (if d.calStartup then d.rampsDone e
      else tget 0 d.cal.checkAt ch == 0 || tget 0 d.cal.checkAt ch - 1 + d.o O.CAL_INPUT_CHECK_S * 1500000000 ≤ e.now) = true := by
    split
    next h => exact hstart h
    next => rw [hat]; rfl
  have hgo : ¬(decide (e.channels ≤ ch) || !(if d.calStartup then d.rampsDone e
      else tget 0 d.cal.checkAt ch == 0 || tget 0 d.cal.checkAt ch - 1 + d.o O.CAL_INPUT_CHECK_S * 1500000000 ≤ e.now) ||
      !d.gapOk e (ch / 16) || d.underCal e (d.o O.RX_SLICE_OF ch)) = true := by
    rw [hdue, hgap, hcal]
    simpa using hch
  have hclass : (if cap < d.o O.RX_CIN_OPEN_PF then 1 else if resp < 5 then 2 else if (decide (25 < lo) || decide (25 < hi)) = true then 4 else 0) =
      inputClass d cap resp lo hi := by
    unfold inputClass
    simp only [Bool.or_eq_true, decide_eq_true_eq]
  have hrun : d.inputCheck e ch cap resp lo hi =
      if ((if cap < d.o O.RX_CIN_OPEN_PF then 1 else if resp < 5 then 2 else if (decide (25 < lo) || decide (25 < hi)) = true then 4 else 0) == 4) = true then
        (nearInputs e ch lo hi).foldl (fun x c => x.inputPut e c 4) ((d.checkNoted e ch).inputPut e ch 4)
      else (d.checkNoted e ch).inputPut e ch
        (if cap < d.o O.RX_CIN_OPEN_PF then 1 else if resp < 5 then 2 else if (decide (25 < lo) || decide (25 < hi)) = true then 4 else 0) :=
    if_neg hgo
  rw [hrun, hclass]
  simp only [beq_iff_eq]

theorem inputCheck_classifies {ch cap resp lo hi : Nat} (hq : s.Quiet) (hch : ch < s.env.channels) (hat : tget 0 s.dev.cal.checkAt ch = 0)
    (hgap : s.dev.gapOk s.env (ch / 16) = true) (hcal : s.dev.underCal s.env (s.dev.o O.RX_SLICE_OF ch) = false)
    (hstart : s.dev.calStartup = true → s.dev.rampsDone s.env = true) :
    Leads (.inputCheck ch cap resp lo hi) s (fun t => tget 0 t.dev.cal.checkAt ch = s.clock.time + 1 ∧
      t.dev.o O.RX_INPUT_STATUS ch = inputClass s.dev cap resp lo hi) := by
  have hlt : ch < 4096 := by have := s.env.channels_le; omega
  have hrun := Dev.inputCheck_sorts (d := s.begun) (cap := cap) (resp := resp) (lo := lo) (hi := hi) hch hat hgap hcal hstart
  have hput := fun st => Dev.sorted_inputPut (e := s.env) (d := s.begun.checkNoted s.env ch) (st := st) hlt
  have hcalm : Dev.Calm s.begun (s.begun.checkNoted s.env ch) := ⟨rfl, rfl⟩
  have hnoted : tget 0 (s.begun.checkNoted s.env ch).cal.checkAt ch = s.clock.time + 1 :=
    tget_tset_self 0 s.dev.cal.checkAt ch (s.env.now + 1)
  by_cases h4 : inputClass s.dev cap resp lo hi = 4
  · rw [if_pos (show inputClass s.begun cap resp lo hi = 4 from h4)] at hrun
    have hnear : Dev.SameJq ((s.begun.checkNoted s.env ch).inputPut s.env ch 4) (s.begun.inputCheck s.env ch cap resp lo hi) ∧
        (s.begun.inputCheck s.env ch cap resp lo hi).cal = ((s.begun.checkNoted s.env ch).inputPut s.env ch 4).cal ∧
        (s.begun.inputCheck s.env ch cap resp lo hi).o O.RX_INPUT_STATUS ch = 4 := by
      rw [hrun]
      refine List.foldlRecOn (nearInputs s.env ch lo hi) _ (motive := fun x : Dev =>
        Dev.SameJq ((s.begun.checkNoted s.env ch).inputPut s.env ch 4) x ∧
        x.cal = ((s.begun.checkNoted s.env ch).inputPut s.env ch 4).cal ∧ x.o O.RX_INPUT_STATUS ch = 4)
        ⟨.refl _, rfl, Dev.o_inputPut hlt⟩ fun x hx c hc => ?_
      obtain ⟨hsame, hcal', ho⟩ := hx
      obtain ⟨hcch, hne⟩ := nearInputs_spec hc hch
      have hs := Dev.sorted_inputPut (e := s.env) (d := x) (c := c) (st := 4) (by have := s.env.channels_le; omega)
      exact ⟨hsame.trans hs.same, hs.cal.trans hcal', (hs.others ch hlt hne).trans ho⟩
    obtain ⟨hsame, hcal', ho⟩ := hnear
    refine leads_calm (f := fun e d => d.inputCheck e ch cap resp lo hi) _ hq rfl rfl (hcalm.trans (.of_same ((hput 4).same.trans hsame)))
      fun t ht => ⟨?_, ?_⟩
    · rw [ht.cal, hcal', (hput 4).cal, hnoted]
    · rw [ht.o, ho, h4]
  · rw [if_neg (show ¬inputClass s.begun cap resp lo hi = 4 from h4)] at hrun
    refine leads_calm (f := fun e d => d.inputCheck e ch cap resp lo hi) _ hq rfl hrun (hcalm.trans (.of_same (hput _).same)) fun t ht => ⟨?_, ?_⟩
    · rw [ht.cal, (hput _).cal, hnoted]
    · rw [ht.o, Dev.o_inputPut hlt]
      rfl

/-! ### The bias monitors -/

/-- The correction kept of an output. -/
def Dev.biasCorrSet (d : Dev) (b : Nat) (x : Int) : Dev := { d with cal := { d.cal with biasCorr := tset 0 d.cal.biasCorr b x } }

/-- The correction of an output by its monitor, in mV (R590). -/
def Dev.biasCorrected (e : Env) (readings : List Int) (d : Dev) (b : Nat) : Dev :=
  if !d.ob O.RX_BIAS_ENABLE b then d
  else
    let hk : Rat := 1000 * d.of32 O.HK_PHYS (24 + b)
    let v : Rat := ((intAt readings b + tget 0 d.cal.biasCorr b : Int) : Rat)
    let diff := v - hk
    let d := d.biasCorrSet b (tget 0 d.cal.biasCorr b - roundHE diff)
    let rest := diff - (roundHE diff : Rat)
    let d := d.so O.RX_BIAS_V_MEAS b (clampI 0 65535 (roundHE (v - (roundHE diff : Rat)))).toNat
    let err : Int := if hk = 0 then 0 else clampI (-32768) 32767 (roundHE (10000 * rest / hk))
    let d := d.so O.CAL_BIAS_ERR b (ofS 16 err)
    if (if diff < 0 then -diff else diff) * 100 > hk then d.log e 0x0414 (biasLoc b 6) 1 else d

/-- The value that an output's monitor shows: within a half mV of what housekeeping measures. -/
def Dev.BiasShown (hk : Rat) (b : Nat) (d : Dev) : Prop :=
  ∃ n : Int, (n : Rat) - hk ≤ 1 / 2 ∧ hk - (n : Rat) ≤ 1 / 2 ∧ d.o O.RX_BIAS_V_MEAS b = (clampI 0 65535 n).toNat

/-- The correction of an output leaves the other outputs, what enables it and what housekeeping measures. -/
structure Dev.BiasCompared (b : Nat) (d d' : Dev) : Prop where
  frame : Dev.Frame [O.RX_BIAS_V_MEAS, O.CAL_BIAS_ERR, O.FLT_LOST] d d'
  same : Dev.SameJq d d'
  at_ : d'.cal.biasAt = d.cal.biasAt
  others : ∀ c, c < 4096 → c ≠ b → d'.o O.RX_BIAS_V_MEAS c = d.o O.RX_BIAS_V_MEAS c

theorem Dev.biasCorrected_spec {e : Env} {readings : List Int} {d : Dev} {b : Nat} (hb : b < 4096) :
    Dev.BiasCompared b d (d.biasCorrected e readings b) ∧
      (d.ob O.RX_BIAS_ENABLE b = true → Dev.BiasShown (1000 * d.of32 O.HK_PHYS (24 + b)) b (d.biasCorrected e readings b)) := by
  unfold Dev.biasCorrected
  cases hen : d.ob O.RX_BIAS_ENABLE b
  · exact ⟨⟨.refl _ d, .refl d, rfl, fun _ _ _ => rfl⟩, fun h => absurd h (by decide)⟩
  · rw [if_neg (by decide)]
    extract_lets +onlyGivenNames hk v diff d1 rest d2 err d3
    have h1 : Dev.BiasCompared b d d1 := ⟨.of_objs rfl, ⟨rfl, rfl⟩, rfl, fun _ _ _ => rfl⟩
    have h2 : Dev.Frame [O.RX_BIAS_V_MEAS, O.CAL_BIAS_ERR, O.FLT_LOST] d1 d3 := (Dev.Frame.so hb (by decide)).trans (.so hb (by decide))
    have hshown : Dev.BiasShown hk b d3 := by
      refine ⟨intAt readings b + tget 0 d.cal.biasCorr b - roundHE diff, ?_, ?_, ?_⟩
      · have := (roundHE_near diff).2
        push_cast at this ⊢
        simp only [diff, v] at this ⊢
        push_cast at this ⊢
        linarith
      · have := (roundHE_near diff).1
        simp only [diff, v] at this ⊢
        push_cast at this ⊢
        linarith
      · have hint : v - (roundHE diff : Rat) = ((intAt readings b + tget 0 d.cal.biasCorr b - roundHE diff : Int) : Rat) := by
          simp only [v]
          push_cast
          ring
        exact (Dev.o_so_other (d := d2) (by decide) hb hb).trans ((Dev.o_so_self d1 ..).trans (by rw [hint, roundHE_intCast]))
    have hothers : ∀ c, c < 4096 → c ≠ b → d3.o O.RX_BIAS_V_MEAS c = d.o O.RX_BIAS_V_MEAS c := fun c hc hne =>
      (Dev.o_so_other (d := d2) (by decide) hb hc).trans ((Dev.o_so_ne (d := d1) hb hc (.inr hne)).trans rfl)
    by_cases hfar : (if diff < 0 then -diff else diff) * 100 > hk
    · rw [if_pos hfar]
      refine ⟨⟨(h1.frame.trans h2).trans (.log (by decide)), ⟨by rw [Dev.jq_log]; rfl, by rw [Dev.pwr_log]; rfl⟩, by rw [Dev.cal_log]; rfl,
        fun c hc hne => (Dev.o_log_other (by decide) hc).trans (hothers c hc hne)⟩, fun _ => ?_⟩
      obtain ⟨n, hn1, hn2, ho⟩ := hshown
      exact ⟨n, hn1, hn2, (Dev.o_log_other (by decide) hb).trans ho⟩
    · rw [if_neg hfar]
      exact ⟨⟨h1.frame.trans h2, ⟨rfl, rfl⟩, rfl, hothers⟩, fun _ => hshown⟩

theorem Env.biases_le (e : Env) : e.biases ≤ 8 := by
  unfold Env.biases
  split <;> decide

theorem biasMonitorCompare_shows {l : List Int} (hq : s.Quiet) (hdue : s.dev.cal.biasAt + 15000000000 ≤ s.clock.time) :
    Leads (.biasMonitorCompare l) s (fun t => t.dev.cal.biasAt = s.clock.time ∧
      ∀ b, b < s.env.biases → s.dev.ob O.RX_BIAS_ENABLE b = true → Dev.BiasShown (1000 * s.dev.of32 O.HK_PHYS (24 + b)) b t.dev) := by
  obtain ⟨d0, hd0⟩ : ∃ d0, d0 = { s.begun with cal := { s.dev.cal with biasAt := s.env.now } } := ⟨_, rfl⟩
  have hsteps : ∀ b, b < s.env.biases → b < 4096 := fun b hb => by have := s.env.biases_le; omega
  have hrun : s.begun.biasCompare s.env l = (List.range s.env.biases).foldl (Dev.biasCorrected s.env l) d0 := by
    rw [hd0]
    exact if_neg (Nat.not_lt.2 hdue)
  have hkeep : ∀ (d : Dev) b, b < s.env.biases → Dev.BiasCompared b d (d.biasCorrected s.env l b) := fun d b hb =>
    (Dev.biasCorrected_spec (hsteps b hb)).1
  obtain ⟨hframe, hsame, hat⟩ : Dev.Frame [O.RX_BIAS_V_MEAS, O.CAL_BIAS_ERR, O.FLT_LOST] d0 (s.begun.biasCompare s.env l) ∧
      Dev.SameJq d0 (s.begun.biasCompare s.env l) ∧ (s.begun.biasCompare s.env l).cal.biasAt = d0.cal.biasAt := by
    rw [hrun]
    refine List.foldlRecOn (List.range s.env.biases) _ (motive := fun x : Dev => Dev.Frame [O.RX_BIAS_V_MEAS, O.CAL_BIAS_ERR, O.FLT_LOST] d0 x ∧
      Dev.SameJq d0 x ∧ x.cal.biasAt = d0.cal.biasAt) ⟨.refl _ _, .refl _, rfl⟩ fun x hx b hb => ?_
    obtain ⟨hf, hs, ha⟩ := hx
    have hk := hkeep x b (List.mem_range.1 hb)
    exact ⟨hf.trans hk.frame, hs.trans hk.same, hk.at_.trans ha⟩
  refine leads_calm (f := fun e d => d.biasCompare e l) _ hq rfl rfl ((show Dev.Calm s.begun d0 from hd0 ▸ ⟨rfl, rfl⟩).trans (.of_same hsame))
    fun t ht => ⟨by rw [ht.cal, hat, hd0]; rfl, fun b hb hen => ?_⟩
  have hshown : Dev.BiasShown (1000 * s.dev.of32 O.HK_PHYS (24 + b)) b (s.begun.biasCompare s.env l) := by
    rw [hrun]
    refine foldl_range_visits (K := fun x : Dev => Dev.Frame [O.RX_BIAS_V_MEAS, O.CAL_BIAS_ERR, O.FLT_LOST] d0 x)
      (fun x c hc _ hx => hx.trans (hkeep x c hc).frame) (fun x hx => ?_) (fun x c hc hne hx => ?_) hb (.refl _ d0)
    · have hhk : x.of32 O.HK_PHYS (24 + b) = s.dev.of32 O.HK_PHYS (24 + b) := by
        unfold Dev.of32
        rw [hx.o (by have := s.env.biases_le; omega) (by decide), hd0]
        rfl
      have hxen : x.ob O.RX_BIAS_ENABLE b = true := by
        unfold Dev.ob at hen ⊢
        rw [hx.o (hsteps b hb) (by decide), hd0]
        exact hen
      rw [← hhk]
      exact (Dev.biasCorrected_spec (hsteps b hb)).2 hxen
    · obtain ⟨n, h1, h2, ho⟩ := hx
      exact ⟨n, h1, h2, ((hkeep x c hc).others b (hsteps b hb) hne.symm).trans ho⟩
  obtain ⟨n, h1, h2, ho⟩ := hshown
  exact ⟨n, h1, h2, (ht.o ..).trans ho⟩

/-! ### A digitiser's new values -/

theorem mem_tset {α : Type} [DecidableEq α] {d : α} {m : Tab α} {k : Nat} {v : α} {p : Nat × α} (h : p ∈ tset d m k v) :
    p = (k, v) ∨ (p ∈ m ∧ p.1 ≠ k) := by
  unfold tset at h
  split at h
  · exact .inr (mem_tdel h)
  · exact (mem_tins h).imp_right mem_tdel

theorem mem_tins_self {α : Type} (m : Tab α) (k : Nat) (v : α) : (k, v) ∈ tins m k v := by
  induction m with
  | nil => exact List.mem_singleton_self _
  | cons p t ih =>
    rw [tins_cons]
    split
    · exact List.mem_cons_self
    · exact List.mem_cons_of_mem _ ih

/-- The values of a slice in force (R512). -/
def Dev.dgTake (d : Dev) (p : Nat × Option (Int × Int × Int)) : Dev :=
  match p.2 with
  | some v => d.sos [(O.DG_OFFSET, p.1, ofS 16 v.1), (O.DG_GAIN, p.1, ofS 16 v.2.1), (O.DG_SKEW_TRIM, p.1, ofS 16 v.2.2)]
  | none => d

theorem Dev.dgTake_eq (d : Dev) (p : Nat × Option (Int × Int × Int)) : d.dgTake p = { d with objs := (d.dgTake p).objs } := by
  unfold Dev.dgTake
  split
  · unfold Dev.sos
    rfl
  · rfl

/-- A slice's three values. -/
def Dev.DgHas (n : Nat) (v : Int × Int × Int) (d : Dev) : Prop :=
  d.o O.DG_OFFSET n = ofS 16 v.1 ∧ d.o O.DG_GAIN n = ofS 16 v.2.1 ∧ d.o O.DG_SKEW_TRIM n = ofS 16 v.2.2

theorem Dev.dgTake_has (d : Dev) {n : Nat} (v : Int × Int × Int) (hn : n < 4096) : Dev.DgHas n v (d.dgTake (n, some v)) := by
  have hso : ∀ {d : Dev} {i j x}, j ≠ i → (d.so i n x).o j n = d.o j n := fun hij => Dev.o_so_other hij hn hn
  show Dev.DgHas n v (((d.so O.DG_OFFSET n _).so O.DG_GAIN n _).so O.DG_SKEW_TRIM n _)
  refine ⟨?_, ?_, Dev.o_so_self ..⟩
  · rw [hso (by decide), hso (by decide), Dev.o_so_self]
  · rw [hso (by decide), Dev.o_so_self]

theorem Dev.DgHas.other {d : Dev} {n : Nat} {v : Int × Int × Int} {p : Nat × Option (Int × Int × Int)} (h : Dev.DgHas n v d) (hn : n < 4096)
    (hp : p.1 < 4096) (hne : p.1 ≠ n) : Dev.DgHas n v (d.dgTake p) := by
  unfold Dev.dgTake
  split
  · next w _ =>
    have hso : ∀ {d : Dev} {i j x}, (d.so i p.1 x).o j n = d.o j n := Dev.o_so_ne hp hn (.inr hne.symm)
    show Dev.DgHas n v (((d.so O.DG_OFFSET p.1 _).so O.DG_GAIN p.1 _).so O.DG_SKEW_TRIM p.1 _)
    unfold Dev.DgHas at h ⊢
    simp only [hso]
    exact h
  · exact h

theorem digitiserCalibration_takes {n : Nat} {temp : Int} {v : Int × Int × Int} {gain tim off : Nat} (hq : s.Quiet) (hn : n < 32)
    (hdue : s.dev.dgDue s.env n temp = true) (hpair : s.dev.paired n = false) (hjq : s.dev.o O.JQ_STATE = 0)
    (hnew : ∀ p ∈ s.dev.cal.dgNew, p.1 < 32) :
    Leads (.digitiserCalibration n temp [v] gain tim off) s (fun t => t.dev.o O.DG_OFFSET n = ofS 16 v.1 ∧
      t.dev.o O.DG_GAIN n = ofS 16 v.2.1 ∧ t.dev.o O.DG_SKEW_TRIM n = ofS 16 (toS 16 (s.dev.o O.DG_SKEW_TRIM n)) ∧
      tget 0 t.dev.cal.dgAt n = s.clock.time + 1) := by
  obtain ⟨w, hw⟩ : ∃ w, w = (v.1, v.2.1, toS 16 (s.dev.o O.DG_SKEW_TRIM n)) := ⟨_, rfl⟩
  obtain ⟨d0, hd0⟩ : ∃ d0 : Dev, d0 = { s.begun with cal := { s.dev.cal with
    dgNew := tset none s.dev.cal.dgNew n (some w), dgAt := tset 0 s.dev.cal.dgAt n (s.env.now + 1),
    dgTemp := tset 0 s.dev.cal.dgTemp n temp } } := ⟨_, rfl⟩
  obtain ⟨d1, hd1⟩ : ∃ d1, d1 = d0.cal.dgNew.foldl Dev.dgTake d0 := ⟨_, rfl⟩
  have hrun : s.begun.dgCal s.env n temp [v] gain tim off = { d1 with cal := { d1.cal with dgNew := [] } } := by
    have hput : s.begun.dgCal s.env n temp [v] gain tim off = s.begun.dgPut s.env n temp w := by
      rw [hw]
      exact (if_neg (by rw [show s.begun.dgDue s.env n temp = true from hdue]; decide)).trans
        (if_pos (by rw [show s.begun.paired n = false from hpair]; rfl))
    have hland : s.begun.dgPut s.env n temp w = d0.dgLand := by
      rw [hd0]
      exact if_pos (beq_iff_eq.2 hjq)
    rw [hput, hland, hd1]
    rfl
  have hrest : d1 = { d0 with objs := d1.objs } := by
    rw [hd1]
    refine List.foldlRecOn d0.cal.dgNew Dev.dgTake (motive := fun x : Dev => x = { d0 with objs := x.objs }) rfl fun x hx p _ => ?_
    rw [Dev.dgTake_eq, hx]
  have hlist : d0.cal.dgNew = tset none s.dev.cal.dgNew n (some w) := by rw [hd0]
  have hhas : Dev.DgHas n w d1 := by
    rw [hd1, hlist]
    refine foldl_visits (x := (n, some w)) ?_ (fun d => Dev.dgTake_has d w (by omega)) (fun d p hp hd => ?_) d0
    · unfold tset
      rw [if_neg (by simp)]
      exact mem_tins_self ..
    · rcases mem_tset hp with rfl | ⟨hp', hne⟩
      · exact Dev.dgTake_has d w (by omega)
      · exact hd.other (by omega) (by have := hnew p hp'; omega) hne
  obtain ⟨hoff, hgain, hskew⟩ := hhas
  have hcal : d1.cal = d0.cal := by rw [hrest]
  refine leads_calm (f := fun e d => d.dgCal e n temp [v] gain tim off) _ hq rfl hrun ⟨?_, ?_⟩ fun t ht => ⟨?_, ?_, ?_, ?_⟩
  · rw [hrest, hd0]
  · rw [hrest, hd0]
  · rw [ht.o]; exact hoff.trans (by rw [hw])
  · rw [ht.o]; exact hgain.trans (by rw [hw])
  · rw [ht.o]; exact hskew.trans (by rw [hw])
  · rw [ht.cal]
    show tget 0 d1.cal.dgAt n = _
    rw [hcal, hd0]
    exact tget_tset_self 0 s.dev.cal.dgAt n (s.env.now + 1)

/-- Settles O34. -/
theorem checksAndMonitors : Obligations.ChecksAndMonitors :=
  fun _ hq => ⟨fun _ _ _ _ _ hch hat hgap hcal hstart => inputCheck_classifies hq hch hat hgap hcal hstart,
    fun _ hdue => biasMonitorCompare_shows hq hdue,
    fun _ _ _ _ _ _ hn hdue hpair hjq hnew => digitiserCalibration_takes hq hn hdue hpair hjq hnew⟩

end

end Sys2Proof.Machine
end

section
/-! PROOF. The slots of Atlas: modes, photocurrent channels, the trace and injection (chapter 12). -/

namespace Sys2Proof.Machine

/-! ### Slots -/

section
variable {e : Env} {d d' : Dev} {q k : Nat} {x : Slot}

@[simp] theorem Dev.slot_setSlot (d : Dev) (q : Nat) (x : Slot) : (d.setSlot q x).slot q = x := tget_tset_self ..

theorem Dev.slot_setSlot_other (h : k ≠ q) : (d.setSlot q x).slot k = d.slot k := tget_tset_ne _ _ _ _ h

@[simp] theorem Dev.o_setSlot (d : Dev) (q : Nat) (x : Slot) (i el : Nat) : (d.setSlot q x).o i el = d.o i el := rfl

theorem Dev.calm_setSlot (d : Dev) (q : Nat) (x : Slot) : Dev.Calm d (d.setSlot q x) := ⟨rfl, rfl⟩

theorem Dev.slot_congr (h : d'.atl = d.atl) (q : Nat) : d'.slot q = d.slot q := by
  unfold Dev.slot
  rw [h]

theorem Dev.bridge_congr (h : d'.atl = d.atl) (n : Nat) : d'.bridge n = d.bridge n := by
  unfold Dev.bridge
  rw [h]

theorem Dev.atl_hmEval (e : Env) (d : Dev) : (d.hmEval e).atl = d.atl := by rw [HmFrom.hmEval.rest]

theorem Dev.frame_hmEval (e : Env) (d : Dev) : Dev.Frame hmIdx d (d.hmEval e) := ⟨fun hel hi => Dev.o_hmEval hi hel⟩

theorem Dev.calm_hmEval (e : Env) (d : Dev) : Dev.Calm d (d.hmEval e) := .of_hm .hmEval

theorem Dev.coilOf_lt {c : Nat} (h : d.coilOf q = some c) : c < 2 := by
  unfold Dev.coilOf at h
  split at h
  · obtain rfl := Option.some.inj h; decide
  · split at h
    · obtain rfl := Option.some.inj h; decide
    · exact absurd h (by simp)

theorem Dev.coilOf_congr (h : d'.o O.ATL_OUT q = d.o O.ATL_OUT q) : d'.coilOf q = d.coilOf q := by
  unfold Dev.coilOf
  rw [h]

theorem Dev.coilSet_eq (d : Dev) (q v : Nat) : d.coilSet q v = { d with objs := (d.coilSet q v).objs } := by
  unfold Dev.coilSet
  split <;> rfl

theorem Dev.frame_coilSet (d : Dev) (q v : Nat) : Dev.Frame [O.ATL_COIL_STATUS] d (d.coilSet q v) := by
  unfold Dev.coilSet
  split
  next c hc => exact .so (Nat.lt_trans (Dev.coilOf_lt hc) (by decide)) (List.mem_singleton_self _)
  next => exact .refl _ d

theorem Dev.o_coilSet {c v : Nat} (h : d.coilOf q = some c) : (d.coilSet q v).o O.ATL_COIL_STATUS c = v := by
  unfold Dev.coilSet
  rw [h]
  exact Dev.o_so_self ..

theorem Dev.calm_coilSet (d : Dev) (q v : Nat) : Dev.Calm d (d.coilSet q v) := by
  rw [Dev.coilSet_eq]
  exact ⟨rfl, rfl⟩

/-! ### The trace -/

/-- The objects that a trigger of the trace changes. -/
def traceIdx : List Nat := [O.ATL_TR_STATE, O.ATL_TR_TIME]

theorem Dev.traceTrig_keeps (e : Env) (d : Dev) (b : Nat) :
    Dev.Frame traceIdx d (d.traceTrig e b) ∧ Dev.Calm d (d.traceTrig e b) ∧ (d.traceTrig e b).atl.slots = d.atl.slots := by
  unfold Dev.traceTrig
  split
  · have hset : Dev.Frame traceIdx d ((d.so O.ATL_TR_STATE 0 2).so O.ATL_TR_TIME 0 e.now) :=
      (Dev.Frame.so (by decide) (by decide)).trans (.so (by decide) (by decide))
    exact ⟨hset.trans (.of_objs rfl), ⟨rfl, rfl⟩, rfl⟩
  · exact ⟨.refl _ d, .refl d, rfl⟩

/-- A trigger that the armed trace waits for. -/
theorem Dev.traceTrig_fires {b : Nat} (h : d.o O.ATL_TR_STATE = 1) (hb : bit (d.o O.ATL_TR_TRIG) b = true) :
    (d.traceTrig e b).o O.ATL_TR_STATE = 2 ∧ (d.traceTrig e b).o O.ATL_TR_TIME = e.now ∧ (d.traceTrig e b).atl.post = d.o O.ATL_TR_POST := by
  have hrun : d.traceTrig e b = { (d.so O.ATL_TR_STATE 0 2).so O.ATL_TR_TIME 0 e.now with atl := { d.atl with post := d.o O.ATL_TR_POST } } :=
    if_pos (by rw [h, hb]; rfl)
  rw [hrun]
  exact ⟨(Dev.o_so_other (d := d.so O.ATL_TR_STATE 0 2) (by decide) (by decide) (by decide)).trans (Dev.o_so_self ..), Dev.o_so_self (d.so ..) ..,
    rfl⟩

theorem Dev.landEl_traceArm (e : Env) (d : Dev) (ss v : Nat) : d.landEl e ss O.ATL_TR_ARM 0 v = d.traceArm e v := rfl

theorem Dev.landEl_injRun (e : Env) (d : Dev) (ss q v : Nat) : d.landEl e ss O.ATL_INJ_RUN q v = d.injRun e q v := rfl

theorem Dev.injRun_stop (e : Env) (d : Dev) (q : Nat) :
    d.injRun e q 0 = (d.so O.ATL_INJ_RUN q 0).setSlot q { ((d.so O.ATL_INJ_RUN q 0).slot q) with injAt := none } := by
  unfold Dev.injRun
  exact if_pos rfl

/-- The device with a slot's injection running. -/
def Dev.withInj (e : Env) (d : Dev) (q : Nat) : Dev :=
  (d.so O.ATL_INJ_RUN q 1).setSlot q { ((d.so O.ATL_INJ_RUN q 1).slot q) with injAt := some e.now }

theorem Dev.injRun_start (h : (d.slot q).injAt = none) : d.injRun e q 1 = ((d.withInj e q).traceTrig e 3).hmEval e := by
  unfold Dev.injRun
  exact (if_neg (by decide)).trans (if_neg (by rw [Dev.slot_congr (d := d) (d' := d.so ..) rfl, h]; decide))

/-! ### A slot's ways into its modes -/

theorem Dev.slotDown_eq (h : d.o O.ATL_STATE q ≠ 0) :
    d.slotDown e q = (((d.so O.ATL_STATE q 0).so O.ATL_CLEAN_MS q 0).setSlot q { (d.slot q) with ramp := true, cleanAt := none }).hmEval e :=
  if_neg fun hn => h (beq_iff_eq.1 hn)

theorem Dev.coilOf_slotOff_start (hq : q < 4096) : ((d.so O.ATL_STATE q 0).so O.ATL_CLEAN_MS q 0).coilOf q = d.coilOf q :=
  Dev.coilOf_congr ((Dev.o_so_other (by decide) hq hq).trans (Dev.o_so_other (by decide) hq hq))

/-- A slot turned off: its state, its driver and its command (R630). -/
theorem Dev.slotOff_spec (e : Env) (d : Dev) {status : Nat} (hq : q < 4096) :
    (d.slotOff e q status).o O.ATL_STATE q = 0 ∧ (∀ c, d.coilOf q = some c → (d.slotOff e q status).o O.ATL_COIL_STATUS c = status) ∧
      (d.slotOff e q status).slot q = { (d.slot q).setStage 7 {} with ramp := false, cleanAt := none, limited := 0 } ∧
      Dev.Calm d (d.slotOff e q status) := by
  obtain ⟨w, hw⟩ : ∃ w, w = (d.so O.ATL_STATE q 0).so O.ATL_CLEAN_MS q 0 := ⟨_, rfl⟩
  obtain ⟨x, hx⟩ : ∃ x : Slot, x = { (d.slot q).setStage 7 {} with ramp := false, cleanAt := none, limited := 0 } := ⟨_, rfl⟩
  have hrun : d.slotOff e q status = ((w.coilSet q status).setSlot q x).hmEval e := by rw [hw, hx]; rfl
  have hstart : Dev.Calm d w := by rw [hw]; exact (Dev.Calm.so ..).trans (.so ..)
  rw [hrun, ← hx]
  refine ⟨?_, fun c hc => ?_, ?_, ?_⟩
  · rw [Dev.o_hmEval (by decide) hq, Dev.o_setSlot, (Dev.frame_coilSet ..).o hq (by decide), hw, Dev.o_so_other (by decide) hq hq,
      Dev.o_so_self]
  · rw [Dev.o_hmEval (by decide) (Nat.lt_trans (Dev.coilOf_lt hc) (by decide)), Dev.o_setSlot,
      Dev.o_coilSet ((hw ▸ Dev.coilOf_slotOff_start hq).trans hc)]
  · rw [Dev.slot_congr (Dev.atl_hmEval ..), Dev.slot_setSlot]
  · exact ((hstart.trans (Dev.calm_coilSet ..)).trans (Dev.calm_setSlot ..)).trans (Dev.calm_hmEval ..)

theorem Dev.calm_freeVal (d : Dev) (n : Nat) : Dev.Calm d (d.freeVal n).2 := ⟨rfl, rfl⟩

theorem Dev.calm_preset (d : Dev) (q : Nat) (off : Bool) : Dev.Calm d (d.preset q off) := by
  unfold Dev.preset
  extract_lets +onlyGivenNames x th om c g ff i0
  have hfree : Dev.Calm d i0.2 := by
    simp only [i0]
    split
    · exact .refl d
    · split
      · exact Dev.calm_freeVal d 32
      · exact .refl d
  extract_lets
  exact (Dev.Calm.ite hfree (hfree.trans (.inc ..))).trans (Dev.calm_setSlot ..)

/-- A slot's entry to MODEL_HOLD, up to a saturation and the slot's stages (R635). -/
theorem Dev.slotHold_eq (e : Env) (d : Dev) (q cause : Nat) : ∃ (d1 : Dev) (x : Slot), (d1 = d ∨ d1 = d.inc O.ATL_SAT q) ∧
    x.due = (d.slot q).due ∧ d.slotHold e q cause = (((((((d1.setSlot q x).so O.ATL_STATE q 3).so O.ATL_HOLD_CAUSE q cause).so
      O.ATL_CLEAN_MS q 0)).inc O.ATL_HOLDS q).traceTrig e 0).hmEval e := by
  unfold Dev.slotHold
  extract_lets +onlyGivenNames x th st2 d1
  refine ⟨d1, _, ?_, ?_, rfl⟩
  · simp only [d1]
    split
    · exact .inl rfl
    · exact .inr rfl
  · rfl

/-- What a slot's entry to MODEL_HOLD leaves (R635). -/
theorem Dev.slotHold_spec (e : Env) (d : Dev) {cause : Nat} (hq : q < 4096) :
    (d.slotHold e q cause).o O.ATL_STATE q = 3 ∧ (d.slotHold e q cause).o O.ATL_HOLD_CAUSE q = cause ∧
      (d.slotHold e q cause).o O.ATL_HOLDS q = ctrAdd O.ATL_HOLDS q (d.o O.ATL_HOLDS q) 1 ∧ Dev.Calm d (d.slotHold e q cause) := by
  obtain ⟨d1, x, hd1, -, hrun⟩ := Dev.slotHold_eq e d q cause
  have hcalm : Dev.Calm d d1 := by
    rcases hd1 with h | h
    · rw [h]; exact .refl d
    · rw [h]; exact .inc ..
  have hholds : d1.o O.ATL_HOLDS q = d.o O.ATL_HOLDS q := by
    rcases hd1 with h | h
    · rw [h]
    · rw [h, Dev.o_inc_other (by decide) hq hq]
  have hso : ∀ {d : Dev} {i j v}, j ≠ i → (d.so i q v).o j q = d.o j q := fun hij => Dev.o_so_other hij hq hq
  have hinc : ∀ {d : Dev} {i j v}, j ≠ i → (d.inc i q v).o j q = d.o j q := fun hij => Dev.o_inc_other hij hq hq
  rw [hrun]
  have htrig := fun d' : Dev => (Dev.traceTrig_keeps e d' 0).1
  refine ⟨?_, ?_, ?_, ?_⟩
  · rw [Dev.o_hmEval (by decide) hq, (htrig _).o hq (by decide), hinc (by decide), hso (by decide), hso (by decide), Dev.o_so_self]
  · rw [Dev.o_hmEval (by decide) hq, (htrig _).o hq (by decide), hinc (by decide), hso (by decide), Dev.o_so_self]
  · rw [Dev.o_hmEval (by decide) hq, (htrig _).o hq (by decide), Dev.o_inc_self, hso (by decide), hso (by decide), hso (by decide)]
    rw [Dev.o_setSlot, hholds]
  · have hset : Dev.Calm d1 (((((d1.setSlot q x).so O.ATL_STATE q 3).so O.ATL_HOLD_CAUSE q cause).so O.ATL_CLEAN_MS q 0).inc O.ATL_HOLDS q) :=
      (Dev.calm_setSlot ..).trans ((Dev.Calm.so ..).trans ((Dev.Calm.so ..).trans ((Dev.Calm.so ..).trans (.inc ..))))
    exact ((hcalm.trans hset).trans (Dev.traceTrig_keeps ..).2.1).trans (Dev.calm_hmEval ..)

end

/-! ### What a write of ATL_MODE does (Table 12-6) -/

section
variable {e : Env} {d : Dev} {q : Nat}

theorem Dev.atlMode_off (h : d.o O.ATL_STATE q ≠ 0) : d.atlMode e q 0 = (d.so O.ATL_MODE q 0).slotDown e q :=
  if_neg fun hn => h (beq_iff_eq.1 hn).symm

theorem Dev.atlMode_manual_off (h : d.o O.ATL_STATE q = 0) (hout : (d.so O.ATL_MODE q 1).o O.ATL_OUT q ≠ 0) :
    ∃ x, d.atlMode e q 1 = (((d.so O.ATL_MODE q 1).so O.ATL_STATE q 1).coilSet q 1).setSlot q x := by
  unfold Dev.atlMode
  dsimp only
  rw [h, if_neg (by decide), if_neg (by decide), if_pos (by decide), if_pos (by decide), if_pos (bne_iff_ne.2 hout)]
  exact ⟨_, rfl⟩

theorem Dev.atlMode_manual (h : d.o O.ATL_STATE q = 2 ∨ d.o O.ATL_STATE q = 3) :
    d.atlMode e q 1 = ((((d.so O.ATL_MODE q 1).so O.ATL_MAN_I q (ofS 32 (roundHE ((d.slot q).u * 1000)))).so O.ATL_STATE q 1).so
      O.ATL_CLEAN_MS q 0).hmEval e := by
  unfold Dev.atlMode
  dsimp only
  rw [if_neg (by rcases h with h | h <;> rw [h] <;> decide), if_neg (by decide), if_pos (by decide),
    if_neg (by rcases h with h | h <;> rw [h] <;> decide)]
  rfl

theorem Dev.atlMode_closed (h : d.o O.ATL_STATE q ≠ 2) (hout : (d.so O.ATL_MODE q 2).o O.ATL_OUT q ≠ 0) :
    d.atlMode e q 2 = (d.so O.ATL_MODE q 2).slotClose e q := by
  unfold Dev.atlMode
  dsimp only
  rw [if_neg fun hn => h (beq_iff_eq.1 hn).symm, if_neg (by decide), if_neg (by decide), if_pos (by decide), if_pos (bne_iff_ne.2 hout)]

theorem Dev.atlMode_hold (h : d.o O.ATL_STATE q = 2) :
    d.atlMode e q 3 = ((d.so O.ATL_MODE q 3).holdLog e q 63).slotHold e q 6 := by
  unfold Dev.atlMode
  dsimp only
  rw [h, if_neg (by decide), if_neg (by decide), if_neg (by decide), if_neg (by decide), if_pos (by decide), if_pos (by decide)]

end

/-! ### Writes of ATL_MODE -/

section
variable {s : State} {h : Hdr} {q : Nat}

/-- The device as a mode takes it, its value written. -/
def State.moded (s : State) (h : Hdr) (q v : Nat) : Dev := (s.asked h O.ATL_MODE q).so O.ATL_MODE q v

theorem State.o_moded (s : State) (h : Hdr) {q v i : Nat} (hq : q < 4096) (hi : i ≠ O.ATL_MODE) : (s.moded h q v).o i q = s.dev.o i q :=
  (Dev.o_so_other hi hq hq).trans (State.o_asked ..)

theorem State.slot_moded (s : State) (h : Hdr) (q v k : Nat) : (s.moded h q v).slot k = s.dev.slot k :=
  Dev.slot_congr (State.atl_asked s h O.ATL_MODE q) k

/-- A mode that the value written names. -/
theorem leads_atlMode {c : Instr} {v : Nat} {P : State → Prop} (d : Dev) (hq : s.Quiet) (ha : Accepts s h O.ATL_MODE q v)
    (hc : exec c s = write1 h O.ATL_MODE q v s) (hd : (s.asked h O.ATL_MODE q).atlMode s.env q v = d) (hk : Dev.Calm (s.moded h q v) d)
    (hP : ∀ t, s.Replied d t → P t) : Leads c s P :=
  leads_lands d hq ha hc (by decide) hd ((show Dev.Calm (s.asked h O.ATL_MODE q) (s.moded h q v) from .so ..).trans hk) hP

theorem atlModeOff_ramps (hq : s.Quiet) (hlt : q < 4) (ha : Accepts s h O.ATL_MODE q 0) (hst : s.dev.o O.ATL_STATE q ≠ 0) :
    Leads (.atlModeOff h q) s (fun t => t.dev.o O.ATL_STATE q = 0 ∧ (t.dev.slot q).ramp = true ∧ (t.dev.slot q).u = (s.dev.slot q).u) := by
  have h4 : q < 4096 := by omega
  have hrun := Dev.slotDown_eq (e := s.env) (d := s.moded h q 0) (q := q) (by rw [State.o_moded s h h4 (by decide)]; exact hst)
  have hslot : ∀ t, s.Replied ((s.moded h q 0).slotDown s.env q) t →
      t.dev.slot q = { (s.dev.slot q) with ramp := true, cleanAt := none } := fun t ht => by
    rw [Dev.slot_congr ht.atl, hrun, Dev.slot_congr (Dev.atl_hmEval ..), Dev.slot_setSlot, State.slot_moded]
  refine leads_atlMode _ hq ha rfl (Dev.atlMode_off ((State.o_asked ..).trans_ne hst)) ?_ fun t ht => ⟨?_, ?_, ?_⟩
  · show Dev.Calm (s.moded h q 0) ((s.moded h q 0).slotDown s.env q)
    rw [hrun]
    exact (((Dev.Calm.so ..).trans (.so ..)).trans (Dev.calm_setSlot ..)).trans (Dev.calm_hmEval ..)
  · rw [ht.o (by decide) h4]
    show ((s.moded h q 0).slotDown s.env q).o O.ATL_STATE q = 0
    rw [hrun, Dev.o_hmEval (by decide) h4, Dev.o_setSlot, Dev.o_so_other (by decide) h4 h4, Dev.o_so_self]
  · rw [hslot t ht]
  · rw [hslot t ht]; rfl

theorem atlModeManual_from_off (hq : s.Quiet) (hlt : q < 4) (ha : Accepts s h O.ATL_MODE q 1) (hst : s.dev.o O.ATL_STATE q = 0)
    (hout : s.dev.o O.ATL_OUT q ≠ 0) : Leads (.atlModeManual h q) s (fun t => t.dev.o O.ATL_STATE q = 1) := by
  have h4 : q < 4096 := by omega
  have hbound : (s.moded h q 1).o O.ATL_OUT q ≠ 0 := by rw [State.o_moded s h h4 (by decide)]; exact hout
  obtain ⟨x, hrun⟩ := Dev.atlMode_manual_off (e := s.env) (d := s.asked h O.ATL_MODE q) ((State.o_asked ..).trans hst) hbound
  refine leads_atlMode _ hq ha rfl hrun ((Dev.Calm.trans (.so ..) (Dev.calm_coilSet ..)).trans (Dev.calm_setSlot ..)) fun t ht => ?_
  rw [ht.o (by decide) h4, Dev.o_setSlot, (Dev.frame_coilSet ..).o h4 (by decide), Dev.o_so_self]

theorem atlModeManual_holds_command (hq : s.Quiet) (hlt : q < 4) (ha : Accepts s h O.ATL_MODE q 1)
    (hst : s.dev.o O.ATL_STATE q = 2 ∨ s.dev.o O.ATL_STATE q = 3) :
    Leads (.atlModeManual h q) s (fun t => t.dev.o O.ATL_STATE q = 1 ∧
      t.dev.o O.ATL_MAN_I q = ofS 32 (roundHE ((s.dev.slot q).u * 1000))) := by
  have h4 : q < 4096 := by omega
  have hso : ∀ {d : Dev} {i j x}, j ≠ i → (d.so i q x).o j q = d.o j q := fun hij => Dev.o_so_other hij h4 h4
  have hrun := Dev.atlMode_manual (e := s.env) (d := s.asked h O.ATL_MODE q) (q := q) (by rw [State.o_asked]; exact hst)
  rw [Dev.slot_congr (State.atl_asked s h O.ATL_MODE q)] at hrun
  refine leads_atlMode _ hq ha rfl hrun (((Dev.Calm.so ..).trans ((Dev.Calm.so ..).trans (.so ..))).trans (Dev.calm_hmEval ..))
    fun t ht => ⟨?_, ?_⟩
  · rw [ht.o (by decide) h4, Dev.o_hmEval (by decide) h4, hso (by decide), Dev.o_so_self]
  · rw [ht.o (by decide) h4, Dev.o_hmEval (by decide) h4, hso (by decide), hso (by decide), Dev.o_so_self]

theorem atlModeClosed_closes (hq : s.Quiet) (hlt : q < 4) (ha : Accepts s h O.ATL_MODE q 2) (hst : s.dev.o O.ATL_STATE q ≠ 2)
    (hout : s.dev.o O.ATL_OUT q ≠ 0) :
    Leads (.atlModeClosed h q) s (fun t => t.dev.o O.ATL_STATE q = 2 ∧ t.dev.o O.ATL_CLEAN_MS q = 0) := by
  have h4 : q < 4096 := by omega
  have hbound : (s.moded h q 2).o O.ATL_OUT q ≠ 0 := by rw [State.o_moded s h h4 (by decide)]; exact hout
  obtain ⟨p, hp⟩ : ∃ p, p = (s.moded h q 2).preset q ((s.moded h q 2).o O.ATL_STATE q == 0) := ⟨_, rfl⟩
  have hcalm : Dev.Calm (s.moded h q 2) p := hp ▸ Dev.calm_preset ..
  have hcoil := Dev.frame_coilSet ((p.so O.ATL_STATE q 2).so O.ATL_CLEAN_MS q 0) q 1
  have hrun : (s.asked h O.ATL_MODE q).atlMode s.env q 2 = (((p.so O.ATL_STATE q 2).so O.ATL_CLEAN_MS q 0).coilSet q 1).hmEval s.env := by
    rw [Dev.atlMode_closed ((State.o_asked ..).trans_ne hst) hbound, hp]
    rfl
  refine leads_atlMode _ hq ha rfl hrun
    (((hcalm.trans ((Dev.Calm.so ..).trans (.so ..))).trans (Dev.calm_coilSet ..)).trans (Dev.calm_hmEval ..)) fun t ht => ⟨?_, ?_⟩
  · rw [ht.o (by decide) h4, Dev.o_hmEval (by decide) h4, hcoil.o h4 (by decide), Dev.o_so_other (by decide) h4 h4, Dev.o_so_self]
  · rw [ht.o (by decide) h4, Dev.o_hmEval (by decide) h4, hcoil.o h4 (by decide), Dev.o_so_self]

theorem atlModeModelHold_holds (hq : s.Quiet) (hlt : q < 4) (ha : Accepts s h O.ATL_MODE q 3) (hst : s.dev.o O.ATL_STATE q = 2) :
    Leads (.atlModeModelHold h q) s (fun t => t.dev.o O.ATL_STATE q = 3 ∧ t.dev.o O.ATL_HOLD_CAUSE q = 6 ∧
      t.dev.o O.ATL_HOLDS q = ctrAdd O.ATL_HOLDS q (s.dev.o O.ATL_HOLDS q) 1) := by
  have h4 : q < 4096 := by omega
  obtain ⟨hstate, hcause, hholds, hcalm⟩ := Dev.slotHold_spec s.env ((s.moded h q 3).holdLog s.env q 63) (cause := 6) h4
  refine leads_atlMode (((s.moded h q 3).holdLog s.env q 63).slotHold s.env q 6) hq ha rfl (Dev.atlMode_hold ((State.o_asked ..).trans hst))
    ((Dev.Calm.log _).trans hcalm) fun t ht => ⟨?_, ?_, ?_⟩
  · rw [ht.o (by decide) h4, hstate]
  · rw [ht.o (by decide) h4, hcause]
  · rw [ht.o (by decide) h4, hholds, Dev.holdLog, Dev.o_log_other (by decide) h4, State.o_moded s h h4 (by decide)]

theorem atlOffRampDone_turns_off (hq : s.Quiet) (hlt : q < 4) (hst : s.dev.o O.ATL_STATE q = 0) (hramp : (s.dev.slot q).ramp = true)
    (hu : (s.dev.slot q).u = 0) :
    Leads (.atlOffRampDone q) s (fun t => (t.dev.slot q).ramp = false ∧
      ∀ c, s.dev.coilOf q = some c → t.dev.o O.ATL_COIL_STATUS c = 0) := by
  obtain ⟨-, hcoil, hslot, hcalm⟩ := Dev.slotOff_spec s.env s.begun (q := q) (status := 0) (by omega)
  have hgo : (s.begun.o O.ATL_STATE q == 0 && (s.begun.slot q).ramp && decide ((s.begun.slot q).u = 0)) = true := by
    rw [State.o_begun, hst, show s.begun.slot q = s.dev.slot q from rfl, hramp, hu]
    rfl
  refine leads_calm (f := fun e d => d.rampDone e q) (s.begun.slotOff s.env q 0) hq rfl (if_pos hgo) hcalm fun t ht => ⟨?_, fun c hc => ?_⟩
  · rw [Dev.slot_congr ht.atl, hslot]
  · rw [ht.o]; exact hcoil c hc

/-! ### Photocurrent channels -/

variable {p : Nat}

/-- A channel's TIA seen: its status, and what it keeps of a saturation; nothing of its publication changes. -/
theorem Dev.pdTia_spec (e : Env) (d : Dev) {p : Nat} (sat : Bool) (hp : p < 4096) (hst : d.o O.PD_STATUS p ≠ 2) :
    Dev.Frame [O.PD_STATUS] d (d.pdTia e p sat) ∧ Dev.Calm d (d.pdTia e p sat) ∧ (d.pdTia e p sat).atl.pdAt = d.atl.pdAt ∧
      (d.pdTia e p sat).atl.pdShot = d.atl.pdShot ∧ (d.pdTia e p sat).o O.PD_STATUS p ≠ 2 ∧
      (sat = true → (d.pdTia e p sat).o O.PD_STATUS p = 3) := by
  have hset : ∀ {d d' : Dev} {v : Nat}, v ≠ 2 → d'.objs = (d.so O.PD_STATUS p v).objs → d'.o O.PD_STATUS p ≠ 2 := fun hv ho => by
    rw [Dev.o_congr ho, Dev.o_so_self]; exact hv
  unfold Dev.pdTia
  dsimp only
  cases sat
  · rw [if_pos (by rfl)]
    split
    · have hone : Dev.Frame [O.PD_STATUS] d (d.so O.PD_STATUS p 1) := .so hp (List.mem_singleton_self _)
      exact ⟨hone.trans (.of_objs rfl), ⟨rfl, rfl⟩, rfl, rfl, hset (d := d) (v := 1) (by decide) rfl, fun h => absurd h (by decide)⟩
    · exact ⟨.of_objs rfl, ⟨rfl, rfl⟩, rfl, rfl, hst, fun h => absurd h (by decide)⟩
  · rw [if_neg (by decide), if_neg fun h => hst (beq_iff_eq.1 h)]
    split
    · exact ⟨.so hp (List.mem_singleton_self _), ⟨rfl, rfl⟩, rfl, rfl, by rw [Dev.o_so_self]; decide, fun _ => Dev.o_so_self ..⟩
    · have hsat : Dev.Frame [O.PD_STATUS] d { d with atl := { d.atl with pdSat := tset none d.atl.pdSat p (some e.now) } } := .of_objs rfl
      exact ⟨hsat.trans (.so hp (List.mem_singleton_self _)), ⟨rfl, rfl⟩, rfl, rfl, by rw [Dev.o_so_self]; decide, fun _ => Dev.o_so_self ..⟩

/-- The device with a channel's publication noted. -/
def Dev.pdNoted (e : Env) (d : Dev) (p : Nat) : Dev :=
  { d with atl := { d.atl with pdAt := tset 0 d.atl.pdAt p e.now, pdShot := setBit d.atl.pdShot p false } }

theorem Dev.pdPublish_eq {e : Env} {d : Dev} {v : Nat} {sat : Bool} (hp : p < 4) (hmode : d.o O.PD_MODE p ≠ 0)
    (hdue : tget 0 (d.pdTia e p sat).atl.pdAt p + (d.pdTia e p sat).o O.PD_AVG_MS p * 1500000 ≤ e.now)
    (hst : (d.pdTia e p sat).o O.PD_STATUS p ≠ 2) :
    d.pdPublish e p v sat =
      if d.o O.PD_MODE p == 2 && !bit (d.pdTia e p sat).atl.pdShot p then
        (if sat then (d.pdTia e p sat).pdNoted e p else ((d.pdTia e p sat).pdNoted e p).so O.PD_STATUS p 4)
      else (((d.pdTia e p sat).pdNoted e p).so O.PD_VALUE p v).so O.PD_STATUS p (if sat then 3 else 1) := by
  refine (if_neg ?_).trans ((if_neg (Nat.not_lt.2 hdue)).trans (if_neg ?_))
  · simp [hmode]; omega
  · exact fun h => hst (beq_iff_eq.1 h)

theorem pdPublish_publishes {v : Nat} {sat : Bool} (hq : s.Quiet) (hp : p < 4) (hmode : s.dev.o O.PD_MODE p ≠ 0)
    (hdue : tget 0 s.dev.atl.pdAt p + s.dev.o O.PD_AVG_MS p * 1500000 ≤ s.clock.time) (hst : s.dev.o O.PD_STATUS p ≠ 2) :
    Leads (.pdPublish p v sat) s (fun t => tget 0 t.dev.atl.pdAt p = s.clock.time ∧
      if s.dev.o O.PD_MODE p = 2 ∧ bit s.dev.atl.pdShot p = false then
        t.dev.o O.PD_VALUE p = s.dev.o O.PD_VALUE p ∧ t.dev.o O.PD_STATUS p = if sat then 3 else 4
      else t.dev.o O.PD_VALUE p = v ∧ t.dev.o O.PD_STATUS p = if sat then 3 else 1) := by
  have h4 : p < 4096 := by omega
  obtain ⟨hframe, hcalm, hat, hshot, hst', hsat⟩ := Dev.pdTia_spec s.env s.begun sat h4 hst
  have hrun := Dev.pdPublish_eq (d := s.begun) (e := s.env) (v := v) (sat := sat) hp hmode
    (by rw [hat, hframe.o h4 (by decide)]; exact hdue) hst'
  obtain ⟨w, hw⟩ : ∃ w, w = (s.begun.pdTia s.env p sat).pdNoted s.env p := ⟨_, rfl⟩
  have hwcalm : Dev.Calm s.begun w := hcalm.trans (hw ▸ ⟨rfl, rfl⟩)
  have hwat : tget 0 w.atl.pdAt p = s.clock.time := by
    rw [hw]; exact tget_tset_self 0 (s.begun.pdTia s.env p sat).atl.pdAt p s.env.now
  have hwo : ∀ i, w.o i p = (s.begun.pdTia s.env p sat).o i p := fun i => by rw [hw]; rfl
  rw [← hw, hshot, State.o_begun, State.atl_begun] at hrun
  by_cases hcase : s.dev.o O.PD_MODE p = 2 ∧ bit s.dev.atl.pdShot p = false
  · rw [if_pos (by simp [hcase])] at hrun
    rw [show (fun t : State => tget 0 t.dev.atl.pdAt p = s.clock.time ∧ if s.dev.o O.PD_MODE p = 2 ∧ bit s.dev.atl.pdShot p = false then
        t.dev.o O.PD_VALUE p = s.dev.o O.PD_VALUE p ∧ t.dev.o O.PD_STATUS p = if sat then 3 else 4
      else t.dev.o O.PD_VALUE p = v ∧ t.dev.o O.PD_STATUS p = if sat then 3 else 1) = fun t : State => tget 0 t.dev.atl.pdAt p = s.clock.time ∧
        t.dev.o O.PD_VALUE p = s.dev.o O.PD_VALUE p ∧ t.dev.o O.PD_STATUS p = if sat then 3 else 4 from funext fun t => by rw [if_pos hcase]]
    have hval : w.o O.PD_VALUE p = s.dev.o O.PD_VALUE p := (hwo _).trans (hframe.o h4 (by decide))
    cases sat
    · rw [if_neg (by decide)] at hrun
      refine leads_calm (f := fun e d => d.pdPublish e p v false) _ hq rfl hrun (hwcalm.trans (.so ..)) fun t ht => ⟨?_, ?_, ?_⟩
      · rw [ht.atl]; exact hwat
      · rw [ht.o, Dev.o_so_other (by decide) h4 h4, hval]
      · rw [ht.o, Dev.o_so_self]; rfl
    · rw [if_pos rfl] at hrun
      refine leads_calm (f := fun e d => d.pdPublish e p v true) _ hq rfl hrun hwcalm fun t ht => ⟨?_, ?_, ?_⟩
      · rw [ht.atl]; exact hwat
      · rw [ht.o, hval]
      · rw [ht.o, hwo, hsat rfl]; rfl
  · rw [if_neg (by simpa using hcase)] at hrun
    rw [show (fun t : State => tget 0 t.dev.atl.pdAt p = s.clock.time ∧ if s.dev.o O.PD_MODE p = 2 ∧ bit s.dev.atl.pdShot p = false then
        t.dev.o O.PD_VALUE p = s.dev.o O.PD_VALUE p ∧ t.dev.o O.PD_STATUS p = if sat then 3 else 4
      else t.dev.o O.PD_VALUE p = v ∧ t.dev.o O.PD_STATUS p = if sat then 3 else 1) = fun t : State => tget 0 t.dev.atl.pdAt p = s.clock.time ∧
        t.dev.o O.PD_VALUE p = v ∧ t.dev.o O.PD_STATUS p = if sat then 3 else 1 from funext fun t => by rw [if_neg hcase]]
    refine leads_calm (f := fun e d => d.pdPublish e p v sat) _ hq rfl hrun (hwcalm.trans ⟨rfl, rfl⟩) fun t ht => ⟨?_, ?_, ?_⟩
    · rw [ht.atl]; exact hwat
    · rw [ht.o, Dev.o_so_other (by decide) h4 h4, Dev.o_so_self]
    · rw [ht.o, Dev.o_so_self]

theorem pdRange_is_stale {v : Nat} (hq : s.Quiet) (hp : p < 4) (ha : Accepts s h O.PD_RANGE p v) (hmode : s.dev.o O.PD_MODE p ≠ 0)
    (hne : s.dev.o O.PD_RANGE p ≠ v) :
    Leads (.pdRange h p v) s (fun t => t.dev.o O.PD_RANGE p = v ∧ t.dev.o O.PD_STATUS p = 2 ∧
      tget none t.dev.atl.pdStale p = some (0, s.clock.time)) := by
  have h4 : p < 4096 := by omega
  obtain ⟨a, ha'⟩ : ∃ a, a = (s.asked h O.PD_RANGE p).so O.PD_RANGE p v := ⟨_, rfl⟩
  have hao : a.o O.PD_MODE p = s.dev.o O.PD_MODE p := by rw [ha', Dev.o_so_other (by decide) h4 h4, State.o_asked]
  have hrun : (s.asked h O.PD_RANGE p).pdRange s.env p v =
      (({ a with atl := { a.atl with pdStale := tset none a.atl.pdStale p (some (0, s.env.now)) } } : Dev).so O.PD_STATUS p 2).pdNoSat p := by
    rw [ha']
    refine (if_neg ?_).trans (if_neg ?_)
    · exact fun h => hne ((State.o_asked ..).symm.trans (beq_iff_eq.1 h).symm)
    · exact fun h => hmode (hao.symm.trans (by rw [ha']; exact beq_iff_eq.1 h))
  have hobj : ∀ i, ((({ a with atl := { a.atl with pdStale := tset none a.atl.pdStale p (some (0, s.env.now)) } } : Dev).so
      O.PD_STATUS p 2).pdNoSat p).o i p = (a.so O.PD_STATUS p 2).o i p := fun _ => rfl
  refine leads_lands _ hq ha rfl (by decide) hrun ?_ fun t ht => ⟨?_, ?_, ?_⟩
  · exact (show Dev.Calm (s.asked h O.PD_RANGE p) a from ha' ▸ .so ..).trans ⟨rfl, rfl⟩
  · rw [ht.o (by decide) h4, hobj, Dev.o_so_other (by decide) h4 h4, ha', Dev.o_so_self]
  · rw [ht.o (by decide) h4, hobj, Dev.o_so_self]
  · rw [ht.atl]; exact tget_tset_self none a.atl.pdStale p (some (0, s.env.now))

theorem pdStaleEnd_ends {c at_ : Nat} (hq : s.Quiet) (hst : s.dev.o O.PD_STATUS p = 2) (hmode : s.dev.o O.PD_MODE p ≠ 0)
    (hstale : tget none s.dev.atl.pdStale p = some (c, at_)) (hdue : at_ + 3000000 ≤ c + s.clock.time) :
    Leads (.pdStaleEnd p) s (fun t => t.dev.o O.PD_STATUS p = if (tget none s.dev.atl.pdSat p).isSome then 3 else 1) := by
  have hconv : 3000000 ≤ (s.begun.pdConv s.env p).getD 0 := by
    unfold Dev.pdConv
    rw [State.atl_begun, hstale, State.o_begun, Option.map_some, Option.getD_some, if_neg (by simpa using hmode)]
    show 3000000 ≤ c + (s.clock.time - at_)
    omega
  refine leads_calm (f := fun e d => d.pdStaleEnd e p) _ hq rfl (if_pos (by simp [hst, hconv])) ⟨rfl, rfl⟩ fun t ht => ?_
  rw [ht.o]
  exact Dev.o_so_self s.begun O.PD_STATUS p _

theorem pdSatHold_logs {x : Nat} (hq : s.Quiet) (hsat : tget none s.dev.atl.pdSat p = some x) (hst : s.dev.o O.PD_STATUS p = 3)
    (hdue : x + 1500000000 ≤ s.clock.time) (hlog : bit s.dev.atl.pdLogged p = false) :
    Leads (.pdSatHold p) s (fun t => bit t.dev.atl.pdLogged p = true ∧ Logged s t 0x0A20 0) := by
  obtain ⟨w, hw⟩ : ∃ w : Dev, w = { s.begun with atl := { s.dev.atl with pdLogged := setBit s.dev.atl.pdLogged p true } } := ⟨_, rfl⟩
  have hgo : (s.begun.o O.PD_STATUS p == 3 && !bit s.begun.atl.pdLogged p && decide (x + 1500000000 ≤ s.env.now)) = true := by
    rw [State.o_begun, hst, State.atl_begun, hlog, Bool.not_false, beq_self_eq_true, Bool.and_self, Bool.true_and,
      decide_eq_true (show x + 1500000000 ≤ s.env.now from hdue)]
  have hrun : s.begun.pdSatHold s.env p = w.log s.env 0x0A20 (locCode 1 10 (16 + p) 63 127 10) 0 := by
    unfold Dev.pdSatHold
    rw [State.atl_begun, hsat, hw]
    exact if_pos hgo
  refine leads_calm (f := fun e d => d.pdSatHold e p) _ hq rfl hrun ((show Dev.Calm s.begun w from hw ▸ ⟨rfl, rfl⟩).trans (.log w))
    fun t ht => ⟨?_, fun hroom => ?_⟩
  · rw [ht.atl, Dev.atl_log, hw]
    exact bit_setBit_true ..
  · rw [ht.flt]
    exact Dev.exists_held_log (by rw [hw]; exact Nat.lt_trans hroom (by decide))

/-! ### The trace and injection -/

theorem atlTrArm_arms (hq : s.Quiet) (ha : Accepts s h O.ATL_TR_ARM 0 1) : Leads (.atlTrArm h) s (fun t => t.dev.o O.ATL_TR_STATE = 1) := by
  refine leads_lands ((s.asked h O.ATL_TR_ARM 0).so O.ATL_TR_STATE 0 1) hq ha rfl (by decide) rfl (.so ..) fun t ht => ?_
  rw [ht.o (by decide) (by decide), Dev.o_so_self]

theorem atlTrTrigger_triggers (hq : s.Quiet) (ha : Accepts s h O.ATL_TR_ARM 0 2) (hst : s.dev.o O.ATL_TR_STATE = 1)
    (htrig : bit (s.dev.o O.ATL_TR_TRIG) 2 = true) :
    Leads (.atlTrTrigger h) s (fun t => t.dev.o O.ATL_TR_STATE = 2 ∧ t.dev.o O.ATL_TR_TIME = s.clock.time ∧
      t.dev.atl.post = s.dev.o O.ATL_TR_POST) := by
  obtain ⟨a, ha'⟩ : ∃ a, a = s.asked h O.ATL_TR_ARM 0 := ⟨_, rfl⟩
  have hao : ∀ i, a.o i = s.dev.o i := fun i => by rw [ha', State.o_asked]
  obtain ⟨hstate, htime, hpost⟩ := Dev.traceTrig_fires (e := s.env) (d := a) (b := 2) ((hao _).trans hst) ((congrArg (bit · 2) (hao _)).trans htrig)
  have hcalm := (Dev.traceTrig_keeps s.env a 2).2.1
  have hland : a.landEl s.env h.sess O.ATL_TR_ARM 0 2 = a.traceTrig s.env 2 := (Dev.landEl_traceArm ..).trans (if_neg (by decide))
  obtain ⟨w, hw⟩ : ∃ w, w = a.traceTrig s.env 2 := ⟨_, rfl⟩
  rw [← hw] at hstate htime hpost hcalm hland
  subst ha'
  refine leads_lands w hq ha rfl (by decide) hland hcalm fun t ht => ⟨?_, ?_, ?_⟩
  · rw [ht.o (by decide) (by decide), hstate]
  · rw [ht.o (by decide) (by decide), htime]
    rfl
  · rw [ht.atl, hpost]
    exact hao _

theorem traceFreeze_freezes (hq : s.Quiet) (hst : s.dev.o O.ATL_TR_STATE = 2) (hpost : s.dev.atl.post = 0) :
    Leads .traceFreeze s (fun t => t.dev.o O.ATL_TR_STATE = 3) := by
  refine leads_calm (f := fun _ d => d.traceFreeze) (s.begun.so O.ATL_TR_STATE 0 3) hq rfl (if_pos (by simp [hst, hpost])) (.so ..) fun t ht => ?_
  rw [ht.o, Dev.o_so_self]

theorem atlInjStart_starts (hq : s.Quiet) (hp : p < 4) (ha : Accepts s h O.ATL_INJ_RUN p 1) (hinj : (s.dev.slot p).injAt = none) :
    Leads (.atlInjStart h p) s (fun t => (t.dev.slot p).injAt = some s.clock.time ∧ t.dev.o O.ATL_INJ_RUN p = 1) := by
  have h4 : p < 4096 := by omega
  obtain ⟨a, ha'⟩ : ∃ a, a = s.asked h O.ATL_INJ_RUN p := ⟨_, rfl⟩
  have hslot : a.slot p = s.dev.slot p := by rw [ha']; exact Dev.slot_congr (State.atl_asked s h O.ATL_INJ_RUN p) p
  obtain ⟨hframe, hcalm, hslots⟩ := Dev.traceTrig_keeps s.env (a.withInj s.env p) 3
  have hrun : a.landEl s.env h.sess O.ATL_INJ_RUN p 1 = ((a.withInj s.env p).traceTrig s.env 3).hmEval s.env :=
    (Dev.landEl_injRun ..).trans (Dev.injRun_start (by rw [hslot, hinj]))
  have hstart : Dev.Calm a (a.withInj s.env p) := (Dev.Calm.so ..).trans (Dev.calm_setSlot ..)
  subst ha'
  refine leads_lands _ hq ha rfl (by decide) hrun (hstart.trans (hcalm.trans (Dev.calm_hmEval ..))) fun t ht => ⟨?_, ?_⟩
  · have hsl : ∀ d : Dev, (d.withInj s.env p).slot p = { (d.slot p) with injAt := some s.clock.time } := fun d => Dev.slot_setSlot ..
    have hkeep : ∀ d d' : Dev, d'.atl.slots = d.atl.slots → d'.slot p = d.slot p := fun d d' hs => by
      unfold Dev.slot
      rw [hs]
    rw [Dev.slot_congr ht.atl, Dev.slot_congr (Dev.atl_hmEval ..), hkeep _ _ hslots, hsl]
  · rw [ht.o (by decide) h4, Dev.o_hmEval (by decide) h4, hframe.o h4 (by decide)]
    exact Dev.o_so_self (s.asked h O.ATL_INJ_RUN p) O.ATL_INJ_RUN p 1

theorem atlInjStop_stops (hq : s.Quiet) (hp : p < 4) (ha : Accepts s h O.ATL_INJ_RUN p 0) :
    Leads (.atlInjStop h p) s (fun t => (t.dev.slot p).injAt = none ∧ t.dev.o O.ATL_INJ_RUN p = 0) := by
  have h4 : p < 4096 := by omega
  obtain ⟨a, ha'⟩ : ∃ a, a = s.asked h O.ATL_INJ_RUN p := ⟨_, rfl⟩
  have hrun : a.landEl s.env h.sess O.ATL_INJ_RUN p 0 = _ :=
    (Dev.landEl_injRun ..).trans (Dev.injRun_stop ..)
  subst ha'
  refine leads_lands _ hq ha rfl (by decide) hrun ((Dev.Calm.so ..).trans (Dev.calm_setSlot ..)) fun t ht => ⟨?_, ?_⟩
  · rw [Dev.slot_congr ht.atl, Dev.slot_setSlot]
  · rw [ht.o (by decide) h4]
    exact Dev.o_so_self (s.asked h O.ATL_INJ_RUN p) O.ATL_INJ_RUN p 0

/-- Settles O37. -/
theorem atlasModesAndMonitors : Obligations.AtlasModesAndMonitors :=
  ⟨fun _ _ _ hq hlt => ⟨atlModeOff_ramps hq hlt, atlModeManual_from_off hq hlt, atlModeManual_holds_command hq hlt,
      atlModeClosed_closes hq hlt, atlModeModelHold_holds hq hlt, atlOffRampDone_turns_off hq hlt⟩,
    fun _ _ _ hq hp => ⟨fun _ _ hmode hdue hst => pdPublish_publishes hq hp hmode hdue hst,
      fun _ ha hmode hne => pdRange_is_stale hq hp ha hmode hne, fun _ _ hst hmode hstale hdue => pdStaleEnd_ends hq hst hmode hstale hdue,
      fun _ hsat hst hdue hlog => pdSatHold_logs hq hsat hst hdue hlog, atlTrArm_arms hq, atlTrTrigger_triggers hq, traceFreeze_freezes hq,
      atlInjStart_starts hq hp, atlInjStop_stops hq hp⟩⟩

end

end Sys2Proof.Machine
end

section
/-! PROOF. Samples of the Atlas loops and the faults of their coils (chapter 12). -/

namespace Sys2Proof.Machine

/-! ### The tests of Table 12-5 -/

section
variable {e : Env} {d d' : Dev} {q : Nat} {x : Slot}

theorem Dev.superviseTest_bridge {inRange missing : Bool} (h : (d.bridge (d.o O.ATL_FB_A q)).fault ≠ 0) :
    d.superviseTest q x inRange missing = some (1, (d.bridge (d.o O.ATL_FB_A q)).fault - 1) := by
  have hfind : (d.slotChans q).find? (fun c => (d.bridge c).fault != 0) = some (d.o O.ATL_FB_A q) :=
    List.find?_cons_of_pos (bne_iff_ne.2 h)
  unfold Dev.superviseTest
  dsimp only
  rw [hfind]

theorem Dev.superviseTest_missing (d : Dev) (q : Nat) (x : Slot) (inRange : Bool) : ∃ c, d.superviseTest q x inRange true = some c := by
  unfold Dev.superviseTest
  dsimp only
  split
  · exact ⟨_, rfl⟩
  · iterate 5
      split
      · exact ⟨_, rfl⟩
    exact ⟨_, rfl⟩

/-! ### A sample taken -/

/-- The device with the entry of what a sample declares, while the loop is closed. -/
def Dev.holdNoted (e : Env) (d : Dev) (q : Nat) (closed : Bool) (decl : Option (Nat × Nat)) : Dev :=
  match decl with
  | some c => if closed then d.holdLog e q c.2 else d
  | none => d

theorem Dev.holdNoted_keeps (e : Env) (d : Dev) (q : Nat) (closed : Bool) (decl : Option (Nat × Nat)) :
    Dev.Frame [O.FLT_LOST] d (d.holdNoted e q closed decl) ∧ Dev.Calm d (d.holdNoted e q closed decl) ∧
      (d.holdNoted e q closed decl).atl = d.atl := by
  have hlog : ∀ c, Dev.Frame [O.FLT_LOST] d (d.holdLog e q c) ∧ Dev.Calm d (d.holdLog e q c) ∧ (d.holdLog e q c).atl = d.atl :=
    fun c => ⟨.log (List.mem_singleton_self _), .log d, Dev.atl_log ..⟩
  unfold Dev.holdNoted
  split
  · split
    · exact hlog _
    · exact ⟨.refl _ d, .refl d, rfl⟩
  · exact ⟨.refl _ d, .refl d, rfl⟩

/-- The objects that a sample takes. -/
def sampleIdx : List Nat := [O.ATL_RESID, O.ATL_I_NOW, O.ATL_SAT, O.FLT_LOST]

/-- What a loop sample leaves: its result taken, and what it declares waiting for the report. -/
structure Dev.SampleTaken (e : Env) (d : Dev) (q : Nat) (cur : Int) (fresh missing : Bool) (d' : Dev) : Prop where
  frame : Dev.Frame sampleIdx d d'
  calm : Dev.Calm d d'
  current : d'.o O.ATL_I_NOW q = ofS 32 cur
  sampleAt : (d'.slot q).sampleAt = e.now + 1
  results : (d'.slot q).results = if fresh then 0 else (d.slot q).results
  due : ∃ p, (d'.slot q).due = some p ∧ p.time = e.now ∧ p.current = cur ∧ (fresh = false → p.usable = false) ∧
    (d.o O.ATL_STATE q = 2 → d.o O.ATL_OUT q ≠ 0 →
      (∀ c, p.decl = some c → d.flt.held.length < 64 → ∃ en ∈ d'.flt.held, en.time = e.now ∧ en.code = 0x0A10 ∧ en.cls = 2) ∧
      ((d.bridge (d.o O.ATL_FB_A q)).fault ≠ 0 → p.decl = some (1, (d.bridge (d.o O.ATL_FB_A q)).fault - 1)) ∧
      (missing = true → ∃ c, p.decl = some c))

/-- A sample is due at a slot that has none: three loop periods have passed without a result. -/
def Dev.sampleMissing (e : Env) (d : Dev) (q : Nat) : Bool :=
  (d.o O.ATL_STATE q == 2 || d.o O.ATL_STATE q == 3) && (d.slot q).sampleAt - 1 + 3 * d.loopPeriod q ≤ e.now

theorem Dev.loopSample_none {cur : Int} (h : (decide (d.o O.ATL_DIV q ≤ (d.slot q).results) || d.sampleMissing e q) = false) :
    d.loopSample e q cur = d := by
  have hgo : (decide (e.slots ≤ q) || !(decide (d.o O.ATL_DIV q ≤ (d.slot q).results) || d.sampleMissing e q)) = true := by
    rw [h]
    exact Bool.or_true _
  unfold Dev.loopSample
  dsimp only
  exact if_pos hgo

/-- The slot of a sample, its runs counted. -/
def Dev.sampledSlot (e : Env) (d : Dev) (q : Nat) (fresh : Bool) : Slot :=
  let f := d.feedback q (d.slot q) fresh
  d.runs q { f.1 with results := if fresh then 0 else f.1.results, sampleAt := e.now + 1, usable := f.2.2.1 } (((d.slot q).stage 3).val 1) f.2.2.1

/-- The device with a sample's values, before what it declares. -/
def Dev.sampleNoted (e : Env) (d : Dev) (q : Nat) (cur : Int) (fresh : Bool) : Dev :=
  let w := ((d.setSlot q (d.sampledSlot e q fresh)).so O.ATL_RESID q (ofS 32 (microDeg (((d.sampledSlot e q fresh).stage 3).val 3)))).so
    O.ATL_I_NOW q (ofS 32 cur)
  if (d.feedback q (d.slot q) fresh).2.2.2 == 0 then w else w.inc O.ATL_SAT q (d.feedback q (d.slot q) fresh).2.2.2

/-- What a sample declares. -/
def Dev.sampleDecl (w : Dev) (q : Nat) (x : Slot) (inRange missing : Bool) : Option (Nat × Nat) :=
  if (w.o O.ATL_STATE q == 2 || w.o O.ATL_STATE q == 3) && w.o O.ATL_OUT q != 0 then w.superviseTest q x inRange missing else none

/-- The sample that waits for its report. -/
def Dev.sampleOf (e : Env) (d : Dev) (q : Nat) (cur : Int) (usable : Bool) (decl : Option (Nat × Nat)) : Sample :=
  { time := e.now, usable := usable, current := cur, decl := decl,
    clean := usable && decl.isNone && (d.slotChans q).all (fun c => d.o O.SB_STATUS c == 1) }

/-- The device with a sample taken. -/
def Dev.sampleDone (e : Env) (d : Dev) (q : Nat) (cur : Int) (fresh : Bool) : Dev :=
  let w := d.sampleNoted e q cur fresh
  let x := d.sampledSlot e q fresh
  let f := d.feedback q (d.slot q) fresh
  let decl := w.sampleDecl q x f.2.1 (d.sampleMissing e q)
  let d' := w.holdNoted e q (w.o O.ATL_STATE q == 2) decl
  d'.setSlot q { x with due := some (d'.sampleOf e q cur f.2.2.1 decl) }

theorem Dev.loopSample_eq {cur : Int} (hq : q < e.slots) (fresh : Bool) (hf : decide (d.o O.ATL_DIV q ≤ (d.slot q).results) = fresh)
    (h : (fresh || d.sampleMissing e q) = true) : d.loopSample e q cur = d.sampleDone e q cur fresh := by
  have hgo : ¬ (decide (e.slots ≤ q) || !(decide (d.o O.ATL_DIV q ≤ (d.slot q).results) || d.sampleMissing e q)) = true := by
    rw [hf, h]
    simp only [Bool.not_true, Bool.or_false, decide_eq_true_eq]
    omega
  subst hf
  unfold Dev.loopSample
  dsimp only
  refine (if_neg hgo).trans ?_
  unfold Dev.sampleDone Dev.sampleNoted Dev.sampledSlot Dev.sampleDecl Dev.holdNoted Dev.sampleOf
  simp only [decide_eq_true_eq]
  rfl

end

section
variable {e : Env} {d : Dev} {q : Nat} {cur : Int} {fresh : Bool}

/-- The values of a sample change no other object and no bridge channel. -/
theorem Dev.sampleNoted_keeps (e : Env) (d : Dev) (cur : Int) (fresh : Bool) (hq : q < 4096) :
    Dev.Frame [O.ATL_RESID, O.ATL_I_NOW, O.ATL_SAT] d (d.sampleNoted e q cur fresh) ∧ Dev.Calm d (d.sampleNoted e q cur fresh) ∧
      (d.sampleNoted e q cur fresh).o O.ATL_I_NOW q = ofS 32 cur ∧ (d.sampleNoted e q cur fresh).flt = d.flt ∧
      ∀ n, (d.sampleNoted e q cur fresh).bridge n = d.bridge n := by
  unfold Dev.sampleNoted
  extract_lets w
  have hslot : Dev.Frame [O.ATL_RESID, O.ATL_I_NOW, O.ATL_SAT] d (d.setSlot q (d.sampledSlot e q fresh)) := .of_objs rfl
  have hw : Dev.Frame [O.ATL_RESID, O.ATL_I_NOW, O.ATL_SAT] d w := (hslot.trans (.so hq (by decide))).trans (.so hq (by decide))
  have hc : Dev.Calm d w := (Dev.calm_setSlot ..).trans ((Dev.Calm.so ..).trans (.so ..))
  have hcur : w.o O.ATL_I_NOW q = ofS 32 cur := Dev.o_so_self ..
  split
  · exact ⟨hw, hc, hcur, rfl, fun _ => rfl⟩
  · exact ⟨hw.trans (.inc hq (by decide)), hc.trans (.inc ..), (Dev.o_inc_other (by decide) hq hq).trans hcur, rfl, fun _ => rfl⟩

theorem Dev.results_sampledSlot (e : Env) (d : Dev) (q : Nat) (fresh : Bool) :
    (d.sampledSlot e q fresh).results = if fresh then 0 else (d.slot q).results := by
  cases fresh
  · rfl
  · rfl

theorem Dev.sampleTaken (e : Env) (d : Dev) (cur : Int) (fresh : Bool) (hq : q < 4096) :
    Dev.SampleTaken e d q cur fresh (d.sampleMissing e q) (d.sampleDone e q cur fresh) := by
  obtain ⟨hframe, hcalm, hcur, hflt, hbridge⟩ := Dev.sampleNoted_keeps e d cur fresh hq
  have hst : (d.sampleNoted e q cur fresh).o O.ATL_STATE q = d.o O.ATL_STATE q := hframe.o hq (by decide)
  have hout : (d.sampleNoted e q cur fresh).o O.ATL_OUT q = d.o O.ATL_OUT q := hframe.o hq (by decide)
  have hfb : (d.sampleNoted e q cur fresh).o O.ATL_FB_A q = d.o O.ATL_FB_A q := hframe.o hq (by decide)
  obtain ⟨w, hw⟩ : ∃ w, w = d.sampleNoted e q cur fresh := ⟨_, rfl⟩
  obtain ⟨decl, hdecl⟩ : ∃ c, c = w.sampleDecl q (d.sampledSlot e q fresh) (d.feedback q (d.slot q) fresh).2.1 (d.sampleMissing e q) := ⟨_, rfl⟩
  obtain ⟨hnote, hquiet, hatl⟩ := Dev.holdNoted_keeps e w q (w.o O.ATL_STATE q == 2) decl
  have hrun : d.sampleDone e q cur fresh = (w.holdNoted e q (w.o O.ATL_STATE q == 2) decl).setSlot q
      { (d.sampledSlot e q fresh) with due := some ((w.holdNoted e q (w.o O.ATL_STATE q == 2) decl).sampleOf e q cur (d.feedback q (d.slot q) fresh).2.2.1 decl) } := by
    rw [hdecl, hw]
    rfl
  rw [← hw] at hframe hcalm hcur hflt hbridge hst hout hfb
  rw [hrun]
  refine ⟨?_, (hcalm.trans hquiet).trans (Dev.calm_setSlot ..), ?_, ?_, ?_, ?_⟩
  · exact ((hframe.mono (by decide)).trans (hnote.mono (by decide))).trans (.of_objs rfl)
  · rw [Dev.o_setSlot, hnote.o hq (by decide), hcur]
  · rw [Dev.slot_setSlot]; rfl
  · rw [Dev.slot_setSlot]; exact Dev.results_sampledSlot e ..
  · refine ⟨_, by rw [Dev.slot_setSlot], rfl, rfl, fun hf => by rw [hf]; rfl, fun h2 hbound => ⟨fun c hc hroom => ?_, fun hfault => ?_, fun hmiss => ?_⟩⟩
    · have hc' : decl = some c := hc
      have hlog : w.holdNoted e q (w.o O.ATL_STATE q == 2) decl = w.holdLog e q c.2 := by
        rw [hc', hst, h2]
        rfl
      show ∃ en ∈ (w.holdNoted e q (w.o O.ATL_STATE q == 2) decl).flt.held, _
      rw [hlog]
      exact Dev.exists_held_log (by rw [hflt]; exact hroom)
    all_goals
      have htest : decl = w.superviseTest q (d.sampledSlot e q fresh) (d.feedback q (d.slot q) fresh).2.1 (d.sampleMissing e q) := by
        rw [hdecl]
        exact if_pos (by rw [hst, hout, h2]; simpa using hbound)
    · show decl = _
      rw [htest, Dev.superviseTest_bridge (by rw [hfb, hbridge]; exact hfault), hfb, hbridge]
    · show ∃ c, decl = some c
      rw [htest, hmiss]
      exact Dev.superviseTest_missing ..

end

section
variable {s : State} {q : Nat}

theorem State.slots_le (s : State) : s.env.slots ≤ 4 := by
  unfold Env.slots
  split <;> decide

theorem loopSample_takes {cur : Int} (hq : s.Quiet) (hlt : q < s.env.slots) (hfresh : s.dev.o O.ATL_DIV q ≤ (s.dev.slot q).results) :
    Leads (.loopSample q cur) s (fun t => (t.dev.slot q).results = 0 ∧
      (t.dev.slot q).sampleAt = s.clock.time + 1 ∧ t.dev.o O.ATL_I_NOW q = ofS 32 cur ∧ t.dev.o O.ATL_STATE q = s.dev.o O.ATL_STATE q ∧
      ∃ p, (t.dev.slot q).due = some p ∧ p.time = s.clock.time ∧ p.current = cur ∧
        (s.dev.o O.ATL_STATE q = 2 → s.dev.o O.ATL_OUT q ≠ 0 → (s.dev.bridge (s.dev.o O.ATL_FB_A q)).fault ≠ 0 →
          p.decl = some (1, (s.dev.bridge (s.dev.o O.ATL_FB_A q)).fault - 1) ∧ Logged s t 0x0A10 2)) := by
  have h4 : q < 4096 := by have := s.slots_le; omega
  have hrun : s.begun.loopSample s.env q cur = s.begun.sampleDone s.env q cur true :=
    Dev.loopSample_eq hlt true (decide_eq_true hfresh) rfl
  have htaken := Dev.sampleTaken s.env s.begun cur true h4
  obtain ⟨p, hdue, htime, hcur, -, hdecl⟩ := htaken.due
  refine leads_calm (f := fun e d => d.loopSample e q cur) _ hq rfl hrun htaken.calm fun t ht => ⟨?_, ?_, ?_, ?_, p, ?_, htime, hcur, ?_⟩
  · rw [Dev.slot_congr ht.atl, htaken.results]; rfl
  · rw [Dev.slot_congr ht.atl, htaken.sampleAt]; rfl
  · rw [ht.o, htaken.current]
  · rw [ht.o, htaken.frame.o h4 (by decide)]; rfl
  · rw [Dev.slot_congr ht.atl, hdue]
  · intro h2 hout hfault
    obtain ⟨hlog, hbridge, -⟩ := hdecl h2 hout
    refine ⟨hbridge hfault, fun hroom => ?_⟩
    rw [ht.flt]
    exact hlog _ (hbridge hfault) (Nat.lt_trans hroom (by decide))

theorem loopSample_waits {cur : Int} (hq : s.Quiet) (hfew : (s.dev.slot q).results < s.dev.o O.ATL_DIV q) (h2 : s.dev.o O.ATL_STATE q ≠ 2)
    (h3 : s.dev.o O.ATL_STATE q ≠ 3) :
    Leads (.loopSample q cur) s (fun t => t.dev.atl = s.dev.atl ∧ ∀ i el, el < 4096 → t.dev.o i el = s.dev.o i el) := by
  have hno : (decide (s.begun.o O.ATL_DIV q ≤ (s.begun.slot q).results) || s.begun.sampleMissing s.env q) = false := by
    have hmiss : s.begun.sampleMissing s.env q = false := by
      unfold Dev.sampleMissing
      rw [State.o_begun, beq_eq_false_iff_ne.2 h2, beq_eq_false_iff_ne.2 h3]
      rfl
    rw [hmiss, Bool.or_false]
    exact decide_eq_false (Nat.not_le.2 hfew)
  refine leads_calm (f := fun e d => d.loopSample e q cur) s.begun hq rfl (Dev.loopSample_none hno) (.refl _) fun t ht => ⟨ht.atl, fun i el _ => ?_⟩
  rw [ht.o, State.o_begun]

theorem feedbackMissing_declares (hq : s.Quiet) (hlt : q < s.env.slots) (hfew : (s.dev.slot q).results < s.dev.o O.ATL_DIV q)
    (h2 : s.dev.o O.ATL_STATE q = 2) (hout : s.dev.o O.ATL_OUT q ≠ 0)
    (hlate : (s.dev.slot q).sampleAt - 1 + 3 * s.dev.loopPeriod q ≤ s.clock.time) :
    Leads (.feedbackMissing q) s (fun t => (t.dev.slot q).sampleAt = s.clock.time + 1 ∧ Logged s t 0x0A10 2 ∧
        ∃ p c, (t.dev.slot q).due = some p ∧ p.time = s.clock.time ∧ p.usable = false ∧ p.decl = some c) := by
  have h4 : q < 4096 := by have := s.slots_le; omega
  have hmiss : s.begun.sampleMissing s.env q = true := by
    unfold Dev.sampleMissing
    rw [State.o_begun, h2]
    exact decide_eq_true hlate
  have hrun : s.begun.feedbackMissing s.env q = s.begun.sampleDone s.env q (s.begun.os32 O.ATL_I_NOW q) false :=
    (if_neg (Nat.not_le.2 hfew)).trans (Dev.loopSample_eq hlt false (decide_eq_false (Nat.not_le.2 hfew)) hmiss)
  have htaken := Dev.sampleTaken s.env s.begun (s.begun.os32 O.ATL_I_NOW q) false h4
  obtain ⟨p, hdue, htime, -, husable, hdecl⟩ := htaken.due
  obtain ⟨hlog, -, hdeclared⟩ := hdecl h2 hout
  obtain ⟨c, hc⟩ := hdeclared hmiss
  refine leads_calm (f := fun e d => d.feedbackMissing e q) _ hq rfl hrun htaken.calm fun t ht => ⟨?_, fun hroom => ?_, p, c, ?_, htime,
    husable rfl, hc⟩
  · rw [Dev.slot_congr ht.atl, htaken.sampleAt]; rfl
  · rw [ht.flt]
    exact hlog c hc (Nat.lt_trans hroom (by decide))
  · rw [Dev.slot_congr ht.atl, hdue]

/-! ### Faults of a coil (R632, R633) -/

variable {c : Nat}

theorem Dev.coilOf_of_slotOfCoil {d : Dev} (h : d.slotOfCoil c = some q) : q < 4 ∧ d.coilOf q = some c := by
  have hfound := List.find?_some h
  exact ⟨List.mem_range.1 (List.mem_of_find?_eq_some h), beq_iff_eq.1 hfound⟩

theorem Slot.u_off (x y : Slot) (h : y.st = (x.setStage 7 {}).st) : y.u = 0 := by
  have hstage : y.stage 7 = {} := by
    unfold Slot.stage
    rw [h]
    show ((x.st.set 6 {})[6]?).getD {} = ({} : Stage)
    rw [List.getElem?_set]
    split
    · split <;> rfl
    · contradiction
  unfold Slot.u
  rw [hstage]
  exact zero_mul _

/-- What a coil fault leaves of the slot it takes off. -/
theorem Dev.coilFault_spec {d : Dev} {status cell : Nat} (h : d.slotOfCoil c = some q) :
    (d.coilFault s.env c status cell).o O.ATL_STATE q = 0 ∧ (d.coilFault s.env c status cell).o O.ATL_COIL_STATUS c = status ∧
      ((d.coilFault s.env c status cell).slot q).u = 0 ∧ Dev.Calm d (d.coilFault s.env c status cell) ∧
      (d.flt.held.length < 60 → ∃ en ∈ (d.coilFault s.env c status cell).flt.held,
        en.time = s.clock.time ∧ en.code = 0x0A11 ∧ en.cls = 2) := by
  obtain ⟨hq4, hcoil⟩ := Dev.coilOf_of_slotOfCoil h
  have h4 : q < 4096 := by omega
  have hc4 : c < 4096 := Nat.lt_trans (Dev.coilOf_lt hcoil) (by decide)
  obtain ⟨hst, hstatus, hslot, hcalm⟩ := Dev.slotOff_spec s.env d (status := status) h4
  have hrun : d.coilFault s.env c status cell = (d.slotOff s.env q status).log s.env 0x0A11 (locCode 1 10 q 63 127 cell) 2 := by
    unfold Dev.coilFault
    rw [h]
  rw [hrun]
  refine ⟨?_, ?_, ?_, hcalm.trans (.log _), fun hroom => Dev.exists_held_log ?_⟩
  · rw [Dev.o_log_other (by decide) h4, hst]
  · rw [Dev.o_log_other (by decide) hc4, hstatus c hcoil]
  · rw [Dev.slot_congr (Dev.atl_log ..), hslot]
    exact Slot.u_off _ _ rfl
  · have hload := (Dev.withdraws_slotOff s.env d (v := status) h4).load
    have := Dev.held_le_load (d.slotOff s.env q status)
    have := Dev.load_le d
    omega

theorem coilOvercurrent_turns_off (hq : s.Quiet) (hon : s.dev.coilOn c = true) (hslot : s.dev.slotOfCoil c = some q) :
    Leads (.coilOvercurrent c) s (fun t => t.dev.o O.ATL_STATE q = 0 ∧ t.dev.o O.ATL_COIL_STATUS c = 2 ∧
        (t.dev.slot q).u = 0 ∧ Logged s t 0x0A11 2) := by
  obtain ⟨hst, hstatus, hu, hcalm, hlog⟩ := Dev.coilFault_spec (s := s) (d := s.begun) (status := 2) (cell := 8) hslot
  refine leads_calm (f := fun e d => d.coilOc e c) _ hq rfl (if_pos hon) hcalm fun t ht => ⟨?_, ?_, ?_, fun hroom => ?_⟩
  · rw [ht.o, hst]
  · rw [ht.o, hstatus]
  · rw [Dev.slot_congr ht.atl, hu]
  · rw [ht.flt]; exact hlog hroom

theorem coilOpen_turns_off (hq : s.Quiet) (hon : s.dev.coilOn c = true) (hslot : s.dev.slotOfCoil c = some q)
    (hu : 20 ≤ |(s.dev.slot q).u|) :
    Leads (.coilOpen c) s (fun t => t.dev.o O.ATL_STATE q = 0 ∧ t.dev.o O.ATL_COIL_STATUS c = 3 ∧
        (t.dev.slot q).u = 0 ∧ Logged s t 0x0A11 2) := by
  obtain ⟨hst, hstatus, hu', hcalm, hlog⟩ := Dev.coilFault_spec (s := s) (d := s.begun) (status := 3) (cell := 9) hslot
  have hbegun : s.begun.slotOfCoil c = some q := hslot
  have hrun : s.begun.coilOpen s.env c = s.begun.coilFault s.env c 3 9 := by
    have hgo : (s.begun.coilOn c && decide (20 ≤ |(s.begun.slot q).u|)) = true := by
      rw [show s.begun.coilOn c = true from hon, Bool.true_and]
      exact decide_eq_true hu
    unfold Dev.coilOpen
    rw [hbegun]
    exact if_pos hgo
  refine leads_calm (f := fun e d => d.coilOpen e c) _ hq rfl hrun hcalm fun t ht => ⟨?_, ?_, ?_, fun hroom => ?_⟩
  · rw [ht.o, hst]
  · rw [ht.o, hstatus]
  · rw [Dev.slot_congr ht.atl, hu']
  · rw [ht.flt]; exact hlog hroom

theorem coilCompliance_shows {b : Bool} (hq : s.Quiet) (hon : s.dev.coilOn c = true) :
    Leads (.coilCompliance c b) s (fun t => t.dev.o O.ATL_COIL_STATUS c = if b then 1 else 4) := by
  refine leads_calm (f := fun _ d => d.coilCompliance c b) _ hq rfl (if_pos hon) (.so ..) fun t ht => ?_
  rw [ht.o]
  exact Dev.o_so_self s.begun O.ATL_COIL_STATUS c _

end

/-! ### The report of a sample (Table 12-3) -/

/-- What waits for a device time ahead of a command, or for its end, is as before. -/
structure Dev.SameWaits (d d' : Dev) : Prop where
  rx : d'.rx = d.rx
  acq : d'.acq = d.acq
  pwr : d'.pwr = d.pwr
  lineDue : d'.jq.lineDue = d.jq.lineDue
  settle : d'.jq.settle = d.jq.settle

namespace Dev.SameWaits
variable {d d' d'' : Dev}

theorem refl (d : Dev) : SameWaits d d := ⟨rfl, rfl, rfl, rfl, rfl⟩

theorem trans (h : SameWaits d d') (k : SameWaits d' d'') : SameWaits d d'' :=
  ⟨k.rx.trans h.rx, k.acq.trans h.acq, k.pwr.trans h.pwr, k.lineDue.trans h.lineDue, k.settle.trans h.settle⟩

theorem of_hm (h : HmFrom d d') : SameWaits d d' := by
  rw [h.rest]
  exact ⟨rfl, rfl, rfl, rfl, rfl⟩

end Dev.SameWaits

/-- The objects of a slot's state. -/
def slotStateIdx : List Nat := [O.ATL_STATE, O.ATL_HOLD_CAUSE, O.ATL_HOLDS]

/-- A step of slot `k` that keeps every slot's state, and what waits for a report. -/
structure Dev.SlotSteady (k : Nat) (d d' : Dev) : Prop where
  objs : ∀ {i el}, i ∈ slotStateIdx → el < 4096 → d'.o i el = d.o i el
  slots : ∀ {j}, j ≠ k → d'.slot j = d.slot j
  due : (d'.slot k).due = (d.slot k).due
  waits : Dev.SameWaits d d'

theorem slotStateIdx_disjoint {i : Nat} (hi : i ∈ slotStateIdx) : i ∉ hmIdx := by
  revert i
  decide

namespace Dev.SlotSteady
variable {k : Nat} {e : Env} {d d' d'' : Dev}

theorem refl (k : Nat) (d : Dev) : SlotSteady k d d := ⟨fun _ _ => rfl, fun _ => rfl, rfl, .refl d⟩

theorem trans (h : SlotSteady k d d') (g : SlotSteady k d' d'') : SlotSteady k d d'' :=
  ⟨fun hi hel => (g.objs hi hel).trans (h.objs hi hel), fun hj => (g.slots hj).trans (h.slots hj), g.due.trans h.due,
    h.waits.trans g.waits⟩

theorem ite {p : Prop} [Decidable p] {a b : Dev} (ha : SlotSteady k d a) (hb : SlotSteady k d b) : SlotSteady k d (if p then a else b) := by
  split
  · exact ha
  · exact hb

theorem so {i el v : Nat} (hel : el < 4096) (hi : i ∉ slotStateIdx) : SlotSteady k d (d.so i el v) :=
  ⟨fun hj hx => Dev.o_so_other (fun h => hi (h ▸ hj)) hel hx, fun _ => rfl, rfl, ⟨rfl, rfl, rfl, rfl, rfl⟩⟩

theorem inc {i el n : Nat} (hel : el < 4096) (hi : i ∉ slotStateIdx) : SlotSteady k d (d.inc i el n) := so hel hi

theorem setSlot {x : Slot} (h : x.due = (d.slot k).due) : SlotSteady k d (d.setSlot k x) :=
  ⟨fun _ _ => rfl, fun hj => Dev.slot_setSlot_other hj, by rw [Dev.slot_setSlot, h], ⟨rfl, rfl, rfl, rfl, rfl⟩⟩

/-- An action on neither objects nor slots. -/
theorem of_same (ho : d'.objs = d.objs) (hs : d'.atl.slots = d.atl.slots) (hw : SameWaits d d') : SlotSteady k d d' := by
  have hslot : ∀ j, d'.slot j = d.slot j := fun j => by
    unfold Dev.slot
    rw [hs]
  exact ⟨fun _ _ => Dev.o_congr ho _ _, fun _ => hslot _, by rw [hslot], hw⟩

theorem hmEval : SlotSteady k d (d.hmEval e) :=
  ⟨fun hi hel => Dev.o_hmEval (slotStateIdx_disjoint hi) hel, fun _ => Dev.slot_congr (Dev.atl_hmEval ..) _,
    by rw [Dev.slot_congr (Dev.atl_hmEval ..)], .of_hm .hmEval⟩

end Dev.SlotSteady

section
variable {k : Nat} {e : Env} {d : Dev}

theorem Dev.slotSteady_traceSample (nodes : List Nat) : Dev.SlotSteady k d (d.traceSample k nodes) :=
  .ite (.refl k d) (.of_same rfl rfl ⟨rfl, rfl, rfl, rfl, rfl⟩)

theorem Dev.slotSteady_cleanCount {time : Nat} {good : Bool} (hk : k < 4096) : Dev.SlotSteady k d (d.cleanCount k time good) := by
  have hclean : ∀ {d : Dev} {v : Nat}, Dev.SlotSteady k d (d.so O.ATL_CLEAN_MS k v) := fun {d v} => .so hk (by decide)
  unfold Dev.cleanCount
  extract_lets st x
  have hset : ∀ c, Dev.SlotSteady k d (d.setSlot k { x with cleanAt := c }) := fun c => .setSlot rfl
  refine .ite (.refl k d) (.ite ((hset none).trans hclean) ?_)
  split
  · exact (hset (some time)).trans hclean
  · exact hclean

theorem Dev.slotSteady_report {time : Nat} {usable : Bool} (hk : k < 4096) : Dev.SlotSteady k d (d.report e k time usable) := by
  unfold Dev.report
  extract_lets x closed ang d1 d2 x2 d3 h
  have h1 : Dev.SlotSteady k d d1 := .so hk (by decide)
  have h2 : Dev.SlotSteady k d1 d2 := .ite (.inc hk (by decide)) (.refl k d1)
  have h3 : Dev.SlotSteady k d2 d3 := .setSlot rfl
  have hrest : ∀ (d : Dev) (m : Hm), Dev.SlotSteady k d { d with hm := m } := fun d m => .of_same rfl rfl ⟨rfl, rfl, rfl, rfl, rfl⟩
  exact ((h1.trans h2).trans h3).trans ((hrest d3 _).trans .hmEval)

theorem Dev.slotSteady_injValue : Dev.SlotSteady k d (d.injValue e k).2 := by
  have hfree : ∀ n, Dev.SlotSteady k d (d.freeVal n).2 := fun n => .of_same rfl rfl ⟨rfl, rfl, rfl, rfl, rfl⟩
  unfold Dev.injValue
  split
  · exact .refl k d
  · dsimp only
    split
    · exact .refl k d
    · split
      · exact .refl k d
      · split
        · exact hfree 1
        · split
          · exact .refl k d
          · exact hfree 32

/-- What drives a slot's command in the mode in force. -/
def Dev.driveCommand (e : Env) (d : Dev) (k : Nat) : Slot × Rat × Rat × Nat × Dev :=
  if d.o O.ATL_STATE k == 2 || d.o O.ATL_STATE k == 3 then d.control e k (d.slot k)
  else if d.o O.ATL_STATE k == 1 then
    (d.slot k, 0, ((d.injValue e k).2.os32 O.ATL_MAN_I k : Rat) / 1000 + (if (d.injValue e k).2.o O.ATL_INJ_NODE k == 2 then (d.injValue e k).1 else 0), 0,
      (d.injValue e k).2)
  else (d.slot k, 0, 0, 0, d)

theorem Dev.driveCommand_keeps (e : Env) (d : Dev) (k : Nat) :
    (d.driveCommand e k).1.due = (d.slot k).due ∧ Dev.SlotSteady k d (d.driveCommand e k).2.2.2.2 := by
  unfold Dev.driveCommand
  split
  · exact ⟨rfl, Dev.slotSteady_injValue⟩
  · split
    · exact ⟨rfl, Dev.slotSteady_injValue⟩
    · exact ⟨rfl, .refl k d⟩

theorem Dev.slotSteady_drive {current : Int} (hk : k < 4096) : Dev.SlotSteady k d (d.drive e k current) := by
  obtain ⟨hdue, hdev⟩ := Dev.driveCommand_keeps e d k
  unfold Dev.drive
  extract_lets +onlyGivenNames st x c
  have hc : c = d.driveCommand e k := rfl
  refine .ite ((Dev.slotSteady_traceSample _).trans (.setSlot ?_)) ?_
  · exact (Dev.slotSteady_traceSample (k := k) _).due.symm
  · rw [hc]
    obtain ⟨y, hy⟩ : ∃ y, y = (d.limit k (d.driveCommand e k).1 (d.driveCommand e k).2.2.1) := ⟨_, rfl⟩
    rw [← hy]
    have hset : Dev.SlotSteady k d ((d.driveCommand e k).2.2.2.2.setSlot k y.1.rescale) := by
      refine hdev.trans (.setSlot ?_)
      rw [hdev.due, ← hdue, hy]
      rfl
    refine Dev.SlotSteady.trans ?_ (Dev.slotSteady_traceSample _)
    refine .ite ?_ ?_
    · exact hset.trans (.ite (.inc hk (by decide)) (.refl k _))
    · exact (hset.trans (.ite (.inc hk (by decide)) (.refl k _))).trans (.inc hk (by decide))

end
/-! ### Command slots -/

/-- What the command slots of memory change beside the queues: a counter, and free values taken. -/
structure Dev.TakesSlots (d d' : Dev) : Prop where
  rest : d' = { d with objs := d'.objs, free := d'.free, mem := d'.mem }
  frame : Dev.Frame [O.MEM_CH_ACT] d d'

namespace Dev.TakesSlots
variable {d d' d'' : Dev}

theorem refl (d : Dev) : TakesSlots d d := ⟨rfl, .refl _ d⟩

theorem trans (h : TakesSlots d d') (k : TakesSlots d' d'') : TakesSlots d d'' := by
  have hk := k.rest
  rw [h.rest] at hk
  exact ⟨hk, h.frame.trans k.frame⟩

theorem ite {p : Prop} [Decidable p] {a b : Dev} (ha : TakesSlots d a) (hb : TakesSlots d b) : TakesSlots d (if p then a else b) := by
  split
  · exact ha
  · exact hb

theorem mem (h : d' = { d with mem := d'.mem }) : TakesSlots d d' := ⟨by rw [h], .of_objs (by rw [h])⟩

end Dev.TakesSlots

section
variable (e : Env) (d : Dev)

theorem Dev.takesSlots_ageRow (k : Nat) : Dev.TakesSlots d (d.ageRow e k) := by
  unfold Dev.ageRow
  exact .ite (.refl d) (.ite (.mem rfl) (.ite (.mem rfl) (.refl d)))

theorem Dev.takesSlots_freeVal (n : Nat) : Dev.TakesSlots d (d.freeVal n).2 := ⟨rfl, .of_objs rfl⟩

theorem Dev.takesSlots_turnBus (ch timing : Nat) : Dev.TakesSlots d (d.turnBus e ch timing) := by
  unfold Dev.turnBus
  exact .ite (.mem rfl) (.refl d)

theorem Dev.takesSlots_bankIssue {ch : Nat} (bank : Nat) (hch : ch < 8) : Dev.TakesSlots d (d.bankIssue e ch bank) := by
  unfold Dev.bankIssue
  extract_lets +onlyGivenNames k m d1
  have h1 : Dev.TakesSlots d d1 := .mem rfl
  split
  · exact h1
  · split
    · refine h1.trans ⟨rfl, ?_⟩
      exact (Dev.Frame.inc (Nat.lt_trans hch (by decide)) (List.mem_singleton_self _)).trans (.of_objs rfl)
    · exact h1.trans (.mem rfl)
    · exact h1.trans (.mem rfl)

theorem Dev.takesSlots_cmdSlot {ch : Nat} (hch : ch < 8) : Dev.TakesSlots d (d.cmdSlot e ch) := by
  have haged : Dev.TakesSlots d ((List.range 16).foldl (fun d b => d.ageRow e (16 * ch + b)) d) :=
    rel_foldl Dev.TakesSlots.refl Dev.TakesSlots.trans (fun d b => Dev.takesSlots_ageRow e d (16 * ch + b)) _ d
  unfold Dev.cmdSlot
  extract_lets d1 x d2
  have hfree : Dev.TakesSlots d1 x.2 := Dev.takesSlots_freeVal d1 16
  have hturn : Dev.TakesSlots x.2 d2 := Dev.takesSlots_turnBus ..
  clear_value x d2
  refine .ite haged ?_
  split
  · exact ((haged.trans hfree).trans hturn).trans (Dev.takesSlots_bankIssue e d2 _ hch)
  · exact (haged.trans hfree).trans hturn

theorem Dev.takesSlots_cmdSlots : Dev.TakesSlots d (d.cmdSlots e) :=
  .ite (.refl d) (List.foldlRecOn (List.range 8) _ (motive := Dev.TakesSlots d) (.refl d) fun x hx _ hch =>
    hx.trans (Dev.takesSlots_cmdSlot e x (List.mem_range.1 hch)))

end

/-! ### A step of the clock that reports a sample (R37) -/

section
variable {e : Env} {d d' : Dev} {k q : Nat}

/-- A step of slot `k` that leaves the state of the others. -/
structure Dev.BesideSlot (k : Nat) (d d' : Dev) : Prop where
  objs : ∀ {i el}, i ∈ slotStateIdx → el < 4096 → el ≠ k → d'.o i el = d.o i el
  slots : ∀ {j}, j ≠ k → d'.slot j = d.slot j
  waits : Dev.SameWaits d d'

theorem Dev.BesideSlot.refl (k : Nat) (d : Dev) : Dev.BesideSlot k d d := ⟨fun _ _ _ => rfl, fun _ => rfl, .refl d⟩

theorem Dev.BesideSlot.trans {d'' : Dev} (h : Dev.BesideSlot k d d') (g : Dev.BesideSlot k d' d'') : Dev.BesideSlot k d d'' :=
  ⟨fun hi hel hne => (g.objs hi hel hne).trans (h.objs hi hel hne), fun hj => (g.slots hj).trans (h.slots hj), h.waits.trans g.waits⟩

theorem Dev.SlotSteady.beside (h : Dev.SlotSteady k d d') : Dev.BesideSlot k d d' := ⟨fun hi hel _ => h.objs hi hel, h.slots, h.waits⟩

theorem Dev.BesideSlot.so {i v : Nat} (hk : k < 4096) : Dev.BesideSlot k d (d.so i k v) :=
  ⟨fun _ hel hne => Dev.o_so_ne hk hel (.inr hne), fun _ => rfl, ⟨rfl, rfl, rfl, rfl, rfl⟩⟩

theorem slotStateIdx_traceless {i : Nat} (hi : i ∈ slotStateIdx) : i ∉ traceIdx := by
  revert i
  decide

theorem Dev.slotSteady_traceTrig (e : Env) (d : Dev) (k b : Nat) : Dev.SlotSteady k d (d.traceTrig e b) := by
  obtain ⟨hframe, hcalm, hslots⟩ := Dev.traceTrig_keeps e d b
  have hslot : ∀ j, (d.traceTrig e b).slot j = d.slot j := fun j => by
    unfold Dev.slot
    rw [hslots]
  have hwaits : Dev.SameWaits d (d.traceTrig e b) := by
    unfold Dev.traceTrig
    split
    · exact ⟨rfl, rfl, rfl, rfl, rfl⟩
    · exact .refl d
  exact ⟨fun hi hel => hframe.o hel (slotStateIdx_traceless hi), fun _ => hslot _, by rw [hslot], hwaits⟩

theorem Dev.slotHold_beside (e : Env) (d : Dev) (cause : Nat) (hk : k < 4096) :
    Dev.BesideSlot k d (d.slotHold e k cause) ∧ ((d.slotHold e k cause).slot k).due = (d.slot k).due := by
  obtain ⟨d1, x, hd1, hx, hrun⟩ := Dev.slotHold_eq e d k cause
  have h1 : Dev.SlotSteady k d d1 := by
    rcases hd1 with h | h
    · rw [h]; exact .refl k d
    · rw [h]; exact .inc hk (by decide)
  have hset : Dev.SlotSteady k d (d1.setSlot k x) := h1.trans (.setSlot (hx.trans h1.due.symm))
  obtain ⟨w, hw⟩ : ∃ w, w = (((((d1.setSlot k x).so O.ATL_STATE k 3).so O.ATL_HOLD_CAUSE k cause).so O.ATL_CLEAN_MS k 0)).inc O.ATL_HOLDS k :=
    ⟨_, rfl⟩
  have hend := (Dev.slotSteady_traceTrig e w k 0).trans (Dev.SlotSteady.hmEval (e := e))
  have hbeside : Dev.BesideSlot k d w := by
    rw [hw]
    exact (((hset.beside.trans (.so hk)).trans (.so hk)).trans (.so hk)).trans (.so hk)
  have hdue : (w.slot k).due = (d.slot k).due := by
    rw [hw]
    exact hset.due
  rw [hrun, ← hw]
  exact ⟨hbeside.trans hend.beside, hend.due.trans hdue⟩

/-- The device with a slot's sample reported, up to what it declares. -/
def Dev.reported (d : Dev) (k : Nat) : Dev := d.setSlot k { (d.slot k) with due := none }

/-- What the report of a sample leaves: nothing of another slot's state, no sample waiting, and the hold that it declares. -/
theorem Dev.sampleReport_spec (e : Env) (d : Dev) (p : Sample) (hk : k < 4096) :
    Dev.BesideSlot k d (d.sampleReport e k p) ∧ ((d.sampleReport e k p).slot k).due = none ∧
      ∀ c, p.decl = some c → d.o O.ATL_STATE k = 2 → (d.sampleReport e k p).o O.ATL_STATE k = 3 ∧
        (d.sampleReport e k p).o O.ATL_HOLD_CAUSE k = c.1 ∧
        (d.sampleReport e k p).o O.ATL_HOLDS k = ctrAdd O.ATL_HOLDS k (d.o O.ATL_HOLDS k) 1 := by
  obtain ⟨w, hw, hrun⟩ : ∃ w : Dev, w = (match p.decl with
      | some c => if (d.reported k).o O.ATL_STATE k == 2 then (d.reported k).slotHold { e with now := p.time + 600 } k c.1 else d.reported k
      | none => d.reported k) ∧ d.sampleReport e k p = ((w.cleanCount k p.time p.clean).report { e with now := p.time + 600 } k p.time p.usable).drive
        { e with now := p.time } k p.current := ⟨_, rfl, rfl⟩
  have hgone : Dev.BesideSlot k d (d.reported k) :=
    ⟨fun _ _ _ => rfl, fun hj => Dev.slot_setSlot_other hj, ⟨rfl, rfl, rfl, rfl, rfl⟩⟩
  have hnone : ((d.reported k).slot k).due = none := by rw [Dev.reported, Dev.slot_setSlot]
  have hhold := fun c => Dev.slotHold_beside { e with now := p.time + 600 } (d.reported k) c hk
  have hwd : Dev.BesideSlot k d w ∧ (w.slot k).due = none := by
    rw [hw]
    split
    · split
      · exact ⟨hgone.trans (hhold _).1, (hhold _).2.trans hnone⟩
      · exact ⟨hgone, hnone⟩
    · exact ⟨hgone, hnone⟩
  have hrest : Dev.SlotSteady k w (d.sampleReport e k p) := by
    rw [hrun]
    exact ((Dev.slotSteady_cleanCount hk).trans (Dev.slotSteady_report hk)).trans (Dev.slotSteady_drive hk)
  refine ⟨hwd.1.trans hrest.beside, hrest.due.trans hwd.2, fun c hc h2 => ?_⟩
  have hheld : w = (d.reported k).slotHold { e with now := p.time + 600 } k c.1 := by
    rw [hw, hc]
    exact if_pos (beq_iff_eq.2 h2)
  obtain ⟨hstate, hcause, hholds, -⟩ := Dev.slotHold_spec { e with now := p.time + 600 } (d.reported k) (cause := c.1) hk
  rw [hrest.objs (by decide) hk, hrest.objs (by decide) hk, hrest.objs (by decide) hk, hheld, hstate, hcause, hholds]
  exact ⟨rfl, rfl, rfl⟩

theorem Dev.beside_sampleDue (e : Env) (d : Dev) (hk : k < 4096) : Dev.BesideSlot k d (d.sampleDue e k) := by
  unfold Dev.sampleDue
  split
  · split
    · exact (Dev.sampleReport_spec e d _ hk).1
    · exact .refl k d
  · exact .refl k d

/-- What the report of a slot's sample leaves of the slot, and of what waits. -/
def Dev.ReportsSample (d : Dev) (q : Nat) (p : Sample) (x : Dev) : Prop :=
  Dev.SameWaits d x ∧ (x.slot q).due = none ∧ ∀ c, p.decl = some c → d.o O.ATL_STATE q = 2 → x.o O.ATL_STATE q = 3 ∧
    x.o O.ATL_HOLD_CAUSE q = c.1 ∧ x.o O.ATL_HOLDS q = ctrAdd O.ATL_HOLDS q (d.o O.ATL_HOLDS q) 1

/-- The reports of an instant: that of a slot whose 400 ns have passed is among them, and nothing else waits for less. -/
theorem Dev.sampleStep_reports (e : Env) (d : Dev) {p : Sample} (hq : q < 4) (hdue : (d.slot q).due = some p) (htime : p.time + 600 ≤ e.now) :
    d.ReportsSample q p (d.sampleStep e) := by
  have h4 : q < 4096 := by omega
  refine foldl_range_visits (P := d.ReportsSample q p) (K := fun x : Dev => Dev.SameWaits d x ∧ x.slot q = d.slot q ∧ ∀ i ∈ slotStateIdx, x.o i q = d.o i q)
    (fun x k hk hne ⟨hw, hs, ho⟩ => ?_) (fun x ⟨hw, hs, ho⟩ => ?_) (fun x k hk hne ⟨hw, hs, ho⟩ => ?_) hq ⟨.refl d, rfl, fun _ _ => rfl⟩
  · have hb := Dev.beside_sampleDue e x (k := k) (by omega)
    exact ⟨hw.trans hb.waits, (hb.slots (Ne.symm hne)).trans hs, fun i hi => (hb.objs hi h4 (Ne.symm hne)).trans (ho i hi)⟩
  · have hrun : x.sampleDue e q = x.sampleReport e q p := by
      unfold Dev.sampleDue
      rw [hs, hdue]
      exact if_pos htime
    obtain ⟨hb, hnone, hheld⟩ := Dev.sampleReport_spec e x p h4
    rw [hrun]
    refine ⟨hw.trans hb.waits, hnone, fun c hc h2 => ?_⟩
    rw [← ho _ (by decide)] at h2 ⊢
    exact hheld c hc h2
  · have hb := Dev.beside_sampleDue e x (k := k) (by omega)
    refine ⟨hw.trans hb.waits, by rw [hb.slots (Ne.symm hne)]; exact hs, fun c hc h2 => ?_⟩
    rw [hb.objs (by decide) h4 (Ne.symm hne), hb.objs (by decide) h4 (Ne.symm hne), hb.objs (by decide) h4 (Ne.symm hne)]
    exact ho c hc h2

end

/-- A step of the clock, 400 ns after a sample, reports it. -/
theorem step_reports_sample {s : State} {q : Nat} {p : Sample} {c : Nat × Nat} (hq : s.Quiet) (hlt : q < s.env.slots) (hnil : s.pending = [])
    (hdue : (s.dev.slot q).due = some p) (htime : s.clock.time + 1 = p.time + 600) (hfab : s.dev.pwr.fabric = true)
    (hline : ∀ t ∈ s.dev.jq.lineDue, 2 * s.clock.time + 3 < t) (hsync : ∀ x ∈ s.dev.acq.syncs, 2 * s.clock.time + 3 < x.2)
    (hdark : ∀ x ∈ s.dev.rx.darkLate, 2 * s.clock.time + 3 < x.due) :
    ∃ t, step s = .next t ∧ (t.dev.slot q).due = none ∧
      (p.decl = some c → s.dev.o O.ATL_STATE q = 2 → t.dev.o O.ATL_STATE q = 3 ∧ t.dev.o O.ATL_HOLD_CAUSE q = c.1 ∧
          t.dev.o O.ATL_HOLDS q = ctrAdd O.ATL_HOLDS q (s.dev.o O.ATL_HOLDS q) 1) := by
  have hlt4 : q < 4 := by have := s.slots_le; omega
  have h4 : q < 4096 := by omega
  obtain ⟨u, hu⟩ : ∃ u : State, u = { s with clock := s.clock.tick true } := ⟨_, rfl⟩
  have hnow : u.env.now = s.clock.time + 1 := by rw [hu]; rfl
  have hudev : u.dev = s.dev := by rw [hu]
  obtain ⟨w, hw⟩ : ∃ w, w = Dev.sampleStep u.env { u.dev with sent := [] } := ⟨_, rfl⟩
  obtain ⟨hwaits, hnone, hheld⟩ := Dev.sampleStep_reports u.env { u.dev with sent := [] } (p := p) hlt4 (by rw [hudev]; exact hdue) (by omega)
  rw [← hw] at hwaits hnone hheld
  rw [hudev] at hwaits hheld
  have hbegin : begin_ u.env { u.dev with sent := [] } = w := by
    have hd : w.darkStep u.env = w := Dev.darkStep_still (by rw [hwaits.rx, hnow]; exact hdark)
    have hl : w.lineStep u.env = w := Dev.lineStep_still (by rw [hwaits.lineDue, hnow]; exact hline)
    have hy : w.syncStep u.env = w := Dev.syncStep_still (by rw [hwaits.acq, hnow]; exact hsync)
    unfold begin_
    rw [← hw, hd, hl, hy]
  have hslots := Dev.takesSlots_cmdSlots u.env w
  have hs : (w.cmdSlots u.env).jq.settle = false := by rw [hslots.rest]; exact hwaits.settle.trans hq.1
  have hr : (w.cmdSlots u.env).pwr.rstDue = none := by rw [hslots.rest]; exact (congrArg Pwr.rstDue hwaits.pwr).trans hq.2.1
  have hatl : (w.cmdSlots u.env).atl = w.atl := by rw [hslots.rest]
  have hrun : step s = .next { u with dev := Dev.markSubs u.env (w.cmdSlots u.env) } := by
    rw [step_nil hnil, ← finish_quiet hs hr, ← hbegin, hu, tick, hfab]
    rfl
  have ho : ∀ i ∈ slotStateIdx, (Dev.markSubs u.env (w.cmdSlots u.env)).o i q = w.o i q := fun i hi =>
    hslots.frame.o h4 (by revert i; decide)
  refine ⟨_, hrun, (congrArg Slot.due (Dev.slot_congr hatl q)).trans hnone, fun hc h2 => ?_⟩
  show (Dev.markSubs u.env (w.cmdSlots u.env)).o O.ATL_STATE q = 3 ∧ (Dev.markSubs u.env (w.cmdSlots u.env)).o O.ATL_HOLD_CAUSE q = c.1 ∧
    (Dev.markSubs u.env (w.cmdSlots u.env)).o O.ATL_HOLDS q = ctrAdd O.ATL_HOLDS q (s.dev.o O.ATL_HOLDS q) 1
  rw [ho _ (by decide), ho _ (by decide), ho _ (by decide)]
  exact hheld c hc h2

/-- Settles O36. -/
theorem loopsAreSampledAndSupervised : Obligations.LoopsAreSampledAndSupervised :=
  fun _ _ hq hlt => ⟨fun _ hfresh => loopSample_takes hq hlt hfresh, fun _ hfew h2 h3 => loopSample_waits hq hfew h2 h3,
    fun _ _ hnil hdue htime hfab hline hsync hdark => step_reports_sample hq hlt hnil hdue htime hfab hline hsync hdark,
    fun hfew h2 hout hlate => feedbackMissing_declares hq hlt hfew h2 hout hlate,
    fun _ hon hslot => ⟨coilOvercurrent_turns_off hq hon hslot, fun hu => coilOpen_turns_off hq hon hslot hu⟩,
    fun _ _ hon => coilCompliance_shows hq hon⟩

end Sys2Proof.Machine
end

section
/-! PROOF. Supervision and results of the sensor bridge (chapter 12). -/

namespace Sys2Proof.Machine

/-! ### Bridge channels -/

section
variable {e : Env} {d d' : Dev} {n k : Nat} {b : Bridge}

@[simp] theorem Dev.bridge_setBridge (d : Dev) (n : Nat) (b : Bridge) : (d.setBridge n b).bridge n = b := tget_tset_self ..

theorem Dev.bridge_setBridge_other (h : k ≠ n) : (d.setBridge n b).bridge k = d.bridge k := tget_tset_ne _ _ _ _ h

@[simp] theorem Dev.o_setBridge (d : Dev) (n : Nat) (b : Bridge) (i el : Nat) : (d.setBridge n b).o i el = d.o i el := rfl

theorem Dev.calm_setBridge (d : Dev) (n : Nat) (b : Bridge) : Dev.Calm d (d.setBridge n b) := ⟨rfl, rfl⟩

theorem Dev.lt_of_sbOn (h : d.sbOn n = true) : n < 8 := by
  unfold Dev.sbOn at h
  rw [Bool.and_eq_true] at h
  exact of_decide_eq_true h.1

theorem Dev.sbOn_congr (h : d'.o O.SB_MODE n = d.o O.SB_MODE n) : d'.sbOn n = d.sbOn n := by
  unfold Dev.sbOn
  rw [h]

/-- SB_STATUS of a powered channel (Table 12-7). -/
theorem Dev.sbShow_on (h : d.sbOn n = true) :
    d.sbShow n = d.so O.SB_STATUS n (if (d.bridge n).fault != 0 then 2 + (d.bridge n).fault else if (d.bridge n).stale != 0 then 2 else 1) := by
  unfold Dev.sbShow
  dsimp only
  rw [h]
  rfl

theorem Dev.sbShow_eq (d : Dev) (n : Nat) : ∃ v, d.sbShow n = d.so O.SB_STATUS n v := ⟨_, rfl⟩

/-! ### The end of a block (R599) -/

/-- A channel's checks and objects are as before. -/
structure Dev.SameChan (n : Nat) (d d' : Dev) : Prop where
  o : ∀ i, d'.o i n = d.o i n
  bridge : d'.bridge n = d.bridge n
  calm : Dev.Calm d d'

theorem Dev.SameChan.refl (n : Nat) (d : Dev) : Dev.SameChan n d d := ⟨fun _ => rfl, rfl, .refl d⟩

theorem Dev.SameChan.trans {d'' : Dev} (h : Dev.SameChan n d d') (g : Dev.SameChan n d' d'') : Dev.SameChan n d d'' :=
  ⟨fun i => (g.o i).trans (h.o i), g.bridge.trans h.bridge, h.calm.trans g.calm⟩

theorem Dev.SameChan.setBridge (h : n ≠ k) : Dev.SameChan n d (d.setBridge k b) :=
  ⟨fun _ => rfl, Dev.bridge_setBridge_other h, Dev.calm_setBridge ..⟩

theorem Dev.SameChan.so {i v : Nat} (hk : k < 4096) (hn : n < 4096) (h : n ≠ k) : Dev.SameChan n d (d.so i k v) :=
  ⟨fun _ => Dev.o_so_ne hk hn (.inr h), rfl, .so ..⟩

theorem Dev.sameChan_blockCheck {ms : List BridgeMeas} (hk : k < 4096) (hn : n < 4096) (h : n ≠ k) :
    Dev.SameChan n d (d.blockCheck e k ms) := by
  unfold Dev.blockCheck
  dsimp only
  split
  · exact .setBridge h
  · have hso : ∀ {v}, Dev.SameChan n d (d.so O.SB_I_MEAS k v) := .so hk hn h
    split
    · exact hso.trans (.setBridge h)
    · exact hso.trans (.setBridge h)

/-- What the checks of a block leave of a channel. -/
def Dev.BlockChecked (d : Dev) (n : Nat) (ms : List BridgeMeas) (x : Dev) : Prop :=
  (ms.find? (fun m => m.chan == n) = none → (x.bridge n).fails = 0 ∧ (x.bridge n).passes = (d.bridge n).passes + 1) ∧
    ∀ m, ms.find? (fun m => m.chan == n) = some m → x.o O.SB_I_MEAS n = satN 65535 m.iEnd ∧
      (d.blockFault m = 0 → (x.bridge n).fails = 0 ∧ (x.bridge n).passes = (d.bridge n).passes + 1) ∧
      (d.blockFault m ≠ 0 → (x.bridge n).fails = (d.bridge n).fails + 1 ∧ (x.bridge n).passes = 0 ∧
        ((d.bridge n).fails < 2 → (x.bridge n).kind = d.blockFault m))

theorem Dev.blockFault_congr {m : BridgeMeas} (hb : d'.bridge m.chan = d.bridge m.chan) (ho : ∀ i, d'.o i m.chan = d.o i m.chan) :
    d'.blockFault m = d.blockFault m := by
  unfold Dev.blockFault
  rw [hb, ho, ho]

/-- A step that keeps a channel's counts. -/
theorem Dev.BlockChecked.mono {ms : List BridgeMeas} {x y : Dev} (h : d.BlockChecked n ms x) (ho : y.o O.SB_I_MEAS n = x.o O.SB_I_MEAS n)
    (hf : (y.bridge n).fails = (x.bridge n).fails) (hp : (y.bridge n).passes = (x.bridge n).passes)
    (hk : (y.bridge n).kind = (x.bridge n).kind) : d.BlockChecked n ms y := by
  unfold Dev.BlockChecked
  rw [ho, hf, hp, hk]
  exact h

theorem Dev.blockChecked_blockCheck {ms : List BridgeMeas} (hs : Dev.SameChan n d d') : d.BlockChecked n ms (d'.blockCheck e n ms) := by
  unfold Dev.BlockChecked Dev.blockCheck
  dsimp only
  cases hf : ms.find? (fun m => m.chan == n) with
  | none =>
    dsimp only
    rw [Dev.bridge_setBridge, hs.bridge]
    exact ⟨fun _ => ⟨rfl, rfl⟩, fun m hm => absurd hm (by simp)⟩
  | some m =>
    have hchan : m.chan = n := beq_iff_eq.1 (List.find?_some (p := fun m : BridgeMeas => m.chan == n) hf)
    have hfault : d'.blockFault m = d.blockFault m := Dev.blockFault_congr (by rw [hchan, hs.bridge]) fun i => by rw [hchan, hs.o]
    dsimp only
    rw [hfault, hs.bridge]
    refine ⟨fun h => absurd h (by simp), fun m' hm => ?_⟩
    obtain rfl := Option.some.inj hm
    split
    next h0 =>
      have h0 := beq_iff_eq.1 h0
      rw [Dev.bridge_setBridge]
      exact ⟨Dev.o_so_self .., fun _ => ⟨rfl, rfl⟩, fun h => absurd h0 h⟩
    next h0 =>
      have h0 : d.blockFault m ≠ 0 := fun h => h0 (beq_iff_eq.2 h)
      rw [Dev.bridge_setBridge]
      exact ⟨Dev.o_so_self .., fun h => absurd h h0, fun _ => ⟨rfl, rfl, fun h => if_pos h⟩⟩

/-- A channel at the end of a block. -/
def Dev.blockChan (e : Env) (ms : List BridgeMeas) (d : Dev) (n : Nat) : Dev :=
  if !d.sbOn n then d
  else
    let d := d.blockCheck e n ms
    if d.o O.SB_MODE n == 2 && d.atl.blocks % 6 == 0 then d.setBridge n (d.sbTake e n (d.bridge n)) else d

theorem Dev.sameChan_blockChan {ms : List BridgeMeas} (hk : k < 4096) (hn : n < 4096) (h : n ≠ k) :
    Dev.SameChan n d (d.blockChan e ms k) := by
  have hcheck := Dev.sameChan_blockCheck (e := e) (d := d) (ms := ms) hk hn h
  unfold Dev.blockChan
  dsimp only
  split
  · exact .refl n d
  · split
    · exact hcheck.trans (.setBridge h)
    · exact hcheck

theorem Dev.calm_blockCheck (e : Env) (d : Dev) (n : Nat) (ms : List BridgeMeas) : Dev.Calm d (d.blockCheck e n ms) := by
  unfold Dev.blockCheck
  dsimp only
  split
  · exact Dev.calm_setBridge ..
  · split
    · exact (Dev.Calm.so ..).trans (Dev.calm_setBridge ..)
    · exact (Dev.Calm.so ..).trans (Dev.calm_setBridge ..)

theorem Dev.blockChan_checks {ms : List BridgeMeas} (hs : Dev.SameChan n d d') (hon : d.sbOn n = true) :
    d.BlockChecked n ms (d'.blockChan e ms n) ∧ Dev.Calm d (d'.blockChan e ms n) := by
  have hcheck := Dev.blockChecked_blockCheck (e := e) (ms := ms) hs
  have hcalm := hs.calm.trans (Dev.calm_blockCheck e d' n ms)
  have hrun : (!d'.sbOn n) = false := by rw [Dev.sbOn_congr (hs.o _), hon]; rfl
  unfold Dev.blockChan
  dsimp only
  rw [hrun, if_neg (by decide)]
  split
  · refine ⟨hcheck.mono rfl ?_ ?_ ?_, hcalm.trans (Dev.calm_setBridge ..)⟩ <;> rw [Dev.bridge_setBridge] <;> rfl
  · exact ⟨hcheck, hcalm⟩

theorem Dev.blockEnd_eq {ms : List BridgeMeas} (h : d.atl.blockAt + 3750 ≤ e.now) : d.blockEnd e ms =
    (List.range 8).foldl (Dev.blockChan e ms) { d with atl := { d.atl with blockAt := e.now, blocks := d.atl.blocks + 1 } } :=
  if_neg (Nat.not_lt.2 h)

theorem Dev.blockEnd_checks {ms : List BridgeMeas} (hon : d.sbOn n = true) (h : d.atl.blockAt + 3750 ≤ e.now) :
    d.BlockChecked n ms (d.blockEnd e ms) ∧ Dev.Calm d (d.blockEnd e ms) := by
  have hn := Dev.lt_of_sbOn hon
  obtain ⟨d0, hd0⟩ : ∃ d0 : Dev, d0 = { d with atl := { d.atl with blockAt := e.now, blocks := d.atl.blocks + 1 } } := ⟨_, rfl⟩
  have h0 : Dev.SameChan n d d0 := by rw [hd0]; exact ⟨fun _ => rfl, rfl, ⟨rfl, rfl⟩⟩
  rw [Dev.blockEnd_eq h, ← hd0]
  refine foldl_range_visits (K := Dev.SameChan n d) (P := fun x => d.BlockChecked n ms x ∧ Dev.Calm d x)
    (fun x k hk hne hx => hx.trans (Dev.sameChan_blockChan (by omega) (by omega) (Ne.symm hne)))
    (fun x hx => Dev.blockChan_checks hx hon) (fun x k hk hne ⟨hx, hc⟩ => ?_) hn h0
  have hs := Dev.sameChan_blockChan (e := e) (d := x) (ms := ms) (k := k) (n := n) (by omega) (by omega) (Ne.symm hne)
  exact ⟨hx.mono (hs.o _) (by rw [hs.bridge]) (by rw [hs.bridge]) (by rw [hs.bridge]), hc.trans hs.calm⟩

end

section
variable {s : State} {n : Nat}

theorem bridgeBlockEnd_checks (ms : List BridgeMeas) (hq : s.Quiet) (hon : s.dev.sbOn n = true) (h : s.dev.atl.blockAt + 3750 ≤ s.clock.time) :
    Leads (.bridgeBlockEnd ms) s (fun t => s.dev.BlockChecked n ms t.dev) := by
  obtain ⟨hcheck, hcalm⟩ := Dev.blockEnd_checks (e := s.env) (d := s.begun) (n := n) (ms := ms) hon h
  refine leads_calm (f := fun e d => d.blockEnd e ms) _ hq rfl rfl hcalm fun t ht => ?_
  refine Dev.BlockChecked.mono (d := s.dev) (x := s.begun.blockEnd s.env ms) hcheck (ht.o ..) ?_ ?_ ?_ <;> rw [Dev.bridge_congr ht.atl]

theorem bridgeFaultDeclared_declares (hq : s.Quiet) (hon : s.dev.sbOn n = true) (h0 : (s.dev.bridge n).fault = 0)
    (h2 : 2 ≤ (s.dev.bridge n).fails) (hk : (s.dev.bridge n).kind ≠ 0) :
    Leads (.bridgeFaultDeclared n) s (fun t => (t.dev.bridge n).fault = (s.dev.bridge n).kind ∧
        t.dev.o O.SB_STATUS n = 2 + (s.dev.bridge n).kind ∧
        t.dev.o O.SB_FAULTS n = ctrAdd O.SB_FAULTS n (s.dev.o O.SB_FAULTS n) 1 ∧ Logged s t (0x0A00 + (s.dev.bridge n).kind) 2) := by
  have h4 : n < 4096 := by have := Dev.lt_of_sbOn hon; omega
  obtain ⟨b, hb⟩ : ∃ b : Bridge, b = { s.dev.bridge n with fault := (s.dev.bridge n).kind } := ⟨_, rfl⟩
  obtain ⟨w, hw⟩ : ∃ w, w = s.begun.setBridge n b := ⟨_, rfl⟩
  have hgo : (s.begun.sbOn n && (s.begun.bridge n).fault == 0 && decide (2 ≤ (s.begun.bridge n).fails)) = true := by
    rw [show s.begun.sbOn n = true from hon, show s.begun.bridge n = s.dev.bridge n from rfl, h0, decide_eq_true h2]
    rfl
  have hshow : w.sbShow n = w.so O.SB_STATUS n (2 + (s.dev.bridge n).kind) := by
    have hbw : w.bridge n = b := by rw [hw, Dev.bridge_setBridge]
    rw [Dev.sbShow_on (by rw [hw]; exact hon), hbw, hb, if_pos (bne_iff_ne.2 hk)]
  have hrun : s.begun.bridgeFault s.env n = ((w.so O.SB_STATUS n (2 + (s.dev.bridge n).kind)).inc O.SB_FAULTS n).log s.env
      (0x0A00 + (s.dev.bridge n).kind) (locCode 1 10 (8 + n) n 127 ((s.dev.bridge n).kind - 1)) 2 := by
    rw [← hshow, hw, hb]
    exact if_pos hgo
  have hatl : ((w.so O.SB_STATUS n (2 + (s.dev.bridge n).kind)).inc O.SB_FAULTS n).atl = w.atl := rfl
  have hflt : ((w.so O.SB_STATUS n (2 + (s.dev.bridge n).kind)).inc O.SB_FAULTS n).flt = s.dev.flt := by rw [hw]; rfl
  have hcalm : Dev.Calm s.begun w := by rw [hw]; exact Dev.calm_setBridge ..
  refine leads_calm (f := fun e d => d.bridgeFault e n) _ hq rfl hrun (((hcalm.trans (.so ..)).trans (.inc ..)).trans (.log _))
    fun t ht => ⟨?_, ?_, ?_, fun hroom => ?_⟩
  · rw [Dev.bridge_congr (ht.atl.trans ((Dev.atl_log ..).trans hatl)), hw, Dev.bridge_setBridge, hb]
  · rw [ht.o, Dev.o_log_other (by decide) h4, Dev.o_inc_other (by decide) h4 h4, Dev.o_so_self]
  · rw [ht.o, Dev.o_log_other (by decide) h4, Dev.o_inc_self, Dev.o_so_other (by decide) h4 h4, hw]
    rfl
  · rw [ht.flt]
    exact Dev.exists_held_log (by rw [hflt]; exact Nat.lt_trans hroom (by decide))

theorem bridgeFaultEnd_ends (hq : s.Quiet) (hon : s.dev.sbOn n = true) (h0 : (s.dev.bridge n).fault ≠ 0) (h64 : 64 ≤ (s.dev.bridge n).passes) :
    Leads (.bridgeFaultEnd n) s (fun t => (t.dev.bridge n).fault = 0 ∧ t.dev.o O.SB_STATUS n = 1 ∧
        (t.dev.bridge n).stale = if s.dev.o O.SB_MODE n = 1 then 3 else 0) := by
  obtain ⟨w, hw⟩ : ∃ w, w = s.begun.setBridge n { s.dev.bridge n with fault := 0 } := ⟨_, rfl⟩
  obtain ⟨b, hb⟩ : ∃ b : Bridge, b = { (w.bridge n) with stale := if w.o O.SB_MODE n == 1 then 3 else 0 } := ⟨_, rfl⟩
  have hgo : (s.begun.sbOn n && (s.begun.bridge n).fault != 0 && decide (64 ≤ (s.begun.bridge n).passes)) = true := by
    rw [show s.begun.sbOn n = true from hon, show s.begun.bridge n = s.dev.bridge n from rfl, bne_iff_ne.2 h0, decide_eq_true h64]
    rfl
  obtain ⟨v, hv⟩ := Dev.sbShow_eq (w.setBridge n b) n
  have hrun : s.begun.bridgeOk n = ((w.setBridge n b).so O.SB_STATUS n v).so O.SB_STATUS n 1 := by
    rw [← hv, hb, hw]
    exact if_pos hgo
  have hatl : (((w.setBridge n b).so O.SB_STATUS n v).so O.SB_STATUS n 1).atl = (w.setBridge n b).atl := rfl
  have hcalm : Dev.Calm s.begun w := by rw [hw]; exact Dev.calm_setBridge ..
  refine leads_calm (f := fun _ d => d.bridgeOk n) _ hq rfl hrun (((hcalm.trans (Dev.calm_setBridge ..)).trans (.so ..)).trans (.so ..))
    fun t ht => ⟨?_, ?_, ?_⟩
  · rw [Dev.bridge_congr (ht.atl.trans hatl), Dev.bridge_setBridge, hb, hw, Dev.bridge_setBridge]
  · rw [ht.o, Dev.o_so_self]
  · rw [Dev.bridge_congr (ht.atl.trans hatl), Dev.bridge_setBridge, hb, hw]
    show (if (s.dev.o O.SB_MODE n == 1) = true then 3 else 0) = _
    simp only [beq_iff_eq]

end

/-! ### The filter chain at a constant input (R594) -/

theorem foldl_add_mul {α : Type} (f : α → Rat) (x s : Rat) (l : List α) :
    l.foldl (fun s i => s + f i * x) (s * x) = l.foldl (fun s i => s + f i) s * x := by
  induction l generalizing s with
  | nil => rfl
  | cons a l ih => rw [List.foldl_cons, List.foldl_cons, ← ih, add_mul]

/-- A weighted sum of one value at every place. -/
theorem foldl_weighted {α : Type} {f g : α → Rat} {x : Rat} {l : List α} (h : ∀ i ∈ l, g i = x) :
    l.foldl (fun s i => s + f i * g i) 0 = l.foldl (fun s i => s + f i) 0 * x := by
  rw [← foldl_add_mul, zero_mul]
  exact List.foldl_ext _ _ _ fun s i hi => by rw [h i hi]

theorem sincOut_constant {tape : List Rat} {x : Rat} {k : Nat} (h : ∀ i, i < 142 → ratAt tape i = x) (hk : k ≤ 120) : sincOut tape k = x := by
  have hsum : (List.range 22).foldl (fun (s : Rat) j => s + ratAt sinc3 j) 0 = 512 := by
    simp [List.range_succ, ratAt, sinc3]
    norm_num
  unfold sincOut
  rw [foldl_weighted (f := ratAt sinc3) fun j hj => h (k + j) (by have := List.mem_range.1 hj; omega), hsum]
  ring

theorem firTap_sum : (List.range 16).foldl (fun (s : Rat) i => s + (firTap i : Rat)) 0 ≠ 0 := by
  by_cases h : (List.range 8).foldl (fun (s : Int) j => s + Config.sbTap j) 0 = 0
  · have hone : ∀ i, firTap i = 1 := fun i => if_pos h
    simp [hone, List.range_succ]
    norm_num
  · have htap : ∀ i, firTap i = Config.sbTap (min i (15 - i)) := fun i => if_neg h
    have htwice : (List.range 16).foldl (fun (s : Rat) i => s + (firTap i : Rat)) 0 =
        2 * (((List.range 8).foldl (fun (s : Int) j => s + Config.sbTap j) 0 : Int) : Rat) := by
      simp [htap, List.range_succ]
      ring
    rw [htwice]
    exact mul_ne_zero two_ne_zero (Int.cast_ne_zero.2 h)

theorem chainOut_constant {line : List Rat} {x : Rat} (h : ∀ i, i < 142 → ratAt line i = x) : chainOut line = x := by
  unfold chainOut
  rw [foldl_weighted (f := fun i => (firTap i : Rat)) (x := x) fun i hi => sincOut_constant h (by have := List.mem_range.1 hi; omega)]
  exact mul_div_cancel_left₀ x firTap_sum

/-! ### A modulator's clocks (R592) -/

theorem modClocks_one (r : BridgeRun) : modClocks [r] = List.replicate (min r.clocks 192) (r.diff, r.sense) := by
  have hle : min r.clocks 192 - 192 = 0 := by omega
  simp [modClocks, hle]

/-- A channel after a step of its modulator. -/
def Dev.modStep (e : Env) (d : Dev) (n : Nat) (v : Rat) (cs : List (Int × Int)) (b : Bridge) (i : Nat) : Bridge :=
  let t := 32 * e.now - 3750 * (cs.length - 1 - i)
  let held := d.atl.holds.any (fun p => p.1 == n && 16 * p.2.1 ≤ t && t < 16 * p.2.2)
  let x := if held then b.input else (cs[i]?).getD b.input
  { b with input := x, line := modOut (b.gainAt t) x v :: b.line }

/-- The clocks of a channel change its input and its line alone. -/
theorem Dev.modulate_keeps (e : Env) (d : Dev) (n : Nat) (v : Rat) (b : Bridge) (cs : List (Int × Int)) :
    ∃ i l, d.modulate e n v b cs = { b with input := i, line := l } := by
  show ∃ i l, (List.range cs.length).foldl (d.modStep e n v cs) b = { b with input := i, line := l }
  refine List.foldlRecOn (List.range cs.length) (d.modStep e n v cs) (motive := fun x => ∃ i l, x = { b with input := i, line := l })
    ⟨b.input, b.line, rfl⟩ fun x hx i _ => ?_
  obtain ⟨inp, l, rfl⟩ := hx
  exact ⟨_, _, rfl⟩

/-- Clocks of one input without a hold, in the gain in force, put its ratio at the front of the line. -/
theorem Dev.modulate_constant (e : Env) (d : Dev) {n : Nat} (v : Rat) {b : Bridge} (m : Nat) {c : Int × Int} (hg : b.gains = [])
    (hh : ∀ p ∈ d.atl.holds, p.1 ≠ n) :
    ∃ i, d.modulate e n v b (List.replicate m c) = { b with input := i, line := List.replicate m (modOut b.pga c v) ++ b.line } := by
  have hany : ∀ t, d.atl.holds.any (fun p => p.1 == n && decide (16 * p.2.1 ≤ t) && decide (t < 16 * p.2.2)) = false := fun t => by
    rw [List.any_eq_false]
    intro p hp
    simp [hh p hp]
  have hlen : (List.replicate m c).length = m := List.length_replicate
  have hstep : ∀ j, j ≤ m → ∃ i, (List.range j).foldl (d.modStep e n v (List.replicate m c)) b =
      { b with input := i, line := List.replicate j (modOut b.pga c v) ++ b.line } := by
    intro j
    induction j with
    | zero => exact fun _ => ⟨b.input, rfl⟩
    | succ j ih =>
      intro hj
      obtain ⟨i, hi⟩ := ih (Nat.le_of_succ_le hj)
      have hc : (List.replicate m c)[j]? = some c := by
        rw [List.getElem?_replicate, if_pos (by omega)]
      refine ⟨c, ?_⟩
      rw [List.range_succ, List.foldl_concat, hi]
      unfold Dev.modStep
      dsimp only
      rw [hany, hc, if_neg (by decide), Option.getD_some, List.replicate_succ, List.cons_append]
      unfold Bridge.gainAt
      rw [hg]
      rfl
  show ∃ i, (List.range (List.replicate m c).length).foldl (d.modStep e n v (List.replicate m c)) b = _
  rw [hlen]
  exact hstep m (Nat.le_refl m)

theorem ratAt_replicate_append {m i : Nat} {x : Rat} {l : List Rat} (h : i < m) : ratAt (List.replicate m x ++ l) i = x := by
  unfold ratAt
  rw [List.getElem?_append_left (by rw [List.length_replicate]; exact h), List.getElem?_replicate, if_pos h]
  rfl

theorem ratAt_take {m i : Nat} {l : List Rat} (h : i < m) : ratAt (l.take m) i = ratAt l i := by
  unfold ratAt
  rw [List.getElem?_take_of_lt h]

section
variable {e : Env} {d : Dev} {n : Nat}

/-- What a result's clocks leave of a channel beside its input and its line. -/
theorem Dev.sbClocks_keeps (e : Env) (d : Dev) (n : Nat) (l : List BridgeRun) (v : Rat) :
    ∃ i t, d.sbClocks e n l v = { d.bridge n with input := i, line := t } := by
  obtain ⟨i, t, h⟩ := Dev.modulate_keeps e d n v (d.bridge n) (modClocks l)
  unfold Dev.sbClocks
  dsimp only
  rw [h]
  exact ⟨i, _, rfl⟩

/-- X of a channel at a constant input (R592, R594, R598). -/
theorem Dev.bridgeX_constant {k : Nat} {diff sense : Int} (hs : sense ≠ 0) (hk : 142 ≤ k) (hg : (d.bridge n).gains = [])
    (hh : ∀ p ∈ d.atl.holds, p.1 ≠ n) :
    ∃ i t, d.bridgeX e n [⟨k, diff, sense⟩] = ({ d.bridge n with input := i, line := t },
      clampI (-8388608) 8388607 (roundHE ((diff * 4 ^ (d.bridge n).pga * 8388608 : Int) / (sense : Rat))), d) := by
  obtain ⟨i, hmod⟩ := Dev.modulate_constant e d (n := n) 0 (b := d.bridge n) (min k 192) (c := (diff, sense)) hg hh
  obtain ⟨t, ht⟩ : ∃ t, t = (List.replicate (min k 192) (modOut (d.bridge n).pga (diff, sense) 0) ++ (d.bridge n).line).take
      (if d.o O.SB_MODE n == 2 then min 144 (modClocks [⟨k, diff, sense⟩]).length else 142) := ⟨_, rfl⟩
  have hclocks : d.sbClocks e n [⟨k, diff, sense⟩] 0 = { d.bridge n with input := i, line := t } := by
    unfold Dev.sbClocks
    dsimp only
    rw [modClocks_one, hmod, ht, modClocks_one]
  have hline : ∀ j, j < 142 → ratAt t j = modOut (d.bridge n).pga (diff, sense) 0 := fun j hj => by
    rw [ht, modClocks_one, List.length_replicate, ratAt_take (by dsimp only; split <;> omega), ratAt_replicate_append (by omega)]
  have hratio : modOut (d.bridge n).pga (diff, sense) 0 * 8388608 = (diff * 4 ^ (d.bridge n).pga * 8388608 : Int) / (sense : Rat) := by
    unfold modOut
    rw [if_neg hs]
    push_cast
    ring
  refine ⟨i, t, ?_⟩
  have hfree : ([⟨k, diff, sense⟩] : List BridgeRun).any (fun r => decide (r.sense = 0)) = false := by simp [hs]
  unfold Dev.bridgeX
  rw [if_neg (by rw [hfree]; decide)]
  dsimp only
  rw [hclocks, chainOut_constant hline, hratio]

end

/-! ### A result (R595, R598 to R601) -/

/-- What a result does to the slots that its channel feeds. -/
def Dev.fedSlot (n : Nat) (d : Dev) (q : Nat) : Dev :=
  if d.o O.ATL_FB_A q == n then d.setSlot q { (d.slot q) with results := (d.slot q).results + 1 } else d

/-- A step that leaves objects, bridge channels and what a command's end finds. -/
structure Dev.SameObjs (d d' : Dev) : Prop where
  objs : d'.objs = d.objs
  bridge : ∀ n, d'.bridge n = d.bridge n
  calm : Dev.Calm d d'

theorem Dev.SameObjs.trans {d d' d'' : Dev} (h : Dev.SameObjs d d') (g : Dev.SameObjs d' d'') : Dev.SameObjs d d'' :=
  ⟨g.objs.trans h.objs, fun n => (g.bridge n).trans (h.bridge n), h.calm.trans g.calm⟩

theorem Dev.sameObjs_fedSlot (n : Nat) (d : Dev) (q : Nat) : Dev.SameObjs d (d.fedSlot n q) := by
  unfold Dev.fedSlot
  split
  · exact ⟨rfl, fun _ => rfl, Dev.calm_setSlot ..⟩
  · exact ⟨rfl, fun _ => rfl, .refl d⟩

theorem Dev.sameObjs_fedSlots (n : Nat) (l : List Nat) (d : Dev) : Dev.SameObjs d (l.foldl (Dev.fedSlot n) d) :=
  rel_foldl (R := Dev.SameObjs) (fun d => ⟨rfl, fun _ => rfl, .refl d⟩) Dev.SameObjs.trans (fun d q => Dev.sameObjs_fedSlot n d q) l d

theorem Dev.slot_fedSlot_other {n : Nat} {d : Dev} {k q : Nat} (h : q ≠ k) : (d.fedSlot n k).slot q = d.slot q := by
  unfold Dev.fedSlot
  split
  · exact Dev.slot_setSlot_other h
  · rfl

theorem Dev.results_fedSlots {n : Nat} {d : Dev} {q : Nat} (hq : q < 4) (h : d.o O.ATL_FB_A q = n) :
    (((List.range 4).foldl (Dev.fedSlot n) d).slot q).results = (d.slot q).results + 1 := by
  refine foldl_range_visits (K := fun x : Dev => x.slot q = d.slot q ∧ x.objs = d.objs) (P := fun x : Dev => (x.slot q).results = (d.slot q).results + 1)
    (fun x k hk hne ⟨hs, ho⟩ => ⟨(Dev.slot_fedSlot_other (Ne.symm hne)).trans hs, (Dev.sameObjs_fedSlot n x k).objs.trans ho⟩)
    (fun x ⟨hs, ho⟩ => ?_) (fun x k hk hne hx => ?_) hq ⟨rfl, rfl⟩
  · unfold Dev.fedSlot
    rw [Dev.o_congr ho, h, if_pos (beq_self_eq_true n), Dev.slot_setSlot, hs]
  · rw [Dev.slot_fedSlot_other (Ne.symm hne)]; exact hx

section
variable {e : Env} {d : Dev} {n : Nat}

/-- The word of a result. -/
def Dev.sbWord (e : Env) (d : Dev) (n : Nat) (b : Bridge) (hold : Bool) (x : Int) : Nat :=
  (ofS 24 x <<< 8) + (b2n (b.stale != 0) <<< 7) + (b2n hold <<< 6) + (b2n (d.blankIn e n) <<< 5) + (b.fault <<< 2)

/-- A channel holds its last good result. -/
def Bridge.holds (e : Env) (b : Bridge) : Bool := b.fault != 0 || (b.failAt != 0 && 8 * e.now < 8 * (b.failAt - 1) + 133125)

/-- The device with a result, before the slots it feeds. -/
def Dev.sbResult (e : Env) (d : Dev) (n k : Nat) (b : Bridge) (x : Int) : Dev :=
  let xs := if b.holds e then b.good else x
  let th := d.linearise n xs
  let d := (d.so O.SB_RESULT n (d.sbWord e n b (b.holds e) xs)).so O.SB_ANGLE n (ofS 32 (microDeg (f32Val th)))
  let d := if b.holds e then d.inc O.SB_HOLDS n else d
  let d := d.setBridge n { b with stale := b.stale - 1, good := xs, rawX := x, resultBlk := d.atl.blocks / k * k, theta := th }
  d.sbShow n

theorem Dev.bridgeX_keeps (e : Env) (d : Dev) (n : Nat) (l : List BridgeRun) :
    (∃ i t, (d.bridgeX e n l).1 = { d.bridge n with input := i, line := t }) ∧
      ((d.bridgeX e n l).2.2 = d ∨ (d.bridgeX e n l).2.2 = { d with free := d.free + 1 }) := by
  unfold Dev.bridgeX
  by_cases h : l.any (fun r => decide (r.sense = 0)) = true
  · rw [if_pos h]
    exact ⟨Dev.sbClocks_keeps .., .inr rfl⟩
  · rw [if_neg h]
    exact ⟨Dev.sbClocks_keeps .., .inl rfl⟩

theorem Dev.bridgeResult_eq {l : List BridgeRun} (hon : d.sbOn n = true)
    (hlt : (d.bridge n).resultBlk < d.atl.blocks / d.sbBlocks n * d.sbBlocks n) {b : Bridge} {x : Int} {w : Dev}
    (hx : d.bridgeX e n l = (b, x, w)) :
    d.bridgeResult e n l = (List.range 4).foldl (Dev.fedSlot n) (w.sbResult e n (d.sbBlocks n) b x) := by
  have hgo : ¬ (!d.sbOn n || decide (d.atl.blocks / d.sbBlocks n * d.sbBlocks n ≤ (d.bridge n).resultBlk)) = true := by
    rw [hon]
    simpa using hlt
  unfold Dev.bridgeResult
  dsimp only
  rw [if_neg hgo, hx]
  unfold Dev.sbResult Dev.sbWord Bridge.holds
  rfl

end

/-- What a result leaves of its channel. -/
structure Dev.ResultTaken (e : Env) (d : Dev) (n k : Nat) (b : Bridge) (x : Int) (d' : Dev) : Prop where
  word : d'.o O.SB_RESULT n = d.sbWord e n b (b.holds e) (if b.holds e then b.good else x)
  holds : b.holds e = true → d'.o O.SB_HOLDS n = ctrAdd O.SB_HOLDS n (d.o O.SB_HOLDS n) 1
  good : (d'.bridge n).good = if b.holds e then b.good else x
  stale : (d'.bridge n).stale = b.stale - 1
  resultBlk : (d'.bridge n).resultBlk = d.atl.blocks / k * k
  calm : Dev.Calm d d'

section
variable {e : Env} {d : Dev} {n k : Nat} {b : Bridge} {x : Int}

theorem Dev.sbResult_spec (hn : n < 4096) :
    Dev.ResultTaken e d n k b x (d.sbResult e n k b x) ∧ (∀ q, (d.sbResult e n k b x).slot q = d.slot q) ∧
      ∀ q, q < 4096 → (d.sbResult e n k b x).o O.ATL_FB_A q = d.o O.ATL_FB_A q := by
  obtain ⟨xs, hxs⟩ : ∃ xs, xs = if b.holds e then b.good else x := ⟨_, rfl⟩
  obtain ⟨w, hw⟩ : ∃ w, w = (d.so O.SB_RESULT n (d.sbWord e n b (b.holds e) xs)).so O.SB_ANGLE n (ofS 32 (microDeg (f32Val (d.linearise n xs)))) :=
    ⟨_, rfl⟩
  obtain ⟨c, hc⟩ : ∃ c, c = if b.holds e then w.inc O.SB_HOLDS n else w := ⟨_, rfl⟩
  obtain ⟨b', hb'⟩ : ∃ b' : Bridge, b' = { b with stale := b.stale - 1, good := xs, rawX := x, resultBlk := c.atl.blocks / k * k, theta := d.linearise n xs } := ⟨_, rfl⟩
  obtain ⟨v, hv⟩ := Dev.sbShow_eq (c.setBridge n b') n
  have hrun : d.sbResult e n k b x = (c.setBridge n b').so O.SB_STATUS n v := by
    rw [← hv, hb', hc, hw, hxs]
    rfl
  have hwatl : w.atl = d.atl := by rw [hw]; rfl
  have hcatl : c.atl = d.atl := by
    rw [hc]
    split
    · exact hwatl
    · exact hwatl
  have hbr : ((c.setBridge n b').so O.SB_STATUS n v).bridge n = b' := Dev.bridge_setBridge ..
  have hcalm : Dev.Calm d c := by
    have : Dev.Calm d w := by rw [hw]; exact (Dev.Calm.so ..).trans (.so ..)
    rw [hc]
    exact .ite (this.trans (.inc ..)) this
  have hco : ∀ {i el}, el < 4096 → i ≠ O.SB_HOLDS → c.o i el = w.o i el := fun hel hi => by
    rw [hc]
    split
    · exact Dev.o_inc_other hi hn hel
    · rfl
  rw [hrun]
  refine ⟨⟨?_, fun hhold => ?_, ?_, ?_, ?_, (hcalm.trans (Dev.calm_setBridge ..)).trans (.so ..)⟩, fun q => ?_, fun q hq => ?_⟩
  · rw [Dev.o_so_other (by decide) hn hn, Dev.o_setBridge, hco hn (by decide), hw, Dev.o_so_other (by decide) hn hn, Dev.o_so_self, hxs]
  · rw [Dev.o_so_other (by decide) hn hn, Dev.o_setBridge, hc, if_pos hhold, Dev.o_inc_self, hw, Dev.o_so_other (by decide) hn hn,
      Dev.o_so_other (by decide) hn hn]
  · rw [hbr, hb', hxs]
  · rw [hbr, hb']
  · rw [hbr, hb', hcatl]
  · show c.slot q = d.slot q
    exact Dev.slot_congr hcatl q
  · rw [Dev.o_so_other (by decide) hn hq, Dev.o_setBridge, hco hq (by decide), hw, Dev.o_so_other (by decide) hn hq,
      Dev.o_so_other (by decide) hn hq]

theorem Dev.ResultTaken.fed {d' : Dev} (h : Dev.ResultTaken e d n k b x d') :
    Dev.ResultTaken e d n k b x ((List.range 4).foldl (Dev.fedSlot n) d') := by
  have hs := Dev.sameObjs_fedSlots n (List.range 4) d'
  exact ⟨(Dev.o_congr hs.objs ..).trans h.word, fun hh => (Dev.o_congr hs.objs ..).trans (h.holds hh), by rw [hs.bridge, h.good],
    by rw [hs.bridge, h.stale], by rw [hs.bridge, h.resultBlk], h.calm.trans hs.calm⟩

end

section
variable {s : State} {n : Nat}

theorem bridgeResult_carries_ratio {k : Nat} {diff sense x : Int} (hq : s.Quiet) (hon : s.dev.sbOn n = true)
    (hlt : (s.dev.bridge n).resultBlk < s.dev.atl.blocks / s.dev.sbBlocks n * s.dev.sbBlocks n) (hs : sense ≠ 0) (hk : 142 ≤ k)
    (hg : (s.dev.bridge n).gains = []) (hh : ∀ p ∈ s.dev.atl.holds, p.1 ≠ n)
    (hx : x = clampI (-8388608) 8388607 (roundHE ((diff * 4 ^ (s.dev.bridge n).pga * 8388608 : Int) / (sense : Rat))))
    (hf : (s.dev.bridge n).fault = 0) (hfail : (s.dev.bridge n).failAt = 0) :
    Leads (.bridgeResult n [⟨k, diff, sense⟩]) s (fun t =>
        (t.dev.bridge n).good = x ∧ (t.dev.bridge n).resultBlk = s.dev.atl.blocks / s.dev.sbBlocks n * s.dev.sbBlocks n ∧
        (t.dev.bridge n).stale = (s.dev.bridge n).stale - 1 ∧
        ((s.dev.bridge n).stale = 0 → t.dev.o O.SB_RESULT n = ofS 24 x <<< 8) ∧
        ∀ q, q < 4 → s.dev.o O.ATL_FB_A q = n → (t.dev.slot q).results = (s.dev.slot q).results + 1) := by
  have hn : n < 4096 := by have := Dev.lt_of_sbOn hon; omega
  obtain ⟨i, l, hX⟩ := Dev.bridgeX_constant (e := s.env) (d := s.begun) (n := n) (diff := diff) hs hk hg hh
  obtain ⟨b, hb⟩ : ∃ b : Bridge, b = { s.begun.bridge n with input := i, line := l } := ⟨_, rfl⟩
  rw [← hb, show s.begun.bridge n = s.dev.bridge n from rfl, ← hx] at hX
  rw [show s.begun.bridge n = s.dev.bridge n from rfl] at hb
  have hnohold : b.holds s.env = false := by
    unfold Bridge.holds
    rw [hb, hf, hfail]
    rfl
  have hrun := Dev.bridgeResult_eq (e := s.env) (d := s.begun) (n := n) hon hlt hX
  obtain ⟨htaken, hslot, hfb⟩ := Dev.sbResult_spec (e := s.env) (d := s.begun) (k := s.begun.sbBlocks n) (b := b) (x := x) hn
  obtain ⟨hword, -, hgood, hstale, hblk, hcalm⟩ := htaken.fed
  rw [hnohold, if_neg (by decide)] at hword hgood
  refine leads_calm (f := fun e d => d.bridgeResult e n [⟨k, diff, sense⟩]) _ hq rfl hrun hcalm fun t ht => ⟨?_, ?_, ?_, fun h0 => ?_,
    fun q hlt4 hfbq => ?_⟩
  · rw [Dev.bridge_congr ht.atl, hgood]
  · rw [Dev.bridge_congr ht.atl, hblk]; rfl
  · rw [Dev.bridge_congr ht.atl, hstale, hb]
  · have hblank : s.begun.blankIn s.env n = false := by
      unfold Dev.blankIn
      rw [List.any_eq_false]
      intro p hp
      simp [hh p hp]
    rw [ht.o, hword]
    unfold Dev.sbWord
    rw [hblank, hb, hf, h0]
    rfl
  · rw [Dev.slot_congr ht.atl, Dev.results_fedSlots hlt4 ((hfb q (by omega)).trans hfbq), hslot]
    rfl

theorem bridgeResult_holds (l : List BridgeRun) (hq : s.Quiet) (hon : s.dev.sbOn n = true)
    (hlt : (s.dev.bridge n).resultBlk < s.dev.atl.blocks / s.dev.sbBlocks n * s.dev.sbBlocks n) (hf : (s.dev.bridge n).fault ≠ 0) :
    Leads (.bridgeResult n l) s (fun t => (t.dev.bridge n).good = (s.dev.bridge n).good ∧
        t.dev.o O.SB_HOLDS n = ctrAdd O.SB_HOLDS n (s.dev.o O.SB_HOLDS n) 1) := by
  have hn : n < 4096 := by have := Dev.lt_of_sbOn hon; omega
  obtain ⟨⟨i, tl, hb⟩, hw⟩ := Dev.bridgeX_keeps s.env s.begun n l
  obtain ⟨b, x, w, hX⟩ : ∃ b x w, s.begun.bridgeX s.env n l = (b, x, w) := ⟨_, _, _, rfl⟩
  rw [hX] at hb hw
  have hb : b = { s.dev.bridge n with input := i, line := tl } := hb
  have hwcalm : Dev.Calm s.begun w ∧ ∀ i el, w.o i el = s.dev.o i el := by
    rcases hw with hw | hw
    · rw [show w = s.begun from hw]; exact ⟨.refl _, fun _ _ => rfl⟩
    · rw [show w = { s.begun with free := s.begun.free + 1 } from hw]; exact ⟨⟨rfl, rfl⟩, fun _ _ => rfl⟩
  have hhold : b.holds s.env = true := by
    unfold Bridge.holds
    rw [hb, bne_iff_ne.2 hf]
    rfl
  have hrun := Dev.bridgeResult_eq (e := s.env) (d := s.begun) (n := n) hon hlt hX
  obtain ⟨htaken, -, -⟩ := Dev.sbResult_spec (e := s.env) (d := w) (k := s.begun.sbBlocks n) (b := b) (x := x) hn
  obtain ⟨-, hholds, hgood, -, -, hcalm⟩ := htaken.fed
  rw [hhold, if_pos rfl] at hgood
  refine leads_calm (f := fun e d => d.bridgeResult e n l) _ hq rfl hrun (hwcalm.1.trans hcalm) fun t ht => ⟨?_, ?_⟩
  · rw [Dev.bridge_congr ht.atl, hgood, hb]
  · rw [ht.o, hholds hhold, hwcalm.2]

/-- Settles O35. -/
theorem bridgeSupervision : Obligations.BridgeSupervision :=
  fun _ _ hq hon => ⟨fun m h => bridgeBlockEnd_checks m hq hon h, bridgeFaultDeclared_declares hq hon, bridgeFaultEnd_ends hq hon,
    fun hlt => ⟨fun _ _ _ _ hs hk hg hh hx hf hfail => bridgeResult_carries_ratio hq hon hlt hs hk hg hh hx hf hfail,
      fun l hf => bridgeResult_holds l hq hon hlt hf⟩⟩

end

end Sys2Proof.Machine
end

section
/-! PROOF. What the resets leave (chapter 17). -/

namespace Sys2Proof.Machine

/-! ### Objects kept and objects at their defaults -/

section
variable {α : Type}

theorem tget_filter_key (v : α) (m : Tab α) (c : Nat → Bool) (k : Nat) : tget v (m.filter fun p => c p.1) k = if c k then tget v m k else v := by
  induction m with
  | nil => simp [tget]
  | cons p m ih =>
    obtain ⟨k', x⟩ := p
    by_cases hc : c k' = true
    · rw [List.filter_cons_of_pos (by exact hc)]
      by_cases hk : k' = k
      · subst hk
        simp [tget, hc]
      · simp only [tget, beq_iff_eq, hk, if_false]
        exact ih
    · rw [List.filter_cons_of_neg (by exact hc), ih]
      by_cases hk : k' = k
      · subst hk
        rw [if_neg hc, if_neg hc]
      · simp [tget, hk]

end

theorem okey_div {i el : Nat} (h : el < 4096) : okey i el / 4096 = i := by
  unfold okey
  omega

section
variable {e : Env} {d d' : Dev}

theorem Dev.strapDefaults_keeps (e : Env) (d : Dev) :
    d.strapDefaults e = { d with objs := (d.strapDefaults e).objs } ∧ Dev.Frame [O.HK_LIM_LO, O.HK_LIM_HI] d (d.strapDefaults e) := by
  have hone : ∀ (d : Dev) (i : Nat), i ∈ [O.HK_LIM_LO, O.HK_LIM_HI] → ∀ x : Option Nat,
      (match x with | some v => d.so i 36 v | none => d) = { d with objs := (match x with | some v => d.so i 36 v | none => d).objs } ∧
        Dev.Frame [O.HK_LIM_LO, O.HK_LIM_HI] d (match x with | some v => d.so i 36 v | none => d) := fun d i hi x => by
    cases x with
    | none => exact ⟨rfl, .refl _ d⟩
    | some v => exact ⟨rfl, .so (by decide) hi⟩
  obtain ⟨hr1, hf1⟩ := hone d O.HK_LIM_LO (by decide) (e.strapDflt O.HK_LIM_LO 36)
  obtain ⟨w, hw⟩ : ∃ w, w = (match e.strapDflt O.HK_LIM_LO 36 with | some v => d.so O.HK_LIM_LO 36 v | none => d) := ⟨_, rfl⟩
  rw [← hw] at hr1 hf1
  obtain ⟨hr2, hf2⟩ := hone w O.HK_LIM_HI (by decide) (e.strapDflt O.HK_LIM_HI 36)
  have hrun : d.strapDefaults e = (match e.strapDflt O.HK_LIM_HI 36 with | some v => w.so O.HK_LIM_HI 36 v | none => w) := by
    rw [hw]
    rfl
  rw [hrun]
  refine ⟨?_, hf1.trans hf2⟩
  rw [hr2, hr1]

/-- The objects that a reset sets by the part and by VHV. -/
def partIdx : List Nat := [O.PWR_VHV_STATE, O.HK_LIM_LO, O.HK_LIM_HI]

/-- The device that a reset starts from, before the objects that the part and VHV set. -/
def Dev.bare (e : Env) (d : Dev) : Dev :=
  { objs := d.objs.filter (fun p => aonIdx.contains (p.1 / 4096)), flash := d.flash, gddr := d.gddr, free := d.free,
    doms := d.doms.filter (fun p => p.1 / 0x2000000 == okey O.CAL_FACTORY_STORE 0),
    sent := d.sent,
    em := { vhvMv := d.em.vhvMv },
    hm := { emitEn := d.hm.emitEn, lastEmit := d.hm.lastEmit, fwAt := e.now, hostAt := e.now, compareAt := e.now,
            steps := [(0, e.now / 1500), (1, e.now / 150000), (2, e.now / 15000000)] },
    rx := { blankLow := d.rx.blankLow, vhvLow := d.rx.vhvLow },
    cal := { slotA := d.cal.slotA, slotB := d.cal.slotB, factory := d.cal.factory, factoryLen := d.cal.factoryLen,
             badSlots := d.cal.badSlots, retained := d.cal.retained },
    mem := { undef := d.mem.undef, epoch := d.mem.epoch, filled := d.mem.filled, trained := d.mem.trained, rate := d.mem.rate },
    pwr := { lockout := d.pwr.lockout, copy := d.pwr.copy, supCause := d.pwr.supCause, supCore := d.pwr.supCore, kind := d.pwr.kind } }

theorem Dev.o_bare (e : Env) (d : Dev) {i el : Nat} (h : el < 4096) : (d.bare e).o i el = if i ∈ aonIdx then d.o i el else dflt i el := by
  have hkey : tget (dflt i el) (d.bare e).objs (okey i el) = _ :=
    tget_filter_key (dflt i el) d.objs (fun k => aonIdx.contains (k / 4096)) (okey i el)
  unfold Dev.o
  rw [hkey, okey_div h]
  simp only [List.contains_iff_mem]

/-- What a reset keeps: the bare device, its objects apart (R873). -/
theorem Dev.fresh_keeps (e : Env) (d : Dev) :
    d.fresh e = { d.bare e with objs := (d.fresh e).objs } ∧ Dev.Frame partIdx (d.bare e) (d.fresh e) := by
  obtain ⟨hrest, hframe⟩ := Dev.strapDefaults_keeps e ((d.bare e).so O.PWR_VHV_STATE 0 d.pwr.lockout)
  have hrun : d.fresh e = ((d.bare e).so O.PWR_VHV_STATE 0 d.pwr.lockout).strapDefaults e := rfl
  rw [hrun]
  exact ⟨hrest.trans rfl, (Dev.Frame.so (by decide) (by decide)).trans (hframe.mono (by decide))⟩

theorem Dev.o_fresh (e : Env) (d : Dev) {i el : Nat} (h : el < 4096) (hi : i ∉ partIdx) :
    (d.fresh e).o i el = if i ∈ aonIdx then d.o i el else dflt i el :=
  ((Dev.fresh_keeps e d).2.o h hi).trans (Dev.o_bare e d h)

/-- A flash operation cut changes the calibration slots alone. -/
theorem Dev.cutFlash_eq (d : Dev) : d.cutFlash = { d with cal := d.cutFlash.cal } := by
  unfold Dev.cutFlash
  dsimp only
  split
  · split <;> rfl
  · split <;> rfl

/-! ### The start of fuse load (R918) -/

/-- The objects that the start of fuse load sets. -/
def fuseIdx : List Nat := [O.SU_STATE, O.SU_START_KIND, O.PWR_DOM_STATE, O.PWR_DOM_SWITCHES]

theorem Dev.domOn_keeps (e : Env) (d : Dev) {n : Nat} (h : n < 4096) :
    d.domOn e n = { d with objs := (d.domOn e n).objs, pwr := { d.pwr with rampAt := (d.domOn e n).pwr.rampAt } } ∧
      Dev.Frame [O.PWR_DOM_STATE, O.PWR_DOM_SWITCHES] d (d.domOn e n) := by
  unfold Dev.domOn
  split
  · exact ⟨rfl, .refl _ d⟩
  · exact ⟨rfl, ((Dev.Frame.so h (by decide)).trans (.inc h (by decide))).trans (.of_objs rfl)⟩

/-- The device as fuse load begins, before the entry of the reset. -/
def Dev.fuseBegun (e : Env) (d : Dev) : Dev :=
  let k := d.pwr.kind
  let d := d.sos [(O.SU_STATE, 0, 0), (O.SU_START_KIND, 0, if k == 7 then 1 else if k == 5 || k == 6 then 2 else 0)]
  let d := { d with pwr := { d.pwr with mode := .up, phaseAt := e.now, fuseAt := e.now, pwrEn := true }, hk := { d.hk with due := e.now } }
  alwaysDoms.foldl (fun d n => d.domOn e n) d

/-- What the start of fuse load changes. -/
structure Dev.FuseBegins (e : Env) (d d' : Dev) : Prop where
  rest : d' = { d with objs := d'.objs, hk := d'.hk, pwr := { d.pwr with mode := .up, phaseAt := e.now, fuseAt := e.now, pwrEn := true, rampAt := d'.pwr.rampAt } }
  frame : Dev.Frame fuseIdx d d'
  suState : d'.o O.SU_STATE = 0

theorem Dev.fuseBegins (e : Env) (d : Dev) : Dev.FuseBegins e d (d.fuseBegun e) := by
  obtain ⟨v, hv⟩ : ∃ v, v = if d.pwr.kind == 7 then 1 else if d.pwr.kind == 5 || d.pwr.kind == 6 then 2 else 0 := ⟨_, rfl⟩
  obtain ⟨w, hw⟩ : ∃ w : Dev, w = { (d.so O.SU_STATE 0 0).so O.SU_START_KIND 0 v with
      pwr := { d.pwr with mode := .up, phaseAt := e.now, fuseAt := e.now, pwrEn := true }, hk := { d.hk with due := e.now } } := ⟨_, rfl⟩
  have hrun : d.fuseBegun e = alwaysDoms.foldl (fun d n => d.domOn e n) w := by
    rw [hw, hv]
    rfl
  have h0 : Dev.FuseBegins e d w := by
    rw [hw]
    refine ⟨rfl, ?_, ?_⟩
    · exact ((Dev.Frame.so (by decide) (by decide)).trans (.so (by decide) (by decide))).trans (.of_objs rfl)
    · exact (Dev.o_so_other (d := d.so O.SU_STATE 0 0) (by decide) (by decide) (by decide)).trans (Dev.o_so_self ..)
  rw [hrun]
  refine List.foldlRecOn alwaysDoms _ (motive := Dev.FuseBegins e d) h0 fun x hx n hn => ?_
  have hlt : n < 4096 := by
    revert hn
    revert n
    decide
  obtain ⟨hrest, hframe⟩ := Dev.domOn_keeps e x hlt
  refine ⟨?_, hx.frame.trans (hframe.mono (by decide)), (hframe.o (by decide) (by decide)).trans hx.suState⟩
  rw [hrest, hx.rest]

/-- The entry of a reset as the logger gets it. -/
def resetEntry (k code cell slice cls time : Nat) : Entry :=
  { time := time, loc := locCode 0 14 63 63 slice cell, code := code, cls := cls, injected := false, detail := k, reps := 0 }

/-- The entry of a reset of kind `k` (R918). -/
def Dev.deliverReset (e : Env) (d : Dev) (k : Nat) : Dev :=
  if k == 1 then d.deliver (resetEntry k 0x0E14 20 127 0 e.now)
  else if k == 2 then d.deliver (resetEntry k 0x0E15 21 127 0 e.now)
  else if k == 3 then d.deliver (resetEntry k 0x0E16 22 127 0 e.now)
  else if k == 4 then
    (if d.pwr.supCause == 0 then d.deliver (resetEntry k 0x0E17 23 d.pwr.supCore 5 e.now)
     else if d.pwr.supCause == 1 then d.deliver (resetEntry k 0x0E18 24 d.pwr.supCore 5 e.now)
     else d.deliver (resetEntry k 0x0E19 25 127 5 e.now))
  else if k == 5 then d.deliver (resetEntry k 0x0E1A 26 127 5 e.now)
  else if k == 6 then
    d.deliver { time := d.o O.THM_SD_TIME, loc := thmLoc (d.o O.THM_SD_SENSOR) 4, code := 0x0E04, cls := 5, injected := false,
                detail := k, reps := 0 }
  else d

theorem Dev.fuseStart_eq (e : Env) (d : Dev) : d.fuseStart e = (d.fuseBegun e).deliverReset e d.pwr.kind := by
  unfold Dev.fuseStart Dev.deliverReset resetEntry Dev.fuseBegun
  dsimp only

theorem Dev.deliverReset_cases (e : Env) (d : Dev) (k : Nat) : d.deliverReset e k = d ∨ ∃ en, d.deliverReset e k = d.deliver en := by
  unfold Dev.deliverReset
  iterate 3
    split
    · exact .inr ⟨_, rfl⟩
  split
  · split
    · exact .inr ⟨_, rfl⟩
    · split
      · exact .inr ⟨_, rfl⟩
      · exact .inr ⟨_, rfl⟩
  · iterate 2
      split
      · exact .inr ⟨_, rfl⟩
    exact .inl rfl

theorem Dev.deliver_room {d : Dev} (en : Entry) (h : d.flt.held.length < 64) :
    d.deliver en = { d with flt := { d.flt with held := d.flt.held ++ [en] } } := if_neg (Nat.not_le.2 h)

/-- What the start of fuse load leaves, its entry in an empty logger. -/
structure Dev.FuseStarts (d d' : Dev) : Prop where
  flash : d'.flash = d.flash
  jq : d'.jq = d.jq
  mem : d'.mem = d.mem
  gddr : d'.gddr = d.gddr
  mode : d'.pwr.mode = .up
  fabric : d'.pwr.fabric = d.pwr.fabric
  rstDue : d'.pwr.rstDue = d.pwr.rstDue
  frame : Dev.Frame fuseIdx d d'
  suState : d'.o O.SU_STATE = 0

theorem Dev.fuseStarts (e : Env) (d : Dev) (hroom : d.flt.held.length < 64) : Dev.FuseStarts d (d.fuseStart e) := by
  obtain ⟨hrest, hframe, hsu⟩ := Dev.fuseBegins e d
  rw [Dev.fuseStart_eq]
  obtain ⟨w, hw⟩ : ∃ w, w = d.fuseBegun e := ⟨_, rfl⟩
  rw [← hw] at hrest hframe hsu ⊢
  have hflt : w.flt = d.flt := by rw [hrest]
  rcases Dev.deliverReset_cases e w d.pwr.kind with h | ⟨en, h⟩
  · rw [h]
    exact ⟨by rw [hrest], by rw [hrest], by rw [hrest], by rw [hrest], by rw [hrest], by rw [hrest], by rw [hrest], hframe, hsu⟩
  · rw [h, Dev.deliver_room en (by rw [hflt]; exact hroom)]
    exact ⟨by rw [hrest], by rw [hrest], by rw [hrest], by rw [hrest], by rw [hrest], by rw [hrest], by rw [hrest],
      hframe.trans (.of_objs rfl), hsu⟩

/-! ### A reset of a kind from 2 on -/

/-- What a reset leaves, up to the state that it finds. -/
structure Dev.ResetFrom (d : Dev) (k : Nat) (mode : PMode) (d' : Dev) : Prop where
  cause : d'.o O.RST_CAUSE = k
  count : d'.o O.RST_COUNT k = ctrAdd O.RST_COUNT k (d.o O.RST_COUNT k) 1
  kept : ∀ i el, el < 4096 → i ∈ aonIdx → i ∉ [O.RST_CAUSE, O.RST_COUNT, O.PWR_WAKE_CAUSE] → d'.o i el = d.o i el
  gone : ∀ i el, el < 4096 → i ∉ aonIdx →
    i ∉ [O.PWR_VHV_STATE, O.HK_LIM_LO, O.HK_LIM_HI, O.SU_STATE, O.SU_START_KIND, O.PWR_DOM_STATE, O.PWR_DOM_SWITCHES] → d'.o i el = dflt i el
  flash : d'.flash = d.flash
  jq : d'.jq = {}
  trained : d'.mem.trained = none
  undef : ∃ n, d'.mem.undef.head? = some (0, 0x200000000, n)
  resumes : d'.pwr.mode = mode
  fabric : d'.pwr.fabric = false
  rstDue : d'.pwr.rstDue = none
  suState : mode = .up → d'.o O.SU_STATE = 0

/-- The device of a reset, before where it resumes. -/
def Dev.resetBase (e : Env) (d : Dev) (k : Nat) (mode : PMode) : Dev :=
  let d := (((d.cutFlash.fresh e).loseGddr).so O.RST_CAUSE 0 k).inc O.RST_COUNT k
  { d with pwr := { d.pwr with kind := k, mode := mode, warm := k == 7 } }

theorem Dev.resetTo_eq {k : Nat} {mode : PMode} (hk : k ≠ 7) :
    d.resetTo e k mode = if mode = .up then (d.resetBase e k mode).fuseStart e else d.resetBase e k mode := by
  have h7 : (k == 7) = false := beq_eq_false_iff_ne.2 hk
  unfold Dev.resetTo Dev.resetBase
  simp only [h7]
  rfl

theorem aon_not_part : ∀ i ∈ aonIdx, i ∉ partIdx := by decide

theorem aon_not_fuse : ∀ i ∈ aonIdx, i ∉ fuseIdx := by decide

theorem cause_mem_aon : ∀ i ∈ [O.RST_CAUSE, O.RST_COUNT], i ∈ aonIdx := by decide

theorem part_mem_start : ∀ i ∈ partIdx, i ∈ [O.PWR_VHV_STATE, O.HK_LIM_LO, O.HK_LIM_HI, O.SU_STATE, O.SU_START_KIND, O.PWR_DOM_STATE,
    O.PWR_DOM_SWITCHES] := by decide

theorem fuse_mem_start : ∀ i ∈ fuseIdx, i ∈ [O.PWR_VHV_STATE, O.HK_LIM_LO, O.HK_LIM_HI, O.SU_STATE, O.SU_START_KIND, O.PWR_DOM_STATE,
    O.PWR_DOM_SWITCHES] := by decide

/-- What a reset has done before fuse load begins. -/
structure Dev.ResetBegins (d : Dev) (k : Nat) (mode : PMode) (d' : Dev) : Prop where
  cause : d'.o O.RST_CAUSE = k
  count : d'.o O.RST_COUNT k = ctrAdd O.RST_COUNT k (d.o O.RST_COUNT k) 1
  kept : ∀ i el, el < 4096 → i ∈ aonIdx → i ∉ [O.RST_CAUSE, O.RST_COUNT, O.PWR_WAKE_CAUSE] → d'.o i el = d.o i el
  gone : ∀ i el, el < 4096 → i ∉ aonIdx → i ∉ partIdx → d'.o i el = dflt i el
  flash : d'.flash = d.flash
  jq : d'.jq = {}
  flt : d'.flt = {}
  trained : d'.mem.trained = none
  undef : ∃ n, d'.mem.undef.head? = some (0, 0x200000000, n)
  pwr : d'.pwr = { lockout := d.pwr.lockout, supCause := d.pwr.supCause, supCore := d.pwr.supCore, kind := k, mode := mode, warm := k == 7 }

theorem Dev.o_loseGddr (d : Dev) (i el : Nat) : d.loseGddr.o i el = d.o i el := rfl

theorem Dev.resetBase_begins (e : Env) (d : Dev) {k : Nat} (mode : PMode) (hk : k < 4096) : Dev.ResetBegins d k mode (d.resetBase e k mode) := by
  obtain ⟨f, hf⟩ : ∃ f, f = d.cutFlash.fresh e := ⟨_, rfl⟩
  obtain ⟨hrest, -⟩ := Dev.fresh_keeps e d.cutFlash
  have ho : ∀ {i el}, el < 4096 → i ∉ partIdx → f.o i el = if i ∈ aonIdx then d.o i el else dflt i el := fun {i el} hel hi => by
    rw [hf, Dev.o_fresh e _ hel hi, Dev.o_congr (d := d) (d' := d.cutFlash) (by rw [Dev.cutFlash_eq])]
  rw [← hf, Dev.cutFlash_eq] at hrest
  obtain ⟨w, hw⟩ : ∃ w, w = ((f.loseGddr).so O.RST_CAUSE 0 k).inc O.RST_COUNT k := ⟨_, rfl⟩
  have hrun : d.resetBase e k mode = { w with pwr := { w.pwr with kind := k, mode := mode, warm := k == 7 } } := by
    rw [hw, hf]
    rfl
  have hwo : ∀ {i el}, el < 4096 → i ∉ [O.RST_CAUSE, O.RST_COUNT] → w.o i el = f.o i el := fun {i el} hel hi => by
    rw [hw, Dev.o_inc_other (fun h => hi (by rw [h]; decide)) hk hel, Dev.o_so_other (fun h => hi (by rw [h]; decide)) (by decide) hel]
    rfl
  rw [hrun]
  refine ⟨?_, ?_, fun i el hel hi hn => ?_, fun i el hel hi hn => ?_, ?_, ?_, ?_, ?_, ?_, ?_⟩
  · show w.o O.RST_CAUSE = k
    rw [hw, Dev.o_inc_other (by decide) hk (by decide), Dev.o_so_self]
  · show w.o O.RST_COUNT k = _
    rw [hw, Dev.o_inc_self, Dev.o_so_other (by decide) (by decide) hk, Dev.o_loseGddr, ho hk (by decide), if_pos (by decide)]
  · show w.o i el = _
    rw [hwo hel (fun h => hn (List.mem_append_left [O.PWR_WAKE_CAUSE] h)), ho hel (aon_not_part i hi), if_pos hi]
  · show w.o i el = _
    rw [hwo hel (fun h => hi (cause_mem_aon i h)), ho hel hn, if_neg hi]
  all_goals
    dsimp only
    rw [hw, hrest]
  exacts [rfl, rfl, rfl, rfl, ⟨_, rfl⟩, rfl]

theorem Dev.resetTo_resets (e : Env) (d : Dev) {k : Nat} (mode : PMode) (hk : k < 7) : Dev.ResetFrom d k mode (d.resetTo e k mode) := by
  have h4 : k < 4096 := by omega
  obtain ⟨hcause, hcount, hkept, hgone, hflash, hjq, hflt, htrained, hundef, hpwr⟩ := Dev.resetBase_begins e d mode h4
  obtain ⟨b, hb⟩ : ∃ b, b = d.resetBase e k mode := ⟨_, rfl⟩
  rw [Dev.resetTo_eq (by omega), ← hb]
  rw [← hb] at hcause hcount hkept hgone hflash hjq hflt htrained hundef hpwr
  split
  next hup =>
    obtain ⟨h1, h2, h3, -, h5, h6, h7, hframe, hsu⟩ := Dev.fuseStarts e b (by rw [hflt]; decide)
    refine ⟨?_, ?_, fun i el hel hi hn => ?_, fun i el hel hi hn => ?_, h1.trans hflash, h2.trans hjq, by rw [h3, htrained], by rw [h3]; exact hundef,
      h5.trans hup.symm, by rw [h6, hpwr], by rw [h7, hpwr], fun _ => hsu⟩
    · rw [hframe.o (by decide) (by decide), hcause]
    · rw [hframe.o h4 (by decide), hcount]
    · rw [hframe.o hel (aon_not_fuse i hi), hkept i el hel hi hn]
    · rw [hframe.o hel (fun h => hn (fuse_mem_start i h)), hgone i el hel hi (fun h => hn (part_mem_start i h))]
  next hup =>
    exact ⟨hcause, hcount, hkept, fun i el hel hi hn => hgone i el hel hi (fun h => hn (part_mem_start i h)), hflash, hjq, htrained, hundef,
      by rw [hpwr], by rw [hpwr], by rw [hpwr], fun h => absurd h hup⟩

end

/-! ### The reset commands -/

section
variable {e : Env} {d : Dev}

/-- What the logger holds after a reset that begins fuse load. -/
theorem Dev.resetTo_delivers (e : Env) (d : Dev) {k : Nat} (hk : k < 7) : ∃ w : Dev, d.resetTo e k .up = w.deliverReset e k ∧ w.flt = {} ∧
    w.pwr.supCause = d.pwr.supCause ∧ w.o O.THM_SD_TIME = d.o O.THM_SD_TIME := by
  obtain ⟨-, -, hkept, -, -, -, hflt, -, -, hpwr⟩ := Dev.resetBase_begins e d .up (k := k) (by omega)
  obtain ⟨hrest, hframe, -⟩ := Dev.fuseBegins e (d.resetBase e k .up)
  refine ⟨(d.resetBase e k .up).fuseBegun e, ?_, ?_, ?_, ?_⟩
  · rw [Dev.resetTo_eq (by omega), if_pos rfl, Dev.fuseStart_eq, hpwr]
  · rw [hrest]; exact hflt
  · rw [hrest, hpwr]
  · rw [hframe.o (by decide) (by decide), hkept _ _ (by decide) (by decide) (by decide)]

/-- A reset of the device that a command finds, or leaves, is one of the state. -/
theorem Dev.ResetFrom.resetTo {s t : State} {d d' : Dev} {k : Nat} {mode : PMode} (h : Dev.ResetFrom d k mode d') (hk : k < 7) (ht : s.Ends d' t)
    (hflash : d.flash = s.dev.flash) (ho : ∀ i el, el < 4096 → i ∈ aonIdx → d.o i el = s.dev.o i el) : ResetTo s t k := by
  refine ⟨(ht.o ..).trans h.cause, ?_, fun i el hel hi hn => ?_, fun i el hel hi hn => (ht.o ..).trans (h.gone i el hel hi hn),
    (ht.flash.trans h.flash).trans hflash, ?_, ?_, ht.clock, fun h7 => by omega, fun _ => ⟨?_, ?_⟩⟩
  · rw [ht.o, h.count, ho _ _ (by omega) (by decide)]
  · rw [ht.o, h.kept i el hel hi hn, ho i el hel hi]
  · rw [ht.jq, h.jq]
  · rw [ht.jq, h.jq]
  · rw [ht.mem, h.trained]
  · rw [ht.mem]; exact h.undef

end

section
variable {s : State}

/-- A command that resets the device that it finds. -/
theorem leads_reset {c : Instr} {f : Env → Dev → Dev} {P : State → Prop} {d : Dev} {k : Nat} {mode : PMode} (hq : s.Quiet)
    (hc : exec c s = run f s) (hd : f s.env s.begun = d.resetTo s.env k mode) (hk : k < 7) (hflash : d.flash = s.dev.flash)
    (ho : ∀ i el, d.o i el = s.dev.o i el) (hP : ∀ t, s.Ends (d.resetTo s.env k mode) t → ResetTo s t k → P t) : Leads c s P := by
  have h := Dev.resetTo_resets s.env d mode hk
  exact leads_ends _ hq hc hd (by rw [h.jq]) h.rstDue fun t ht => hP t ht (h.resetTo hk ht hflash fun i el _ _ => ho i el)

theorem resetNLow_resets (hq : s.Quiet) :
    Leads .resetNLow s (fun t => ResetTo s t 2 ∧ t.dev.pwr.mode = s.dev.pwr.mode.after ∧ t.dev.pwr.fabric = false) := by
  refine leads_reset (f := fun e d => d.resetN e) (d := s.begun) hq rfl rfl (by decide) rfl (fun _ _ => rfl) fun t ht hr => ⟨hr, ?_, ?_⟩
  · rw [ht.pwr, (Dev.resetTo_resets ..).resumes]; rfl; decide
  · rw [ht.pwr, (Dev.resetTo_resets ..).fabric]; decide

theorem supervisorReset_resets (hq : s.Quiet) (hup : s.dev.pwr.mode = .up) (cause core : Nat) :
    Leads (.supervisorReset cause core) s (fun t => ResetTo s t 4 ∧ t.dev.pwr.mode = (if cause < 2 then .up else .rails) ∧
      (cause < 2 → ∃ en ∈ t.dev.flt.held, en.code = 0x0E17 + cause ∧ en.cls = 5 ∧ en.time = s.clock.time)) := by
  obtain ⟨d, hd⟩ : ∃ d : Dev, d = { s.begun with pwr := { s.dev.pwr with supCause := min cause 2, supCore := core % 4 } } := ⟨_, rfl⟩
  have hmode : (if 2 ≤ cause then PMode.rails else .up) = if cause < 2 then .up else .rails := by
    by_cases h : cause < 2
    · rw [if_pos h, if_neg (by omega)]
    · rw [if_neg h, if_pos (by omega)]
  have hrun : s.begun.supReset s.env cause core = d.resetTo s.env 4 (if cause < 2 then .up else .rails) := by
    rw [hd, ← hmode]
    exact if_pos hup
  refine leads_reset (f := fun e d => d.supReset e cause core) hq rfl hrun (by decide) (by rw [hd]; rfl) (fun _ _ => by rw [hd]; rfl)
    fun t ht hr => ⟨hr, ?_, fun h2 => ?_⟩
  · rw [ht.pwr, (Dev.resetTo_resets s.env d _ (by decide)).resumes]
  · rw [if_pos h2] at ht
    obtain ⟨w, hw, hflt, hsup, -⟩ := Dev.resetTo_delivers s.env d (k := 4) (by decide)
    have hcause : w.pwr.supCause = cause := by
      rw [hsup, hd]
      show min cause 2 = cause
      omega
    have hroom : w.flt.held.length < 64 := by rw [hflt]; decide
    rw [ht.flt, hw]
    have hentry : ∀ en : Entry, en ∈ (w.deliver en).flt.held := fun en => by
      rw [Dev.deliver_room en hroom]
      exact List.mem_append_right _ (List.mem_singleton_self en)
    unfold Dev.deliverReset
    rw [if_neg (by decide), if_neg (by decide), if_neg (by decide), if_pos (by decide), hcause]
    rcases (by omega : cause = 0 ∨ cause = 1) with rfl | rfl
    · exact ⟨_, hentry _, rfl, rfl, rfl⟩
    · exact ⟨_, hentry _, rfl, rfl, rfl⟩

theorem clockLoss_resets (hq : s.Quiet) (hup : s.dev.pwr.mode = .up) :
    Leads .clockLoss s (fun t => ResetTo s t 5 ∧ t.dev.pwr.mode = .clock ∧ t.dev.pwr.fabric = false) := by
  refine leads_reset (f := fun e d => d.clockLoss e) (d := s.begun.cutDrive) hq rfl (if_pos hup) (by decide) rfl (fun _ _ => rfl)
    fun t ht hr => ⟨hr, ?_, ?_⟩
  · rw [ht.pwr, (Dev.resetTo_resets ..).resumes]; decide
  · rw [ht.pwr, (Dev.resetTo_resets ..).fabric]; decide

/-! ### A power-on reset -/

/-- The device of a power-on reset before the objects that the part and VHV set. -/
def Dev.lostAll (e : Env) (d : Dev) : Dev := { (d.cutFlash.fresh e).loseGddr with objs := [] }

theorem Dev.powerOn_spec (e : Env) (d : Dev) : (d.powerOn e).jq = {} ∧ (d.powerOn e).pwr = { lockout := d.pwr.lockout, kind := 1 } ∧
    (d.powerOn e).flash = d.flash ∧ (d.powerOn e).o O.PWR_VHV_STATE = d.pwr.lockout ∧
    ∀ i el, el < 4096 → i ∉ partIdx → (d.powerOn e).o i el = dflt i el := by
  obtain ⟨l, hl⟩ : ∃ l, l = d.lostAll e := ⟨_, rfl⟩
  have hbare : ∀ d : Dev, (d.bare e).jq = {} ∧ (d.bare e).pwr.lockout = d.pwr.lockout ∧ (d.bare e).flash = d.flash := fun d => ⟨rfl, rfl, rfl⟩
  obtain ⟨hjq, hlock, hflash⟩ := hbare d.cutFlash
  have hlrest : l.jq = {} ∧ l.pwr.lockout = d.pwr.lockout ∧ l.flash = d.flash := by
    have h := (Dev.fresh_keeps e d.cutFlash).1
    rw [hl]
    refine ⟨(congrArg Dev.jq h).trans hjq, (congrArg (fun d => d.pwr.lockout) h).trans (hlock.trans ?_), (congrArg Dev.flash h).trans (hflash.trans ?_)⟩
    · rw [Dev.cutFlash_eq]
    · rw [Dev.cutFlash_eq]
  have hlo : ∀ i el, l.o i el = dflt i el := fun i el => by
    rw [hl]
    exact Dev.o_of_objs_nil rfl i el
  obtain ⟨w, hw⟩ : ∃ w, w = (l.so O.PWR_VHV_STATE 0 l.pwr.lockout).strapDefaults e := ⟨_, rfl⟩
  obtain ⟨hrest, hframe⟩ := Dev.strapDefaults_keeps e (l.so O.PWR_VHV_STATE 0 l.pwr.lockout)
  rw [← hw] at hrest hframe
  have hrun : d.powerOn e = { w with hm := { emitEn := w.hm.emitEn }, pwr := { lockout := w.pwr.lockout, kind := 1 } } := by
    rw [hw, hl]
    rfl
  rw [hrun]
  refine ⟨?_, ?_, ?_, ?_, fun i el hel hi => ?_⟩
  · show w.jq = {}
    rw [hrest]; exact hlrest.1
  · show ({ lockout := w.pwr.lockout, kind := 1 } : Pwr) = _
    rw [hrest, ← hlrest.2.1]
    rfl
  · show w.flash = _
    rw [hrest]; exact hlrest.2.2
  · show w.o O.PWR_VHV_STATE = _
    rw [hframe.o (by decide) (by decide), Dev.o_so_self, hlrest.2.1]
  · show w.o i el = _
    have hne : i ≠ O.PWR_VHV_STATE := fun h => hi (by rw [h]; decide)
    rw [hframe.o hel (fun h => hi (List.mem_cons_of_mem _ h)), Dev.o_so_other hne (by decide) hel, hlo]

theorem powerOnReset_resets (hq : s.Quiet) :
    Leads .powerOnReset s (fun t => t.clock = { time := 0, frac := 0 } ∧ t.dev.pwr.mode = .rails ∧ t.dev.pwr.kind = 1 ∧
      t.dev.pwr.fabric = false ∧ t.dev.flash = s.dev.flash ∧ t.pending = s.pending ∧ t.dev.o O.PWR_VHV_STATE = s.dev.pwr.lockout ∧
      ∀ i el, el < 4096 → i ∉ [O.PWR_VHV_STATE, O.HK_LIM_LO, O.HK_LIM_HI] → t.dev.o i el = dflt i el) := by
  obtain ⟨u, hu⟩ : ∃ u : State, u = { s with clock := { time := 0, frac := 0 } } := ⟨_, rfl⟩
  have hstill : u.Still := by
    obtain ⟨hline, hslot, hsync, hdark⟩ := hq.2.2
    rw [hu]
    refine ⟨fun t ht => ?_, fun k hk p hp => ?_, fun p hp => ?_, fun x hx => ?_⟩
    · have := hline t ht
      show 2 * 0 + 1 < t
      omega
    · show 0 < p.time + 600
      omega
    · have := hsync p hp
      show 2 * 0 + 1 < p.2
      omega
    · have := hdark x hx
      show 2 * 0 + 1 < x.due
      omega
  obtain ⟨hjq, hpwr, hflash, hvhv, ho⟩ := Dev.powerOn_spec u.env { u.dev with sent := [] }
  obtain ⟨l, hl⟩ := run_quiet (f := Dev.powerOn) (s := u) hstill rfl (by rw [hjq]) (by rw [hpwr])
  have hrun : exec .powerOnReset s = run Dev.powerOn u := by rw [hu]; rfl
  have hudev : u.dev = s.dev := by rw [hu]
  refine ⟨_, hrun.trans hl, by rw [hu], ?_, ?_, ?_, hflash.trans (by rw [hudev]), by rw [hu], hvhv.trans (by rw [hudev]), fun i el hel hi => ho i el hel hi⟩
  · exact congrArg Pwr.mode hpwr
  · exact congrArg Pwr.kind hpwr
  · exact congrArg Pwr.fabric hpwr

end

/-! ### A reset by the host (R874) -/

theorem Dev.outq_answer_spi {e : Env} {d0 d : Dev} {m : GopMsg} {a : Ans} (h2 : m.req.sess = 2) (hlen : 2 < d.ses.length) :
    ((Dev.answer e d0 d m a).sess 2).outq ≠ [] := by
  have hrun : Dev.answer e d0 d m a = ((d.countReq 2 a).setSess 2 { (d.countReq 2 a).sess 2 with
      stored := ({ msg := m, resp := gopBytes m.op (reqTag m.req) m.req.index m.req.element false a, time := e.now } :: ((d.countReq 2 a).sess 2).stored).take 32 }).emit
        2 false (d0.ob O.CAN_GOP_IDMODE 2) (d0.o O.CAN_GOP_BASE_ID 2) (gopBytes m.op (reqTag m.req) m.req.index m.req.element false a) := by
    unfold Dev.answer Dev.respond
    dsimp only
    rw [h2]
  have hcount : (d.countReq 2 a).ses = d.ses := by
    unfold Dev.countReq
    dsimp only
    split <;> rfl
  obtain ⟨w, hw⟩ : ∃ w, w = (d.countReq 2 a).setSess 2 { (d.countReq 2 a).sess 2 with
      stored := ({ msg := m, resp := gopBytes m.op (reqTag m.req) m.req.index m.req.element false a, time := e.now } :: ((d.countReq 2 a).sess 2).stored).take 32 } := ⟨_, rfl⟩
  have hwlen : 2 < w.ses.length := by
    rw [hw, Dev.ses_length_setSess, hcount]
    exact hlen
  rw [hrun, ← hw]
  show ((w.setSess 2 { w.sess 2 with outq := (w.sess 2).outq ++ [_] }).sess 2).outq ≠ []
  rw [Dev.sess_setSess_self hwlen]
  exact List.append_ne_nil_of_right_ne_nil _ (List.cons_ne_nil _ _)

theorem Dev.rstNow_spi {e : Env} {d : Dev} {t : Nat} (h : (Dev.rstNow.tget2 d 2).outq ≠ []) :
    d.rstNow e 2 t = decide (t + 1400000 ≤ e.now) := by
  unfold Dev.rstNow
  rw [if_neg (by decide), if_pos (by decide), beq_eq_false_iff_ne.2 h, Bool.or_false]

section
variable {s : State} {h : Hdr}

/-- The device that an accepted write of RST_REQ leaves at its end, answered. -/
def State.resetAsked (s : State) (h : Hdr) : Dev :=
  Dev.answer s.env (s.atRequest h.sess) (s.landed h O.RST_REQ 0 1) (writeMsg h O.RST_REQ 0 1) { stamp := s.clock.time }

theorem State.landed_rstReq (s : State) (h : Hdr) : s.landed h O.RST_REQ 0 1 =
    { s.asked h O.RST_REQ 0 with pwr := { (s.asked h O.RST_REQ 0).pwr with rstDue := some (h.sess, s.clock.time) } } := rfl

/-- What the write of RST_REQ leaves: its reset is due, nothing that a reset keeps has changed. -/
theorem State.resetAsked_spec (s : State) (h : Hdr) (hq : s.Quiet) (h4 : h.sess < 4096) :
    (s.resetAsked h).pwr.rstDue = some (h.sess, s.clock.time) ∧ (s.resetAsked h).jq.settle = false ∧ (s.resetAsked h).flash = s.dev.flash ∧
      ∀ i el, el < 4096 → i ∉ answerIdx → (s.resetAsked h).o i el = s.dev.o i el := by
  have sf := SentFrom.answer (e := s.env) (d0 := s.atRequest h.sess) (d := s.landed h O.RST_REQ 0 1) (m := writeMsg h O.RST_REQ 0 1)
    (a := { stamp := s.clock.time }) h4
  have hrun : Dev.answer s.env (s.atRequest h.sess) (s.landed h O.RST_REQ 0 1) (writeMsg h O.RST_REQ 0 1) { stamp := s.clock.time } =
      s.resetAsked h := rfl
  rw [hrun] at sf
  obtain ⟨w, hw⟩ : ∃ w, w = s.resetAsked h := ⟨_, rfl⟩
  rw [← hw] at sf ⊢
  have hrest := sf.rest
  rw [State.landed_rstReq] at hrest
  refine ⟨?_, ?_, ?_, fun i el hel hi => ?_⟩
  · rw [hrest]
  · rw [hrest]
    exact (congrArg Jq.settle (State.jq_asked s h O.RST_REQ 0)).trans hq.1
  · rw [hrest]
    exact State.flash_asked s h O.RST_REQ 0
  · rw [sf.objs i el hel hi, State.landed_rstReq]
    exact State.o_asked s h O.RST_REQ 0 i el

theorem exec_rstReq (ha : Accepts s h O.RST_REQ 0 1) :
    exec (.rstReq h) s = .next { s with dev := finish s.env (s.resetAsked h) } := by
  have hbusy : (s.atRequest h.sess).busy s.env O.RST_REQ 0 1 = none := ha.2.2.2.2.2.2.2.1
  have hw : (s.atRequest h.sess).writeVal s.env h.sess ⟨O.RST_REQ, [(0, 0)], .u8, .wo, .now, false, 0, [(1, 1)], 0, 0⟩ 0 1 = s.landed h O.RST_REQ 0 1 :=
    Dev.writeVal_lands (.inl (.inl rfl)) (by decide) (by decide) hbusy
  have hwrite := write1_accepts ha (r := ⟨O.RST_REQ, [(0, 0)], .u8, .wo, .now, false, 0, [(1, 1)], 0, 0⟩) (by decide +kernel) rfl (by decide) (by decide)
    (by decide) (by decide) (by decide)
  have hexec : exec (.rstReq h) s = write1 h O.RST_REQ 0 1 s := rfl
  rw [hexec, hwrite, run_next]
  show Host.Outcome.next _ = _
  rw [show (Dev.answer s.env (s.atRequest h.sess) ((s.atRequest h.sess).writeVal s.env h.sess ⟨O.RST_REQ, [(0, 0)], .u8, .wo, .now, false, 0, [(1, 1)], 0, 0⟩ 0 1)
    (writeMsg h O.RST_REQ 0 1) { stamp := s.clock.time }) = s.resetAsked h from by rw [hw]; rfl]

theorem State.ends_marked (s : State) (d : Dev) : s.Ends d { s with dev := Dev.markSubs s.env d } := ⟨rfl, rfl, rfl, rfl⟩

/-- The end of the write: the reset at once, or later. -/
theorem rstReq_ends {P : State → Prop} (hq : s.Quiet) (ha : Accepts s h O.RST_REQ 0 1)
    (hnow : (s.resetAsked h).rstNow s.env h.sess s.clock.time = true → ∀ t, s.Ends ((s.resetAsked h).resetTo s.env 3 .up) t → P t)
    (hlater : (s.resetAsked h).rstNow s.env h.sess s.clock.time = false → ∀ t, s.Ends (s.resetAsked h) t → P t) :
    Leads (.rstReq h) s P := by
  obtain ⟨hdue, hset, -, -⟩ := s.resetAsked_spec h hq (Nat.lt_trans ha.1.1 (by decide))
  have hstep : (s.resetAsked h).rstStep s.env =
      if (s.resetAsked h).rstNow s.env h.sess s.clock.time then (s.resetAsked h).resetTo s.env 3 .up else s.resetAsked h := by
    unfold Dev.rstStep
    rw [hdue]
  refine ⟨_, exec_rstReq ha, ?_⟩
  unfold finish
  rw [Dev.settle_quiet hset, hstep]
  cases hn : (s.resetAsked h).rstNow s.env h.sess s.clock.time
  · rw [if_neg (by decide)]
    exact hlater hn _ (State.ends_marked s _)
  · rw [if_pos rfl]
    exact hnow hn _ (State.ends_marked s _)

theorem aon_not_answer : ∀ i ∈ aonIdx, i ∉ answerIdx := by decide

theorem rstReq_resetTo (hq : s.Quiet) (ha : Accepts s h O.RST_REQ 0 1) {t : State} (ht : s.Ends ((s.resetAsked h).resetTo s.env 3 .up) t) :
    ResetTo s t 3 ∧ t.dev.pwr.mode = .up ∧ t.dev.o O.SU_STATE = 0 := by
  obtain ⟨-, -, hflash, ho⟩ := s.resetAsked_spec h hq (Nat.lt_trans ha.1.1 (by decide))
  have hr := Dev.resetTo_resets s.env (s.resetAsked h) .up (k := 3) (by decide)
  exact ⟨hr.resetTo (by decide) ht hflash fun i el hel hi => ho i el hel (aon_not_answer i hi), by rw [ht.pwr, hr.resumes], by rw [ht.o, hr.suState rfl]⟩

theorem rstReq_can (hq : s.Quiet) (ha : Accepts s h O.RST_REQ 0 1) (h2 : h.sess < 2) :
    Leads (.rstReq h) s (fun t => ResetTo s t 3 ∧ t.dev.pwr.mode = .up ∧ t.dev.o O.SU_STATE = 0) := by
  refine rstReq_ends hq ha (fun _ t ht => rstReq_resetTo hq ha ht) fun hn => ?_
  have hnow : (s.resetAsked h).rstNow s.env h.sess s.clock.time = true := by
    unfold Dev.rstNow
    rw [if_neg (by simp; omega), if_neg (by simp; omega), Bool.or_true]
  exact absurd (hn.symm.trans hnow) (by decide)

theorem rstReq_spi (hq : s.Quiet) (ha : Accepts s h O.RST_REQ 0 1) (h2 : h.sess = 2) :
    Leads (.rstReq h) s (fun t => t.dev.pwr.rstDue = some (2, s.clock.time) ∧ t.dev.o O.RST_CAUSE = s.dev.o O.RST_CAUSE ∧
      t.dev.o O.SU_STATE = s.dev.o O.SU_STATE) := by
  obtain ⟨hdue, -, -, ho⟩ := s.resetAsked_spec h hq (Nat.lt_trans ha.1.1 (by decide))
  refine rstReq_ends hq ha (fun hn => ?_) fun _ t ht => ⟨by rw [ht.pwr, hdue, h2], ?_, ?_⟩
  · have hlen : 2 < (s.landed h O.RST_REQ 0 1).ses.length := by
      have hses : (s.asked h O.RST_REQ 0).ses = s.dev.ses := by rw [State.asked_eq]
      rw [State.landed_rstReq]
      show 2 < (s.asked h O.RST_REQ 0).ses.length
      rw [hses, ha.1.2.1]
      decide
    have hout : (Dev.rstNow.tget2 (s.resetAsked h) 2).outq ≠ [] := Dev.outq_answer_spi (m := writeMsg h O.RST_REQ 0 1) h2 hlen
    rw [h2, Dev.rstNow_spi hout] at hn
    exact absurd (show s.clock.time + 1400000 ≤ s.clock.time from of_decide_eq_true hn) (by omega)
  · rw [ht.o, ho _ _ (by decide) (by decide)]
  · rw [ht.o, ho _ _ (by decide) (by decide)]

theorem rstReq_gaern (hq : s.Quiet) (ha : Accepts s h O.RST_REQ 0 1) (h3 : h.sess = 3) :
    Leads (.rstReq h) s (fun t => ResetTo s t 3 ∨ t.dev.pwr.rstDue = some (3, s.clock.time)) := by
  obtain ⟨hdue, -, -, -⟩ := s.resetAsked_spec h hq (Nat.lt_trans ha.1.1 (by decide))
  exact rstReq_ends hq ha (fun _ t ht => .inl (rstReq_resetTo hq ha ht).1) fun _ t ht => .inr (by rw [ht.pwr, hdue, h3])

end

/-- Settles O48. -/
theorem resetsLeave : Obligations.ResetsLeave :=
  fun _ _ hq => ⟨powerOnReset_resets hq, resetNLow_resets hq,
    fun ha => ⟨rstReq_can hq ha, rstReq_spi hq ha, rstReq_gaern hq ha⟩,
    fun hup => ⟨supervisorReset_resets hq hup, clockLoss_resets hq hup⟩⟩

end Sys2Proof.Machine
end

section
/-! PROOF. Sensor stages and the thermal shutdown (chapter 16). -/

namespace Sys2Proof.Machine

/-! ### Entries that stay -/

/-- The logger holds an entry of a time, code and class. -/
def Dev.HasEntry (d : Dev) (time code cls : Nat) : Prop := ∃ en ∈ d.flt.held, en.time = time ∧ en.code = code ∧ en.cls = cls

theorem Dev.HasEntry.of_flt {d d' : Dev} {a b c : Nat} (h : d.HasEntry a b c) (hf : d'.flt = d.flt) : d'.HasEntry a b c := by
  unfold Dev.HasEntry
  rw [hf]
  exact h

theorem Dev.HasEntry.log {e : Env} {d : Dev} {a b c code loc cls : Nat} (h : d.HasEntry a b c) : (d.log e code loc cls).HasEntry a b c := by
  obtain ⟨en, hen, hx⟩ := h
  exact ⟨en, Dev.mem_held_log hen, hx⟩

theorem Dev.hasEntry_log {e : Env} {d : Dev} {code loc cls : Nat} (h : d.flt.held.length < 64) : (d.log e code loc cls).HasEntry e.now code cls :=
  Dev.exists_held_log h

/-- A raised count of repeats leaves an entry its time, code and class. -/
theorem mem_raiseHeld {code loc : Nat} {l : List Entry} {en : Entry} (h : en ∈ l) :
    ∃ x ∈ raiseHeld code loc l, x.time = en.time ∧ x.code = en.code ∧ x.cls = en.cls := by
  induction l with
  | nil => exact absurd h (by simp)
  | cons y l ih =>
    unfold raiseHeld
    rcases List.mem_cons.1 h with rfl | h
    · split
      · exact ⟨en, List.mem_cons_self, rfl, rfl, rfl⟩
      · split
        · exact ⟨_, List.mem_cons_self, rfl, rfl, rfl⟩
        · exact ⟨en, List.mem_cons_self, rfl, rfl, rfl⟩
    · split
      · obtain ⟨x, hx, hr⟩ := ih h
        exact ⟨x, List.mem_cons_of_mem _ hx, hr⟩
      · split
        · exact ⟨en, List.mem_cons_of_mem _ h, rfl, rfl, rfl⟩
        · exact ⟨en, List.mem_cons_of_mem _ h, rfl, rfl, rfl⟩

/-! ### What follows from a sensor's result without touching its stages -/

/-- The objects that change with a result beside the sensor's own. -/
def thermalIdx : List Nat :=
  [O.FLT_LOST, O.THM_ROR_EVENTS, O.THM_THROTTLE_REQ, O.RX_BIAS_TARGET_MV, O.RX_BIAS_STATUS, O.HK_STATE, O.HK_PREEMPTS] ++ trafficIdx

/-- A step after a sensor's verdict: the stages stay, and so does what the logger holds. -/
structure Dev.Follows (d d' : Dev) : Prop where
  frame : Dev.Frame thermalIdx d d'
  stages : d'.hk.stages = d.hk.stages
  failed : d'.hk.failed = d.hk.failed
  calm : Dev.Calm d d'
  held : ∀ {a b c}, d.HasEntry a b c → d'.HasEntry a b c

namespace Dev.Follows
variable {e : Env} {d d' d'' : Dev}

theorem refl (d : Dev) : Follows d d := ⟨.refl _ d, rfl, rfl, .refl d, id⟩

theorem trans (h : Follows d d') (k : Follows d' d'') : Follows d d'' :=
  ⟨h.frame.trans k.frame, k.stages.trans h.stages, k.failed.trans h.failed, h.calm.trans k.calm, fun x => k.held (h.held x)⟩

theorem ite {p : Prop} [Decidable p] {a b : Dev} (ha : Follows d a) (hb : Follows d b) : Follows d (if p then a else b) := by
  split
  · exact ha
  · exact hb

theorem foldl {α : Type} {f : Dev → α → Dev} {xs : List α} (h : ∀ d, ∀ x ∈ xs, Follows d (f d x)) (d : Dev) : Follows d (xs.foldl f d) :=
  List.foldlRecOn xs f (motive := Follows d) (refl d) fun x hx a ha => hx.trans (h x a ha)

theorem so {i el v : Nat} (hel : el < 4096) (hi : i ∈ thermalIdx) : Follows d (d.so i el v) :=
  ⟨.so hel hi, rfl, rfl, .so .., fun h => h.of_flt rfl⟩

theorem inc {i el n : Nat} (hel : el < 4096) (hi : i ∈ thermalIdx) : Follows d (d.inc i el n) := so hel hi

theorem log {code loc cls : Nat} : Follows d (d.log e code loc cls) :=
  ⟨.log (by decide), by rw [Dev.hk_log], by rw [Dev.hk_log], .log d, fun h => h.log⟩

theorem of_traffic (h : Dev.Traffic d d') : Follows d d' :=
  ⟨h.frame.mono (fun i hi => List.mem_append_right _ hi), by rw [h.rest], by rw [h.rest], h.calm, fun hx => hx.of_flt h.flt⟩

/-- An action beside objects, stages and the logger. -/
theorem of_rest (ho : d'.objs = d.objs) (hs : d'.hk.stages = d.hk.stages) (hf : d'.hk.failed = d.hk.failed) (hc : Dev.Calm d d')
    (hl : d'.flt = d.flt) : Follows d d' := ⟨.of_objs ho, hs, hf, hc, fun h => h.of_flt hl⟩

end Dev.Follows

section
variable {e : Env} {d : Dev}

theorem Dev.follows_setDom (d : Dev) (idx el off : Nat) (bs : Bytes) : Dev.Follows d (d.setDom idx el off bs) := by
  rw [Dev.setDom_eq]
  exact .of_rest rfl rfl rfl ⟨rfl, rfl⟩ rfl

theorem Dev.follows_logRepeat (e : Env) (d : Dev) (code loc cls : Nat) : Dev.Follows d (d.logRepeat e code loc cls) := by
  unfold Dev.logRepeat
  refine .ite ⟨.of_objs rfl, rfl, rfl, ⟨rfl, rfl⟩, fun h => ?_⟩ ?_
  · obtain ⟨en, hen, ht, hc, hk⟩ := h
    obtain ⟨x, hx, h1, h2, h3⟩ := mem_raiseHeld (code := code) (loc := loc) hen
    exact ⟨x, hx, h1.trans ht, h2.trans hc, h3.trans hk⟩
  · split
    · exact (Dev.follows_setDom ..).trans (.of_traffic (Dev.traffic_mirror e _))
    · exact .log

theorem Dev.follows_setBias (d : Dev) (b : Nat) (x : Bias) : Dev.Follows d (d.setBias b x) := .of_rest rfl rfl rfl ⟨rfl, rfl⟩ rfl

theorem Dev.follows_biasRetarget {b v : Nat} (hb : b < 4096) : Dev.Follows d (d.biasRetarget e b v) := by
  have hramp : ∀ (d : Dev) v, Dev.Follows d (d.biasRamp e b v) := fun d v =>
    (Dev.Follows.so hb (by decide)).trans (Dev.follows_setBias ..)
  unfold Dev.biasRetarget
  extract_lets +onlyGivenNames old pos st y x d1
  have h1 : Dev.Follows d d1 := (Dev.Follows.so hb (by decide)).trans (Dev.follows_setBias ..)
  exact .ite h1 (.ite (h1.trans (hramp ..)) (.ite (h1.trans (hramp ..)) (.ite (h1.trans (Dev.follows_setBias ..)) h1)))

theorem Dev.follows_biasRound (e : Env) (d : Dev) : Dev.Follows d (d.biasRound e) := by
  have hb : ∀ b ∈ List.range e.biases, b < 4096 := fun b hb => by
    have := List.mem_range.1 hb
    have := e.biases_le
    omega
  exact .ite (.foldl (fun d b hm => Dev.follows_biasRetarget (hb b hm)) d) (.foldl (fun d b _ => Dev.follows_setBias ..) d)

theorem Dev.follows_calTempDue (e : Env) (d : Dev) (t : Nat) : Dev.Follows d (d.calTempDue e t) :=
  .foldl (fun d g _ => .ite (d := d) (a := d.calDue g) (.of_rest rfl rfl rfl ⟨rfl, rfl⟩ rfl) (.refl d)) d

theorem Dev.follows_hk (d : Dev) (h : Hk) (hs : h.stages = d.hk.stages) (hf : h.failed = d.hk.failed) : Dev.Follows d { d with hk := h } :=
  .of_rest rfl hs hf ⟨rfl, rfl⟩ rfl

theorem Dev.follows_rateStep (e : Env) (d : Dev) : Dev.Follows d (d.rateStep e) := by
  unfold Dev.rateStep
  refine .ite (Dev.follows_hk _ _ rfl rfl) ?_
  split
  · exact Dev.follows_hk _ _ rfl rfl
  · extract_lets +onlyGivenNames l rises h d1 d2 quiet
    have h1 : Dev.Follows d d1 := Dev.follows_hk _ _ rfl rfl
    have h2 : Dev.Follows d d2 := h1.trans (.inc (by decide) (by decide))
    refine .ite h1 (.ite (h2.trans (Dev.follows_logRepeat ..)) ?_)
    exact (h2.trans (Dev.follows_hk _ { d2.hk with rateLog := some e.now } rfl rfl)).trans .log

theorem Dev.follows_thermalReq (d : Dev) : Dev.Follows d d.thermalReq := .so (by decide) (by decide)

/-- What a result leads to after the sensor's stages. -/
def Dev.sensorRest (e : Env) (d : Dev) (t : Nat) : Dev :=
  if t == 15 then (((d.rateStep e).thermalReq).calTempDue e t).biasRound e else ((d.rateStep e).thermalReq).calTempDue e t

theorem Dev.follows_sensorRest (e : Env) (d : Dev) (t : Nat) : Dev.Follows d (d.sensorRest e t) := by
  have h := ((Dev.follows_rateStep e d).trans (Dev.follows_thermalReq _)).trans (Dev.follows_calTempDue e _ t)
  exact .ite (h.trans (Dev.follows_biasRound ..)) h

theorem Dev.follows_interrupt (d : Dev) (ent rep : Nat) : Dev.Follows d (d.interrupt ent rep) := by
  unfold Dev.interrupt
  extract_lets mine
  exact (Dev.follows_hk d { d.hk with ent := ent, rep := rep, again := true, adc1 := mine d.hk.adc1, second := none } rfl rfl).trans
    (.inc (by decide) (by decide))

theorem Dev.follows_urgentStart (e : Env) (d : Dev) : Dev.Follows d (d.urgentStart e) := by
  unfold Dev.urgentStart
  split
  · exact .refl d
  · split
    · exact Dev.follows_hk _ _ rfl rfl
    · refine .ite (Dev.follows_hk _ _ rfl rfl) ?_
      split
      · exact (Dev.follows_interrupt ..).trans (Dev.follows_hk _ _ rfl rfl)
      · exact .refl d

theorem Dev.follows_hkAfter (e : Env) (d : Dev) : Dev.Follows d (d.hkAfter e) := by
  unfold Dev.hkAfter
  extract_lets +onlyGivenNames d1 h d2
  have h1 : Dev.Follows d d1 := Dev.follows_urgentStart ..
  have h2 : Dev.Follows d d2 := h1.trans (.ite (Dev.follows_hk _ _ rfl rfl) (.refl d1))
  refine .ite (h2.trans ?_) h2
  exact (Dev.Follows.so (d := d2) (i := O.HK_STATE) (by decide) (by decide)).trans (Dev.follows_hk _ _ rfl rfl)

end

/-! ### A sensor's own objects and stages (R838, R839, R843) -/

section
variable {e : Env} {d d' : Dev} {t : Nat} {temp : Int}

/-- The device with a sensor's temperature taken. -/
def Dev.sensorTaken (d : Dev) (t : Nat) (temp : Int) : Dev :=
  let h := (temp :: tget [] d.hk.hist t).take 108
  let d := { (d.so O.THM_TEMP t (ofS 16 temp)) with hk := { d.hk with hist := tset [] d.hk.hist t h } }
  let d := if d.os16 O.THM_MAX t < temp then d.so O.THM_MAX t (ofS 16 temp) else d
  if h.length == 108 then d.so O.THM_RATE t (ofS 16 (clampI (-32768) 32767 (rateOf h))) else d

/-- A sensor's temperature taken: nothing but its objects and its history changes. -/
structure Dev.Taken (d : Dev) (t : Nat) (temp : Int) (d' : Dev) : Prop where
  frame : Dev.Frame [O.THM_TEMP, O.THM_MAX, O.THM_RATE] d d'
  temp : d'.o O.THM_TEMP t = ofS 16 temp
  hk : ∃ h, d'.hk = { d.hk with hist := h }
  flt : d'.flt = d.flt
  calm : Dev.Calm d d'

theorem Dev.Taken.so {i v : Nat} (h : Dev.Taken d t temp d') (ht : t < 4096) (hi : i ∈ [O.THM_MAX, O.THM_RATE]) (hne : i ≠ O.THM_TEMP) :
    Dev.Taken d t temp (d'.so i t v) :=
  ⟨h.frame.trans (.so ht (List.mem_cons_of_mem _ hi)), (Dev.o_so_other hne.symm ht ht).trans h.temp, h.hk, h.flt, h.calm.trans (.so ..)⟩

theorem Dev.taken_sensorTaken (d : Dev) (temp : Int) (ht : t < 4096) : Dev.Taken d t temp (d.sensorTaken t temp) := by
  unfold Dev.sensorTaken
  extract_lets +onlyGivenNames h k k2 d1 d2
  have h1 : Dev.Taken d t temp d1 :=
    ⟨(Dev.Frame.so ht (by decide)).trans (.of_objs rfl), Dev.o_so_self .., ⟨_, rfl⟩, rfl, ⟨rfl, rfl⟩⟩
  have h2 : Dev.Taken d t temp d2 := by
    simp only [d2]
    split
    · exact h1.so ht (by decide) (by decide)
    · exact h1
  split
  · exact h2.so ht (by decide) (by decide)
  · exact h2

theorem Dev.stagesAt_congr (hs : d'.hk.stages = d.hk.stages) (hf : Dev.Frame [O.THM_TEMP, O.THM_MAX, O.THM_RATE] d d') (ht : t < 4096) (temp : Int) :
    d'.stagesAt t temp = d.stagesAt t temp := by
  have hT : ∀ k < 5, d'.stageT k t = d.stageT k t := fun k hk => by
    unfold Dev.stageT Dev.os16
    rw [hf.o ht (by revert k; decide)]
  unfold Dev.stagesAt
  dsimp only
  rw [hs, hf.o (by decide) (by decide)]
  exact List.foldl_ext _ _ _ fun m k hk => by rw [hT k (List.mem_range.1 hk)]

theorem Dev.sensorResult_eq (e : Env) (d : Dev) (t : Nat) {temp : Int} (h : clampI (-32768) 32767 temp = temp) : d.sensorResult e t temp =
    (if bit (if temp < -550 || 2000 < temp then (d.sensorTaken t temp).sensorOut e t else (d.sensorTaken t temp).sensorIn t).hk.failed t
      then (if temp < -550 || 2000 < temp then (d.sensorTaken t temp).sensorOut e t else (d.sensorTaken t temp).sensorIn t)
      else (if temp < -550 || 2000 < temp then (d.sensorTaken t temp).sensorOut e t else (d.sensorTaken t temp).sensorIn t).stageStep e t temp).sensorRest e t := by
  unfold Dev.sensorResult
  rw [h]
  rfl

/-- A result in range of a sensor that is not FAILED. -/
theorem Dev.sensorIn_ok (h : bit d.hk.failed t = false) : ∃ a b, d.sensorIn t = { d with hk := { d.hk with outside := a, inside := b } } := by
  unfold Dev.sensorIn
  dsimp only
  rw [h, Bool.and_false, if_neg (by decide)]
  exact ⟨_, _, rfl⟩

/-- The stages that a sensor enters with a result. -/
def stagesEntered (was m : Nat) : List Nat := (List.range 5).filter (fun k => bit m k && !bit was k)

/-- The device with a sensor's stages and status. -/
def Dev.withStages (d : Dev) (t m : Nat) : Dev := { (d.so O.THM_STATUS t (statusOf m)) with hk := { d.hk with stages := tset 0 d.hk.stages t m } }

theorem Dev.stageStep_eq (e : Env) (d : Dev) (t : Nat) (temp : Int) : d.stageStep e t temp =
    (stagesEntered (tget 0 d.hk.stages t) (d.stagesAt t temp)).foldl (fun d k => d.stageEnter e t k) (d.withStages t (d.stagesAt t temp)) := rfl

theorem Dev.stageEnter_below {k : Nat} (h : k ≠ 4) : ∃ code cls loc, d.stageEnter e t k = d.log e code loc cls := by
  unfold Dev.stageEnter
  rw [if_neg (by simpa using h)]
  split
  · exact ⟨_, _, _, rfl⟩
  · exact ⟨_, _, _, rfl⟩

theorem Dev.follows_stageEnter {k : Nat} (h : k ≠ 4) : Dev.Follows d (d.stageEnter e t k) := by
  obtain ⟨code, cls, loc, h⟩ := Dev.stageEnter_below (e := e) (d := d) (t := t) h
  rw [h]
  exact .log

theorem mem_stagesEntered {was m k : Nat} : k ∈ stagesEntered was m ↔ k < 5 ∧ bit m k = true ∧ bit was k = false := by
  unfold stagesEntered
  rw [List.mem_filter, List.mem_range, Bool.and_eq_true, Bool.not_eq_true']

/-- A result that enters no SHED: its stages and status, and an entry into WARN. -/
theorem Dev.stageStep_below (h4 : bit (d.stagesAt t temp) 4 = false) :
    Dev.Follows (d.withStages t (d.stagesAt t temp)) (d.stageStep e t temp) ∧
      (bit (d.stagesAt t temp) 0 = true → bit (tget 0 d.hk.stages t) 0 = false → d.flt.held.length < 64 →
        (d.stageStep e t temp).HasEntry e.now 0x0E00 1) := by
  rw [Dev.stageStep_eq]
  obtain ⟨m, hm⟩ : ∃ m, m = d.stagesAt t temp := ⟨_, rfl⟩
  rw [← hm] at h4 ⊢
  have hne : ∀ k ∈ stagesEntered (tget 0 d.hk.stages t) m, k ≠ 4 := fun k hk h => by
    have := (mem_stagesEntered.1 hk).2.1
    rw [h, h4] at this
    exact absurd this (by decide)
  refine ⟨.foldl (fun d k hk => Dev.follows_stageEnter (hne k hk)) _, fun h0 hwas hroom => ?_⟩
  have hfirst : stagesEntered (tget 0 d.hk.stages t) m = 0 :: (List.range' 1 4).filter (fun k => bit m k && !bit (tget 0 d.hk.stages t) k) := by
    unfold stagesEntered
    rw [List.range_eq_range']
    exact List.filter_cons_of_pos (by rw [h0, hwas]; rfl)
  rw [hfirst] at hne ⊢
  rw [List.foldl_cons]
  refine (Dev.Follows.foldl (fun d k hk => Dev.follows_stageEnter (hne k (List.mem_cons_of_mem _ hk))) _).held ?_
  exact Dev.hasEntry_log hroom

end

/-! ### Entry into SHED (R845) -/

/-- The objects of digitisers powered down. -/
def shedIdx : List Nat := [O.DG_POWER, O.DG_STATE, O.FILT_STATE] ++ domIdx

/-- Digitisers are powered down, and nothing of housekeeping changes. -/
structure Dev.PowersDown (d d' : Dev) : Prop where
  frame : Dev.Frame shedIdx d d'
  hk : d'.hk = d.hk
  flt : d'.flt = d.flt
  calm : Dev.Calm d d'

theorem Dev.PowersDown.refl (d : Dev) : Dev.PowersDown d d := ⟨.refl _ d, rfl, rfl, .refl d⟩

theorem Dev.PowersDown.trans {d d' d'' : Dev} (h : Dev.PowersDown d d') (k : Dev.PowersDown d' d'') : Dev.PowersDown d d'' :=
  ⟨h.frame.trans k.frame, k.hk.trans h.hk, k.flt.trans h.flt, h.calm.trans k.calm⟩

theorem Dev.PowersDown.so {d : Dev} {i el v : Nat} (hel : el < 4096) (hi : i ∈ shedIdx) : Dev.PowersDown d (d.so i el v) :=
  ⟨.so hel hi, rfl, rfl, .so ..⟩

section
variable {e : Env} {d : Dev} {t : Nat}

theorem Dev.domSet_beside (e : Env) (d : Dev) (n : Nat) (on : Bool) : (d.domSet e n on).hk = d.hk ∧ (d.domSet e n on).flt = d.flt ∧
    Dev.Calm d (d.domSet e n on) := by
  have h := Dev.switched_domSet e d n on
  unfold Dev.Switched at h
  exact ⟨by rw [h], by rw [h], ⟨by rw [h], by rw [h]⟩⟩

theorem Dev.chainOf_lt_elements {s : Nat} (h : s < 32) : d.chainOf s < 4096 := by
  unfold Dev.chainOf
  split <;> omega

theorem Dev.digiOff_spec {s : Nat} (h : s < 32) : Dev.PowersDown d (d.digiOff e s) ∧ (d.digiOff e s).o O.DG_POWER s = 0 ∧
    ∀ k, k < 32 → k ≠ s → (d.digiOff e s).o O.DG_POWER k = d.o O.DG_POWER k := by
  obtain ⟨w, hw⟩ : ∃ w, w = ((d.so O.DG_POWER s 0).so O.DG_STATE s 0).chainOff e (d.chainOf s) := ⟨_, rfl⟩
  have hchain : ∀ (d : Dev) c, c < 4096 → Dev.PowersDown d (d.chainOff e c) ∧ ∀ k, k < 4096 → (d.chainOff e c).o O.DG_POWER k = d.o O.DG_POWER k :=
    fun d c hc => by
      have hso : Dev.PowersDown d (d.so O.FILT_STATE c 3) := .so hc (by decide)
      exact ⟨hso.trans ⟨.of_objs rfl, rfl, rfl, ⟨rfl, rfl⟩⟩, fun k hk => Dev.o_so_other (d := d) (i := O.FILT_STATE) (v := 3) (j := O.DG_POWER) (by decide) hc hk⟩
  have hs4 : s < 4096 := by omega
  obtain ⟨hdown, hpow⟩ := hchain ((d.so O.DG_POWER s 0).so O.DG_STATE s 0) (d.chainOf s) (Dev.chainOf_lt_elements h)
  rw [← hw] at hdown hpow
  have hwdown : Dev.PowersDown d w := ((Dev.PowersDown.so hs4 (by decide)).trans (.so hs4 (by decide))).trans hdown
  have hrun : d.digiOff e s = ((w.domOff (32 + s)).acqDom e) := by rw [hw]; rfl
  obtain ⟨hhk, hflt, hcalm⟩ := Dev.domSet_beside e (w.domOff (32 + s)) 87 ((List.range 32).any (fun s' => (w.domOff (32 + s)).o O.PWR_DOM_STATE (32 + s') != 0))
  have hdom : Dev.Frame domIdx w ((w.domOff (32 + s)).acqDom e) :=
    (Dev.Frame.so (by omega) (by decide)).trans (Dev.frame_domSet (by decide))
  have hpower : ∀ k, k < 32 → ((w.domOff (32 + s)).acqDom e).o O.DG_POWER k = ((d.so O.DG_POWER s 0).so O.DG_STATE s 0).o O.DG_POWER k := fun k hk => by
    rw [hdom.o (by omega) (by decide), hpow k (by omega)]
  rw [hrun]
  refine ⟨hwdown.trans ⟨hdom.mono (fun i hi => List.mem_append_right _ hi), hhk.trans rfl, hflt.trans rfl, (Dev.Calm.so ..).trans hcalm⟩, ?_,
    fun k hk hne => ?_⟩
  · rw [hpower s h, Dev.o_so_other (by decide) hs4 hs4, Dev.o_so_self]
  · rw [hpower k hk, Dev.o_so_other (by decide) hs4 (by omega), Dev.o_so_ne hs4 (by omega) (.inr hne)]

/-- Every digitiser powered down. -/
def Dev.digisOff (e : Env) (d : Dev) : Dev := (List.range 32).foldl (fun d s => if d.ob O.DG_POWER s then d.digiOff e s else d) d

theorem Dev.digisOff_spec (e : Env) (d : Dev) : Dev.PowersDown d (d.digisOff e) ∧ ∀ k, k < 32 → (d.digisOff e).ob O.DG_POWER k = false := by
  refine ⟨?_, fun k hk => ?_⟩
  · refine List.foldlRecOn (List.range 32) _ (motive := Dev.PowersDown d) (.refl d) fun x hx s hs => ?_
    split
    · exact hx.trans (Dev.digiOff_spec (List.mem_range.1 hs)).1
    · exact hx
  · refine foldl_visits (P := fun x : Dev => x.ob O.DG_POWER k = false) (List.mem_range.2 hk) (fun x => ?_) (fun x s hs hx => ?_) d
    · split
      · exact bne_eq_false_iff_eq.2 (Dev.digiOff_spec hk).2.1
      next h => exact Bool.eq_false_iff.2 h
    · split
      next h =>
        have hne : k ≠ s := fun h' => by
          rw [h', h] at hx
          exact absurd hx (by decide)
        unfold Dev.ob at hx ⊢
        rw [(Dev.digiOff_spec (List.mem_range.1 hs)).2.2 k hk hne]
        exact hx
      · exact hx

/-- What an entry into SHED leaves while Jacquard runs. -/
theorem Dev.shed_spec (hst : d.o O.JQ_STATE = 2) :
    Dev.Frame ([O.THM_SHED_EVENTS, O.FLT_LOST, O.JQ_STATE] ++ shedIdx) d (d.shed e t) ∧ (d.shed e t).o O.JQ_STATE = 3 ∧
      (∀ k, k < 32 → (d.shed e t).ob O.DG_POWER k = false) ∧
      (d.shed e t).o O.THM_SHED_EVENTS = ctrAdd O.THM_SHED_EVENTS 0 (d.o O.THM_SHED_EVENTS) 1 ∧
      (d.flt.held.length < 64 → (d.shed e t).HasEntry e.now 0x0E03 4) ∧ (d.shed e t).hk = d.hk ∧ Dev.Calm d (d.shed e t) := by
  obtain ⟨w, hw⟩ : ∃ w, w = (d.inc O.THM_SHED_EVENTS).log e 0x0E03 (thmLoc t 3) 4 := ⟨_, rfl⟩
  obtain ⟨hdown, hoff⟩ := Dev.digisOff_spec e w
  have hwo : ∀ {i el}, el < 4096 → i ∉ [O.THM_SHED_EVENTS, O.FLT_LOST] → w.o i el = d.o i el := fun {i el} hel hi => by
    rw [hw, Dev.o_log_other (fun h => hi (by rw [h]; decide)) hel, Dev.o_inc_other (fun h => hi (by rw [h]; decide)) (by decide) hel]
  have hframe : Dev.Frame [O.THM_SHED_EVENTS, O.FLT_LOST] d w := ⟨hwo⟩
  have hrun : d.shed e t = (w.digisOff e).so O.JQ_STATE 0 3 := by
    have hjq : (w.digisOff e).o O.JQ_STATE = 2 := by rw [hdown.frame.o (by decide) (by decide), hwo (by decide) (by decide), hst]
    have hstop : (w.digisOff e).jqStop e 2 = (w.digisOff e).so O.JQ_STATE 0 3 := by
      unfold Dev.jqStop
      dsimp only
      rw [hjq]
      rfl
    rw [← hstop, hw]
    rfl
  have hwcalm : Dev.Calm d w := by rw [hw]; exact (Dev.Calm.inc ..).trans (.log _)
  have hentry : d.flt.held.length < 64 → w.HasEntry e.now 0x0E03 4 := fun hroom => by rw [hw]; exact Dev.hasEntry_log hroom
  have hkeep : ((w.digisOff e).so O.JQ_STATE 0 3).flt = w.flt := (Dev.flt_so ..).trans hdown.flt
  rw [hrun]
  refine ⟨?_, Dev.o_so_self .., fun k hk => ?_, ?_, fun hroom => (hentry hroom).of_flt hkeep, ?_, (hwcalm.trans hdown.calm).trans (.so ..)⟩
  · exact ((hframe.mono (by decide)).trans (hdown.frame.mono (List.subset_append_right _ _))).trans (.so (by decide) (by decide))
  · unfold Dev.ob
    rw [Dev.o_so_other (by decide) (by decide) (by omega)]
    exact hoff k hk
  · rw [Dev.o_so_other (by decide) (by decide) (by decide), hdown.frame.o (by decide) (by decide), hw, Dev.o_log_other (by decide) (by decide), Dev.o_inc_self]
  · rw [Dev.hk_so, hdown.hk, hw, Dev.hk_log]
    rfl

end

section
variable {e : Env} {d : Dev} {t : Nat} {temp : Int}

theorem Dev.stageEnter_shed (e : Env) (d : Dev) (t : Nat) : d.stageEnter e t 4 = d.shed e t := if_pos rfl

/-- Stages below SHED entered in turn: each logs once. -/
theorem Dev.stagesBelow_spec {l : List Nat} (h : ∀ k ∈ l, k ≠ 4) (d : Dev) :
    Dev.Follows d (l.foldl (fun d k => d.stageEnter e t k) d) ∧ (l.foldl (fun d k => d.stageEnter e t k) d).flt.held.length ≤ d.flt.held.length + l.length := by
  induction l generalizing d with
  | nil => exact ⟨.refl d, Nat.le_refl _⟩
  | cons k l ih =>
    obtain ⟨hf, hl⟩ := ih (fun x hx => h x (List.mem_cons_of_mem _ hx)) (d.stageEnter e t k)
    obtain ⟨code, cls, loc, hlog⟩ := Dev.stageEnter_below (e := e) (d := d) (t := t) (h k List.mem_cons_self)
    have hone : (d.stageEnter e t k).flt.held.length ≤ d.flt.held.length + 1 := by
      rw [hlog]
      exact Dev.length_held_log ..
    rw [List.foldl_cons, List.length_cons]
    exact ⟨(Dev.follows_stageEnter (h k List.mem_cons_self)).trans hf, by omega⟩

/-- What a result leaves that enters SHED while Jacquard runs. -/
structure Dev.Shedding (e : Env) (d : Dev) (t : Nat) (d' : Dev) : Prop where
  status : d'.o O.THM_STATUS t = 3
  jacquard : d'.o O.JQ_STATE = 3
  digis : ∀ k, k < 32 → d'.ob O.DG_POWER k = false
  events : d'.o O.THM_SHED_EVENTS = ctrAdd O.THM_SHED_EVENTS 0 (d.o O.THM_SHED_EVENTS) 1
  entry : d.flt.held.length < 60 → d'.HasEntry e.now 0x0E03 4
  calm : Dev.Calm d d'

theorem Dev.Shedding.follows {d' d'' : Dev} (h : Dev.Shedding e d t d') (ht : t < 4096) (k : Dev.Follows d' d'') : Dev.Shedding e d t d'' := by
  refine ⟨(k.frame.o ht (by decide)).trans h.status, (k.frame.o (by decide) (by decide)).trans h.jacquard, fun n hn => ?_,
    (k.frame.o (by decide) (by decide)).trans h.events, fun hroom => k.held (h.entry hroom), h.calm.trans k.calm⟩
  have hd := h.digis n hn
  unfold Dev.ob at hd ⊢
  rw [k.frame.o (by omega) (by decide)]
  exact hd

theorem Dev.stageStep_sheds (ht : t < 4096) (h4 : bit (d.stagesAt t temp) 4 = true) (hwas : bit (tget 0 d.hk.stages t) 4 = false)
    (hst : d.o O.JQ_STATE = 2) :
    Dev.Shedding e d t (d.stageStep e t temp) ∧ (d.stageStep e t temp).hk.failed = d.hk.failed := by
  rw [Dev.stageStep_eq]
  obtain ⟨m, hm⟩ : ∃ m, m = d.stagesAt t temp := ⟨_, rfl⟩
  rw [← hm] at h4 ⊢
  obtain ⟨l, hl⟩ : ∃ l, l = (List.range 4).filter (fun k => bit m k && !bit (tget 0 d.hk.stages t) k) := ⟨_, rfl⟩
  have hsplit : stagesEntered (tget 0 d.hk.stages t) m = l ++ [4] := by
    unfold stagesEntered
    rw [List.range_succ, List.filter_append, hl]
    exact congrArg _ (List.filter_cons_of_pos (by rw [h4, hwas]; rfl))
  have hne : ∀ k ∈ l, k ≠ 4 := fun k hk => by
    rw [hl] at hk
    have := List.mem_range.1 (List.mem_filter.1 hk).1
    omega
  have hlen : l.length ≤ 4 := by
    rw [hl]
    exact (List.length_filter_le ..).trans (by rw [List.length_range])
  obtain ⟨hf, hheld⟩ := Dev.stagesBelow_spec (e := e) (t := t) hne (d.withStages t m)
  obtain ⟨w, hw⟩ : ∃ w, w = l.foldl (fun d k => d.stageEnter e t k) (d.withStages t m) := ⟨_, rfl⟩
  rw [← hw] at hf hheld
  have hstart : Dev.Frame [O.THM_STATUS] d (d.withStages t m) := (Dev.Frame.so ht (List.mem_singleton_self _)).trans (.of_objs rfl)
  have hwst : w.o O.JQ_STATE = 2 := by rw [hf.frame.o (by decide) (by decide), hstart.o (by decide) (by decide), hst]
  have hwroom : d.flt.held.length < 60 → w.flt.held.length < 64 := fun _ => by
    have : (d.withStages t m).flt.held.length = d.flt.held.length := rfl
    omega
  obtain ⟨hframe, hjq, hoff, hev, hentry, hhk, hcalm⟩ := Dev.shed_spec (e := e) (t := t) hwst
  have hstatus : statusOf m = 3 := by
    unfold statusOf
    rw [if_pos h4]
  have hrun : (l ++ [4]).foldl (fun d k => d.stageEnter e t k) (d.withStages t m) = w.shed e t := by
    rw [List.foldl_concat, ← hw, Dev.stageEnter_shed]
  rw [hsplit, hrun]
  refine ⟨⟨?_, hjq, hoff, ?_, fun hroom => hentry (hwroom hroom), ?_⟩, ?_⟩
  · rw [hframe.o ht (by decide), hf.frame.o ht (by decide)]
    exact (Dev.o_so_self d O.THM_STATUS t _).trans hstatus
  · rw [hev, hf.frame.o (by decide) (by decide), hstart.o (by decide) (by decide)]
  · exact ((show Dev.Calm d (d.withStages t m) from ⟨rfl, rfl⟩).trans hf.calm).trans hcalm
  · rw [hhk, hf.failed]
    rfl

/-- A result outside the range, the third in a row (R839). -/
theorem Dev.sensorOut_fails (ht : t < 4096) (hout : tget 0 d.hk.outside t = 2) (hok : bit d.hk.failed t = false) :
    (d.sensorOut e t).o O.THM_STATUS t = 4 ∧ bit (d.sensorOut e t).hk.failed t = true ∧
      (d.flt.held.length < 64 → (d.sensorOut e t).HasEntry e.now 0x0E05 2) ∧
      Dev.Calm d (d.sensorOut e t) := by
  obtain ⟨w, hw⟩ : ∃ w : Dev, w = { d with hk := { d.hk with outside := tset 0 d.hk.outside t 3, inside := tset 0 d.hk.inside t 0 } } := ⟨_, rfl⟩
  obtain ⟨x, hx⟩ : ∃ x : Dev, x = { w.so O.THM_STATUS t 4 with hk := { w.hk with failed := setBit w.hk.failed t true, stages := tset 0 w.hk.stages t 0 } } :=
    ⟨_, rfl⟩
  have hrun : d.sensorOut e t = x.log e 0x0E05 (thmLoc t 5) 2 := by
    unfold Dev.sensorOut
    dsimp only
    rw [hout, hok, if_pos (by decide), hx, hw]
  have hflt : x.flt = d.flt := by rw [hx, hw]; rfl
  rw [hrun]
  refine ⟨?_, ?_, fun hroom => Dev.hasEntry_log (by rw [hflt]; exact hroom), ?_⟩
  · rw [Dev.o_log_other (by decide) ht, hx]
    exact Dev.o_so_self w O.THM_STATUS t 4
  · rw [Dev.hk_log, hx]
    exact bit_setBit_true ..
  · exact (show Dev.Calm d x by rw [hx, hw]; exact ⟨rfl, rfl⟩).trans (.log x)

/-! ### A sensor's result -/

/-- What a result finds of a sensor that is not FAILED, its temperature taken. -/
theorem Dev.sensorIn_taken (ht : t < 4096) (hok : bit d.hk.failed t = false) (temp : Int) : ∃ w : Dev, (d.sensorTaken t temp).sensorIn t = w ∧
    Dev.Frame [O.THM_TEMP, O.THM_MAX, O.THM_RATE] d w ∧ w.o O.THM_TEMP t = ofS 16 temp ∧ w.hk.stages = d.hk.stages ∧ w.hk.failed = d.hk.failed ∧
      w.flt = d.flt ∧ Dev.Calm d w ∧ w.stagesAt t temp = d.stagesAt t temp := by
  obtain ⟨hframe, htemp, ⟨h, hhk⟩, hflt, hcalm⟩ := Dev.taken_sensorTaken d temp ht
  obtain ⟨x, hx⟩ : ∃ x, x = d.sensorTaken t temp := ⟨_, rfl⟩
  rw [← hx] at hframe htemp hhk hflt hcalm ⊢
  obtain ⟨a, b, hin⟩ := Dev.sensorIn_ok (d := x) (t := t) (by rw [hhk]; exact hok)
  have hstages : x.hk.stages = d.hk.stages := by rw [hhk]
  have hfailed : x.hk.failed = d.hk.failed := by rw [hhk]
  refine ⟨_, hin, hframe.trans (.of_objs rfl), htemp, hstages, hfailed, hflt, hcalm.trans ⟨rfl, rfl⟩, ?_⟩
  exact Dev.stagesAt_congr hstages (hframe.trans (.of_objs rfl)) ht temp

theorem clampI_within {lo hi x : Int} (h1 : lo ≤ x) (h2 : x ≤ hi) : clampI lo hi x = x := by
  unfold clampI
  omega

theorem clampI_clampI {lo hi : Int} (h : lo ≤ hi) (x : Int) : clampI lo hi (clampI lo hi x) = clampI lo hi x :=
  clampI_within (by unfold clampI; omega) (by unfold clampI; omega)

theorem Dev.sensorResult_in (ht : t < 4096) (hok : bit d.hk.failed t = false) (h1 : -550 ≤ temp) (h2 : temp ≤ 2000) :
    ∃ w : Dev, Dev.Frame [O.THM_TEMP, O.THM_MAX, O.THM_RATE] d w ∧ w.o O.THM_TEMP t = ofS 16 temp ∧ w.hk.stages = d.hk.stages ∧
      w.hk.failed = d.hk.failed ∧ w.flt = d.flt ∧ Dev.Calm d w ∧ w.stagesAt t temp = d.stagesAt t temp ∧
      d.sensorResult e t temp = (w.stageStep e t temp).sensorRest e t := by
  obtain ⟨w, hw, hframe, htemp, hstages, hfailed, hflt, hcalm, hat⟩ := Dev.sensorIn_taken ht hok temp
  have hno : ¬ (decide (temp < -550) || decide (2000 < temp)) = true := by simp; omega
  refine ⟨w, hframe, htemp, hstages, hfailed, hflt, hcalm, hat, ?_⟩
  rw [Dev.sensorResult_eq e d t (clampI_within (by omega) (by omega)), if_neg hno, hw, hfailed, hok, if_neg (by decide)]

end

/-! ### The end of a sensor's conversion -/

/-- A device with the converter of a conversion free again: nothing but the converters changes. -/
structure Dev.Freed (d x : Dev) : Prop where
  objs : x.objs = d.objs
  stages : x.hk.stages = d.hk.stages
  failed : x.hk.failed = d.hk.failed
  outside : x.hk.outside = d.hk.outside
  flt : x.flt = d.flt
  calm : Dev.Calm d x

/-- A conversion of a sensor ends in the sensor's result. -/
theorem Dev.hkDone_sensor {e : Env} {d : Dev} {adc sensor : Nat} {temp : Int} {cv : Conv} (hadc : adc < 2) (hlate : d.hk.late = [])
    (h0 : overtaken e d.hk.adc0 = false) (h1 : overtaken e d.hk.adc1 = false) (hcv : (if adc = 0 then d.hk.adc0 else d.hk.adc1) = some cv)
    (hstart : cv.start + 600 ≤ e.now) (hseq : cv.seqEnt = none) (hin : cv.input = 0x100 + sensor) :
    ∃ x, Dev.Freed d x ∧ d.hkDone e adc temp = (x.sensorResult e sensor temp).hkAfter e := by
  have hshift : d.hkShift e = d := by
    unfold Dev.hkShift
    dsimp only
    rw [h0, h1]
    rfl
  have hconv : ∀ x : Dev, x.convResult e adc cv temp = x.sensorResult e sensor temp := fun x => by
    unfold Dev.convResult Dev.urgentResult
    rw [hseq]
    dsimp only
    rw [hin, if_pos (Nat.le_add_right ..), Nat.add_sub_cancel_left]
  unfold Dev.hkDone
  rw [hshift]
  dsimp only
  rw [hlate]
  dsimp only [List.find?_nil]
  rcases (by omega : adc = 0 ∨ adc = 1) with rfl | rfl
  · rw [if_pos rfl] at hcv
    rw [if_pos (by decide), hcv]
    dsimp only
    rw [if_neg (Nat.not_lt.2 hstart), if_pos (by decide), hconv]
    refine ⟨_, ?_, rfl⟩
    exact ⟨rfl, rfl, rfl, rfl, rfl, ⟨rfl, rfl⟩⟩
  · rw [if_neg (by decide)] at hcv
    rw [if_neg (by decide), if_pos (by decide), hcv]
    dsimp only
    rw [if_neg (Nat.not_lt.2 hstart), if_neg (by decide), hconv]
    refine ⟨_, ?_, rfl⟩
    exact ⟨rfl, rfl, rfl, rfl, rfl, ⟨rfl, rfl⟩⟩

/-- A sensor's urgent conversion that has ended on a converter. -/
def State.SensorDone (s : State) (adc sensor : Nat) : Prop :=
  adc < 2 ∧ s.dev.hk.late = [] ∧ overtaken s.env s.dev.hk.adc0 = false ∧ overtaken s.env s.dev.hk.adc1 = false ∧ ∃ cv,
    (if adc = 0 then s.dev.hk.adc0 else s.dev.hk.adc1) = some cv ∧ cv.start + 600 ≤ s.clock.time ∧ cv.seqEnt = none ∧ cv.input = 0x100 + sensor

section
variable {s : State} {adc sensor : Nat} {temp : Int}

theorem State.SensorDone.hkDone (h : s.SensorDone adc sensor) (temp : Int) :
    ∃ x, Dev.Freed s.begun x ∧ s.begun.hkDone s.env adc temp = (x.sensorResult s.env sensor temp).hkAfter s.env := by
  obtain ⟨hadc, hlate, h0, h1, cv, hcv, hstart, hseq, hin⟩ := h
  exact Dev.hkDone_sensor (d := s.begun) hadc hlate h0 h1 hcv hstart hseq hin

theorem Dev.Freed.stagesAt {d x : Dev} (h : Dev.Freed d x) (ht : sensor < 4096) (temp : Int) : x.stagesAt sensor temp = d.stagesAt sensor temp :=
  Dev.stagesAt_congr h.stages (.of_objs h.objs) ht temp

theorem hkConversionDone_stages (hq : s.Quiet) (hd : s.SensorDone adc sensor) (ht : sensor < 16) (hok : bit s.dev.hk.failed sensor = false)
    (h1 : -550 ≤ temp) (h2 : temp ≤ 2000) (h4 : bit (s.dev.stagesAt sensor temp) 4 = false) :
    Leads (.hkConversionDone adc temp) s (fun t => t.dev.o O.THM_TEMP sensor = ofS 16 temp ∧
      tget 0 t.dev.hk.stages sensor = s.dev.stagesAt sensor temp ∧ t.dev.o O.THM_STATUS sensor = statusOf (s.dev.stagesAt sensor temp) ∧
      (bit (s.dev.stagesAt sensor temp) 0 = true → bit (tget 0 s.dev.hk.stages sensor) 0 = false → Logged s t 0x0E00 1)) := by
  have ht4 : sensor < 4096 := by omega
  obtain ⟨x, hx, hrun⟩ := hd.hkDone temp
  obtain ⟨w, hframe, htemp, hstages, -, hflt, hcalm, hat, hres⟩ := Dev.sensorResult_in (e := s.env) ht4 (by rw [hx.failed]; exact hok) h1 h2
  have hm : w.stagesAt sensor temp = s.dev.stagesAt sensor temp := hat.trans (hx.stagesAt ht4 temp)
  obtain ⟨hf, hwarn⟩ := Dev.stageStep_below (e := s.env) (d := w) (t := sensor) (temp := temp) (by rw [hm]; exact h4)
  rw [hm] at hf hwarn
  have hafter := (hf.trans (Dev.follows_sensorRest s.env _ sensor)).trans (Dev.follows_hkAfter s.env _)
  rw [← hres, ← hrun] at hafter
  refine leads_calm (f := fun e d => d.hkDone e adc temp) _ hq rfl rfl ((hx.calm.trans hcalm).trans ((show Dev.Calm w (w.withStages sensor _) from ⟨rfl, rfl⟩).trans hafter.calm))
    fun t ht => ⟨?_, ?_, ?_, fun h0 hwas hroom => ?_⟩
  · rw [ht.o, hafter.frame.o ht4 (by decide)]
    exact (Dev.o_so_other (d := w) (i := O.THM_STATUS) (by decide) ht4 ht4).trans htemp
  · rw [ht.hk, hafter.stages]
    exact tget_tset_self ..
  · rw [ht.o, hafter.frame.o ht4 (by decide)]
    exact Dev.o_so_self w O.THM_STATUS sensor _
  · have hentry := (((Dev.follows_sensorRest s.env _ sensor).trans (Dev.follows_hkAfter s.env _)).held
      (hwarn h0 (by rw [hstages, hx.stages]; exact hwas) (by rw [hflt, hx.flt]; exact Nat.lt_trans hroom (by decide))))
    rw [← hres, ← hrun] at hentry
    exact hentry.of_flt ht.flt

theorem hkConversionDone_sheds (hq : s.Quiet) (hd : s.SensorDone adc sensor) (ht : sensor < 16) (hok : bit s.dev.hk.failed sensor = false)
    (h1 : -550 ≤ temp) (h2 : temp ≤ 2000) (h4 : bit (s.dev.stagesAt sensor temp) 4 = true) (hwas : bit (tget 0 s.dev.hk.stages sensor) 4 = false)
    (hst : s.dev.o O.JQ_STATE = 2) :
    Leads (.hkConversionDone adc temp) s (fun t => t.dev.o O.THM_STATUS sensor = 3 ∧ t.dev.o O.JQ_STATE = 3 ∧
      (∀ d, d < 32 → t.dev.ob O.DG_POWER d = false) ∧
      t.dev.o O.THM_SHED_EVENTS = ctrAdd O.THM_SHED_EVENTS 0 (s.dev.o O.THM_SHED_EVENTS) 1 ∧ Logged s t 0x0E03 4) := by
  have ht4 : sensor < 4096 := by omega
  obtain ⟨x, hx, hrun⟩ := hd.hkDone temp
  obtain ⟨w, hframe, -, hstages, hfailed, hflt, hcalm, hat, hres⟩ := Dev.sensorResult_in (e := s.env) ht4 (by rw [hx.failed]; exact hok) h1 h2
  have hm : w.stagesAt sensor temp = s.dev.stagesAt sensor temp := hat.trans (hx.stagesAt ht4 temp)
  have hjq : w.o O.JQ_STATE = 2 := by rw [hframe.o (by decide) (by decide), Dev.o_congr hx.objs]; exact hst
  have hev : w.o O.THM_SHED_EVENTS = s.dev.o O.THM_SHED_EVENTS := by rw [hframe.o (by decide) (by decide), Dev.o_congr hx.objs]; rfl
  obtain ⟨hshed, -⟩ := Dev.stageStep_sheds (e := s.env) (d := w) (temp := temp) ht4 (by rw [hm]; exact h4) (by rw [hstages, hx.stages]; exact hwas) hjq
  have hend := hshed.follows ht4 ((Dev.follows_sensorRest s.env _ sensor).trans (Dev.follows_hkAfter s.env _))
  rw [← hres, ← hrun] at hend
  refine leads_calm (f := fun e d => d.hkDone e adc temp) _ hq rfl rfl ((hx.calm.trans hcalm).trans hend.calm)
    fun t ht => ⟨?_, ?_, fun k hk => ?_, ?_, fun hroom => ?_⟩
  · rw [ht.o, hend.status]
  · rw [ht.o, hend.jacquard]
  · have hoff := hend.digis k hk
    unfold Dev.ob at hoff ⊢
    rw [ht.o]
    exact hoff
  · rw [ht.o, hend.events, hev]
  · exact (hend.entry (by rw [hflt, hx.flt]; exact hroom)).of_flt ht.flt

theorem hkConversionDone_fails (hq : s.Quiet) (hd : s.SensorDone adc sensor) (ht : sensor < 16) (hok : bit s.dev.hk.failed sensor = false)
    (hout : temp < -550 ∨ 2000 < temp) (h2 : tget 0 s.dev.hk.outside sensor = 2) :
    Leads (.hkConversionDone adc temp) s (fun t => t.dev.o O.THM_STATUS sensor = 4 ∧ bit t.dev.hk.failed sensor = true ∧ Logged s t 0x0E05 2) := by
  have ht4 : sensor < 4096 := by omega
  obtain ⟨x, hx, hrun⟩ := hd.hkDone temp
  obtain ⟨c, hc⟩ : ∃ c, c = clampI (-32768) 32767 temp := ⟨_, rfl⟩
  have hcout : (decide (c < -550) || decide (2000 < c)) = true := by
    rw [hc]
    unfold clampI
    simp only [Bool.or_eq_true, decide_eq_true_eq]
    omega
  obtain ⟨hframe, -, ⟨hist, hhk⟩, hflt, hcalm⟩ := Dev.taken_sensorTaken x c ht4
  obtain ⟨hstatus, hfailed, hentry, hout⟩ := Dev.sensorOut_fails (e := s.env) (d := x.sensorTaken sensor c) ht4 (by rw [hhk]; exact hx.outside.symm ▸ h2)
    (by rw [hhk]; exact hx.failed.symm ▸ hok)
  have hcc : clampI (-32768) 32767 c = c := by rw [hc, clampI_clampI (by decide)]
  have hres : x.sensorResult s.env sensor temp = ((x.sensorTaken sensor c).sensorOut s.env sensor).sensorRest s.env sensor := by
    have hclamp : x.sensorResult s.env sensor temp = x.sensorResult s.env sensor c := by
      unfold Dev.sensorResult
      rw [← hc, hcc]
    rw [hclamp, Dev.sensorResult_eq _ _ _ hcc, if_pos hcout, hfailed, if_pos rfl]
  have hafter := (Dev.follows_sensorRest s.env ((x.sensorTaken sensor c).sensorOut s.env sensor) sensor).trans (Dev.follows_hkAfter s.env _)
  rw [← hres, ← hrun] at hafter
  refine leads_calm (f := fun e d => d.hkDone e adc temp) _ hq rfl rfl (((hx.calm.trans hcalm).trans hout).trans hafter.calm)
    fun t ht => ⟨?_, ?_, fun hroom => ?_⟩
  · rw [ht.o, hafter.frame.o ht4 (by decide), hstatus]
  · rw [ht.hk, hafter.failed, hfailed]
  · exact (hafter.held (hentry (by rw [hflt, hx.flt]; exact Nat.lt_trans hroom (by decide)))).of_flt ht.flt

end

/-! ### The thermal shutdown (R848 to R850) -/

section
variable {e : Env} {d : Dev} {sensor : Nat}

/-- What the shutdown leaves of a device. -/
structure Dev.Tripped (e : Env) (d : Dev) (sensor : Nat) (d' : Dev) : Prop where
  pwr : d'.pwr.mode = .shutdown ∧ d'.pwr.coolAt = e.now ∧ d'.pwr.fabric = false ∧ d'.pwr.rstDue = none
  time : d'.o O.THM_SD_TIME = e.now
  sensor : d'.o O.THM_SD_SENSOR = sensor
  count : d'.o O.THM_SD_COUNT = ctrAdd O.THM_SD_COUNT 0 (d.o O.THM_SD_COUNT) 1
  trained : d'.mem.trained = none
  jq : d'.jq = {}
  gone : ∀ i el, el < 4096 → i ∉ aonIdx → i ∉ partIdx → d'.o i el = dflt i el

theorem Dev.tripRecord_spec (e : Env) (d : Dev) (sensor : Nat) : (d.tripRecord e sensor).o O.THM_SD_TIME = e.now ∧
    (d.tripRecord e sensor).o O.THM_SD_SENSOR = sensor ∧
      (d.tripRecord e sensor).o O.THM_SD_COUNT = ctrAdd O.THM_SD_COUNT 0 (d.o O.THM_SD_COUNT) 1 := by
  have hrun : d.tripRecord e sensor = ((d.so O.THM_SD_TIME 0 e.now).so O.THM_SD_SENSOR 0 sensor).inc O.THM_SD_COUNT := rfl
  rw [hrun]
  refine ⟨?_, ?_, ?_⟩
  · rw [Dev.o_inc_other (by decide) (by decide) (by decide), Dev.o_so_other (by decide) (by decide) (by decide), Dev.o_so_self]
  · rw [Dev.o_inc_other (by decide) (by decide) (by decide), Dev.o_so_self]
  · rw [Dev.o_inc_self, Dev.o_so_other (by decide) (by decide) (by decide), Dev.o_so_other (by decide) (by decide) (by decide)]

theorem Dev.thermalTrip_trips (hs : sensor < 16) (hm : d.pwr.mode ≠ .shutdown) : Dev.Tripped e d sensor (d.thermalTrip e sensor) := by
  obtain ⟨r, hr⟩ : ∃ r, r = d.tripRecord e sensor := ⟨_, rfl⟩
  obtain ⟨htime, hsensor, hcount⟩ := Dev.tripRecord_spec e d sensor
  rw [← hr] at htime hsensor hcount
  obtain ⟨f, hf⟩ : ∃ f, f = r.cutFlash.fresh e := ⟨_, rfl⟩
  have hrest := (Dev.fresh_keeps e r.cutFlash).1
  rw [← hf] at hrest
  have ho : ∀ {i el}, el < 4096 → i ∉ partIdx → f.o i el = if i ∈ aonIdx then r.o i el else dflt i el := fun {i el} hel hi => by
    rw [hf, Dev.o_fresh e _ hel hi, Dev.o_congr (d := r) (d' := r.cutFlash) (by rw [Dev.cutFlash_eq])]
  have hrun : d.thermalTrip e sensor = { f.loseGddr with pwr := { f.loseGddr.pwr with mode := .shutdown, coolAt := e.now } } := by
    unfold Dev.thermalTrip
    rw [if_neg (by simp [hm]; omega), hf, hr]
  rw [hrun]
  refine ⟨⟨rfl, rfl, ?_, ?_⟩, ?_, ?_, ?_, rfl, ?_, fun i el hel hi hp => ?_⟩
  · show f.pwr.fabric = false
    rw [hrest]
    rfl
  · show f.pwr.rstDue = none
    rw [hrest]
    rfl
  · show f.o O.THM_SD_TIME = e.now
    rw [ho (by decide) (by decide), if_pos (by decide), htime]
  · show f.o O.THM_SD_SENSOR = sensor
    rw [ho (by decide) (by decide), if_pos (by decide), hsensor]
  · show f.o O.THM_SD_COUNT = _
    rw [ho (by decide) (by decide), if_pos (by decide), hcount]
  · show f.jq = {}
    rw [hrest]
    rfl
  · show f.o i el = _
    rw [ho hel hp, if_neg hi]

end

section
variable {s : State}

theorem thermalShutdownTrip_leads {sensor : Nat} (hq : s.Quiet) (hs : sensor < 16) (hm : s.dev.pwr.mode ≠ .shutdown) :
    Leads (.thermalShutdownTrip sensor) s (fun t =>
      t.dev.pwr.mode = .shutdown ∧ t.dev.pwr.coolAt = s.clock.time ∧ t.dev.o O.THM_SD_TIME = s.clock.time ∧ t.dev.o O.THM_SD_SENSOR = sensor ∧
      t.dev.o O.THM_SD_COUNT = ctrAdd O.THM_SD_COUNT 0 (s.dev.o O.THM_SD_COUNT) 1 ∧ t.dev.pwr.fabric = false ∧
      t.dev.mem.trained = none ∧ t.dev.jq.flight = none ∧
      ∀ i el, el < 4096 → i ∉ aonIdx → i ∉ [O.PWR_VHV_STATE, O.HK_LIM_LO, O.HK_LIM_HI] → t.dev.o i el = dflt i el) := by
  obtain ⟨⟨hmode, hcool, hfabric, hdue⟩, htime, hsensor, hcount, htrained, hjq, hgone⟩ :=
    Dev.thermalTrip_trips (e := s.env) (d := s.begun) hs hm
  refine leads_ends (f := fun e d => d.thermalTrip e sensor) _ hq rfl rfl (by rw [hjq]) hdue fun t ht =>
    ⟨?_, ?_, ?_, ?_, ?_, ?_, ?_, ?_, fun i el hel hi hp => ?_⟩
  · rw [ht.pwr, hmode]
  · rw [ht.pwr]; exact hcool
  · rw [ht.o]; exact htime
  · rw [ht.o, hsensor]
  · rw [ht.o]; exact hcount
  · rw [ht.pwr, hfabric]
  · rw [ht.mem, htrained]
  · rw [ht.jq, hjq]
  · rw [ht.o]; exact hgone i el hel hi hp

theorem thermalAutoRestart_leads (hq : s.Quiet) (hm : s.dev.pwr.mode = .shutdown) (hauto : s.dev.ob O.THM_AUTO_RESTART = true)
    (hcool : s.dev.pwr.coolAt + 3000000000 ≤ s.clock.time) :
    Leads .thermalAutoRestart s (fun t => ResetTo s t 6 ∧ t.dev.pwr.mode = .up ∧ t.dev.o O.SU_STATE = 0 ∧
      ∃ en ∈ t.dev.flt.held, en.code = 0x0E04 ∧ en.cls = 5 ∧ en.time = s.dev.o O.THM_SD_TIME) := by
  have hrun : s.begun.thermalRestart s.env = s.begun.resetTo s.env 6 .up := by
    refine if_pos ?_
    rw [Bool.and_eq_true, Bool.and_eq_true]
    exact ⟨⟨decide_eq_true hm, hauto⟩, decide_eq_true hcool⟩
  refine leads_reset (f := fun e d => d.thermalRestart e) (d := s.begun) hq rfl hrun (by decide) rfl (fun _ _ => rfl) fun t ht hr => ⟨hr, ?_, ?_, ?_⟩
  · rw [ht.pwr, (Dev.resetTo_resets ..).resumes]; decide
  · rw [ht.o, (Dev.resetTo_resets s.env s.begun .up (k := 6) (by decide)).suState rfl]
  · obtain ⟨w, hw, hflt, -, htime⟩ := Dev.resetTo_delivers s.env s.begun (k := 6) (by decide)
    rw [ht.flt, hw]
    unfold Dev.deliverReset
    rw [if_neg (by decide), if_neg (by decide), if_neg (by decide), if_neg (by decide), if_neg (by decide), if_pos (by decide),
      Dev.deliver_room _ (by rw [hflt]; decide)]
    exact ⟨_, List.mem_append_right _ (List.mem_singleton_self _), rfl, rfl, htime⟩

end

/-- Settles O47. -/
theorem sensorsAndThermalShutdown : Obligations.SensorsAndThermalShutdown := by
  refine ⟨fun s adc sensor temp cv hq hadc hlate h0 h1 hcv hstart hseq hin hs hok => ?_,
    fun s hq => ⟨fun sensor hs hm => thermalShutdownTrip_leads hq hs hm, thermalAutoRestart_leads hq⟩⟩
  have hd : s.SensorDone adc sensor := ⟨hadc, hlate, h0, h1, cv, hcv, hstart, hseq, hin⟩
  exact ⟨fun hlo hhi => ⟨hkConversionDone_stages hq hd hs hok hlo hhi, hkConversionDone_sheds hq hd hs hok hlo hhi⟩,
    hkConversionDone_fails hq hd hs hok⟩

end Sys2Proof.Machine
end

section
/-! PROOF. Sequence and urgent conversions (chapter 16). -/

namespace Sys2Proof.Machine

/-! ### What comes beside a conversion's value -/

/-- The objects that change beside a conversion's value, its time and its count of clips. -/
def asideIdx : List Nat := [O.HK_PHYS, O.HK_SEQ_POS, O.HK_LOOPS] ++ thermalIdx

/-- A step that leaves values, times, sessions and the ring as they are. -/
structure Dev.HkAside (d d' : Dev) : Prop where
  frame : Dev.Frame asideIdx d d'
  calm : Dev.Calm d d'
  ses : d'.ses = d.ses
  ring : ∀ i < 0x2000000, d'.domByte O.HK_RING 0 i = d.domByte O.HK_RING 0 i

namespace Dev.HkAside
variable {e : Env} {d d' d'' : Dev}

theorem refl (d : Dev) : HkAside d d := ⟨.refl _ d, .refl d, rfl, fun _ _ => rfl⟩

theorem trans (h : HkAside d d') (k : HkAside d' d'') : HkAside d d'' :=
  ⟨h.frame.trans k.frame, h.calm.trans k.calm, k.ses.trans h.ses, fun i hi => (k.ring i hi).trans (h.ring i hi)⟩

theorem ite {p : Prop} [Decidable p] {a b : Dev} (ha : HkAside d a) (hb : HkAside d b) : HkAside d (if p then a else b) := by
  split
  · exact ha
  · exact hb

/-- A step whose frame is known and that leaves sessions and DOM objects alone. -/
theorem of_frame (hf : Dev.Frame asideIdx d d') (hc : Dev.Calm d d') (hs : d'.ses = d.ses) (hd : d'.doms = d.doms) : HkAside d d' :=
  ⟨hf, hc, hs, fun i _ => by unfold Dev.domByte; rw [hd]⟩

theorem of_follows (h : Dev.Follows d d') (hs : d'.ses = d.ses) (hd : d'.doms = d.doms) : HkAside d d' :=
  of_frame (h.frame.mono fun _ hi => List.mem_append_right _ hi) h.calm hs hd

theorem so {i el v : Nat} (hel : el < 4096) (hi : i ∈ asideIdx) : HkAside d (d.so i el v) := of_frame (.so hel hi) (.so ..) rfl rfl

theorem inc {i el n : Nat} (hel : el < 4096) (hi : i ∈ asideIdx) : HkAside d (d.inc i el n) := so hel hi

theorem hk (d : Dev) (h : Hk) : HkAside d { d with hk := h } := of_frame (.of_objs rfl) ⟨rfl, rfl⟩ rfl rfl

theorem log {code loc cls : Nat} : HkAside d (d.log e code loc cls) :=
  of_follows .log (by rw [Dev.ses_log]) (by rw [Dev.doms_log])

end Dev.HkAside

section
variable {e : Env} {d : Dev}

theorem Dev.newestOf_lt {code loc n : Nat} (h : d.newestOf code loc = some n) : n < 256 := by
  unfold Dev.newestOf at h
  obtain ⟨p, hp, rfl⟩ := Option.map_eq_some_iff.1 h
  refine List.foldlRecOn (List.range 256) _ (motive := fun m : Option (Nat × Nat) => ∀ p ∈ m, p.1 < 256) (fun _ h => absurd h (by simp))
    (fun m hm k hk p hp => ?_) p hp
  have hlt := List.mem_range.1 hk
  dsimp only at hp
  split at hp
  · split at hp
    · split at hp
      · cases hp
        exact hlt
      · exact hm p hp
    · cases hp
      exact hlt
  · exact hm p hp

theorem Dev.aside_logRepeat (e : Env) (d : Dev) (code loc cls : Nat) : Dev.HkAside d (d.logRepeat e code loc cls) := by
  have hf := Dev.follows_logRepeat e d code loc cls
  have hkeeps : (d.logRepeat e code loc cls).ses = d.ses ∧
      ∀ i < 0x2000000, (d.logRepeat e code loc cls).domByte O.HK_RING 0 i = d.domByte O.HK_RING 0 i := by
    unfold Dev.logRepeat
    split
    · exact ⟨rfl, fun _ _ => rfl⟩
    · split
      next n hn =>
        obtain ⟨bs, hbs⟩ : ∃ bs, bs = leBytes 2 (satN 65535 (d.domNat O.FLT_LOG 0 (32 * n + 22) 2 + 1)) := ⟨_, rfl⟩
        have hlen : bs.length = 2 := hbs ▸ length_leBytes ..
        have hm := Dev.traffic_mirror (e := e) (d := d.setDom O.FLT_LOG 0 (32 * n + 22) bs)
        have hlt := Dev.newestOf_lt hn
        rw [← hbs]
        refine ⟨?_, fun i hi => ?_⟩
        · rw [hm.rest]
          show (d.setDom O.FLT_LOG 0 (32 * n + 22) bs).ses = d.ses
          rw [Dev.setDom_eq]
        · rw [hm.dom (by decide) hi (by decide)]
          exact Dev.domByte_setDom_other (by decide) (by rw [hlen]; omega) hi
      · exact ⟨Dev.HkAside.log.ses, Dev.HkAside.log.ring⟩
  exact ⟨hf.frame.mono fun _ hi => List.mem_append_right _ hi, hf.calm, hkeeps.1, hkeeps.2⟩

theorem Dev.biasRound_keeps (e : Env) (d : Dev) : (d.biasRound e).ses = d.ses ∧ (d.biasRound e).doms = d.doms := by
  have hone : ∀ (d : Dev) b v, (d.biasRetarget e b v).ses = d.ses ∧ (d.biasRetarget e b v).doms = d.doms := fun d b v => by
    unfold Dev.biasRetarget
    dsimp only
    split
    · exact ⟨rfl, rfl⟩
    · split
      · exact ⟨rfl, rfl⟩
      · split
        · exact ⟨rfl, rfl⟩
        · split
          · exact ⟨rfl, rfl⟩
          · exact ⟨rfl, rfl⟩
  unfold Dev.biasRound
  split
  · refine List.foldlRecOn (List.range e.biases) _ (motive := fun x : Dev => x.ses = d.ses ∧ x.doms = d.doms) ⟨rfl, rfl⟩ fun x hx b _ => ?_
    exact ⟨(hone ..).1.trans hx.1, (hone ..).2.trans hx.2⟩
  · refine List.foldlRecOn (List.range e.biases) _ (motive := fun x : Dev => x.ses = d.ses ∧ x.doms = d.doms) ⟨rfl, rfl⟩ fun x hx b _ => ?_
    exact hx

theorem Dev.aside_biasRound (e : Env) (d : Dev) : Dev.HkAside d (d.biasRound e) :=
  .of_follows (Dev.follows_biasRound e d) (Dev.biasRound_keeps e d).1 (Dev.biasRound_keeps e d).2

theorem Dev.aside_interrupt (d : Dev) (ent rep : Nat) : Dev.HkAside d (d.interrupt ent rep) :=
  .of_follows (Dev.follows_interrupt d ent rep) rfl rfl

theorem Dev.aside_urgentStart (e : Env) (d : Dev) : Dev.HkAside d (d.urgentStart e) := by
  unfold Dev.urgentStart
  split
  · exact .refl d
  · split
    · exact .hk ..
    · refine .ite (.hk ..) ?_
      split
      · exact (Dev.aside_interrupt ..).trans (.hk ..)
      · exact .refl d

theorem Dev.aside_hkAfter (e : Env) (d : Dev) : Dev.HkAside d (d.hkAfter e) := by
  unfold Dev.hkAfter
  extract_lets +onlyGivenNames d1 h d2
  have h1 : Dev.HkAside d d1 := Dev.aside_urgentStart ..
  have h2 : Dev.HkAside d d2 := h1.trans (.ite (.hk ..) (.refl d1))
  refine .ite (h2.trans ?_) h2
  exact (Dev.HkAside.so (d := d2) (i := O.HK_STATE) (by decide) (by decide)).trans (.hk ..)

theorem Dev.aside_hkShift (e : Env) (d : Dev) : Dev.HkAside d (d.hkShift e) :=
  .ite (.refl d) ((Dev.HkAside.hk ..).trans (Dev.aside_hkAfter ..))

theorem Dev.aside_repeatDone (e : Env) (d : Dev) (ent rep : Nat) : Dev.HkAside d (d.repeatDone e ent rep) := by
  have hpos : ∀ ent rep, Dev.HkAside d (d.seqPos ent rep) := fun _ _ => .so (by decide) (by decide)
  refine .ite (hpos ..) (.ite ?_ (hpos ..))
  exact ((hpos ..).trans (.inc (by decide) (by decide))).trans (Dev.aside_biasRound ..)

theorem Dev.aside_vhvAgree (e : Env) (d : Dev) : Dev.HkAside d (d.vhvAgree e) := by
  unfold Dev.vhvAgree
  extract_lets +onlyGivenNames x bad n h d1
  have h1 : Dev.HkAside d d1 := .hk ..
  exact .ite (h1.trans .log) h1

theorem Dev.aside_hkPhys {i : Nat} (hi : i < 4096) (v : Int) (clip : Bool) : Dev.HkAside d (d.hkPhys i v clip) := by
  refine .ite (.so hi (by decide)) (.ite (.refl d) ?_)
  split
  · exact .so hi (by decide)
  · have hfree : Dev.HkAside d (d.freeVal 32).2 := .of_frame (.of_objs rfl) ⟨rfl, rfl⟩ rfl rfl
    exact hfree.trans (.so hi (by decide))

theorem Dev.aside_hkBeyond (e : Env) (d : Dev) (i cell : Nat) : Dev.HkAside d (d.hkBeyond e i cell) :=
  .ite (Dev.aside_logRepeat ..) ((Dev.HkAside.hk ..).trans .log)

theorem Dev.aside_hkWindowCheck (e : Env) (d : Dev) (i : Nat) : Dev.HkAside d (d.hkWindowCheck e i) := by
  unfold Dev.hkWindowCheck
  extract_lets +onlyGivenNames n x b h d1 a d2
  have h1 : Dev.HkAside d d1 := .hk ..
  have h2 : Dev.HkAside d d2 := .hk ..
  exact .ite (.refl d) (.ite (.ite (h1.trans (Dev.aside_hkBeyond ..)) h1) (.ite (.ite (h2.trans (Dev.aside_hkBeyond ..)) h2) (.hk ..)))

end

/-! ### The value of a conversion (R807 to R813) -/

/-- What the end of a conversion leaves of its input. -/
structure Dev.Converted (e : Env) (d : Dev) (i : Nat) (v : Int) (clip : Bool) (d' : Dev) : Prop where
  value : d'.o O.HK_VALUE i = ofS 32 v
  time : d'.o O.HK_TIME i = e.now
  clips : d'.o O.HK_CLIP i = if clip then ctrAdd O.HK_CLIP i (d.o O.HK_CLIP i) 1 else d.o O.HK_CLIP i
  rest : ∀ {j el}, el < 4096 → j ∉ asideIdx → (j ∈ [O.HK_VALUE, O.HK_TIME, O.HK_CLIP] → el ≠ i) → d'.o j el = d.o j el
  calm : Dev.Calm d d'
  ses : d'.ses = d.ses
  ring : ∀ k < 0x2000000, d'.domByte O.HK_RING 0 k = d.domByte O.HK_RING 0 k

section
variable {e : Env} {d d1 d2 : Dev} {i : Nat} {v : Int} {clip : Bool}

theorem Dev.Converted.before (h : Dev.Converted e d1 i v clip d2) (k : Dev.HkAside d d1) (hi : i < 4096) : Dev.Converted e d i v clip d2 :=
  ⟨h.value, h.time, by rw [h.clips, k.frame.o hi (by decide)],
    fun {j el} hel hj hn => (h.rest hel hj hn).trans (k.frame.o hel hj), k.calm.trans h.calm, h.ses.trans k.ses,
    fun n hn => (h.ring n hn).trans (k.ring n hn)⟩

theorem Dev.Converted.then (h : Dev.Converted e d i v clip d1) (k : Dev.HkAside d1 d2) (hi : i < 4096) : Dev.Converted e d i v clip d2 :=
  ⟨(k.frame.o hi (by decide)).trans h.value, (k.frame.o hi (by decide)).trans h.time, (k.frame.o hi (by decide)).trans h.clips,
    fun {j el} hel hj hn => (k.frame.o hel hj).trans (h.rest hel hj hn), h.calm.trans k.calm, k.ses.trans h.ses,
    fun n hn => (k.ring n hn).trans (h.ring n hn)⟩

theorem Dev.hkResult_converts (e : Env) (d : Dev) {i : Nat} (hi : i < 4096) (c : Int) :
    Dev.Converted e d i (d.hkVal i (clampI (hkLo i) (hkHi i) c)) (d.hkClipped i (clampI (hkLo i) (hkHi i) c)) (d.hkResult e i c) := by
  obtain ⟨v, hv⟩ : ∃ v, v = d.hkVal i (clampI (hkLo i) (hkHi i) c) := ⟨_, rfl⟩
  obtain ⟨b, hb⟩ : ∃ b, b = d.hkClipped i (clampI (hkLo i) (hkHi i) c) := ⟨_, rfl⟩
  obtain ⟨w, hw⟩ : ∃ w, w = if b then d.inc O.HK_CLIP i else d := ⟨_, rfl⟩
  have hrun : d.hkResult e i c = (((w.so O.HK_VALUE i (ofS 32 v)).so O.HK_TIME i e.now).hkPhys i v b).hkWindowCheck e i := by
    rw [hw, hv, hb]
    rfl
  have hwclip : w.o O.HK_CLIP i = if b then ctrAdd O.HK_CLIP i (d.o O.HK_CLIP i) 1 else d.o O.HK_CLIP i := by
    rw [hw]
    cases b
    · rfl
    · exact Dev.o_inc_self ..
  have hwrest : ∀ {j el}, el < 4096 → (j = O.HK_CLIP → el ≠ i) → w.o j el = d.o j el := fun {j el} hel hj => by
    rw [hw]
    cases b
    · rfl
    · by_cases hje : j = O.HK_CLIP
      · exact Dev.o_so_ne hi hel (.inr (hj hje))
      · exact Dev.o_so_ne hi hel (.inl hje)
  have hwkeep : w.ses = d.ses ∧ w.doms = d.doms ∧ Dev.Calm d w := by
    rw [hw]
    cases b
    · exact ⟨rfl, rfl, .refl d⟩
    · exact ⟨rfl, rfl, .inc ..⟩
  rw [hrun, ← hv, ← hb]
  refine Dev.Converted.then (d1 := (w.so O.HK_VALUE i (ofS 32 v)).so O.HK_TIME i e.now) ⟨?_, Dev.o_so_self .., ?_, fun {j el} hel _ hn => ?_,
    hwkeep.2.2.trans ((Dev.Calm.so ..).trans (.so ..)), hwkeep.1, fun k _ => ?_⟩
    ((Dev.aside_hkPhys hi v b).trans (Dev.aside_hkWindowCheck ..)) hi
  · rw [Dev.o_so_other (by decide) hi hi, Dev.o_so_self]
  · rw [Dev.o_so_other (by decide) hi hi, Dev.o_so_other (by decide) hi hi, hwclip]
  · have hne : ∀ {k}, k ∈ [O.HK_VALUE, O.HK_TIME, O.HK_CLIP] → j ≠ k ∨ el ≠ i := fun {k} hk => by
      by_cases hjk : j = k
      · exact .inr (hn (hjk ▸ hk))
      · exact .inl hjk
    rw [Dev.o_so_ne hi hel (hne (by decide)), Dev.o_so_ne hi hel (hne (by decide)), hwrest hel fun hj => hn (by rw [hj]; decide)]
  · show w.domByte O.HK_RING 0 k = _
    unfold Dev.domByte
    rw [hwkeep.2.1]

/-- The correction of a code goes by the offset and the gain of its input (R807). -/
theorem Dev.hkVal_congr {d' : Dev} (h : ∀ j ∈ [O.HK_OFS, O.HK_GAIN], d'.o j i = d.o j i) (c : Int) :
    d'.hkVal i c = d.hkVal i c ∧ d'.hkClipped i c = d.hkClipped i c := by
  have hfix : d'.hkFix i c = d.hkFix i c := by
    unfold Dev.hkFix Dev.os16
    rw [h O.HK_OFS (by decide), h O.HK_GAIN (by decide)]
  have hval : d'.hkVal i c = d.hkVal i c := by
    unfold Dev.hkVal
    rw [hfix]
  refine ⟨hval, ?_⟩
  unfold Dev.hkClipped
  rw [hfix, hval]

end

/-! ### The end of a conversion -/

theorem leNat_leBytes_mod (n v : Nat) : leNat (leBytes n v) = v % 256 ^ n := by
  induction n generalizing v with
  | zero => simp [leNat, leBytes, Nat.mod_one]
  | succ n ih =>
    unfold leBytes leNat
    have hb : (BitVec.ofNat 8 v).toNat = v % 256 := BitVec.toNat_ofNat ..
    rw [ih, hb, Nat.pow_succ', Nat.mod_mul]

/-- The device of a sequence conversion's ring entry (R830 to R833). -/
def Dev.ringed (d : Dev) (adc : Nat) (cv : Conv) (c : Int) (ent : Nat) : Dev :=
  if seqRing (d.seqWord ent) then
    (d.setDom O.HK_RING 0 (8 * (d.o O.HK_RING_COUNT % 2048)) (leBytes 8 (d.ringEntry adc cv c ent))).inc O.HK_RING_COUNT
  else d

/-- What the ring holds after the entry of a sequence conversion. -/
def Dev.RingTakes (d : Dev) (adc : Nat) (cv : Conv) (c : Int) (ent : Nat) (d' : Dev) : Prop :=
  seqRing (d.seqWord ent) = true →
    d'.domNat O.HK_RING 0 (8 * (d.o O.HK_RING_COUNT % 2048)) 8 = d.ringEntry adc cv c ent % 2 ^ 64 ∧
    d'.o O.HK_RING_COUNT = ctrAdd O.HK_RING_COUNT 0 (d.o O.HK_RING_COUNT) 1

section
variable {e : Env} {d d' d'' : Dev} {adc : Nat} {cv : Conv} {c : Int} {ent rep : Nat}

theorem Dev.RingTakes.congr (h : Dev.RingTakes d adc cv c ent d') (hring : ∀ k < 0x2000000, d''.domByte O.HK_RING 0 k = d'.domByte O.HK_RING 0 k)
    (hcount : d''.o O.HK_RING_COUNT = d'.o O.HK_RING_COUNT) : Dev.RingTakes d adc cv c ent d'' := fun hr => by
  obtain ⟨hb, hn⟩ := h hr
  refine ⟨?_, hcount.trans hn⟩
  rw [← hb]
  refine congrArg leNat (List.map_congr_left fun k hk => hring _ ?_)
  have := List.mem_range.1 hk
  omega

theorem Dev.ringTakes_ringed (d : Dev) (adc : Nat) (cv : Conv) (c : Int) (ent : Nat) : Dev.RingTakes d adc cv c ent (d.ringed adc cv c ent) := fun hr => by
  obtain ⟨bs, hbs⟩ : ∃ bs, bs = leBytes 8 (d.ringEntry adc cv c ent) := ⟨_, rfl⟩
  have hlen : bs.length = 8 := hbs ▸ length_leBytes ..
  obtain ⟨w, hw⟩ : ∃ w, w = d.setDom O.HK_RING 0 (8 * (d.o O.HK_RING_COUNT % 2048)) bs := ⟨_, rfl⟩
  have hrun : d.ringed adc cv c ent = w.inc O.HK_RING_COUNT := by
    rw [hw, hbs]
    exact if_pos hr
  have hbytes : w.domBytes O.HK_RING 0 (8 * (d.o O.HK_RING_COUNT % 2048)) 8 = bs := by
    have h := Dev.domBytes_setDom d O.HK_RING 0 (8 * (d.o O.HK_RING_COUNT % 2048)) bs
    rw [hlen] at h
    rw [hw, h]
  rw [hrun]
  refine ⟨?_, ?_⟩
  · show leNat (w.domBytes O.HK_RING 0 (8 * (d.o O.HK_RING_COUNT % 2048)) 8) = _
    rw [hbytes, hbs, leNat_leBytes_mod]
    rfl
  · rw [Dev.o_inc_self, hw, (Dev.frame_setDom [] d ..).o (by decide) (by decide)]

theorem Dev.ringed_frame (d : Dev) (adc : Nat) (cv : Conv) (c : Int) (ent : Nat) :
    Dev.Frame [O.HK_RING_COUNT] d (d.ringed adc cv c ent) ∧ Dev.Calm d (d.ringed adc cv c ent) := by
  unfold Dev.ringed
  split
  · exact ⟨(Dev.frame_setDom _ d ..).trans (.inc (by decide) (by decide)), (Dev.calm_setDom ..).trans (.inc ..)⟩
  · exact ⟨.refl _ d, .refl d⟩

/-- The end of a conversion as its obligation speaks of it. -/
structure Dev.Ended (e : Env) (d : Dev) (adc : Nat) (cv : Conv) (c : Int) (d' : Dev) : Prop where
  value : d'.o O.HK_VALUE cv.input = ofS 32 (d.hkVal cv.input (clampI (hkLo cv.input) (hkHi cv.input) c))
  time : d'.o O.HK_TIME cv.input = e.now
  clips : d'.o O.HK_CLIP cv.input = if d.hkClipped cv.input (clampI (hkLo cv.input) (hkHi cv.input) c)
    then ctrAdd O.HK_CLIP cv.input (d.o O.HK_CLIP cv.input) 1 else d.o O.HK_CLIP cv.input
  format : d'.o O.HK_FMT cv.input = d.o O.HK_FMT cv.input
  ring : ∀ ent rep, cv.seqEnt = some (ent, rep) → Dev.RingTakes d adc cv c ent d'
  calm : Dev.Calm d d'

theorem Dev.Ended.then (h : Dev.Ended e d adc cv c d') (k : Dev.HkAside d' d'') (hi : cv.input < 4096) : Dev.Ended e d adc cv c d'' :=
  ⟨(k.frame.o hi (by decide)).trans h.value, (k.frame.o hi (by decide)).trans h.time, (k.frame.o hi (by decide)).trans h.clips,
    (k.frame.o hi (by decide)).trans h.format, fun ent rep hs => (h.ring ent rep hs).congr k.ring (k.frame.o (by decide) (by decide)),
    h.calm.trans k.calm⟩

theorem Dev.convResult_ends (e : Env) (d : Dev) (adc : Nat) {cv : Conv} (hi : cv.input < 48) (c : Int) :
    Dev.Ended e d adc cv c (d.convResult e adc cv c) := by
  have h4 : cv.input < 4096 := by omega
  obtain ⟨input, seqEnt, src, start, inDelay⟩ := cv
  cases seqEnt with
  | none =>
    have hconv := Dev.hkResult_converts e d h4 c
    have hrun : d.convResult e adc ⟨input, none, src, start, inDelay⟩ c =
        if src == 0 then (d.hkResult e input c).vhvAgree e else d.hkResult e input c := by
      have hno : ¬ 0x100 ≤ input := by
        have : input < 48 := hi
        omega
      exact if_neg hno
    have hend : Dev.Ended e d adc ⟨input, none, src, start, inDelay⟩ c (d.hkResult e input c) :=
      ⟨hconv.value, hconv.time, hconv.clips, hconv.rest h4 (by decide) fun h => absurd h (by decide), fun _ _ h => absurd h (by simp), hconv.calm⟩
    rw [hrun]
    split
    · exact hend.then (Dev.aside_vhvAgree ..) h4
    · exact hend
  | some p =>
    obtain ⟨ent, rep⟩ := p
    obtain ⟨w, hw⟩ : ∃ w, w = d.ringed adc ⟨input, some (ent, rep), src, start, inDelay⟩ c ent := ⟨_, rfl⟩
    obtain ⟨hframe, hcalm⟩ := Dev.ringed_frame d adc ⟨input, some (ent, rep), src, start, inDelay⟩ c ent
    have hring := Dev.ringTakes_ringed d adc ⟨input, some (ent, rep), src, start, inDelay⟩ c ent
    rw [← hw] at hframe hcalm hring
    have hrun : d.convResult e adc ⟨input, some (ent, rep), src, start, inDelay⟩ c =
        if seqConv (d.seqWord ent) == 2 && adc == 0 then w.hkResult e input c else (w.hkResult e input c).repeatDone e ent rep := by
      rw [hw]
      rfl
    have hconv := Dev.hkResult_converts e w h4 c
    obtain ⟨hval, hclip⟩ := Dev.hkVal_congr (d := d) (d' := w) (i := input)
      (fun j hj => hframe.o h4 (by fin_cases hj <;> decide)) (clampI (hkLo input) (hkHi input) c)
    have hend : Dev.Ended e d adc ⟨input, some (ent, rep), src, start, inDelay⟩ c (w.hkResult e input c) := by
      refine ⟨hconv.value.trans (congrArg (ofS 32) hval), hconv.time, ?_, ?_, fun ent' rep' h => ?_, hcalm.trans hconv.calm⟩
      · show (w.hkResult e input c).o O.HK_CLIP input = _
        rw [hconv.clips, hclip, hframe.o h4 (by decide)]
      · exact (hconv.rest h4 (by decide) fun h => absurd h (by decide)).trans (hframe.o h4 (by decide))
      · obtain ⟨rfl, rfl⟩ := Prod.mk.inj (Option.some.inj h)
        exact hring.congr hconv.ring (hconv.rest (by decide) (by decide) fun h => absurd h (by decide))
    rw [hrun]
    split
    · exact hend
    · exact hend.then (Dev.aside_repeatDone ..) h4

/-- A conversion that is due ends in its result. -/
theorem Dev.hkDone_ends (hadc : adc < 2) (h0 : overtaken e d.hk.adc0 = false) (h1 : overtaken e d.hk.adc1 = false)
    (hcv : (d.hk.late = [] ∧ (if adc = 0 then d.hk.adc0 else d.hk.adc1) = some cv ∧ cv.start + 600 ≤ e.now) ∨
      (d.hk.late.find? (fun y => y.1 == adc) = some (adc, cv) ∧ cv.start + 900 ≤ e.now)) :
    ∃ h : Hk, d.hkDone e adc c = (({ d with hk := h } : Dev).convResult e adc cv c).hkAfter e := by
  have hshift : d.hkShift e = d := by
    unfold Dev.hkShift
    dsimp only
    rw [h0, h1]
    rfl
  unfold Dev.hkDone
  rw [hshift]
  dsimp only
  rcases hcv with ⟨hlate, hcv, hstart⟩ | ⟨hlate, hstart⟩
  · rw [hlate]
    dsimp only [List.find?_nil]
    rcases (by omega : adc = 0 ∨ adc = 1) with rfl | rfl
    · rw [if_pos rfl] at hcv
      rw [if_pos (by decide), hcv]
      dsimp only
      rw [if_neg (Nat.not_lt.2 hstart), if_pos (by decide)]
      exact ⟨_, rfl⟩
    · rw [if_neg (by decide)] at hcv
      rw [if_neg (by decide), if_pos (by decide), hcv]
      dsimp only
      rw [if_neg (Nat.not_lt.2 hstart), if_neg (by decide)]
      exact ⟨_, rfl⟩
  · rw [hlate]
    dsimp only
    rw [if_neg (Nat.not_lt.2 hstart)]
    exact ⟨_, rfl⟩

end

/-! ### The formats of a value (R810) -/

theorem toS_ofS {v : Int} (h1 : -2147483648 ≤ v) (h2 : v < 2147483648) : toS 32 (ofS 32 v) = v := by
  unfold toS ofS
  norm_num
  split <;> omega

theorem hkLo_le_hkHi (i : Nat) : -32768 ≤ hkLo i ∧ hkLo i ≤ hkHi i ∧ hkHi i ≤ 65535 := by
  unfold hkLo hkHi
  split <;> decide

theorem Dev.toS_hkVal (d : Dev) (i : Nat) (c : Int) : toS 32 (ofS 32 (d.hkVal i c)) = d.hkVal i c := by
  obtain ⟨h1, h2, h3⟩ := hkLo_le_hkHi i
  refine toS_ofS ?_ ?_ <;>
  · unfold Dev.hkVal clampI
    omega

theorem Dev.readVal_hkValue (e : Env) (d : Dev) (el : Nat) :
    d.readVal e O.HK_VALUE el = hkFormat (d.o O.HK_FMT el) el (toS 32 (d.o O.HK_VALUE el)) := rfl

theorem Dev.readVal_hkNow (e : Env) (d : Dev) (el : Nat) :
    d.readVal e O.HK_NOW el = hkFormat (d.o O.HK_FMT el) el (toS 32 (d.o O.HK_VALUE el)) := rfl

section
variable {s : State} {h : Hdr}

theorem hkConversionDone_ends {adc : Nat} {c : Int} {cv : Conv} (hq : s.Quiet) (hadc : adc < 2)
    (h0 : overtaken s.env s.dev.hk.adc0 = false) (h1 : overtaken s.env s.dev.hk.adc1 = false)
    (hcv : (s.dev.hk.late = [] ∧ (if adc = 0 then s.dev.hk.adc0 else s.dev.hk.adc1) = some cv ∧ cv.start + 600 ≤ s.clock.time) ∨
      (s.dev.hk.late.find? (fun y => y.1 == adc) = some (adc, cv) ∧ cv.start + 900 ≤ s.clock.time)) (hi : cv.input < 48) {x : Int}
    (hx : x = clampI (hkLo cv.input) (hkHi cv.input) c) :
    Leads (.hkConversionDone adc c) s (fun t =>
      t.dev.readVal t.env O.HK_VALUE cv.input = hkFormat (s.dev.o O.HK_FMT cv.input) cv.input (s.dev.hkVal cv.input x) ∧
      t.dev.o O.HK_TIME cv.input = s.clock.time ∧
      t.dev.o O.HK_CLIP cv.input = (if s.dev.hkClipped cv.input x
        then ctrAdd O.HK_CLIP cv.input (s.dev.o O.HK_CLIP cv.input) 1 else s.dev.o O.HK_CLIP cv.input) ∧
      (∀ ent rep, cv.seqEnt = some (ent, rep) → seqRing (s.dev.seqWord ent) = true →
        t.dev.domNat O.HK_RING 0 (8 * (s.dev.o O.HK_RING_COUNT % 2048)) 8 = s.dev.ringEntry adc cv c ent % 2 ^ 64 ∧
        t.dev.o O.HK_RING_COUNT = ctrAdd O.HK_RING_COUNT 0 (s.dev.o O.HK_RING_COUNT) 1)) := by
  obtain ⟨k, hk⟩ := Dev.hkDone_ends (e := s.env) (d := s.begun) (c := c) hadc h0 h1 hcv
  have hend := (Dev.convResult_ends s.env { s.begun with hk := k } adc hi c).then (Dev.aside_hkAfter s.env _) (by omega)
  rw [← hk] at hend
  subst hx
  refine leads_calm (f := fun e d => d.hkDone e adc c) _ hq rfl rfl ⟨hend.calm.settle, hend.calm.rstDue⟩ fun t ht =>
    ⟨?_, ?_, ?_, fun ent rep hs hr => ?_⟩
  · rw [Dev.readVal_hkValue, ht.o, ht.o, hend.value, hend.format, Dev.toS_hkVal]
    rfl
  · rw [ht.o]; exact hend.time
  · rw [ht.o]; exact hend.clips
  · obtain ⟨hb, hn⟩ := hend.ring ent rep hs hr
    refine ⟨?_, (ht.o ..).trans hn⟩
    unfold Dev.domNat Dev.domBytes Dev.domByte at hb ⊢
    rw [ht.doms]
    exact hb

/-- With no request waiting, what comes after a conversion keeps the converters. -/
theorem Dev.hk_hkAfter_idle {e : Env} {d : Dev} (h : d.hk.urgent = []) :
    ∃ a b c, (d.hkAfter e).hk = { d.hk with again := a, due := b, stopping := c } := by
  have hstart : d.urgentStart e = d := by
    unfold Dev.urgentStart
    rw [h]
  unfold Dev.hkAfter
  rw [hstart]
  dsimp only
  split
  · split
    · exact ⟨_, _, _, rfl⟩
    · exact ⟨_, _, _, rfl⟩
  · split
    · exact ⟨_, _, _, rfl⟩
    · exact ⟨_, _, _, rfl⟩

/-- A converter done with a die-1 input is free, and its result is on the link (R806). -/
theorem Dev.hkShift_link {e : Env} {d : Dev} {cv : Conv} (hcv : d.hk.adc0 = some cv) (hdie : hkDie1 cv.input = true) (hlate : d.hk.late = [])
    (h1 : d.hk.adc1 = none) (hu : d.hk.urgent = []) (hstart : cv.start + 600 ≤ e.now) :
    (d.hkShift e).hk.adc0 = none ∧ (d.hkShift e).hk.late = [(0, cv)] := by
  have ho : overtaken e (some cv) = true := by
    show (hkDie1 cv.input && decide (cv.start + 600 ≤ e.now)) = true
    rw [hdie, decide_eq_true hstart]
    rfl
  obtain ⟨x, hx⟩ : ∃ x : Dev, x = { d with hk := { d.hk with late := [(0, cv)], adc0 := none, adc1 := none } } := ⟨_, rfl⟩
  have hrun : d.hkShift e = x.hkAfter e := by
    unfold Dev.hkShift
    dsimp only
    rw [hcv, h1, ho, hlate, hx]
    rfl
  obtain ⟨a, b, c, hhk⟩ := Dev.hk_hkAfter_idle (e := e) (d := x) (by rw [hx]; exact hu)
  rw [hrun, hhk, hx]
  exact ⟨rfl, rfl⟩

theorem hkConversionDone_waits {c : Int} {cv : Conv} (hq : s.Quiet) (hcv : s.dev.hk.adc0 = some cv) (hdie : hkDie1 cv.input = true)
    (hlate : s.dev.hk.late = []) (h1 : s.dev.hk.adc1 = none) (hu : s.dev.hk.urgent = []) (hstart : cv.start + 600 ≤ s.clock.time)
    (hsoon : s.clock.time < cv.start + 900) :
    Leads (.hkConversionDone 0 c) s (fun t => t.dev.hk.adc0 = none ∧ t.dev.hk.late = [(0, cv)] ∧
      t.dev.o O.HK_VALUE cv.input = s.dev.o O.HK_VALUE cv.input) := by
  have hi : cv.input < 4096 := by
    unfold hkDie1 at hdie
    simp at hdie
    omega
  obtain ⟨hadc, hlink⟩ := Dev.hkShift_link (e := s.env) (d := s.begun) hcv hdie hlate h1 hu hstart
  have haside := Dev.aside_hkShift s.env s.begun
  have hrun : s.begun.hkDone s.env 0 c = s.begun.hkShift s.env := by
    unfold Dev.hkDone
    dsimp only
    rw [hlink, List.find?_cons_of_pos (by rfl)]
    exact if_pos hsoon
  refine leads_calm (f := fun e d => d.hkDone e 0 c) _ hq rfl hrun haside.calm fun t ht => ⟨?_, ?_, ?_⟩
  · rw [ht.hk, hadc]
  · rw [ht.hk, hlink]
  · rw [ht.o, haside.frame.o hi (by decide)]
    rfl

/-! ### The sequencer (R817 to R820) -/

theorem hkRepeatStart_starts {w : Nat} (hq : s.Quiet) (hw : w = s.dev.seqWord s.dev.hk.ent) (hruns : s.dev.seqRuns = true)
    (hdue : s.dev.hk.due ≤ s.clock.time) (hu : s.dev.hk.urgent = []) (ha : s.dev.hk.again = false) (hfree : s.dev.seqFree (seqConv w) = true)
    (h0 : overtaken s.env s.dev.hk.adc0 = false) (h1 : overtaken s.env s.dev.hk.adc1 = false) :
    Leads .hkRepeatStart s (fun t =>
      t.dev.hk.due = s.clock.time + 600 + 150 * seqDelay w ∧
      (seqConv w ≠ 1 → t.dev.hk.adc0 =
        some { input := seqInput w, seqEnt := some (s.dev.hk.ent, s.dev.hk.rep), src := 0, start := s.clock.time }) ∧
      (seqConv w = 1 → t.dev.hk.adc0 = s.dev.hk.adc0 ∧ t.dev.hk.adc1 =
        some { input := seqInput w, seqEnt := some (s.dev.hk.ent, s.dev.hk.rep), src := 0, start := s.clock.time }) ∧
      (if seqRepeat w ≤ s.dev.hk.rep then t.dev.hk.ent = s.dev.seqNext s.dev.hk.ent ∧ t.dev.hk.rep = 0
        else t.dev.hk.ent = s.dev.hk.ent ∧ t.dev.hk.rep = s.dev.hk.rep + 1)) := by
  obtain ⟨cv, hcv⟩ : ∃ cv : Conv, cv = { input := seqInput w, seqEnt := some (s.dev.hk.ent, s.dev.hk.rep), src := 0, start := s.clock.time } :=
    ⟨_, rfl⟩
  obtain ⟨k, hrun, hkdue, hent, hrep, hne, heq⟩ : ∃ k : Hk, s.begun.hkRepeat s.env = { s.begun with hk := k } ∧
      k.due = s.clock.time + 600 + 150 * seqDelay w ∧
      k.ent = (if seqRepeat w ≤ s.dev.hk.rep then s.dev.seqNext s.dev.hk.ent else s.dev.hk.ent) ∧
      k.rep = (if seqRepeat w ≤ s.dev.hk.rep then 0 else s.dev.hk.rep + 1) ∧ (seqConv w ≠ 1 → k.adc0 = some cv) ∧
      (seqConv w = 1 → k.adc0 = s.dev.hk.adc0 ∧ k.adc1 = some cv) := by
    have hshift : s.begun.hkShift s.env = s.begun := by
      unfold Dev.hkShift
      dsimp only
      rw [show overtaken s.env s.begun.hk.adc0 = false from h0, show overtaken s.env s.begun.hk.adc1 = false from h1]
      rfl
    have hgo : ¬ (!s.begun.seqRuns || decide (s.env.now < s.begun.hk.due) || s.begun.hk.urgent != [] || s.begun.hk.again ||
        !s.begun.seqFree (seqConv w)) = true := by
      rw [show s.begun.seqRuns = true from hruns, show s.begun.hk.urgent = [] from hu, show s.begun.hk.again = false from ha,
        show s.begun.seqFree (seqConv w) = true from hfree, decide_eq_false (show ¬ s.env.now < s.begun.hk.due from Nat.not_lt.2 hdue)]
      decide
    unfold Dev.hkRepeat
    rw [hshift]
    dsimp only
    rw [show s.begun.seqWord s.begun.hk.ent = w from hw.symm, if_neg hgo, hcv]
    by_cases h1 : seqConv w = 1
    · rw [h1, if_neg (by decide), if_pos (by decide)]
      exact ⟨_, rfl, rfl, rfl, rfl, fun h => absurd rfl h, fun _ => ⟨rfl, rfl⟩⟩
    · by_cases hz : seqConv w = 0
      · rw [hz, if_pos (by decide)]
        exact ⟨_, rfl, rfl, rfl, rfl, fun _ => rfl, fun h => absurd h (by decide)⟩
      · rw [if_neg (by simpa using hz), if_neg (by simpa using h1)]
        split
        · exact ⟨_, rfl, rfl, rfl, rfl, fun _ => rfl, fun h => absurd h h1⟩
        · exact ⟨_, rfl, rfl, rfl, rfl, fun _ => rfl, fun h => absurd h h1⟩
  refine leads_calm (f := fun e d => d.hkRepeat e) _ hq rfl hrun ⟨rfl, rfl⟩ fun t ht => ?_
  rw [ht.hk, ← hcv]
  refine ⟨hkdue, hne, heq, ?_⟩
  show if _ then k.ent = _ ∧ k.rep = _ else k.ent = _ ∧ k.rep = _
  rw [hent, hrep]
  split
  · exact ⟨rfl, rfl⟩
  · exact ⟨rfl, rfl⟩

end
/-! ### Writes of HK_RUN (R820) -/

theorem Dev.landEl_hkRun_stop (e : Env) (d : Dev) (ss : Nat) : d.landEl e ss O.HK_RUN 0 0 = d.hkStop e := rfl

theorem Dev.landEl_hkRun_start (e : Env) (d : Dev) (ss : Nat) : d.landEl e ss O.HK_RUN 0 1 = d.hkStart e := rfl

section
variable {e : Env} {d : Dev}

theorem Dev.hkStop_spec (e : Env) (d : Dev) : (d.hkStop e).o O.HK_RUN = 0 ∧ Dev.Calm d (d.hkStop e) ∧
    (d.hk.adc0 = none → d.hk.adc1 = none → (d.hkStop e).o O.HK_STATE = 0) := by
  obtain ⟨w, hw⟩ : ∃ w, w = (d.so O.HK_RUN 0 0).hkShift e := ⟨_, rfl⟩
  have haside := Dev.aside_hkShift e (d.so O.HK_RUN 0 0)
  rw [← hw] at haside
  have hwrun : w.o O.HK_RUN = 0 := by rw [haside.frame.o (by decide) (by decide), Dev.o_so_self]
  have hcalm : Dev.Calm d w := (Dev.Calm.so d O.HK_RUN 0 0).trans haside.calm
  have hrun : d.hkStop e = if isSeq w.hk.adc0 || isSeq w.hk.adc1 then { w with hk := { w.hk with stopping := true } }
      else { (w.so O.HK_STATE 0 0) with hk := { w.hk with second := none, again := false } } := by
    rw [hw]
    rfl
  have hstopped : ({ (w.so O.HK_STATE 0 0) with hk := { w.hk with second := none, again := false } } : Dev).o O.HK_RUN = 0 := by
    show (w.so O.HK_STATE 0 0).o O.HK_RUN = 0
    rw [Dev.o_so_other (by decide) (by decide) (by decide), hwrun]
  refine ⟨?_, ?_, fun h0 h1 => ?_⟩
  · rw [hrun]
    split
    · exact hwrun
    · exact hstopped
  · rw [hrun]
    split
    · exact ⟨hcalm.settle, hcalm.rstDue⟩
    · exact ⟨hcalm.settle, hcalm.rstDue⟩
  · have hidle : w = d.so O.HK_RUN 0 0 := by
      rw [hw]
      unfold Dev.hkShift
      dsimp only
      rw [show (d.so O.HK_RUN 0 0).hk.adc0 = none from h0, show (d.so O.HK_RUN 0 0).hk.adc1 = none from h1]
      rfl
    rw [hrun, if_neg (by rw [hidle, show (d.so O.HK_RUN 0 0).hk.adc0 = none from h0, show (d.so O.HK_RUN 0 0).hk.adc1 = none from h1]; decide)]
    exact Dev.o_so_self w O.HK_STATE 0 0

/-- The sequencer restarted. -/
def Dev.hkStarted (e : Env) (d : Dev) : Dev :=
  { ((d.so O.HK_RUN 0 1).so O.HK_STATE 0 1).seqPos 0 0 with hk := { d.hk with ent := 0, rep := 0, due := e.now, again := false, stopping := false } }

theorem Dev.hkStart_stopped (h : d.ob O.HK_RUN = false) : d.hkStart e = d.hkStarted e := by
  unfold Dev.hkStart
  rw [h]
  rfl

theorem Dev.o_hkStarted (e : Env) (d : Dev) :
    (d.hkStarted e).o O.HK_RUN = 1 ∧ (d.hkStarted e).o O.HK_STATE = 1 ∧ (d.hkStarted e).o O.HK_SEQ_POS = 0 := by
  refine ⟨?_, ?_, ?_⟩
  · show (((d.so O.HK_RUN 0 1).so O.HK_STATE 0 1).so O.HK_SEQ_POS 0 0).o O.HK_RUN = 1
    rw [Dev.o_so_other (by decide) (by decide) (by decide), Dev.o_so_other (by decide) (by decide) (by decide), Dev.o_so_self]
  · show (((d.so O.HK_RUN 0 1).so O.HK_STATE 0 1).so O.HK_SEQ_POS 0 0).o O.HK_STATE = 1
    rw [Dev.o_so_other (by decide) (by decide) (by decide), Dev.o_so_self]
  · exact Dev.o_so_self ((d.so O.HK_RUN 0 1).so O.HK_STATE 0 1) O.HK_SEQ_POS 0 0

end

section
variable {s : State} {h : Hdr}

theorem hkRunStop_stops (hq : s.Quiet) (ha : Accepts s h O.HK_RUN 0 0) :
    Leads (.hkRunStop h) s (fun t => t.dev.ob O.HK_RUN = false ∧ (s.dev.hk.adc0 = none → s.dev.hk.adc1 = none → t.dev.o O.HK_STATE = 0)) := by
  obtain ⟨hrun, hcalm, hstate⟩ := Dev.hkStop_spec s.env (s.asked h O.HK_RUN 0)
  have hhk : (s.asked h O.HK_RUN 0).hk = s.dev.hk := by rw [State.asked_eq]
  refine leads_lands _ hq ha rfl (by decide) (Dev.landEl_hkRun_stop ..) hcalm fun t ht => ⟨?_, fun h0 h1 => ?_⟩
  · unfold Dev.ob
    rw [ht.o (by decide) (by decide), hrun]
    rfl
  · rw [ht.o (by decide) (by decide), hstate (by rw [hhk]; exact h0) (by rw [hhk]; exact h1)]

theorem hkRunStart_starts (hq : s.Quiet) (ha : Accepts s h O.HK_RUN 0 1) (hoff : s.dev.ob O.HK_RUN = false) :
    Leads (.hkRunStart h) s (fun t => t.dev.ob O.HK_RUN = true ∧ t.dev.o O.HK_STATE = 1 ∧ t.dev.o O.HK_SEQ_POS = 0 ∧ t.dev.hk.ent = 0 ∧
      t.dev.hk.rep = 0 ∧ t.dev.hk.due = s.clock.time) := by
  have hoff' : (s.asked h O.HK_RUN 0).ob O.HK_RUN = false := by
    unfold Dev.ob at hoff ⊢
    rw [State.o_asked]
    exact hoff
  obtain ⟨hrun, hstate, hpos⟩ := Dev.o_hkStarted s.env (s.asked h O.HK_RUN 0)
  refine leads_lands ((s.asked h O.HK_RUN 0).hkStarted s.env) hq ha rfl (by decide) ((Dev.landEl_hkRun_start ..).trans (Dev.hkStart_stopped hoff'))
    ⟨rfl, rfl⟩ fun t ht => ⟨?_, ?_, ?_, ?_, ?_, ?_⟩
  · unfold Dev.ob
    rw [ht.o (by decide) (by decide), hrun]
    rfl
  · rw [ht.o (by decide) (by decide), hstate]
  · rw [ht.o (by decide) (by decide), hpos]
  all_goals
    rw [ht.hk]
    rfl

/-! ### Urgent requests (R822 to R824, R829, R837) -/

section
variable {e : Env} {d : Dev}

/-- An urgent request with none waiting, no converter done with a die-1 input. -/
theorem Dev.urgentReq_eq (src input : Nat) (hu : d.hk.urgent = []) (h0 : overtaken e d.hk.adc0 = false) (h1 : overtaken e d.hk.adc1 = false) :
    d.urgentReq e src input = ({ d with hk := { d.hk with urgent := [{ src := src, input := input }] } } : Dev).urgentStart e := by
  have hshift : d.hkShift e = d := by
    unfold Dev.hkShift
    dsimp only
    rw [h0, h1]
    rfl
  unfold Dev.urgentReq
  rw [hshift]
  dsimp only
  rw [hu]
  rfl

theorem Dev.urgentStart_idle {u : Urgent} {rest : List Urgent} (hu : d.hk.urgent = u :: rest) (h0 : d.hk.adc0 = none) :
    ∃ b, d.urgentStart e = { d with hk := { d.hk with
      adc0 := some { input := u.input, seqEnt := none, src := u.src, start := e.now, inDelay := b }, urgent := rest } } := by
  unfold Dev.urgentStart
  rw [hu]
  dsimp only
  rw [h0]
  exact ⟨_, rfl⟩

theorem Dev.urgentStart_interrupts {u : Urgent} {rest : List Urgent} {x y : Conv} {ent rep : Nat} (hu : d.hk.urgent = u :: rest)
    (h0 : d.hk.adc0 = some x) (h1 : d.hk.adc1 = some y) (hs : x.seqEnt = some (ent, rep)) :
    d.urgentStart e = { d.interrupt ent rep with hk := { (d.interrupt ent rep).hk with
      adc0 := some { input := u.input, seqEnt := none, src := u.src, start := e.now }, urgent := rest } } := by
  have hseq : isSeq (some x) = true := by
    show x.seqEnt.isSome = true
    rw [hs]
    rfl
  unfold Dev.urgentStart
  rw [hu]
  dsimp only
  rw [h0, h1]
  dsimp only
  rw [hs, hseq]
  rfl

theorem Dev.urgentStart_waits {u : Urgent} {rest : List Urgent} {x y : Conv} (hu : d.hk.urgent = u :: rest)
    (h0 : d.hk.adc0 = some x) (h1 : d.hk.adc1 = some y) (hs : x.seqEnt = none) : d.urgentStart e = d := by
  unfold Dev.urgentStart
  rw [hu]
  dsimp only
  rw [h0, h1]
  dsimp only
  rw [hs]
  rfl

end

/-- A thermal round that is due. -/
def State.RoundDue (s : State) (sensor : Nat) : Prop :=
  sensor < 16 ∧ s.dev.hkAlive = true ∧ s.dev.hk.urgent = [] ∧ 93750 * sensor ≤ s.clock.time % 1500000 ∧
    tget 0 s.dev.hk.rounds sensor ≤ s.clock.time / 1500000 ∧ overtaken s.env s.dev.hk.adc0 = false ∧ overtaken s.env s.dev.hk.adc1 = false

/-- The device of a thermal round with its request waiting. -/
def State.rounding (s : State) (sensor : Nat) : Dev :=
  { s.begun with hk := { s.dev.hk with rounds := tset 0 s.dev.hk.rounds sensor (s.clock.time / 1500000 + 1),
                                       urgent := [{ src := 1, input := 0x100 + sensor }] } }

variable {sensor : Nat}

theorem State.RoundDue.asks (hd : s.RoundDue sensor) : s.begun.thermalRound s.env sensor = (s.rounding sensor).urgentStart s.env := by
  obtain ⟨hs, halive, hu, hms, hround, h0, h1⟩ := hd
  have hgo : (decide (sensor < 16) && s.begun.hkAlive && decide (93750 * sensor ≤ s.env.now % 1500000) &&
      decide (tget 0 s.begun.hk.rounds sensor ≤ s.env.now / 1500000)) = true := by
    rw [decide_eq_true hs, show s.begun.hkAlive = true from halive, decide_eq_true (show 93750 * sensor ≤ s.env.now % 1500000 from hms),
      decide_eq_true (show tget 0 s.begun.hk.rounds sensor ≤ s.env.now / 1500000 from hround)]
    rfl
  unfold Dev.thermalRound
  dsimp only
  rw [if_pos hgo, Dev.urgentReq_eq 1 (0x100 + sensor) (by exact hu) (by exact h0) (by exact h1)]
  rfl

theorem thermalRound_idle (hq : s.Quiet) (hd : s.RoundDue sensor) (h0 : s.dev.hk.adc0 = none) :
    Leads (.thermalRound sensor) s (fun t => t.dev.hk.urgent = [] ∧ tget 0 t.dev.hk.rounds sensor = s.clock.time / 1500000 + 1 ∧
      ∃ b, t.dev.hk.adc0 = some { input := 0x100 + sensor, seqEnt := none, src := 1, start := s.clock.time, inDelay := b }) := by
  obtain ⟨b, hb⟩ := Dev.urgentStart_idle (e := s.env) (d := s.rounding sensor) rfl h0
  refine leads_calm (f := fun e d => d.thermalRound e sensor) _ hq rfl (hd.asks.trans hb) ⟨rfl, rfl⟩ fun t ht => ?_
  rw [ht.hk]
  exact ⟨rfl, tget_tset_self 0 s.dev.hk.rounds sensor (s.clock.time / 1500000 + 1), b, rfl⟩

theorem thermalRound_interrupts {x y : Conv} {ent rep : Nat} (hq : s.Quiet) (hd : s.RoundDue sensor) (h0 : s.dev.hk.adc0 = some x)
    (h1 : s.dev.hk.adc1 = some y) (hs : x.seqEnt = some (ent, rep)) :
    Leads (.thermalRound sensor) s (fun t => t.dev.hk.urgent = [] ∧
      t.dev.hk.adc0 = some { input := 0x100 + sensor, seqEnt := none, src := 1, start := s.clock.time } ∧
      t.dev.hk.ent = ent ∧ t.dev.hk.rep = rep ∧
      t.dev.o O.HK_PREEMPTS = ctrAdd O.HK_PREEMPTS 0 (s.dev.o O.HK_PREEMPTS) 1) := by
  have hb := Dev.urgentStart_interrupts (e := s.env) (d := s.rounding sensor) rfl h0 h1 hs
  refine leads_calm (f := fun e d => d.thermalRound e sensor) _ hq rfl (hd.asks.trans hb) ⟨rfl, rfl⟩ fun t ht => ?_
  rw [ht.hk, ht.o]
  exact ⟨rfl, rfl, rfl, rfl, Dev.o_inc_self s.begun O.HK_PREEMPTS 0 1⟩

theorem thermalRound_waits {x y : Conv} (hq : s.Quiet) (hd : s.RoundDue sensor) (h0 : s.dev.hk.adc0 = some x)
    (h1 : s.dev.hk.adc1 = some y) (hs : x.seqEnt = none) :
    Leads (.thermalRound sensor) s (fun t => t.dev.hk.adc0 = some x ∧ t.dev.hk.adc1 = some y ∧
      t.dev.hk.urgent = [{ src := 1, input := 0x100 + sensor }]) := by
  have hb := Dev.urgentStart_waits (e := s.env) (d := s.rounding sensor) rfl h0 h1 hs
  refine leads_calm (f := fun e d => d.thermalRound e sensor) _ hq rfl (hd.asks.trans hb) ⟨rfl, rfl⟩ fun t ht => ?_
  rw [ht.hk]
  exact ⟨h0, h1, rfl⟩

theorem hmVhvCheck_asks (hq : s.Quiet) (halive : s.dev.hkAlive = true) (hdue : s.dev.hk.vhvArm = true ∨
      ((s.dev.o O.HM_STATE = 2 ∨ s.dev.o O.HM_STATE = 3) ∧ s.dev.hk.vhvAt ≤ s.clock.time))
    (hu : s.dev.hk.urgent = []) (h0 : s.dev.hk.adc0 = none) (h1 : overtaken s.env s.dev.hk.adc1 = false) :
    Leads .hmVhvCheck s (fun t => t.dev.hk.vhvAt = s.clock.time + 15000000 ∧ t.dev.hk.vhvArm = false ∧
      ∃ b, t.dev.hk.adc0 = some { input := 38, seqEnt := none, src := 0, start := s.clock.time, inDelay := b }) := by
  obtain ⟨d, hd⟩ : ∃ d : Dev, d = { s.begun with hk := { s.dev.hk with vhvAt := s.clock.time + 15000000, vhvArm := false } } := ⟨_, rfl⟩
  have hrun : s.begun.vhvCheck s.env = d.urgentReq s.env 0 38 := by
    rw [hd]
    refine if_pos ?_
    rw [show s.begun.hkAlive = true from halive, Bool.true_and, Bool.or_eq_true, Bool.and_eq_true, Bool.or_eq_true]
    exact hdue.imp_right fun ⟨hst, hat⟩ => ⟨hst.imp (fun h => beq_iff_eq.2 h) fun h => beq_iff_eq.2 h, decide_eq_true hat⟩
  have hhk : d.hk = { s.dev.hk with vhvAt := s.clock.time + 15000000, vhvArm := false } := by rw [hd]
  obtain ⟨b, hb⟩ := Dev.urgentStart_idle (e := s.env) (d := { d with hk := { d.hk with urgent := [{ src := 0, input := 38 }] } }) rfl
    (by rw [hhk]; exact h0)
  have hreq := (Dev.urgentReq_eq (e := s.env) 0 38 (by rw [hhk]; exact hu) (by rw [hhk, h0]; rfl) (by rw [hhk]; exact h1)).trans hb
  refine leads_calm (f := fun e d => d.vhvCheck e) _ hq rfl (hrun.trans hreq) (by rw [hd]; exact ⟨rfl, rfl⟩) fun t ht => ?_
  rw [ht.hk, hhk]
  exact ⟨rfl, rfl, b, rfl⟩

end

/-! ### A READ of HK_NOW (R828) -/

section
variable {e : Env} {d : Dev}

theorem Dev.hkNowOne_converts (e : Env) (d : Dev) {i : Nat} (hi : i < 4096) {c : Int} (h1 : hkLo i ≤ c) (h2 : c ≤ hkHi i) :
    Dev.Converted e d i (d.hkVal i c) (d.hkClipped i c) (d.hkNowOne e i (some c)) := by
  obtain ⟨w, hw⟩ : ∃ w, w = d.hkShift e := ⟨_, rfl⟩
  have hshift : Dev.HkAside d w := hw ▸ Dev.aside_hkShift e d
  obtain ⟨x, hx, haside⟩ : ∃ x, d.hkNowOne e i (some c) = x.hkResult e i c ∧ Dev.HkAside d x := by
    unfold Dev.hkNowOne
    rw [← hw]
    refine ⟨_, rfl, ?_⟩
    split
    · split
      · exact hshift.trans ((Dev.aside_interrupt ..).trans (.hk ..))
      · exact hshift
    · exact hshift
  obtain ⟨hval, hclip⟩ := Dev.hkVal_congr (d := d) (d' := x) (i := i) (fun j hj => haside.frame.o hi (by fin_cases hj <;> decide)) c
  have hconv := (Dev.hkResult_converts e x hi c).before haside hi
  rw [clampI_within h1 h2, hval, hclip] at hconv
  rw [hx]
  exact hconv

/-- The objects that the conversions of HK_NOW set. -/
def nowIdx : List Nat := [O.HK_VALUE, O.HK_TIME, O.HK_CLIP] ++ asideIdx

/-- What the conversions of a run have left after `m` of them. -/
structure Dev.NowRun (e : Env) (d : Dev) (el m : Nat) (codes : List Int) (d' : Dev) : Prop where
  values : ∀ k, k < m → d'.o O.HK_VALUE (el + k) = ofS 32 (d.hkVal (el + k) (codes.getD k 0)) ∧ d'.o O.HK_TIME (el + k) = e.now
  frame : Dev.Frame nowIdx d d'
  calm : Dev.Calm d d'
  ses : d'.ses = d.ses

theorem Dev.hkNow_runs (e : Env) (d : Dev) {el n : Nat} {codes : List Int} (hel : el + n ≤ 48) (hlen : codes.length = n)
    (hc : ∀ k, k < n → hkLo (el + k) ≤ codes.getD k 0 ∧ codes.getD k 0 ≤ hkHi (el + k)) {m : Nat} (hm : m ≤ n) :
    Dev.NowRun e d el m codes ((List.range m).foldl (fun d k => d.hkNowOne e (el + k) (codes[k]?)) d) := by
  induction m with
  | zero => exact ⟨fun k hk => absurd hk (Nat.not_lt_zero k), .refl _ d, .refl d, rfl⟩
  | succ m ih =>
    obtain ⟨hvalues, hframe, hcalm, hses⟩ := ih (by omega)
    obtain ⟨w, hw⟩ : ∃ w, w = (List.range m).foldl (fun d k => d.hkNowOne e (el + k) (codes[k]?)) d := ⟨_, rfl⟩
    rw [List.range_succ, List.foldl_concat]
    rw [← hw] at hvalues hframe hcalm hses ⊢
    have hcode : codes[m]? = some (codes.getD m 0) := by
      rw [List.getD_eq_getElem?_getD, List.getElem?_eq_getElem (by omega)]
      rfl
    have hm4 : el + m < 4096 := by omega
    obtain ⟨h1, h2⟩ := hc m (by omega)
    have hconv := Dev.hkNowOne_converts e w hm4 h1 h2
    rw [(Dev.hkVal_congr (d := d) (d' := w) (i := el + m) (fun j hj => hframe.o hm4 (by fin_cases hj <;> decide)) _).1] at hconv
    rw [hcode]
    refine ⟨fun k hk => ?_, ⟨fun {i j} hj hi => ?_⟩, hcalm.trans hconv.calm, hconv.ses.trans hses⟩
    · rcases Nat.lt_succ_iff_lt_or_eq.1 hk with hlt | rfl
      · have hne : el + k ≠ el + m := by omega
        rw [hconv.rest (by omega) (by decide) fun _ => hne, hconv.rest (by omega) (by decide) fun _ => hne]
        exact hvalues k hlt
      · exact ⟨hconv.value, hconv.time⟩
    · rw [hconv.rest hj (fun h => hi (List.mem_append_right _ h)) fun h => absurd (List.mem_append_left asideIdx h) hi, hframe.o hj hi]

end

section
variable {s : State} {h : Hdr} {el n : Nat} {codes : List Int}

/-- The row of HK_NOW. -/
def hkNowRow : ObjRow := ⟨O.HK_NOW, [(0, 0x2F)], .u32, .ro, .now, false, 0, [], 0, 0⟩

theorem rowOf_hkNow : rowOf? O.HK_NOW = some hkNowRow := by decide +kernel

theorem Dev.pres_hkNow (e : Env) (d : Dev) {i : Nat} (hi : i < 48) : d.pres e O.HK_NOW i = .ok := by
  have hhas : hkNowRow.has i = true := by
    unfold ObjRow.has hkNowRow
    simp
    omega
  unfold Dev.pres
  rw [rowOf_hkNow]
  dsimp only
  rw [hhas]
  have h1 : absent5120 O.HK_NOW = false := by decide +kernel
  have h2 : moduleSet O.HK_NOW i = false := rfl
  have h3 : absent5122 hkNowRow i = false := rfl
  have h4 : needsFit O.HK_NOW = false := by decide +kernel
  have h5 : ¬ (decide (0x5820 ≤ O.HK_NOW) && decide (O.HK_NOW ≤ 0x5832)) = true := by decide
  rw [h1, h2, h3, h4]
  simp [h5]

theorem Dev.runCheck_hkNow (e : Env) (d : Dev) (h1 : 1 ≤ n) (h2 : el + n ≤ 48) : d.runCheck e hkNowRow el n = none := by
  have hpres : ∀ m, el + m ≤ 48 → d.presAbort e O.HK_NOW el m = none := fun m hm => by
    have hall : (runEls el m).map (d.pres e O.HK_NOW) = (runEls el m).map fun _ => Pres.ok :=
      List.map_congr_left fun x hx => Dev.pres_hkNow e d (by have := mem_runEls.1 hx; omega)
    unfold Dev.presAbort
    rw [hall]
    simp
  have hfirst : d.firstAbsent e O.HK_NOW el = none := by
    unfold Dev.firstAbsent
    rw [hpres 1 (by omega)]
    rfl
  unfold Dev.runCheck
  rw [show hkNowRow.idx = O.HK_NOW from rfl, hfirst, hpres n h2]
  simp [hkNowRow, ObjRow.width, OTy.bytes]
  omega

theorem hkNow_answers (hq : s.Quiet) (hs : Served s h O.HK_NOW) (h1 : 1 ≤ n) (hel : el + n ≤ 48) (hlen : codes.length = n)
    (hc : ∀ k, k < n → hkLo (el + k) ≤ codes.getD k 0 ∧ codes.getD k 0 ≤ hkHi (el + k)) :
    Leads (.hkNow h el n codes) s (fun t => (∀ k, k < n → t.dev.o O.HK_TIME (el + k) = s.clock.time) ∧
      Answered s t (readMsg h O.HK_NOW el n) (okAns s.clock.time ((List.range n).flatMap (fun k =>
        leBytes 4 (hkFormat (s.dev.o O.HK_FMT (el + k)) (el + k) (s.dev.hkVal (el + k) (codes.getD k 0))))))) := by
  obtain ⟨d, hd⟩ : ∃ d, d = s.atRequest h.sess := ⟨_, rfl⟩
  obtain ⟨w, hw⟩ : ∃ w, w = d.hkNow s.env el n codes := ⟨_, rfl⟩
  obtain ⟨hvalues, hframe, hcalm, hses⟩ := Dev.hkNow_runs s.env d hel hlen hc (Nat.le_refl n)
  rw [show (List.range n).foldl (fun d k => d.hkNowOne s.env (el + k) (codes[k]?)) d = w from hw.symm] at hvalues hframe hcalm hses
  have ho : ∀ i el, d.o i el = s.dev.o i el := fun i el => by rw [hd, State.o_atRequest]
  have hbytes : ∀ k < n, w.elBytes s.env hkNowRow (el + k) =
      leBytes 4 (hkFormat (s.dev.o O.HK_FMT (el + k)) (el + k) (s.dev.hkVal (el + k) (codes.getD k 0))) := fun k hk => by
    have hrun : w.elBytes s.env hkNowRow (el + k) = leBytes 4 (w.readVal s.env O.HK_NOW (el + k)) := if_neg (by decide)
    have hval := (Dev.hkVal_congr (d := s.dev) (d' := d) (i := el + k) (fun j _ => ho j _) (codes.getD k 0)).1
    rw [hrun, Dev.readVal_hkNow, (hvalues k hk).1, Dev.toS_hkVal, hval, hframe.o (by omega) (by decide), ho]
  have hrun : d.readRun s.env hkNowRow el n false true codes =
      ((List.range n).flatMap fun k => leBytes 4 (hkFormat (s.dev.o O.HK_FMT (el + k)) (el + k) (s.dev.hkVal (el + k) (codes.getD k 0))), w) := by
    unfold Dev.readRun
    dsimp only
    rw [if_pos (by decide), ← hw, if_neg (by decide), List.flatMap_map]
    refine congrArg (·, w) (List.flatMap_congr fun k hk => hbytes k (List.mem_range.1 hk))
  have hop : (s.atRequest h.sess).operate s.env (readMsg h O.HK_NOW el n) codes =
      (okAns s.clock.time ((List.range n).flatMap fun k =>
        leBytes 4 (hkFormat (s.dev.o O.HK_FMT (el + k)) (el + k) (s.dev.hkVal (el + k) (codes.getD k 0)))), w) := by
    refine ((Dev.operate_read false false (State.serviceAbort_atRequest hs)).trans
      (Dev.opRead_run (r := hkNowRow) (m := readMsg h O.HK_NOW el n) rowOf_hkNow (Dev.runCheck_hkNow _ _ h1 hel) (by decide) rfl)).trans ?_
    show (okAns s.env.now ((s.atRequest h.sess).readRun s.env hkNowRow el n false true codes).1,
      ((s.atRequest h.sess).readRun s.env hkNowRow el n false true codes).2) = _
    rw [← hd, hrun]
    rfl
  refine leads_request (m := readMsg h O.HK_NOW el n) w rfl hs (.inr (by decide : (1 : Nat) ≠ 2)) hop ?_ ?_ fun t ht => ⟨fun k hk => ?_, ht.answered ?_⟩
  · rw [hcalm.settle, hd, State.jq_atRequest]
    exact hq.1
  · rw [hcalm.rstDue, hd, State.pwr_atRequest]
    exact hq.2.1
  · rw [ht.o (by decide) (by omega), (hvalues k hk).2]
    rfl
  · rw [hses, hd, State.ses_atRequest, hs.2.1]
    exact Nat.lt_trans hs.1 (by decide)

end

/-- Settles O46. -/
theorem conversions : Obligations.Conversions := by
  refine ⟨fun s h hq => ⟨fun w hw hruns hdue hu ha hfree h0 h1 => hkRepeatStart_starts hq hw hruns hdue hu ha hfree h0 h1,
      fun adc c cv x h0 h1 hadc hcv hi hx => hkConversionDone_ends hq hadc h0 h1 hcv hi hx,
      fun c cv hcv hdie hlate h1 hu hstart hsoon => hkConversionDone_waits hq hcv hdie hlate h1 hu hstart hsoon,
      hkRunStop_stops hq, hkRunStart_starts hq⟩,
    fun s h hq => ⟨fun sensor hs halive hu hms hround h0 h1 => ?_, hmVhvCheck_asks hq, fun el n codes hs h1 hel hlen hc =>
      hkNow_answers hq hs h1 hel hlen hc⟩⟩
  have hd : s.RoundDue sensor := ⟨hs, halive, hu, hms, hround, h0, h1⟩
  exact ⟨thermalRound_idle hq hd, fun x y hx hy => ⟨fun ent rep hseq => thermalRound_interrupts hq hd hx hy hseq, thermalRound_waits hq hd hx hy⟩⟩

end Sys2Proof.Machine
end

section
/-! PROOF. The bytes of GDDR7 after writes and zeroing, and the Tapestry pool (chapters 13 and 15). -/

namespace Sys2Proof.Machine

/-! ### Bytes outside and inside what is written -/

/-- A piece that leaves an address out does not cover it. -/
theorem find_piece_none {c : Prop} [Decidable c] {x y n a : Nat} (h : c → ¬ (x ≤ a ∧ a < y)) :
    (if c then [(x, y, n)] else []).find? (fun p => p.1 ≤ a && a < p.2.1) = none := by
  split
  next hc => exact List.find?_cons_of_neg (by simpa using h hc)
  · rfl

/-- What covers an address still covers it, with the same stamp, after a range that leaves it out is cut. -/
theorem find_cutOut {l : List (Nat × Nat × Nat)} {lo hi a : Nat} (h : a < lo ∨ hi ≤ a) :
    ((cutOut l lo hi).find? (fun p => p.1 ≤ a && a < p.2.1)).map (·.2.2) = (l.find? (fun p => p.1 ≤ a && a < p.2.1)).map (·.2.2) := by
  induction l with
  | nil => rfl
  | cons p l ih =>
    obtain ⟨x, y, n⟩ := p
    have hcons : cutOut ((x, y, n) :: l) lo hi = ((if x < min y lo then [(x, min y lo, n)] else []) ++
        (if max x hi < y then [(max x hi, y, n)] else [])) ++ cutOut l lo hi := rfl
    rw [hcons, List.find?_append, List.find?_append]
    by_cases hin : x ≤ a ∧ a < y
    · have hp : (decide (x ≤ a) && decide (a < y)) = true := by simp [hin]
      rw [List.find?_cons_of_pos (by exact hp)]
      rcases h with hlo | hhi
      · rw [if_pos (by omega), List.find?_cons_of_pos (by simp; omega)]
        rfl
      · by_cases h1 : x < min y lo ∧ a < min y lo
        · rw [if_pos h1.1, List.find?_cons_of_pos (by simp; omega)]
          rfl
        · rw [find_piece_none (fun hx => by omega), if_pos (by omega), List.find?_cons_of_pos (by simp; omega)]
          rfl
    · have hp : ¬ (decide (x ≤ a) && decide (a < y)) = true := by simp; omega
      rw [List.find?_cons_of_neg (by exact hp), find_piece_none (fun hx => by omega), find_piece_none (fun hx => by omega)]
      exact ih

section
variable {d d' : Dev}

theorem Dev.gByte_stamp (d : Dev) (a : Nat) : d.gByte a =
    match (d.mem.undef.find? (fun p => p.1 ≤ a && a < p.2.1)).map (·.2.2) with
    | some n => if n < tget 0 d.mem.filled (d.chanOf a) then tget 0 d.gddr a else Config.undefByte n a
    | none => tget 0 d.gddr a := by
  unfold Dev.gByte
  cases d.mem.undef.find? (fun p => p.1 ≤ a && a < p.2.1) <;> rfl

theorem Dev.gByte_gSet_ne {a x : Nat} (b : Byte) (h : x ≠ a) : (d.gSet a b).gByte x = d.gByte x := by
  have hcut := find_cutOut (l := d.mem.undef) (lo := a) (hi := a + 1) (a := x) (by omega)
  have hbyte : tget 0 (d.gSet a b).gddr x = tget 0 d.gddr x := tget_tset_ne _ _ _ _ h
  rw [Dev.gByte_stamp, Dev.gByte_stamp, hbyte]
  show (match (List.find? _ (cutOut d.mem.undef a (a + 1))).map _ with
    | some n => if n < tget 0 d.mem.filled (d.chanOf x) then _ else _
    | none => _) = _
  rw [hcut]

theorem Dev.gByte_gZero_out {a n x : Nat} (h : x < a ∨ a + n ≤ x) : (d.gZero a n).gByte x = d.gByte x := by
  have hcut := find_cutOut (l := d.mem.undef) (lo := a) (hi := a + n) (a := x) h
  have hbyte : tget 0 (d.gZero a n).gddr x = tget 0 d.gddr x := tget_tdrop_out _ _ h
  rw [Dev.gByte_stamp, Dev.gByte_stamp, hbyte]
  show (match (List.find? _ (cutOut d.mem.undef a (a + n))).map _ with
    | some n => if n < tget 0 d.mem.filled (d.chanOf x) then _ else _
    | none => _) = _
  rw [hcut]

/-- Channels and their states stay over traffic of GDDR7. -/
theorem Dev.Traffic.chOffline (h : Dev.Traffic d d') (a : Nat) : d'.chOffline (d'.chanOf a) = d.chOffline (d.chanOf a) := by
  have hch : d'.chanOf a = d.chanOf a := by
    unfold Dev.chanOf Dev.found
    rw [h.o (by decide) (by decide)]
  unfold Dev.chOffline
  rw [hch, h.o (Dev.chanOf_lt_elements ..) (by decide)]

/-- The bytes that a write leaves: an OFFLINE channel discards its own (R789). -/
theorem Dev.gByte_gWrite (d : Dev) (a : Nat) (bs : Bytes) (x : Nat) : (d.gWrite a bs).gByte x =
    if a ≤ x ∧ x < a + bs.length ∧ d.chOffline (d.chanOf x) = false then bs.getD (x - a) 0 else d.gByte x := by
  induction bs generalizing a with
  | nil => exact (if_neg (by simp only [List.length_nil]; omega)).symm
  | cons b bs ih =>
    have hoff : (d.gWrite (a + 1) bs).chOffline ((d.gWrite (a + 1) bs).chanOf a) = d.chOffline (d.chanOf a) :=
      (Dev.traffic_gWrite d (a + 1) bs).chOffline a
    have hrun : d.gWrite a (b :: bs) = if d.chOffline (d.chanOf a) then d.gWrite (a + 1) bs else (d.gWrite (a + 1) bs).gSet a b := by
      rw [← hoff]
      rfl
    rw [hrun, List.length_cons]
    by_cases hx : x = a
    · subst hx
      cases hc : d.chOffline (d.chanOf x)
      · rw [if_neg (by decide), Dev.gByte_gSet, if_pos (by simp), Nat.sub_self]
        rfl
      · rw [if_pos rfl, ih, if_neg (by omega), if_neg (by simp)]
    · have hstep : (if d.chOffline (d.chanOf a) then d.gWrite (a + 1) bs else (d.gWrite (a + 1) bs).gSet a b).gByte x =
          (d.gWrite (a + 1) bs).gByte x := by
        split
        · rfl
        · exact Dev.gByte_gSet_ne b hx
      rw [hstep, ih]
      by_cases hin : a + 1 ≤ x ∧ x < a + 1 + bs.length ∧ d.chOffline (d.chanOf x) = false
      · obtain ⟨k, rfl⟩ : ∃ k, x = a + 1 + k := ⟨x - (a + 1), by omega⟩
        rw [if_pos hin, if_pos ⟨by omega, by omega, hin.2.2⟩, show a + 1 + k - (a + 1) = k by omega, show a + 1 + k - a = k + 1 by omega]
        rfl
      · rw [if_neg hin, if_neg fun h => hin ⟨by omega, by omega, h.2.2⟩]

theorem Dev.gByte_wrCount (d : Dev) (a n b x : Nat) : (d.wrCount a n b).gByte x = d.gByte x := by
  have ht := Dev.traffic_wrCount d a n b
  refine Dev.gByte_congr (Dev.gddr_wrCount ..) (Dev.counted_wrCount ..).2 ?_ (ht.o (by decide) (by decide)) x
  rw [ht.rest]

/-- What a requester's write leaves of every byte. -/
theorem Dev.gByte_memWr {e : Env} (d : Dev) (req : Nat) {a : Nat} {bs : Bytes} (hcap : a + bs.length ≤ d.capacity) (x : Nat) :
    (d.memWr e req a bs).gByte x =
      if a ≤ x ∧ x < a + bs.length ∧ d.chOffline (d.chanOf x) = false then bs.getD (x - a) 0 else d.gByte x := by
  have hcount : ∀ (l : List Nat) (d : Dev), (l.foldl (fun d b => d.wrCount a bs.length b) d).gByte x = d.gByte x := fun l d =>
    List.foldlRecOn l _ (motive := fun y : Dev => y.gByte x = d.gByte x) rfl fun y hy b _ => (Dev.gByte_wrCount ..).trans hy
  have hrun : (d.memWr e req a bs).gByte x = ((blocksOf a bs.length).foldl (fun d b => d.wrCount a bs.length b) (d.gWrite a bs)).gByte x := by
    unfold Dev.memWr
    rw [if_neg (Nat.not_lt.2 hcap)]
    rfl
  rw [hrun, hcount, Dev.gByte_gWrite]

theorem Dev.gByte_zeroBlock {a n blk x : Nat} (h : ¬ (a ≤ x ∧ x < a + n ∧ d.chOffline (d.chanOf x) = false)) :
    (d.zeroBlock a n blk).gByte x = d.gByte x := by
  unfold Dev.zeroBlock
  dsimp only
  rw [Dev.gByte_wrCount]
  split
  · rfl
  next hoff =>
    by_cases hb : x / 256 = blk ∧ a ≤ x ∧ x < a + n
    · have hch : d.chanOf (256 * blk) = d.chanOf x := by
        rw [← hb.1]
        unfold Dev.chanOf bits
        split
        · simp only [Nat.shiftRight_eq_div_pow]; omega
        · simp only [Nat.shiftRight_eq_div_pow]; omega
      rw [hch] at hoff
      exact absurd ⟨hb.2.1, hb.2.2, Bool.eq_false_iff.2 hoff⟩ h
    · exact Dev.gByte_gZero_out (by omega)

/-- What zeroing leaves of a byte that it does not reach. -/
theorem Dev.gByte_memZero_out {a n x : Nat} (h : ¬ (a ≤ x ∧ x < a + n ∧ d.chOffline (d.chanOf x) = false)) :
    (d.memZero a n).gByte x = d.gByte x := by
  refine (List.foldlRecOn (blocksOf a n) (fun d b => d.zeroBlock a n b)
    (motive := fun y : Dev => y.gByte x = d.gByte x ∧ y.chOffline (y.chanOf x) = d.chOffline (d.chanOf x)) ⟨rfl, rfl⟩ fun y hy b _ => ?_).1
  obtain ⟨hbyte, hoff⟩ := hy
  exact ⟨(Dev.gByte_zeroBlock (by rw [hoff]; exact h)).trans hbyte, ((Dev.counted_zeroBlock ..).chOffline x).trans hoff⟩

end

/-! ### Host writes (R645, R646) -/

section
variable {s : State} {h : Hdr}

/-- The row of TAP_HOST_WRITE. -/
def hostWriteRow : ObjRow := ⟨O.TAP_HOST_WRITE, [(0, 0)], .dom, .wo, .now, false, 0, [], 0, 0⟩

theorem hostWrite_row {e : Env} (d : Dev) (hp : e.part.variant ≠ .jg5120) : d.domRow e O.TAP_HOST_WRITE 0 = .inr hostWriteRow := by
  have hpres : d.pres e O.TAP_HOST_WRITE 0 = .ok := by
    unfold Dev.pres
    cases hv : e.part.variant with
    | jg5120 => exact absurd hv hp
    | jg5122 => rfl
    | jg5124 => rfl
  unfold Dev.domRow Dev.presAbort
  simp only [runEls_one, List.map_cons, List.map_nil, hpres]
  rfl

theorem Dev.domDone_hostWrite {e : Env} {d : Dev} {n : Nat} {bs : Bytes} (hn : n < 4) (hfree : d.o O.LOCK_OWNER = 0xFF)
    (hcommit : d.commit = none) (hok : d.hostWriteOk bs = true) : d.domDone e n hostWriteRow 0 bs = (okAns e.now [], d.hostWrite e bs) := by
  obtain ⟨hstg, hcom⟩ := Dev.domDone_free (idx := O.TAP_HOST_WRITE) (el := 0) hn hfree hcommit
  have hab : d.domAbort e O.TAP_HOST_WRITE bs = none := by
    unfold Dev.domAbort
    simp only [hok, if_true]
    rfl
  unfold Dev.domDone hostWriteRow
  simp only [hab, hstg, hcom]
  rfl

theorem Dev.hostWriteOk_congr {d d' : Dev} (ho : ∀ i el, d'.o i el = d.o i el) (bs : Bytes) : d'.hostWriteOk bs = d.hostWriteOk bs := by
  unfold Dev.hostWriteOk Dev.inPool Dev.poolBytes
  rw [ho]

theorem tapHostWrite_writes {bs : Bytes} (hq : s.Quiet) (hs : Served s h O.TAP_HOST_WRITE) (hfree : s.dev.o O.LOCK_OWNER = 0xFF)
    (hcommit : s.dev.commit = none) (hp : s.part.variant ≠ .jg5120) (hfound : s.dev.found ≠ 0) (hlo : 20 ≤ bs.length) (hhi : bs.length ≤ 512)
    (hok : s.dev.hostWriteOk bs = true)
    (hcap : s.dev.bufAddr (fieldAt bs 0 4) (fieldAt bs 4 4) + (bs.length - 16) ≤ s.dev.capacity) :
    Leads (.tapHostWrite h 0 (leBytes 4 bs.length ++ bs ++ leBytes 4 (crc32 bs))) s (fun t =>
      ∀ i, i < bs.length - 16 →
        s.dev.chOffline (s.dev.chanOf (s.dev.bufAddr (fieldAt bs 0 4) (fieldAt bs 4 4) + i)) = false →
        t.dev.gByte (s.dev.bufAddr (fieldAt bs 0 4) (fieldAt bs 4 4) + i) = bs.getD (16 + i) 0) := by
  obtain ⟨a, ha⟩ : ∃ a, a = s.dev.bufAddr (fieldAt bs 0 4) (fieldAt bs 4 4) := ⟨_, rfl⟩
  obtain ⟨d, hd⟩ : ∃ d, d = s.blockDone h.sess := ⟨_, rfl⟩
  have ho : ∀ i el, d.o i el = s.dev.o i el := fun i el => by rw [hd, State.o_blockDone]
  have haddr : d.bufAddr (fieldAt bs 0 4) (fieldAt bs 4 4) = a := by
    rw [ha]
    unfold Dev.bufAddr
    rw [ho]
  have hcap' : a + (bs.drop 16).length ≤ d.capacity := by
    rw [List.length_drop, ha]
    unfold Dev.capacity
    rw [ho]
    exact hcap
  have hrun : d.hostWrite s.env bs = d.memWr s.env 11 a (bs.drop 16) := by
    rw [← haddr]
    rfl
  have hdone := Dev.domDone_hostWrite (e := s.env) (n := h.sess) (d := d) hs.1 ((ho ..).trans hfree)
    (by rw [hd, State.commit_blockDone]; exact hcommit) ((Dev.hostWriteOk_congr ho bs).trans hok)
  rw [hrun] at hdone
  have hbytes : ∀ i, i < bs.length - 16 → s.dev.chOffline (s.dev.chanOf (a + i)) = false →
      (d.memWr s.env 11 a (bs.drop 16)).gByte (a + i) = bs.getD (16 + i) 0 := fun i hi hoff => by
    have hoff' : d.chOffline (d.chanOf (a + i)) = false := by
      unfold Dev.chOffline Dev.chanOf Dev.found at hoff ⊢
      rw [ho, ho]
      exact hoff
    rw [Dev.gByte_memWr d 11 hcap', if_pos ⟨by omega, by rw [List.length_drop]; omega, hoff'⟩, Nat.add_sub_cancel_left, List.getD_eq_getElem?_getD,
      List.getD_eq_getElem?_getD, List.getElem?_drop]
  obtain ⟨w, hw⟩ : ∃ w, w = d.memWr s.env 11 a (bs.drop 16) := ⟨_, rfl⟩
  have htraffic : Dev.Traffic d w := hw ▸ Dev.traffic_memWr s.env d 11 a (bs.drop 16)
  rw [← hw] at hdone hbytes
  rw [hd] at hdone htraffic
  have hab : ((s.atRequest h.sess).bwFresh s.env h.sess).blockAbort hostWriteRow.idx 0 bs = none := by
    have hf : ((s.atRequest h.sess).bwFresh s.env h.sess).found = s.dev.found := (Dev.o_bwFresh ..).trans (State.o_atRequest ..)
    unfold Dev.blockAbort
    rw [hf, beq_eq_false_iff_ne.2 hfound, Bool.and_false]
    rfl
  have hlenOk : domLenOk ((s.atRequest h.sess).bwFresh s.env h.sess) O.TAP_HOST_WRITE bs.length = true := by
    show (decide (20 ≤ bs.length) && decide (bs.length ≤ 65552)) = true
    simp only [Bool.and_eq_true, decide_eq_true_eq]
    omega
  rw [← ha]
  refine leads_writeBlock (bs := bs) w rfl hs hfree (hostWrite_row _ hp) (by decide) (fun hn => absurd hn (by decide)) hhi hlenOk hab hdone
    (htraffic.calm.settle.trans ?_) (htraffic.calm.rstDue.trans ?_) fun t ht _ i hi hoff => ?_
  · rw [State.jq_blockDone]; exact hq.1
  · rw [State.pwr_blockDone]; exact hq.2.1
  · rw [Dev.gByte_congr ht.gddr (by rw [ht.mem]) (by rw [ht.mem]) (ht.o (by decide) (by decide)), hbytes i hi hoff]

/-! ### Fills (R647) -/

theorem Dev.landEl_tapFill (e : Env) (d : Dev) (ss el v : Nat) : d.landEl e ss O.TAP_FILL el v = d.fillStart v := rfl

theorem tapFill_starts {el v : Nat} (hq : s.Quiet) (ha : Accepts s h O.TAP_FILL el v) :
    Leads (.tapFill h el v) s (fun t => t.dev.o O.TAP_FILL_BUSY = 1 ∧ t.dev.tap.fill = some (v / 2 ^ 32, v % 2 ^ 32)) := by
  refine leads_lands _ hq ha rfl (by decide) (Dev.landEl_tapFill ..) ⟨rfl, rfl⟩ fun t ht => ⟨?_, ?_⟩
  · rw [ht.o (by decide) (by decide)]
    exact Dev.o_so_self (s.asked h O.TAP_FILL el) O.TAP_FILL_BUSY 0 1
  · rw [ht.tap]
    rfl

theorem Dev.gByte_filled (w : Dev) (x : Tap) (a : Nat) : ({ w.so O.TAP_FILL_BUSY 0 0 with tap := x } : Dev).gByte a = w.gByte a := by
  have hfit : (w.so O.TAP_FILL_BUSY 0 0).o O.CAP_GDDR7_FOUND = w.o O.CAP_GDDR7_FOUND := Dev.o_so_other (by decide) (by decide) (by decide)
  exact Dev.gByte_congr (d := w) (d' := { w.so O.TAP_FILL_BUSY 0 0 with tap := x }) rfl rfl rfl hfit a

theorem tapFillDone_zeroes {b n : Nat} (hq : s.Quiet) (hf : s.dev.tap.fill = some (b, n)) :
    Leads .tapFillDone s (fun t => t.dev.o O.TAP_FILL_BUSY = 0 ∧ t.dev.tap.fill = none ∧
      ∀ a, if s.dev.bufAddr b 256 ≤ a ∧ a < s.dev.bufAddr b 256 + n ∧ s.dev.chOffline (s.dev.chanOf a) = false
        then t.dev.gByte a = 0 else t.dev.gByte a = s.dev.gByte a) := by
  obtain ⟨w, hw⟩ : ∃ w, w = s.begun.memZero (s.dev.bufAddr b 256) n := ⟨_, rfl⟩
  have hcount : Dev.Counted s.begun w := hw ▸ Dev.counted_memZero ..
  have hrun : s.begun.tapFillDone = { w.so O.TAP_FILL_BUSY 0 0 with tap := { s.begun.tap with fill := none } } := by
    rw [hw]
    unfold Dev.tapFillDone
    rw [show s.begun.tap.fill = some (b, n) from hf]
    rfl
  refine leads_calm (f := fun _ d => d.tapFillDone) _ hq rfl hrun ⟨(Dev.Calm.of_same hcount.same).settle, (Dev.Calm.of_same hcount.same).rstDue⟩ fun t ht => ⟨?_, ?_, fun a => ?_⟩
  · rw [ht.o]
    exact Dev.o_so_self w O.TAP_FILL_BUSY 0 0
  · rw [ht.tap]
  · have hbyte : t.dev.gByte a = w.gByte a :=
      (Dev.gByte_congr ht.gddr (congrArg (·.undef) ht.mem) (congrArg (·.filled) ht.mem) (ht.o ..) a).trans (Dev.gByte_filled ..)
    rw [hbyte, hw]
    split
    next hin => exact (Dev.blank_memZero (d := s.begun) hin.1 hin.2.1 hin.2.2).gByte
    next hout => exact Dev.gByte_memZero_out hout

end

/-- Settles O38. -/
theorem tapestryPoolWrites : Obligations.TapestryPoolWrites :=
  fun _ _ hq => ⟨fun _ hs hfree hcommit hp hfound hlo hhi hok hcap => tapHostWrite_writes hq hs hfree hcommit hp hfound hlo hhi hok hcap,
    fun _ _ ha => tapFill_starts hq ha, fun _ _ hf => tapFillDone_zeroes hq hf⟩

end Sys2Proof.Machine
end

section
/-! PROOF. Training of GDDR7, its warm start, and MEM_PEEK (chapters 15 and 17). -/

namespace Sys2Proof.Machine

/-! ### What comes after a fit -/

/-- The objects that change after a fit has come into force. -/
def fittedIdx : List Nat :=
  [O.RL_STATE, O.FLT_LOST, O.FLT_MIRROR_STATE, O.FLT_NEWEST_SEQ, O.FLT_ACKED_SEQ, O.FW_SLOT_SEQ, O.FW_SLOT_VERSION, O.SU_PHASE_US,
   O.SU_STATE] ++ trafficIdx

/-- A step that leaves the fit, the training and an empty poison table. -/
structure Dev.AfterFit (d d' : Dev) : Prop where
  frame : Dev.Frame fittedIdx d d'
  trainAt : d'.mem.trainAt = d.mem.trainAt
  poison : d.mem.poison = [] → d'.mem.poison = []
  calm : Dev.Calm d d'

namespace Dev.AfterFit
variable {e : Env} {d d' d'' : Dev}

theorem refl (d : Dev) : AfterFit d d := ⟨.refl _ d, rfl, id, .refl d⟩

theorem trans (h : AfterFit d d') (k : AfterFit d' d'') : AfterFit d d'' :=
  ⟨h.frame.trans k.frame, k.trainAt.trans h.trainAt, fun x => k.poison (h.poison x), h.calm.trans k.calm⟩

theorem ite {p : Prop} [Decidable p] {a b : Dev} (ha : AfterFit d a) (hb : AfterFit d b) : AfterFit d (if p then a else b) := by
  split
  · exact ha
  · exact hb

theorem foldl {α : Type} {f : Dev → α → Dev} {xs : List α} (h : ∀ d, ∀ x ∈ xs, AfterFit d (f d x)) (d : Dev) : AfterFit d (xs.foldl f d) :=
  List.foldlRecOn xs f (motive := AfterFit d) (refl d) fun x hx a ha => hx.trans (h x a ha)

/-- A step beside memory. -/
theorem of_mem (hf : Dev.Frame fittedIdx d d') (hm : d'.mem = d.mem) (hc : Dev.Calm d d') : AfterFit d d' :=
  ⟨hf, by rw [hm], fun h => by rw [hm]; exact h, hc⟩

theorem so {i el v : Nat} (hel : el < 4096) (hi : i ∈ fittedIdx) : AfterFit d (d.so i el v) := of_mem (.so hel hi) rfl (.so ..)

theorem inc {i el n : Nat} (hel : el < 4096) (hi : i ∈ fittedIdx) : AfterFit d (d.inc i el n) := so hel hi

theorem log {code loc cls : Nat} : AfterFit d (d.log e code loc cls) := of_mem (.log (by decide)) (by rw [Dev.mem_log]) (.log d)

theorem of_traffic (h : Dev.Traffic d d') (hp : d.mem.poison = [] → d'.mem.poison = []) : AfterFit d d' :=
  ⟨h.frame.mono fun _ hi => List.mem_append_right _ hi, by rw [h.rest], hp, h.calm⟩

end Dev.AfterFit

section
variable {e : Env} {d : Dev}

theorem Dev.poison_wrCount {a n b : Nat} (h : d.mem.poison = []) : (d.wrCount a n b).mem.poison = [] := by
  unfold Dev.wrCount
  dsimp only
  split
  next hc =>
    rw [Bool.and_eq_true] at hc
    have hmem := hc.2
    rw [show ((d.inc O.MEM_CH_WR_BYTES (d.chanOf (b * 256)) (atomBytes a n b)).inc O.MEM_CH_RMW (d.chanOf (b * 256))
      (partAtoms a n b)).mem.poison = [] from h] at hmem
    exact absurd hmem (by simp)
  · exact h

theorem Dev.mem_memLog (e : Env) (d : Dev) (k a r n : Nat) : (d.memLog e k a r n).mem = d.mem := by
  unfold Dev.memLog
  dsimp only
  rw [Dev.setDom_eq]
  rfl

theorem Dev.poison_gWrite (d : Dev) (a : Nat) (bs : Bytes) : (d.gWrite a bs).mem.poison = d.mem.poison := by
  induction bs generalizing a with
  | nil => rfl
  | cons b bs ih =>
    unfold Dev.gWrite
    dsimp only
    split
    · exact ih _
    · exact ih _

theorem Dev.poison_memWr {r a : Nat} {bs : Bytes} (h : d.mem.poison = []) : (d.memWr e r a bs).mem.poison = [] := by
  unfold Dev.memWr
  split
  · rw [Dev.mem_memLog]
    exact h
  · exact List.foldlRecOn (blocksOf a bs.length) _ (motive := fun x : Dev => x.mem.poison = []) ((Dev.poison_gWrite ..).trans h)
      fun x hx b _ => Dev.poison_wrCount hx

theorem Dev.mem_rdCount (d : Dev) (a n b : Nat) : (d.rdCount a n b).mem = d.mem := by
  unfold Dev.rdCount
  dsimp only
  split
  · rfl
  · rfl

theorem Dev.poison_memRd (e : Env) (d : Dev) (r a n : Nat) : (d.memRd e r a n).2.mem.poison = d.mem.poison := by
  unfold Dev.memRd
  split
  · exact congrArg Mem.poison (Dev.mem_memLog ..)
  · exact List.foldlRecOn (blocksOf a n) _ (motive := fun x : Dev => x.mem.poison = d.mem.poison) rfl
      fun x hx b _ => (congrArg Mem.poison (Dev.mem_rdCount ..)).trans hx

theorem Dev.afterFit_mirror (e : Env) (d : Dev) : Dev.AfterFit d (d.mirror e) :=
  .ite (.refl d) (.of_traffic (Dev.traffic_memWr ..) Dev.poison_memWr)

theorem Dev.afterFit_ringTrained (d : Dev) : Dev.AfterFit d d.ringTrained :=
  (Dev.AfterFit.so (i := O.RL_STATE) (el := 0) (v := 1) (by decide) (by decide)).trans (.of_mem (.of_objs rfl) rfl ⟨rfl, rfl⟩)

theorem Dev.afterFit_poolClear (d : Dev) : Dev.AfterFit d d.poolClear := by
  have hzero : ∀ a n, Dev.AfterFit d (d.gZero a n) := fun a n => ⟨.of_objs rfl, rfl, id, ⟨rfl, rfl⟩⟩
  refine (hzero ..).trans (.foldl (fun d c hc => .inc ?_ (by decide)) _)
  have hlt := List.mem_range.1 hc
  split at hlt
  · omega
  · omega

theorem Dev.afterFit_readHeaders (d : Dev) : Dev.AfterFit d d.readHeaders := by
  refine .foldl (fun d s hs => ?_) d
  have hlt : s < 4096 := by
    have := List.mem_range.1 hs
    omega
  have htwo : ∀ a b, Dev.AfterFit d (d.sos [(O.FW_SLOT_SEQ, s, a), (O.FW_SLOT_VERSION, s, b)]) := fun a b =>
    (Dev.AfterFit.so (i := O.FW_SLOT_SEQ) hlt (by decide)).trans (.so (i := O.FW_SLOT_VERSION) hlt (by decide))
  exact .ite (htwo ..) (htwo ..)

theorem Dev.afterFit_phase (e : Env) (d : Dev) (p : Nat) : Dev.AfterFit d (d.phase e p) := by
  unfold Dev.phase
  extract_lets s d1 d2 p2
  have h1 : Dev.AfterFit d d1 := by
    unfold d1
    split
    next hs => exact .so (by omega) (by decide)
    · exact .refl d
  have h2 : Dev.AfterFit d1 d2 := .so (by decide) (by decide)
  exact (h1.trans h2).trans (.of_mem (.of_objs rfl) rfl ⟨rfl, rfl⟩)

theorem Dev.afterFit_deliver (d : Dev) (en : Entry) : Dev.AfterFit d (d.deliver en) := by
  unfold Dev.deliver
  exact .ite (.inc (by decide) (by decide)) (.of_mem (.of_objs rfl) rfl ⟨rfl, rfl⟩)

theorem Dev.afterFit_mirrorRestore (e : Env) (d : Dev) : Dev.AfterFit d (d.mirrorRestore e) := by
  unfold Dev.mirrorRestore
  extract_lets r bad
  have hr : Dev.AfterFit d r.2 := .of_traffic (Dev.traffic_memRd ..) fun h => (Dev.poison_memRd ..).trans h
  have hbad : Dev.AfterFit d bad := (hr.trans (.so (i := O.FLT_MIRROR_STATE) (by decide) (by decide))).trans .log
  split
  · exact hbad
  · refine .ite ?_ hbad
    have hdom : ∀ bs, Dev.AfterFit r.2 (r.2.setDom O.FLT_LOG 0 0 bs) := fun bs =>
      .of_mem (Dev.frame_setDom ..) (by rw [Dev.setDom_eq]) (Dev.calm_setDom ..)
    have hfour : ∀ (d : Dev) a b c v, Dev.AfterFit d
        (d.sos [(O.FLT_NEWEST_SEQ, 0, a), (O.FLT_ACKED_SEQ, 0, b), (O.FLT_LOST, 0, c), (O.FLT_MIRROR_STATE, 0, v)]) := fun d a b c v =>
      ((Dev.AfterFit.so (i := O.FLT_NEWEST_SEQ) (el := 0) (by decide) (by decide)).trans
        (.so (i := O.FLT_ACKED_SEQ) (el := 0) (by decide) (by decide))).trans
        ((Dev.AfterFit.so (i := O.FLT_LOST) (el := 0) (by decide) (by decide)).trans (.so (i := O.FLT_MIRROR_STATE) (el := 0) (by decide) (by decide)))
    extract_lets d1 newest acked seqs
    have h1 : Dev.AfterFit d d1 := (hr.trans (hdom _)).trans (hfour ..)
    exact h1.trans (.of_mem (.of_objs rfl) rfl ⟨rfl, rfl⟩)

end

/-! ### A fit comes into force (R759, R760, R771) -/

/-- The channels of a fit of `n` devices (R763). -/
def Dev.chansSet (d : Dev) (n : Nat) : Dev := (List.range 8).foldl (fun d c => d.so O.MEM_CH_STATE c (if c < 4 * n then 1 else 0)) d

/-- What a fit leaves. -/
structure Dev.Fits (e : Env) (n : Nat) (d : Dev) : Prop where
  found : d.found = n
  state : d.o O.MEM_STATE = 2
  capacity : d.capacity = capacityOf n e.part.density
  trainAt : d.mem.trainAt = none
  chans : ∀ c, c < 8 → d.o O.MEM_CH_STATE c = if c < 4 * n then 1 else 0
  poison : d.mem.poison = []

section
variable {e : Env} {d d' : Dev} {n : Nat}

theorem Dev.Fits.after (h : Dev.Fits e n d) (k : Dev.AfterFit d d') : Dev.Fits e n d' :=
  ⟨(k.frame.o (by decide) (by decide)).trans h.found, (k.frame.o (by decide) (by decide)).trans h.state,
    (k.frame.o (by decide) (by decide)).trans h.capacity, k.trainAt.trans h.trainAt,
    fun c hc => (k.frame.o (by omega) (by decide)).trans (h.chans c hc), k.poison h.poison⟩

theorem Dev.chansSet_spec (d : Dev) (n : Nat) : Dev.Frame [O.MEM_CH_STATE] d (d.chansSet n) ∧
    (∀ c, c < 8 → (d.chansSet n).o O.MEM_CH_STATE c = if c < 4 * n then 1 else 0) ∧ d.chansSet n = { d with objs := (d.chansSet n).objs } := by
  refine ⟨.foldl (fun d c hc => .so ?_ (by decide)) d, fun c hc => ?_, ?_⟩
  · have := List.mem_range.1 hc
    omega
  · refine foldl_visits (P := fun x : Dev => x.o O.MEM_CH_STATE c = if c < 4 * n then 1 else 0) (List.mem_range.2 hc)
      (fun x => Dev.o_so_self ..) (fun x k hk hx => ?_) d
    by_cases hkc : c = k
    · subst hkc
      exact Dev.o_so_self ..
    · have := List.mem_range.1 hk
      rw [Dev.o_so_ne (by omega) (by omega) (.inr hkc)]
      exact hx
  · exact List.foldlRecOn (List.range 8) _ (motive := fun x : Dev => x = { d with objs := x.objs }) rfl fun x hx c _ => by rw [hx]; rfl

/-- The objects of a fit of `n` devices of a density with a capacity (R771). -/
def Dev.fitObjs (d : Dev) (n density cap : Nat) : Dev :=
  d.sos [(O.CAP_GDDR7_FOUND, 0, n), (O.MEM_DENSITY, 0, density), (O.MEM_CAPACITY, 0, cap), (O.MEM_STATE, 0, 2),
    (O.TAP_POOL_HANDLES, 0, poolSize n cap / 4096)]

theorem Dev.fitObjs_spec {density cap : Nat} : (d.fitObjs n density cap).o O.CAP_GDDR7_FOUND = n ∧ (d.fitObjs n density cap).o O.MEM_STATE = 2 ∧
    (d.fitObjs n density cap).o O.MEM_CAPACITY = cap := by
  have hrun : d.fitObjs n density cap = ((((d.so O.CAP_GDDR7_FOUND 0 n).so O.MEM_DENSITY 0 density).so O.MEM_CAPACITY 0 cap).so O.MEM_STATE 0 2).so
      O.TAP_POOL_HANDLES 0 (poolSize n cap / 4096) := rfl
  rw [hrun]
  refine ⟨?_, ?_, ?_⟩
  · rw [Dev.o_so_other (by decide) (by decide) (by decide), Dev.o_so_other (by decide) (by decide) (by decide),
      Dev.o_so_other (by decide) (by decide) (by decide), Dev.o_so_other (by decide) (by decide) (by decide), Dev.o_so_self]
  · rw [Dev.o_so_other (by decide) (by decide) (by decide), Dev.o_so_self]
  · rw [Dev.o_so_other (by decide) (by decide) (by decide), Dev.o_so_other (by decide) (by decide) (by decide), Dev.o_so_self]

theorem Dev.fitSet_fits (e : Env) (d : Dev) (n : Nat) : Dev.Fits e n (d.fitSet e n) ∧ (d.fitSet e n).flt = d.flt ∧ Dev.Calm d (d.fitSet e n) := by
  obtain ⟨w, hw⟩ : ∃ w, w = d.fitObjs n e.part.density (capacityOf n e.part.density) := ⟨_, rfl⟩
  obtain ⟨x, hx⟩ : ∃ x, x = w.chansSet n := ⟨_, rfl⟩
  obtain ⟨hframe, hchans, hrest⟩ := Dev.chansSet_spec w n
  rw [← hx] at hframe hchans hrest
  obtain ⟨y, hy⟩ : ∃ y, y = if n == 1 then x.domOff 81 else x := ⟨_, rfl⟩
  have hyx : Dev.Frame [O.PWR_DOM_STATE] x y := by
    rw [hy]
    exact .ite (.so (by decide) (by decide)) (.refl _ x)
  have hyrest : y = { d with objs := y.objs } := by
    rw [hy]
    have hd : w = { d with objs := w.objs } := by rw [hw]; rfl
    split
    · show { x with objs := _ } = _
      rw [hrest, hd]
      rfl
    · rw [hrest, hd]
  have hrun : d.fitSet e n = { y with mem := { y.mem.clearQueues with trainAt := none, trained := some (n, e.part.density), poison := [] } } := by
    rw [hy, hx, hw]
    rfl
  have ho : ∀ {i}, i ∉ [O.MEM_CH_STATE, O.PWR_DOM_STATE] → y.o i = w.o i := fun {i} hi => by
    rw [hyx.o (by decide) fun h => hi (List.mem_cons_of_mem _ h), hframe.o (by decide) fun h => hi (List.mem_cons.2 (.inl (List.mem_singleton.1 h)))]
  rw [hrun]
  refine ⟨⟨?_, ?_, ?_, rfl, fun c hc => ?_, rfl⟩, ?_, ?_⟩
  · show y.o O.CAP_GDDR7_FOUND = n
    rw [ho (by decide), hw, Dev.fitObjs_spec.1]
  · show y.o O.MEM_STATE = 2
    rw [ho (by decide), hw, Dev.fitObjs_spec.2.1]
  · show y.o O.MEM_CAPACITY = _
    rw [ho (by decide), hw, Dev.fitObjs_spec.2.2]
  · show y.o O.MEM_CH_STATE c = _
    rw [hyx.o (by omega) (by decide), hchans c hc]
  · show y.flt = d.flt
    rw [hyrest]
  · exact (show Dev.Calm d y by rw [hyrest]; exact ⟨rfl, rfl⟩).trans ⟨rfl, rfl⟩

end

/-! ### The end of training -/

section
variable {e : Env} {d : Dev} {ok1 : Bool}

/-- The devices that have trained, DEV_0 among them. -/
def trainedCount (e : Env) (ok1 : Bool) : Nat := if e.memMax == 2 && e.part.fitted == 2 && ok1 then 2 else 1

/-- The device as training leaves it, before its fit. -/
def Dev.trainedRaw (e : Env) (d : Dev) (ok1 : Bool) : Dev :=
  let d := if e.memMax == 2 && e.part.fitted == 2 && !ok1 then d.log e 0x0D06 (memLoc 63 63 127 6) 1 else d
  let d := { d.loseScratch with mem := { d.loseScratch.mem with rate := d.o O.MEM_PIN_RATE } }
  if d.o O.FLT_MIRROR_STATE == 0 then d.so O.FLT_MIRROR_STATE 0 1 else d

/-- The fit that the devices trained give, or the channels of the present one filled (R767). -/
def Dev.fitIn (e : Env) (d : Dev) (found : Nat) : Dev :=
  if d.o O.MEM_STATE == 4 && d.found == found then
    { ((List.range 8).foldl Dev.fillChan d).so O.MEM_STATE 0 2 with mem := { ((List.range 8).foldl Dev.fillChan d).mem with trainAt := none } }
  else (let d := (d.fitSet e found).ringTrained; if e.full then d.poolClear else d).mirror e

theorem Dev.trainDone_good {x : Nat} (h : d.mem.trainAt = some x) : d.trainDone e true ok1 = (d.trainedRaw e ok1).fitIn e (trainedCount e ok1) := by
  unfold Dev.trainDone
  rw [h]
  dsimp only
  rw [if_neg (by decide : ¬ (!true) = true)]
  unfold Dev.fitIn Dev.trainedRaw trainedCount
  dsimp only

/-- What training leaves before its fit: nothing of the fit, and what the logger had. -/
structure Dev.RawFrom (e : Env) (ok1 : Bool) (d d' : Dev) : Prop where
  frame : Dev.Frame [O.FLT_LOST, O.FLT_MIRROR_STATE] d d'
  calm : Dev.Calm d d'
  entry : e.memMax = 2 → e.part.fitted = 2 → ok1 = false → d.flt.held.length < 64 → d'.HasEntry e.now 0x0D06 1

theorem Dev.rawFrom_trainedRaw (e : Env) (d : Dev) (ok1 : Bool) : Dev.RawFrom e ok1 d (d.trainedRaw e ok1) := by
  obtain ⟨w, hw⟩ : ∃ w, w = if e.memMax == 2 && e.part.fitted == 2 && !ok1 then d.log e 0x0D06 (memLoc 63 63 127 6) 1 else d := ⟨_, rfl⟩
  obtain ⟨x, hx⟩ : ∃ x, x = { w.loseScratch with mem := { w.loseScratch.mem with rate := w.o O.MEM_PIN_RATE } } := ⟨_, rfl⟩
  have hrun : d.trainedRaw e ok1 = if x.o O.FLT_MIRROR_STATE == 0 then x.so O.FLT_MIRROR_STATE 0 1 else x := by
    rw [hx, hw]
    rfl
  have hwd : Dev.Frame [O.FLT_LOST, O.FLT_MIRROR_STATE] d w ∧ Dev.Calm d w := by
    rw [hw]
    exact ⟨.ite (.log (by decide)) (.refl _ d), .ite (.log d) (.refl d)⟩
  have hxw : Dev.Frame [O.FLT_LOST, O.FLT_MIRROR_STATE] w x ∧ Dev.Calm w x ∧ x.flt = w.flt := by
    rw [hx]
    exact ⟨.of_objs rfl, ⟨rfl, rfl⟩, rfl⟩
  rw [hrun]
  refine ⟨(hwd.1.trans hxw.1).trans (.ite (.so (by decide) (by decide)) (.refl _ x)),
    (hwd.2.trans hxw.2.1).trans (.ite (.so ..) (.refl x)), fun h2 hf hok hroom => ?_⟩
  have hwentry : w.HasEntry e.now 0x0D06 1 := by
    rw [hw, if_pos (by rw [h2, hf, hok]; rfl)]
    exact Dev.hasEntry_log hroom
  have hxentry := hwentry.of_flt hxw.2.2
  split
  · exact hxentry.of_flt rfl
  · exact hxentry

theorem Dev.flt_poolClear (d : Dev) : d.poolClear.flt = d.flt := by
  unfold Dev.poolClear
  dsimp only
  exact List.foldlRecOn _ _ (motive := fun x : Dev => x.flt = d.flt) rfl fun x hx c _ => hx

/-- Training ends in a new fit. -/
theorem Dev.trainDone_fits {x : Nat} (h : d.mem.trainAt = some x) (hnew : d.o O.MEM_STATE ≠ 4 ∨ d.found ≠ trainedCount e ok1) :
    Dev.Fits e (trainedCount e ok1) (d.trainDone e true ok1) ∧ Dev.Calm d (d.trainDone e true ok1) ∧
      (e.memMax = 2 → e.part.fitted = 2 → ok1 = false → d.flt.held.length < 64 → (d.trainDone e true ok1).HasEntry e.now 0x0D06 1) := by
  have hraw := Dev.rawFrom_trainedRaw e d ok1
  have hrun := Dev.trainDone_good (e := e) (ok1 := ok1) h
  obtain ⟨w, hw⟩ : ∃ w, w = d.trainedRaw e ok1 := ⟨_, rfl⟩
  rw [← hw] at hraw hrun
  have hno : ¬ (w.o O.MEM_STATE == 4 && w.found == trainedCount e ok1) = true := by
    rw [hraw.frame.o (by decide) (by decide), show w.found = d.found from hraw.frame.o (by decide) (by decide), Bool.and_eq_true, beq_iff_eq,
      beq_iff_eq, not_and_or]
    exact hnew
  obtain ⟨hfits, hflt, hcalm⟩ := Dev.fitSet_fits e w (trainedCount e ok1)
  obtain ⟨y, hy⟩ : ∃ y, y = (w.fitSet e (trainedCount e ok1)).ringTrained := ⟨_, rfl⟩
  have hring := Dev.afterFit_ringTrained (w.fitSet e (trainedCount e ok1))
  have hyflt : y.flt = w.flt := by rw [hy]; exact hflt
  rw [← hy] at hring
  have hpool : Dev.AfterFit y (if e.full then y.poolClear else y) := .ite (Dev.afterFit_poolClear y) (.refl y)
  have hpflt : (if e.full then y.poolClear else y).flt = y.flt := by
    split
    · exact Dev.flt_poolClear y
    · rfl
  obtain ⟨z, hz⟩ : ∃ z, z = if e.full then y.poolClear else y := ⟨_, rfl⟩
  rw [← hz] at hpool hpflt
  have hend : d.trainDone e true ok1 = z.mirror e := by
    rw [hrun, Dev.fitIn, if_neg hno, hz, hy]
  have hmirror := Dev.afterFit_mirror e z
  have hmflt : (z.mirror e).flt = z.flt := (Dev.traffic_mirror e z).flt
  rw [hend]
  exact ⟨((hfits.after hring).after hpool).after hmirror, (((hraw.calm.trans hcalm).trans hring.calm).trans hpool.calm).trans hmirror.calm,
    fun h2 hf hok hroom => (hraw.entry h2 hf hok hroom).of_flt (((hmflt.trans hpflt).trans hyflt))⟩

/-! ### A retraining of the same fit (R767) -/

theorem Dev.fillChan_spec {c k : Nat} (hc : c < 8) (hk : k < 8) : (d.fillChan c).o O.MEM_CH_STATE k =
    (if k = c ∧ d.o O.MEM_CH_STATE c = 3 then 1 else d.o O.MEM_CH_STATE k) ∧
      Dev.Frame [O.MEM_CH_STATE, O.MEM_CH_POISON_BLOCKS] d (d.fillChan c) ∧ Dev.Calm d (d.fillChan c) := by
  unfold Dev.fillChan
  split
  next hoff =>
    have h3 : d.o O.MEM_CH_STATE c = 3 := beq_iff_eq.1 hoff
    have hset : ((d.so O.MEM_CH_STATE c 1).so O.MEM_CH_POISON_BLOCKS c 0).o O.MEM_CH_STATE k = if k = c then 1 else d.o O.MEM_CH_STATE k := by
      rw [Dev.o_so_other (by decide) (by omega) (by omega)]
      by_cases hkc : k = c
      · rw [if_pos hkc, hkc, Dev.o_so_self]
      · rw [if_neg hkc, Dev.o_so_ne (by omega) (by omega) (.inr hkc)]
    refine ⟨?_, ((Dev.Frame.so (i := O.MEM_CH_STATE) (el := c) (v := 1) (by omega) (by decide)).trans
      (.so (i := O.MEM_CH_POISON_BLOCKS) (el := c) (v := 0) (by omega) (by decide))).trans (.of_objs rfl), ⟨rfl, rfl⟩⟩
    refine Eq.trans hset ?_
    simp only [h3, and_true]
  next hon =>
    have h3 : d.o O.MEM_CH_STATE c ≠ 3 := fun h => hon (beq_iff_eq.2 h)
    refine ⟨?_, .refl _ d, .refl d⟩
    rw [if_neg fun h => h3 h.2]

/-- The channels filled in order: those that were OFFLINE return to OK. -/
theorem Dev.fillChans_spec (d : Dev) {m : Nat} (hm : m ≤ 8) :
    (∀ k, k < 8 → ((List.range m).foldl Dev.fillChan d).o O.MEM_CH_STATE k =
      if k < m ∧ d.o O.MEM_CH_STATE k = 3 then 1 else d.o O.MEM_CH_STATE k) ∧
      Dev.Frame [O.MEM_CH_STATE, O.MEM_CH_POISON_BLOCKS] d ((List.range m).foldl Dev.fillChan d) ∧
      Dev.Calm d ((List.range m).foldl Dev.fillChan d) := by
  induction m with
  | zero => exact ⟨fun k _ => (if_neg fun h => absurd h.1 (Nat.not_lt_zero k)).symm, .refl _ d, .refl d⟩
  | succ m ih =>
    obtain ⟨hchans, hframe, hcalm⟩ := ih (by omega)
    rw [List.range_succ, List.foldl_concat]
    obtain ⟨w, hw⟩ : ∃ w, w = (List.range m).foldl Dev.fillChan d := ⟨_, rfl⟩
    rw [← hw] at hchans hframe hcalm ⊢
    obtain ⟨-, hf, hc⟩ := Dev.fillChan_spec (d := w) (c := m) (k := m) (by omega) (by omega)
    refine ⟨fun k hk => ?_, hframe.trans hf, hcalm.trans hc⟩
    have hw3 : w.o O.MEM_CH_STATE m = d.o O.MEM_CH_STATE m := by rw [hchans m (by omega), if_neg fun h => absurd h.1 (Nat.lt_irrefl m)]
    rw [(Dev.fillChan_spec (d := w) (c := m) (k := k) (by omega) hk).1, hw3, hchans k hk]
    by_cases hkm : k = m
    · subst hkm
      by_cases h3 : d.o O.MEM_CH_STATE k = 3
      · rw [if_pos ⟨rfl, h3⟩, if_pos ⟨by omega, h3⟩]
      · rw [if_neg fun h => h3 h.2, if_neg fun h => h3 h.2, if_neg fun h => h3 h.2]
    · rw [if_neg fun h => hkm h.1]
      by_cases h3 : k < m ∧ d.o O.MEM_CH_STATE k = 3
      · rw [if_pos h3, if_pos ⟨by omega, h3.2⟩]
      · rw [if_neg h3, if_neg fun h => h3 ⟨by omega, h.2⟩]

theorem Dev.trainDone_same {x : Nat} (h : d.mem.trainAt = some x) (hst : d.o O.MEM_STATE = 4) (hfound : d.found = trainedCount e ok1) :
    (d.trainDone e true ok1).o O.MEM_STATE = 2 ∧ (d.trainDone e true ok1).found = trainedCount e ok1 ∧
      (∀ c, c < 8 → (d.trainDone e true ok1).o O.MEM_CH_STATE c = if d.o O.MEM_CH_STATE c = 3 then 1 else d.o O.MEM_CH_STATE c) ∧
      Dev.Calm d (d.trainDone e true ok1) := by
  have hraw := Dev.rawFrom_trainedRaw e d ok1
  have hrun := Dev.trainDone_good (e := e) (ok1 := ok1) h
  obtain ⟨w, hw⟩ : ∃ w, w = d.trainedRaw e ok1 := ⟨_, rfl⟩
  rw [← hw] at hraw hrun
  have hwst : w.o O.MEM_STATE = 4 := by rw [hraw.frame.o (by decide) (by decide), hst]
  have hwf : w.found = trainedCount e ok1 := (hraw.frame.o (by decide) (by decide)).trans hfound
  obtain ⟨hchans, hframe, hcalm⟩ := Dev.fillChans_spec w (Nat.le_refl 8)
  obtain ⟨y, hy⟩ : ∃ y, y = (List.range 8).foldl Dev.fillChan w := ⟨_, rfl⟩
  rw [Dev.fitIn, if_pos (by rw [hwst, hwf, beq_self_eq_true, beq_self_eq_true]; rfl), ← hy] at hrun
  rw [← hy] at hchans hframe hcalm
  rw [hrun]
  refine ⟨Dev.o_so_self y O.MEM_STATE 0 2, ?_, fun c hc => ?_, hraw.calm.trans (hcalm.trans ⟨rfl, rfl⟩)⟩
  · show (y.so O.MEM_STATE 0 2).o O.CAP_GDDR7_FOUND = _
    rw [Dev.o_so_other (by decide) (by decide) (by decide), hframe.o (by decide) (by decide)]
    exact hwf
  · show (y.so O.MEM_STATE 0 2).o O.MEM_CH_STATE c = _
    rw [Dev.o_so_other (by decide) (by decide) (by omega), hchans c hc, hraw.frame.o (by omega) (by decide)]
    simp only [hc, true_and]

/-- Training without DEV_0. -/
theorem Dev.trainDone_fails {x : Nat} (h : d.mem.trainAt = some x) : (d.trainDone e false ok1).o O.MEM_STATE = 5 ∧
    (d.trainDone e false ok1).mem.trainAt = none ∧ (d.flt.held.length < 64 → (d.trainDone e false ok1).HasEntry e.now 0x0D10 4) ∧
      Dev.Calm d (d.trainDone e false ok1) ∧ (d.trainDone e false ok1).o O.SU_STATE = d.o O.SU_STATE := by
  obtain ⟨w, hw⟩ : ∃ w : Dev, w = { d.so O.MEM_STATE 0 5 with mem := { d.mem with trainAt := none } } := ⟨_, rfl⟩
  have hrun : d.trainDone e false ok1 = w.log e 0x0D10 (memLoc 63 63 127 63) 4 := by
    unfold Dev.trainDone
    rw [h, hw]
    rfl
  have hwo : w.o O.MEM_STATE = 5 := by rw [hw]; exact Dev.o_so_self d O.MEM_STATE 0 5
  have hwsu : w.o O.SU_STATE = d.o O.SU_STATE := by
    rw [hw]
    exact Dev.o_so_other (d := d) (i := O.MEM_STATE) (a := 0) (v := 5) (j := O.SU_STATE) (b := 0) (by decide) (by decide) (by decide)
  rw [hrun]
  refine ⟨?_, ?_, fun hroom => Dev.hasEntry_log (by rw [hw]; exact hroom), ?_, ?_⟩
  · rw [Dev.o_log_other (by decide) (by decide), hwo]
  · rw [Dev.mem_log, hw]
  · exact (show Dev.Calm d w by rw [hw]; exact ⟨rfl, rfl⟩).trans (.log w)
  · rw [Dev.o_log_other (by decide) (by decide), hwsu]

end

/-! ### What training leaves alone -/

/-- The objects that the end of training changes. -/
def trainIdx : List Nat :=
  [O.CAP_GDDR7_FOUND, O.MEM_DENSITY, O.MEM_CAPACITY, O.MEM_STATE, O.TAP_POOL_HANDLES, O.MEM_CH_STATE, O.PWR_DOM_STATE, O.RL_STATE,
   O.FLT_LOST, O.FLT_MIRROR_STATE] ++ trafficIdx

section
variable {e : Env} {d : Dev} {ok1 : Bool}

theorem Dev.frame_fitSet (e : Env) (d : Dev) (n : Nat) : Dev.Frame trainIdx d (d.fitSet e n) := by
  have hone : ∀ (d : Dev) i v, i ∈ trainIdx → Dev.Frame trainIdx d (d.so i 0 v) := fun d i v hi => .so (by decide) hi
  have hobjs : Dev.Frame trainIdx d (d.fitObjs n e.part.density (capacityOf n e.part.density)) :=
    ((((hone d O.CAP_GDDR7_FOUND n (by decide)).trans (hone _ O.MEM_DENSITY _ (by decide))).trans (hone _ O.MEM_CAPACITY _ (by decide))).trans
      (hone _ O.MEM_STATE 2 (by decide))).trans (hone _ O.TAP_POOL_HANDLES _ (by decide))
  obtain ⟨w, hw⟩ : ∃ w, w = d.fitObjs n e.part.density (capacityOf n e.part.density) := ⟨_, rfl⟩
  obtain ⟨x, hx⟩ : ∃ x, x = w.chansSet n := ⟨_, rfl⟩
  have hchans : Dev.Frame trainIdx w x := hx ▸ (Dev.chansSet_spec w n).1.mono (by decide)
  have hoff : Dev.Frame trainIdx x (if n == 1 then x.domOff 81 else x) := .ite (.so (by decide) (by decide)) (.refl _ x)
  obtain ⟨y, hy⟩ : ∃ y, y = if n == 1 then x.domOff 81 else x := ⟨_, rfl⟩
  have hrun : d.fitSet e n = { y with mem := { y.mem.clearQueues with trainAt := none, trained := some (n, e.part.density), poison := [] } } := by
    rw [hy, hx, hw]
    rfl
  rw [← hw] at hobjs
  rw [← hy] at hoff
  rw [hrun]
  exact ((hobjs.trans hchans).trans hoff).trans (.of_objs rfl)

theorem Dev.frame_trainDone {x : Nat} (h : d.mem.trainAt = some x) : Dev.Frame trainIdx d (d.trainDone e true ok1) := by
  have hraw := (Dev.rawFrom_trainedRaw e d ok1).frame.mono (l' := trainIdx) (by decide)
  rw [Dev.trainDone_good h]
  obtain ⟨w, hw⟩ : ∃ w, w = d.trainedRaw e ok1 := ⟨_, rfl⟩
  rw [← hw] at hraw ⊢
  refine hraw.trans (.ite ?_ ?_)
  · have hfill := (Dev.fillChans_spec w (Nat.le_refl 8)).2.1.mono (l' := trainIdx) (by decide)
    obtain ⟨y, hy⟩ : ∃ y, y = (List.range 8).foldl Dev.fillChan w := ⟨_, rfl⟩
    rw [← hy] at hfill ⊢
    exact (hfill.trans (.so (i := O.MEM_STATE) (el := 0) (v := 2) (by decide) (by decide))).trans (.of_objs rfl)
  · have hring : ∀ d : Dev, Dev.Frame trainIdx d d.ringTrained := fun d =>
      (Dev.Frame.so (i := O.RL_STATE) (el := 0) (v := 1) (by decide) (by decide)).trans (.of_objs rfl)
    have hpool : ∀ d : Dev, Dev.Frame trainIdx d d.poolClear := fun d => by
      refine (show Dev.Frame trainIdx d (d.gZero (d.o O.TAP_POOL_BASE) d.poolBytes) from .of_objs rfl).trans (.foldl (fun d c hc => .inc ?_ (by decide)) _)
      have hlt := List.mem_range.1 hc
      split at hlt
      · omega
      · omega
    have hmirror : ∀ d : Dev, Dev.Frame trainIdx d (d.mirror e) := fun d =>
      (Dev.traffic_mirror e d).frame.mono fun _ hi => List.mem_append_right _ hi
    exact (((Dev.frame_fitSet ..).trans (hring _)).trans (.ite (hpool _) (.refl _ _))).trans (hmirror _)

end

/-! ### The commands -/

section
variable {s : State} {h : Hdr}

theorem Dev.suTrained_later {e : Env} {d : Dev} (hsu : d.o O.SU_STATE ≠ 4) : d.suTrained e = d :=
  if_pos (bne_iff_ne.2 hsu)

theorem Dev.suTrained_fails {e : Env} {d : Dev} (hsu : d.o O.SU_STATE = 4) (hst : d.o O.MEM_STATE = 5) : d.suTrained e = d.so O.SU_STATE 0 10 := by
  unfold Dev.suTrained
  rw [hsu, hst]
  rfl

theorem memTrainingDone_fails {x : Nat} (hq : s.Quiet) (hx : s.dev.mem.trainAt = some x) (ok1 : Bool) :
    Leads (.memTrainingDone false ok1) s (fun t => t.dev.o O.MEM_STATE = 5 ∧ t.dev.mem.trainAt = none ∧
      Logged s t 0x0D10 4 ∧ (s.dev.o O.SU_STATE = 4 → t.dev.o O.SU_STATE = 10)) := by
  obtain ⟨hst, htrain, hentry, hcalm, hsu⟩ := Dev.trainDone_fails (e := s.env) (d := s.begun) (ok1 := ok1) hx
  obtain ⟨w, hw⟩ : ∃ w, w = s.begun.trainDone s.env false ok1 := ⟨_, rfl⟩
  rw [← hw] at hst htrain hentry hcalm hsu
  have hrun : s.begun.memTrained s.env false ok1 = w.suTrained s.env := by rw [hw]; rfl
  by_cases h4 : s.dev.o O.SU_STATE = 4
  · have hend := Dev.suTrained_fails (e := s.env) (d := w) (hsu.trans h4) hst
    refine leads_calm (f := fun e d => d.memTrained e false ok1) _ hq rfl (hrun.trans hend) (hcalm.trans (.so ..)) fun t ht =>
      ⟨?_, ?_, fun hroom => ?_, fun _ => ?_⟩
    · rw [ht.o, Dev.o_so_other (by decide) (by decide) (by decide), hst]
    · rw [ht.mem]; exact htrain
    · exact ((hentry (Nat.lt_trans hroom (by decide))).of_flt (d' := w.so O.SU_STATE 0 10) rfl).of_flt ht.flt
    · rw [ht.o, Dev.o_so_self]
  · have hend := Dev.suTrained_later (e := s.env) (d := w) (fun h => h4 (hsu.symm.trans h))
    refine leads_calm (f := fun e d => d.memTrained e false ok1) _ hq rfl (hrun.trans hend) hcalm fun t ht =>
      ⟨?_, ?_, fun hroom => ?_, fun h => absurd h h4⟩
    · rw [ht.o, hst]
    · rw [ht.mem, htrain]
    · exact (hentry (Nat.lt_trans hroom (by decide))).of_flt ht.flt

theorem trainedCount_eq (e : Env) (ok1 : Bool) : trainedCount e ok1 = if e.memMax = 2 ∧ e.part.fitted = 2 ∧ ok1 = true then 2 else 1 := by
  unfold trainedCount
  simp only [Bool.and_eq_true, beq_iff_eq, and_assoc]

/-- Past start-up's memory phase the end of training is that of the fit alone. -/
theorem memTrained_later {x : Nat} {ok1 : Bool} (hx : s.dev.mem.trainAt = some x) (hsu : s.dev.o O.SU_STATE ≠ 4) :
    s.begun.memTrained s.env true ok1 = s.begun.trainDone s.env true ok1 := by
  refine Dev.suTrained_later fun h => hsu ?_
  rw [← h, (Dev.frame_trainDone (e := s.env) (d := s.begun) (ok1 := ok1) hx).o (by decide) (by decide)]
  rfl

theorem memTrainingDone_fits {x n : Nat} {ok1 : Bool} (hq : s.Quiet) (hx : s.dev.mem.trainAt = some x)
    (hn : n = if s.env.memMax = 2 ∧ s.part.fitted = 2 ∧ ok1 = true then 2 else 1) (hsu : s.dev.o O.SU_STATE ≠ 4)
    (hnew : s.dev.o O.MEM_STATE ≠ 4 ∨ s.dev.found ≠ n) :
    Leads (.memTrainingDone true ok1) s (fun t => t.dev.found = n ∧
      t.dev.o O.MEM_STATE = 2 ∧ t.dev.capacity = capacityOf n s.part.density ∧ t.dev.mem.trainAt = none ∧
      (∀ c, c < 8 → t.dev.o O.MEM_CH_STATE c = if c < 4 * n then 1 else 0) ∧ t.dev.mem.poison = [] ∧
      (s.env.memMax = 2 → s.part.fitted = 2 → ok1 = false → Logged s t 0x0D06 1)) := by
  have hcount : n = trainedCount s.env ok1 := hn.trans (trainedCount_eq s.env ok1).symm
  subst hcount
  obtain ⟨⟨hfound, hst, hcap, htrain, hchans, hpoison⟩, hcalm, hentry⟩ := Dev.trainDone_fits (e := s.env) (d := s.begun) (ok1 := ok1) hx hnew
  refine leads_calm (f := fun e d => d.memTrained e true ok1) _ hq rfl (memTrained_later hx hsu) hcalm fun t ht =>
    ⟨(ht.o ..).trans hfound, (ht.o ..).trans hst, (ht.o ..).trans hcap, ?_, fun c hc => (ht.o ..).trans (hchans c hc), ?_,
      fun h2 hf hok hroom => ?_⟩
  · rw [ht.mem, htrain]
  · rw [ht.mem, hpoison]
  · exact (hentry h2 hf hok (Nat.lt_trans hroom (by decide))).of_flt ht.flt

theorem memTrainingDone_refills {x n : Nat} {ok1 : Bool} (hq : s.Quiet) (hx : s.dev.mem.trainAt = some x)
    (hn : n = if s.env.memMax = 2 ∧ s.part.fitted = 2 ∧ ok1 = true then 2 else 1) (hsu : s.dev.o O.SU_STATE ≠ 4)
    (h4 : s.dev.o O.MEM_STATE = 4) (hf : s.dev.found = n) :
    Leads (.memTrainingDone true ok1) s (fun t => t.dev.o O.MEM_STATE = 2 ∧ t.dev.found = n ∧ ∀ c, c < 8 → t.dev.o O.MEM_CH_STATE c =
      if s.dev.o O.MEM_CH_STATE c = 3 then 1 else s.dev.o O.MEM_CH_STATE c) := by
  have hcount : n = trainedCount s.env ok1 := hn.trans (trainedCount_eq s.env ok1).symm
  subst hcount
  obtain ⟨hst, hfound, hchans, hcalm⟩ := Dev.trainDone_same (e := s.env) (d := s.begun) (ok1 := ok1) hx h4 hf
  exact leads_calm (f := fun e d => d.memTrained e true ok1) _ hq rfl (memTrained_later hx hsu) hcalm fun t ht =>
    ⟨(ht.o ..).trans hst, (ht.o ..).trans hfound, fun c hc => (ht.o ..).trans (hchans c hc)⟩

theorem Dev.trainStart_spec (e : Env) (d : Dev) (st : Nat) : (d.trainStart e st).o O.MEM_STATE = st ∧
    (d.trainStart e st).mem.trainAt = some e.now ∧ Dev.Calm d (d.trainStart e st) := by
  unfold Dev.trainStart
  extract_lets d1 d2
  have h1 : Dev.Calm d d1 := (Dev.domSet_beside e d 80 true).2.2
  have h2 : Dev.Calm d d2 := h1.trans (.ite (Dev.domSet_beside e d1 81 true).2.2 (.refl d1))
  exact ⟨Dev.o_so_self d2 O.MEM_STATE 0 st, rfl, h2.trans ⟨rfl, rfl⟩⟩

theorem Dev.landEl_memRetrain (e : Env) (d : Dev) (ss : Nat) : d.landEl e ss O.MEM_RETRAIN 0 1 = d.memRetrain e := rfl

theorem memRetrain_starts (hq : s.Quiet) (ha : Accepts s h O.MEM_RETRAIN 0 1) (h2 : s.dev.o O.MEM_STATE = 2) :
    Leads (.memRetrain h) s (fun t => t.dev.o O.MEM_STATE = 4 ∧ t.dev.mem.trainAt = some s.clock.time) := by
  have hrun : (s.asked h O.MEM_RETRAIN 0).memRetrain s.env = (s.asked h O.MEM_RETRAIN 0).trainStart s.env 4 :=
    if_pos (by rw [State.o_asked, h2]; rfl)
  obtain ⟨hst, htrain, hcalm⟩ := Dev.trainStart_spec s.env (s.asked h O.MEM_RETRAIN 0) 4
  refine leads_lands _ hq ha rfl (by decide) ((Dev.landEl_memRetrain ..).trans hrun) hcalm fun t ht => ⟨?_, ?_⟩
  · rw [ht.o (by decide) (by decide), hst]
  · rw [ht.mem]; exact htrain

end

/-! ### The warm start (R785) -/

section
variable {s : State}

/-- The entry of a warm start (R918). -/
def Dev.warmEntry (d : Dev) : Entry := { time := d.pwr.fuseAt, loc := loc14 27, code := 0x0E1B, cls := 0, injected := false, detail := 7, reps := 0 }

/-- The device with every channel of a fit tracked from now on. -/
def Dev.tracked (e : Env) (d : Dev) (n : Nat) : Dev :=
  { d with mem := { d.mem with trackAt := (List.range (4 * n)).map (fun c => (c, e.now)) } }

/-- The warm start of a fit, its memory and its log back. -/
def Dev.warmed (e : Env) (d : Dev) : Dev := if e.full then ((d.deliver d.warmEntry).ringTrained).poolClear else (d.deliver d.warmEntry).ringTrained

theorem Dev.afterFit_tracked (e : Env) (d : Dev) (n : Nat) : Dev.AfterFit d (d.tracked e n) := ⟨.of_objs rfl, rfl, id, ⟨rfl, rfl⟩⟩

theorem Dev.afterFit_warmed (e : Env) (d : Dev) : Dev.AfterFit d (d.warmed e) := by
  have h := (Dev.afterFit_deliver d d.warmEntry).trans (Dev.afterFit_ringTrained _)
  exact .ite (h.trans (Dev.afterFit_poolClear _)) h

theorem Dev.refreshExit_trained {e : Env} {d : Dev} {n k : Nat} (hgo : (d.pwr.warm && d.o O.SU_STATE == 4 && d.o O.MEM_STATE == 0) = true)
    (ht : d.mem.trained = some (n, k)) : ∃ w, Dev.Calm d w ∧
      d.refreshExit e = (((((w.fitSet e n).mirrorRestore e).tracked e n).warmed e).readHeaders).phase e 2 := by
  refine ⟨if n == 2 then (d.domOn e 80).domOn e 81 else d.domOn e 80, ?_, ?_⟩
  · have h1 : Dev.Calm d (d.domOn e 80) := (Dev.domSet_beside e d 80 true).2.2
    exact h1.trans (.ite (Dev.domSet_beside e _ 81 true).2.2 (.refl _))
  · unfold Dev.refreshExit
    rw [hgo, if_neg (by decide)]
    dsimp only
    rw [ht]
    rfl

theorem selfRefreshExit_fits {n k : Nat} (hq : s.Quiet) (hw : s.dev.pwr.warm = true) (h4 : s.dev.o O.SU_STATE = 4) (h0 : s.dev.o O.MEM_STATE = 0)
    (ht : s.dev.mem.trained = some (n, k)) :
    Leads .selfRefreshExit s (fun t => t.dev.o O.MEM_STATE = 2 ∧ t.dev.found = n ∧ t.dev.o O.SU_STATE = 2 ∧
      ∀ c, c < 8 → t.dev.o O.MEM_CH_STATE c = if c < 4 * n then 1 else 0) := by
  have hgo : (s.begun.pwr.warm && s.begun.o O.SU_STATE == 4 && s.begun.o O.MEM_STATE == 0) = true := by
    rw [show s.begun.pwr.warm = true from hw, show s.begun.o O.SU_STATE = 4 from h4, show s.begun.o O.MEM_STATE = 0 from h0]
    rfl
  obtain ⟨w, hcalm, hrun⟩ := Dev.refreshExit_trained (e := s.env) (n := n) (k := k) hgo ht
  obtain ⟨hfits, -, hfcalm⟩ := Dev.fitSet_fits s.env w n
  obtain ⟨x, hx⟩ : ∃ x, x = w.fitSet s.env n := ⟨_, rfl⟩
  rw [← hx] at hfits hfcalm hrun
  have hback := ((Dev.afterFit_mirrorRestore s.env x).trans (Dev.afterFit_tracked s.env _ n)).trans (Dev.afterFit_warmed s.env _)
  obtain ⟨y, hy⟩ : ∃ y, y = ((((x.mirrorRestore s.env).tracked s.env n).warmed s.env).readHeaders) := ⟨_, rfl⟩
  have hheads : Dev.AfterFit x y := hy ▸ hback.trans (Dev.afterFit_readHeaders _)
  rw [← hy] at hrun
  have hphase := Dev.afterFit_phase s.env y 2
  obtain ⟨hfound, hst, -, -, hchans, -⟩ := (hfits.after hheads).after hphase
  have hsu : (y.phase s.env 2).o O.SU_STATE = 2 := by
    unfold Dev.phase
    extract_lets st d1 d2 p
    exact Dev.o_so_self d1 O.SU_STATE 0 2
  exact leads_calm (f := fun e d => d.refreshExit e) _ hq rfl hrun (((hcalm.trans hfcalm).trans hheads.calm).trans hphase.calm) fun t ht =>
    ⟨(ht.o ..).trans hst, (ht.o ..).trans hfound, (ht.o ..).trans hsu, fun c hc => (ht.o ..).trans (hchans c hc)⟩

theorem selfRefreshExit_trains (hq : s.Quiet) (hw : s.dev.pwr.warm = true) (h4 : s.dev.o O.SU_STATE = 4) (h0 : s.dev.o O.MEM_STATE = 0)
    (ht : s.dev.mem.trained = none) :
    Leads .selfRefreshExit s (fun t => t.dev.o O.MEM_STATE = 1 ∧ t.dev.mem.trainAt = some s.clock.time) := by
  have hgo : (s.begun.pwr.warm && s.begun.o O.SU_STATE == 4 && s.begun.o O.MEM_STATE == 0) = true := by
    rw [show s.begun.pwr.warm = true from hw, show s.begun.o O.SU_STATE = 4 from h4, show s.begun.o O.MEM_STATE = 0 from h0]
    rfl
  have hrun : s.begun.refreshExit s.env = (s.begun.deliver s.begun.warmEntry).trainStart s.env 1 := by
    unfold Dev.refreshExit
    rw [hgo, if_neg (by decide)]
    dsimp only
    rw [show s.begun.mem.trained = none from ht]
    rfl
  obtain ⟨hst, htrain, hcalm⟩ := Dev.trainStart_spec s.env (s.begun.deliver s.begun.warmEntry) 1
  refine leads_calm (f := fun e d => d.refreshExit e) _ hq rfl hrun ((Dev.Calm.deliver ..).trans hcalm) fun t ht => ⟨(ht.o ..).trans hst, ?_⟩
  rw [ht.mem]
  exact htrain

end

/-! ### MEM_PEEK (R787, R792) -/

section
variable {s : State} {h : Hdr} {a : Nat}

/-- The row of MEM_PEEK. -/
def peekRow : ObjRow := ⟨O.MEM_PEEK, [(0, 0)], .dom, .ro, .now, false, 0, [], 0, 0⟩

theorem peek_row (e : Env) (d : Dev) (hf : d.found ≠ 0) : d.domRow e O.MEM_PEEK 0 = .inr peekRow := by
  have hpres : d.pres e O.MEM_PEEK 0 = .ok := by
    have hrow : rowOf? O.MEM_PEEK = some peekRow := by decide +kernel
    have hfit : (d.o O.CAP_GDDR7_FOUND == 0) = false := beq_eq_false_iff_ne.2 hf
    unfold Dev.pres
    rw [hrow]
    dsimp only
    rw [hfit, Bool.and_false]
    cases e.part.variant <;> rfl
  unfold Dev.domRow Dev.presAbort
  simp only [runEls_one, List.map_cons, List.map_nil, hpres]
  rfl

theorem blocksOf_aligned (ha : a % 256 = 0) : blocksOf a 256 = [a / 256] := by
  unfold blocksOf
  rw [if_neg (by decide), show (a + 256 - 1) / 256 - a / 256 + 1 = 1 by omega]
  rfl

/-- The device that a READ_BLOCK of MEM_PEEK reads from. -/
def State.peeking (s : State) (h : Hdr) : Dev := ((s.atRequest h.sess).expire s.env h.sess).holdSnap s.env h.sess O.MEM_PEEK 0

theorem State.peeking_eq (s : State) (h : Hdr) : s.peeking h = { s.atRequest h.sess with ses := (s.peeking h).ses } := by
  unfold State.peeking
  rw [Dev.holdSnap_eq, Dev.expire_eq]

theorem State.o_peeking (s : State) (h : Hdr) (i el : Nat) : (s.peeking h).o i el = s.dev.o i el := by
  rw [State.peeking_eq]
  exact State.o_atRequest ..

theorem State.mem_peeking (s : State) (h : Hdr) : (s.peeking h).mem = s.dev.mem ∧ (s.peeking h).gddr = s.dev.gddr := by
  rw [State.peeking_eq]
  constructor
  · rw [State.atRequest_eq]
  · rw [State.atRequest_eq]

theorem State.peek_memRd (hpa : s.dev.o O.MEM_PEEK_ADDR = a) (hcap : a + 256 ≤ s.dev.capacity) :
    (s.peeking h).domSnap s.env O.MEM_PEEK 0 = (s.peeking h).memRd s.env 15 a 256 := by
  have hc : (s.peeking h).capacity = s.dev.capacity := State.o_peeking ..
  have hrun : (s.peeking h).domSnap s.env O.MEM_PEEK 0 = (s.peeking h).peek s.env := rfl
  rw [hrun]
  unfold Dev.peek
  dsimp only
  rw [State.o_peeking, hpa, hc, if_neg (Nat.not_lt.2 hcap)]

theorem State.blkPoison_peeking (s : State) (h : Hdr) (b : Nat) : (s.peeking h).blkPoison b = s.dev.blkPoison b := by
  unfold Dev.blkPoison Dev.chOffline Dev.chanOf Dev.found
  rw [State.o_peeking, State.o_peeking, (State.mem_peeking s h).1]

theorem State.memRd_peeking (s : State) (h : Hdr) (ha : a % 256 = 0) (hcap : a + 256 ≤ s.dev.capacity) :
    (s.peeking h).memRd s.env 15 a 256 = (if s.dev.blkPoison (a / 256) then none else some ((List.range 256).map fun i => s.dev.gByte (a + i)),
      ((s.peeking h).rdCount a 256 (a / 256)).arrive s.env 15 a 256 false) := by
  have hc : (s.peeking h).capacity = s.dev.capacity := State.o_peeking ..
  have hbytes : ∀ i, (s.peeking h).gByte i = s.dev.gByte i := fun i =>
    Dev.gByte_congr (State.mem_peeking s h).2 (by rw [(State.mem_peeking s h).1]) (by rw [(State.mem_peeking s h).1]) (State.o_peeking ..) i
  unfold Dev.memRd
  rw [hc, if_neg (Nat.not_lt.2 hcap), blocksOf_aligned ha]
  simp only [List.any_cons, List.any_nil, Bool.or_false, State.blkPoison_peeking, hbytes, List.foldl_cons, List.foldl_nil]

theorem State.ses_peeking (hs : Served s h O.MEM_PEEK) : h.sess < (s.peeking h).ses.length := by
  unfold State.peeking
  rw [Dev.ses_length_holdSnap, Dev.ses_length_expire]
  exact State.sess_lt hs

/-- A READ_BLOCK of MEM_PEEK ends in what its read leaves. -/
theorem leads_memPeek {P : State → Prop} {ans : Ans} {d : Dev} (hq : s.Quiet) (hs : Served s h O.MEM_PEEK)
    (hop : Dev.opReadBlock s.env (s.atRequest h.sess) (blockMsg 3 h O.MEM_PEEK 0 0 []) = (ans, d)) (hcalm : Dev.Calm (s.peeking h) d)
    (hP : ∀ t, s.Executed d (blockMsg 3 h O.MEM_PEEK 0 0 []) ans t → P t) : Leads (.memPeek h 0) s P := by
  refine leads_request (m := blockMsg 3 h O.MEM_PEEK 0 0 []) (codes := []) d rfl hs (.inr (by decide : (3 : Nat) ≠ 2))
    ((Dev.operate_readBlock false false (State.serviceAbort_atRequest hs)).trans hop) (hcalm.settle.trans ?_) (hcalm.rstDue.trans ?_) hP
  · rw [State.peeking_eq]
    exact (congrArg Jq.settle (State.jq_atRequest ..)).trans hq.1
  · rw [State.peeking_eq]
    exact (congrArg Pwr.rstDue (State.pwr_atRequest ..)).trans hq.2.1

theorem memPeek_reads (hq : s.Quiet) (hs : Served s h O.MEM_PEEK) (hf : s.dev.found ≠ 0) (hpa : s.dev.o O.MEM_PEEK_ADDR = a)
    (ha : a % 256 = 0) (hcap : a + 256 ≤ s.dev.capacity) (hgood : s.dev.blkPoison (a / 256) = false) :
    Leads (.memPeek h 0) s (fun t => Answered s t (blockMsg 3 h O.MEM_PEEK 0 0 []) (okAns s.clock.time
      (leBytes 4 256 ++ (List.range 256).map (fun i => s.dev.gByte (a + i))))) := by
  obtain ⟨bs, hbs⟩ : ∃ bs, bs = (List.range 256).map fun i => s.dev.gByte (a + i) := ⟨_, rfl⟩
  have hlen : bs.length = 256 := by rw [hbs, List.length_map, List.length_range]
  obtain ⟨d, hd⟩ : ∃ d, d = ((s.peeking h).rdCount a 256 (a / 256)).arrive s.env 15 a 256 false := ⟨_, rfl⟩
  have htraffic : Dev.Traffic (s.peeking h) d := hd ▸ (Dev.traffic_rdCount ..).trans (Dev.traffic_arrive ..)
  have hsnap : (s.peeking h).domSnap s.env O.MEM_PEEK 0 = (some bs, d) := by
    rw [State.peek_memRd hpa hcap, State.memRd_peeking s h ha hcap, hgood, hd, hbs]
    rfl
  have hout := Dev.blockOut_eq (e := s.env) (d := d) (n := h.sess) (k := 0) (x := ⟨O.MEM_PEEK, 0, bs, s.env.now, s.env.now⟩) (Nat.zero_le _)
  have hop := (Dev.opReadBlock_first (m := blockMsg 3 h O.MEM_PEEK 0 0 [])
    (peek_row s.env (s.atRequest h.sess) (by unfold Dev.found; rw [State.o_atRequest]; exact hf)) (by decide) rfl hsnap).trans hout
  have hdata : (leBytes 4 bs.length ++ (bs.drop (512 * 0)).take 512) = leBytes 4 256 ++ bs := by
    rw [hlen, Nat.mul_zero, List.drop_zero, List.take_of_length_le (by omega)]
  rw [show (⟨O.MEM_PEEK, 0, bs, s.env.now, s.env.now⟩ : Snap).data = bs from rfl, hdata] at hop
  rw [← hbs]
  refine leads_memPeek hq hs hop ?_ fun t ht => ht.answered ?_
  · exact htraffic.calm.trans ⟨rfl, rfl⟩
  · show h.sess < (Dev.setSess ..).ses.length
    rw [Dev.ses_length_setSess, htraffic.rest]
    exact State.ses_peeking hs

theorem memPeek_poisoned (hq : s.Quiet) (hs : Served s h O.MEM_PEEK) (hf : s.dev.found ≠ 0) (hpa : s.dev.o O.MEM_PEEK_ADDR = a)
    (ha : a % 256 = 0) (hcap : a + 256 ≤ s.dev.capacity) (hbad : s.dev.blkPoison (a / 256) = true) :
    Leads (.memPeek h 0) s (fun t => Answered s t (blockMsg 3 h O.MEM_PEEK 0 0 []) (refuse (11, 14)) ∧
      t.dev.o O.MEM_CH_POISON (s.dev.chanOf a) =
        ctrAdd O.MEM_CH_POISON (s.dev.chanOf a) (s.dev.o O.MEM_CH_POISON (s.dev.chanOf a)) 1) := by
  obtain ⟨d, hd⟩ : ∃ d, d = ((s.peeking h).rdCount a 256 (a / 256)).arrive s.env 15 a 256 false := ⟨_, rfl⟩
  have htraffic : Dev.Traffic (s.peeking h) d := hd ▸ (Dev.traffic_rdCount ..).trans (Dev.traffic_arrive ..)
  have hsnap : (s.peeking h).domSnap s.env O.MEM_PEEK 0 = (none, d) := by
    rw [State.peek_memRd hpa hcap, State.memRd_peeking s h ha hcap, hbad, hd]
    rfl
  have hop : Dev.opReadBlock s.env (s.atRequest h.sess) (blockMsg 3 h O.MEM_PEEK 0 0 []) = (refuse (11, 14), d) := by
    have hrow := peek_row s.env (s.atRequest h.sess) (by unfold Dev.found; rw [State.o_atRequest]; exact hf)
    unfold Dev.opReadBlock
    dsimp only [blockMsg, opMsg, reqTo]
    rw [hrow]
    dsimp only
    rw [if_neg (by decide), if_pos (by decide), show ((s.atRequest h.sess).expire s.env h.sess).holdSnap s.env h.sess O.MEM_PEEK 0 = s.peeking h from rfl, hsnap]
  have hch : (s.peeking h).chanOf (a / 256 * 256) = s.dev.chanOf a := by
    rw [show a / 256 * 256 = a by omega]
    unfold Dev.chanOf Dev.found
    rw [State.o_peeking]
  have hchlt := s.dev.chanOf_lt_elements a
  have hcount : d.o O.MEM_CH_POISON (s.dev.chanOf a) =
      ctrAdd O.MEM_CH_POISON (s.dev.chanOf a) (s.dev.o O.MEM_CH_POISON (s.dev.chanOf a)) 1 := by
    obtain ⟨w, hw⟩ : ∃ w, w = (s.peeking h).inc O.MEM_CH_RD_BYTES (s.dev.chanOf a) (atomBytes a 256 (a / 256)) := ⟨_, rfl⟩
    have hwbad : w.blkPoison (a / 256) = true := by
      have hoff : w.chOffline (w.chanOf (a / 256 * 256)) = (s.peeking h).chOffline ((s.peeking h).chanOf (a / 256 * 256)) := by
        rw [hw]
        exact (Dev.Traffic.inc hchlt (by decide)).chOffline _
      unfold Dev.blkPoison
      rw [hoff, show w.mem = (s.peeking h).mem by rw [hw]; rfl]
      exact (State.blkPoison_peeking s h _).trans hbad
    have hrd : (s.peeking h).rdCount a 256 (a / 256) = w.inc O.MEM_CH_POISON (s.dev.chanOf a) := by
      unfold Dev.rdCount
      dsimp only
      rw [hch, ← hw, hwbad, if_pos rfl]
    have ho : d.o O.MEM_CH_POISON (s.dev.chanOf a) = (w.inc O.MEM_CH_POISON (s.dev.chanOf a)).o O.MEM_CH_POISON (s.dev.chanOf a) := by
      rw [hd, hrd]
      rfl
    rw [ho, Dev.o_inc_self, hw, Dev.o_inc_other (by decide) hchlt hchlt, State.o_peeking]
  refine leads_memPeek hq hs hop htraffic.calm fun t ht => ⟨ht.answered ?_, ?_⟩
  · rw [htraffic.rest]
    exact State.ses_peeking hs
  · rw [ht.o (by decide) hchlt, hcount]

end

/-- Settles O43. -/
theorem memoryTrainingAndPeek : Obligations.MemoryTrainingAndPeek :=
  ⟨fun _ _ hq => ⟨fun _ hx => ⟨memTrainingDone_fails hq hx, fun _ _ hn hsu => ⟨memTrainingDone_fits hq hx hn hsu, memTrainingDone_refills hq hx hn hsu⟩⟩,
      memRetrain_starts hq, fun hw h4 h0 => ⟨fun _ _ => selfRefreshExit_fits hq hw h4 h0, selfRefreshExit_trains hq hw h4 h0⟩⟩,
    fun _ _ _ hq hs hf hpa ha hcap => ⟨memPeek_reads hq hs hf hpa ha hcap, memPeek_poisoned hq hs hf hpa ha hcap⟩⟩

end Sys2Proof.Machine
end

section
/-! PROOF. The states and triggers of acquisition (chapter 10). -/

namespace Sys2Proof.Machine

/-! ### Marks and what is streamed -/

/-- The objects that a mark and a packet of acquisition change. -/
def streamIdx : List Nat := O.ACQ_MARKS :: O.ACQ_MARK_LOST :: O.LINK_TX_DISCARD :: O.LINK_NOTIFY_DROPPED :: trafficIdx

/-- Acquisition is as before but for the mark that a record may follow, and no object has changed but those of marks and packets. -/
structure Dev.Streams (d d' : Dev) : Prop where
  acq : d'.acq = { d.acq with lastMark := d'.acq.lastMark }
  frame : Dev.Frame streamIdx d d'
  calm : Dev.Calm d d'

namespace Dev.Streams
variable {d d' d'' : Dev}

theorem refl (d : Dev) : Streams d d := ⟨rfl, .refl _ d, .refl d⟩

theorem trans (h : Streams d d') (k : Streams d' d'') : Streams d d'' :=
  ⟨by rw [k.acq, h.acq], h.frame.trans k.frame, h.calm.trans k.calm⟩

theorem ite {p : Prop} [Decidable p] {a b : Dev} (ha : Streams d a) (hb : Streams d b) : Streams d (if p then a else b) := by
  split
  · exact ha
  · exact hb

theorem foldl {α : Type} {f : Dev → α → Dev} (h : ∀ d x, Streams d (f d x)) (xs : List α) (d : Dev) : Streams d (xs.foldl f d) :=
  rel_foldl refl trans h xs d

theorem inc {i el n : Nat} (hel : el < 4096) (hi : i ∈ streamIdx) : Streams d (d.inc i el n) := ⟨rfl, .inc hel hi, ⟨rfl, rfl⟩⟩

theorem o (h : Streams d d') {i : Nat} (hi : i ∉ streamIdx) : d'.o i 0 = d.o i 0 := h.frame.o (by decide) hi

end Dev.Streams

section
variable {e : Env} {d : Dev}

theorem Dev.streams_enq {p : Packet} (hp : p.ty < 4096) : Dev.Streams d (d.enq p) := by
  unfold Dev.enq Dev.discard
  exact .ite (.inc hp (by decide)) (.ite (.refl d) (.ite (.inc (by decide) (by decide)) ⟨rfl, .of_objs rfl, ⟨rfl, rfl⟩⟩))

theorem Dev.streams_memRd (e : Env) (d : Dev) (req a n : Nat) : Dev.Streams d (d.memRd e req a n).2 :=
  have h := Dev.traffic_memRd (e := e) (d := d) req a n
  ⟨by rw [h.rest], h.frame.mono fun _ hm => by simp only [streamIdx, List.mem_cons, hm, or_true], h.calm⟩

theorem Dev.streams_mark (d : Dev) (t : Trig) (started missed : Bool) : Dev.Streams d (d.mark t started missed) := by
  unfold Dev.mark
  refine .ite (.refl d) ?_
  extract_lets n w d1
  have h1 : Dev.Streams d d1 := .inc (by decide) (by decide)
  refine .ite (h1.trans (.inc (by decide) (by decide))) (h1.trans (Dev.Streams.trans ?_ (Dev.streams_enq (show 5 < 4096 by decide))))
  exact ⟨rfl, .of_objs rfl, ⟨rfl, rfl⟩⟩

/-! ### A trigger taken (R534, R535) -/

/-- A trigger no longer waits. -/
def Dev.drawn (d : Dev) (x : Trig) : Dev := { d with acq := { d.acq with trigs := d.acq.trigs.erase x } }

/-- A capture starts with a trigger. -/
def Dev.captures (d : Dev) (x : Trig) (short : Bool) : Dev :=
  { (d.releasePre.so O.ACQ_STATE 0 4) with
      acq := { d.releasePre.acq with trig := some x, preAct := d.releasePre.acq.held.length, posted := 0, short := short } }

theorem Dev.calm_drawn (d : Dev) (x : Trig) : Dev.Calm d (d.drawn x) := ⟨rfl, rfl⟩

theorem Dev.calm_captures (d : Dev) (x : Trig) (short : Bool) : Dev.Calm d (d.captures x short) := ⟨rfl, rfl⟩

theorem Dev.o_captures (d : Dev) (x : Trig) (short : Bool) : (d.captures x short).o O.ACQ_STATE = 4 :=
  Dev.o_so_self d.releasePre O.ACQ_STATE 0 4

/-- Whether a trigger taken now starts a capture. -/
def Dev.starting (d : Dev) : Bool := d.o O.ACQ_STATE == 2 || d.o O.ACQ_STATE == 3

/-- Whether a trigger taken now is counted as missed. -/
def Dev.missing (d : Dev) : Bool := d.o O.ACQ_STATE == 1 || d.o O.ACQ_STATE == 4 || d.o O.ACQ_STATE == 5 || d.o O.ACQ_STATE == 6

theorem Dev.takeTrig_eq {x : Trig} (hx : nextTrig d.acq.trigs = some x) :
    d.takeTrig = if d.starting then ((d.drawn x).mark x d.starting d.missing).captures x (d.o O.ACQ_STATE == 2)
      else if d.missing then ((d.drawn x).mark x d.starting d.missing).inc O.ACQ_TRIG_MISSED
      else (d.drawn x).mark x d.starting d.missing := by
  unfold Dev.takeTrig
  rw [hx]
  rfl

theorem Dev.calm_takeTrig (d : Dev) : Dev.Calm d d.takeTrig := by
  cases hx : nextTrig d.acq.trigs with
  | none => unfold Dev.takeTrig; rw [hx]; exact .refl d
  | some x =>
    rw [Dev.takeTrig_eq hx]
    have hmark : Dev.Calm d ((d.drawn x).mark x d.starting d.missing) := (Dev.calm_drawn d x).trans (Dev.streams_mark ..).calm
    exact .ite (hmark.trans (Dev.calm_captures ..)) (.ite (hmark.trans (.inc ..)) hmark)

/-- In STOPPED and STREAM_ONLY a trigger leaves no more than its mark. -/
theorem Dev.frame_takeTrig_idle (hs : d.starting = false) (hm : d.missing = false) : Dev.Frame streamIdx d d.takeTrig := by
  cases hx : nextTrig d.acq.trigs with
  | none => unfold Dev.takeTrig; rw [hx]; exact .refl _ d
  | some x =>
    rw [Dev.takeTrig_eq hx, hs, hm, if_neg (by decide), if_neg (by decide)]
    exact Dev.Frame.trans (d' := d.drawn x) (.of_objs rfl) (Dev.streams_mark ..).frame

theorem Dev.calm_takeTrigs (d : Dev) : Dev.Calm d d.takeTrigs := .foldl (fun d _ => Dev.calm_takeTrig d) _ d

/-- Triggers taken in STOPPED leave no more than their marks. -/
theorem Dev.frame_takeTrigs_stopped (h : d.o O.ACQ_STATE = 0) : Dev.Frame streamIdx d d.takeTrigs := by
  have hfold : ∀ (xs : List Nat) (d : Dev), d.o O.ACQ_STATE = 0 → Dev.Frame streamIdx d (xs.foldl (fun d _ => d.takeTrig) d) := by
    intro xs
    induction xs with
    | nil => exact fun d _ => .refl _ d
    | cons x xs ih =>
      intro d h
      have hone : Dev.Frame streamIdx d d.takeTrig :=
        Dev.frame_takeTrig_idle (by unfold Dev.starting; rw [h]; rfl) (by unfold Dev.missing; rw [h]; rfl)
      exact hone.trans (ih _ ((hone.o (by decide) (by decide)).trans h))
  exact hfold _ d h

theorem Dev.acq_traceTrig (e : Env) (d : Dev) (b : Nat) : (d.traceTrig e b).acq = d.acq := by
  unfold Dev.traceTrig
  split <;> rfl

end

/-! ### Entry into REARM and a dump (R543, R549) -/

section
variable {e : Env} {d : Dev}

/-- The objects that an entry into REARM changes. -/
def rearmIdx : List Nat := [O.ACQ_PRE_CLIPPED, O.ACQ_POST_CLIPPED, O.ACQ_PRE_COUNT, O.ACQ_POST_COUNT, O.ACQ_STATE]

theorem Dev.rearm_eq (e : Env) (d : Dev) : ∃ d' a, Dev.Frame rearmIdx d d' ∧ Dev.Calm d d' ∧ a.held = [] ∧
    d.rearm e = { d'.so O.ACQ_STATE 0 1 with acq := a } := by
  unfold Dev.rearm
  extract_lets c pre post pc qc d1 d2
  have h1 : Dev.Frame rearmIdx d d1 ∧ Dev.Calm d d1 :=
    ⟨.ite (.so (by decide) (by decide)) (.refl _ d), .ite (.so ..) (.refl d)⟩
  have h2 : Dev.Frame rearmIdx d1 d2 ∧ Dev.Calm d1 d2 :=
    ⟨.ite (.so (by decide) (by decide)) (.refl _ d1), .ite (.so ..) (.refl d1)⟩
  have h3 : Dev.Frame rearmIdx d2 ((d2.so O.ACQ_PRE_COUNT 0 pre).so O.ACQ_POST_COUNT 0 post) :=
    .trans (.so (i := O.ACQ_PRE_COUNT) (by decide) (by decide)) (.so (i := O.ACQ_POST_COUNT) (by decide) (by decide))
  exact ⟨_, _, (h1.1.trans h2.1).trans h3, (h1.2.trans h2.2).trans ((Dev.Calm.so ..).trans (.so ..)), rfl, rfl⟩

theorem Dev.rearm_spec (e : Env) (d : Dev) : (d.rearm e).o O.ACQ_STATE = 1 ∧ (d.rearm e).acq.held = [] ∧ Dev.Calm d (d.rearm e) := by
  obtain ⟨d', a, _, hcalm, hheld, heq⟩ := Dev.rearm_eq e d
  rw [heq]
  exact ⟨Dev.o_so_self d' O.ACQ_STATE 0 1, hheld, hcalm.trans ⟨rfl, rfl⟩⟩

theorem Dev.frame_rearm (e : Env) (d : Dev) : Dev.Frame rearmIdx d (d.rearm e) := by
  obtain ⟨d', a, hframe, _, _, heq⟩ := Dev.rearm_eq e d
  rw [heq]
  exact hframe.trans (.trans (d' := d'.so O.ACQ_STATE 0 1) (.so (by decide) (by decide)) (.of_objs rfl))

/-- A record of a dump read and queued (R549). -/
def Dev.dumpRec (e : Env) (n : Nat) (d : Dev) (r : SnapRec) : Dev :=
  let x := d.memRd e 6 (d.snapAddr e r.slot) r.len
  let bs := match x.1 with
    | some bs => bs
    | none => poisonRecord ((List.range r.len).map (fun i => d.gByte (d.snapAddr e r.slot + i)))
  x.2.enq { ty := 4, data := acqPrefix 1 n ++ bs, kind := 4 }

theorem Dev.streams_dumpRec (e : Env) (n : Nat) (d : Dev) (r : SnapRec) : Dev.Streams d (d.dumpRec e n r) :=
  (Dev.streams_memRd ..).trans (Dev.streams_enq (show 4 < 4096 by decide))

theorem Dev.streams_dump (e : Env) (d : Dev) : Dev.Streams (d.so O.ACQ_STATE 0 6) (d.dump e) := by
  unfold Dev.dump
  extract_lets n d1
  have h1 : Dev.Streams (d.so O.ACQ_STATE 0 6) d1 := Dev.streams_enq (show 4 < 4096 by decide)
  exact h1.trans (.foldl (fun d r => Dev.streams_dumpRec e n d r) d1.acq.held d1)

theorem Dev.dump_spec (e : Env) (d : Dev) :
    (d.dump e).o O.ACQ_STATE = 6 ∧ Dev.Frame (O.ACQ_STATE :: streamIdx) d (d.dump e) ∧ Dev.Calm d (d.dump e) :=
  have h := Dev.streams_dump e d
  ⟨(h.o (by decide)).trans (Dev.o_so_self ..), (Dev.Frame.so (by decide) List.mem_cons_self).trans (h.frame.mono (List.subset_cons_self ..)),
    (Dev.Calm.so ..).trans h.calm⟩

/-- A capture that is complete: counted, DONE, its header written. -/
def Dev.captured (d : Dev) (x : Trig) : Dev :=
  ((d.inc O.ACQ_CAPTURES).so O.ACQ_STATE 0 5).setDom O.ACQ_CAP_HEADER 0 0
    (leBytes 32 ((d.inc O.ACQ_CAPTURES).capHeader x ((d.inc O.ACQ_CAPTURES).o O.ACQ_CAPTURES)))

theorem Dev.captureDone_eq {x : Trig} (hst : d.o O.ACQ_STATE = 4) (hx : d.acq.trig = some x) (hpost : d.o O.ACQ_POST_COUNT ≤ d.acq.posted) :
    d.captureDone e = if (d.captured x).o O.ACQ_REARM == 1 then (d.captured x).dump e else d.captured x := by
  unfold Dev.captureDone
  rw [hx]
  exact if_pos (by simp [hst, hpost])

theorem Dev.captured_spec (d : Dev) (x : Trig) : (d.captured x).o O.ACQ_STATE = 5 ∧
    (d.captured x).o O.ACQ_CAPTURES = ctrAdd O.ACQ_CAPTURES 0 (d.o O.ACQ_CAPTURES) 1 ∧ (d.captured x).o O.ACQ_REARM = d.o O.ACQ_REARM ∧
    Dev.Calm d (d.captured x) := by
  have hdom : ∀ (d : Dev) bs i, (d.setDom O.ACQ_CAP_HEADER 0 0 bs).o i = d.o i := fun d bs i =>
    (Dev.frame_setDom [] d _ _ _ bs).o (by decide) (by simp)
  refine ⟨?_, ?_, ?_, ((Dev.Calm.inc ..).trans (.so ..)).trans (Dev.calm_setDom ..)⟩
  · exact (hdom ..).trans (Dev.o_so_self ..)
  · exact ((hdom ..).trans (Dev.o_so_other (by decide) (by decide) (by decide))).trans (Dev.o_so_self ..)
  · exact ((hdom ..).trans (Dev.o_so_other (by decide) (by decide) (by decide))).trans (Dev.o_so_other (by decide) (by decide) (by decide))

theorem Dev.acqStop_spec (d : Dev) :
    d.acqStop.o O.ACQ_STATE = 0 ∧ d.acqStop.acq.held = [] ∧ d.acqStop.acq.trig = none ∧ Dev.Calm d d.acqStop := by
  unfold Dev.acqStop
  extract_lets d1
  have h1 : Dev.Calm d d1 := .ite (.refl d) (Dev.calm_takeTrigs d)
  exact ⟨Dev.o_so_self (d1.so O.ACQ_RUN 0 0) O.ACQ_STATE 0 0, rfl, rfl, h1.trans ⟨rfl, rfl⟩⟩

theorem Dev.acqStart_spec (e : Env) (h : d.o O.ACQ_STATE = 0) : (d.acqStart e).o O.ACQ_RUN = 1 ∧
    ((d.acqStart e).o O.ACQ_STATE = if bit (d.o O.ACQ_MODE) 1 then 1 else 7) ∧ Dev.Calm d (d.acqStart e) := by
  have hst : (d.so O.ACQ_RUN 0 1).o O.ACQ_STATE = 0 := (Dev.o_so_other (by decide) (by decide) (by decide)).trans h
  have hframe := Dev.frame_takeTrigs_stopped hst
  have hcalm : Dev.Calm d (d.so O.ACQ_RUN 0 1).takeTrigs := (Dev.Calm.so ..).trans (Dev.calm_takeTrigs _)
  have hrun : (d.so O.ACQ_RUN 0 1).takeTrigs.o O.ACQ_RUN = 1 := (hframe.o (by decide) (by decide)).trans (Dev.o_so_self ..)
  have hmode : (d.so O.ACQ_RUN 0 1).takeTrigs.o O.ACQ_MODE = d.o O.ACQ_MODE :=
    (hframe.o (by decide) (by decide)).trans (Dev.o_so_other (by decide) (by decide) (by decide))
  have heq : d.acqStart e = if bit ((d.so O.ACQ_RUN 0 1).takeTrigs.o O.ACQ_MODE) 1 then (d.so O.ACQ_RUN 0 1).takeTrigs.rearm e
      else (d.so O.ACQ_RUN 0 1).takeTrigs.so O.ACQ_STATE 0 7 := if_neg (by rw [hst]; decide)
  rw [heq, hmode]
  obtain ⟨hrearm, _, hkeep⟩ := Dev.rearm_spec e (d.so O.ACQ_RUN 0 1).takeTrigs
  by_cases hsnap : bit (d.o O.ACQ_MODE) 1 = true
  · rw [if_pos hsnap, if_pos hsnap]
    exact ⟨((Dev.frame_rearm ..).o (by decide) (by decide)).trans hrun, hrearm, hcalm.trans hkeep⟩
  · rw [if_neg hsnap, if_neg hsnap]
    exact ⟨(Dev.o_so_other (by decide) (by decide) (by decide)).trans hrun, Dev.o_so_self .., hcalm.trans (.so ..)⟩

theorem Dev.landEl_acqRun (e : Env) (d : Dev) (ss v : Nat) :
    d.landEl e ss O.ACQ_RUN 0 v = if v == 1 then d.acqStart e else d.acqStop := rfl

theorem Dev.landEl_acqArm (e : Env) (d : Dev) (ss v : Nat) : d.landEl e ss O.ACQ_ARM 0 v = d.acqArm e := rfl

theorem Dev.landEl_acqDump (e : Env) (d : Dev) (ss v : Nat) : d.landEl e ss O.ACQ_DUMP 0 v = d.acqDump e := rfl

theorem Dev.landEl_trigForce (e : Env) (d : Dev) (ss v : Nat) : d.landEl e ss O.ACQ_TRIG_FORCE 0 v = d.trigForce e := rfl

end

/-! ### The commands -/

section
variable {s : State} {h : Hdr}

theorem acqRunStart_starts (hq : s.Quiet) (ha : Accepts s h O.ACQ_RUN 0 1) (hst : s.dev.o O.ACQ_STATE = 0) :
    Leads (.acqRunStart h) s (fun t => t.dev.o O.ACQ_RUN = 1 ∧
      t.dev.o O.ACQ_STATE = if bit (s.dev.o O.ACQ_MODE) 1 then 1 else 7) := by
  obtain ⟨hrun, hnew, hcalm⟩ := Dev.acqStart_spec (d := s.asked h O.ACQ_RUN 0) s.env ((State.o_asked ..).trans hst)
  refine leads_lands _ hq ha rfl (by decide) (Dev.landEl_acqRun ..) hcalm fun t ht =>
    ⟨(ht.o (by decide) (by decide)).trans hrun, (ht.o (by decide) (by decide)).trans ?_⟩
  rw [State.o_asked] at hnew
  exact hnew

theorem acqRunStop_stops (hq : s.Quiet) (ha : Accepts s h O.ACQ_RUN 0 0) :
    Leads (.acqRunStop h) s (fun t => t.dev.o O.ACQ_STATE = 0 ∧ t.dev.acq.held = [] ∧ t.dev.acq.trig = none) := by
  obtain ⟨ho, hheld, htrig, hcalm⟩ := Dev.acqStop_spec (s.asked h O.ACQ_RUN 0)
  refine leads_lands _ hq ha rfl (by decide) (Dev.landEl_acqRun ..) hcalm fun t ht => ⟨(ht.o (by decide) (by decide)).trans ho, ?_, ?_⟩
  · exact (congrArg Acq.held ht.acq).trans hheld
  · exact (congrArg Acq.trig ht.acq).trans htrig

theorem acqArm_rearms (hq : s.Quiet) (ha : Accepts s h O.ACQ_ARM 0 1) (hst : s.dev.o O.ACQ_STATE = 5) :
    Leads (.acqArm h) s (fun t => t.dev.o O.ACQ_STATE = 1 ∧ t.dev.acq.held = []) := by
  obtain ⟨ho, hheld, hcalm⟩ := Dev.rearm_spec s.env (s.asked h O.ACQ_ARM 0)
  refine leads_lands _ hq ha rfl (by decide) ((Dev.landEl_acqArm ..).trans (if_pos (by simp [hst]))) hcalm fun t ht =>
    ⟨(ht.o (by decide) (by decide)).trans ho, (congrArg Acq.held ht.acq).trans hheld⟩

theorem acqDump_dumps (hq : s.Quiet) (ha : Accepts s h O.ACQ_DUMP 0 1) (hst : s.dev.o O.ACQ_STATE = 5) :
    Leads (.acqDump h) s (fun t => t.dev.o O.ACQ_STATE = 6) := by
  obtain ⟨ho, _, hcalm⟩ := Dev.dump_spec s.env (s.asked h O.ACQ_DUMP 0)
  exact leads_lands _ hq ha rfl (by decide) ((Dev.landEl_acqDump ..).trans (if_pos (by simp [hst]))) hcalm fun t ht =>
    (ht.o (by decide) (by decide)).trans ho

theorem acqRearmDone_fills (hq : s.Quiet) (hst : s.dev.o O.ACQ_STATE = 1) :
    Leads .acqRearmDone s (fun t => t.dev.o O.ACQ_STATE = if s.dev.o O.ACQ_PRE_COUNT = 0 then 3 else 2) := by
  have hrun : s.begun.rearmDone = s.begun.so O.ACQ_STATE 0 (if s.dev.o O.ACQ_PRE_COUNT == 0 then 3 else 2) :=
    if_pos (beq_iff_eq.mpr hst)
  refine leads_calm (f := fun _ d => d.rearmDone) _ hq rfl hrun (.so ..) fun t ht => ?_
  rw [ht.o, Dev.o_so_self]
  simp only [beq_iff_eq]

theorem acqCaptureDone_completes (hq : s.Quiet) (hst : s.dev.o O.ACQ_STATE = 4) (htrig : s.dev.acq.trig ≠ none)
    (hpost : s.dev.o O.ACQ_POST_COUNT ≤ s.dev.acq.posted) :
    Leads .acqCaptureDone s (fun t => (t.dev.o O.ACQ_STATE = if s.dev.o O.ACQ_REARM = 1 then 6 else 5) ∧
      t.dev.o O.ACQ_CAPTURES = ctrAdd O.ACQ_CAPTURES 0 (s.dev.o O.ACQ_CAPTURES) 1) := by
  obtain ⟨x, hx⟩ := Option.ne_none_iff_exists'.mp htrig
  obtain ⟨hdone, hcount, hmode, hcalm⟩ := Dev.captured_spec s.begun x
  have hrun := Dev.captureDone_eq (e := s.env) (d := s.begun) hst hx hpost
  have hmode' : (s.begun.captured x).o O.ACQ_REARM = s.dev.o O.ACQ_REARM := hmode
  by_cases hauto : s.dev.o O.ACQ_REARM = 1
  · rw [if_pos (by rw [hmode', hauto]; rfl)] at hrun
    obtain ⟨hdump, hframe, hkeep⟩ := Dev.dump_spec s.env (s.begun.captured x)
    refine leads_calm _ hq rfl hrun (hcalm.trans hkeep) fun t ht => ⟨?_, ?_⟩
    · rw [ht.o, hdump, if_pos hauto]
    · rw [ht.o, hframe.o (by decide) (by decide), hcount, State.o_begun]
  · rw [if_neg (by rw [hmode']; simpa using hauto)] at hrun
    refine leads_calm _ hq rfl hrun hcalm fun t ht => ⟨?_, ?_⟩
    · rw [ht.o, hdone, if_neg hauto]
    · rw [ht.o, hcount, State.o_begun]

theorem acqDumpDone_ends (hq : s.Quiet) (hst : s.dev.o O.ACQ_STATE = 6) (hwait : s.dev.link.txq.any (fun p => p.kind == 4) = false)
    (hpart : s.dev.link.part.any (fun x => x.pkt.kind == 4) = false)
    (hsent : s.dev.link.flight.any (fun p => p.1.kind == 4) = false ∨ s.dev.link.endAt ≤ s.clock.time) :
    Leads .acqDumpDone s (fun t => t.dev.o O.ACQ_STATE = if s.dev.o O.ACQ_REARM = 1 then 1 else 5) := by
  have hfl : (s.dev.link.flight.any (fun p => p.1.kind == 4) && decide (s.clock.time < s.dev.link.endAt)) = false := by
    rcases hsent with h | h
    · rw [h, Bool.false_and]
    · rw [decide_eq_false (Nat.not_lt.mpr h), Bool.and_false]
  have hrun : s.begun.dumpDone s.env = if s.dev.o O.ACQ_REARM == 1 then s.begun.rearm s.env else s.begun.so O.ACQ_STATE 0 5 := by
    unfold Dev.dumpDone
    refine if_pos ?_
    show ((s.dev.o O.ACQ_STATE == 6 && !s.dev.link.txq.any (fun p => p.kind == 4) && !s.dev.link.part.any (fun x => x.pkt.kind == 4)) &&
      !(s.dev.link.flight.any (fun p => p.1.kind == 4) && decide (s.clock.time < s.dev.link.endAt))) = true
    rw [hfl, hwait, hpart, hst]
    rfl
  obtain ⟨hrearm, _, hcalm⟩ := Dev.rearm_spec s.env s.begun
  refine leads_calm _ hq rfl hrun (.ite hcalm (.so ..)) fun t ht => ?_
  rw [ht.o]
  by_cases hauto : s.dev.o O.ACQ_REARM = 1
  · rw [if_pos (beq_iff_eq.mpr hauto), if_pos hauto, hrearm]
  · rw [if_neg (by simpa using hauto), if_neg hauto, Dev.o_so_self]

/-! ### Triggers -/

/-- A trigger waits to be taken, raised by the source `src` with its stamp. -/
def State.trigged (s : State) (src time : Nat) : List Trig := s.dev.acq.trigs ++ [{ time := time, src := src, rseq := s.dev.acq.rseq }]

theorem acqTrigForce_raises {v : Nat} (hq : s.Quiet) (ha : Accepts s h O.ACQ_TRIG_FORCE 0 v) (hsrc : bit (s.dev.o O.ACQ_TRIG_SRC) 1 = true) :
    Leads (.acqTrigForce h v) s (fun t => t.dev.acq.trigs = s.trigged 3 s.clock.time) := by
  refine leads_lands ((s.asked h O.ACQ_TRIG_FORCE 0).raiseTrig s.env 3) hq ha rfl (by decide)
    ((Dev.landEl_trigForce ..).trans (if_pos (by rw [State.o_asked]; exact hsrc))) ⟨rfl, rfl⟩ fun t ht => ?_
  rw [ht.acq]
  unfold Dev.raiseTrig Dev.raiseAt State.trigged
  dsimp only
  rw [State.acq_asked]
  rfl

theorem trigInEdge_raises (hq : s.Quiet) (hsrc : bit (s.dev.o O.ACQ_TRIG_SRC) 0 = true) :
    Leads .trigInEdge s (fun t => t.dev.acq.trigs = s.trigged 0 s.clock.time) := by
  have hrun : s.begun.trigIn s.env = s.begun.raiseTrig s.env 0 := if_pos hsrc
  obtain ⟨_, hcalm, _⟩ := Dev.traceTrig_keeps s.env (s.begun.raiseTrig s.env 0) 1
  have hacq : ((s.begun.raiseTrig s.env 0).traceTrig s.env 1).acq = (s.begun.raiseTrig s.env 0).acq := Dev.acq_traceTrig ..
  refine leads_calm (f := fun e d => (d.trigIn e).traceTrig e 1) ((s.begun.raiseTrig s.env 0).traceTrig s.env 1) hq rfl (by rw [hrun]) (Dev.Calm.trans (d' := s.begun.raiseTrig s.env 0) ⟨rfl, rfl⟩ hcalm) fun t ht => ?_
  rw [ht.acq, hacq]
  rfl

/-- A crossing of the level inside the span of the open windows, at its attributed time (R517, R533). -/
theorem Dev.trigLevel_crosses {e : Env} {d : Dev} {i t64 : Nat} {before y : Int} {f : Flight} {x : Epoch}
    (hsrc : bit (d.o O.ACQ_TRIG_SRC) 2 = true) (hcross : d.crosses before y = true) (hf : d.jq.flight = some f) (hwins : f.wins = true)
    (hon : d.chainOn (d.o O.ACQ_LEVEL_SLICE) = true) (hx : x = (d.chain (d.o O.ACQ_LEVEL_SLICE)).now) (hstop : x.stop = none)
    (hfill : x.fill ≤ i) (hindex : i ≤ x.index (2 * e.now + 1))
    (ht64 : t64 = 64 * x.syncAt + (64 * i + x.delay % 64) * 2 ^ x.dm / x.rate) (hfrom : 64 * (f.emit + (d.blockSpan f).1) ≤ t64)
    (hto : t64 < 64 * (f.emit + (d.blockSpan f).2)) : d.trigLevel e i before y = d.raiseAt 1 (t64 / 128) := by
  subst hx ht64
  unfold Dev.trigLevel
  dsimp only
  rw [hf]
  refine if_pos ?_
  simp only [hsrc, hcross, hwins, hon, hstop, hfill, hindex, hfrom, hto, Option.isNone_none, decide_true, Bool.and_self]

theorem acqLevelCrossing_raises {i t64 : Nat} {before y : Int} {f : Flight} {x : Epoch} (hq : s.Quiet)
    (hsrc : bit (s.dev.o O.ACQ_TRIG_SRC) 2 = true) (hcross : s.dev.crosses before y = true) (hf : s.dev.jq.flight = some f)
    (hwins : f.wins = true) (hon : s.dev.chainOn (s.dev.o O.ACQ_LEVEL_SLICE) = true)
    (hx : x = (s.dev.chain (s.dev.o O.ACQ_LEVEL_SLICE)).now) (hstop : x.stop = none) (hfill : x.fill ≤ i)
    (hindex : i ≤ x.index (2 * s.clock.time + 1))
    (ht64 : t64 = 64 * x.syncAt + (64 * i + x.delay % 64) * 2 ^ x.dm / x.rate) (hfrom : 64 * (f.emit + (s.dev.blockSpan f).1) ≤ t64)
    (hto : t64 < 64 * (f.emit + (s.dev.blockSpan f).2)) :
    Leads (.acqLevelCrossing ⟨i, before, y⟩) s (fun t => t.dev.acq.trigs = s.trigged 1 (t64 / 128)) := by
  have hrun : s.begun.trigLevel s.env i before y = s.begun.raiseAt 1 (t64 / 128) :=
    Dev.trigLevel_crosses (d := s.begun) hsrc hcross hf hwins hon hx hstop hfill hindex ht64 hfrom hto
  exact leads_calm (f := fun e d => d.trigLevel e i before y) _ hq rfl hrun ⟨rfl, rfl⟩ fun t ht => congrArg Acq.trigs ht.acq

theorem acqTrigger_starts {x : Trig} (hq : s.Quiet) (hx : nextTrig s.dev.acq.trigs = some x)
    (hst : s.dev.o O.ACQ_STATE = 2 ∨ s.dev.o O.ACQ_STATE = 3) :
    Leads .acqTrigger s (fun t => t.dev.o O.ACQ_STATE = 4 ∧ t.dev.acq.trig = some x ∧
      t.dev.acq.preAct = min s.dev.acq.held.length (s.dev.o O.ACQ_PRE_COUNT) ∧ t.dev.acq.trigs = s.dev.acq.trigs.erase x) := by
  have hrun := Dev.takeTrig_eq (d := s.begun) hx
  have hs : s.begun.starting = true := by
    unfold Dev.starting
    simpa using hst
  rw [if_pos hs] at hrun
  have hmark : Dev.Streams (s.begun.drawn x) ((s.begun.drawn x).mark x s.begun.starting s.begun.missing) := Dev.streams_mark ..
  obtain ⟨y, hy⟩ : ∃ y, y = (s.begun.drawn x).mark x s.begun.starting s.begun.missing := ⟨_, rfl⟩
  rw [← hy] at hrun hmark
  have hcalm : Dev.Calm s.begun y := (Dev.calm_drawn ..).trans hmark.calm
  refine leads_calm (f := fun _ d => d.takeTrig) _ hq rfl hrun (hcalm.trans (Dev.calm_captures ..)) fun t ht =>
    ⟨(ht.o ..).trans (Dev.o_captures ..), congrArg Acq.trig ht.acq, ?_, ?_⟩
  · rw [ht.acq]
    show (y.acq.held.drop (y.acq.held.length - y.o O.ACQ_PRE_COUNT)).length = _
    rw [List.length_drop, hmark.acq, hmark.o (by decide)]
    show s.dev.acq.held.length - (s.dev.acq.held.length - s.dev.o O.ACQ_PRE_COUNT) = _
    omega
  · rw [ht.acq]
    show y.acq.trigs = _
    rw [hmark.acq]
    rfl

theorem acqTrigger_misses {x : Trig} (hq : s.Quiet) (hx : nextTrig s.dev.acq.trigs = some x) (hst : s.dev.o O.ACQ_STATE ∈ [1, 4, 5, 6]) :
    Leads .acqTrigger s (fun t => t.dev.o O.ACQ_STATE = s.dev.o O.ACQ_STATE ∧
      t.dev.o O.ACQ_TRIG_MISSED = ctrAdd O.ACQ_TRIG_MISSED 0 (s.dev.o O.ACQ_TRIG_MISSED) 1) := by
  have hrun := Dev.takeTrig_eq (d := s.begun) hx
  simp only [List.mem_cons, List.not_mem_nil, or_false] at hst
  have hs : s.begun.starting = false := by
    unfold Dev.starting
    rw [State.o_begun]
    rcases hst with hst | hst | hst | hst <;> rw [hst] <;> rfl
  have hm : s.begun.missing = true := by
    unfold Dev.missing
    simpa [or_assoc] using hst
  rw [if_neg (by rw [hs]; decide), if_pos hm] at hrun
  have hmark : Dev.Streams (s.begun.drawn x) ((s.begun.drawn x).mark x s.begun.starting s.begun.missing) := Dev.streams_mark ..
  refine leads_calm (f := fun _ d => d.takeTrig) _ hq rfl hrun (((Dev.calm_drawn ..).trans hmark.calm).trans (.inc ..)) fun t ht => ⟨?_, ?_⟩
  · rw [ht.o, Dev.o_inc_other (by decide) (by decide) (by decide), hmark.o (by decide)]
    rfl
  · rw [ht.o]
    refine (Dev.o_so_self ..).trans ?_
    rw [hmark.o (by decide)]
    rfl

end

/-- Settles O31, each command from the state it finds: the states of Table 10-6, the sources of triggers, and what becomes of the
trigger that is taken first. -/
theorem acquisition : Obligations.Acquisition :=
  ⟨fun _ _ hq => ⟨acqRunStart_starts hq, acqRunStop_stops hq, acqArm_rearms hq, acqDump_dumps hq, acqRearmDone_fills hq,
      acqCaptureDone_completes hq, acqDumpDone_ends hq⟩,
    fun _ _ hq => ⟨⟨fun _ => acqTrigForce_raises hq, trigInEdge_raises hq,
      fun _ _ _ _ _ _ => acqLevelCrossing_raises hq⟩,
      fun _ hx => ⟨acqTrigger_starts hq hx, acqTrigger_misses hq hx⟩⟩⟩

end Sys2Proof.Machine
end

section
/-! PROOF. The calibration stores (chapter 11). -/

namespace Sys2Proof.Machine

/-! ### A store put in force -/

/-- The power state, Jacquard and the sets of calibration are as before. -/
structure Dev.Restores (d d' : Dev) : Prop where
  pwr : d'.pwr = d.pwr
  jq : d'.jq = d.jq
  sets : d'.cal.sets = d.cal.sets

namespace Dev.Restores
variable {e : Env} {d d' d'' : Dev}

theorem refl (d : Dev) : Restores d d := ⟨rfl, rfl, rfl⟩

theorem trans (h : Restores d d') (k : Restores d' d'') : Restores d d'' := ⟨k.pwr.trans h.pwr, k.jq.trans h.jq, k.sets.trans h.sets⟩

theorem so (d : Dev) (i el v : Nat) : Restores d (d.so i el v) := ⟨rfl, rfl, rfl⟩

theorem log {code loc cls detail : Nat} {inj : Bool} (d : Dev) : Restores d (d.log e code loc cls detail inj) :=
  ⟨Dev.pwr_log .., Dev.jq_log .., congrArg Cal.sets (Dev.cal_log ..)⟩

theorem ite {p : Prop} [Decidable p] {a b : Dev} (ha : Restores d a) (hb : Restores d b) : Restores d (if p then a else b) := by
  split
  · exact ha
  · exact hb

theorem foldl {α : Type} {f : Dev → α → Dev} (h : ∀ d x, Restores d (f d x)) (xs : List α) (d : Dev) : Restores d (xs.foldl f d) :=
  rel_foldl refl trans h xs d

theorem calm (h : Restores d d') : Calm d d' := ⟨congrArg Jq.settle h.jq, congrArg Pwr.rstDue h.pwr⟩

end Dev.Restores

section
variable {e : Env} {d : Dev}

theorem Dev.restores_repairLost (e : Env) (d : Dev) (g : Nat) : Dev.Restores d (d.repairLost e g) := by
  refine .foldl (fun d pos => ?_) _ d
  exact .ite (.refl d) ((show Dev.Restores d { d with cal := { d.cal with noRepair := setBit d.cal.noRepair (16 * g + pos) true } } from
    ⟨rfl, rfl, rfl⟩).trans (.log _))

theorem Dev.restores_repairLand (e : Env) (d : Dev) (g v : Nat) : Dev.Restores d (d.repairLand e g v) := by
  unfold Dev.repairLand
  lift_lets
  extract_lets old c d1 rx1 d2 d3 c' rx3 d4 d5
  have h2 : Dev.Restores d d2 := .ite ⟨rfl, rfl, rfl⟩ (.refl d)
  have h3 : Dev.Restores d d3 := h2.trans (.so ..)
  have h4 : Dev.Restores d3 d4 := ⟨rfl, rfl, rfl⟩
  have h5 : Dev.Restores d d5 := .ite (h3.trans (h4.trans ⟨rfl, rfl, rfl⟩)) h3
  exact h5.trans (Dev.restores_repairLost ..)

theorem Dev.restores_repairTake (e : Env) (d : Dev) (g v : Nat) : Dev.Restores d (d.repairTake e g v) := by
  unfold Dev.repairTake
  exact .ite (.refl d) (.ite ⟨rfl, rfl, rfl⟩ (Dev.restores_repairLand ..))

theorem Dev.restores_calShow (d : Dev) (g : Nat) : Dev.Restores d (d.calShow g) := by
  unfold Dev.calShow
  refine (Dev.Restores.so d _ _ _).trans (.foldl (fun d i => ?_) _ _)
  split
  · exact ⟨rfl, rfl, rfl⟩
  · exact ⟨rfl, rfl, rfl⟩

theorem Env.groups_le (e : Env) : e.groups ≤ 32 := by
  unfold Env.groups
  cases e.part.variant <;> decide

/-- The objects that show a group's sets. -/
def setsIdx : List Nat := [O.CAL_SETS, O.CAL_SET_TEMP, O.CAL_SET_SOURCE]

theorem Dev.frame_calShow {g : Nat} (hg : g < 32) (d : Dev) : Dev.Frame setsIdx d (d.calShow g) := by
  unfold Dev.calShow
  refine (Dev.Frame.so (by omega) (by decide)).trans (.foldl (fun d i hi => ?_) _)
  have hel : 8 * g + i < 4096 := by have := List.mem_range.mp hi; omega
  split
  · exact (Dev.Frame.so hel (by decide)).trans (.so hel (by decide))
  · exact (Dev.Frame.so hel (by decide)).trans (.so hel (by decide))

/-- The sets of a store as they are in force in the groups that the part has. -/
def Env.setsOf (e : Env) (st : CalStore) : Tab (List CalSet) :=
  st.sets.foldl (fun m p => if p.1 < e.groups then tset [] m p.1 p.2 else m) []

/-- The sets in force replaced, the device items at their defaults. -/
def Dev.withSets (d : Dev) (sets : Tab (List CalSet)) : Dev :=
  { d with cal := { d.cal with sets := sets }, objs := d.objs.filter (fun p => !calItemIdx.contains (p.1 / 4096)) }

/-- A device with the content of a store, before what shows it. -/
def Dev.storeTaken (e : Env) (d : Dev) (st : CalStore) : Dev :=
  (List.range e.groups).foldl (fun d g => d.repairTake e g (((st.repairs.find? (fun p => p.1 == g)).map Prod.snd).getD 0xFF))
    (st.items.foldl (fun d p => if calItemIdx.contains p.1 then d.so p.1 p.2.1 p.2.2 else d)
      (d.withSets (e.setsOf st)))

theorem Dev.calTake_eq (e : Env) (d : Dev) (st : CalStore) (src : Nat) : d.calTake e st src =
    (List.range e.groups).foldl Dev.calShow (((d.storeTaken e st).so O.CAL_STORE_SRC 0 src).so O.CAL_STORE_SEQ 0 (st.seq % 2 ^ 32)) := rfl

theorem Dev.storeTaken_keeps (e : Env) (d : Dev) (st : CalStore) :
    (d.storeTaken e st).pwr = d.pwr ∧ (d.storeTaken e st).jq = d.jq ∧ (d.storeTaken e st).cal.sets = e.setsOf st := by
  unfold Dev.storeTaken
  have hitems : ∀ (d : Dev) (p : Nat × Nat × Nat), Dev.Restores d (if calItemIdx.contains p.1 then d.so p.1 p.2.1 p.2.2 else d) :=
    fun d p => .ite (.so ..) (.refl d)
  have h := (Dev.Restores.foldl hitems st.items (d.withSets (e.setsOf st))).trans (.foldl (fun d g => Dev.restores_repairTake e d g
    (((st.repairs.find? (fun p => p.1 == g)).map Prod.snd).getD 0xFF)) (List.range e.groups) _)
  exact ⟨h.pwr, h.jq, h.sets⟩

/-- The content of a store in force (R582, R585). -/
theorem Dev.calTake_spec (e : Env) (d : Dev) (st : CalStore) (src : Nat) : (d.calTake e st src).pwr = d.pwr ∧
    (d.calTake e st src).jq = d.jq ∧ (d.calTake e st src).cal.sets = e.setsOf st ∧ (d.calTake e st src).o O.CAL_STORE_SRC = src := by
  obtain ⟨hpwr, hjq, hsets⟩ := Dev.storeTaken_keeps e d st
  rw [Dev.calTake_eq]
  obtain ⟨y, hy⟩ : ∃ y, y = d.storeTaken e st := ⟨_, rfl⟩
  rw [← hy] at hpwr hjq hsets ⊢
  have hshow := ((Dev.Restores.so y O.CAL_STORE_SRC 0 src).trans (.so _ O.CAL_STORE_SEQ 0 (st.seq % 2 ^ 32))).trans
    (.foldl Dev.restores_calShow (List.range e.groups) _)
  have hframe := Dev.Frame.foldl (l := setsIdx) (xs := List.range e.groups) (f := Dev.calShow)
    (fun d g hg => Dev.frame_calShow (Nat.lt_of_lt_of_le (List.mem_range.mp hg) e.groups_le) d)
    ((y.so O.CAL_STORE_SRC 0 src).so O.CAL_STORE_SEQ 0 (st.seq % 2 ^ 32))
  refine ⟨hshow.pwr.trans hpwr, hshow.jq.trans hjq, hshow.sets.trans hsets, (hframe.o (by decide) (by decide)).trans ?_⟩
  rw [Dev.o_so_other (by decide) (by decide) (by decide), Dev.o_so_self]

/-! ### The flash -/

/-- A write of the field cache under way in the slot that R583 gives. -/
def Dev.saving (e : Env) (d : Dev) : Dev :=
  { d.so O.FW_FLASH_BUSY 0 1 with
      cal := { d.cal with writing := some { d.calCache e with seq := (d.calSlot e).2 }, saveDue := false, changed := false, flashAt := e.now },
      pwr := { d.pwr with flashOp := 2, flashArg := (d.calSlot e).1 } }

theorem Dev.calSave_free (h : d.pwr.flashOp = 0) : d.calSave e = d.saving e := if_neg (by simp [h])

theorem Dev.calSave_busy (h : d.pwr.flashOp ≠ 0) : d.calSave e = { d with cal := { d.cal with saveDue := true } } := if_pos (by simpa using h)

theorem Dev.calm_saving (e : Env) (d : Dev) : Dev.Calm d (d.saving e) := ⟨rfl, rfl⟩

theorem Dev.o_saving (e : Env) (d : Dev) : (d.saving e).o O.FW_FLASH_BUSY = 1 := Dev.o_so_self d O.FW_FLASH_BUSY 0 1

/-- Where both slots hold a valid store, the one of the lower sequence number is written, with the next number (R583). -/
theorem Dev.calSlot_both {a b : Nat} (ha : e.slotSeq d.cal.slotA = some a) (hb : e.slotSeq d.cal.slotB = some b) :
    d.calSlot e = if b < a then (1, b + 1) else (0, a + 1) := by
  unfold Dev.calSlot
  rw [ha, hb]

theorem Dev.calSlot_congr {d' : Dev} (h : d'.cal = d.cal) : d'.calSlot e = d.calSlot e := by
  unfold Dev.calSlot
  rw [h]

theorem Dev.calErase_free (h : d.pwr.flashOp = 0) : d.calErase =
    { d.so O.FW_FLASH_BUSY 0 1 with pwr := { d.pwr with flashOp := 3 }, cal := { d.cal with eraseDue := false } } := if_neg (by simp [h])

theorem Dev.calErase_busy (h : d.pwr.flashOp ≠ 0) : d.calErase = { d with cal := { d.cal with eraseDue := true } } :=
  if_pos (by simpa using h)

theorem Dev.calSaveNext_idle (hsave : d.cal.saveDue = false) (herase : d.cal.eraseDue = false) : d.calSaveNext e = d := by
  unfold Dev.calSaveNext
  rw [hsave, herase]
  split <;> rfl

/-- The field slots once the write of the cache has ended. -/
def Dev.slotsWritten (d : Dev) : Cal :=
  if d.pwr.flashArg == 0 then { d.cal with slotA := d.cal.writing, badSlots := setBit d.cal.badSlots 0 false }
  else { d.cal with slotB := d.cal.writing, badSlots := setBit d.cal.badSlots 1 false }

/-- The write of the field cache has ended. -/
def Dev.saved (d : Dev) : Dev :=
  { ((d.inc O.CAL_FLASH_WRITES).so O.FW_FLASH_BUSY 0 0).so O.CAL_STORE_SEQ 0 (((d.cal.writing.map CalStore.seq).getD 0) % 2 ^ 32) with
      cal := { d.slotsWritten with writing := none }, pwr := { d.pwr with flashOp := 0 } }

theorem Dev.slotsWritten_dues (d : Dev) : d.slotsWritten.saveDue = d.cal.saveDue ∧ d.slotsWritten.eraseDue = d.cal.eraseDue ∧
    (if d.pwr.flashArg = 0 then d.slotsWritten.slotA else d.slotsWritten.slotB) = d.cal.writing := by
  unfold Dev.slotsWritten
  by_cases h : d.pwr.flashArg = 0
  · simp [h]
  · simp [h]

theorem Dev.calFlashDone_save (hop : d.pwr.flashOp = 2) (hsave : d.cal.saveDue = false) (herase : d.cal.eraseDue = false) :
    d.calFlashDone e = d.saved := by
  obtain ⟨hs, he, _⟩ := d.slotsWritten_dues
  have heq : d.calFlashDone e = d.saved.calSaveNext e := by
    unfold Dev.calFlashDone
    rw [hop]
    rfl
  rw [heq]
  exact Dev.calSaveNext_idle (hs.trans hsave) (he.trans herase)

/-- The erase of both field slots has ended. -/
def Dev.slotsErased (d : Dev) : Dev :=
  { d.so O.FW_FLASH_BUSY 0 0 with
      cal := { d.cal with slotA := none, slotB := none, badSlots := 0 }, pwr := { d.pwr with flashOp := 0 } }

theorem Dev.calFlashDone_erase (hop : d.pwr.flashOp = 3) (hsave : d.cal.saveDue = false) (herase : d.cal.eraseDue = false) :
    d.calFlashDone e = d.slotsErased := by
  have heq : d.calFlashDone e = d.slotsErased.calSaveNext e := by
    unfold Dev.calFlashDone
    rw [hop]
    rfl
  rw [heq]
  exact Dev.calSaveNext_idle hsave herase

theorem Dev.landEl_calSave (e : Env) (d : Dev) (ss v : Nat) : d.landEl e ss O.CAL_SAVE 0 v = d.calSave e := rfl

theorem Dev.landEl_calRestore (e : Env) (d : Dev) (ss v : Nat) : d.landEl e ss O.CAL_RESTORE_FACTORY 0 v = d.calRestore e := rfl

end

/-! ### The commands -/

section
variable {s : State} {h : Hdr}

theorem calSave_writes (hq : s.Quiet) (ha : Accepts s h O.CAL_SAVE 0 1) (hfree : s.dev.pwr.flashOp = 0) :
    Leads (.calSave h) s (fun t => t.dev.pwr.flashOp = 2 ∧ t.dev.o O.FW_FLASH_BUSY = 1 ∧
      t.dev.pwr.flashArg = (Dev.calSlot s.env s.dev).1 ∧
      ∃ st, t.dev.cal.writing = some st ∧ st.sets = s.dev.cal.sets ∧ st.seq = (Dev.calSlot s.env s.dev).2 ∧
        ∀ a b, s.env.slotSeq s.dev.cal.slotA = some a → s.env.slotSeq s.dev.cal.slotB = some b →
          (a < b → t.dev.pwr.flashArg = 0 ∧ st.seq = a + 1) ∧ (b < a → t.dev.pwr.flashArg = 1 ∧ st.seq = b + 1)) := by
  have hslot := Dev.calSlot_congr (e := s.env) (State.cal_asked s h O.CAL_SAVE 0)
  have hrun : (s.asked h O.CAL_SAVE 0).landEl s.env h.sess O.CAL_SAVE 0 1 = (s.asked h O.CAL_SAVE 0).saving s.env :=
    (Dev.landEl_calSave ..).trans (Dev.calSave_free (by rw [State.pwr_asked]; exact hfree))
  refine leads_lands _ hq ha rfl (by decide) hrun (Dev.calm_saving ..) fun t ht => ?_
  have harg : t.dev.pwr.flashArg = (Dev.calSlot s.env s.dev).1 := (congrArg Pwr.flashArg ht.pwr).trans (congrArg Prod.fst hslot)
  have hseq : ((s.asked h O.CAL_SAVE 0).calSlot s.env).2 = (Dev.calSlot s.env s.dev).2 := congrArg Prod.snd hslot
  refine ⟨congrArg Pwr.flashOp ht.pwr, (ht.o (by decide) (by decide)).trans (Dev.o_saving ..), harg, _, congrArg Cal.writing ht.cal,
    congrArg Cal.sets (State.cal_asked ..), hseq, fun a b hA hB => ?_⟩
  have hboth := Dev.calSlot_both hA hB
  rw [hboth] at harg hseq
  refine ⟨fun hab => ?_, fun hba => ?_⟩
  · rw [if_neg (by omega)] at harg hseq
    exact ⟨harg, hseq⟩
  · rw [if_pos hba] at harg hseq
    exact ⟨harg, hseq⟩

theorem calSave_waits (hq : s.Quiet) (ha : Accepts s h O.CAL_SAVE 0 1) (hbusy : s.dev.pwr.flashOp ≠ 0) :
    Leads (.calSave h) s (fun t => t.dev.cal.saveDue = true ∧ t.dev.pwr.flashOp = s.dev.pwr.flashOp) := by
  have hrun := (Dev.landEl_calSave s.env (s.asked h O.CAL_SAVE 0) h.sess 1).trans (Dev.calSave_busy (by rw [State.pwr_asked]; exact hbusy))
  refine leads_lands _ hq ha rfl (by decide) hrun ⟨rfl, rfl⟩ fun t ht => ⟨congrArg Cal.saveDue ht.cal, ?_⟩
  exact congrArg Pwr.flashOp (ht.pwr.trans (State.pwr_asked s h O.CAL_SAVE 0))

theorem calFlashPeriod_writes (hq : s.Quiet) (hchanged : s.dev.cal.changed = true) (hfree : s.dev.pwr.flashOp = 0)
    (hdue : s.dev.cal.flashAt + s.dev.o O.CAL_FLASH_PERIOD_S * 1500000000 ≤ s.clock.time) :
    Leads .calFlashPeriod s (fun t => t.dev.pwr.flashOp = 2 ∧ t.dev.cal.changed = false ∧ t.dev.cal.flashAt = s.clock.time) := by
  have hrun : s.begun.calFlashPeriod s.env = s.begun.saving s.env := by
    refine (if_pos ?_).trans (Dev.calSave_free hfree)
    show (s.dev.cal.changed && s.dev.pwr.flashOp == 0 &&
      decide (s.dev.cal.flashAt + s.dev.o O.CAL_FLASH_PERIOD_S * 1500000000 ≤ s.clock.time)) = true
    rw [hchanged, hfree, decide_eq_true hdue]
    rfl
  exact leads_calm _ hq rfl hrun (Dev.calm_saving ..) fun t ht =>
    ⟨congrArg Pwr.flashOp ht.pwr, congrArg Cal.changed ht.cal, congrArg Cal.flashAt ht.cal⟩

theorem calFlashWriteDone_fills (hq : s.Quiet) (hop : s.dev.pwr.flashOp = 2) (hsave : s.dev.cal.saveDue = false)
    (herase : s.dev.cal.eraseDue = false) :
    Leads .calFlashWriteDone s (fun t => t.dev.pwr.flashOp = 0 ∧ t.dev.o O.FW_FLASH_BUSY = 0 ∧
      (if s.dev.pwr.flashArg = 0 then t.dev.cal.slotA else t.dev.cal.slotB) = s.dev.cal.writing ∧
      t.dev.o O.CAL_FLASH_WRITES = ctrAdd O.CAL_FLASH_WRITES 0 (s.dev.o O.CAL_FLASH_WRITES) 1) := by
  obtain ⟨_, _, hslot⟩ := s.begun.slotsWritten_dues
  refine leads_calm _ hq rfl (Dev.calFlashDone_save (e := s.env) (d := s.begun) hop hsave herase) ⟨rfl, rfl⟩ fun _ ht =>
    ⟨congrArg Pwr.flashOp ht.pwr, (ht.o ..).trans ?_, ?_, (ht.o ..).trans ?_⟩
  · show (((s.begun.inc O.CAL_FLASH_WRITES).so O.FW_FLASH_BUSY 0 0).so O.CAL_STORE_SEQ 0 _).o O.FW_FLASH_BUSY = 0
    rw [Dev.o_so_other (by decide) (by decide) (by decide), Dev.o_so_self]
  · rw [ht.cal]
    exact hslot
  · show (((s.begun.inc O.CAL_FLASH_WRITES).so O.FW_FLASH_BUSY 0 0).so O.CAL_STORE_SEQ 0 _).o O.CAL_FLASH_WRITES = _
    rw [Dev.o_so_other (by decide) (by decide) (by decide), Dev.o_so_other (by decide) (by decide) (by decide)]
    exact Dev.o_so_self ..

theorem calFlashWriteDone_erases (hq : s.Quiet) (hop : s.dev.pwr.flashOp = 3) (hsave : s.dev.cal.saveDue = false)
    (herase : s.dev.cal.eraseDue = false) :
    Leads .calFlashWriteDone s (fun t => t.dev.pwr.flashOp = 0 ∧ t.dev.cal.slotA = none ∧ t.dev.cal.slotB = none) :=
  leads_calm _ hq rfl (Dev.calFlashDone_erase (e := s.env) (d := s.begun) hop hsave herase) ⟨rfl, rfl⟩ fun _ ht =>
    ⟨congrArg Pwr.flashOp ht.pwr, congrArg Cal.slotA ht.cal, congrArg Cal.slotB ht.cal⟩

/-! ### The factory store (R584) -/

/-- The row of CAL_FACTORY_STORE. -/
def factoryRow : ObjRow := ⟨O.CAL_FACTORY_STORE, [(0, 0)], .dom, .rws, .stop, false, 0, [], 0, 0⟩

theorem Dev.domRow_factory (e : Env) (d : Dev) : d.domRow e O.CAL_FACTORY_STORE 0 = .inr factoryRow := by
  have hpres : d.pres e O.CAL_FACTORY_STORE 0 = .ok := by
    unfold Dev.pres
    cases e.part.variant <;> rfl
  unfold Dev.domRow Dev.presAbort
  simp only [runEls_one, List.map_cons, List.map_nil, hpres]
  rfl

theorem Dev.domDone_factory {e : Env} {d : Dev} {n : Nat} {bs : Bytes} (hn : n < 4) (hfree : d.o O.LOCK_OWNER = 0xFF)
    (hcommit : d.commit = none) : d.domDone e n factoryRow 0 bs = match storeOf e.part.fuse bs with
      | some st => (okAns e.now [], d.calFactory bs st)
      | none => (refuse (11, 14), d) := by
  obtain ⟨hstg, hcom⟩ := Dev.domDone_free (idx := O.CAL_FACTORY_STORE) (el := 0) hn hfree hcommit
  have hab : d.domAbort e O.CAL_FACTORY_STORE bs = if (storeOf e.part.fuse bs).isSome then none else some (11, 14) := rfl
  have hland : d.writeDom e factoryRow 0 bs = match storeOf e.part.fuse bs with
      | some st => d.calFactory bs st
      | none => d := rfl
  unfold Dev.domDone
  rw [hland]
  unfold factoryRow
  dsimp only
  rw [hab]
  cases storeOf e.part.fuse bs with
  | none => rfl
  | some st =>
    simp only [hstg, hcom, Option.isSome_some, if_true, Bool.false_eq_true, if_false]
    rfl

theorem Dev.calm_calFactory (d : Dev) (bs : Bytes) (st : CalStore) : Dev.Calm d (d.calFactory bs st) := by
  have h : Dev.Calm d (d.clearDom O.CAL_FACTORY_STORE 0) := ⟨by rw [Dev.jq_clearDom], by rw [Dev.pwr_clearDom]⟩
  exact (h.trans (Dev.calm_setDom _ O.CAL_FACTORY_STORE 0 0 bs)).trans ⟨rfl, rfl⟩

theorem calFactoryStore_programs {bs : Bytes} (hq : s.Quiet) (hs : Served s h O.CAL_FACTORY_STORE) (hfree : s.dev.o O.LOCK_OWNER = 0xFF)
    (hcommit : s.dev.commit = none) (hjq : s.dev.o O.JQ_STATE = 0) (hpos : 1 ≤ bs.length) (hlen : bs.length ≤ 512) :
    Leads (.calFactoryStore h 0 (leBytes 4 bs.length ++ bs ++ leBytes 4 (crc32 bs))) s (fun t =>
      match storeOf s.part.fuse bs with
      | some st => t.dev.cal.factory = some st ∧ ∀ i, i < bs.length → t.dev.domByte O.CAL_FACTORY_STORE 0 i = bs.getD i 0
      | none => t.dev.cal.factory = s.dev.cal.factory ∧
          (t.dev.sess h.sess).stored.head?.map (fun x => (x.resp.drop 6).take 2) = some [11, 14]) := by
  have hdone := Dev.domDone_factory (e := s.env) (n := h.sess) (d := s.blockDone h.sess) (bs := bs) hs.1
    ((State.o_blockDone ..).trans hfree) ((State.commit_blockDone ..).trans hcommit)
  have hstop : factoryRow.stopped = true → ((s.atRequest h.sess).bwFresh s.env h.sess).running O.CAL_FACTORY_STORE 0 = false := fun _ => by
    show (((s.atRequest h.sess).bwFresh s.env h.sess).o O.JQ_STATE != 0) = false
    rw [Dev.o_bwFresh, State.o_atRequest, hjq]
    rfl
  have hok : domLenOk ((s.atRequest h.sess).bwFresh s.env h.sess) O.CAL_FACTORY_STORE bs.length = true := by
    show (decide (1 ≤ bs.length) && decide (bs.length ≤ 524288)) = true
    simp only [Bool.and_eq_true, decide_eq_true_eq]
    omega
  have hset : (s.blockDone h.sess).jq.settle = false := by rw [State.jq_blockDone]; exact hq.1
  have hrst : (s.blockDone h.sess).pwr.rstDue = none := by rw [State.pwr_blockDone]; exact hq.2.1
  have hfuse : s.env.part.fuse = s.part.fuse := rfl
  rw [hfuse] at hdone
  cases hst : storeOf s.part.fuse bs with
  | some st =>
    rw [hst] at hdone
    have hcalm := Dev.calm_calFactory (s.blockDone h.sess) bs st
    refine leads_writeBlock (bs := bs) _ rfl hs hfree (Dev.domRow_factory ..) (by decide) hstop hlen hok rfl hdone
      (hcalm.settle.trans hset) (hcalm.rstDue.trans hrst) fun t ht _ => ⟨congrArg Cal.factory ht.cal, fun i hi => ?_⟩
    rw [Dev.domByte_congr ht.doms]
    refine (Dev.domByte_setDom (d := (s.blockDone h.sess).clearDom O.CAL_FACTORY_STORE 0) i).trans ?_
    rw [if_pos (by omega), Nat.sub_zero]
  | none =>
    rw [hst] at hdone
    have hin := Dev.blockIn_refused (q := reqTo h O.CAL_FACTORY_STORE 0 0 (wholeBlock bs)) (ab := (11, 14)) rfl hlen rfl hdone rfl
    refine leads_wholeBlock (bs := bs) ((s.blockDone h.sess).setBw h.sess none) rfl hs hfree (Dev.domRow_factory ..) (by decide) hstop hlen hok
      hin (by rw [Dev.setBw_eq]; exact hset) (by rw [Dev.setBw_eq]; exact hrst) fun t ht => ⟨?_, ?_⟩
    · rw [ht.cal, Dev.setBw_eq, State.blockDone_eq, State.atRequest_eq]
    · have hans : (t.dev.sess h.sess).stored.head? = _ := ht.answered (by rw [Dev.ses_length_setBw]; exact State.sess_blockDone s hs)
      rw [hans]
      rfl

theorem calRestoreFactory_restores (hq : s.Quiet) (ha : Accepts s h O.CAL_RESTORE_FACTORY 0 1) :
    Leads (.calRestoreFactory h) s (fun t =>
      (s.dev.pwr.flashOp = 0 → t.dev.pwr.flashOp = 3 ∧ t.dev.o O.FW_FLASH_BUSY = 1) ∧
      (s.dev.pwr.flashOp ≠ 0 → t.dev.pwr.flashOp = s.dev.pwr.flashOp ∧ t.dev.cal.eraseDue = true) ∧
      t.dev.o O.CAL_STORE_SRC = (if s.dev.cal.factory = none then 0 else 1) ∧ (s.dev.cal.factory = none → t.dev.cal.sets = [])) := by
  obtain ⟨d, hd⟩ : ∃ d, d = s.asked h O.CAL_RESTORE_FACTORY 0 := ⟨_, rfl⟩
  have hcal : d.cal = s.dev.cal := by rw [hd, State.cal_asked]
  have hpwr : d.pwr = s.dev.pwr := by rw [hd, State.pwr_asked]
  have hstore : ∃ st src, d.calRestore s.env = (({ d.calTake s.env st src with
      cal := { (d.calTake s.env st src).cal with changed := false } } : Dev)).calErase ∧
      src = (if s.dev.cal.factory = none then 0 else 1) ∧ (s.dev.cal.factory = none → s.env.setsOf st = []) := by
    refine ⟨_, _, rfl, ?_, fun hnone => ?_⟩
    · rw [hcal]
      cases s.dev.cal.factory <;> rfl
    · rw [hcal, hnone]
      rfl
  obtain ⟨st, src, hrun, hsrc, hsets⟩ := hstore
  obtain ⟨tpwr, tjq, tsets, tsrc⟩ := Dev.calTake_spec s.env d st src
  obtain ⟨y, hy⟩ : ∃ y, y = d.calTake s.env st src := ⟨_, rfl⟩
  rw [← hy] at hrun tpwr tjq tsets tsrc
  have hop : y.pwr.flashOp = s.dev.pwr.flashOp := by rw [tpwr, hpwr]
  have hland : d.landEl s.env h.sess O.CAL_RESTORE_FACTORY 0 1 = _ := (Dev.landEl_calRestore ..).trans hrun
  have hcalm : Dev.Calm d y := ⟨congrArg Jq.settle tjq, congrArg Pwr.rstDue tpwr⟩
  rw [hd] at hland hcalm
  by_cases hfree : s.dev.pwr.flashOp = 0
  · rw [Dev.calErase_free (d := { y with cal := { y.cal with changed := false } }) (hop.trans hfree)] at hland
    refine leads_lands _ hq ha rfl (by decide) hland ⟨hcalm.settle, hcalm.rstDue⟩ fun t ht =>
      ⟨fun _ => ⟨congrArg Pwr.flashOp ht.pwr, (ht.o (by decide) (by decide)).trans (Dev.o_so_self y O.FW_FLASH_BUSY 0 1)⟩,
        fun hn => absurd hfree hn, (ht.o (by decide) (by decide)).trans ?_, fun hnone => (congrArg Cal.sets ht.cal).trans (tsets.trans (hsets hnone))⟩
    exact (Dev.o_so_other (d := y) (i := O.FW_FLASH_BUSY) (a := 0) (v := 1) (by decide) (by decide) (by decide)).trans (tsrc.trans hsrc)
  · rw [Dev.calErase_busy (d := { y with cal := { y.cal with changed := false } }) (hop.symm ▸ hfree)] at hland
    refine leads_lands _ hq ha rfl (by decide) hland ⟨hcalm.settle, hcalm.rstDue⟩ fun t ht =>
      ⟨fun hf => absurd hf hfree, fun _ => ⟨(congrArg Pwr.flashOp ht.pwr).trans hop, congrArg Cal.eraseDue ht.cal⟩,
        (ht.o (by decide) (by decide)).trans (tsrc.trans hsrc), fun hnone => (congrArg Cal.sets ht.cal).trans (tsets.trans (hsets hnone))⟩

/-- Settles O33, each command by what it leaves of the flash and of the stores. -/
theorem calibrationStores : Obligations.CalibrationStores :=
  fun _ _ hq => ⟨calSave_writes hq, calSave_waits hq, calFlashPeriod_writes hq, calFlashWriteDone_fills hq, calFlashWriteDone_erases hq,
    fun _ hs hfree hcommit hjq hpos hlen => calFactoryStore_programs hq hs hfree hcommit hjq hpos hlen, calRestoreFactory_restores hq⟩

end

end Sys2Proof.Machine
end

section
/-! PROOF. Segments, alignment columns and the time exchange (chapter 14). -/

namespace Sys2Proof.Machine

/-! ### The packet that sends next (R710) -/

/-- Of two packets the one of higher priority, the earlier of equals. -/
def higher (m : Option Packet) (p : Packet) : Option Packet :=
  match m with
  | none => some p
  | some q => if pktPrio p < pktPrio q then some p else some q

theorem foldl_higher_le {l : List Packet} {m : Option Packet} {p : Packet} (h : l.foldl higher m = some p) :
    (∀ q ∈ l, pktPrio p ≤ pktPrio q) ∧ ∀ q, m = some q → pktPrio p ≤ pktPrio q := by
  induction l generalizing m with
  | nil => exact ⟨fun _ hq => absurd hq (by simp), fun q hq => by rw [List.foldl_nil, hq] at h; exact Nat.le_of_eq (by rw [Option.some.inj h])⟩
  | cons x l ih =>
    obtain ⟨htail, hhead⟩ := ih h
    cases m with
    | none =>
      exact ⟨fun q hq => (List.mem_cons.mp hq).elim (fun e => e ▸ hhead x rfl) (htail q), fun _ hq => nomatch hq⟩
    | some y =>
      by_cases hlt : pktPrio x < pktPrio y
      · have hx := hhead x (if_pos hlt)
        exact ⟨fun q hq => (List.mem_cons.mp hq).elim (fun e => e ▸ hx) (htail q), fun q hq => by obtain rfl := Option.some.inj hq; omega⟩
      · have hy := hhead y (if_neg hlt)
        refine ⟨fun q hq => (List.mem_cons.mp hq).elim (fun e => ?_) (htail q), fun q hq => by obtain rfl := Option.some.inj hq; exact hy⟩
        subst e
        omega

theorem Dev.choose_highest {d : Dev} {p : Packet} (h : d.choose = some p) : ∀ q ∈ d.heads, d.ready q = true → pktPrio p ≤ pktPrio q :=
  fun q hq hr => (foldl_higher_le (m := none) h).1 q (List.mem_filter.mpr ⟨hq, hr⟩)

/-! ### What the lanes depend on -/

/-- The transmit lanes stand as before: the symbols put on them, their rate and polarities, and the pairs that are to come. -/
structure Dev.Lined (d d' : Dev) : Prop where
  cols : d'.link.cols = d.link.cols
  disp : d'.link.disp = d.link.disp
  pairs : d'.link.pairs = d.link.pairs
  tsNext : d'.link.tsNext = d.link.tsNext
  readyAt : d'.link.readyAt = d.link.readyAt
  o : ∀ {i el}, i ∈ [O.LINK_RATE, O.LINK_TS_PERIOD_MS, O.LANE_POLARITY, O.LINK_ACTIVE_TX] → el < 4096 → d'.o i el = d.o i el

section
variable {e : Env} {d d' : Dev}

theorem Dev.Lined.nextColumn (h : Dev.Lined d d') : d'.nextColumn e = d.nextColumn e := by
  unfold Dev.nextColumn
  rw [h.readyAt, h.o (by decide) (by decide)]

theorem Dev.Lined.txLanes (h : Dev.Lined d d') : d'.txLanes = d.txLanes := by
  unfold Dev.txLanes
  rw [h.o (by decide) (by decide)]

theorem Dev.Lined.idleTo (h : Dev.Lined d d') (c : Nat) : Dev.Lined (d.idleTo c) (d'.idleTo c) := by
  refine ⟨congrArg (max c) h.cols, ?_, h.pairs, h.tsNext, h.readyAt, h.o⟩
  unfold Dev.idleTo
  dsimp only
  rw [h.cols, h.disp, h.o (by decide) (by decide)]

theorem Dev.Lined.pairMarked (h : Dev.Lined d d') (m : Nat) : d'.pairMarked m = d.pairMarked m := by
  unfold Dev.pairMarked Dev.colCycles
  rw [h.tsNext, h.readyAt, h.o (by decide) (by decide), h.o (by decide) (by decide)]

theorem Dev.Lined.withPairs (h : Dev.Lined d d') (c n m : Nat) (used : Bool) (l : List (List LineSym)) :
    d'.withPairs c n m used l = d.withPairs c n m used l := by
  induction n generalizing m used l with
  | zero => rfl
  | succ n ih =>
    unfold Dev.withPairs
    dsimp only
    rw [h.pairMarked, ih]

theorem Dev.Lined.onBalls (h : Dev.Lined d d') {lanes : List Nat} (hl : ∀ l ∈ lanes, l < 4096) (gs : List (List Nat)) :
    d'.onBalls lanes gs = d.onBalls lanes gs := by
  unfold Dev.onBalls Dev.ob
  refine List.map_congr_left fun p hp => ?_
  rw [h.o (by decide) (hl _ (List.of_mem_zip hp).1)]

theorem Dev.Lined.putSyms (h : Dev.Lined d d') {l : List (Nat × List LineSym)} (hl : ∀ p ∈ l, p.1 < 4096) :
    (d'.putSyms l).1 = (d.putSyms l).1 := by
  unfold Dev.putSyms
  dsimp only
  rw [h.cols, h.pairs, h.disp, h.withPairs, h.onBalls fun i hi => ?_]
  obtain ⟨p, hp, rfl⟩ := List.mem_map.mp hi
  exact hl p hp

end

/-! ### A segment starts -/

section
variable {e : Env} {d : Dev} {p : Packet}

/-- The objects that the scheduling of a segment changes. -/
def segIdx : List Nat := [O.LINK_TX_SEGMENTS, O.LINK_ACQ_BALANCE]

theorem Dev.Lined.of_frame {d' : Dev} (h : Dev.Frame segIdx d d') (hl : d'.link.cols = d.link.cols ∧ d'.link.disp = d.link.disp ∧
    d'.link.pairs = d.link.pairs ∧ d'.link.tsNext = d.link.tsNext ∧ d'.link.readyAt = d.link.readyAt) : Dev.Lined d d' := by
  obtain ⟨hcols, hdisp, hpairs, hts, hready⟩ := hl
  have hdisj : ∀ i ∈ [O.LINK_RATE, O.LINK_TS_PERIOD_MS, O.LANE_POLARITY, O.LINK_ACTIVE_TX], i ∉ segIdx := by decide
  exact ⟨hcols, hdisp, hpairs, hts, hready, fun hi hel => h.o hel (hdisj _ hi)⟩

theorem Dev.ite_so_parts (d : Dev) (c : Prop) [Decidable c] (i el v : Nat) : (if c then d.so i el v else d).link = d.link ∧
    (if c then d.so i el v else d).sent = d.sent ∧ Dev.Calm d (if c then d.so i el v else d) := by
  split
  · exact ⟨rfl, rfl, rfl, rfl⟩
  · exact ⟨rfl, rfl, rfl, rfl⟩

/-- The bytes of a packet's first segment with the credits owed (R697, R714). -/
def Dev.firstSeg (d : Dev) (p : Packet) : Bytes :=
  segBytes (segHeader p.ty true (segLast p 0) (segPayload p 0).length 0 (d.mseqOf p.ty) (satN 15 d.link.owed) 0) (segPayload p 0)

/-- The groups of a segment on the balls, from the next column on. -/
def Dev.segGroups (e : Env) (d : Dev) (bs : Bytes) : List (List Nat) :=
  ((d.idleTo (d.nextColumn e)).putSyms
    ((laneList (d.o O.LINK_ACTIVE_TX)).zip ((stripe d.txLanes bs).map (segSyms ((bs.length + d.txLanes - 1) / d.txLanes))))).1

theorem Dev.Lined.segGroups {d' : Dev} (h : Dev.Lined d d') (bs : Bytes) : d'.segGroups e bs = d.segGroups e bs := by
  unfold Dev.segGroups
  rw [h.nextColumn, h.txLanes, h.o (by decide) (by decide), (h.idleTo _).putSyms fun p hp => ?_]
  have hlane := List.mem_range.mp (List.mem_filter.mp (List.of_mem_zip hp).1).1
  omega

/-- A segment is on the lanes. -/
structure Dev.Launched (e : Env) (d : Dev) (p : Packet) (bs : Bytes) (d' : Dev) : Prop where
  sent : d'.sent = d.sent ++ [.segment (d.o O.LINK_ACTIVE_TX) (stripe d.txLanes bs) (d.segGroups e bs)]
  flight : d'.link.flight = some (p, bs)
  endAt : d'.link.endAt = d'.columnEnd d'.link.cols
  txq : d'.link.txq = d.link.txq
  owed : d'.link.owed = d.link.owed
  calm : Dev.Calm d d'

theorem Dev.launch_spec (e : Env) (d : Dev) (p : Packet) (bs : Bytes) : Dev.Launched e d p bs (d.launch e p bs) :=
  ⟨rfl, rfl, rfl, rfl, rfl, ⟨rfl, rfl⟩⟩

/-- The SYNC_FU that a packet carries leaves with the end of its segment. -/
def Dev.syncLeaves (d : Dev) (p : Packet) : Dev :=
  if p.kind == 6 then
    { d with link := { d.link with syncs := d.link.syncs.map (fun t => if t.tseq == p.tag then { t with left := some d.link.endAt } else t) } }
  else d

theorem Dev.Launched.syncLeaves {d' : Dev} {bs : Bytes} (h : Dev.Launched e d p bs d') : Dev.Launched e d p bs (d'.syncLeaves p) := by
  unfold Dev.syncLeaves
  split
  · exact ⟨h.sent, h.flight, h.endAt, h.txq, h.owed, ⟨h.calm.settle, h.calm.rstDue⟩⟩
  · exact h

/-- A packet of which nothing has left starts: what of it is taken off the queues, and its first segment goes onto the lanes. -/
theorem Dev.startSeg_first (e : Env) (hpart : d.link.part = []) (hty : p.ty < 4096) : ∃ y, Dev.Lined d y ∧ y.sent = d.sent ∧ Dev.Calm d y ∧
    y.link.txq = d.link.txq.erase p ∧ y.link.owed = d.link.owed - satN 15 d.link.owed ∧
    d.startSeg e p = (y.launch e p (d.firstSeg p)).syncLeaves p := by
  have hnone : d.link.part.find? (fun s => s.pkt.ty == p.ty) = none := by rw [hpart]; rfl
  have hseg : d.nextOf p = 0 := by
    unfold Dev.nextOf
    rw [hnone]
  unfold Dev.startSeg
  rw [hseg, hnone]
  extract_lets run mseq seg pay last gcr bs l part' l' d1 d2 d3
  have h1 : Dev.Frame segIdx d d1 := .trans (d' := { d with link := l' }) (.of_objs rfl) (.inc hty (by decide))
  have h2 : Dev.Frame segIdx d1 d2 := .ite (.so (by decide) (by decide)) (.refl _ d1)
  obtain ⟨hlink, hsent, hcalm⟩ : d2.link = d1.link ∧ d2.sent = d1.sent ∧ Dev.Calm d1 d2 := Dev.ite_so_parts d1 ..
  exact ⟨d2, .of_frame (h1.trans h2) (by rw [hlink]; exact ⟨rfl, rfl, rfl, rfl, rfl⟩), hsent, ⟨hcalm.settle, hcalm.rstDue⟩,
    by rw [hlink]; rfl, by rw [hlink]; rfl, rfl⟩

end

/-! ### Alignment pairs (R689, R694) -/

section
variable {e : Env} {d : Dev}

/-- An alignment pair leaves: what is sent, the pair counted, swing and taps loaded. -/
structure Dev.Paired (d d' : Dev) (marker : Bool) : Prop where
  free : d.pairInner = none → ∃ skip, d'.sent = d.sent ++ [.column 3 (d.onBalls (laneList (d.o O.LINK_ACTIVE_TX))
    (codeLanes (d.idleTo (2048 * d.link.pairs)).link.disp ((laneList (d.o O.LINK_ACTIVE_TX)).map (fun l => (l, [.special 3])))).1),
    .column (if marker then 1 else 0) skip]
  inner : ∀ q, d.pairInner = some q → d'.sent = d.sent ++ [.column 3 q.first, .column (if q.marker then 1 else 0) q.second]
  pairs : d'.link.pairs = d.link.pairs + 1
  taps : d'.link.taps = d.tapsSet (d.o O.LINK_ACTIVE_TX)
  link : d'.link = { d.link with
    disp := d'.link.disp, cols := d'.link.cols, inner := d'.link.inner, taps := d'.link.taps, pairs := d'.link.pairs }
  rest : d' = { d with sent := d'.sent, link := d'.link }

theorem Dev.sendPair_inner {q : PairCol} (h : d.pairInner = some q) (marker : Bool) : d.sendPair marker =
    ({ (d.send (.column 3 q.first)).send (.column (if q.marker then 1 else 0) q.second) with
      link := { d.link with inner := d.link.inner.filter (fun p => p.num != q.num) } } : Dev).loadTaps := by
  unfold Dev.sendPair
  rw [h]
  rfl

theorem Dev.sendPair_free (h : d.pairInner = none) (marker : Bool) :
    d.sendPair marker = ((d.sendColumn (2048 * d.link.pairs) 3).sendColumn 0 (if marker then 1 else 0)).loadTaps := by
  unfold Dev.sendPair
  rw [h]

/-- No more has changed than what has left, and the columns and disparities of the lanes. -/
structure Dev.Columned (d d' : Dev) : Prop where
  link : d'.link = { d.link with disp := d'.link.disp, cols := d'.link.cols }
  rest : d' = { d with sent := d'.sent, link := d'.link }

theorem Dev.columned_sendColumn (d : Dev) (c k : Nat) : Dev.Columned d (d.sendColumn c k) := ⟨rfl, rfl⟩

theorem Dev.Columned.trans {d d' d'' : Dev} (h : Dev.Columned d d') (k : Dev.Columned d' d'') : Dev.Columned d d'' :=
  ⟨by rw [k.link, h.link], by rw [k.rest, h.rest]⟩

theorem Dev.Columned.loadTaps {d d' : Dev} (h : Dev.Columned d d') :
    d'.loadTaps.link.pairs = d.link.pairs + 1 ∧ d'.loadTaps.link.taps = d.tapsSet (d.o O.LINK_ACTIVE_TX) ∧
    d'.loadTaps.link = { d.link with
      disp := d'.loadTaps.link.disp, cols := d'.loadTaps.link.cols, inner := d'.loadTaps.link.inner, taps := d'.loadTaps.link.taps, pairs := d'.loadTaps.link.pairs } ∧
    d'.loadTaps = { d with sent := d'.loadTaps.sent, link := d'.loadTaps.link } := by
  have hobjs : d'.objs = d.objs := by rw [h.rest]
  have htaps : d'.link.taps = d.link.taps := by rw [h.link]
  refine ⟨?_, ?_, ?_, ?_⟩
  · show d'.link.pairs + 1 = _
    rw [h.link]
  · show d'.tapsSet (d'.o O.LINK_ACTIVE_TX) = _
    unfold Dev.tapsSet Dev.o
    rw [hobjs, htaps]
  · have hinner : d'.loadTaps.link.inner = d.link.inner := by
      show d'.link.inner = _
      rw [h.link]
    have hpairs : d'.loadTaps.link.pairs = d.link.pairs + 1 := by
      show d'.link.pairs + 1 = _
      rw [h.link]
    show ({ d'.link with taps := _, pairs := _ } : Link) = _
    rw [hinner, hpairs, h.link]
    rfl
  · show ({ d' with link := _ } : Dev) = _
    rw [h.rest]
    rfl

theorem Dev.sendPair_spec (d : Dev) (marker : Bool) : Dev.Paired d (d.sendPair marker) marker := by
  cases hq : d.pairInner with
  | some q =>
    rw [Dev.sendPair_inner hq]
    refine ⟨fun h => absurd (hq.symm.trans h) (by simp), fun p h => ?_, rfl, rfl, rfl, rfl⟩
    obtain rfl : q = p := Option.some.inj (hq.symm.trans h)
    exact List.append_assoc d.sent [_] [_]
  | none =>
    rw [Dev.sendPair_free hq]
    have hsent : ((d.sendColumn (2048 * d.link.pairs) 3).sendColumn 0 (if marker then 1 else 0)).sent = _ ++ [_] ++ [_] := rfl
    have hcols := (Dev.columned_sendColumn d (2048 * d.link.pairs) 3).trans (Dev.columned_sendColumn _ 0 (if marker then 1 else 0))
    obtain ⟨y, hy⟩ : ∃ y, y = (d.sendColumn (2048 * d.link.pairs) 3).sendColumn 0 (if marker then 1 else 0) := ⟨_, rfl⟩
    rw [← hy] at hcols hsent ⊢
    obtain ⟨hpairs, htaps, hlink, hrest⟩ := hcols.loadTaps
    exact ⟨fun _ => ⟨_, hsent.trans (List.append_assoc d.sent [_] [_])⟩, fun _ h => absurd (hq.symm.trans h) (by simp), hpairs, htaps, hlink,
      hrest⟩

end

/-! ### What the receive lanes hear -/

/-- The objects that reception changes. -/
def hearIdx : List Nat := [O.LANE_DISP, O.LANE_CV, O.LINK_RX_DISCARD, O.LINK_RX_SEGMENTS, O.LINK_ACQ_BALANCE]

/-- No more has changed than what the receive lanes keep, the host credits held and the counts of reception. -/
structure Dev.Hears (d d' : Dev) : Prop where
  link : d'.link = { d.link with
    rxLanes := d'.link.rxLanes, rxCol := d'.link.rxCol, rxAir := d'.link.rxAir, rxParts := d'.link.rxParts, held := d'.link.held }
  rest : d' = { d with objs := d'.objs, link := d'.link }
  frame : Dev.Frame hearIdx d d'

namespace Dev.Hears
variable {d d' d'' : Dev}

theorem refl (d : Dev) : Hears d d := ⟨rfl, rfl, .refl _ d⟩

theorem trans (h : Hears d d') (k : Hears d' d'') : Hears d d'' := ⟨by rw [k.link, h.link], by rw [k.rest, h.rest], h.frame.trans k.frame⟩

theorem ite {p : Prop} [Decidable p] {a b : Dev} (ha : Hears d a) (hb : Hears d b) : Hears d (if p then a else b) := by
  split
  · exact ha
  · exact hb

theorem foldl {α : Type} {f : Dev → α → Dev} (h : ∀ d x, Hears d (f d x)) (xs : List α) (d : Dev) : Hears d (xs.foldl f d) :=
  rel_foldl refl trans h xs d

theorem so {i el v : Nat} (hel : el < 4096) (hi : i ∈ hearIdx) : Hears d (d.so i el v) := ⟨rfl, rfl, .so hel hi⟩

theorem inc {i el n : Nat} (hel : el < 4096) (hi : i ∈ hearIdx) : Hears d (d.inc i el n) := so hel hi

end Dev.Hears

section
variable {d : Dev}

theorem Dev.hears_setRxLane (d : Dev) (n : Nat) (x : RxLane) : Dev.Hears d (d.setRxLane n x) := ⟨rfl, rfl, .of_objs rfl⟩

theorem Dev.hears_rxGroup {n : Nat} (hn : n < 2) (g : Nat) : Dev.Hears d (d.rxGroup n g).2 := by
  unfold Dev.rxGroup
  extract_lets g' x rd k errs x'
  have hset : Dev.Hears d (d.setRxLane n x') := Dev.hears_setRxLane ..
  cases k with
  | valid => exact hset
  | disparity => exact hset.trans (.inc (by omega) (by decide))
  | violation => exact hset.trans (.inc (by omega) (by decide))

theorem Dev.hrxInUse_lt {n : Nat} (h : n ∈ d.hrxInUse) : n < 2 := by
  obtain ⟨k, hk, rfl⟩ := List.mem_map.mp h
  have hk2 := List.mem_range.mp (List.mem_filter.mp hk).1
  unfold Dev.hrxBall
  cases hf : (List.range 2).find? (fun n => d.hrxNumber n == k) with
  | none => exact hk2
  | some m => exact List.mem_range.mp (List.mem_of_find?_eq_some hf)

theorem Dev.hears_rxSyms {lanes : List Nat} (hl : ∀ n ∈ lanes, n < 2) (gs : List Nat) : Dev.Hears d (d.rxSyms gs lanes).2 := by
  induction lanes generalizing d with
  | nil => exact .refl d
  | cons n lanes ih => exact (Dev.hears_rxGroup (hl n List.mem_cons_self) _).trans (ih fun m hm => hl m (List.mem_cons_of_mem _ hm))

theorem Dev.hears_rxEnd (d : Dev) (aborted : Bool) : Dev.Hears d (d.rxEnd aborted).2 := by
  unfold Dev.rxEnd
  cases d.link.rxAir with
  | none => exact .refl d
  | some a => exact ⟨rfl, rfl, .of_objs rfl⟩

theorem Dev.hears_link {l : Link} (h : l = { d.link with
    rxLanes := l.rxLanes, rxCol := l.rxCol, rxAir := l.rxAir, rxParts := l.rxParts, held := l.held }) : Dev.Hears d { d with link := l } :=
  ⟨h, rfl, .of_objs rfl⟩

theorem Dev.hears_rxIdle (d : Dev) (n : Nat) : Dev.Hears d (d.rxIdle n).2 := by
  unfold Dev.rxIdle
  split
  · exact .refl d
  · extract_lets r src link d1
    have h1 : Dev.Hears d d1 := (Dev.hears_rxEnd d false).trans (Dev.hears_link rfl)
    exact h1.trans (.foldl (fun d l => Dev.hears_setRxLane ..) d1.hrxInUse d1)

theorem Dev.hears_rxMeaning (d : Dev) (syms : List (Option LineSym × Bool)) : Dev.Hears d (d.rxMeaning syms).2 := by
  unfold Dev.rxMeaning
  extract_lets has
  split
  · exact .refl d
  split
  · exact Dev.hears_rxEnd ..
  split
  · exact (Dev.hears_rxEnd d false).trans (Dev.hears_link rfl)
  split
  · exact .refl d
  · extract_lets l d1
    have h1 : Dev.Hears d d1 := Dev.hears_link rfl
    split
    · exact h1.trans (Dev.hears_rxEnd ..)
    · exact h1

theorem Dev.hears_rxColumn (d : Dev) (c : RxCol) : Dev.Hears d (d.rxColumn c).2 := by
  unfold Dev.rxColumn
  extract_lets i lanes x d1 r
  have hidle : Dev.Hears d i.2 := Dev.hears_rxIdle ..
  have hsyms : Dev.Hears i.2 x.2 := Dev.hears_rxSyms (fun n hn => Dev.hrxInUse_lt hn) _
  have hmarks : Dev.Hears x.2 d1 := .foldl (fun d p => Dev.hears_setRxLane ..) _ _
  exact (((hidle.trans hsyms).trans hmarks).trans (Dev.hears_rxMeaning d1 x.1)).trans (Dev.hears_link rfl)

theorem Dev.hears_rxColumns (d : Dev) (l : List RxCol) : Dev.Hears d (d.rxColumns l).2 := by
  induction l generalizing d with
  | nil => exact .refl d
  | cons c l ih => exact (Dev.hears_rxColumn d c).trans (ih _)

theorem Dev.hears_rxDrop (d : Dev) (ty mseq : Nat) (last : Bool) : Dev.Hears d (d.rxDrop ty mseq last) := by
  unfold Dev.rxDrop
  extract_lets again d1
  have h1 : Dev.Hears d d1 := .ite (.refl d) (.inc (by decide) (by decide))
  exact h1.trans (Dev.hears_link rfl)

theorem Dev.hears_rxCredits (d : Dev) (h : Nat) : Dev.Hears d (d.rxCredits h) := by
  unfold Dev.rxCredits
  extract_lets d1 d2
  have h2 : Dev.Hears d d2 := .trans (d' := d1) (.inc (by decide) (by decide)) (.so (by decide) (by decide))
  exact .ite (h2.trans (Dev.hears_link rfl)) h2

theorem Dev.hears_rxSeg (d : Dev) (bad : Bool) (bs : Bytes) : Dev.Hears d (d.rxSeg bad bs).2 := by
  unfold Dev.rxSeg
  extract_lets h ty mseq last pay take
  have htake : ∀ (d : Dev) data, Dev.Hears d (take d data).2 := fun d data => by
    show Dev.Hears d (if last then _ else _ : Option RxSeg × Dev).2
    split
    · exact (Dev.hears_rxCredits d h).trans (Dev.hears_link rfl)
    · exact (Dev.hears_rxCredits d h).trans (Dev.hears_link rfl)
  split
  · exact Dev.hears_rxDrop ..
  split
  · split
    · exact Dev.hears_rxDrop ..
    · exact Dev.Hears.trans (.ite (.inc (by decide) (by decide)) (.refl d)) (htake ..)
  split
  · split
    · exact htake ..
    · exact Dev.hears_rxDrop ..
  · exact Dev.hears_rxDrop ..

end

/-! ### The time exchange (R741 to R746) -/

section
variable {e : Env} {d : Dev}

/-- A packet formed while the link carries packets, no notification and none that a transmit-only link does not send. -/
theorem Dev.enq_waits {p : Packet} (hup : d.linkUp = true) (hty : (p.ty == 6 && d.o O.LINK_ACTIVE_HRX == 0) = false) (hkind : (p.kind == 2) = false) :
    d.enq p = { d with link := { d.link with txq := d.link.txq ++ [p] } } := by
  unfold Dev.enq
  rw [hup, hty, hkind]
  rfl

theorem Dev.linkUp_congr {d' : Dev} (h : d'.o O.LINK_STATE = d.o O.LINK_STATE) : d'.linkUp = d.linkUp := by
  unfold Dev.linkUp
  rw [h]

theorem Dev.psInt_eq (d : Dev) (q : Rat) : ∃ x, (d.psInt q).2 = { d with free := x } := by
  unfold Dev.psInt
  split
  · exact ⟨_, rfl⟩
  · exact ⟨_, rfl⟩

/-- A computed result changes no object, nothing of the link, and nothing that a command's end looks at. -/
theorem Dev.tsResult_keeps (d : Dev) (t : TsSync) (t4 f4 t2 t3 : Nat) : (d.tsResult t t4 f4 t2 t3).objs = d.objs ∧
    (d.tsResult t t4 f4 t2 t3).link = d.link ∧ Dev.Calm d (d.tsResult t t4 f4 t2 t3) := by
  unfold Dev.tsResult
  extract_lets q1 q2
  split
  next off d1 h1 =>
    split
    next del d2 h2 =>
      obtain ⟨x, hx⟩ := d.psInt_eq ((q1 - q2 - (d.os32 O.LINK_TS_ASYM_PS : Rat)) / 2)
      obtain ⟨y, hy⟩ := d1.psInt_eq ((q1 + q2) / 2)
      rw [h1] at hx
      rw [h2] at hy
      subst hx hy
      rw [Dev.setDom_eq]
      exact ⟨rfl, rfl, rfl, rfl⟩

theorem Dev.Hears.syncs {d' : Dev} (h : Dev.Hears d d') : d'.link.syncs = d.link.syncs := by rw [h.link]
theorem Dev.Hears.marker {d' : Dev} (h : Dev.Hears d d') : d'.link.marker = d.link.marker := by rw [h.link]
theorem Dev.Hears.txq {d' : Dev} (h : Dev.Hears d d') : d'.link.txq = d.link.txq := by rw [h.link]
theorem Dev.Hears.calm {d' : Dev} (h : Dev.Hears d d') : Dev.Calm d d' := ⟨by rw [h.rest], by rw [h.rest]⟩

theorem Dev.Hears.syncOf {d' : Dev} (h : Dev.Hears d d') (n : Nat) : d'.syncOf n = d.syncOf n := by
  unfold Dev.syncOf
  rw [h.syncs]

theorem Dev.Hears.syncLast {d' : Dev} (h : Dev.Hears d d') : d'.syncLast = d.syncLast := by
  unfold Dev.syncLast
  rw [h.syncs]

theorem Dev.Hears.markerAfter {d' : Dev} (h : Dev.Hears d d') (t : TsSync) : d'.markerAfter t = d.markerAfter t := by
  unfold Dev.markerAfter
  rw [h.marker]

/-- The next TSEQ and the next marker's time, and a SYNC_FU that waits for its answer (R742). -/
def Dev.stamped (e : Env) (d : Dev) (frac : Nat) : Dev :=
  { d with link := { d.link with
      tseq := (d.link.tseq + 1) % 65536, tsNext := d.link.tsNext + 1500000 * d.o O.LINK_TS_PERIOD_MS, syncs := d.link.syncs.filter (fun x => x.tseq != d.link.tseq) ++ [⟨d.link.tseq, e.now, frac % 65536, none, false⟩] } }

/-- The SYNC_FU of a marker (R742). -/
def syncFu (n frac now : Nat) : Packet := { ty := 7, data := tsPayload 1 false n frac now 0, kind := 6, tag := n }

theorem Dev.tsMarkerTx_eq {frac : Nat} (hdue : d.pairDue e = true) (hmark : d.pairMarks e = true) : d.tsMarkerTx e frac =
    ((d.sendPair true).stamped e frac).enq (syncFu (d.sendPair true).link.tseq (frac % 65536) e.now) :=
  if_pos (by rw [hdue, hmark]; rfl)

/-- A DELAY_REQ that fits the latest SYNC_FU and has a marker (R744, R746). -/
theorem Dev.delayReq_fits {b : Bytes} {y : TsSync} {a : Nat × Nat} (hy : d.syncOf (fieldAt b 2 2) = some y) (hlast : d.syncLast = some y)
    (ha : d.markerAfter y = some a) : d.delayReq b =
      ((d.syncDone (fieldAt b 2 2)).tsResult y a.1 a.2 (fieldAt b 8 8) (fieldAt b 16 8)).enq
        { ty := 7, data := tsPayload 3 false (fieldAt b 2 2) a.2 a.1 0 } := by
  unfold Dev.delayReq
  simp only [hy, hlast, ha, Option.bind_some, beq_self_eq_true, if_true, Option.isNone_some, Option.map_some, Option.getD_some]

/-- A DELAY_REQ that fits no SYNC_FU. -/
theorem Dev.delayReq_unknown {b : Bytes} (h : d.syncOf (fieldAt b 2 2) = none) : d.delayReq b =
    ((d.syncDone (fieldAt b 2 2)).inc O.LINK_TS_MISSED).enq { ty := 7, data := tsPayload 3 true (fieldAt b 2 2) 0 0 0 } := by
  unfold Dev.delayReq
  simp only [h, Option.bind_none, Option.isNone_none, Option.map_none, Option.getD_none]

/-- A SYNC_FU noted as done is not one that waits for its answer. -/
theorem done_of_marked {l : List TsSync} {n : Nat} :
    ∀ z ∈ l.map (fun t => if t.tseq == n then { t with done := true } else t), z.tseq = n → z.done = true := by
  intro z hz hn
  obtain ⟨t, _, rfl⟩ := List.mem_map.mp hz
  by_cases h : t.tseq = n
  · rw [if_pos (beq_iff_eq.mpr h)]
  · rw [if_neg (by simpa using h)] at hn
    exact absurd hn h

theorem Dev.gaernRx_delayReq {b g c : List RxCol} {p : Bytes × Bool} {x : RxSeg} {d1 d2 : Dev} (hup : d.linkUp = true)
    (hrx : d.o O.LINK_ACTIVE_HRX ≠ 0) (hcols : d.rxColumns (b ++ g ++ c) = ([p], d1)) (hseg : d1.rxSeg p.2 p.1 = (some x, d2))
    (hty : x.ty = 7) : d.gaernRx e (b ++ g ++ c) = d2.delayReq x.payload ∧ Dev.Hears d d2 := by
  have h1 : Dev.Hears d d1 := by
    have h := Dev.hears_rxColumns d (b ++ g ++ c)
    rwa [hcols] at h
  have h2 : Dev.Hears d1 d2 := by
    have h := Dev.hears_rxSeg d1 p.2 p.1
    rwa [hseg] at h
  refine ⟨?_, h1.trans h2⟩
  unfold Dev.gaernRx
  rw [if_neg (by simp [hup, hrx]), hcols]
  show d1.rxSegment e p = _
  unfold Dev.rxSegment
  rw [hseg]
  exact if_pos (beq_iff_eq.mpr hty)

/-- The SYNC_FUs that have waited 10 ms for their answer. -/
def Dev.lateSyncs (e : Env) (d : Dev) : List TsSync := d.link.syncs.filter (fun t => !t.done && t.left.any (fun x => x + 15000000 ≤ e.now))

/-- Some SYNC_FUs noted as done. -/
def Dev.syncsDone (d : Dev) (l : List TsSync) : Dev := l.foldl (fun d t => d.syncDone t.tseq) d

theorem Dev.syncsDone_eq (d : Dev) (l : List TsSync) : d.syncsDone l = { d with link := (d.syncsDone l).link } := by
  induction l generalizing d with
  | nil => rfl
  | cons t l ih => exact ih (d.syncDone t.tseq)

/-- A SYNC_FU that still waits is none of those. -/
theorem Dev.open_of_syncsDone {l : List TsSync} : ∀ z ∈ (d.syncsDone l).link.syncs, z.done = false →
    z ∈ d.link.syncs ∧ ∀ t ∈ l, t.tseq ≠ z.tseq := by
  induction l generalizing d with
  | nil => exact fun z hz _ => ⟨hz, fun t ht => absurd ht (by simp)⟩
  | cons t l ih =>
    intro z hz hopen
    obtain ⟨hmem, hrest⟩ := ih z hz hopen
    have hne : t.tseq ≠ z.tseq := fun h => by
      rw [done_of_marked z hmem h.symm] at hopen
      exact absurd hopen (by decide)
    obtain ⟨u, hu, rfl⟩ := List.mem_map.mp hmem
    by_cases h : u.tseq = t.tseq
    · rw [if_pos (beq_iff_eq.mpr h)] at hne
      exact absurd h.symm hne
    · rw [if_neg (by simpa using h)] at hne hrest ⊢
      exact ⟨hu, fun x hx => (List.mem_cons.mp hx).elim (fun e => e ▸ hne) (hrest x)⟩

end

/-! ### The commands -/

section
variable {s : State}

theorem txSegmentStart_starts {p : Packet} (hq : s.Quiet) (hup : s.dev.linkUp = true) (hp : s.dev.choose = some p) (hty : p.ty < 16)
    (hfree : s.dev.link.flight = none ∨ s.dev.link.endAt ≤ s.clock.time) (hpart : s.dev.link.part = []) :
    Leads .txSegmentStart s (fun t => (∀ q ∈ s.dev.heads, s.dev.ready q = true → pktPrio p ≤ pktPrio q) ∧ ∃ bs,
      bs = s.dev.firstSeg p ∧
      t.dev.sent = [.segment (s.dev.o O.LINK_ACTIVE_TX) (stripe s.dev.txLanes bs) (Dev.segGroups s.env s.dev bs)] ∧
      t.dev.link.flight = some (p, bs) ∧ t.dev.link.endAt = t.dev.columnEnd t.dev.link.cols ∧
      t.dev.link.txq = s.dev.link.txq.erase p ∧ t.dev.link.owed = s.dev.link.owed - satN 15 s.dev.link.owed) := by
  have hidle : (s.dev.link.flight.isSome && decide (s.clock.time < s.dev.link.endAt)) = false := by
    rcases hfree with h | h
    · rw [h]; rfl
    · rw [decide_eq_false (Nat.not_lt.mpr h), Bool.and_false]
  have hrun : s.begun.txStart s.env = s.begun.startSeg s.env p := by
    unfold Dev.txStart
    have hup' : s.begun.linkUp = true := hup
    have hidle' : (s.begun.link.flight.isSome && decide (s.env.now < s.begun.link.endAt)) = false := hidle
    have hp' : s.begun.choose = some p := hp
    rw [hup', hidle', if_neg (by decide), hp']
  obtain ⟨y, hlined, hsent, hcalm, htxq, howed, heq⟩ := Dev.startSeg_first (d := s.begun) s.env hpart (p := p) (by omega)
  have hl := (Dev.launch_spec s.env y p (s.begun.firstSeg p)).syncLeaves
  rw [← heq] at hl
  refine leads_calm (f := fun e d => d.txStart e) _ hq rfl hrun (hcalm.trans hl.calm) fun t ht => ⟨Dev.choose_highest hp, s.dev.firstSeg p, rfl, ?_, ?_, ?_, ?_, ?_⟩
  · have hbegun : Dev.Lined s.dev s.begun := ⟨rfl, rfl, rfl, rfl, rfl, fun _ _ => rfl⟩
    rw [ht.sent, hl.sent, hsent, hlined.txLanes, hlined.segGroups, hlined.o (by decide) (by decide), hbegun.txLanes, hbegun.segGroups,
      State.sent_begun, State.o_begun]
    rfl
  · rw [ht.link]; exact hl.flight
  · have hend : t.dev.columnEnd t.dev.link.cols = (Dev.startSeg s.env s.begun p).columnEnd (Dev.startSeg s.env s.begun p).link.cols := by
      unfold Dev.columnEnd
      rw [ht.link, ht.o]
    rw [hend, ht.link]
    exact hl.endAt
  · rw [ht.link, hl.txq, htxq]; rfl
  · rw [ht.link, hl.owed, howed]; rfl

theorem alignmentColumn_sends (hq : s.Quiet) (hdue : s.dev.pairDue s.env = true) (hmark : s.dev.pairMarks s.env = false) :
    Leads .alignmentColumn s (fun t =>
      (s.dev.pairInner = none → ∃ skip, t.dev.sent =
        [.column 3 (s.dev.onBalls (laneList (s.dev.o O.LINK_ACTIVE_TX))
          (codeLanes (s.dev.idleTo (2048 * s.dev.link.pairs)).link.disp
            ((laneList (s.dev.o O.LINK_ACTIVE_TX)).map (fun l => (l, [.special 3])))).1), .column 0 skip]) ∧
      (∀ q, s.dev.pairInner = some q → t.dev.sent = [.column 3 q.first, .column 0 q.second]) ∧
      t.dev.link.pairs = s.dev.link.pairs + 1 ∧ t.dev.link.taps = s.dev.tapsSet (s.dev.o O.LINK_ACTIVE_TX)) := by
  have hrun : s.begun.alignCol s.env = s.begun.sendPair false := if_pos (by
    show (s.dev.pairDue s.env && !s.dev.pairMarks s.env) = true
    rw [hdue, hmark]
    rfl)
  have hpair := Dev.sendPair_spec s.begun false
  have hcalm : Dev.Calm s.begun (s.begun.sendPair false) := ⟨by rw [hpair.rest], by rw [hpair.rest]⟩
  refine leads_calm (f := fun e d => d.alignCol e) _ hq rfl hrun hcalm fun t ht => ⟨fun hnone => ?_, fun q hsome => ?_, ?_, ?_⟩
  · obtain ⟨skip, hsent⟩ := hpair.free hnone
    exact ⟨skip, ht.sent.trans hsent⟩
  · have hq0 : q.marker = false := by
      unfold Dev.pairMarks at hmark
      rwa [hsome] at hmark
    have hsent := ht.sent.trans (hpair.inner q hsome)
    rw [hq0] at hsent
    exact hsent
  · rw [ht.link]; exact hpair.pairs
  · rw [ht.link]; exact hpair.taps

theorem creditOnlyPacket_queues (hq : s.Quiet) (hup : s.dev.linkUp = true) (howed : 0 < s.dev.link.owed)
    (hidle : s.dev.link.endAt + 15000 ≤ s.clock.time) (hnone : s.dev.link.txq.any (fun p => p.kind == 3) = false)
    (hrx : s.dev.o O.LINK_ACTIVE_HRX ≠ 0) :
    Leads .creditOnlyPacket s (fun t => t.dev.link.txq = s.dev.link.txq ++ [{ ty := 6, data := [], kind := 3 }]) := by
  have hrun : s.begun.creditOnly s.env = s.begun.enq { ty := 6, data := [], kind := 3 } := if_pos (by
    show (s.dev.linkUp && decide (0 < s.dev.link.owed) && decide (s.dev.link.endAt + 15000 ≤ s.clock.time) &&
      !s.dev.link.txq.any (fun p => p.kind == 3)) = true
    rw [hup, decide_eq_true howed, decide_eq_true hidle, hnone]
    rfl)
  have henq := Dev.enq_waits (d := s.begun) (p := { ty := 6, data := [], kind := 3 }) hup (by simpa using hrx) rfl
  refine leads_calm (f := fun e d => d.creditOnly e) _ hq rfl (hrun.trans henq) ⟨rfl, rfl⟩ fun t ht => ?_
  rw [ht.link]
  rfl

theorem tsMarkerTx_sends {frac : Nat} (hq : s.Quiet) (hup : s.dev.linkUp = true) (hfrac : frac < 65536) (hdue : s.dev.pairDue s.env = true)
    (hmark : s.dev.pairMarks s.env = true) :
    Leads (.tsMarkerTx frac) s (fun t =>
      (∃ a m, t.dev.sent = [.column 3 a, .column 1 m]) ∧ t.dev.link.pairs = s.dev.link.pairs + 1 ∧ t.dev.link.tseq = (s.dev.link.tseq + 1) % 65536 ∧
      t.dev.link.syncs = s.dev.link.syncs.filter (fun x => x.tseq != s.dev.link.tseq) ++
        [{ tseq := s.dev.link.tseq, t1 := s.clock.time, frac := frac, left := none, done := false }] ∧
      t.dev.link.txq = s.dev.link.txq ++
        [{ ty := 7, data := tsPayload 1 false s.dev.link.tseq frac s.clock.time 0, kind := 6, tag := s.dev.link.tseq }]) := by
  have hrun : s.begun.tsMarkerTx s.env frac = _ := Dev.tsMarkerTx_eq (d := s.begun) hdue hmark
  have hpair := Dev.sendPair_spec s.begun true
  obtain ⟨y, hy⟩ : ∃ y, y = s.begun.sendPair true := ⟨_, rfl⟩
  rw [← hy] at hrun hpair
  have htseq : y.link.tseq = s.dev.link.tseq := by rw [hpair.link]; rfl
  have hsyncs : y.link.syncs = s.dev.link.syncs := by rw [hpair.link]; rfl
  have htxq : y.link.txq = s.dev.link.txq := by rw [hpair.link]; rfl
  have hstate : (y.stamped s.env frac).o O.LINK_STATE = s.dev.o O.LINK_STATE := by
    show y.o O.LINK_STATE = _
    rw [hpair.rest]
    rfl
  rw [Dev.enq_waits ((Dev.linkUp_congr hstate).trans hup) rfl rfl, htseq] at hrun
  have hcalm : Dev.Calm s.begun y := ⟨by rw [hpair.rest], by rw [hpair.rest]⟩
  refine leads_calm (f := fun e d => d.tsMarkerTx e frac) _ hq rfl hrun ⟨hcalm.settle, hcalm.rstDue⟩ fun t ht => ⟨?_, ?_, ?_, ?_, ?_⟩
  · rw [ht.sent]
    show ∃ a m, y.sent = _
    cases hin : s.begun.pairInner with
    | none =>
      obtain ⟨skip, hsent⟩ := hpair.free hin
      exact ⟨_, _, hsent⟩
    | some q =>
      have hq1 : q.marker = true := by
        have hmark' : s.begun.pairMarks s.env = true := hmark
        unfold Dev.pairMarks at hmark'
        rwa [hin] at hmark'
      have hsent := hpair.inner q hin
      rw [hq1] at hsent
      exact ⟨_, _, hsent⟩
  · rw [ht.link]; exact hpair.pairs
  · rw [ht.link]
    show (y.link.tseq + 1) % 65536 = _
    rw [htseq]
  · rw [ht.link]
    show y.link.syncs.filter (fun x => x.tseq != y.link.tseq) ++ [_] = _
    rw [htseq, hsyncs, Nat.mod_eq_of_lt hfrac]
    rfl
  · rw [ht.link, Nat.mod_eq_of_lt hfrac]
    show y.link.txq ++ [_] = _
    rw [htxq]
    rfl

theorem tsMarkerRx_stamps {frac : Nat} (hq : s.Quiet) (hup : s.dev.linkUp = true) (hfrac : frac < 65536)
    (hrx : s.dev.o O.LINK_ACTIVE_HRX ≠ 0) :
    Leads (.tsMarkerRx frac) s (fun t => t.dev.link.marker = some (s.clock.time, frac)) := by
  have hrun : s.begun.tsMarkerRx s.env frac = { s.begun with link := { s.dev.link with marker := some (s.clock.time, frac % 65536) } } :=
    if_pos (by
      show (s.dev.linkUp && s.dev.o O.LINK_ACTIVE_HRX != 0) = true
      simp [hup, hrx])
  refine leads_calm (f := fun e d => d.tsMarkerRx e frac) _ hq rfl hrun ⟨rfl, rfl⟩ fun t ht => ?_
  rw [ht.link]
  show some (s.clock.time, frac % 65536) = _
  rw [Nat.mod_eq_of_lt hfrac]

theorem delayReqRx_answers {b g c : List RxCol} {p : Bytes × Bool} {x : RxSeg} {d d' : Dev} {y : TsSync} {a : Nat × Nat} (hq : s.Quiet)
    (hup : s.dev.linkUp = true) (hrx : s.dev.o O.LINK_ACTIVE_HRX ≠ 0) (hcols : s.begun.rxColumns (b ++ g ++ c) = ([p], d))
    (hseg : d.rxSeg p.2 p.1 = (some x, d')) (hty : x.ty = 7) (hy : s.dev.syncOf (fieldAt x.payload 2 2) = some y)
    (hlast : s.dev.syncLast = some y) (ha : s.dev.markerAfter y = some a) :
    Leads (.delayReqRx b g c) s (fun t => (∀ z ∈ t.dev.link.syncs, z.tseq = y.tseq → z.done = true) ∧
      t.dev.o O.LINK_TS_MISSED = s.dev.o O.LINK_TS_MISSED ∧
      t.dev.link.txq = s.dev.link.txq ++ [{ ty := 7, data := tsPayload 3 false y.tseq a.2 a.1 0 }]) := by
  obtain ⟨hrun, hears⟩ := Dev.gaernRx_delayReq (e := s.env) (d := s.begun) hup hrx hcols hseg hty
  rw [Dev.delayReq_fits ((hears.syncOf _).trans hy) (hears.syncLast.trans hlast) ((hears.markerAfter y).trans ha)] at hrun
  have hn : y.tseq = fieldAt x.payload 2 2 := by simpa using List.find?_some hy
  obtain ⟨hobjs, hlink, hcalm⟩ := Dev.tsResult_keeps (d'.syncDone (fieldAt x.payload 2 2)) y a.1 a.2 (fieldAt x.payload 8 8) (fieldAt x.payload 16 8)
  obtain ⟨w, hw⟩ : ∃ w, w = (d'.syncDone (fieldAt x.payload 2 2)).tsResult y a.1 a.2 (fieldAt x.payload 8 8) (fieldAt x.payload 16 8) := ⟨_, rfl⟩
  rw [← hw] at hrun hobjs hlink hcalm
  have ho : ∀ {i}, i ∉ hearIdx → w.o i 0 = s.dev.o i 0 := fun {i} hi => (Dev.o_congr hobjs i 0).trans (hears.frame.o (by decide) hi)
  rw [Dev.enq_waits ((Dev.linkUp_congr (ho (by decide))).trans hup) rfl rfl] at hrun
  have hkeep : Dev.Calm s.begun w := hears.calm.trans (.trans (d' := d'.syncDone (fieldAt x.payload 2 2)) ⟨rfl, rfl⟩ hcalm)
  refine leads_calm (f := fun e d => d.gaernRx e (b ++ g ++ c)) _ hq rfl hrun ⟨hkeep.settle, hkeep.rstDue⟩ fun t ht => ⟨?_, ?_, ?_⟩
  · rw [ht.link, hn]
    show ∀ z ∈ w.link.syncs, _
    rw [hlink]
    exact done_of_marked
  · rw [ht.o]
    exact ho (by decide)
  · rw [ht.link, hn]
    show w.link.txq ++ _ = _
    rw [hlink]
    show d'.link.txq ++ _ = _
    rw [hears.txq]
    rfl

theorem delayReqRx_misses {b g c : List RxCol} {p : Bytes × Bool} {x : RxSeg} {d d' : Dev} (hq : s.Quiet)
    (hup : s.dev.linkUp = true) (hrx : s.dev.o O.LINK_ACTIVE_HRX ≠ 0) (hcols : s.begun.rxColumns (b ++ g ++ c) = ([p], d))
    (hseg : d.rxSeg p.2 p.1 = (some x, d')) (hty : x.ty = 7) (hnone : s.dev.syncOf (fieldAt x.payload 2 2) = none) :
    Leads (.delayReqRx b g c) s (fun t =>
      t.dev.o O.LINK_TS_MISSED = ctrAdd O.LINK_TS_MISSED 0 (s.dev.o O.LINK_TS_MISSED) 1 ∧
      t.dev.link.txq = s.dev.link.txq ++ [{ ty := 7, data := tsPayload 3 true (fieldAt x.payload 2 2) 0 0 0 }]) := by
  obtain ⟨hrun, hears⟩ := Dev.gaernRx_delayReq (e := s.env) (d := s.begun) hup hrx hcols hseg hty
  rw [Dev.delayReq_unknown ((hears.syncOf _).trans hnone)] at hrun
  have hstate : (((d'.syncDone (fieldAt x.payload 2 2)).inc O.LINK_TS_MISSED).o O.LINK_STATE) = s.dev.o O.LINK_STATE :=
    (Dev.o_inc_other (by decide) (by decide) (by decide)).trans (hears.frame.o (by decide) (by decide))
  rw [Dev.enq_waits ((Dev.linkUp_congr hstate).trans hup) rfl rfl] at hrun
  refine leads_calm (f := fun e d => d.gaernRx e (b ++ g ++ c)) _ hq rfl hrun ⟨hears.calm.settle, hears.calm.rstDue⟩ fun t ht => ⟨?_, ?_⟩
  · rw [ht.o]
    refine (Dev.o_so_self (d'.syncDone (fieldAt x.payload 2 2)) O.LINK_TS_MISSED 0 _).trans ?_
    rw [show (d'.syncDone (fieldAt x.payload 2 2)).o O.LINK_TS_MISSED = s.dev.o O.LINK_TS_MISSED from hears.frame.o (by decide) (by decide)]
  · rw [ht.link]
    show d'.link.txq ++ _ = _
    rw [hears.txq]
    rfl

theorem tsExchangeTimeout_counts (hq : s.Quiet) (hlate : Dev.lateSyncs s.env s.dev ≠ []) :
    Leads .tsExchangeTimeout s (fun t =>
      t.dev.link.syncs.filter (fun x => !x.done && x.left.any (fun a => a + 15000000 ≤ s.clock.time)) = [] ∧
      t.dev.o O.LINK_TS_MISSED = ctrAdd O.LINK_TS_MISSED 0 (s.dev.o O.LINK_TS_MISSED) (Dev.lateSyncs s.env s.dev).length) := by
  have hrun : s.begun.tsTimeout s.env = (s.begun.syncsDone (s.dev.lateSyncs s.env)).inc O.LINK_TS_MISSED 0 (s.dev.lateSyncs s.env).length :=
    if_neg fun h => hlate (beq_iff_eq.mp h)
  have heq := Dev.syncsDone_eq s.begun (s.dev.lateSyncs s.env)
  have hopen := Dev.open_of_syncsDone (d := s.begun) (l := s.dev.lateSyncs s.env)
  obtain ⟨w, hw⟩ : ∃ w, w = s.begun.syncsDone (s.dev.lateSyncs s.env) := ⟨_, rfl⟩
  rw [← hw] at hrun heq hopen
  have hcalm : Dev.Calm s.begun w := ⟨by rw [heq], by rw [heq]⟩
  refine leads_calm (f := fun e d => d.tsTimeout e) _ hq rfl hrun ⟨hcalm.settle, hcalm.rstDue⟩ fun t ht => ⟨?_, ?_⟩
  · rw [ht.link, List.filter_eq_nil_iff]
    intro z hz hwaits
    have hdone : z.done = false := by simpa using (Bool.and_eq_true_iff.mp hwaits).1
    obtain ⟨hmem, hne⟩ := hopen z hz hdone
    exact hne z (List.mem_filter.mpr ⟨hmem, hwaits⟩) rfl
  · rw [ht.o]
    refine (Dev.o_so_self w O.LINK_TS_MISSED 0 _).trans ?_
    rw [show w.o O.LINK_TS_MISSED = s.dev.o O.LINK_TS_MISSED by rw [heq]; rfl]

end

/-- Settles O40: what leaves on the lanes by the packet that is chosen and by the pair that is due, and the time exchange from the
marker to the answer or the miss. -/
theorem segmentsAndTimeExchange : Obligations.SegmentsAndTimeExchange :=
  ⟨fun _ hq hup => ⟨fun _ hp hty hfree hpart => txSegmentStart_starts hq hup hp hty hfree hpart, alignmentColumn_sends hq,
      fun howed hidle hnone hrx => creditOnlyPacket_queues hq hup howed hidle hnone hrx⟩,
    fun _ hq hup => ⟨fun _ hfrac hdue hmark => tsMarkerTx_sends hq hup hfrac hdue hmark,
      fun _ hfrac hrx => tsMarkerRx_stamps hq hup hfrac hrx,
      fun _ _ _ _ _ _ _ hrx hcols hseg hty => ⟨fun _ _ hy hlast ha => delayReqRx_answers hq hup hrx hcols hseg hty hy hlast ha,
        delayReqRx_misses hq hup hrx hcols hseg hty⟩,
      fun _ hlate hne => hlate ▸ tsExchangeTimeout_counts hq (fun h => hne (hlate.trans h))⟩⟩

end Sys2Proof.Machine
end

section
/-! PROOF. Lane bring-up, lane loss and retraining (chapter 14). -/

namespace Sys2Proof.Machine

/-! ### What the lanes send -/

/-- No more has changed than what has left and what the transmit lanes keep of it: no object, no packet that waits. -/
structure Dev.OnLanes (d d' : Dev) : Prop where
  link : d'.link = { d.link with
    disp := d'.link.disp, cols := d'.link.cols, trainCols := d'.link.trainCols, taps := d'.link.taps, sets := d'.link.sets, air := d'.link.air, inner := d'.link.inner, flight := d'.link.flight, endAt := d'.link.endAt }
  rest : d' = { d with sent := d'.sent, link := d'.link }

namespace Dev.OnLanes
variable {d d' d'' : Dev}

theorem refl (d : Dev) : OnLanes d d := ⟨rfl, rfl⟩

theorem trans (h : OnLanes d d') (k : OnLanes d' d'') : OnLanes d d'' := ⟨by rw [k.link, h.link], by rw [k.rest, h.rest]⟩

theorem ite {p : Prop} [Decidable p] {a b : Dev} (ha : OnLanes d a) (hb : OnLanes d b) : OnLanes d (if p then a else b) := by
  split
  · exact ha
  · exact hb

theorem objs (h : OnLanes d d') : d'.objs = d.objs := by rw [h.rest]

end Dev.OnLanes

section
variable {e : Env} {d d' d'' : Dev}

theorem Dev.onLanes_sendColumn (d : Dev) (c k : Nat) : Dev.OnLanes d (d.sendColumn c k) := ⟨rfl, rfl⟩

theorem Dev.onLanes_sendTrain (e : Env) (d : Dev) (tx rx : Nat) (aligned locked : Bool) :
    Dev.OnLanes d (d.sendTrain e tx rx aligned locked) := ⟨rfl, rfl⟩

theorem Dev.onLanes_sendFour (e : Env) (d : Dev) (tx rx : Nat) : Dev.OnLanes d (d.sendFour e tx rx) := ⟨rfl, rfl⟩

theorem Dev.onLanes_launch (e : Env) (d : Dev) (p : Packet) (bs : Bytes) : Dev.OnLanes d (d.launch e p bs) := ⟨rfl, rfl⟩

theorem Dev.onLanes_cutAir (e : Env) (d : Dev) : Dev.OnLanes d (d.cutAir e) := by
  unfold Dev.cutAir
  split
  · exact .refl d
  · extract_lets c
    exact .ite (.refl d) ⟨rfl, rfl⟩

/-! ### Actions of bring-up -/

/-- No object has changed but some; the logger and the packets that wait, and what a command's end looks at, are as before. -/
structure Dev.Works (l : List Nat) (d d' : Dev) : Prop where
  frame : Dev.Frame l d d'
  flt : d'.flt = d.flt
  txq : d'.link.txq = d.link.txq
  part : d'.link.part = d.link.part
  calm : Dev.Calm d d'

namespace Dev.Works
variable {l : List Nat}

theorem refl (l : List Nat) (d : Dev) : Works l d d := ⟨.refl l d, rfl, rfl, rfl, .refl d⟩

theorem trans (h : Works l d d') (k : Works l d' d'') : Works l d d'' :=
  ⟨h.frame.trans k.frame, k.flt.trans h.flt, k.txq.trans h.txq, k.part.trans h.part, h.calm.trans k.calm⟩

theorem ite {p : Prop} [Decidable p] {a b : Dev} (ha : Works l d a) (hb : Works l d b) : Works l d (if p then a else b) := by
  split
  · exact ha
  · exact hb

theorem foldl {α : Type} {f : Dev → α → Dev} {xs : List α} (h : ∀ d, ∀ x ∈ xs, Works l d (f d x)) (d : Dev) : Works l d (xs.foldl f d) := by
  induction xs generalizing d with
  | nil => exact refl l d
  | cons x xs ih => exact (h d x List.mem_cons_self).trans (ih (fun d y hy => h d y (List.mem_cons_of_mem _ hy)) _)

theorem so {i el v : Nat} (hel : el < 4096) (hi : i ∈ l) : Works l d (d.so i el v) := ⟨.so hel hi, rfl, rfl, rfl, ⟨rfl, rfl⟩⟩

theorem inc {i el n : Nat} (hel : el < 4096) (hi : i ∈ l) : Works l d (d.inc i el n) := so hel hi

theorem of_lanes (h : OnLanes d d') : Works l d d' := by
  refine ⟨.of_objs h.objs, ?_, ?_, ?_, ?_, ?_⟩
  · rw [h.rest]
  · rw [h.link]
  · rw [h.link]
  · rw [h.rest]
  · rw [h.rest]

theorem mono {l' : List Nat} (h : Works l d d') (hl : l ⊆ l') : Works l' d d' := ⟨h.frame.mono hl, h.flt, h.txq, h.part, h.calm⟩

theorem of_link {k : Link} (htxq : k.txq = d.link.txq) (hpart : k.part = d.link.part) : Works l d { d with link := k } :=
  ⟨.of_objs rfl, rfl, htxq, hpart, ⟨rfl, rfl⟩⟩

theorem domSet {n : Nat} {on : Bool} (hn : n < 4096) (hl : domIdx ⊆ l) : Works l d (d.domSet e n on) := by
  have h := Dev.switched_domSet e d n on
  refine ⟨(Dev.frame_domSet hn).mono hl, ?_, ?_, ?_, ?_, ?_⟩ <;> rw [h]

end Dev.Works

/-- The objects that a lane's way into TRAIN changes. -/
def bringUpIdx : List Nat := [O.PRBS_BITS, O.PRBS_CHK, O.PRBS_SYNC, O.PRBS_GEN, O.INJ_GO, O.LANE_STATE, O.PWR_DOM_STATE, O.PWR_DOM_SWITCHES,
  O.LINK_STATE, O.LINK_ACTIVE_TX, O.LINK_ACTIVE_HRX]

theorem Dev.works_laneTestOff {l : Nat} (hl : l < 10) (d : Dev) : Dev.Works bringUpIdx d (d.laneTestOff e l) := by
  have hcount : Dev.Works bringUpIdx d (d.prbsCount e l) :=
    .ite (.trans (d' := d.inc O.PRBS_BITS l (d.prbsNew e l)) (.inc (by omega) (by decide)) (.of_link rfl rfl)) (.refl _ d)
  unfold Dev.laneTestOff
  extract_lets d1
  have h1 : Dev.Works bringUpIdx d d1 :=
    (hcount.trans (.so (i := O.PRBS_CHK) (by omega) (by decide))).trans (.so (i := O.PRBS_SYNC) (by omega) (by decide))
  exact .ite ((h1.trans (.so (i := O.PRBS_GEN) (by omega) (by decide))).trans (.so (i := O.INJ_GO) (by omega) (by decide))) h1

/-- The start of bring-up (R723). -/
theorem Dev.startTrain_spec (e : Env) (d : Dev) : Dev.Works bringUpIdx d (d.startTrain e) ∧ (d.startTrain e).o O.LINK_STATE = 1 ∧
    (d.startTrain e).link.trainAt = e.now := by
  have hoff : ∀ l, l < 10 → ∀ d : Dev, Dev.Works bringUpIdx d (if d.o O.LANE_STATE l == 6 then d else d.so O.LANE_STATE l 0) := fun l hl d =>
    .ite (.refl _ d) (.so (by omega) (by decide))
  unfold Dev.startTrain
  extract_lets tx rx lanes d1 d2 d3 d4 d5 l6 d6
  have h1 : Dev.Works bringUpIdx d d1 := .foldl (fun d l hl =>
    have h10 := List.mem_range.1 (List.mem_filter.1 hl).1
    (Dev.works_laneTestOff h10 d).trans (.so (by omega) (by decide))) d
  have h2 : Dev.Works bringUpIdx d1 d2 := .foldl (fun d l hl => hoff l (List.mem_range.1 (List.mem_filter.1 hl).1) d) d1
  have h3 : Dev.Works bringUpIdx d2 d3 := .foldl (fun d l hl => .domSet (by have := List.mem_range.1 hl; omega) (by decide)) d2
  have h4 : Dev.Works bringUpIdx d3 d4 := .domSet (by decide) (by decide)
  have h5 : Dev.Works bringUpIdx d4 d5 :=
    ((Dev.Works.so (i := O.LINK_STATE) (by decide) (by decide)).trans (.so (i := O.LINK_ACTIVE_TX) (by decide) (by decide))).trans
      (.so (i := O.LINK_ACTIVE_HRX) (by decide) (by decide))
  have h6 : Dev.Works bringUpIdx d5 d6 := .of_link rfl rfl
  have hlanes := Dev.onLanes_sendTrain e d6 tx 0 false false
  refine ⟨(((((h1.trans h2).trans h3).trans h4).trans h5).trans h6).trans (.of_lanes hlanes), ?_, ?_⟩
  · refine (Dev.o_congr hlanes.objs ..).trans ?_
    show ((((d4.so O.LINK_STATE 0 1).so O.LINK_ACTIVE_TX 0 0).so O.LINK_ACTIVE_HRX 0 0)).o O.LINK_STATE = 1
    rw [Dev.o_so_other (by decide) (by decide) (by decide), Dev.o_so_other (by decide) (by decide) (by decide), Dev.o_so_self]
  · rw [hlanes.link]

end

/-! ### READY and DEGRADED (R728 to R730, R735, R736) -/

section
variable {e : Env} {d : Dev}

/-- The link carries packets over some lanes. -/
structure Dev.Uses (d : Dev) (st tx rx : Nat) : Prop where
  state : d.o O.LINK_STATE = st
  tx : d.o O.LINK_ACTIVE_TX = tx
  rx : d.o O.LINK_ACTIVE_HRX = rx

theorem Dev.Uses.of_frame {l : List Nat} {d' : Dev} {st tx rx : Nat} (h : d.Uses st tx rx) (hf : Dev.Frame l d d')
    (hs : O.LINK_STATE ∉ l) (ht : O.LINK_ACTIVE_TX ∉ l) (hr : O.LINK_ACTIVE_HRX ∉ l) : d'.Uses st tx rx :=
  ⟨(hf.o (by decide) hs).trans h.state, (hf.o (by decide) ht).trans h.tx, (hf.o (by decide) hr).trans h.rx⟩

theorem Dev.uses_ready (d : Dev) (st tx rx now : Nat) :
    ((((((d.so O.LINK_STATE 0 st).so O.LINK_ACTIVE_TX 0 tx).so O.LINK_ACTIVE_HRX 0 rx).so O.LINK_READY_TIME 0 now).so
      O.LINK_ACQ_BALANCE 0 0)).Uses st tx rx := by
  refine ⟨?_, ?_, ?_⟩
  · rw [Dev.o_so_other (by decide) (by decide) (by decide), Dev.o_so_other (by decide) (by decide) (by decide),
      Dev.o_so_other (by decide) (by decide) (by decide), Dev.o_so_other (by decide) (by decide) (by decide), Dev.o_so_self]
  · rw [Dev.o_so_other (by decide) (by decide) (by decide), Dev.o_so_other (by decide) (by decide) (by decide),
      Dev.o_so_other (by decide) (by decide) (by decide), Dev.o_so_self]
  · rw [Dev.o_so_other (by decide) (by decide) (by decide), Dev.o_so_other (by decide) (by decide) (by decide), Dev.o_so_self]

/-- READY or DEGRADED entered: the lanes in use, and credits and sequence numbers afresh. -/
theorem Dev.linkReady_spec (e : Env) (d : Dev) (tx rx : Nat) (full : Bool) : (d.linkReady e tx rx full).Uses (if full then 2 else 3) tx rx ∧
    (d.linkReady e tx rx full).link.mseq = [] ∧ (d.linkReady e tx rx full).link.owed = 0 ∧ (d.linkReady e tx rx full).link.held = 0 ∧
    Dev.Calm d (d.linkReady e tx rx full) := by
  unfold Dev.linkReady
  extract_lets d1 d2 d3 d4
  have h1 : Dev.Calm d d1 := ⟨rfl, rfl⟩
  have h2 : Dev.Calm d1 d2 := .foldl (fun d l => .ite (.so ..) (.ite (.so ..) (.refl d))) _ d1
  have h3 : Dev.Calm d2 d3 := .foldl (fun d l => .ite (.so ..) (.ite (.so ..) (.refl d))) _ d2
  have hu : d4.Uses (if full then 2 else 3) tx rx := Dev.uses_ready ..
  have h4 : Dev.Calm d3 d4 := .sos ..
  clear_value d4
  exact ⟨hu.of_frame (l := []) (.of_objs rfl) (by decide) (by decide) (by decide), rfl, rfl, rfl,
    (((h1.trans h2).trans h3).trans h4).trans ⟨rfl, rfl⟩⟩

/-- The objects that a restripe changes. -/
def restripeIdx : List Nat := [O.LINK_STATE, O.LINK_ACTIVE_TX, O.LINK_ACTIVE_HRX, O.LINK_TX_ABORTS, O.LINK_RESTRIPES]

/-- A lane's loss under DEGRADE with lanes enough (R735, R736). -/
theorem Dev.restripe_spec {tx rx : Nat} (hpol : d.o O.LINK_LOSS_POLICY = 1) (hmin : d.o O.LINK_MIN_TX_LANES ≤ popcount 8 tx) (hrx : rx ≠ 0) :
    Dev.Works restripeIdx d (d.restripeOr e tx rx) ∧ (d.restripeOr e tx rx).Uses 3 tx rx ∧
    (d.restripeOr e tx rx).o O.LINK_RESTRIPES = ctrAdd O.LINK_RESTRIPES 0 (d.o O.LINK_RESTRIPES) 1 := by
  unfold Dev.restripeOr
  rw [if_pos (by simp [hpol, hmin, hrx])]
  extract_lets fly d1 d2 d3
  have h1 : Dev.Works restripeIdx d d1 := by
    show Dev.Works restripeIdx d (((d.so O.LINK_ACTIVE_TX 0 tx).so O.LINK_ACTIVE_HRX 0 rx).so O.LINK_STATE 0 3)
    exact ((Dev.Works.so (by decide) (by decide)).trans (.so (by decide) (by decide))).trans (.so (by decide) (by decide))
  have hu1 : d1.Uses 3 tx rx := by
    show (((d.so O.LINK_ACTIVE_TX 0 tx).so O.LINK_ACTIVE_HRX 0 rx).so O.LINK_STATE 0 3).Uses 3 tx rx
    refine ⟨Dev.o_so_self .., ?_, ?_⟩
    · rw [Dev.o_so_other (by decide) (by decide) (by decide), Dev.o_so_other (by decide) (by decide) (by decide), Dev.o_so_self]
    · rw [Dev.o_so_other (by decide) (by decide) (by decide), Dev.o_so_self]
  have habort : Dev.OnLanes d1 ((d1.cutAir e).sendColumn 0 7) := (Dev.onLanes_cutAir e d1).trans (Dev.onLanes_sendColumn ..)
  have h2 : Dev.Works [O.LINK_TX_ABORTS] d1 d2 :=
    .ite ((Dev.Works.of_lanes habort).trans (.inc (by decide) List.mem_cons_self)) (.refl _ d1)
  have hfour := Dev.onLanes_sendFour e d2 tx rx
  have h3 : Dev.Works [O.LINK_RESTRIPES] d2 d3 := (Dev.Works.of_lanes hfour).trans (.inc (by decide) List.mem_cons_self)
  have hcount : d3.o O.LINK_RESTRIPES = ctrAdd O.LINK_RESTRIPES 0 (d.o O.LINK_RESTRIPES) 1 := by
    refine (Dev.o_so_self (d2.sendFour e tx rx) O.LINK_RESTRIPES 0 _).trans ?_
    rw [Dev.o_congr hfour.objs, h2.frame.o (by decide) (by decide)]
    show ctrAdd O.LINK_RESTRIPES 0 ((((d.so O.LINK_ACTIVE_TX 0 tx).so O.LINK_ACTIVE_HRX 0 rx).so O.LINK_STATE 0 3).o O.LINK_RESTRIPES) 1 = _
    rw [Dev.o_so_other (by decide) (by decide) (by decide), Dev.o_so_other (by decide) (by decide) (by decide),
      Dev.o_so_other (by decide) (by decide) (by decide)]
  have hu3 : d3.Uses 3 tx rx :=
    (hu1.of_frame h2.frame (by decide) (by decide) (by decide)).of_frame h3.frame (by decide) (by decide) (by decide)
  have hlast : ∀ d' : Dev, Dev.OnLanes d3 d' → Dev.Works restripeIdx d d' ∧ d'.Uses 3 tx rx ∧
      d'.o O.LINK_RESTRIPES = ctrAdd O.LINK_RESTRIPES 0 (d.o O.LINK_RESTRIPES) 1 := fun d' h =>
    ⟨((h1.trans (h2.mono (by decide))).trans (h3.mono (by decide))).trans (.of_lanes h),
      hu3.of_frame (l := []) (.of_objs h.objs) (by decide) (by decide) (by decide), (Dev.o_congr h.objs ..).trans hcount⟩
  split
  · exact hlast _ (.ite (Dev.onLanes_launch ..) (.refl d3))
  · exact hlast _ (.refl d3)

end

/-! ### TRAIN entered again (R738 to R740), and the link disabled (R721) -/

section
variable {e : Env} {d : Dev}

theorem Dev.dropQueues_keeps (e : Env) (d : Dev) : (d.dropQueues e).link.txq = [] ∧ (d.dropQueues e).link.part = [] ∧
    (d.dropQueues e).o O.LINK_ENABLE = d.o O.LINK_ENABLE ∧ Dev.Calm d (d.dropQueues e) := by
  have henable : ∀ (ps : List Packet) (d : Dev), (ps.foldl Dev.discard d).o O.LINK_ENABLE = d.o O.LINK_ENABLE := by
    intro ps
    induction ps with
    | nil => exact fun d => rfl
    | cons p ps ih =>
      exact fun d => (ih (d.discard p)).trans (Dev.o_so_key (by simp only [okey, O.LINK_TX_DISCARD, O.LINK_ENABLE]; omega))
  unfold Dev.dropQueues
  extract_lets fly all d1
  have h1 : Dev.Calm d d1 := .foldl (fun d p => .inc ..) all d
  exact ⟨rfl, rfl, henable all d, h1.trans ⟨rfl, rfl⟩⟩

theorem Dev.carrierFail_link (e : Env) (d : Dev) (n : Nat) : (d.carrierFail e n).link = d.link ∧
    (d.carrierFail e n).o O.LINK_ENABLE = d.o O.LINK_ENABLE ∧ Dev.Calm d (d.carrierFail e n) := by
  have hlost : (d.freeLock.inc O.LOCK_LOST).o O.LINK_ENABLE = d.o O.LINK_ENABLE :=
    (Dev.o_inc_other (by decide) (by decide) (by decide)).trans (Dev.o_freeLock (by decide) (by decide))
  unfold Dev.carrierFail Dev.loseLock
  split
  · exact ⟨Dev.link_log .., (Dev.o_log_other (by decide) (by decide)).trans hlost,
      (Dev.Calm.trans (d' := d.freeLock.inc O.LOCK_LOST) ⟨rfl, rfl⟩ (.log _))⟩
  · exact ⟨rfl, rfl, .refl d⟩

/-- TRAIN entered with nothing waiting (R740). -/
theorem Dev.enterTrain_spec (e : Env) (d : Dev) : (d.enterTrain e).o O.LINK_STATE = 1 ∧ (d.enterTrain e).link.trainAt = e.now ∧
    (d.enterTrain e).link.txq = [] ∧ (d.enterTrain e).link.part = [] ∧ Dev.Calm d (d.enterTrain e) := by
  unfold Dev.enterTrain
  extract_lets l1 d1 d2
  have habort : Dev.OnLanes d ((d.cutAir e).sendColumn 0 7) := (Dev.onLanes_cutAir e d).trans (Dev.onLanes_sendColumn ..)
  have h1 : Dev.Calm d d1 := .ite (.trans (d' := (d.cutAir e).sendColumn 0 7) ⟨by rw [habort.rest], by rw [habort.rest]⟩ (.inc ..)) ⟨rfl, rfl⟩
  obtain ⟨htxq, hpart, _, hdrop⟩ := Dev.dropQueues_keeps e d1
  have hlog : d2.link = (d1.dropQueues e).link := Dev.link_log ..
  have h2 : Dev.Calm d1 d2 := (hdrop.trans (.inc ..)).trans (.log _)
  clear_value d2
  obtain ⟨hlink, _, hfail⟩ := Dev.carrierFail_link e d2 3
  obtain ⟨hworks, hstate, hat⟩ := Dev.startTrain_spec e (d2.carrierFail e 3)
  refine ⟨hstate, hat, ?_, ?_, ((h1.trans h2).trans hfail).trans hworks.calm⟩
  · rw [hworks.txq, hlink, hlog, htxq]
  · rw [hworks.part, hlink, hlog, hpart]

/-- The link disabled: no lane in use. -/
theorem Dev.linkDisable_spec (e : Env) (d : Dev) :
    (d.linkDisable e).Uses 0 0 0 ∧ (d.linkDisable e).o O.LINK_ENABLE = d.o O.LINK_ENABLE ∧ Dev.Calm d (d.linkDisable e) := by
  unfold Dev.linkDisable
  extract_lets up l1 d1 d2 d3 d4
  have h1 : Dev.Works [] d d1 := .ite (.refl _ d) (.of_link rfl rfl)
  have h2 : d2.o O.LINK_ENABLE = d1.o O.LINK_ENABLE ∧ Dev.Calm d1 d2 := by
    obtain ⟨_, _, henable, hdrop⟩ := Dev.dropQueues_keeps e d1
    obtain ⟨_, henable', hfail⟩ := Dev.carrierFail_link e (d1.dropQueues e) 3
    show (if up then (d1.dropQueues e).carrierFail e 3 else d1).o _ = _ ∧ Dev.Calm d1 (if up then (d1.dropQueues e).carrierFail e 3 else d1)
    split
    · exact ⟨henable'.trans henable, hdrop.trans hfail⟩
    · exact ⟨rfl, .refl d1⟩
  have h3 : Dev.Works bringUpIdx d2 d3 := .foldl (fun d l hl => .ite (.refl _ d) (.so (by have := List.mem_range.1 hl; omega) (by decide))) d2
  have h4 : Dev.Works bringUpIdx d3 d4 :=
    .trans (.foldl (fun d l hl => .domSet (e := e) (on := false) (by have := List.mem_range.1 hl; omega) (by decide)) d3)
      (.domSet (e := e) (on := false) (by decide) (by decide))
  have h5 : Dev.Works bringUpIdx d4 (((d4.so O.LINK_STATE 0 0).so O.LINK_ACTIVE_TX 0 0).so O.LINK_ACTIVE_HRX 0 0) :=
    ((Dev.Works.so (by decide) (by decide)).trans (.so (by decide) (by decide))).trans (.so (by decide) (by decide))
  have hw := (h3.trans h4).trans h5
  obtain ⟨henable, hcalm⟩ := h2
  show Dev.Uses (((d4.so O.LINK_STATE 0 0).so O.LINK_ACTIVE_TX 0 0).so O.LINK_ACTIVE_HRX 0 0) 0 0 0 ∧ _
  refine ⟨⟨?_, ?_, Dev.o_so_self ..⟩, ?_, (h1.calm.trans hcalm).trans hw.calm⟩
  · rw [Dev.o_so_other (by decide) (by decide) (by decide), Dev.o_so_other (by decide) (by decide) (by decide), Dev.o_so_self]
  · rw [Dev.o_so_other (by decide) (by decide) (by decide), Dev.o_so_self]
  · exact (hw.frame.o (by decide) (by decide)).trans (henable.trans (h1.frame.o (by decide) (by decide)))

/-! ### Lane loss -/

/-- The objects that a lost lane changes. -/
def lossIdx : List Nat := [O.LANE_LOSSES, O.LANE_STATE, O.FLT_LOST]

theorem Dev.laneLost_spec (e : Env) (d : Dev) {lane : Nat} (cause : Nat) (hl : lane < 4096) : (d.laneLost e lane cause).o O.LANE_STATE lane = 5 ∧
    (d.laneLost e lane cause).o O.LANE_LOSSES lane = ctrAdd O.LANE_LOSSES lane (d.o O.LANE_LOSSES lane) 1 ∧
    Dev.Frame lossIdx d (d.laneLost e lane cause) ∧ Dev.Calm d (d.laneLost e lane cause) ∧
    (d.flt.held.length < 64 → ∃ en ∈ (d.laneLost e lane cause).flt.held, en.time = e.now ∧ en.code = 0x0C01 + cause ∧ en.cls = 2) := by
  refine ⟨?_, ?_, ?_, ((Dev.Calm.inc ..).trans (.so ..)).trans (.log _), fun h => Dev.exists_held_log h⟩
  · exact (Dev.o_log_other (by decide) hl).trans (Dev.o_so_self ..)
  · exact ((Dev.o_log_other (by decide) hl).trans (Dev.o_so_other (by decide) hl hl)).trans (Dev.o_so_self ..)
  · exact ((Dev.Frame.inc hl (by decide)).trans (.so hl (by decide))).trans (.log (by decide))

theorem Dev.gaernRx_nothing (e : Env) (d : Dev) : d.gaernRx e [] = d := by
  unfold Dev.gaernRx
  split
  · rfl
  · rfl

theorem Dev.laneLoss_transmit {n cause : Nat} (hup : d.linkUp = true) (hn : n < 8) (hcause : cause = 3 ∨ cause = 4)
    (hbit : bit (d.o O.LINK_ACTIVE_TX) n = true) : d.laneLoss e n cause [] =
      (d.laneLost e n cause).restripeOr e (setBit (d.o O.LINK_ACTIVE_TX) n false) (d.o O.LINK_ACTIVE_HRX) := by
  have hc : (cause == 3 || cause == 4) = true := by simpa using hcause
  unfold Dev.laneLoss Dev.laneGone
  rw [Dev.gaernRx_nothing]
  dsimp only
  rw [if_neg (by simp [hup]), if_pos (by simp [hn, hbit, hc])]

end

/-! ### The commands of bring-up -/

section
variable {s : State} {h : Hdr} {n : Nat}

theorem Dev.landEl_linkEnable (e : Env) (d : Dev) (ss v : Nat) : d.landEl e ss O.LINK_ENABLE 0 v =
    if v == 1 then (d.so O.LINK_ENABLE 0 1).linkEnable e else (d.so O.LINK_ENABLE 0 0).linkDisable e := rfl

theorem Dev.landEl_linkRetrain (e : Env) (d : Dev) (ss v : Nat) : d.landEl e ss O.LINK_RETRAIN 0 v = d.linkRetrain e := rfl

theorem linkEnable_trains (hq : s.Quiet) (ha : Accepts s h O.LINK_ENABLE 0 1) (hst : s.dev.o O.LINK_STATE = 0) (hlo : 5 ≤ s.dev.o O.SU_STATE)
    (hhi : s.dev.o O.SU_STATE ≤ 7) : Leads (.linkEnable h) s (fun t =>
      t.dev.o O.LINK_STATE = 1 ∧ t.dev.o O.LINK_ENABLE = 1 ∧ t.dev.link.trainAt = s.clock.time) := by
  obtain ⟨d, hd⟩ : ∃ d, d = (s.asked h O.LINK_ENABLE 0).so O.LINK_ENABLE 0 1 := ⟨_, rfl⟩
  have ho : ∀ {i}, i ≠ O.LINK_ENABLE → d.o i = s.dev.o i := fun {i} hi => by
    rw [hd, Dev.o_so_other hi (by decide) (by decide), State.o_asked]
  have hon : d.o O.LINK_ENABLE = 1 := by rw [hd, Dev.o_so_self]
  have hgo : d.linkEnable s.env = d.startTrain s.env := by
    unfold Dev.linkEnable Dev.ob
    rw [if_pos (by rw [hon, ho (by decide), ho (by decide)]; simp [hst, hlo, hhi])]
  obtain ⟨hworks, hstate, hat⟩ := Dev.startTrain_spec s.env d
  have hland := (Dev.landEl_linkEnable s.env (s.asked h O.LINK_ENABLE 0) h.sess 1).trans (if_pos rfl)
  rw [← hd, hgo] at hland
  have hcalm : Dev.Calm (s.asked h O.LINK_ENABLE 0) d := hd ▸ .so ..
  refine leads_lands _ hq ha rfl (by decide) hland (hcalm.trans hworks.calm) fun t ht => ⟨?_, ?_, ?_⟩
  · rw [ht.o (by decide) (by decide), hstate]
  · rw [ht.o (by decide) (by decide), hworks.frame.o (by decide) (by decide), hon]
  · rw [ht.link]
    exact hat

theorem linkDisable_disables (hq : s.Quiet) (ha : Accepts s h O.LINK_ENABLE 0 0) : Leads (.linkDisable h) s (fun t =>
    t.dev.o O.LINK_STATE = 0 ∧ t.dev.o O.LINK_ENABLE = 0 ∧ t.dev.o O.LINK_ACTIVE_TX = 0 ∧ t.dev.o O.LINK_ACTIVE_HRX = 0) := by
  obtain ⟨hoff, henable, hcalm⟩ := Dev.linkDisable_spec s.env ((s.asked h O.LINK_ENABLE 0).so O.LINK_ENABLE 0 0)
  have hland := (Dev.landEl_linkEnable s.env (s.asked h O.LINK_ENABLE 0) h.sess 0).trans (if_neg (by decide))
  refine leads_lands _ hq ha rfl (by decide) hland ((Dev.Calm.so ..).trans hcalm) fun t ht => ⟨?_, ?_, ?_, ?_⟩
  · rw [ht.o (by decide) (by decide), hoff.state]
  · rw [ht.o (by decide) (by decide), henable, Dev.o_so_self]
  · rw [ht.o (by decide) (by decide), hoff.tx]
  · rw [ht.o (by decide) (by decide), hoff.rx]

theorem Dev.hears_rxGroups {d : Dev} (hn : n < 2) (gs : List Nat) : Dev.Hears d (d.rxGroups n gs).2 := by
  induction gs generalizing d with
  | nil => exact .refl d
  | cons g gs ih => exact (Dev.hears_rxGroup hn g).trans ih

/-- A receive lane locked with a lane number, before the sets that say so (R724, R726). -/
def Dev.numbered (d : Dev) (n k ctle : Nat) : Dev :=
  { (d.so O.LANE_STATE (8 + n) 2).so O.LANE_CTLE_NOW (8 + n) ctle with
    link := { d.link with locked := setBit d.link.locked n true, number := tset n d.link.number n k } }

theorem Dev.laneLocked_eq {e : Env} {d : Dev} {groups : List Nat} {ctle k : Nat} (hn : n < 2) (hk2 : k < 2) (hst : d.o O.LINK_STATE = 1)
    (hbit : bit (d.o O.LINK_HRX_MASK) n = true) (hk : lockNumber (d.o O.LINK_RATE) (d.rxGroups n groups).1 = some k) :
    ∃ c tx rx a l, d.laneLocked e (8 + n) groups ctle = ((d.rxGroups n groups).2.numbered n k c).sendTrain e tx rx a l := by
  have hrate : (d.rxGroups n groups).2.o O.LINK_RATE = d.o O.LINK_RATE := (Dev.hears_rxGroups hn groups).frame.o (by decide) (by decide)
  have hlane : (8 + n == 8 || 8 + n == 9) = true := by
    obtain rfl | rfl : n = 0 ∨ n = 1 := by omega
    · rfl
    · rfl
  unfold Dev.laneLocked
  rw [if_pos (by rw [hst, hlane, Nat.add_sub_cancel_left, hbit]; rfl)]
  simp only [Nat.add_sub_cancel_left, hrate, hk]
  rw [if_neg (by omega)]
  exact ⟨_, _, _, _, _, rfl⟩

theorem laneLocked_locks {groups : List Nat} {ctle k : Nat} (hq : s.Quiet) (hst : s.dev.o O.LINK_STATE = 1) (hn : n < 2) (hk2 : k < 2)
    (hbit : bit (s.dev.o O.LINK_HRX_MASK) n = true)
    (hk : lockNumber (s.dev.o O.LINK_RATE) (s.begun.rxGroups n groups).1 = some k) :
    Leads (.laneLocked (8 + n) groups ctle) s (fun t => t.dev.o O.LANE_STATE (8 + n) = 2 ∧ bit t.dev.link.locked n = true ∧
      t.dev.hrxNumber n = k) := by
  obtain ⟨c, tx, rx, a, l, hrun⟩ := Dev.laneLocked_eq (e := s.env) (d := s.begun) (ctle := ctle) hn hk2 hst hbit hk
  have hears := Dev.hears_rxGroups (d := s.begun) hn groups
  obtain ⟨w, hw⟩ : ∃ w, w = (s.begun.rxGroups n groups).2.numbered n k c := ⟨_, rfl⟩
  have hstate : w.o O.LANE_STATE (8 + n) = 2 := by
    rw [hw]
    exact (Dev.o_so_other (i := O.LANE_CTLE_NOW) (by decide) (by omega) (by omega)).trans (Dev.o_so_self ..)
  have hlocked : bit w.link.locked n = true ∧ w.hrxNumber n = k := by
    rw [hw]
    exact ⟨bit_setBit_true .., tget_tset_self ..⟩
  have hcalm : Dev.Calm s.begun w := hw ▸ hears.calm.trans ⟨rfl, rfl⟩
  rw [← hw] at hrun
  have hlanes := Dev.onLanes_sendTrain s.env w tx rx a l
  obtain ⟨y, hy⟩ : ∃ y, y = w.sendTrain s.env tx rx a l := ⟨_, rfl⟩
  rw [← hy] at hrun hlanes
  have hkeep : Dev.Works [] w y := .of_lanes hlanes
  refine leads_calm (f := fun e d => d.laneLocked e (8 + n) groups ctle) _ hq rfl hrun (hcalm.trans hkeep.calm) fun t ht => ⟨?_, ?_, ?_⟩
  · rw [ht.o, Dev.o_congr hlanes.objs, hstate]
  · rw [ht.link, hlanes.link]
    exact hlocked.1
  · unfold Dev.hrxNumber
    rw [ht.link, hlanes.link]
    exact hlocked.2

/-- A receive lane deskewed, before the sets that say so (R725, R727). -/
def Dev.deskewed (e : Env) (d : Dev) (n : Nat) (on : Bool) : Dev :=
  { (d.so O.LANE_STATE (8 + n) 3).setAligned e on with
    link := { ((d.so O.LANE_STATE (8 + n) 3).setAligned e on).link with aligned := setBit d.link.aligned n true } }

theorem Dev.laneAligned_eq {e : Env} {d : Dev} (hn : n < 2) (hst : d.o O.LINK_STATE = 1) (hbit : bit d.link.locked n = true) :
    ∃ on tx rx a l, d.laneAligned e (8 + n) = (d.deskewed e n on).sendTrain e tx rx a l := by
  have hlane : (8 + n == 8 || 8 + n == 9) = true := by
    obtain rfl | rfl : n = 0 ∨ n = 1 := by omega
    · rfl
    · rfl
  unfold Dev.laneAligned
  rw [if_pos (by rw [hst, hlane, Nat.add_sub_cancel_left, hbit]; rfl)]
  simp only [Nat.add_sub_cancel_left]
  exact ⟨_, _, _, _, _, rfl⟩

theorem laneAligned_aligns (hq : s.Quiet) (hst : s.dev.o O.LINK_STATE = 1) (hn : n < 2) (hbit : bit s.dev.link.locked n = true) :
    Leads (.laneAligned (8 + n)) s (fun t => t.dev.o O.LANE_STATE (8 + n) = 3 ∧ bit t.dev.link.aligned n = true) := by
  obtain ⟨on, tx, rx, a, l, hrun⟩ := Dev.laneAligned_eq (e := s.env) (d := s.begun) hn hst hbit
  have hlanes := Dev.onLanes_sendTrain s.env (s.begun.deskewed s.env n on) tx rx a l
  obtain ⟨y, hy⟩ : ∃ y, y = (s.begun.deskewed s.env n on).sendTrain s.env tx rx a l := ⟨_, rfl⟩
  rw [← hy] at hrun hlanes
  have hkeep : Dev.Works [] (s.begun.deskewed s.env n on) y := .of_lanes hlanes
  refine leads_calm (f := fun e d => d.laneAligned e (8 + n)) _ hq rfl hrun ⟨hkeep.calm.settle, hkeep.calm.rstDue⟩ fun t ht => ⟨?_, ?_⟩
  · rw [ht.o, Dev.o_congr hlanes.objs]
    exact Dev.o_so_self s.begun O.LANE_STATE (8 + n) 3
  · rw [ht.link, hlanes.link]
    exact bit_setBit_true ..

theorem alignedTimeout_sets (hq : s.Quiet) (hst : s.dev.o O.LINK_STATE = 1) (hpol : s.dev.o O.LINK_LOSS_POLICY = 1)
    (hal : s.dev.link.aligned ≠ 0) (hdue : s.dev.link.trainAt + 1500000 ≤ s.clock.time) :
    Leads .alignedTimeout s (fun t => t.dev.link.alignedOk = true) := by
  have hrun : ∃ tx rx a l, s.begun.alignedTimeout s.env = (s.begun.setAligned s.env true).sendTrain s.env tx rx a l :=
    ⟨_, _, _, _, if_pos (by
      show (s.dev.o O.LINK_STATE == 1 && s.dev.o O.LINK_LOSS_POLICY == 1 && s.dev.link.aligned != 0 &&
        decide (s.dev.link.trainAt + 1500000 ≤ s.clock.time)) = true
      rw [hst, hpol, decide_eq_true hdue]
      simpa using hal)⟩
  obtain ⟨tx, rx, a, l, hrun⟩ := hrun
  have hlanes := Dev.onLanes_sendTrain s.env (s.begun.setAligned s.env true) tx rx a l
  have hkeep : Dev.Works [] (s.begun.setAligned s.env true) _ := .of_lanes hlanes
  refine leads_calm (f := fun e d => d.alignedTimeout e) _ hq rfl hrun ⟨hkeep.calm.settle, hkeep.calm.rstDue⟩ fun t ht => ?_
  rw [ht.link, hlanes.link]
  rfl

end

section
variable {s : State} {h : Hdr} {n : Nat}

theorem trainExit_transmitOnly (hTx hRx : Nat) (hq : s.Quiet) (hst : s.dev.o O.LINK_STATE = 1)
    (hmin : s.dev.link.trainAt + 1500 * s.dev.o O.LINK_TRAIN_MIN_US ≤ s.clock.time) (hmask : s.dev.o O.LINK_HRX_MASK = 0) :
    Leads (.trainExit hTx hRx) s (fun t => t.dev.o O.LINK_STATE = 2 ∧
      t.dev.o O.LINK_ACTIVE_TX = s.dev.o O.LINK_TX_MASK ∧ t.dev.o O.LINK_ACTIVE_HRX = 0 ∧ t.dev.link.owed = 0) := by
  have hrun : s.begun.trainExit s.env hTx hRx = s.begun.linkReady s.env (s.dev.o O.LINK_TX_MASK) 0 true :=
    (if_neg (by
      show ¬ (s.dev.o O.LINK_STATE != 1 || decide (s.clock.time < s.dev.link.trainAt + 1500 * s.dev.o O.LINK_TRAIN_MIN_US)) = true
      rw [hst, decide_eq_false (Nat.not_lt.mpr hmin)]
      decide)).trans (if_pos (beq_iff_eq.mpr hmask))
  obtain ⟨hu, _, howed, _, hcalm⟩ := Dev.linkReady_spec s.env s.begun (s.dev.o O.LINK_TX_MASK) 0 true
  exact leads_calm (f := fun e d => d.trainExit e hTx hRx) _ hq rfl hrun hcalm fun t ht =>
    ⟨(ht.o ..).trans hu.state, (ht.o ..).trans hu.tx, (ht.o ..).trans hu.rx, by rw [ht.link]; exact howed⟩

theorem trainExit_aligned (hTx hRx : Nat) (hq : s.Quiet) (hst : s.dev.o O.LINK_STATE = 1)
    (hmin : s.dev.link.trainAt + 1500 * s.dev.o O.LINK_TRAIN_MIN_US ≤ s.clock.time) (hmask : s.dev.o O.LINK_HRX_MASK ≠ 0)
    (hok : s.dev.link.alignedOk = true) (hdue : s.dev.link.alignedAt + s.dev.colCycles 129 ≤ s.clock.time)
    (hrx : s.dev.byNumber s.dev.link.aligned &&& hTx ≠ 0)
    (htx : s.dev.o O.LINK_MIN_TX_LANES ≤ popcount 8 (s.dev.o O.LINK_TX_MASK &&& hRx)) :
    Leads (.trainExit hTx hRx) s (fun t => t.dev.o O.LINK_ACTIVE_TX = s.dev.o O.LINK_TX_MASK &&& hRx ∧
      t.dev.o O.LINK_ACTIVE_HRX = s.dev.byNumber s.dev.link.aligned &&& hTx ∧
      (t.dev.o O.LINK_STATE = if s.dev.o O.LINK_TX_MASK &&& hRx = s.dev.o O.LINK_TX_MASK ∧
        s.dev.byNumber s.dev.link.aligned &&& hTx = s.dev.o O.LINK_HRX_MASK then 2 else 3) ∧
      t.dev.link.mseq = [] ∧ t.dev.link.owed = 0 ∧ t.dev.link.held = 0) := by
  have hrun : s.begun.trainExit s.env hTx hRx = s.begun.linkReady s.env (s.dev.o O.LINK_TX_MASK &&& hRx)
      (s.dev.byNumber s.dev.link.aligned &&& hTx) (s.dev.o O.LINK_TX_MASK &&& hRx == s.dev.o O.LINK_TX_MASK &&
        s.dev.byNumber s.dev.link.aligned &&& hTx == s.dev.o O.LINK_HRX_MASK) :=
    ((if_neg (by
      show ¬ (s.dev.o O.LINK_STATE != 1 || decide (s.clock.time < s.dev.link.trainAt + 1500 * s.dev.o O.LINK_TRAIN_MIN_US)) = true
      rw [hst, decide_eq_false (Nat.not_lt.mpr hmin)]
      decide)).trans (if_neg (fun hm => hmask (beq_iff_eq.mp hm)))).trans (if_pos (by
      show (s.dev.link.alignedOk && decide (s.dev.link.alignedAt + s.dev.colCycles 129 ≤ s.clock.time) &&
        s.dev.byNumber s.dev.link.aligned &&& hTx != 0 &&
        decide (s.dev.o O.LINK_MIN_TX_LANES ≤ popcount 8 (s.dev.o O.LINK_TX_MASK &&& hRx))) = true
      rw [hok, decide_eq_true hdue, decide_eq_true htx]
      simpa using hrx))
  obtain ⟨hu, hmseq, howed, hheld, hcalm⟩ := Dev.linkReady_spec s.env s.begun (s.dev.o O.LINK_TX_MASK &&& hRx)
    (s.dev.byNumber s.dev.link.aligned &&& hTx) (s.dev.o O.LINK_TX_MASK &&& hRx == s.dev.o O.LINK_TX_MASK &&
      s.dev.byNumber s.dev.link.aligned &&& hTx == s.dev.o O.LINK_HRX_MASK)
  refine leads_calm (f := fun e d => d.trainExit e hTx hRx) _ hq rfl hrun hcalm fun t ht =>
    ⟨(ht.o ..).trans hu.tx, (ht.o ..).trans hu.rx, (ht.o ..).trans (hu.state.trans ?_), by rw [ht.link]; exact hmseq,
      by rw [ht.link]; exact howed, by rw [ht.link]; exact hheld⟩
  simp only [Bool.and_eq_true, beq_iff_eq]

theorem trainTimeoutNotify_logs (hq : s.Quiet) (hst : s.dev.o O.LINK_STATE = 1) (hlong : s.dev.link.trainLong = false)
    (hdue : s.dev.link.trainAt + 75000000 ≤ s.clock.time) :
    Leads .trainTimeoutNotify s (fun t => t.dev.link.trainLong = true ∧ Logged s t 0x0C08 1) := by
  obtain ⟨w, hw⟩ : ∃ w : Dev, w = { s.begun with link := { s.dev.link with trainLong := true } } := ⟨_, rfl⟩
  have hrun : s.begun.trainTimeout s.env = w.log s.env 0x0C08 (locG 12 63 7) 1 := by
    rw [hw]
    exact if_pos (by
      show (s.dev.o O.LINK_STATE == 1 && !s.dev.link.trainLong && decide (s.dev.link.trainAt + 75000000 ≤ s.clock.time)) = true
      rw [hst, hlong, decide_eq_true hdue]
      rfl)
  have hcalm : Dev.Calm s.begun w := hw ▸ ⟨rfl, rfl⟩
  refine leads_calm (f := fun e d => d.trainTimeout e) _ hq rfl hrun (hcalm.trans (.log _)) fun t ht => ⟨?_, fun hroom => ?_⟩
  · rw [ht.link, Dev.link_log, hw]
  · rw [ht.flt]
    exact Dev.exists_held_log (by rw [hw]; exact Nat.lt_trans hroom (by decide))

/-! ### The commands of lane loss -/

theorem laneLoss_restripes {cause : Nat} (hq : s.Quiet) (hup : s.dev.linkUp = true) (hn : n < 8) (hcause : cause = 3 ∨ cause = 4)
    (hbit : bit (s.dev.o O.LINK_ACTIVE_TX) n = true) (hpol : s.dev.o O.LINK_LOSS_POLICY = 1) (hrx : s.dev.o O.LINK_ACTIVE_HRX ≠ 0)
    (hmin : s.dev.o O.LINK_MIN_TX_LANES ≤ popcount 8 (setBit (s.dev.o O.LINK_ACTIVE_TX) n false)) :
    Leads (.laneLoss n ⟨cause, []⟩) s (fun t => t.dev.o O.LINK_STATE = 3 ∧ t.dev.o O.LANE_STATE n = 5 ∧
      t.dev.o O.LINK_ACTIVE_TX = setBit (s.dev.o O.LINK_ACTIVE_TX) n false ∧
      t.dev.o O.LANE_LOSSES n = ctrAdd O.LANE_LOSSES n (s.dev.o O.LANE_LOSSES n) 1 ∧
      t.dev.o O.LINK_RESTRIPES = ctrAdd O.LINK_RESTRIPES 0 (s.dev.o O.LINK_RESTRIPES) 1 ∧ Logged s t (0x0C01 + cause) 2) := by
  have hrun := Dev.laneLoss_transmit (e := s.env) (d := s.begun) hup hn hcause hbit
  obtain ⟨hlane, hloss, hframe, hcalm, hlog⟩ := Dev.laneLost_spec s.env s.begun cause (lane := n) (by omega)
  obtain ⟨hworks, hu, hcount⟩ := Dev.restripe_spec (e := s.env) (d := s.begun.laneLost s.env n cause)
    (tx := setBit (s.dev.o O.LINK_ACTIVE_TX) n false) (rx := s.dev.o O.LINK_ACTIVE_HRX)
    ((hframe.o (by decide) (by decide)).trans hpol) (by rw [hframe.o (by decide) (by decide)]; exact hmin) hrx
  refine leads_calm (f := fun e d => d.laneLoss e n cause []) _ hq rfl hrun (hcalm.trans hworks.calm) fun t ht =>
    ⟨(ht.o ..).trans hu.state, ?_, (ht.o ..).trans hu.tx, ?_, ?_, fun hroom => ?_⟩
  · exact (ht.o ..).trans ((hworks.frame.o (by omega) (by decide)).trans hlane)
  · exact (ht.o ..).trans ((hworks.frame.o (by omega) (by decide)).trans hloss)
  · refine (ht.o ..).trans (hcount.trans ?_)
    rw [hframe.o (by decide) (by decide), State.o_begun]
  · have hroom' : s.begun.flt.held.length < 64 := Nat.lt_trans hroom (by decide)
    obtain ⟨en, hen, hat⟩ := hlog hroom'
    exact ⟨en, by rw [ht.flt]; exact hworks.flt.symm ▸ hen, hat⟩

theorem laneLoss_trains {cause : Nat} (hq : s.Quiet) (hup : s.dev.linkUp = true) (hn : n < 8) (hcause : cause = 3 ∨ cause = 4)
    (hbit : bit (s.dev.o O.LINK_ACTIVE_TX) n = true) (hpol : s.dev.o O.LINK_LOSS_POLICY = 0) :
    Leads (.laneLoss n ⟨cause, []⟩) s (fun t => t.dev.o O.LINK_STATE = 1 ∧ t.dev.link.txq = [] ∧ t.dev.link.trainAt = s.clock.time) := by
  obtain ⟨_, _, hframe, hcalm, _⟩ := Dev.laneLost_spec s.env s.begun cause (lane := n) (by omega)
  have hpol' : (s.begun.laneLost s.env n cause).o O.LINK_LOSS_POLICY = 0 := (hframe.o (by decide) (by decide)).trans hpol
  have hrun := (Dev.laneLoss_transmit (e := s.env) (d := s.begun) hup hn hcause hbit).trans (if_neg (by rw [hpol']; simp))
  obtain ⟨hstate, hat, htxq, _, hkeep⟩ := Dev.enterTrain_spec s.env (s.begun.laneLost s.env n cause)
  exact leads_calm (f := fun e d => d.laneLoss e n cause []) _ hq rfl hrun (hcalm.trans hkeep) fun t ht =>
    ⟨(ht.o ..).trans hstate, by rw [ht.link]; exact htxq, by rw [ht.link]; exact hat⟩

theorem retrainRequest_trains (hq : s.Quiet) (hup : s.dev.linkUp = true) (hrx : s.dev.o O.LINK_ACTIVE_HRX ≠ 0) :
    Leads .retrainRequest s (fun t => t.dev.o O.LINK_STATE = 1 ∧ t.dev.link.txq = [] ∧ t.dev.link.part = [] ∧
      t.dev.link.trainAt = s.clock.time) := by
  have hrun : s.begun.retrainReq s.env = s.begun.enterTrain s.env := if_pos (by
    show (s.dev.linkUp && s.dev.o O.LINK_ACTIVE_HRX != 0) = true
    simp [hup, hrx])
  obtain ⟨hstate, hat, htxq, hpart, hkeep⟩ := Dev.enterTrain_spec s.env s.begun
  exact leads_calm (f := fun e d => d.retrainReq e) _ hq rfl hrun hkeep fun t ht =>
    ⟨(ht.o ..).trans hstate, by rw [ht.link]; exact htxq, by rw [ht.link]; exact hpart, by rw [ht.link]; exact hat⟩

theorem linkRetrain_trains (hq : s.Quiet) (hup : s.dev.linkUp = true) (ha : Accepts s h O.LINK_RETRAIN 0 1) :
    Leads (.linkRetrain h) s (fun t => t.dev.o O.LINK_STATE = 1 ∧ t.dev.link.trainAt = s.clock.time) := by
  have hup' : (s.asked h O.LINK_RETRAIN 0).linkUp = true := (Dev.linkUp_congr (State.o_asked ..)).trans hup
  obtain ⟨hstate, hat, _, _, hkeep⟩ := Dev.enterTrain_spec s.env (s.asked h O.LINK_RETRAIN 0)
  refine leads_lands _ hq ha rfl (by decide) ((Dev.landEl_linkRetrain ..).trans (if_pos hup')) hkeep fun t ht => ⟨?_, ?_⟩
  · rw [ht.o (by decide) (by decide), hstate]
  · rw [ht.link]
    exact hat

end

/-! ### The host's announcement (R737) -/

section
variable {e : Env} {d : Dev}

/-- Lanes lost one after another: each shows LOST. -/
theorem Dev.lanesLost_spec (e : Env) (d : Dev) {ls : List Nat} (hl : ∀ l ∈ ls, l < 4096) (cause : Nat) :
    (∀ n ∈ ls, (ls.foldl (fun d l => d.laneLost e l cause) d).o O.LANE_STATE n = 5) ∧
    (∀ n, n < 4096 → n ∉ ls → (ls.foldl (fun d l => d.laneLost e l cause) d).o O.LANE_STATE n = d.o O.LANE_STATE n) ∧
    Dev.Frame lossIdx d (ls.foldl (fun d l => d.laneLost e l cause) d) ∧ Dev.Calm d (ls.foldl (fun d l => d.laneLost e l cause) d) := by
  induction ls generalizing d with
  | nil => exact ⟨fun n hn => absurd hn (by simp), fun _ _ _ => rfl, .refl _ d, .refl d⟩
  | cons l ls ih =>
    have hl0 : l < 4096 := hl l List.mem_cons_self
    obtain ⟨hlane, _, hframe, hcalm, _⟩ := Dev.laneLost_spec e d cause hl0
    obtain ⟨hin, hout, hframe', hcalm'⟩ := ih (d.laneLost e l cause) fun m hm => hl m (List.mem_cons_of_mem _ hm)
    have hother : ∀ n, n < 4096 → n ≠ l → (d.laneLost e l cause).o O.LANE_STATE n = d.o O.LANE_STATE n := fun n hn hne =>
      ((Dev.o_log_other (by decide) hn).trans (Dev.o_so_ne hl0 hn (.inr hne))).trans (Dev.o_inc_other (by decide) hl0 hn)
    refine ⟨fun n hn => ?_, fun n hn hnot => ?_, hframe.trans hframe', hcalm.trans hcalm'⟩
    · by_cases hmem : n ∈ ls
      · exact hin n hmem
      · obtain rfl : n = l := (List.mem_cons.mp hn).resolve_right hmem
        exact (hout n hl0 hmem).trans hlane
    · exact (hout n hn fun h => hnot (List.mem_cons_of_mem _ h)).trans (hother n hn fun h => hnot (h ▸ List.mem_cons_self))

/-- The receive lanes that the announcement leaves out show LOST. -/
def Dev.hrxLost (d : Dev) (rx : Nat) : Dev :=
  (d.hrxInUse.filter (fun n => !bit rx (d.hrxNumber n))).foldl (fun d n => d.so O.LANE_STATE (8 + n) 5) d

theorem Dev.hrxLost_spec (d : Dev) (rx : Nat) : (∀ n, n < 8 → (d.hrxLost rx).o O.LANE_STATE n = d.o O.LANE_STATE n) ∧
    Dev.Frame lossIdx d (d.hrxLost rx) ∧ Dev.Calm d (d.hrxLost rx) := by
  have hfold : ∀ (ls : List Nat), (∀ l ∈ ls, l < 2) → ∀ (d : Dev) n, n < 8 →
      (ls.foldl (fun d m => d.so O.LANE_STATE (8 + m) 5) d).o O.LANE_STATE n = d.o O.LANE_STATE n := by
    intro ls hls
    induction ls with
    | nil => exact fun d n _ => rfl
    | cons m ls ih =>
      intro d n hn
      have hm := hls m List.mem_cons_self
      exact (ih (fun l hl => hls l (List.mem_cons_of_mem _ hl)) _ n hn).trans (Dev.o_so_ne (by omega) (by omega) (.inr (by omega)))
  have hlt : ∀ n ∈ d.hrxInUse.filter (fun n => !bit rx (d.hrxNumber n)), n < 2 := fun n hn => Dev.hrxInUse_lt (List.mem_filter.mp hn).1
  exact ⟨fun n hn => hfold _ hlt d n hn, .foldl (fun d n hn => .so (by have := hlt n hn; omega) (by decide)) d, .foldl (fun d n => .so ..) _ d⟩

/-- The transmit lanes in use that the host no longer receives. -/
def Dev.lanesGone (d : Dev) (hostRx : Nat) : List Nat := (List.range 8).filter (fun l => bit (d.o O.LINK_ACTIVE_TX) l && !bit hostRx l)

theorem Dev.hostLoss_eq (e : Env) {hTx hRx : Nat} (hup : d.linkUp = true) (hrx : d.o O.LINK_ACTIVE_HRX ≠ 0) : ∃ d1,
    d1 = (d.lanesGone hRx).foldl (fun d l => d.laneLost e l 5) d ∧ d.hostLoss e hTx hRx =
      (d1.hrxLost (d1.o O.LINK_ACTIVE_HRX &&& hTx)).restripeOr e (d.o O.LINK_ACTIVE_TX &&& hRx) (d1.o O.LINK_ACTIVE_HRX &&& hTx) :=
  ⟨_, rfl, if_neg (by simp [hup, hrx])⟩

end

section
variable {s : State}

theorem hostLossAnnouncement_adopts (hTx hRx : Nat) (hq : s.Quiet) (hup : s.dev.linkUp = true) (hrx : s.dev.o O.LINK_ACTIVE_HRX ≠ 0)
    (hpol : s.dev.o O.LINK_LOSS_POLICY = 1) (hmin : s.dev.o O.LINK_MIN_TX_LANES ≤ popcount 8 (s.dev.o O.LINK_ACTIVE_TX &&& hRx))
    (hleft : s.dev.o O.LINK_ACTIVE_HRX &&& hTx ≠ 0) :
    Leads (.hostLossAnnouncement hTx hRx) s (fun t => t.dev.o O.LINK_STATE = 3 ∧
      t.dev.o O.LINK_ACTIVE_TX = s.dev.o O.LINK_ACTIVE_TX &&& hRx ∧ t.dev.o O.LINK_ACTIVE_HRX = s.dev.o O.LINK_ACTIVE_HRX &&& hTx ∧
      (∀ n, n < 8 → bit (s.dev.o O.LINK_ACTIVE_TX) n = true → bit hRx n = false → t.dev.o O.LANE_STATE n = 5)) := by
  obtain ⟨d1, hd1, hrun⟩ := Dev.hostLoss_eq (d := s.begun) s.env (hTx := hTx) (hRx := hRx) hup hrx
  have hgone : ∀ l ∈ s.begun.lanesGone hRx, l < 4096 := fun l hl => by
    have := List.mem_range.mp (List.mem_filter.mp hl).1
    omega
  obtain ⟨hlost, _, hframe1, hcalm1⟩ := Dev.lanesLost_spec s.env s.begun hgone 5
  rw [← hd1] at hlost hframe1 hcalm1
  have hrx1 : d1.o O.LINK_ACTIVE_HRX = s.dev.o O.LINK_ACTIVE_HRX := hframe1.o (by decide) (by decide)
  rw [hrx1] at hrun
  obtain ⟨hstay, hframe2, hcalm2⟩ := Dev.hrxLost_spec d1 (s.dev.o O.LINK_ACTIVE_HRX &&& hTx)
  obtain ⟨d2, hd2⟩ : ∃ d2, d2 = d1.hrxLost (s.dev.o O.LINK_ACTIVE_HRX &&& hTx) := ⟨_, rfl⟩
  rw [← hd2] at hrun hstay hframe2 hcalm2
  have hframe := hframe1.trans hframe2
  obtain ⟨hworks, hu, _⟩ := Dev.restripe_spec (e := s.env) (d := d2) (tx := s.dev.o O.LINK_ACTIVE_TX &&& hRx)
    (rx := s.dev.o O.LINK_ACTIVE_HRX &&& hTx) ((hframe.o (by decide) (by decide)).trans hpol)
    (by rw [hframe.o (by decide) (by decide)]; exact hmin) hleft
  refine leads_calm (f := fun e d => d.hostLoss e hTx hRx) _ hq rfl hrun ((hcalm1.trans hcalm2).trans hworks.calm) fun t ht =>
    ⟨(ht.o ..).trans hu.state, (ht.o ..).trans hu.tx, (ht.o ..).trans hu.rx, fun n hn hbit hno => ?_⟩
  have hmem : n ∈ s.begun.lanesGone hRx := List.mem_filter.mpr ⟨List.mem_range.mpr hn, by
    show (bit (s.dev.o O.LINK_ACTIVE_TX) n && !bit hRx n) = true
    rw [hbit, hno]
    rfl⟩
  exact (ht.o ..).trans (((hworks.frame.o (by omega) (by decide)).trans (hstay n hn)).trans (hlost n hmem))

/-- Settles O41, each step of bring-up and each way back into TRAIN from the state it finds. -/
theorem laneBringUpAndLoss : Obligations.LaneBringUpAndLoss :=
  ⟨fun _ _ hq => ⟨linkEnable_trains hq, linkDisable_disables hq, fun hst =>
      ⟨fun _ _ _ _ hn hk2 hbit hk => laneLocked_locks hq hst hn hk2 hbit hk, fun _ hn hbit => laneAligned_aligns hq hst hn hbit,
        alignedTimeout_sets hq hst, fun hTx hRx hmin => ⟨trainExit_transmitOnly hTx hRx hq hst hmin, trainExit_aligned hTx hRx hq hst hmin⟩,
        trainTimeoutNotify_logs hq hst⟩⟩,
    fun _ _ hq hup => ⟨fun _ _ hn hcause hbit => ⟨fun hpol hrx hmin => laneLoss_restripes hq hup hn hcause hbit hpol hrx hmin,
        laneLoss_trains hq hup hn hcause hbit⟩,
      fun hTx hRx hrx hpol hmin hleft => hostLossAnnouncement_adopts hTx hRx hq hup hrx hpol hmin hleft, retrainRequest_trains hq hup,
      linkRetrain_trains hq hup⟩⟩

end

end Sys2Proof.Machine
end

section
/-! PROOF. What the events of the digitisers, of self-calibration and of Atlas leave unchanged. -/

namespace Sys2Proof.Machine

/-! ### Actions within some objects -/

/-- GDDR7, what its bytes are read by, the bytes of the DOM objects, and the flash. -/
def Dev.store (d : Dev) : Tab Byte × List (Nat × Nat × Nat) × Tab Nat × Tab Byte × Tab Byte := (d.gddr, d.mem.undef, d.mem.filled, d.doms, d.flash)

/-- No object has changed but some; memory and what a command's end looks at are as before. -/
structure Dev.Within (l : List Nat) (d d' : Dev) : Prop where
  frame : Dev.Frame l d d'
  store : d'.store = d.store
  calm : Dev.Calm d d'

namespace Dev.Within
variable {l : List Nat} {e : Env} {d d' d'' : Dev}

theorem refl (l : List Nat) (d : Dev) : Within l d d := ⟨.refl l d, rfl, .refl d⟩

theorem trans (h : Within l d d') (k : Within l d' d'') : Within l d d'' :=
  ⟨h.frame.trans k.frame, k.store.trans h.store, h.calm.trans k.calm⟩

theorem ite {p : Prop} [Decidable p] {a b : Dev} (ha : Within l d a) (hb : Within l d b) : Within l d (if p then a else b) := by
  split
  · exact ha
  · exact hb

theorem foldl {α : Type} {f : Dev → α → Dev} {xs : List α} (h : ∀ d, ∀ x ∈ xs, Within l d (f d x)) (d : Dev) : Within l d (xs.foldl f d) := by
  induction xs generalizing d with
  | nil => exact refl l d
  | cons x xs ih => exact (h d x List.mem_cons_self).trans (ih (fun d y hy => h d y (List.mem_cons_of_mem _ hy)) _)

theorem so {i el v : Nat} (hel : el < 4096) (hi : i ∈ l) : Within l d (d.so i el v) := ⟨.so hel hi, rfl, ⟨rfl, rfl⟩⟩

theorem inc {i el n : Nat} (hel : el < 4096) (hi : i ∈ l) : Within l d (d.inc i el n) := so hel hi

/-- An action on other parts of the device. -/
theorem beside (ho : d'.objs = d.objs) (hs : d'.store = d.store) (hjq : d'.jq.settle = d.jq.settle) (hrst : d'.pwr.rstDue = d.pwr.rstDue) :
    Within l d d' := ⟨.of_objs ho, hs, ⟨hjq, hrst⟩⟩

theorem deliver {en : Entry} (h : O.FLT_LOST ∈ l) : Within l d (d.deliver en) := by
  unfold Dev.deliver
  split
  · exact .inc (by decide) h
  · exact beside rfl rfl rfl rfl

theorem log {code loc cls detail : Nat} {inj : Bool} (h : O.FLT_LOST ∈ l) : Within l d (d.log e code loc cls detail inj) := deliver h

theorem hmEval (h : hmIdx ⊆ l) : Within l d (d.hmEval e) := by
  have hm : HmFrom d (d.hmEval e) := .hmEval
  refine ⟨(Dev.frame_hmEval e d).mono h, ?_, Dev.calm_hmEval e d⟩
  unfold Dev.store
  rw [hm.rest]

theorem domSet {n : Nat} {on : Bool} (hn : n < 4096) (hl : domIdx ⊆ l) : Within l d (d.domSet e n on) := by
  have h := Dev.switched_domSet e d n on
  refine ⟨(Dev.frame_domSet hn).mono hl, ?_, ?_, ?_⟩
  · unfold Dev.store
    rw [h]
  · rw [h]
  · rw [h]

end Dev.Within

/-- A command whose effect stays within some objects keeps the rest. -/
theorem leads_keeps {c : Instr} {f : Env → Dev → Dev} {s : State} {l : List Nat} (hq : s.Quiet) (hc : exec c s = run f s)
    (h : Dev.Within l s.begun (f s.env s.begun)) (hl : O.CAP_GDDR7_FOUND ∉ l) : Leads c s (fun t => Keeps s t l) := by
  refine leads_calm _ hq hc rfl h.calm fun t ht => ?_
  have hstore := h.store
  simp only [Dev.store, Prod.mk.injEq] at hstore
  obtain ⟨hgddr, hundef, hfilled, hdoms, hflash⟩ := hstore
  exact ⟨fun i el he hi => (ht.o ..).trans (h.frame.o he hi), ht.gddr.trans hgddr,
    fun a => Dev.gByte_congr (ht.gddr.trans hgddr) ((congrArg Mem.undef ht.mem).trans hundef) ((congrArg Mem.filled ht.mem).trans hfilled)
      ((ht.o ..).trans (h.frame.o (by decide) hl)) a,
    ht.doms.trans hdoms, ht.flash.trans hflash, ht.part, ht.clock, ht.pending⟩

/-! ### Digitisers, filters and acquisition -/

section
variable {e : Env} {d : Dev}

theorem Dev.within_digiFailed {c : Nat} (hc : c < 32) : Dev.Within [O.DG_STATE, O.FLT_LOST] d (d.digiFailed e c) :=
  .ite ((Dev.Within.so (by omega) (by decide)).trans (.log (by decide))) (.refl _ d)

theorem Dev.within_fillDone {c : Nat} (hc : c < 32) : Dev.Within [O.FILT_STATE] d (d.fillDone e c) :=
  .ite (.so (by omega) (by decide)) (.refl _ d)

theorem Dev.within_addFade (l : List Nat) (d : Dev) (c start b len : Nat) : Dev.Within l d (d.addFade c start b len) := .beside rfl rfl rfl rfl

/-- The objects that the end of a cross-fade changes. -/
def fadeIdx : List Nat := [O.FILT_BANK, O.FILT_STATE, O.FILT_SWAP_REQ]

theorem Dev.within_fadeEnd {c : Nat} (hc : c < 32) : Dev.Within fadeIdx d (d.fadeEnd e c) := by
  have hset : ∀ (d : Dev) b, Dev.Within fadeIdx d (d.sos [(O.FILT_BANK, c, b), (O.FILT_STATE, c, 1), (O.FILT_SWAP_REQ, c, 0xFF)]) := fun d b => by
    show Dev.Within fadeIdx d (((d.so O.FILT_BANK c b).so O.FILT_STATE c 1).so O.FILT_SWAP_REQ c 0xFF)
    exact ((Dev.Within.so (by omega) (by decide)).trans (.so (by omega) (by decide))).trans (.so (by omega) (by decide))
  have hstart : ∀ (d : Dev) start b, Dev.Within fadeIdx d (d.fadeStart c start b) := fun d start b => by
    unfold Dev.fadeStart
    exact Dev.Within.trans (.ite (.so (by omega) (by decide)) (.so (by omega) (by decide))) (Dev.within_addFade ..)
  unfold Dev.fadeEnd
  dsimp only
  exact .ite (.ite ((hset ..).trans (hstart ..)) (hset ..)) (.refl _ d)

theorem Dev.within_rearmDone : Dev.Within [O.ACQ_STATE] d d.rearmDone := .ite (.so (by decide) (by decide)) (.refl _ d)

/-! ### Self-calibration -/

theorem Dev.within_calGapChunk {g ns : Nat} : Dev.Within [] d (d.calGapChunk e g ns) := by
  have htakes : ∀ (d : Dev) slice, Dev.Within [] d (d.calTakes slice false) := fun d slice =>
    .ite (.refl _ d) (.beside rfl rfl rfl rfl)
  unfold Dev.calGapChunk
  split
  next p _ =>
    refine .ite (.trans (d' := d.setPass g (some { p with gapNs := p.gapNs + ns, chunkEnd := e.now + (ns + 8000) * 3 / 2 })) ?_ (htakes ..)) (.refl _ d)
    exact .beside rfl rfl rfl rfl
  · exact .refl _ d

theorem Dev.within_calAgeDue {g : Nat} : Dev.Within [] d (d.calAgeDue e g) := .ite (.beside rfl rfl rfl rfl) (.refl _ d)

theorem Dev.within_saving : Dev.Within [O.FW_FLASH_BUSY] d (d.saving e) :=
  .trans (d' := d.so O.FW_FLASH_BUSY 0 1) (.so (by decide) (by decide)) (.beside rfl rfl rfl rfl)

theorem Dev.within_calSave : Dev.Within [O.FW_FLASH_BUSY] d (d.calSave e) := by
  by_cases h : d.pwr.flashOp = 0
  · rw [Dev.calSave_free h]
    exact Dev.within_saving
  · rw [Dev.calSave_busy h]
    exact .beside rfl rfl rfl rfl

theorem Dev.within_calErase : Dev.Within [O.FW_FLASH_BUSY] d d.calErase := by
  by_cases h : d.pwr.flashOp = 0
  · rw [Dev.calErase_free h]
    exact .trans (d' := d.so O.FW_FLASH_BUSY 0 1) (.so (by decide) (by decide)) (.beside rfl rfl rfl rfl)
  · rw [Dev.calErase_busy h]
    exact .beside rfl rfl rfl rfl

theorem Dev.Within.mono {l l' : List Nat} {d d' : Dev} (h : Dev.Within l d d') (hl : l ⊆ l') : Dev.Within l' d d' :=
  ⟨h.frame.mono hl, h.store, h.calm⟩

theorem Dev.within_calSaveNext : Dev.Within [O.FW_FLASH_BUSY] d (d.calSaveNext e) :=
  .ite (.refl _ d) (.ite Dev.within_calErase (.ite Dev.within_calSave (.refl _ d)))

theorem Dev.within_calFlashPeriod : Dev.Within [O.FW_FLASH_BUSY] d (d.calFlashPeriod e) := .ite Dev.within_calSave (.refl _ d)

/-- The objects that the end of a write of the calibration flash changes. -/
def flashIdx : List Nat := [O.FW_FLASH_BUSY, O.CAL_FLASH_WRITES, O.CAL_STORE_SEQ]

theorem Dev.within_saved : Dev.Within flashIdx d d.saved :=
  .trans (((Dev.Within.inc (i := O.CAL_FLASH_WRITES) (by decide) (by decide)).trans (.so (i := O.FW_FLASH_BUSY) (by decide) (by decide))).trans
    (.so (i := O.CAL_STORE_SEQ) (el := 0) (v := ((d.cal.writing.map CalStore.seq).getD 0) % 2 ^ 32) (by decide) (by decide)))
    (.beside rfl rfl rfl rfl)

theorem Dev.within_slotsErased : Dev.Within flashIdx d d.slotsErased :=
  .trans (d' := d.so O.FW_FLASH_BUSY 0 0) (.so (by decide) (by decide)) (.beside rfl rfl rfl rfl)

theorem Dev.within_calFlashDone : Dev.Within flashIdx d (d.calFlashDone e) := by
  have hnext : ∀ d : Dev, Dev.Within flashIdx d (d.calSaveNext e) := fun d => Dev.within_calSaveNext.mono (by decide)
  have heq : d.calFlashDone e = if d.pwr.flashOp == 2 then d.saved.calSaveNext e
      else if d.pwr.flashOp == 3 then d.slotsErased.calSaveNext e else d := rfl
  rw [heq]
  exact .ite (Dev.within_saved.trans (hnext _)) (.ite (Dev.within_slotsErased.trans (hnext _)) (.refl _ d))

/-! ### Atlas -/

theorem Dev.within_setBridge (l : List Nat) (d : Dev) (n : Nat) (b : Bridge) : Dev.Within l d (d.setBridge n b) := .beside rfl rfl rfl rfl

theorem Dev.within_setSlot (l : List Nat) (d : Dev) (q : Nat) (x : Slot) : Dev.Within l d (d.setSlot q x) := .beside rfl rfl rfl rfl

theorem Dev.within_blockCheck {n : Nat} (hn : n < 8) (d : Dev) (ms : List BridgeMeas) : Dev.Within [O.SB_I_MEAS] d (d.blockCheck e n ms) := by
  unfold Dev.blockCheck
  dsimp only
  split
  · exact Dev.within_setBridge ..
  next m _ =>
    have hset : Dev.Within [O.SB_I_MEAS] d (d.so O.SB_I_MEAS n (satN 65535 m.iEnd)) := .so (by omega) (by decide)
    exact .ite (hset.trans (Dev.within_setBridge ..)) (hset.trans (Dev.within_setBridge ..))

theorem Dev.within_blockEnd {ms : List BridgeMeas} : Dev.Within [O.SB_I_MEAS] d (d.blockEnd e ms) := by
  unfold Dev.blockEnd
  extract_lets at_ d1
  have h1 : Dev.Within [O.SB_I_MEAS] d d1 := .beside rfl rfl rfl rfl
  refine .ite (.refl _ d) (h1.trans (.foldl (fun d n hn => ?_) d1))
  have hcheck := Dev.within_blockCheck (e := e) (List.mem_range.1 hn) d ms
  exact .ite (.refl _ d) (.ite (hcheck.trans (Dev.within_setBridge ..)) hcheck)

theorem Dev.within_bridgeFault {n : Nat} (hn : n < 8) : Dev.Within [O.SB_FAULTS, O.SB_STATUS, O.FLT_LOST] d (d.bridgeFault e n) :=
  .ite ((((Dev.within_setBridge ..).trans (.so (i := O.SB_STATUS) (by omega) (by decide))).trans
    (.inc (i := O.SB_FAULTS) (by omega) (by decide))).trans (.log (by decide))) (.refl _ d)

theorem Dev.within_bridgeOk {n : Nat} (hn : n < 8) : Dev.Within [O.SB_STATUS] d (d.bridgeOk n) :=
  .ite (((Dev.within_setBridge ..).trans ((Dev.within_setBridge ..).trans (.so (i := O.SB_STATUS) (by omega) (by decide)))).trans
    (.so (i := O.SB_STATUS) (by omega) (by decide))) (.refl _ d)

/-- The objects that a loop sample changes. -/
def loopIdx : List Nat := [O.ATL_RESID, O.ATL_I_NOW, O.ATL_SAT, O.FLT_LOST]

theorem Dev.within_declared (d : Dev) (q st : Nat) (decl : Option (Nat × Nat)) : Dev.Within loopIdx d (match decl with
    | some c => if st == 2 then d.holdLog e q c.2 else d
    | none => d) := by
  split
  · exact .ite (.log (by decide)) (.refl _ d)
  · exact .refl _ d

theorem Dev.within_loopSample {q : Nat} {i : Int} (hq : q < 4) : Dev.Within loopIdx d (d.loopSample e q i) := by
  have hel : q < 4096 := Nat.lt_trans hq (by decide)
  unfold Dev.loopSample
  extract_lets x fresh missing th0
  refine .ite (.refl _ d) ?_
  split
  next x1 inRange usable sats _ =>
    extract_lets x2 d1 d2 st decl d3 chansOk
    have h1 : Dev.Within loopIdx d d1 := (Dev.within_setSlot _ d q x2).trans
      ((Dev.Within.so (i := O.ATL_RESID) hel (by decide)).trans (.so (i := O.ATL_I_NOW) hel (by decide)))
    have h2 : Dev.Within loopIdx d1 d2 := .ite (.refl _ d1) (.inc (by omega) (by decide))
    have h3 : Dev.Within loopIdx d2 d3 := Dev.within_declared ..
    exact ((h1.trans h2).trans h3).trans (Dev.within_setSlot ..)

theorem Dev.within_feedbackMissing {q : Nat} (hq : q < 4) : Dev.Within loopIdx d (d.feedbackMissing e q) :=
  .ite (.refl _ d) (Dev.within_loopSample hq)

/-- The objects that a coil fault changes. -/
def coilIdx : List Nat := [O.ATL_COIL_STATUS, O.ATL_STATE, O.ATL_CLEAN_MS, O.ATL_EST, O.ATL_ANGLE_NOW, O.HM_STATE, O.HM_INHIBITS,
  O.HM_DISARM_CAUSE, O.HM_DISARM_TIME, O.FLT_LOST]

theorem Dev.within_coilSet (d : Dev) (q v : Nat) : Dev.Within coilIdx d (d.coilSet q v) := by
  unfold Dev.coilSet
  split
  next c hc => exact .so (Nat.lt_trans (Dev.coilOf_lt hc) (by decide)) (by decide)
  · exact .refl _ d

theorem Dev.within_slotOff {q status : Nat} (hq : q < 4) : Dev.Within coilIdx d (d.slotOff e q status) :=
  ((((Dev.Within.so (i := O.ATL_STATE) (by omega) (by decide)).trans (.so (i := O.ATL_CLEAN_MS) (by omega) (by decide))).trans
    (Dev.within_coilSet ..)).trans (Dev.within_setSlot ..)).trans (.hmEval (by decide))

theorem Dev.within_coilFault {c status cell : Nat} (hc : c < 2) : Dev.Within coilIdx d (d.coilFault e c status cell) := by
  unfold Dev.coilFault
  split
  next q hq => exact (Dev.within_slotOff (List.mem_range.1 (List.mem_of_find?_eq_some hq))).trans (.log (by decide))
  · exact (Dev.Within.so (by omega) (by decide)).trans (.log (by decide))

theorem Dev.within_coilOc {c : Nat} (hc : c < 2) : Dev.Within coilIdx d (d.coilOc e c) := .ite (Dev.within_coilFault hc) (.refl _ d)

theorem Dev.within_coilOpen {c : Nat} (hc : c < 2) : Dev.Within coilIdx d (d.coilOpen e c) := by
  unfold Dev.coilOpen
  split
  · exact .ite (Dev.within_coilFault hc) (.refl _ d)
  · exact .refl _ d

theorem Dev.within_coilCompliance {c : Nat} {reached : Bool} (hc : c < 2) :
    Dev.Within [O.ATL_COIL_STATUS] d (d.coilCompliance c reached) := .ite (.so (by omega) (by decide)) (.refl _ d)

theorem Dev.within_pdTia {p : Nat} (hp : p < 4) (d : Dev) (sat : Bool) : Dev.Within [O.PD_STATUS, O.PD_VALUE] d (d.pdTia e p sat) := by
  have hnone : ∀ d : Dev, Dev.Within [O.PD_STATUS, O.PD_VALUE] d (d.pdNoSat p) := fun d => .beside rfl rfl rfl rfl
  unfold Dev.pdTia
  dsimp only
  refine .ite (Dev.Within.trans (.ite (.so (by omega) (by decide)) (.refl _ d)) (hnone _)) ?_
  have hsat : Dev.Within [O.PD_STATUS, O.PD_VALUE] d (if (tget none d.atl.pdSat p).isSome then d
      else { d with atl := { d.atl with pdSat := tset none d.atl.pdSat p (some e.now) } }) := .ite (.refl _ d) (.beside rfl rfl rfl rfl)
  exact .ite hsat (hsat.trans (.so (by omega) (by decide)))

theorem Dev.within_pdPublish {p v : Nat} {sat : Bool} (hp : p < 4) : Dev.Within [O.PD_STATUS, O.PD_VALUE] d (d.pdPublish e p v sat) := by
  unfold Dev.pdPublish
  extract_lets m d1 shot at_ d2
  have h1 : Dev.Within [O.PD_STATUS, O.PD_VALUE] d d1 := Dev.within_pdTia hp d sat
  have h2 : Dev.Within [O.PD_STATUS, O.PD_VALUE] d d2 := h1.trans (.beside rfl rfl rfl rfl)
  have hstatus : ∀ v, Dev.Within [O.PD_STATUS, O.PD_VALUE] d (d2.so O.PD_STATUS p v) := fun v => h2.trans (.so (by omega) (by decide))
  refine .ite (.refl _ d) (.ite h1 (.ite h2 (.ite (.ite h2 (hstatus 4)) ?_)))
  exact (h2.trans (.so (i := O.PD_VALUE) (by omega) (by decide))).trans (.so (i := O.PD_STATUS) (by omega) (by decide))

theorem Dev.within_pdStaleEnd {p : Nat} (hp : p < 4) : Dev.Within [O.PD_STATUS] d (d.pdStaleEnd e p) :=
  .ite (.trans (d' := d.so O.PD_STATUS p (if (tget none d.atl.pdSat p).isSome then 3 else 1)) (.so (by omega) (by decide))
    (.beside rfl rfl rfl rfl)) (.refl _ d)

theorem Dev.within_pdSatHold {p : Nat} : Dev.Within [O.FLT_LOST] d (d.pdSatHold e p) := by
  unfold Dev.pdSatHold
  split
  · exact .ite (.trans (d' := { d with atl := { d.atl with pdLogged := setBit d.atl.pdLogged p true } }) (.beside rfl rfl rfl rfl)
      (.log (by decide))) (.refl _ d)
  · exact .refl _ d

theorem Dev.within_traceFreeze : Dev.Within [O.ATL_TR_STATE] d d.traceFreeze := .ite (.so (by decide) (by decide)) (.refl _ d)

end

/-! ### The events of the table -/

/-- A field that the bounds of a well-formed instruction begin with is below its bound. -/
theorem Instr.lt_of_wf {c : Instr} {x b : Nat} {r : List (Nat × Nat)} (h : c.wf = true) (hb : c.bounds = (x, b) :: r) : x < b := by
  unfold Instr.wf at h
  rw [hb] at h
  exact of_decide_eq_true (Bool.and_eq_true_iff.1 (List.all_cons ▸ h)).1

/-- What waveFrame lists for an event is all of the objects that it changes. -/
theorem waveEvents_keep {s : State} {c : Instr} {l : List Nat} (hq : s.Quiet) (hwf : c.wf = true) (hl : waveFrame c = some l) :
    Leads c s (fun t => Keeps s t l) := by
  unfold waveFrame at hl
  split at hl <;> cases hl
  case h_1 c => exact leads_keeps (f := fun e d => d.digiFailed e c) hq rfl (Dev.within_digiFailed (Instr.lt_of_wf hwf rfl)) (by decide)
  case h_2 c => exact leads_keeps (f := fun e d => d.fillDone e c) hq rfl (Dev.within_fillDone (Instr.lt_of_wf hwf rfl)) (by decide)
  case h_3 c => exact leads_keeps (f := fun e d => d.fadeEnd e c) hq rfl (Dev.within_fadeEnd (Instr.lt_of_wf hwf rfl)) (by decide)
  case h_4 => exact leads_keeps (f := fun _ d => d.rearmDone) hq rfl Dev.within_rearmDone (by decide)
  case h_5 g ns => exact leads_keeps (f := fun e d => d.calGapChunk e g ns) hq rfl Dev.within_calGapChunk (by decide)
  case h_6 g => exact leads_keeps (f := fun e d => d.calAgeDue e g) hq rfl Dev.within_calAgeDue (by decide)
  case h_7 => exact leads_keeps (f := fun e d => d.calFlashPeriod e) hq rfl Dev.within_calFlashPeriod (by decide)
  case h_8 => exact leads_keeps (f := fun e d => d.calFlashDone e) hq rfl Dev.within_calFlashDone (by decide)
  case h_9 ms => exact leads_keeps (f := fun e d => d.blockEnd e ms) hq rfl Dev.within_blockEnd (by decide)
  case h_10 n => exact leads_keeps (f := fun e d => d.bridgeFault e n) hq rfl (Dev.within_bridgeFault (Instr.lt_of_wf hwf rfl)) (by decide)
  case h_11 n => exact leads_keeps (f := fun _ d => d.bridgeOk n) hq rfl (Dev.within_bridgeOk (Instr.lt_of_wf hwf rfl)) (by decide)
  case h_12 q i => exact leads_keeps (f := fun e d => d.loopSample e q i) hq rfl (Dev.within_loopSample (Instr.lt_of_wf hwf rfl)) (by decide)
  case h_13 q => exact leads_keeps (f := fun e d => d.feedbackMissing e q) hq rfl (Dev.within_feedbackMissing (Instr.lt_of_wf hwf rfl)) (by decide)
  case h_14 c => exact leads_keeps (f := fun e d => d.coilOc e c) hq rfl (Dev.within_coilOc (Instr.lt_of_wf hwf rfl)) (by decide)
  case h_15 c => exact leads_keeps (f := fun e d => d.coilOpen e c) hq rfl (Dev.within_coilOpen (Instr.lt_of_wf hwf rfl)) (by decide)
  case h_16 c reached => exact leads_keeps (f := fun _ d => d.coilCompliance c reached) hq rfl (Dev.within_coilCompliance (Instr.lt_of_wf hwf rfl)) (by decide)
  case h_17 p v sat => exact leads_keeps (f := fun e d => d.pdPublish e p v sat) hq rfl (Dev.within_pdPublish (Instr.lt_of_wf hwf rfl)) (by decide)
  case h_18 p => exact leads_keeps (f := fun e d => d.pdStaleEnd e p) hq rfl (Dev.within_pdStaleEnd (Instr.lt_of_wf hwf rfl)) (by decide)
  case h_19 p => exact leads_keeps (f := fun e d => d.pdSatHold e p) hq rfl Dev.within_pdSatHold (by decide)
  case h_20 => exact leads_keeps (f := fun _ d => d.traceFreeze) hq rfl Dev.within_traceFreeze (by decide)

end Sys2Proof.Machine
end

section
/-! PROOF. What the events of the carriers and of the link, and of memory, housekeeping and power, leave unchanged. -/

namespace Sys2Proof.Machine

/-! ### Carriers -/

section
variable {e : Env} {d d' : Dev}

/-- The objects that the loss of the lock changes. -/
def lockIdx : List Nat := [O.LOCK_OWNER, O.LOCK_LOST, O.FLT_LOST]

theorem Dev.within_loseLock (e : Env) (d : Dev) : Dev.Within lockIdx d (d.loseLock e) :=
  ((Dev.Within.trans (d' := d.so O.LOCK_OWNER 0 0xFF) (.so (by decide) (by decide)) (.beside (d' := d.freeLock) rfl rfl rfl rfl)).trans
    (.inc (i := O.LOCK_LOST) (by decide) (by decide))).trans (.log (by decide))

theorem Dev.within_carrierFail (e : Env) (d : Dev) (n : Nat) : Dev.Within lockIdx d (d.carrierFail e n) :=
  .ite (Dev.within_loseLock e d) (.refl _ d)

theorem Dev.within_setSess (l : List Nat) (d : Dev) (n : Nat) (x : Ses) : Dev.Within l d (d.setSess n x) := .beside rfl rfl rfl rfl

theorem Dev.within_canBusOff {c : Nat} : Dev.Within lockIdx d (d.canBusOff e c) :=
  .ite ((Dev.within_setSess ..).trans (Dev.within_carrierFail ..)) (.refl _ d)

theorem Dev.within_canRecover {c : Nat} : Dev.Within [] d (d.canRecover c) := .ite (Dev.within_setSess ..) (.refl _ d)

theorem Dev.within_spiFail : Dev.Within lockIdx d (d.spiFail e) := by
  unfold Dev.spiFail
  dsimp only
  split
  · exact .ite ((Dev.within_setSess ..).trans (Dev.within_carrierFail ..)) (.refl _ d)
  · exact .refl _ d

theorem Dev.within_spiPoll {clocked : Nat} : Dev.Within [] d (d.spiPoll clocked) := by
  unfold Dev.spiPoll
  extract_lets msg body all d1
  have h1 : Dev.Within [] d d1 := .beside rfl rfl rfl rfl
  exact .ite (.refl _ d) (.ite (h1.trans (Dev.within_setSess ..)) h1)

theorem Dev.within_leaseExpiry : Dev.Within lockIdx d (d.leaseExpiry e) := .ite (Dev.within_loseLock e d) (.refl _ d)

theorem Dev.within_tagExpiry {n tag : Nat} : Dev.Within [] d (d.tagExpiry e n tag) := Dev.within_setSess ..

theorem Dev.within_expire {n : Nat} : Dev.Within [] d (d.expire e n) := Dev.within_setSess ..

theorem Dev.within_tap (l : List Nat) (d : Dev) (t : Tap) : Dev.Within l d { d with tap := t } := .beside rfl rfl rfl rfl

theorem Dev.within_retire (d : Dev) (num : Nat) : Dev.Within [O.TAP_SENT, O.TAP_RETIRED_FRAME] d (d.retire num) := by
  unfold Dev.retire
  extract_lets d1 tap
  have h1 : Dev.Within [O.TAP_SENT, O.TAP_RETIRED_FRAME] d d1 := .ite (.so (by decide) (by decide)) (.refl _ d)
  clear_value d1
  exact h1.trans (Dev.within_tap ..)

theorem Dev.within_rasterRetire : Dev.Within [O.TAP_SENT, O.TAP_RETIRED_FRAME] d (d.rasterRetire e) := by
  unfold Dev.rasterRetire
  split
  · exact .ite (.refl _ d) ((Dev.within_retire ..).trans (.inc (by decide) (by decide)))
  · exact .refl _ d

/-! ### The link -/

/-- An action on the link and on what leaves. -/
theorem Dev.Within.of_link {l : List Nat} (h : d' = { d with sent := d'.sent, link := d'.link }) : Dev.Within l d d' :=
  .beside (by rw [h]) (by rw [h]; rfl) (by rw [h]) (by rw [h])

theorem Dev.within_link (l : List Nat) (d : Dev) (x : Link) : Dev.Within l d { d with link := x } := .beside rfl rfl rfl rfl

theorem Dev.within_alignCol : Dev.Within [] d (d.alignCol e) := .ite (.of_link (Dev.sendPair_spec d false).rest) (.refl _ d)

theorem Dev.within_creditOnly : Dev.Within [O.LINK_NOTIFY_DROPPED, O.LINK_TX_DISCARD] d (d.creditOnly e) := by
  refine .ite ?_ (.refl _ d)
  exact .ite (.inc (by decide) (by decide)) (.ite (.refl _ d) (.ite (.inc (by decide) (by decide)) (.beside rfl rfl rfl rfl)))

theorem Dev.within_tsMarkerRx {frac : Nat} : Dev.Within [] d (d.tsMarkerRx e frac) := .ite (.beside rfl rfl rfl rfl) (.refl _ d)

theorem Dev.within_tsTimeout : Dev.Within [O.LINK_TS_MISSED] d (d.tsTimeout e) :=
  .ite (.refl _ d) ((Dev.Within.foldl (l := [O.LINK_TS_MISSED]) (fun _ _ _ => Dev.within_link ..) d).trans (.inc (by decide) (by decide)))

/-- The objects that the lock of a receive lane changes. -/
def lockedIdx : List Nat := [O.LANE_STATE, O.LANE_CTLE_NOW, O.LANE_CV, O.LANE_DISP]

theorem Dev.within_rxGroup {n : Nat} (hn : n < 2) (d : Dev) (g : Nat) : Dev.Within lockedIdx d (d.rxGroup n g).2 := by
  unfold Dev.rxGroup
  extract_lets g' x rd k errs x' d1
  have hset : Dev.Within lockedIdx d d1 := .beside rfl rfl rfl rfl
  cases k with
  | valid => exact hset
  | disparity => exact hset.trans (.inc (by omega) (by decide))
  | violation => exact hset.trans (.inc (by omega) (by decide))

theorem Dev.within_rxGroups {n : Nat} (hn : n < 2) (gs : List Nat) (d : Dev) : Dev.Within lockedIdx d (d.rxGroups n gs).2 := by
  induction gs generalizing d with
  | nil => exact .refl _ d
  | cons g gs ih => exact (Dev.within_rxGroup hn d g).trans (ih _)

theorem Dev.within_sendTrain (l : List Nat) (e : Env) (d : Dev) (tx rx : Nat) (aligned locked : Bool) :
    Dev.Within l d (d.sendTrain e tx rx aligned locked) := .of_link (Dev.onLanes_sendTrain e d tx rx aligned locked).rest

theorem Dev.within_laneLocked {n ctle : Nat} {gs : List Nat} (hn : n < 10) : Dev.Within lockedIdx d (d.laneLocked e n gs ctle) := by
  have hel : n < 4096 := by omega
  have hgroups : Dev.Within lockedIdx d (d.rxGroups (n - 8) gs).2 := Dev.within_rxGroups (by omega) gs d
  unfold Dev.laneLocked
  refine .ite ?_ (.refl _ d)
  extract_lets x d1
  split
  · exact hgroups
  · extract_lets d2
    have h2 : ∀ v, Dev.Within lockedIdx d1 ((d1.so O.LANE_STATE n 2).so O.LANE_CTLE_NOW n v) := fun v =>
      (Dev.Within.so hel (by decide)).trans (.so hel (by decide))
    exact .ite hgroups (((hgroups.trans (h2 _)).trans (Dev.within_link ..)).trans (Dev.within_sendTrain ..))

theorem Dev.within_setAligned (l : List Nat) (e : Env) (d : Dev) (on : Bool) : Dev.Within l d (d.setAligned e on) := .beside rfl rfl rfl rfl

theorem Dev.within_laneAligned {n : Nat} (hn : n < 10) : Dev.Within [O.LANE_STATE] d (d.laneAligned e n) := by
  unfold Dev.laneAligned
  refine .ite ?_ (.refl _ d)
  extract_lets m ok d1 d2 link d3
  have h2 : Dev.Within [O.LANE_STATE] d d2 := (Dev.Within.so (by omega) (by decide)).trans (Dev.within_setAligned ..)
  have h3 : Dev.Within [O.LANE_STATE] d2 d3 := .beside rfl rfl rfl rfl
  exact (h2.trans h3).trans (Dev.within_sendTrain ..)

theorem Dev.within_alignedTimeout : Dev.Within [] d (d.alignedTimeout e) :=
  .ite ((Dev.within_setAligned ..).trans (Dev.within_sendTrain ..)) (.refl _ d)

theorem Dev.within_trainTimeout : Dev.Within [O.FLT_LOST] d (d.trainTimeout e) :=
  .ite (.trans (d' := { d with link := { d.link with trainLong := true } }) (.beside rfl rfl rfl rfl) (.log (by decide))) (.refl _ d)

theorem Dev.within_prbsGain {n : Nat} (hn : n < 10) : Dev.Within [O.PRBS_SYNC] d (d.prbsGain e n) :=
  .ite (.trans (d' := d.so O.PRBS_SYNC n 1) (.so (by omega) (by decide)) (.beside rfl rfl rfl rfl)) (.refl _ d)

/-- The objects that the loss of a checker's sync changes. -/
def prbsIdx : List Nat := [O.PRBS_SYNC, O.PRBS_BITS, O.PRBS_ERRS]

theorem Dev.within_prbsCount {n : Nat} (hn : n < 10) : Dev.Within prbsIdx d (d.prbsCount e n) :=
  .ite (.trans (d' := d.inc O.PRBS_BITS n (d.prbsNew e n)) (.inc (by omega) (by decide)) (.beside rfl rfl rfl rfl)) (.refl _ d)

theorem Dev.within_prbsLoss {n errs : Nat} (hn : n < 10) : Dev.Within prbsIdx d (d.prbsLoss e n errs) := by
  unfold Dev.prbsLoss
  extract_lets d1 near link d2
  have h1 : Dev.Within prbsIdx d d1 := (Dev.within_prbsCount hn).trans (.inc (by omega) (by decide))
  have h2 : Dev.Within prbsIdx d d2 := h1.trans (.beside rfl rfl rfl rfl)
  exact .ite (.ite (h2.trans (.so (by omega) (by decide))) h2) (.refl _ d)

/-! ### Memory -/

theorem Dev.within_memRefresh {ch bank : Nat} : Dev.Within [] d (d.memRefresh e ch bank) := .ite (.refl _ d) (.beside rfl rfl rfl rfl)

theorem Dev.within_waiting (l : List Nat) (d : Dev) (ws : List Waiter) : Dev.Within l d { d with mem := { d.mem with waiting := ws } } :=
  .beside rfl rfl rfl rfl

theorem Dev.within_promote {port req : Nat} (hreq : req < 16) : Dev.Within [O.MEM_ARB_PROMOTIONS] d (d.promote e port req) := by
  have hel : req < 4096 := by omega
  unfold Dev.promote
  split
  · exact .refl _ d
  · refine .ite (.refl _ d) ?_
    split
    · exact .refl _ d
    next l _ =>
      extract_lets m
      exact (Dev.within_waiting _ d _).trans (.inc (l := [O.MEM_ARB_PROMOTIONS]) hel (by decide))

/-! ### Housekeeping -/

/-- The objects that an urgent request and the sequencer change. -/
def hkIdx : List Nat := [O.HK_STATE, O.HK_PREEMPTS]

theorem Dev.within_hk (d : Dev) (h : Hk) : Dev.Within hkIdx d { d with hk := h } := .beside rfl rfl rfl rfl

theorem Dev.within_interrupt (d : Dev) (ent rep : Nat) : Dev.Within hkIdx d (d.interrupt ent rep) :=
  (Dev.within_hk ..).trans (.inc (by decide) (by decide))

theorem Dev.within_urgentStart (e : Env) (d : Dev) : Dev.Within hkIdx d (d.urgentStart e) := by
  unfold Dev.urgentStart
  split
  · exact .refl _ d
  · split
    · exact Dev.within_hk ..
    · refine .ite (Dev.within_hk ..) ?_
      split
      · exact (Dev.within_interrupt ..).trans (Dev.within_hk ..)
      · exact .refl _ d

theorem Dev.within_hkAfter (e : Env) (d : Dev) : Dev.Within hkIdx d (d.hkAfter e) := by
  unfold Dev.hkAfter
  extract_lets +onlyGivenNames d1 h d2
  have h1 : Dev.Within hkIdx d d1 := Dev.within_urgentStart ..
  have h2 : Dev.Within hkIdx d d2 := h1.trans (.ite (Dev.within_hk ..) (.refl _ d1))
  refine .ite (h2.trans ?_) h2
  exact (Dev.Within.so (d := d2) (i := O.HK_STATE) (by decide) (by decide)).trans (Dev.within_hk ..)

theorem Dev.within_hkShift (e : Env) (d : Dev) : Dev.Within hkIdx d (d.hkShift e) :=
  .ite (.refl _ d) ((Dev.within_hk ..).trans (Dev.within_hkAfter ..))

theorem Dev.within_hkRepeat : Dev.Within hkIdx d (d.hkRepeat e) := by
  unfold Dev.hkRepeat
  extract_lets d1 ent w cv cv1 last hk h
  have h1 : Dev.Within hkIdx d d1 := Dev.within_hkShift ..
  have hset : ∀ h : Hk, Dev.Within hkIdx d { d1 with hk := h } := fun h => h1.trans (Dev.within_hk ..)
  exact .ite h1 (.ite (hset _) (.ite (hset _) (.ite (hset _) (hset _))))

theorem Dev.within_urgentReq (e : Env) (d : Dev) (src input : Nat) : Dev.Within hkIdx d (d.urgentReq e src input) :=
  ((Dev.within_hkShift e d).trans (Dev.within_hk ..)).trans (Dev.within_urgentStart ..)

theorem Dev.within_thermalRound {t : Nat} : Dev.Within hkIdx d (d.thermalRound e t) :=
  .ite ((Dev.within_hk ..).trans (Dev.within_urgentReq ..)) (.refl _ d)

theorem Dev.within_vhvCheck : Dev.Within hkIdx d (d.vhvCheck e) :=
  .ite ((Dev.within_hk ..).trans (Dev.within_urgentReq ..)) (.refl _ d)

/-! ### Power and start-up -/

/-- The objects that the end of fuse load changes. -/
def fusedIdx : List Nat := [O.SU_STATE, O.SU_PHASE_US, O.HM_STATE, O.HM_INHIBITS, O.HM_DISARM_CAUSE, O.HM_DISARM_TIME, O.FLT_LOST]

theorem Dev.within_phase (e : Env) (d : Dev) (p : Nat) : Dev.Within fusedIdx d (d.phase e p) := by
  unfold Dev.phase
  extract_lets n d1 pwr
  have h1 : Dev.Within fusedIdx d d1 := by
    unfold d1
    split
    · exact .so (by omega) (by decide)
    · exact .refl _ d
  exact .trans (d' := d1.so O.SU_STATE 0 p) (h1.trans (.so (by decide) (by decide))) (.beside rfl rfl rfl rfl)

theorem Dev.within_vhvWindowLog (e : Env) (d : Dev) : Dev.Within fusedIdx d (d.vhvWindowLog e) :=
  have hcut : Dev.Within fusedIdx d d.cutDrive := .beside rfl rfl rfl rfl
  (hcut.trans (.log (by decide))).trans (.hmEval (by decide))

theorem Dev.within_fuseDone : Dev.Within fusedIdx d (d.fuseDone e) :=
  .ite (.ite ((Dev.within_phase ..).trans (Dev.within_vhvWindowLog ..)) (Dev.within_phase ..)) (.refl _ d)

/-- The objects that the begin of fuse load changes. -/
def railsIdx : List Nat := [O.SU_STATE, O.SU_START_KIND, O.PWR_DOM_STATE, O.PWR_DOM_SWITCHES, O.FLT_LOST]

theorem Dev.within_running (l : List Nat) (d : Dev) (p : Pwr) (h : Hk) (hp : p.rstDue = d.pwr.rstDue) :
    Dev.Within l d { d with pwr := p, hk := h } := .beside rfl rfl rfl hp

theorem Dev.within_fuseStart (e : Env) (d : Dev) : Dev.Within railsIdx d (d.fuseStart e) := by
  unfold Dev.fuseStart
  extract_lets k d1 pwr hk d2 d3 rec_
  have h1 : Dev.Within railsIdx d d1 := (Dev.Within.so (i := O.SU_STATE) (el := 0) (v := 0) (by decide) (by decide)).trans
    (.so (i := O.SU_START_KIND) (el := 0) (by decide) (by decide))
  clear_value d1
  have h2 : Dev.Within railsIdx d1 d2 := Dev.within_running _ d1 _ _ rfl
  clear_value d2
  have hon : ∀ n ∈ alwaysDoms, n < 4096 := by decide
  have h3 : Dev.Within railsIdx d2 d3 := .foldl (fun d n hn => .domSet (on := true) (hon n hn) (by decide)) d2
  clear_value d3
  have h : Dev.Within railsIdx d d3 := (h1.trans h2).trans h3
  have hrec : ∀ code cell slice cls time, Dev.Within railsIdx d (rec_ code cell slice cls time) := fun _ _ _ _ _ => h.trans (.deliver (by decide))
  exact .ite (hrec ..) (.ite (hrec ..) (.ite (hrec ..) (.ite (.ite (hrec ..) (.ite (hrec ..) (hrec ..)))
    (.ite (hrec ..) (.ite (h.trans (.deliver (by decide))) h)))))

theorem Dev.within_railsUp : Dev.Within railsIdx d (d.railsUp e) := .ite (Dev.within_fuseStart e d) (.refl _ d)

theorem Dev.within_rampOk {n : Nat} (hn : n < 96) : Dev.Within [O.PWR_DOM_STATE] d (d.rampOk e n) :=
  .ite (.so (by omega) (by decide)) (.refl _ d)

theorem Dev.within_rampFault {n : Nat} (hn : n < 96) : Dev.Within [O.PWR_DOM_STATE, O.SU_STATE, O.FLT_LOST] d (d.rampFault e n) := by
  unfold Dev.rampFault
  extract_lets d1 stop d2
  have h1 : Dev.Within [O.PWR_DOM_STATE, O.SU_STATE, O.FLT_LOST] d d1 := .so (by omega) (by decide)
  have h2 : Dev.Within [O.PWR_DOM_STATE, O.SU_STATE, O.FLT_LOST] d d2 := h1.trans (.log (by decide))
  exact .ite (.ite h1 (.ite (h2.trans (.so (by decide) (by decide))) h2)) (.refl _ d)

theorem Dev.within_crystalFail : Dev.Within [O.DEV_TIME_SLOWSRC, O.CLK_SLOW_FAILS, O.FLT_LOST] d (d.crystalFail e) :=
  .ite (((Dev.Within.so (i := O.DEV_TIME_SLOWSRC) (by decide) (by decide)).trans
    (.inc (i := O.CLK_SLOW_FAILS) (by decide) (by decide))).trans (.log (by decide))) (.refl _ d)

end

/-! ### The events of the tables -/

/-- A second field of a well-formed instruction is below its bound. -/
theorem Instr.lt_of_wf_snd {c : Instr} {x b : Nat} {p : Nat × Nat} {r : List (Nat × Nat)} (h : c.wf = true)
    (hb : c.bounds = p :: (x, b) :: r) : x < b := by
  unfold Instr.wf at h
  exact of_decide_eq_true (List.all_eq_true.1 h (x, b) (by simp [hb]))

/-- What linkFrame lists for an event is all of the objects that it changes. -/
theorem linkEvents_keep {s : State} {c : Instr} {l : List Nat} (hq : s.Quiet) (hwf : c.wf = true) (hl : linkFrame c = some l) :
    Leads c s (fun t => Keeps s t l) := by
  unfold linkFrame at hl
  split at hl <;> cases hl
  case h_1 c => exact leads_keeps (f := fun e d => d.canBusOff e c) hq rfl Dev.within_canBusOff (by decide)
  case h_2 c => exact leads_keeps (f := fun _ d => d.canRecover c) hq rfl Dev.within_canRecover (by decide)
  case h_3 => exact leads_keeps (f := fun e d => d.spiFail e) hq rfl Dev.within_spiFail (by decide)
  case h_4 clocked => exact leads_keeps (f := fun _ d => d.spiPoll clocked) hq rfl Dev.within_spiPoll (by decide)
  case h_5 => exact leads_keeps (f := fun e d => d.leaseExpiry e) hq rfl Dev.within_leaseExpiry (by decide)
  case h_6 n tag => exact leads_keeps (f := fun e d => d.tagExpiry e n tag) hq rfl Dev.within_tagExpiry (by decide)
  case h_7 n => exact leads_keeps (f := fun e d => d.expire e n) hq rfl Dev.within_expire (by decide)
  case h_8 n => exact leads_keeps (f := fun e d => d.expire e n) hq rfl Dev.within_expire (by decide)
  case h_9 => exact leads_keeps (f := fun e d => d.rasterRetire e) hq rfl Dev.within_rasterRetire (by decide)
  case h_10 => exact leads_keeps (f := fun e d => d.alignCol e) hq rfl Dev.within_alignCol (by decide)
  case h_11 => exact leads_keeps (f := fun e d => d.creditOnly e) hq rfl Dev.within_creditOnly (by decide)
  case h_12 frac => exact leads_keeps (f := fun e d => d.tsMarkerRx e frac) hq rfl Dev.within_tsMarkerRx (by decide)
  case h_13 => exact leads_keeps (f := fun e d => d.tsTimeout e) hq rfl Dev.within_tsTimeout (by decide)
  case h_14 n gs ctle => exact leads_keeps (f := fun e d => d.laneLocked e n gs ctle) hq rfl (Dev.within_laneLocked (Instr.lt_of_wf hwf rfl)) (by decide)
  case h_15 n => exact leads_keeps (f := fun e d => d.laneAligned e n) hq rfl (Dev.within_laneAligned (Instr.lt_of_wf hwf rfl)) (by decide)
  case h_16 => exact leads_keeps (f := fun e d => d.alignedTimeout e) hq rfl Dev.within_alignedTimeout (by decide)
  case h_17 => exact leads_keeps (f := fun e d => d.trainTimeout e) hq rfl Dev.within_trainTimeout (by decide)
  case h_18 n => exact leads_keeps (f := fun e d => d.prbsGain e n) hq rfl (Dev.within_prbsGain (Instr.lt_of_wf hwf rfl)) (by decide)
  case h_19 n errs => exact leads_keeps (f := fun e d => d.prbsLoss e n errs) hq rfl (Dev.within_prbsLoss (Instr.lt_of_wf hwf rfl)) (by decide)

/-- What powerFrame lists for an event is all of the objects that it changes. -/
theorem powerEvents_keep {s : State} {c : Instr} {l : List Nat} (hq : s.Quiet) (hwf : c.wf = true) (hl : powerFrame c = some l) :
    Leads c s (fun t => Keeps s t l) := by
  unfold powerFrame at hl
  split at hl <;> cases hl
  case h_1 ch bank => exact leads_keeps (f := fun e d => d.memRefresh e ch bank) hq rfl Dev.within_memRefresh (by decide)
  case h_2 port req => exact leads_keeps (f := fun e d => d.promote e port req) hq rfl (Dev.within_promote (Instr.lt_of_wf_snd hwf rfl)) (by decide)
  case h_3 => exact leads_keeps (f := fun e d => d.hkRepeat e) hq rfl Dev.within_hkRepeat (by decide)
  case h_4 t => exact leads_keeps (f := fun e d => d.thermalRound e t) hq rfl Dev.within_thermalRound (by decide)
  case h_5 => exact leads_keeps (f := fun e d => d.vhvCheck e) hq rfl Dev.within_vhvCheck (by decide)
  case h_6 => exact leads_keeps (f := fun e d => d.fuseDone e) hq rfl Dev.within_fuseDone (by decide)
  case h_7 => exact leads_keeps (f := fun e d => d.railsUp e) hq rfl Dev.within_railsUp (by decide)
  case h_8 n => exact leads_keeps (f := fun e d => d.rampOk e n) hq rfl (Dev.within_rampOk (Instr.lt_of_wf hwf rfl)) (by decide)
  case h_9 n => exact leads_keeps (f := fun e d => d.rampFault e n) hq rfl (Dev.within_rampFault (Instr.lt_of_wf hwf rfl)) (by decide)
  case h_10 => exact leads_keeps (f := fun e d => d.crystalFail e) hq rfl Dev.within_crystalFail (by decide)

/-- Settles O56, by what each event's action leaves unchanged and the bounds of its fields. -/
theorem otherEventsKeepTheRest : Obligations.OtherEventsKeepTheRest :=
  ⟨fun _ _ _ hq hwf hl => waveEvents_keep hq hwf hl, fun _ _ _ hq hwf hl => linkEvents_keep hq hwf hl,
    fun _ _ _ hq hwf hl => powerEvents_keep hq hwf hl⟩

end Sys2Proof.Machine
end

section
/-! PROOF. What has left the package stays counted as sent: the lanes, the drive, the receive path, extraction and the waveform path. -/

namespace Sys2Proof.Machine

/-! ### What has left -/

/-- What the command has sent so far is still there, with more behind it at most. -/
def Dev.Sends (d d' : Dev) : Prop := d.sent <+: d'.sent

namespace Dev.Sends
variable {e : Env} {d d' d'' : Dev}

theorem refl (d : Dev) : Sends d d := List.prefix_rfl

theorem trans (h : Sends d d') (k : Sends d' d'') : Sends d d'' := List.IsPrefix.trans h k

/-- An action that sends nothing. -/
theorem same (h : d'.sent = d.sent) : Sends d d' := ⟨[], by rw [h, List.append_nil]⟩

theorem ite {p : Prop} [Decidable p] {a b : Dev} (ha : Sends d a) (hb : Sends d b) : Sends d (if p then a else b) := by
  split
  · exact ha
  · exact hb

theorem foldl {α : Type} {f : Dev → α → Dev} (h : ∀ d x, Sends d (f d x)) (xs : List α) (d : Dev) : Sends d (xs.foldl f d) :=
  rel_foldl refl trans h xs d

theorem send (d : Dev) (x : Out) : Sends d (d.send x) := ⟨[x], rfl⟩

theorem so (d : Dev) (i el v : Nat) : Sends d (d.so i el v) := same rfl

theorem inc (d : Dev) (i el n : Nat) : Sends d (d.inc i el n) := same rfl

theorem sos (d : Dev) (l : List (Nat × Nat × Nat)) : Sends d (d.sos l) := by
  unfold Dev.sos
  exact foldl (fun d p => so d p.1 p.2.1 p.2.2) l d

theorem so_of (h : Sends d d') (i el v : Nat) : Sends d (d'.so i el v) := h.trans (so ..)

/-- An action after one that sends nothing. -/
theorem after (k : Sends d' d'') (h : d'.sent = d.sent) : Sends d d'' := (same h).trans k

theorem link (d : Dev) (x : Link) : Sends d { d with link := x } := same rfl

theorem hm (d : Dev) (x : Hm) : Sends d { d with hm := x } := same rfl

theorem em (d : Dev) (x : Em) : Sends d { d with em := x } := same rfl

theorem rx (d : Dev) (x : Rx) : Sends d { d with rx := x } := same rfl

theorem ex (d : Dev) (x : Ex) : Sends d { d with ex := x } := same rfl

theorem rl (d : Dev) (x : Rl) : Sends d { d with rl := x } := same rfl

theorem acq (d : Dev) (x : Acq) : Sends d { d with acq := x } := same rfl

theorem cal (d : Dev) (x : Cal) : Sends d { d with cal := x } := same rfl

theorem atl (d : Dev) (x : Atl) : Sends d { d with atl := x } := same rfl

theorem tap (d : Dev) (x : Tap) : Sends d { d with tap := x } := same rfl

theorem hk (d : Dev) (x : Hk) : Sends d { d with hk := x } := same rfl

theorem pwr (d : Dev) (x : Pwr) : Sends d { d with pwr := x } := same rfl

theorem log (d : Dev) {code loc cls detail : Nat} {inj : Bool} : Sends d (d.log e code loc cls detail inj) := same (Dev.sent_log ..)

theorem of_hm (h : HmFrom d d') : Sends d d' := same (by rw [h.rest])

theorem of_switched (h : Dev.Switched d d') : Sends d d' := same (by rw [h])

theorem of_traffic (h : Dev.Traffic d d') : Sends d d' := same (by rw [h.rest])

theorem mem (h : Sends d d') {x : Out} (hx : x ∈ d.sent) : x ∈ d'.sent := h.subset hx

end Dev.Sends

section
variable (e : Env) (d : Dev)

theorem Dev.sends_setDom (i el off : Nat) (bs : Bytes) : Dev.Sends d (d.setDom i el off bs) := .same (by rw [Dev.setDom_eq])

theorem Dev.sends_hmEval : Dev.Sends d (d.hmEval e) := .of_hm .hmEval

theorem Dev.sends_domSet (n : Nat) (on : Bool) : Dev.Sends d (d.domSet e n on) := .of_switched (Dev.switched_domSet ..)

theorem Dev.sends_domOn (n : Nat) : Dev.Sends d (d.domOn e n) := Dev.sends_domSet e d n true

theorem Dev.sends_domOff (n : Nat) : Dev.Sends d (d.domOff n) := .so ..

theorem Dev.sends_enq (p : Packet) : Dev.Sends d (d.enq p) :=
  .ite (.inc ..) (.ite (.refl d) (.ite (.inc ..) (.same rfl)))

theorem Dev.sends_logRepeat (code loc cls detail : Nat) : Dev.Sends d (d.logRepeat e code loc cls detail) := by
  refine .ite (.same rfl) ?_
  split
  · exact (Dev.sends_setDom ..).trans (.of_traffic (Dev.traffic_mirror ..))
  · exact .log d

/-! ### The lanes -/

theorem Dev.sends_cutAir : Dev.Sends d (d.cutAir e) := .same (by
  unfold Dev.cutAir
  split
  · rfl
  · dsimp only
    split
    · rfl
    · rfl)

theorem Dev.sends_sendColumn (c k : Nat) : Dev.Sends d (d.sendColumn c k) := ⟨[_], rfl⟩

theorem Dev.sends_sendTrain (tx rx : Nat) (aligned locked : Bool) : Dev.Sends d (d.sendTrain e tx rx aligned locked) := ⟨[_], rfl⟩

theorem Dev.sends_dropQueues : Dev.Sends d (d.dropQueues e) :=
  .trans (.foldl (fun _ _ => .inc ..) _ d) (.same rfl)

theorem Dev.sends_carrierFail (n : Nat) : Dev.Sends d (d.carrierFail e n) :=
  .ite (.trans (d' := d.freeLock.inc O.LOCK_LOST) (.same rfl) (.log _)) (.refl d)

theorem Dev.sends_prbsCount (l : Nat) : Dev.Sends d (d.prbsCount e l) := .ite (.same rfl) (.refl d)

theorem Dev.sends_laneTestOff (l : Nat) : Dev.Sends d (d.laneTestOff e l) :=
  have h := ((Dev.sends_prbsCount e d l).trans (.so _ O.PRBS_CHK l 0)).trans (.so _ O.PRBS_SYNC l 0)
  .ite ((h.trans (.so _ O.PRBS_GEN l 0)).trans (.so _ O.INJ_GO l 0)) h

theorem Dev.sends_startTrain : Dev.Sends d (d.startTrain e) := by
  unfold Dev.startTrain
  extract_lets tx rx lanes d1 d2 d3 d4 d5 link d6
  have h1 : Dev.Sends d d1 := .foldl (fun d l => (Dev.sends_laneTestOff e d l).trans (.so ..)) _ d
  have h2 : Dev.Sends d1 d2 := .foldl (fun d l => .ite (.refl d) (.so ..)) _ d1
  have h3 : Dev.Sends d2 d3 := .foldl (fun d l => Dev.sends_domSet ..) _ d2
  have h4 : Dev.Sends d3 d5 := (Dev.sends_domSet ..).trans (.sos d4 _)
  have h5 : Dev.Sends d5 d6 := .same rfl
  exact ((((h1.trans h2).trans h3).trans h4).trans h5).trans (Dev.sends_sendTrain ..)

theorem Dev.sends_linkEnable : Dev.Sends d (d.linkEnable e) := .ite (Dev.sends_startTrain e d) (.refl d)

theorem Dev.sends_enterTrain : Dev.Sends d (d.enterTrain e) := by
  unfold Dev.enterTrain
  extract_lets l1 d1 d2
  have h1 : Dev.Sends d d1 := .ite (((Dev.sends_cutAir e d).trans (Dev.sends_sendColumn ..)).trans (.inc ..)) (.same rfl)
  have h2 : Dev.Sends d1 d2 := ((Dev.sends_dropQueues e d1).trans (.inc ..)).trans (.log _)
  exact ((h1.trans h2).trans (Dev.sends_carrierFail ..)).trans (Dev.sends_startTrain ..)

theorem Dev.sends_linkRetrain : Dev.Sends d (d.linkRetrain e) := .ite (Dev.sends_enterTrain e d) (.refl d)

theorem Dev.sends_linkDisable : Dev.Sends d (d.linkDisable e) := by
  unfold Dev.linkDisable
  extract_lets up l1 d1 d2 d3 d4
  have h1 : Dev.Sends d d1 := .ite (.refl d) (.same rfl)
  have h2 : Dev.Sends d1 d2 := .ite ((Dev.sends_dropQueues e d1).trans (Dev.sends_carrierFail ..)) (.refl d1)
  have h3 : Dev.Sends d2 d3 := .foldl (fun d l => .ite (.refl d) (.so ..)) _ d2
  have h4 : Dev.Sends d3 d4 := .trans (.foldl (fun d l => Dev.sends_domOff ..) _ d3) (Dev.sends_domOff ..)
  exact (((h1.trans h2).trans h3).trans h4).trans (.sos d4 _)

theorem Dev.sends_policyLanded (v : Nat) : Dev.Sends d (d.policyLanded e v) :=
  .ite (.trans (d' := (d.trainTo e).so O.LINK_LOSS_POLICY 0 v) (.same rfl) (Dev.sends_sendTrain ..)) (.so ..)

theorem Dev.sends_trainTo : Dev.Sends d (d.trainTo e) := .link ..

theorem Dev.sends_tapsWrite (idx el v : Nat) : Dev.Sends d (d.tapsWrite e idx el v) :=
  .so_of (.ite (Dev.sends_trainTo e d) (.refl d)) ..

theorem Dev.sends_ctleWrite (el v : Nat) : Dev.Sends d (d.ctleWrite el v) :=
  have h : Dev.Sends d (d.so O.LANE_CTLE el v) := .so ..
  .ite h (h.trans (.so ..))

theorem Dev.sends_prbsGen (l v : Nat) : Dev.Sends d (d.prbsGen l v) :=
  have h : Dev.Sends d (d.so O.PRBS_GEN l v) := .so ..
  .ite h (h.trans (.so ..))

theorem Dev.sends_prbsChk (l v : Nat) : Dev.Sends d (d.prbsChk l v) :=
  have h := Dev.Sends.sos d [(O.PRBS_CHK, l, v), (O.PRBS_BITS, l, 0), (O.PRBS_ERRS, l, 0), (O.PRBS_SYNC, l, 0)]
  .ite h (h.trans (.so ..))

theorem Dev.sends_prbsLoss (l errs : Nat) : Dev.Sends d (d.prbsLoss e l errs) := by
  unfold Dev.prbsLoss
  extract_lets d1 near link d2
  have h1 : Dev.Sends d d1 := (Dev.sends_prbsCount e d l).trans (.inc ..)
  have h2 : Dev.Sends d d2 := h1.trans (.same rfl)
  exact .ite (.ite (h2.trans (.so ..)) h2) (.refl d)

theorem Dev.sends_inject (l : Nat) : Dev.Sends d (d.inject e l) := by
  unfold Dev.inject
  extract_lets k raw d1 link d2
  have h2 : Dev.Sends d d2 := .same rfl
  exact .ite (.refl d) (.ite (.ite (h2.trans (Dev.sends_prbsLoss ..)) h2)
    (.ite (h2.trans (.inc ..)) (.ite (h2.trans (.inc ..)) (h2.trans (.same rfl)))))

theorem Dev.sends_injStart (l : Nat) : Dev.Sends d (d.injStart e l) :=
  have h : Dev.Sends d (d.so O.INJ_GO l 1) := .so ..
  .ite (h.trans (Dev.sends_inject ..)) (h.trans (.same rfl))

/-! ### Drive and Hawkmoth -/

theorem Dev.sends_hmArm : Dev.Sends d (d.hmArm e) := .ite (.same rfl) (.refl d)

theorem Dev.sends_hmDisarm : Dev.Sends d (d.hmDisarm e) := .ite (.refl d) (.of_hm .disarm)

theorem Dev.sends_limitWritten (k v : Nat) : Dev.Sends d (d.limitWritten e k v) := by
  unfold Dev.limitWritten
  extract_lets hm1 d1 tau
  have h1 : Dev.Sends d d1 := .same rfl
  have hset : ∀ (d : Dev) s, Dev.Sends d (d.setLevel k s v) := fun d s => .trans
    (d' := { d with hm := { d.hm with levels := tset 0 d.hm.levels (k * 256 + s) v } }) (.same rfl) (.ite (.so ..) (.refl _))
  exact .ite (.refl d) (.ite h1 (h1.trans ((Dev.Sends.foldl hset _ _).after rfl)))

theorem Dev.sends_hmLand (idx el v : Nat) : Dev.Sends d (d.hmLand e idx el v) := by
  unfold Dev.hmLand
  extract_lets d1 d2 hm d3
  have h1 : Dev.Sends d d1 := .same rfl
  have h2 : Dev.Sends d1 d2 := .ite (Dev.sends_limitWritten ..) (.refl d1)
  have h3 : Dev.Sends d2 d3 := .ite (.same rfl) (.refl d2)
  exact ((h1.trans h2).trans h3).trans (Dev.sends_hmEval ..)

theorem Dev.sends_twStart (t : Nat) (shares : List Nat) : Dev.Sends d (d.twStart t shares) := ⟨[_], rfl⟩

theorem Dev.sends_twEnabled (v : Nat) : Dev.Sends d (d.twEnabled v) := by
  unfold Dev.twEnabled
  extract_lets em_ em d1 d2
  have h1 : Dev.Sends d d1 := .ite (.same rfl) (.refl d)
  have h2 : Dev.Sends d d2 := h1.trans (.so ..)
  exact .ite h2 (h2.trans (.same rfl))

/-! ### The receive path -/

theorem Dev.sends_groupSet (g st : Nat) : Dev.Sends d (d.groupSet e g st) := .of_switched (Dev.switched_groupSet ..)

theorem Dev.sends_groupDown (g : Nat) (off : Bool) : Dev.Sends d (d.groupDown e g off) :=
  .ite (.refl d) (.ite (Dev.sends_groupSet ..) (.ite (Dev.sends_groupSet ..) (.ite (.same rfl) (.refl d))))

theorem Dev.sends_groupRetry (g : Nat) : Dev.Sends d (d.groupRetry e g) := .ite (Dev.sends_groupSet ..) (.refl d)

theorem Dev.sends_groupIdle (g : Nat) : Dev.Sends d (d.groupIdle e g) := by
  unfold Dev.groupIdle
  extract_lets pol
  refine .ite (Dev.sends_groupDown ..) (.ite (.refl d) ?_)
  split
  · exact Dev.sends_groupDown ..
  · exact .ite (.refl d) (.ite (Dev.sends_groupDown ..) (Dev.sends_groupDown ..))

theorem Dev.sends_verdict (ch pol : Nat) (sat : Bool) (peak : Nat) : Dev.Sends d (d.verdict ch pol sat peak) := .ite (.refl d) (.same rfl)

theorem Dev.sends_forceLanded (ch old new : Nat) : Dev.Sends d (d.forceLanded ch old new) := .ite (.same rfl) (.refl d)

theorem Dev.sends_biasRamp (b v : Nat) : Dev.Sends d (d.biasRamp e b v) := .same rfl

theorem Dev.sends_biasOff (b st : Nat) (vhv : Bool) : Dev.Sends d (d.biasOff b st vhv) := .same rfl

theorem Dev.sends_biasRetarget (b v : Nat) : Dev.Sends d (d.biasRetarget e b v) := by
  unfold Dev.biasRetarget
  extract_lets old pos st bias x d1
  have h1 : Dev.Sends d d1 := .same rfl
  exact .ite h1 (.ite (h1.trans (Dev.sends_biasRamp ..)) (.ite (h1.trans (Dev.sends_biasRamp ..)) (.ite (h1.trans (.same rfl)) h1)))

theorem Dev.sends_biasLand : Dev.Sends d (d.biasLand e) := by
  refine .foldl (fun d b => ?_) _ d
  split
  · exact Dev.sends_biasRetarget ..
  · exact .refl d

theorem Dev.sends_biasSlew (b v : Nat) : Dev.Sends d (d.biasSlew e b v) :=
  .so_of (.ite (Dev.sends_biasRamp ..) (.refl d)) ..

theorem Dev.sends_biasEnable (b v : Nat) : Dev.Sends d (d.biasEnable e b v) := by
  unfold Dev.biasEnable
  extract_lets st d1
  have h1 : Dev.Sends d d1 := (Dev.Sends.so ..).trans (Dev.sends_domSet ..)
  exact .ite (h1.trans (Dev.sends_biasOff ..)) (.ite (.ite (h1.trans (Dev.sends_biasOff ..)) ((h1.trans (.so ..)).trans (Dev.sends_biasRamp ..)))
    (.ite (h1.trans (.so ..)) h1))

theorem Dev.sends_watchEnable (v : Nat) : Dev.Sends d (d.watchEnable e v) := .ite (.same rfl) (.so ..)

theorem Dev.sends_serveThese (ready : List SwitchReq) : Dev.Sends d (d.serveThese ready) := by
  have hserve : ∀ (d : Dev) (r : SwitchReq), Dev.Sends d (d.serve r.chan r.slice) := fun d r =>
    have h : Dev.Sends d (d.so O.RX_SLICE_OF r.chan r.slice) := .so ..
    .ite (h.trans (.inc ..)) h
  have hdone : ∀ (d : Dev) (r : SwitchReq), Dev.Sends d (d.serveDone (r.chan / 16)) := fun d r => .ite (.refl d) (.same rfl)
  unfold Dev.serveThese
  extract_lets rx d1
  have h1 : Dev.Sends d d1 := .same rfl
  exact (h1.trans (.foldl hserve ready d1)).trans (.foldl hdone ready _)

theorem Dev.sends_serveLand : Dev.Sends d (d.serveLand e) :=
  .ite (.refl d) (.ite (Dev.sends_serveThese ..) (Dev.sends_serveThese ..))

theorem Dev.sends_serveReq (ch s : Nat) : Dev.Sends d (d.serveReq ch s) := by
  unfold Dev.serveReq
  extract_lets rx d1
  have h1 : Dev.Sends d d1 := .same rfl
  exact .ite (h1.trans (Dev.sends_serveThese ..)) h1

theorem Dev.sends_takeover (g pos who : Nat) : Dev.Sends d (d.takeover g pos who) :=
  .trans (d' := { d with rx := { d.rx with holder := tset 0 d.rx.holder g who } }) (.same rfl) (Dev.sends_serveReq ..)

theorem Dev.sends_takeBack (g : Nat) : Dev.Sends d (d.takeBack g) := by
  unfold Dev.takeBack
  split
  · exact .ite (.refl d) (.same rfl)
  · exact Dev.sends_serveReq ..

theorem Dev.sends_repairLost (g : Nat) : Dev.Sends d (d.repairLost e g) :=
  .foldl (fun d pos => .ite (.refl d) (.trans
    (d' := { d with cal := { d.cal with noRepair := setBit d.cal.noRepair (16 * g + pos) true } }) (.same rfl) (.log _))) _ d

theorem Dev.sends_repairLand (g v : Nat) : Dev.Sends d (d.repairLand e g v) := by
  unfold Dev.repairLand
  lift_lets
  extract_lets old c d1 rx1 d2 d3 c' rx3 d4 d5
  have h2 : Dev.Sends d d2 := .ite (.same rfl) (.refl d)
  have h3 : Dev.Sends d d3 := h2.so_of ..
  have h5 : Dev.Sends d3 d5 := .ite (.same rfl) (.refl d3)
  exact (h3.trans h5).trans (Dev.sends_repairLost ..)

theorem Dev.sends_repairSettle (g : Nat) : Dev.Sends d (d.repairSettle e g) := by
  unfold Dev.repairSettle
  split
  · exact .ite (.trans (d' := { d with shadows := tset none d.shadows (okey O.RX_REPAIR g) none }) (.same rfl) (Dev.sends_repairLand ..))
      (.refl d)
  · exact .refl d

theorem Dev.sends_skipReturn (g : Nat) : Dev.Sends d (d.skipReturn e g) :=
  have h : Dev.Sends d (d.so O.RX_SKIP_REQ g 0xFF) := .so ..
  .ite ((h.trans (Dev.sends_takeBack ..)).trans (Dev.sends_repairSettle ..)) h

theorem Dev.sends_skipTake (g pos : Nat) : Dev.Sends d (d.skipTake g pos) := (Dev.Sends.so ..).trans (Dev.sends_takeover ..)

theorem Dev.sends_statShow : Dev.Sends d d.statShow := .so_of (.so_of (.so ..) ..) ..

theorem Dev.sends_statStart : Dev.Sends d d.statStart := by
  unfold Dev.statStart
  extract_lets tdc
  exact .ite (.so ..) ((Dev.Sends.sos d _).trans ((Dev.sends_statShow _).after rfl))

theorem Dev.sends_statAbandon : Dev.Sends d d.statAbandon :=
  have h : Dev.Sends d (d.so O.TDC_STAT_START 0 0) := .so ..
  .ite (h.trans (.so ..)) h

theorem Dev.sends_statStopped : Dev.Sends d d.statStopped := .ite (.so ..) (.refl d)

/-! ### Extraction and Ringlet -/

theorem Dev.sends_flushHdrs : Dev.Sends d d.flushHdrs :=
  .ite (.refl d) (.trans (d' := { d with ex := { d.ex with hdrs := [] } }) (.same rfl) (Dev.sends_enq ..))

theorem Dev.sends_hdrDone (word : Nat) (result : Bool) (records : List Nat) : Dev.Sends d (d.hdrDone e word result records) := by
  unfold Dev.hdrDone
  extract_lets ex d1
  have h1 : Dev.Sends d d1 := .same rfl
  exact .ite ((Dev.sends_flushHdrs d).trans (Dev.sends_enq ..)) (.ite (.refl d) (.ite (h1.trans (Dev.sends_flushHdrs ..)) h1))

theorem Dev.sends_capture (g : ExGroup) : Dev.Sends d (d.capture e g) := .ite (.refl d) (Dev.sends_setDom ..)

theorem Dev.sends_closeGroup (inst : Nat) (tg : Nat → Int) (ext : Nat → Bool) : Dev.Sends d (d.closeGroup e inst tg ext) := by
  unfold Dev.closeGroup
  split
  · exact .refl d
  next g _ =>
    refine .ite (.refl d) ?_
    extract_lets d1 d2 chs edge fix flags word ex
    have h1 : Dev.Sends d d1 := (Dev.Sends.inc ..).trans (Dev.sends_capture ..)
    have h2 : Dev.Sends d d2 := h1.trans (.foldl (fun d v => Dev.sends_verdict ..) _ d1)
    exact .ite (h2.trans ((Dev.sends_hdrDone ..).after rfl)) (h2.trans (.same rfl))

theorem Dev.sends_dirtyCheck : Dev.Sends d (d.dirtyCheck e) := by
  unfold Dev.dirtyCheck
  extract_lets old n m d1 rl
  have h1 : Dev.Sends d d1 := .so ..
  exact .ite (h1.trans ((Dev.Sends.log _).after rfl)) (.ite (h1.trans (Dev.sends_logRepeat ..)) (.ite (h1.trans (.same rfl)) h1))

theorem Dev.sends_intfFrame (complete : Bool) : Dev.Sends d (d.intfFrame complete) := .trans (.ite (.so ..) (.refl d)) (.same rfl)

theorem Dev.sends_genStep : Dev.Sends d d.genStep := .so ..

theorem Dev.sends_geometry (v : Nat) : Dev.Sends d (d.geometry v) := .ite (.refl d) ((Dev.Sends.so ..).trans (Dev.sends_genStep _))

theorem Dev.sends_ringEnable (v : Nat) : Dev.Sends d (d.ringEnable v) := .ite (.same rfl) (.so ..)

theorem Dev.sends_ringStop : Dev.Sends d (d.ringStop e) := (Dev.sends_intfFrame ..).trans (.same rfl)

theorem Dev.sends_ringStart : Dev.Sends d (d.ringStart e) := by
  unfold Dev.ringStart
  split
  · exact .ite (Dev.sends_genStep d) (.refl d)
  · exact .refl d

/-! ### Digitisers, filters and acquisition -/

theorem Dev.sends_syncChain (c t : Nat) : Dev.Sends d (d.syncChain c t) :=
  ((Dev.Sends.inc ..).trans (.sos _ _)).trans (.acq ..)

theorem Dev.sends_syncMask (m t : Nat) : Dev.Sends d (d.syncMask e m t) :=
  .foldl (fun d _ => .ite (Dev.sends_syncChain ..) (.refl d)) _ d

theorem Dev.sends_digiOn (s : Nat) : Dev.Sends d (d.digiOn e s) := by
  unfold Dev.digiOn
  extract_lets d1 d2
  have h1 : Dev.Sends d d1 := .so ..
  have h2 : Dev.Sends d1 d2 := ((Dev.Sends.so ..).trans (Dev.sends_domOn ..)).trans (Dev.sends_domSet ..)
  exact .ite h1 ((h1.trans h2).trans (.same rfl))

theorem Dev.sends_digiOff (s : Nat) : Dev.Sends d (d.digiOff e s) :=
  ((((Dev.Sends.sos d _).trans (.so ..)).trans (.acq ..)).trans (Dev.sends_domOff ..)).trans (Dev.sends_domSet ..)

theorem Dev.sends_chainLanded (m : Nat) : Dev.Sends d (d.chainLanded e m) := .ite (Dev.sends_syncMask ..) (.same rfl)

theorem Dev.sends_filtLanded (idx c v : Nat) : Dev.Sends d (d.filtLanded e idx c v) :=
  .ite (.refl d) ((Dev.Sends.so ..).trans (Dev.sends_chainLanded ..))

theorem Dev.sends_pairLanded (p v : Nat) : Dev.Sends d (d.pairLanded e p v) :=
  .ite (.refl d) ((Dev.Sends.so ..).trans (Dev.sends_chainLanded ..))

theorem Dev.sends_addFade (c start b len : Nat) : Dev.Sends d (d.addFade c start b len) := .same rfl

theorem Dev.sends_fadeStart (c start b : Nat) : Dev.Sends d (d.fadeStart c start b) :=
  .trans (.ite (.so ..) (.so ..)) (Dev.sends_addFade ..)

theorem Dev.sends_swapReq (c b : Nat) : Dev.Sends d (d.swapReq e c b) :=
  .ite (.trans (.ite (.inc ..) (.refl d)) (.so ..)) (.ite (.so ..) (.ite ((Dev.Sends.so ..).trans (Dev.sends_addFade ..))
    (.ite (Dev.sends_fadeStart ..) (.refl d))))

theorem Dev.sends_coefLanded (el v : Nat) : Dev.Sends d (d.coefLanded e el v) := .so_of (.ite (.refl d) (.acq ..)) ..

theorem Dev.sends_mark (t : Trig) (started missed : Bool) : Dev.Sends d (d.mark t started missed) := by
  unfold Dev.mark
  extract_lets n w d1 acq
  have h1 : Dev.Sends d d1 := .inc ..
  exact .ite (.refl d) (.ite (h1.trans (.inc ..)) (h1.trans ((Dev.sends_enq ..).after rfl)))

theorem Dev.sends_takeTrig : Dev.Sends d d.takeTrig := by
  unfold Dev.takeTrig
  split
  · exact .refl d
  next t _ =>
    extract_lets acq d1 st started missed d2 d3
    have h1 : Dev.Sends d d1 := .same rfl
    have h2 : Dev.Sends d d2 := h1.trans (Dev.sends_mark ..)
    exact .ite (h2.trans (.same rfl)) (.ite (h2.trans (.inc ..)) h2)

theorem Dev.sends_takeTrigs : Dev.Sends d d.takeTrigs := .foldl (fun d _ => Dev.sends_takeTrig d) _ d

theorem Dev.sends_rearm : Dev.Sends d (d.rearm e) := by
  unfold Dev.rearm
  extract_lets c pre post pc qc d1 d2 d3 acq
  have h1 : Dev.Sends d d1 := .ite (.so ..) (.refl d)
  have h2 : Dev.Sends d d2 := h1.trans (.ite (.so ..) (.refl d1))
  exact (h2.trans (.sos d2 _)).trans (.acq ..)

theorem Dev.sends_acqStart : Dev.Sends d (d.acqStart e) := by
  unfold Dev.acqStart
  extract_lets d1 d2
  have h1 : Dev.Sends d d1 := .so ..
  have h2 : Dev.Sends d d2 := h1.trans (Dev.sends_takeTrigs d1)
  exact .ite h1 (.ite (h2.trans (Dev.sends_rearm ..)) (h2.trans (.so ..)))

theorem Dev.sends_acqStop : Dev.Sends d d.acqStop :=
  ((Dev.Sends.ite (.refl d) (Dev.sends_takeTrigs d)).trans (.sos _ _)).trans (.acq ..)

theorem Dev.sends_preLanded (v : Nat) : Dev.Sends d (d.preLanded v) := by
  unfold Dev.preLanded
  extract_lets d1 d2
  have h1 : Dev.Sends d d1 := .so ..
  have h2 : Dev.Sends d d2 := h1.trans (.ite (.so ..) (.refl d1))
  exact .ite (h2.trans (.same rfl)) h2

theorem Dev.sends_dump : Dev.Sends d (d.dump e) := by
  unfold Dev.dump
  extract_lets n d1
  have h1 : Dev.Sends d d1 := (Dev.Sends.so ..).trans (Dev.sends_enq ..)
  exact h1.trans (.foldl (fun d r => (Dev.Sends.of_traffic (Dev.traffic_memRd ..)).trans (Dev.sends_enq ..)) _ d1)

theorem Dev.sends_acqArm : Dev.Sends d (d.acqArm e) := .ite (Dev.sends_rearm e d) (.refl d)

theorem Dev.sends_acqDump : Dev.Sends d (d.acqDump e) := .ite (Dev.sends_dump e d) (.refl d)

theorem Dev.sends_acqRearmMode (v : Nat) : Dev.Sends d (d.acqRearmMode e v) :=
  have h : Dev.Sends d (d.so O.ACQ_REARM 0 v) := .so ..
  .ite (h.trans (Dev.sends_dump ..)) h

theorem Dev.sends_trigForce : Dev.Sends d (d.trigForce e) := .ite (.same rfl) (.refl d)

end

end Sys2Proof.Machine
end

section
/-! PROOF. What has left the package stays counted as sent: calibration, Atlas, Jacquard, start-up, and the landing of every element. -/

namespace Sys2Proof.Machine

section
variable (e : Env) (d : Dev)

/-! ### Self-calibration -/

theorem Dev.sends_calShow (g : Nat) : Dev.Sends d (d.calShow g) := by
  unfold Dev.calShow
  extract_lets l
  refine (Dev.Sends.so ..).trans (.foldl (fun d i => ?_) _ _)
  split
  · exact .so_of (.so ..) ..
  · exact .so_of (.so ..) ..

theorem Dev.sends_calDue (g : Nat) : Dev.Sends d (d.calDue g) := .cal ..

theorem Dev.sends_setPass (g : Nat) (p : Option Pass) : Dev.Sends d (d.setPass g p) := .cal ..

theorem Dev.sends_calCommit (g : Nat) (t : Int) (recs : Tab SliceRec) : Dev.Sends d (d.calCommit e g t recs) := by
  unfold Dev.calCommit
  extract_lets s c va d1 d2
  have h1 : Dev.Sends d d1 := .cal ..
  have h2 : Dev.Sends d1 d2 := (((Dev.Sends.so ..).trans (.so ..)).trans (.inc ..)).trans (Dev.sends_calShow ..)
  exact .ite ((h1.trans h2).trans (Dev.sends_calDue ..)) (h1.trans h2)

theorem Dev.sends_calTakes (slice : Nat) (mute : Bool) : Dev.Sends d (d.calTakes slice mute) :=
  .ite (.refl d) (.trans (.ite (.inc ..) (.refl d)) (.rx ..))

theorem Dev.sends_groupDom (g : Nat) : Dev.Sends d (d.groupDom e g) := (Dev.sends_domSet ..).trans (Dev.sends_domSet ..)

theorem Dev.sends_calHoldOff (g : Nat) : Dev.Sends d (d.calHoldOff e g) :=
  (((Dev.Sends.rx ..).trans (Dev.sends_domSet ..)).trans (Dev.sends_groupIdle ..)).trans (Dev.sends_groupDom ..)

theorem Dev.sends_takeBackOf (g : Nat) : Dev.Sends d (if tget 0 d.rx.holder g == 1 then d.takeBack g else d) :=
  .ite (Dev.sends_takeBack ..) (.refl d)

theorem Dev.sends_calDrop (g : Nat) : Dev.Sends d (d.calDrop e g) :=
  .ite (.refl d) ((((Dev.sends_setPass ..).trans (Dev.sends_calDue ..)).trans (Dev.sends_takeBackOf ..)).trans (Dev.sends_calHoldOff ..))

theorem Dev.sends_calFinish (g : Nat) (p : Pass) (t : Int) : Dev.Sends d (d.calFinish e g p t) :=
  ((((Dev.sends_setPass ..).trans (Dev.sends_calCommit ..)).trans (Dev.sends_takeBackOf ..)).trans (Dev.sends_calHoldOff ..)).trans
    (Dev.sends_repairSettle ..)

theorem Dev.sends_claim (g : Nat) : Dev.Sends d (d.claim g) := .ite (.rx ..) (.refl d)

theorem Dev.sends_calAdvance (g : Nat) : Dev.Sends d (d.calAdvance e g) := by
  unfold Dev.calAdvance
  split
  · exact Dev.sends_repairSettle ..
  next p _ =>
    split
    · exact .ite (.refl d) (Dev.sends_calFinish ..)
    · refine .ite (Dev.sends_calDrop ..) (.ite (.refl d) ?_)
      extract_lets go c d1
      have hgo : ∀ d m, Dev.Sends d (go d m) := fun d m => (Dev.sends_setPass ..).trans
        (.ite (.foldl (fun d pos => Dev.sends_calTakes ..) _ _) (Dev.sends_calTakes ..))
      have h1 : Dev.Sends d d1 := Dev.sends_takeover ..
      refine .ite (.refl d) (.ite (hgo ..) (.ite (.refl d) (.ite (.refl d) (.ite ?_ (.ite ?_ (.ite (hgo ..) (Dev.sends_setPass ..)))))))
      · exact .ite (.ite (.refl d) ((Dev.sends_claim ..).trans (hgo ..))) (.ite (hgo ..) (.ite (.refl d) (.ite (h1.trans (hgo ..)) h1)))
      · exact (Dev.sends_takeBackOf ..).trans (Dev.sends_repairSettle ..)

theorem Dev.sends_calSave : Dev.Sends d (d.calSave e) := .ite (.cal ..) (.same rfl)

theorem Dev.sends_calErase : Dev.Sends d d.calErase := .ite (.cal ..) (.same rfl)

theorem Dev.sends_repairTake (g v : Nat) : Dev.Sends d (d.repairTake e g v) :=
  .ite (.refl d) (.ite (.same rfl) (Dev.sends_repairLand ..))

theorem Dev.sends_calTake (st : CalStore) (src : Nat) : Dev.Sends d (d.calTake e st src) := by
  unfold Dev.calTake
  extract_lets sets cal d1 d2 d3
  have h1 : Dev.Sends d d1 := .same rfl
  have h2 : Dev.Sends d1 d2 := .foldl (fun d p => .ite (.so ..) (.refl d)) _ d1
  have h3 : Dev.Sends d2 d3 := .foldl (fun d g => Dev.sends_repairTake ..) _ d2
  exact ((h1.trans h2).trans h3).trans ((Dev.Sends.sos d3 _).trans (.foldl Dev.sends_calShow _ _))

theorem Dev.sends_calRestore : Dev.Sends d (d.calRestore e) :=
  (Dev.sends_calTake ..).trans ((Dev.sends_calErase _).after rfl)

theorem Dev.sends_calFactory (bs : Bytes) (st : CalStore) : Dev.Sends d (d.calFactory bs st) :=
  (Dev.Sends.trans (d' := d.clearDom O.CAL_FACTORY_STORE 0) (.same rfl) (Dev.sends_setDom ..)).trans (.cal ..)

/-! ### Atlas -/

theorem Dev.sends_setBridge (n : Nat) (b : Bridge) : Dev.Sends d (d.setBridge n b) := .atl ..

theorem Dev.sends_sbChange (n : Nat) : Dev.Sends d (d.sbChange n) := (Dev.sends_setBridge ..).so_of ..

theorem Dev.sends_sbLanded (idx n v : Nat) : Dev.Sends d (d.sbLanded e idx n v) := by
  unfold Dev.sbLanded
  extract_lets old d1 next from_
  have h1 : Dev.Sends d d1 := .so ..
  have hset : ∀ b, Dev.Sends d (d1.setBridge n b) := fun b => h1.trans (Dev.sends_setBridge ..)
  exact .ite ((hset _).so_of ..) (.ite ((hset _).trans (Dev.sends_sbChange ..)) (.ite h1 (.ite ((hset _).trans (Dev.sends_sbChange ..))
    (.trans (.ite h1 (hset _)) (Dev.sends_sbChange ..)))))

theorem Dev.sends_blankLanded (n v : Nat) : Dev.Sends d (d.blankLanded e n v) := (Dev.Sends.so ..).trans (.atl ..)

theorem Dev.sends_pdNoSat (p : Nat) : Dev.Sends d (d.pdNoSat p) := .atl ..

theorem Dev.sends_pdRange (p v : Nat) : Dev.Sends d (d.pdRange e p v) := by
  unfold Dev.pdRange
  extract_lets old d1 atl d2
  have h1 : Dev.Sends d d1 := .so ..
  have h2 : Dev.Sends d d2 := h1.trans (.atl ..)
  exact .ite h1 (.ite h2 ((h2.so_of ..).trans (Dev.sends_pdNoSat ..)))

theorem Dev.sends_pdMode (p v : Nat) : Dev.Sends d (d.pdMode e p v) := by
  unfold Dev.pdMode
  extract_lets c d1 atl
  have h1 : Dev.Sends d d1 := .so_of (.so ..) ..
  exact .ite (.refl d) (h1.trans ((Dev.sends_pdNoSat ..).after rfl))

theorem Dev.sends_setSlot (q : Nat) (x : Slot) : Dev.Sends d (d.setSlot q x) := .atl ..

theorem Dev.sends_traceTrig (b : Nat) : Dev.Sends d (d.traceTrig e b) := .ite ((Dev.Sends.sos d _).trans (.atl ..)) (.refl d)

theorem Dev.sends_traceArm (v : Nat) : Dev.Sends d (d.traceArm e v) := .ite (.so ..) (Dev.sends_traceTrig ..)

theorem Dev.sends_coilSet (q v : Nat) : Dev.Sends d (d.coilSet q v) := by
  unfold Dev.coilSet
  split
  · exact .so ..
  · exact .refl d

theorem Dev.sends_slotDown (q : Nat) : Dev.Sends d (d.slotDown e q) :=
  .ite (.refl d) (((Dev.Sends.so_of (.so ..) ..).trans (Dev.sends_setSlot ..)).trans (Dev.sends_hmEval ..))

theorem Dev.sends_preset (q : Nat) (fromOff : Bool) : Dev.Sends d (d.preset q fromOff) := by
  unfold Dev.preset
  extract_lets x th om c g ff i0 i b1 b2 v fitted sats x' d1
  have h0 : Dev.Sends d i0.2 := by
    unfold i0
    split
    · exact .refl d
    · split
      · exact .same rfl
      · exact .refl d
  have h1 : Dev.Sends i0.2 d1 := .ite (.refl _) (.inc ..)
  exact (h0.trans h1).trans (Dev.sends_setSlot ..)

theorem Dev.sends_slotClose (q : Nat) : Dev.Sends d (d.slotClose e q) := by
  unfold Dev.slotClose
  extract_lets was
  have h : Dev.Sends d ((d.preset q (was == 0)).so O.ATL_STATE q 2) := (Dev.sends_preset ..).so_of ..
  exact ((h.so_of ..).trans (Dev.sends_coilSet ..)).trans (Dev.sends_hmEval ..)

theorem Dev.sends_slotHold (q cause : Nat) : Dev.Sends d (d.slotHold e q cause) := by
  unfold Dev.slotHold
  extract_lets x th st2 d1 x' d2
  have h1 : Dev.Sends d d1 := .ite (.refl d) (.inc ..)
  have h2 : Dev.Sends d1 d2 := (Dev.sends_setSlot ..).trans (.sos _ _)
  exact (((h1.trans h2).trans (.inc ..)).trans (Dev.sends_traceTrig ..)).trans (Dev.sends_hmEval ..)

theorem Dev.sends_manual (q v : Nat) : Dev.Sends d (((d.so O.ATL_STATE q 1).so O.ATL_CLEAN_MS q v).hmEval e) :=
  (Dev.Sends.so_of (.so ..) ..).trans (Dev.sends_hmEval ..)

theorem Dev.sends_atlMode (q v : Nat) : Dev.Sends d (d.atlMode e q v) := by
  unfold Dev.atlMode
  extract_lets st d1 bound x d2
  have h1 : Dev.Sends d d1 := .so ..
  have h2 : Dev.Sends d d2 := h1.so_of ..
  have hbound : ∀ x, Dev.Sends d (((d1.so O.ATL_STATE q 1).coilSet q 1).setSlot q x) := fun x =>
    ((h1.so_of ..).trans (Dev.sends_coilSet ..)).trans (Dev.sends_setSlot ..)
  exact .ite h1 (.ite (h1.trans (Dev.sends_slotDown ..)) (.ite (.ite (.ite (hbound _) h1) (h2.trans (Dev.sends_manual ..)))
    (.ite (.ite (h1.trans (Dev.sends_slotClose ..)) h1) (.ite (.ite ((h1.trans (.log _)).trans (Dev.sends_slotHold ..)) h1) h1))))

theorem Dev.sends_outLanded (q v : Nat) : Dev.Sends d (d.outLanded q v) :=
  .ite (.so ..) (((Dev.sends_coilSet ..).trans (Dev.sends_setSlot ..)).so_of ..)

theorem Dev.sends_targetsStop : Dev.Sends d d.targetsStop := .foldl (fun _ _ => Dev.sends_setSlot ..) _ d

theorem Dev.sends_atlTarget (q v : Nat) : Dev.Sends d (d.atlTarget q v) := (Dev.Sends.so ..).trans (Dev.sends_setSlot ..)

theorem Dev.sends_injRun (q v : Nat) : Dev.Sends d (d.injRun e q v) := by
  unfold Dev.injRun
  extract_lets d1 x
  have h1 : Dev.Sends d d1 := .so ..
  have hset : ∀ x, Dev.Sends d (d1.setSlot q x) := fun x => h1.trans (Dev.sends_setSlot ..)
  exact .ite (hset _) (.ite h1 (((hset _).trans (Dev.sends_traceTrig ..)).trans (Dev.sends_hmEval ..)))

/-! ### Tapestry -/

theorem Dev.sends_retire (num : Nat) : Dev.Sends d (d.retire num) := .trans (.ite (.so ..) (.refl d)) (.tap ..)

theorem Dev.sends_flipRaster (r : Raster) (partly : Bool) : Dev.Sends d (d.flipRaster e r partly) := by
  unfold Dev.flipRaster
  extract_lets gone d1
  have h1 : Dev.Sends d d1 := .foldl (fun d n => ((Dev.sends_retire ..).trans (.inc ..)).trans (.tap ..)) _ d
  exact (h1.so_of ..).trans (.tap ..)

theorem Dev.sends_tapStopped : Dev.Sends d (d.tapStopped e) := by
  unfold Dev.tapStopped
  extract_lets d1
  have h1 : Dev.Sends d d1 := by
    unfold d1
    split
    · exact Dev.sends_flipRaster ..
    · exact .refl d
  split
  · exact h1.trans (Dev.sends_flipRaster ..)
  · exact h1

theorem Dev.sends_hostWrite (bs : Bytes) : Dev.Sends d (d.hostWrite e bs) := .of_traffic (Dev.traffic_memWr ..)

theorem Dev.sends_fillStart (v : Nat) : Dev.Sends d (d.fillStart v) := (Dev.Sends.so ..).trans (.tap ..)

theorem Dev.sends_patchLand (bs : Bytes) : Dev.Sends d (d.patchLand e bs) := .ite ((Dev.Sends.inc ..).trans (.log _)) (Dev.sends_setDom ..)

/-! ### Jacquard -/

theorem Dev.sends_lfsrLoad : Dev.Sends d d.lfsrLoad := by
  unfold Dev.lfsrLoad
  extract_lets seed p jq
  have hp : Dev.Sends d p.2 := by
    unfold p
    split
    · exact .same rfl
    · exact .refl d
  exact hp.trans (.same rfl)

theorem Dev.sends_jqStart : Dev.Sends d (d.jqStart e) := by
  unfold Dev.jqStart
  extract_lets bank first d1 jq rx em d2 d3 w
  have h1 : Dev.Sends d d1 := ((Dev.sends_ringStart e d).trans (Dev.sends_lfsrLoad _)).trans (.sos _ _)
  have h2 : Dev.Sends d1 d2 := .same rfl
  have h3 : Dev.Sends d d3 := (h1.trans h2).trans (Dev.sends_domOn ..)
  exact .ite (h3.trans (Dev.sends_twStart ..)) h3

theorem Dev.sends_jqStopped : Dev.Sends d (d.jqStopped e) := by
  unfold Dev.jqStopped
  extract_lets d1 jq em d2 d3
  have h2 : Dev.Sends d d2 := .same rfl
  have h3 : Dev.Sends d2 d3 := (((Dev.sends_ringStop ..).trans (Dev.sends_statStopped _)).trans (Dev.sends_targetsStop _)).trans
    (Dev.sends_tapStopped ..)
  exact .ite ((h2.trans h3).trans (Dev.sends_domOff ..)) (h2.trans h3)

theorem Dev.sends_stopCheck : Dev.Sends d (d.stopCheck e) := .ite (Dev.sends_jqStopped e d) (.refl d)

theorem Dev.sends_groupShort (s : Shot) : Dev.Sends d (d.groupShort s) := by
  unfold Dev.groupShort
  split
  · exact .same rfl
  · exact .refl d

theorem Dev.sends_discardShot (s : Shot) : Dev.Sends d (d.discardShot e s) :=
  .ite (.refl d) (((Dev.Sends.inc ..).trans (Dev.sends_groupShort ..)).trans (Dev.sends_hdrDone ..))

theorem Dev.sends_closeRest : Dev.Sends d (d.closeRest e) := by
  unfold Dev.closeRest
  extract_lets fl
  refine .foldl (fun d g => ?_) _ d
  split
  · exact .same rfl
  · exact Dev.sends_closeGroup ..

theorem Dev.sends_jqStopNow : Dev.Sends d (d.jqStopNow e) := by
  unfold Dev.jqStopNow
  extract_lets q jq d1 d2
  have h2 : Dev.Sends d d2 := .same rfl
  exact h2.trans (((Dev.Sends.foldl (fun d s => Dev.sends_discardShot ..) _ _).trans (Dev.sends_closeRest ..)).trans (Dev.sends_stopCheck ..))

theorem Dev.sends_jqStop (v : Nat) : Dev.Sends d (d.jqStop e v) :=
  .ite (.ite (.refl d) (Dev.sends_jqStopNow e d)) (.ite (.so ..) (.refl d))

theorem Dev.sends_jqRun (v : Nat) : Dev.Sends d (d.jqRun e v) := by
  unfold Dev.jqRun
  extract_lets d1 r d2
  have h1 : Dev.Sends d d1 := .so ..
  have h2 : Dev.Sends d d2 := h1.so_of ..
  exact .ite (h1.trans (Dev.sends_jqStop ..)) (.ite h1 (.ite (h2.trans (Dev.sends_jqStart ..)) h2))

/-! ### Memory, housekeeping and the fault log -/

theorem Dev.sends_trainStart (st : Nat) : Dev.Sends d (d.trainStart e st) := by
  unfold Dev.trainStart
  extract_lets d1 d2
  have h1 : Dev.Sends d d1 := Dev.sends_domOn ..
  have h2 : Dev.Sends d d2 := h1.trans (.ite (Dev.sends_domOn ..) (.refl d1))
  exact h2.trans (.same rfl)

theorem Dev.sends_memRetrain : Dev.Sends d (d.memRetrain e) := .ite (Dev.sends_trainStart ..) (.refl d)

theorem Dev.sends_urgentStart : Dev.Sends d (d.urgentStart e) := by
  unfold Dev.urgentStart
  split
  · exact .refl d
  · split
    · exact .hk ..
    · refine .ite (.hk ..) ?_
      split
      · exact .same rfl
      · exact .refl d

theorem Dev.sends_hkAfter : Dev.Sends d (d.hkAfter e) := by
  unfold Dev.hkAfter
  extract_lets +onlyGivenNames d1 h d2
  have h1 : Dev.Sends d d1 := Dev.sends_urgentStart e d
  have h2 : Dev.Sends d d2 := h1.trans (.ite (.hk ..) (.refl d1))
  exact .ite (h2.trans (.same rfl)) h2

theorem Dev.sends_hkShift : Dev.Sends d (d.hkShift e) := .ite (.refl d) ((Dev.Sends.hk ..).trans (Dev.sends_hkAfter ..))

theorem Dev.sends_hkStop : Dev.Sends d (d.hkStop e) :=
  have h : Dev.Sends d ((d.so O.HK_RUN 0 0).hkShift e) := (Dev.Sends.so ..).trans (Dev.sends_hkShift ..)
  .ite (h.trans (.hk ..)) (h.trans (.same rfl))

theorem Dev.sends_hkStart : Dev.Sends d (d.hkStart e) := .ite (.refl d) (.same rfl)

theorem Dev.sends_rateStep : Dev.Sends d (d.rateStep e) := by
  unfold Dev.rateStep
  refine .ite (.hk ..) ?_
  split
  · exact .hk ..
  next t r _ =>
    extract_lets l rises hk d1 d2 quiet hk2
    have h1 : Dev.Sends d d1 := .hk ..
    have h2 : Dev.Sends d d2 := h1.trans (.inc ..)
    exact .ite h1 (.ite (h2.trans (Dev.sends_logRepeat ..)) (h2.trans ((Dev.Sends.log _).after rfl)))

theorem Dev.sends_mirror : Dev.Sends d (d.mirror e) := .of_traffic (Dev.traffic_mirror ..)

theorem Dev.sends_ack (n : Nat) : Dev.Sends d (d.ack e n) := by
  unfold Dev.ack
  extract_lets u d0 flt d1
  have h1 : Dev.Sends d d1 := .same rfl
  have hfirst : Dev.Sends d (if u == [] then d1.clearDom O.FLT_FIRST 0 else d1) := .ite (h1.trans (.same rfl)) h1
  exact .ite (.refl d) (hfirst.trans (Dev.sends_mirror ..))

theorem Dev.sends_fltClear : Dev.Sends d (d.fltClear e) := (Dev.sends_mirror ..).after rfl

/-! ### Start-up, parking and resets -/

theorem Dev.sends_phase (p : Nat) : Dev.Sends d (d.phase e p) := .trans (.ite (.so ..) (.refl d)) (.same rfl)

theorem Dev.sends_suStep : Dev.Sends d (d.suStep e) := by
  have hlink : Dev.Sends d ((d.phase e 5).linkEnable e) := (Dev.sends_phase ..).trans (Dev.sends_linkEnable ..)
  exact .ite ((Dev.sends_phase ..).trans (Dev.sends_trainStart ..)) (.ite hlink (.ite hlink (.refl d)))

theorem Dev.sends_slotProgram (n : Nat) (bs : Bytes) : Dev.Sends d (d.slotProgram e n bs).2 := by
  unfold Dev.slotProgram
  extract_lets d1 h
  have h1 : Dev.Sends d d1 := .same rfl
  split
  · exact h1.trans (.sos d1 _)
  · exact h1.so_of ..

theorem Dev.sends_parkStart : Dev.Sends d (d.parkStart e) := by
  unfold Dev.parkStart
  extract_lets d1 d2 d3 cal d4
  have h1 : Dev.Sends d d1 := (Dev.sends_jqStop ..).trans (Dev.sends_hmDisarm ..)
  have h2 : Dev.Sends d1 d2 := (Dev.Sends.sos d1 _).trans (Dev.sends_acqStop _)
  have h3 : Dev.Sends d2 d3 := .foldl (fun d q => Dev.sends_slotDown ..) _ d2
  have h4 : Dev.Sends d3 d4 := .cal ..
  exact (((h1.trans h2).trans h3).trans h4).trans ((Dev.sends_calSave ..).so_of ..)

theorem Dev.sends_fresh : Dev.Sends d (d.fresh e) := by
  obtain ⟨hrest, -⟩ := Dev.fresh_keeps e d
  exact .same (by rw [hrest]; rfl)

theorem Dev.sends_fuseStart : Dev.Sends d (d.fuseStart e) := by
  have hbegun : Dev.Sends d (d.fuseBegun e) := .same (by rw [(Dev.fuseBegins e d).rest])
  rw [Dev.fuseStart_eq]
  rcases Dev.deliverReset_cases e (d.fuseBegun e) d.pwr.kind with h | ⟨en, h⟩
  · rw [h]
    exact hbegun
  · rw [h]
    exact hbegun.trans (.same (Dev.sent_deliver ..))

theorem Dev.sends_resetTo (k : Nat) (mode : PMode) : Dev.Sends d (d.resetTo e k mode) := by
  unfold Dev.resetTo
  extract_lets d1 d2 d3 pwr d4
  have h1 : Dev.Sends d d1 := (Dev.sends_fresh ..).after (by rw [Dev.cutFlash_eq])
  have h2 : Dev.Sends d1 d2 := .ite (.refl d1) (.same rfl)
  have h3 : Dev.Sends d2 d4 := ((Dev.Sends.so ..).trans (.inc ..)).trans (.pwr ..)
  exact .ite (((h1.trans h2).trans h3).trans (Dev.sends_fuseStart ..)) ((h1.trans h2).trans h3)

/-! ### Landings -/

theorem Dev.sends_land1 (n idx el v : Nat) : Dev.Sends d (d.land1 e n idx el v) :=
  .ite (.pwr ..) <| .ite (Dev.sends_parkStart e d) <| .ite (.same rfl) <| .ite (Dev.sends_jqRun ..) <| .ite (.ite (.sos d _) (.refl d)) <|
  .ite (.em ..) <| .ite (.em ..) <| .ite (Dev.sends_twEnabled ..) <| .ite (Dev.sends_hmArm e d) <| .ite (Dev.sends_hmDisarm e d) <|
  .ite ((Dev.Sends.so ..).trans (Dev.sends_hmEval ..)) <| .ite (Dev.sends_hmLand ..) <| .ite (.ite (.so_of (.so ..) ..) (.so ..)) (.so ..)

theorem Dev.sends_land2 (idx el v : Nat) : Dev.Sends d (d.land2 e idx el v) :=
  .ite (Dev.sends_groupRetry ..) <| .ite ((Dev.sends_forceLanded ..).so_of ..) <| .ite (Dev.sends_biasEnable ..) <|
  .ite (Dev.sends_biasSlew ..) <| .ite (Dev.sends_watchEnable e d v) <| .ite (Dev.sends_repairLand ..) <|
  .ite (.ite (Dev.sends_skipReturn ..) (Dev.sends_skipTake ..)) <| .ite (.ite (Dev.sends_statStart d) (Dev.sends_statAbandon d)) <|
  .ite ((Dev.Sends.so ..).trans (Dev.sends_dirtyCheck ..)) <| .ite (Dev.sends_ringEnable ..) <| .ite (Dev.sends_geometry ..) <|
  .ite (Dev.sends_genStep d) (.so ..)

theorem Dev.sends_land3 (idx el v : Nat) : Dev.Sends d (d.land3 e idx el v) :=
  .ite (.ite (Dev.sends_digiOn ..) (Dev.sends_digiOff ..)) <| .ite (Dev.sends_pairLanded ..) <| .ite (Dev.sends_filtLanded ..) <|
  .ite (Dev.sends_swapReq ..) <| .ite (Dev.sends_syncMask ..) <| .ite (Dev.sends_coefLanded e d el v) <|
  .ite (.ite (Dev.sends_acqStart e d) (Dev.sends_acqStop d)) <| .ite (Dev.sends_preLanded ..) <| .ite (Dev.sends_acqRearmMode ..) <|
  .ite (Dev.sends_acqArm e d) <| .ite (Dev.sends_acqDump e d) <| .ite (Dev.sends_trigForce e d) <| .ite (Dev.sends_calSave e d) <|
  .ite (.cal ..) <| .ite (Dev.sends_calRestore e d) <| .ite (Dev.sends_sbLanded ..) <| .ite (Dev.sends_blankLanded ..) <|
  .ite (Dev.sends_outLanded ..) <| .ite (Dev.sends_pdRange ..) <| .ite (Dev.sends_pdMode ..) <| .ite (Dev.sends_atlMode ..) <|
  .ite (Dev.sends_atlTarget ..) <| .ite (Dev.sends_traceArm ..) <| .ite (Dev.sends_injRun ..) (.so ..)

theorem Dev.sends_land4 (idx el v : Nat) : Dev.Sends d (d.land4 e idx el v) :=
  .ite ((Dev.Sends.so_of (.so ..) ..).trans (Dev.sends_domSet ..)) <| .ite (Dev.sends_fillStart ..) <|
  .ite (.ite ((Dev.Sends.so ..).trans (Dev.sends_linkEnable ..)) ((Dev.Sends.so ..).trans (Dev.sends_linkDisable ..))) <|
  .ite (Dev.sends_policyLanded ..) <| .ite (Dev.sends_linkRetrain e d) <| .ite ((Dev.Sends.so ..).trans (.link ..)) <|
  .ite (Dev.sends_tapsWrite ..) <| .ite (Dev.sends_ctleWrite ..) <| .ite (Dev.sends_prbsGen ..) <| .ite (Dev.sends_prbsChk ..) <|
  .ite (.ite (Dev.sends_injStart ..) (.so ..)) <| .ite (Dev.sends_memRetrain e d) <|
  .ite (.ite (Dev.sends_hkStart e d) (Dev.sends_hkStop e d)) <|
  .ite (((Dev.Sends.so ..).trans (Dev.sends_rateStep ..)).so_of ..) <| .ite (Dev.sends_ack ..) <| .ite (Dev.sends_fltClear e d) (.so ..)

theorem Dev.sends_landEl (n idx el v : Nat) : Dev.Sends d (d.landEl e n idx el v) :=
  .ite (Dev.sends_land1 ..) (.ite (Dev.sends_land2 ..) (.ite (Dev.sends_land3 ..) (Dev.sends_land4 ..)))

theorem Dev.sends_landDom (idx el : Nat) (bs : Bytes) : Dev.Sends d (d.landDom e idx el bs) := by
  refine .ite (Dev.sends_patchLand ..) (.ite (Dev.sends_hostWrite ..) (.ite (Dev.sends_slotProgram ..) (.ite ?_ ?_)))
  · split
    · exact Dev.sends_calFactory ..
    · exact .refl d
  · exact (Dev.sends_setDom ..).after rfl

theorem Dev.sends_landKey (n k v : Nat) : Dev.Sends d (d.landKey e n k v) :=
  .ite (.same rfl) (.ite (.same rfl) ((Dev.sends_landEl ..).after rfl))

theorem Dev.sends_landSet (n : Nat) (vals : Tab (Option Nat)) (doms : Tab (Option Bytes)) : Dev.Sends d (d.landSet e n vals doms) := by
  unfold Dev.landSet
  extract_lets put d1 d2
  have hput : ∀ d p, Dev.Sends d (put d p) := fun d p => by
    unfold put
    split
    · exact Dev.sends_landKey ..
    · exact .refl d
  have h1 : Dev.Sends d d1 := .foldl hput _ d
  have h2 : Dev.Sends d1 d2 := .foldl (fun d p => by
    split
    · exact (Dev.sends_landDom ..).after rfl
    · exact .refl d) _ d1
  exact (h1.trans h2).trans (.foldl hput _ d2)

theorem Dev.sends_landCommit : Dev.Sends d (d.landCommit e) := by
  unfold Dev.landCommit
  split
  · exact .refl d
  · exact (Dev.sends_landSet ..).after rfl

theorem Dev.sends_commitFirst (cs : List Cls) : Dev.Sends d (d.commitFirst cs) := by
  unfold Dev.commitFirst
  split
  · exact .ite (.same rfl) (.refl d)
  · exact .refl d

theorem Dev.sends_settle : Dev.Sends d (d.settle e) := by
  unfold Dev.settle
  extract_lets jq d1 k sw d2 d3 d4
  have h1 : Dev.Sends d d1 := (Dev.sends_commitFirst ..).after rfl
  have h2 : Dev.Sends d1 d2 := (Dev.sends_landSet ..).after rfl
  have h3 : Dev.Sends d2 d3 := ((Dev.Sends.trans (.ite (.sos d2 _) (.refl d2)) (Dev.sends_landCommit ..)).trans
    (Dev.sends_serveLand ..)).trans (Dev.sends_biasLand ..)
  have h4 : Dev.Sends d3 d4 := .foldl (fun d g => Dev.sends_calAdvance ..) _ d3
  exact .ite (.refl d) ((((h1.trans h2).trans h3).trans h4).trans (.foldl (fun d g => Dev.sends_groupIdle ..) _ d4))

theorem Dev.sends_rstStep : Dev.Sends d (d.rstStep e) := by
  unfold Dev.rstStep
  split
  · exact .ite (Dev.sends_resetTo ..) (.refl d)
  · exact .refl d

/-- What has left stays counted as sent at the end of a command. -/
theorem Dev.sends_finish : Dev.Sends d (finish e d) := ((Dev.sends_settle e d).trans (Dev.sends_rstStep ..)).trans (.same rfl)

end

end Sys2Proof.Machine
end

section
/-! PROOF. The step to the next phase of start-up, and the images of the firmware (chapter 17). -/

namespace Sys2Proof.Machine

/-! ### What a phase leaves of the power state -/

/-- The power state is as before, but for the times of the ramps and of the phase. -/
def Dev.Powers (d d' : Dev) : Prop := d'.pwr = { d.pwr with rampAt := d'.pwr.rampAt, phaseAt := d'.pwr.phaseAt }

namespace Dev.Powers
variable {e : Env} {d d' d'' : Dev}

theorem refl (d : Dev) : Powers d d := rfl

theorem trans (h : Powers d d') (k : Powers d' d'') : Powers d d'' := by
  unfold Powers at h k ⊢
  rw [k, h]

theorem same (h : d'.pwr = d.pwr) : Powers d d' := by
  unfold Powers
  rw [h]

theorem ite {p : Prop} [Decidable p] {a b : Dev} (ha : Powers d a) (hb : Powers d b) : Powers d (if p then a else b) := by
  split
  · exact ha
  · exact hb

theorem foldl {α : Type} {f : Dev → α → Dev} (h : ∀ d x, Powers d (f d x)) (xs : List α) (d : Dev) : Powers d (xs.foldl f d) :=
  rel_foldl refl trans h xs d

theorem so (d : Dev) (i el v : Nat) : Powers d (d.so i el v) := same rfl

theorem cfg (h : Powers d d') : d'.pwr.cfg = d.pwr.cfg := by
  unfold Powers at h
  rw [h]

theorem heldWrites (h : Powers d d') : d'.pwr.heldWrites = d.pwr.heldWrites := by
  unfold Powers at h
  rw [h]

theorem domSet (e : Env) (d : Dev) (n : Nat) (on : Bool) : Powers d (d.domSet e n on) := by
  have h := Dev.switched_domSet e d n on
  unfold Powers
  rw [h]

end Dev.Powers

section
variable (e : Env) (d : Dev)

theorem Dev.powers_laneTestOff (l : Nat) : Dev.Powers d (d.laneTestOff e l) := by
  have hcount : Dev.Powers d (d.prbsCount e l) := .ite (.same rfl) (.refl d)
  unfold Dev.laneTestOff
  extract_lets d1
  have h1 : Dev.Powers d d1 := (hcount.trans (.so _ O.PRBS_CHK l 0)).trans (.so _ O.PRBS_SYNC l 0)
  exact .ite ((h1.trans (.so _ O.PRBS_GEN l 0)).trans (.so _ O.INJ_GO l 0)) h1

theorem Dev.powers_startTrain : Dev.Powers d (d.startTrain e) := by
  unfold Dev.startTrain
  extract_lets tx rx lanes d1 d2 d3 d4 d5 link d6
  have h1 : Dev.Powers d d1 := .foldl (fun d l => (Dev.powers_laneTestOff e d l).trans (.so ..)) _ d
  have h2 : Dev.Powers d1 d2 := .foldl (fun d l => .ite (.refl d) (.so ..)) _ d1
  have h3 : Dev.Powers d2 d3 := .foldl (fun d l => .domSet ..) _ d2
  have h4 : Dev.Powers d3 d5 := (Dev.Powers.domSet e d3 _ _).trans (.same rfl)
  have h5 : Dev.Powers d5 d6 := .same rfl
  have h6 := Dev.onLanes_sendTrain e d6 tx 0 false false
  exact (((h1.trans h2).trans h3).trans h4).trans (h5.trans (.same (by rw [h6.rest])))

/-! ### The step to the next phase -/

/-- The objects that the step to the next phase may change. -/
def stepIdx : List Nat := O.SU_STATE :: O.SU_PHASE_US :: O.MEM_STATE :: bringUpIdx

/-- The next phase (Table 17-8). -/
theorem Dev.phase_spec (p : Nat) : (d.phase e p).o O.SU_STATE = p ∧ (d.phase e p).pwr = { d.pwr with phaseAt := e.now } ∧
    (d.phase e p).flt = d.flt ∧ Dev.Works [O.SU_STATE, O.SU_PHASE_US] d (d.phase e p) := by
  unfold Dev.phase
  extract_lets n d1 pwr
  have h1 : Dev.Works [O.SU_STATE, O.SU_PHASE_US] d d1 ∧ d1.pwr = d.pwr := by
    unfold d1
    split
    · exact ⟨.so (by omega) (by decide), rfl⟩
    · exact ⟨.refl _ d, rfl⟩
  have h2 : Dev.Works [O.SU_STATE, O.SU_PHASE_US] d (d1.so O.SU_STATE 0 p) := h1.1.trans (.so (by decide) (by decide))
  refine ⟨Dev.o_so_self d1 O.SU_STATE 0 p, ?_, h1.1.flt, ⟨h2.frame.trans (.of_objs rfl), h2.flt, h2.txq, h2.part, h2.calm.trans ⟨rfl, rfl⟩⟩⟩
  exact congrArg (fun w : Pwr => { w with phaseAt := e.now }) h1.2

theorem Dev.powers_phase (p : Nat) : Dev.Powers d (d.phase e p) := by
  unfold Dev.Powers
  rw [(Dev.phase_spec e d p).2.1]

theorem Dev.works_trainStart (st : Nat) : Dev.Works stepIdx d (d.trainStart e st) ∧ Dev.Powers d (d.trainStart e st) := by
  unfold Dev.trainStart
  extract_lets d1 d2
  have h1 : Dev.Works stepIdx d d1 := .domSet (e := e) (n := 80) (on := true) (by decide) (by decide)
  have h2 : Dev.Works stepIdx d1 d2 := .ite (.domSet (e := e) (n := 81) (on := true) (by decide) (by decide)) (.refl _ d1)
  have h3 : Dev.Works stepIdx d (d2.so O.MEM_STATE 0 st) := (h1.trans h2).trans (.so (by decide) (by decide))
  have hp : Dev.Powers d d2 := (Dev.Powers.domSet e d 80 true).trans (.ite (.domSet e d1 81 true) (.refl d1))
  exact ⟨⟨h3.frame.trans (.of_objs rfl), h3.flt, h3.txq, h3.part, h3.calm.trans ⟨rfl, rfl⟩⟩, hp.trans (.same rfl)⟩

theorem Dev.works_suStep : Dev.Works stepIdx d (d.suStep e) ∧ Dev.Powers d (d.suStep e) := by
  have hlink : ∀ d : Dev, Dev.Works stepIdx d (d.linkEnable e) ∧ Dev.Powers d (d.linkEnable e) := fun d =>
    ⟨.ite ((Dev.startTrain_spec e d).1.mono (by decide)) (.refl _ d), .ite (Dev.powers_startTrain e d) (.refl d)⟩
  have hphase : ∀ p, Dev.Works stepIdx d (d.phase e p) := fun p => (Dev.phase_spec e d p).2.2.2.mono (by decide)
  have hready := And.intro ((hphase 5).trans (hlink _).1) ((Dev.powers_phase e d 5).trans (hlink _).2)
  have htrain := And.intro ((hphase 4).trans (Dev.works_trainStart e _ 1).1) ((Dev.powers_phase e d 4).trans (Dev.works_trainStart e _ 1).2)
  unfold Dev.suStep
  dsimp only
  split
  · exact htrain
  · split
    · exact hready
    · split
      · exact hready
      · exact ⟨.refl _ d, .refl d⟩

variable {e d}

theorem Dev.suStep_done (h3 : d.o O.SU_STATE ≠ 3) (h4 : d.o O.SU_STATE ≠ 4) : d.suStep e = d := by
  simp [Dev.suStep, h3, h4]

theorem Dev.suStep_entries (h3 : d.o O.SU_STATE = 3) (hcfg : d.pwr.cfg ≠ []) : d.suStep e = d := by
  simp [Dev.suStep, h3, hcfg]

theorem Dev.suStep_trains (h3 : d.o O.SU_STATE = 3) (hcfg : d.pwr.cfg = []) (hwarm : d.pwr.warm = false) :
    d.suStep e = (d.phase e 4).trainStart e 1 := by
  simp [Dev.suStep, h3, hcfg, hwarm]

end

/-! ### The load of the calibration items -/

/-- The power state, Jacquard and the objects below those of the receive path are as before. -/
structure Dev.Loads (d d' : Dev) : Prop where
  pwr : d'.pwr = d.pwr
  jq : d'.jq = d.jq
  low : ∀ i el, i < 0x3000 → el < 4096 → d'.o i el = d.o i el

namespace Dev.Loads
variable {e : Env} {d d' d'' : Dev}

theorem refl (d : Dev) : Loads d d := ⟨rfl, rfl, fun _ _ _ _ => rfl⟩

theorem trans (h : Loads d d') (k : Loads d' d'') : Loads d d'' :=
  ⟨k.pwr.trans h.pwr, k.jq.trans h.jq, fun i el hi hel => (k.low i el hi hel).trans (h.low i el hi hel)⟩

theorem ite {p : Prop} [Decidable p] {a b : Dev} (ha : Loads d a) (hb : Loads d b) : Loads d (if p then a else b) := by
  split
  · exact ha
  · exact hb

theorem foldl {α : Type} {f : Dev → α → Dev} (h : ∀ d x, Loads d (f d x)) (xs : List α) (d : Dev) : Loads d (xs.foldl f d) :=
  rel_foldl refl trans h xs d

theorem of_objs (hp : d'.pwr = d.pwr) (hj : d'.jq = d.jq) (h : d'.objs = d.objs) : Loads d d' :=
  ⟨hp, hj, fun i el _ _ => Dev.o_congr h i el⟩

theorem so {i el v : Nat} (hi : 0x3000 ≤ i) : Loads d (d.so i el v) :=
  ⟨rfl, rfl, fun j b hj hb => Dev.o_so_key (by unfold okey; omega)⟩

theorem inc {i el n : Nat} (hi : 0x3000 ≤ i) : Loads d (d.inc i el n) := so hi

theorem log {code loc cls detail : Nat} {inj : Bool} (d : Dev) : Loads d (d.log e code loc cls detail inj) :=
  ⟨Dev.pwr_log .., Dev.jq_log .., fun _ _ hi hel => Dev.o_log_other (Nat.ne_of_lt (Nat.lt_trans hi (by decide))) hel⟩

end Dev.Loads

theorem le_of_mem_calItemIdx : ∀ i ∈ calItemIdx, 0x3000 ≤ i := by decide

section
variable (e : Env) (d : Dev)

theorem Dev.loads_repairLost (g : Nat) : Dev.Loads d (d.repairLost e g) :=
  .foldl (fun d pos => .ite (.refl d) (.trans (d' := { d with cal := { d.cal with noRepair := setBit d.cal.noRepair (16 * g + pos) true } })
    (.of_objs rfl rfl rfl) (.log _))) _ d

theorem Dev.loads_repairTake (g v : Nat) : Dev.Loads d (d.repairTake e g v) := by
  refine .ite (.refl d) (.ite (.of_objs rfl rfl rfl) ?_)
  unfold Dev.repairLand
  lift_lets
  extract_lets old c d1 rx1 d2 d3 c' rx3 d4 d5
  have h1 : Dev.Loads d d1 := (Dev.Loads.so (i := O.RX_SLICE_STATUS) (by decide)).trans (.so (i := O.RX_SLICE_OF) (by decide))
  have h2 : Dev.Loads d d2 := .ite (h1.trans (.of_objs rfl rfl rfl)) (.refl d)
  have h3 : Dev.Loads d d3 := h2.trans (.so (by decide))
  have h4 : Dev.Loads d3 d4 := .of_objs rfl rfl rfl
  have h5 : Dev.Loads d d5 := .ite (((h3.trans h4).trans
    ((Dev.Loads.so (i := O.RX_SLICE_STATUS) (by decide)).trans (.so (i := O.RX_SLICE_OF) (by decide)))).trans (.inc (by decide))) h3
  exact h5.trans (Dev.loads_repairLost ..)

theorem Dev.loads_withSets (sets : Tab (List CalSet)) : Dev.Loads d (d.withSets sets) := by
  refine ⟨rfl, rfl, fun i el hi hel => ?_⟩
  have hkey : tget (dflt i el) (d.withSets sets).objs (okey i el) = _ :=
    tget_filter_key (dflt i el) d.objs (fun k => !calItemIdx.contains (k / 4096)) (okey i el)
  have hnot : calItemIdx.contains i = false := by
    rw [← Bool.not_eq_true, List.contains_iff_mem]
    exact fun h => Nat.not_le.2 hi (le_of_mem_calItemIdx i h)
  unfold Dev.o
  rw [hkey, okey_div hel, hnot]
  rfl

theorem Dev.loads_calShow (g : Nat) : Dev.Loads d (d.calShow g) := by
  refine .trans (d' := d.so O.CAL_SETS g (tget [] d.cal.sets g).length) (.so (by decide)) (.foldl (fun d i => ?_) _ _)
  split
  · exact (Dev.Loads.so (i := O.CAL_SET_TEMP) (by decide)).trans (.so (i := O.CAL_SET_SOURCE) (by decide))
  · exact (Dev.Loads.so (i := O.CAL_SET_TEMP) (by decide)).trans (.so (i := O.CAL_SET_SOURCE) (by decide))

theorem Dev.loads_calTake (st : CalStore) (src : Nat) : Dev.Loads d (d.calTake e st src) := by
  have hitem : ∀ (d : Dev) (p : Nat × Nat × Nat), Dev.Loads d (if calItemIdx.contains p.1 then d.so p.1 p.2.1 p.2.2 else d) := fun d p => by
    split
    next h => exact .so (le_of_mem_calItemIdx _ (List.contains_iff_mem.1 h))
    next => exact .refl d
  have htaken : Dev.Loads d (d.storeTaken e st) :=
    ((Dev.loads_withSets d _).trans (.foldl hitem st.items _)).trans (.foldl (fun d g => Dev.loads_repairTake e d g _) (List.range e.groups) _)
  rw [Dev.calTake_eq]
  exact ((htaken.trans (.so (i := O.CAL_STORE_SRC) (by decide))).trans (.so (i := O.CAL_STORE_SEQ) (by decide))).trans
    (.foldl Dev.loads_calShow _ _)

theorem Dev.loads_calLoad (warm : Bool) : Dev.Loads d (d.calLoad e warm) := by
  have hbad : Dev.Loads d (d.calBadSlots e) := .foldl (fun d i => .ite (.log d) (.refl d)) _ d
  unfold Dev.calLoad
  split
  · exact Dev.loads_calTake ..
  · dsimp only
    split
    · exact hbad.trans (Dev.loads_calTake ..)
    · exact hbad.trans (Dev.loads_calTake ..)
    · exact hbad.trans (.so (by decide))

/-! ### An image in force -/

/-- What an image that comes into force leaves. -/
structure Dev.Runs (s : Nat) (d d' : Dev) : Prop where
  suState : d'.o O.SU_STATE = 3
  running : d'.o O.FW_SLOT_RUNNING = s
  status : ∀ n, n < 2 → d'.o O.FW_SLOT_STATUS n = d.o O.FW_SLOT_STATUS n
  warm : d'.pwr.warm = d.pwr.warm
  calm : Dev.Calm d d'

/-- The device with the boot configuration of an image ahead. -/
def Dev.imaged (s : Nat) (image : Bytes) : Dev :=
  let cfg := (image.drop (64 + fieldAt image 16 4)).take (fieldAt image 20 4)
  { (d.so O.FW_SLOT_RUNNING 0 s).so O.ID_FW_VERSION 0 (fieldAt image 12 4) with
    pwr := { d.pwr with cfg := cfgEntries cfg.length cfg, retry := [], tried := 0 } }

theorem Dev.runImage_eq (s : Nat) (image : Bytes) :
    d.runImage e s image = ((d.imaged s image).calLoad e d.pwr.warm).phase e 3 := rfl

theorem Dev.runImage_runs (s : Nat) (image : Bytes) : Dev.Runs s d (d.runImage e s image) := by
  have hload := Dev.loads_calLoad e (d.imaged s image) d.pwr.warm
  rw [Dev.runImage_eq]
  obtain ⟨y, hy⟩ : ∃ y, y = (d.imaged s image).calLoad e d.pwr.warm := ⟨_, rfl⟩
  rw [← hy] at hload ⊢
  obtain ⟨hsu, hpwr, -, hworks⟩ := Dev.phase_spec e y 3
  refine ⟨hsu, ?_, fun n hn => ?_, ?_, .trans ⟨?_, ?_⟩ hworks.calm⟩
  · rw [hworks.frame.o (by decide) (by decide), hload.low _ _ (by decide) (by decide)]
    exact (Dev.o_so_other (by decide) (by decide) (by decide)).trans (Dev.o_so_self ..)
  · have hn' : n < 4096 := by omega
    rw [hworks.frame.o hn' (by decide), hload.low _ _ (by decide) hn']
    exact (Dev.o_so_other (by decide) (by decide) hn').trans (Dev.o_so_other (by decide) (by decide) hn')
  · rw [hpwr, hload.pwr]
    rfl
  · rw [hload.jq]
    rfl
  · rw [hload.pwr]
    rfl

end

end Sys2Proof.Machine
end

section
/-! PROOF. FW_LOAD (chapter 17). -/

namespace Sys2Proof.Machine

section
variable {s : State} {slot : Nat}

theorem Dev.nextSlot_lt (d : Dev) : d.nextSlot < 2 := by
  unfold Dev.nextSlot
  dsimp only
  split
  · split
    · decide
    · decide
  · split
    · decide
    · decide

theorem Dev.slotChecked_flash {e : Env} {d : Dev} (hmode : d.pwr.mode = .up) (hsu : d.o O.SU_STATE = 2) (hcopy : d.pwr.copy = none)
    (hslot : slot = d.nextSlot) : d.slotChecked e slot = d.loadSlot e slot := by
  unfold Dev.slotChecked
  rw [hcopy]
  simp [hmode, hsu, ← hslot]

theorem Dev.slotChecked_copy {e : Env} {d : Dev} {c : Nat} (hmode : d.pwr.mode = .up) (hsu : d.o O.SU_STATE = 2) (hcopy : d.pwr.copy = some c)
    (hnone : (d.copyImage e).1 = none) :
    d.slotChecked e slot = { (d.copyImage e).2 with pwr := { (d.copyImage e).2.pwr with copy := none } } := by
  unfold Dev.slotChecked
  rw [hcopy]
  dsimp only
  rw [hnone]
  simp [hmode, hsu]

theorem Dev.o_trainStart_suState (e : Env) (d : Dev) (st : Nat) : (d.trainStart e st).o O.SU_STATE = d.o O.SU_STATE := by
  unfold Dev.trainStart
  extract_lets d1 d2
  have h1 : Dev.Frame domIdx d d1 := Dev.frame_domSet (n := 80) (on := true) (by decide)
  have h2 : Dev.Frame domIdx d1 d2 := .ite (Dev.frame_domSet (n := 81) (on := true) (by decide)) (.refl _ d1)
  exact (Dev.o_so_other (d := d2) (by decide) (by decide) (by decide)).trans ((h1.trans h2).o (by decide) (by decide))

/-! ### A valid image -/

theorem fwSlotChecked_runs (hq : s.Quiet) (hmode : s.dev.pwr.mode = .up) (hsu : s.dev.o O.SU_STATE = 2) (hcopy : s.dev.pwr.copy = none)
    (hslot : slot = s.dev.nextSlot) (hok : Dev.slotStatus s.env s.dev slot = 1) :
    Leads (.fwSlotChecked slot) s (fun t => t.dev.o O.FW_SLOT_RUNNING = slot ∧
        t.dev.o O.FW_SLOT_STATUS slot = 1 ∧ (t.dev.pwr.cfg ≠ [] → t.dev.o O.SU_STATE = 3) ∧
        (t.dev.pwr.cfg = [] → s.dev.pwr.warm = false → t.dev.o O.SU_STATE = 4 ∧ t.dev.o O.MEM_STATE = 1 ∧
          t.dev.mem.trainAt = some s.clock.time)) := by
  have hlt : slot < 2 := hslot ▸ Dev.nextSlot_lt _
  obtain ⟨y, hy⟩ : ∃ y, y = (s.begun.so O.FW_SLOT_STATUS slot 1).runImage s.env slot ((s.begun.so O.FW_SLOT_STATUS slot 1).slotImage slot) := ⟨_, rfl⟩
  have hrun : s.begun.fwChecked s.env slot = y.suStep s.env := by
    have hst : Dev.slotStatus s.env s.begun slot = 1 := hok
    unfold Dev.fwChecked
    rw [Dev.slotChecked_flash (d := s.begun) hmode hsu hcopy hslot]
    unfold Dev.loadSlot
    simp [hst, hy]
  obtain ⟨hsu', hrunning, hstatus, hwarm, hcalm⟩ := Dev.runImage_runs s.env (s.begun.so O.FW_SLOT_STATUS slot 1) slot
    ((s.begun.so O.FW_SLOT_STATUS slot 1).slotImage slot)
  rw [← hy] at hsu' hrunning hstatus hwarm hcalm
  obtain ⟨hworks, hpowers⟩ := Dev.works_suStep s.env y
  have hcfg : (y.suStep s.env).pwr.cfg = y.pwr.cfg := hpowers.cfg
  refine leads_calm (f := fun e d => d.fwChecked e slot) _ hq rfl hrun (.trans (d' := s.begun.so O.FW_SLOT_STATUS slot 1) (.so ..) (hcalm.trans hworks.calm)) fun t ht => ⟨?_, ?_, ?_, ?_⟩
  · rw [ht.o, hworks.frame.o (by decide) (by decide), hrunning]
  · rw [ht.o, hworks.frame.o (by omega) (by decide), hstatus slot hlt, Dev.o_so_self]
  · rw [ht.pwr, ht.o, hcfg]
    intro hne
    rw [Dev.suStep_entries hsu' hne, hsu']
  · rw [ht.pwr, hcfg]
    intro hnil hcold
    rw [ht.o, ht.o, ht.mem, Dev.suStep_trains hsu' hnil (hwarm.trans hcold)]
    obtain ⟨hmem, htrain, -⟩ := Dev.trainStart_spec s.env (y.phase s.env 4) 1
    exact ⟨(Dev.o_trainStart_suState ..).trans (Dev.phase_spec s.env y 4).1, hmem, htrain⟩

/-! ### An image that is not valid -/

/-- The device with a slot tried whose image is not valid. -/
def Dev.slotBad (e : Env) (d : Dev) (slot st : Nat) : Dev :=
  let d := (d.so O.FW_SLOT_STATUS slot st).log e 0x0E0D (loc14 13) 1
  { d with pwr := { d.pwr with tried := setBit d.pwr.tried slot true } }

theorem Dev.loadSlot_bad {e : Env} {d : Dev} (hbad : d.slotStatus e slot ≠ 1) : d.loadSlot e slot =
    if (d.slotBad e slot (d.slotStatus e slot)).pwr.tried = 3 then (d.slotBad e slot (d.slotStatus e slot)).so O.SU_STATE 0 9
    else d.slotBad e slot (d.slotStatus e slot) := by
  unfold Dev.loadSlot Dev.slotBad
  simp only [beq_iff_eq, hbad, if_false]

theorem fwSlotChecked_fails (hq : s.Quiet) (hmode : s.dev.pwr.mode = .up) (hsu : s.dev.o O.SU_STATE = 2) (hcopy : s.dev.pwr.copy = none)
    (hslot : slot = s.dev.nextSlot) (hbad : Dev.slotStatus s.env s.dev slot ≠ 1) :
    Leads (.fwSlotChecked slot) s (fun t =>
        t.dev.o O.FW_SLOT_STATUS slot = Dev.slotStatus s.env s.dev slot ∧ Logged s t 0x0E0D 1 ∧
        t.dev.pwr.tried = setBit s.dev.pwr.tried slot true ∧
        t.dev.o O.SU_STATE = if setBit s.dev.pwr.tried slot true = 3 then 9 else 2) := by
  have hlt : slot < 4096 := Nat.lt_trans (hslot ▸ Dev.nextSlot_lt _) (by decide)
  obtain ⟨y, hy⟩ : ∃ y, y = s.begun.slotBad s.env slot (Dev.slotStatus s.env s.dev slot) := ⟨_, rfl⟩
  have hpwr : y.pwr = { s.dev.pwr with tried := setBit s.dev.pwr.tried slot true } := by
    rw [hy]
    unfold Dev.slotBad
    dsimp only
    rw [Dev.pwr_log]
    rfl
  have hjq : y.jq = s.dev.jq := by
    rw [hy]
    exact Dev.jq_log ..
  have hheld : s.dev.flt.held.length < 60 → ∃ en ∈ y.flt.held, en.time = s.clock.time ∧ en.code = 0x0E0D ∧ en.cls = 1 := fun hroom => by
    rw [hy]
    exact Dev.exists_held_log (d := s.begun.so O.FW_SLOT_STATUS slot (Dev.slotStatus s.env s.dev slot)) (Nat.lt_trans hroom (by decide))
  have hstatus : y.o O.FW_SLOT_STATUS slot = Dev.slotStatus s.env s.dev slot := by
    rw [hy]
    exact (Dev.o_log_other (by decide) hlt).trans (Dev.o_so_self ..)
  have hstate : y.o O.SU_STATE = 2 := by
    rw [hy]
    exact (Dev.o_log_other (by decide) (by decide)).trans ((Dev.o_so_other (by decide) hlt (by decide)).trans hsu)
  obtain ⟨z, hz⟩ : ∃ z, z = if y.pwr.tried = 3 then y.so O.SU_STATE 0 9 else y := ⟨_, rfl⟩
  have hzsu : z.o O.SU_STATE = if setBit s.dev.pwr.tried slot true = 3 then 9 else 2 := by
    rw [hz, hpwr]
    split
    · exact Dev.o_so_self ..
    · exact hstate
  have hzrest : z = { y with objs := z.objs } := by
    rw [hz]
    split <;> rfl
  have hzstatus : z.o O.FW_SLOT_STATUS slot = Dev.slotStatus s.env s.dev slot := by
    rw [hz]
    split
    · exact (Dev.o_so_other (by decide) (by decide) hlt).trans hstatus
    · exact hstatus
  have hrun : s.begun.fwChecked s.env slot = z := by
    have hload : s.begun.loadSlot s.env slot = z := by
      rw [Dev.loadSlot_bad (d := s.begun) hbad, hz, hy]
      rfl
    unfold Dev.fwChecked
    rw [Dev.slotChecked_flash (d := s.begun) hmode hsu hcopy hslot, hload]
    refine Dev.suStep_done ?_ ?_
    · rw [hzsu]
      split <;> decide
    · rw [hzsu]
      split <;> decide
  have hcalm : Dev.Calm s.begun z := by
    refine ⟨?_, ?_⟩
    · rw [hzrest]
      exact congrArg Jq.settle hjq
    · rw [hzrest]
      exact (congrArg Pwr.rstDue hpwr).trans rfl
  refine leads_calm (f := fun e d => d.fwChecked e slot) _ hq rfl hrun hcalm fun t ht => ⟨?_, fun hroom => ?_, ?_, ?_⟩
  · rw [ht.o, hzstatus]
  · rw [ht.flt, hzrest]
    exact hheld hroom
  · rw [ht.pwr, hzrest, hpwr]
  · rw [ht.o, hzsu]

/-! ### The retained copy -/

theorem Dev.traffic_copyImage (e : Env) (d : Dev) : Dev.Traffic d (d.copyImage e).2 := by
  have h := Dev.traffic_memRd (e := e) (d := d) 7 fwCopyBase 64
  unfold Dev.copyImage
  dsimp only
  split
  · exact h
  · split
    · exact h
    · split
      · exact h.trans (Dev.traffic_memRd ..)
      · exact h.trans (Dev.traffic_memRd ..)

theorem fwSlotChecked_noCopy {c : Nat} (hq : s.Quiet) (hmode : s.dev.pwr.mode = .up) (hsu : s.dev.o O.SU_STATE = 2)
    (hcopy : s.dev.pwr.copy = some c) (hnone : (Dev.copyImage s.env { s.dev with sent := [] }).1 = none) :
    Leads (.fwSlotChecked slot) s (fun t => t.dev.pwr.copy = none ∧ t.dev.o O.SU_STATE = 2) := by
  obtain ⟨y, hy⟩ : ∃ y, y = (s.begun.copyImage s.env).2 := ⟨_, rfl⟩
  have htraffic : Dev.Traffic s.begun y := by
    rw [hy]
    exact Dev.traffic_copyImage ..
  obtain ⟨z, hz⟩ : ∃ z : Dev, z = { y with pwr := { y.pwr with copy := none } } := ⟨_, rfl⟩
  have hzsu : z.o O.SU_STATE = 2 := by
    rw [hz]
    exact (htraffic.frame.o (by decide) (by decide)).trans hsu
  have hrun : s.begun.fwChecked s.env slot = z := by
    unfold Dev.fwChecked
    rw [Dev.slotChecked_copy (d := s.begun) hmode hsu hcopy hnone, ← hy, ← hz]
    exact Dev.suStep_done (by rw [hzsu]; decide) (by rw [hzsu]; decide)
  have hcalm : Dev.Calm s.begun z := by
    rw [hz]
    refine ⟨?_, ?_⟩
    · rw [htraffic.rest]
    · rw [htraffic.rest]
  refine leads_calm (f := fun e d => d.fwChecked e slot) _ hq rfl hrun hcalm fun t ht => ⟨?_, ?_⟩
  · rw [ht.pwr, hz]
  · rw [ht.o, hzsu]

end

end Sys2Proof.Machine
end

section
/-! PROOF. The boot configuration (chapter 17). -/

namespace Sys2Proof.Machine

/-- The device with an entry of the boot configuration taken. -/
def State.entryTaken (s : State) (l : List Bytes) : Dev := { s.dev with sent := [], pwr := { s.dev.pwr with cfg := l } }

section
variable {e : Env} {d : Dev} {bs : Bytes}

theorem Dev.bootEntry_refused {a : Abort} (ha : bootAbort (gopOf bootSes bs) = some a) : d.bootEntry e bs false = d.bootAnswer e (some a) := by
  unfold Dev.bootEntry
  rw [ha]

theorem Dev.bootEntry_held {m : GopMsg} (hm : gopOf bootSes bs = some m) (ha : bootAbort (some m) = none) (hh : bootHolds m = true) :
    d.bootEntry e bs false = { d with pwr := { d.pwr with heldWrites := d.pwr.heldWrites ++ [m] } } := by
  unfold Dev.bootEntry
  rw [hm, ha]
  exact if_pos hh

theorem Dev.bootEntry_executes {m : GopMsg} (hm : gopOf bootSes bs = some m) (ha : bootAbort (some m) = none) (hh : bootHolds m = false)
    (hok : (d.operate e m []).1.abort = none) : d.bootEntry e bs false = (d.operate e m []).2.send (.boot 0 0) := by
  unfold Dev.bootEntry
  rw [hm, ha]
  dsimp only
  rw [if_neg (by simp [hh]), hok]
  rfl

end

section
variable {s : State} {x : Bytes} {l : List Bytes}

theorem bootNext_takes (hmode : s.dev.pwr.mode = .up) (hsu : s.dev.o O.SU_STATE = 3) (hcfg : s.dev.pwr.cfg = x :: l) :
    s.begun.bootNext s.env = ((s.entryTaken l).bootEntry s.env x false).suStep s.env := by
  have hmode' : (s.begun.pwr.mode != .up) = false := by
    show (s.dev.pwr.mode != .up) = false
    rw [hmode]
    rfl
  have hsu' : s.begun.o O.SU_STATE = 3 := hsu
  have hcfg' : s.begun.pwr.cfg = x :: l := hcfg
  unfold Dev.bootNext
  rw [hmode', hsu', hcfg']
  rfl

/-- A command that takes an entry which leaves nothing for its end ends in what the entry leaves and the step after it. -/
theorem leads_entry {y : Dev} {P : State → Prop} (hq : s.Quiet) (hmode : s.dev.pwr.mode = .up) (hsu : s.dev.o O.SU_STATE = 3)
    (hcfg : s.dev.pwr.cfg = x :: l) (hy : (s.entryTaken l).bootEntry s.env x false = y) (hcalm : Dev.Calm (s.entryTaken l) y)
    (hP : ∀ t, s.Ends (y.suStep s.env) t → P t) : Leads .bootConfigEntry s P := by
  have hrun : s.begun.bootNext s.env = y.suStep s.env := by rw [bootNext_takes hmode hsu hcfg, hy]
  exact leads_calm (f := fun e d => d.bootNext e) _ hq rfl hrun
    (.trans (d' := s.entryTaken l) ⟨rfl, rfl⟩ (hcalm.trans (Dev.works_suStep s.env y).1.calm)) hP

theorem bootConfigEntry_refuses {a : Abort} (hq : s.Quiet) (hmode : s.dev.pwr.mode = .up) (hsu : s.dev.o O.SU_STATE = 3)
    (hcfg : s.dev.pwr.cfg = x :: l) (ha : bootAbort (gopOf bootSes x) = some a) :
    Leads .bootConfigEntry s (fun t => t.dev.pwr.cfg = l ∧
        t.dev.o O.SU_BOOT_CFG_ERR = ctrAdd O.SU_BOOT_CFG_ERR 0 (s.dev.o O.SU_BOOT_CFG_ERR) 1 ∧ Logged s t 0x0E0E 0 ∧
        Out.boot a.1 a.2 ∈ t.dev.sent) := by
  obtain ⟨z, hz⟩ : ∃ z, z = ((s.entryTaken l).send (.boot a.1 a.2)).inc O.SU_BOOT_CFG_ERR := ⟨_, rfl⟩
  obtain ⟨y, hy⟩ : ∃ y, y = z.log s.env 0x0E0E (loc14 14) 0 (a.1 * 256 + a.2) := ⟨_, rfl⟩
  have hentry : (s.entryTaken l).bootEntry s.env x false = y := by
    rw [Dev.bootEntry_refused ha, hy, hz]
    rfl
  have hzpwr : z.pwr = (s.entryTaken l).pwr := by rw [hz]; rfl
  have hypwr : y.pwr = (s.entryTaken l).pwr := by rw [hy, Dev.pwr_log, hzpwr]
  have hyjq : y.jq = s.dev.jq := by
    rw [hy, Dev.jq_log, hz]
    rfl
  have hcount : y.o O.SU_BOOT_CFG_ERR = ctrAdd O.SU_BOOT_CFG_ERR 0 (s.dev.o O.SU_BOOT_CFG_ERR) 1 := by
    rw [hy, Dev.o_log_other (by decide) (by decide), hz]
    exact Dev.o_inc_self ..
  have hsent : Out.boot a.1 a.2 ∈ y.sent := by
    rw [hy, Dev.sent_log, hz]
    exact List.mem_append_right _ (List.mem_singleton_self _)
  obtain ⟨hworks, hpowers⟩ := Dev.works_suStep s.env y
  refine leads_entry hq hmode hsu hcfg hentry ⟨congrArg Jq.settle hyjq, congrArg Pwr.rstDue hypwr⟩ fun t ht => ⟨?_, ?_, fun hroom => ?_, ?_⟩
  · rw [ht.pwr, hpowers.cfg, hypwr]
    rfl
  · rw [ht.o, hworks.frame.o (by decide) (by decide), hcount]
  · rw [ht.flt, hworks.flt, hy]
    refine Dev.exists_held_log ?_
    rw [hz]
    exact Nat.lt_trans hroom (by decide)
  · rw [ht.sent]
    exact (Dev.sends_suStep s.env y).mem hsent

theorem bootConfigEntry_holds {m : GopMsg} (hq : s.Quiet) (hmode : s.dev.pwr.mode = .up) (hsu : s.dev.o O.SU_STATE = 3)
    (hcfg : s.dev.pwr.cfg = x :: l) (hm : gopOf bootSes x = some m) (ha : bootAbort (some m) = none) (hh : bootHolds m = true) :
    Leads .bootConfigEntry s (fun t => t.dev.pwr.cfg = l ∧ t.dev.pwr.heldWrites = s.dev.pwr.heldWrites ++ [m]) := by
  refine leads_entry hq hmode hsu hcfg (Dev.bootEntry_held hm ha hh) ⟨rfl, rfl⟩ fun t ht => ?_
  rw [ht.pwr]
  exact ⟨(Dev.works_suStep ..).2.cfg, (Dev.works_suStep ..).2.heldWrites⟩

/-- What an entry that executes leaves for its command's end is left open: the answer has left in any case. -/
theorem bootConfigEntry_executes {m : GopMsg} (hq : s.Quiet) (hmode : s.dev.pwr.mode = .up) (hsu : s.dev.o O.SU_STATE = 3)
    (hcfg : s.dev.pwr.cfg = x :: l) (hm : gopOf bootSes x = some m) (ha : bootAbort (some m) = none) (hh : bootHolds m = false)
    (hok : ((s.entryTaken l).operate s.env m []).1.abort = none) :
    Leads .bootConfigEntry s (fun t => Out.boot 0 0 ∈ t.dev.sent) := by
  obtain ⟨w, hw⟩ : ∃ w, w = ((s.entryTaken l).operate s.env m []).2 := ⟨_, rfl⟩
  have hrun : (begin_ s.env { s.dev with sent := [] }).bootNext s.env = (w.send (.boot 0 0)).suStep s.env := by
    rw [begin_still hq.2.2, hw]
    refine (bootNext_takes hmode hsu hcfg).trans ?_
    rw [Dev.bootEntry_executes hm ha hh hok]
  refine ⟨_, run_next (fun e d => d.bootNext e) s, ?_⟩
  show Out.boot 0 0 ∈ (finish s.env ((begin_ s.env { s.dev with sent := [] }).bootNext s.env)).sent
  rw [hrun]
  refine ((Dev.sends_suStep s.env (w.send (.boot 0 0))).trans (Dev.sends_finish ..)).mem ?_
  exact List.mem_append_right _ (List.mem_singleton_self _)

end

end Sys2Proof.Machine
end

section
/-! PROOF. The phases of start-up (chapter 17). -/

namespace Sys2Proof.Machine

/-! ### Fuse load -/

section
variable {e : Env} {d : Dev} {s : State}

theorem Dev.fuseStart_up (e : Env) (d : Dev) : (d.fuseStart e).pwr.mode = .up ∧ (d.fuseStart e).pwr.pwrEn = true ∧ (d.fuseStart e).o O.SU_STATE = 0 := by
  obtain ⟨hrest, -, hsu⟩ := Dev.fuseBegins e d
  have hpwr := congrArg Dev.pwr hrest
  rw [Dev.fuseStart_eq]
  rcases Dev.deliverReset_cases e (d.fuseBegun e) d.pwr.kind with h | ⟨en, h⟩
  · rw [h, hpwr]
    exact ⟨rfl, rfl, hsu⟩
  · rw [h, Dev.pwr_deliver, Dev.o_deliver (by decide) (by decide), hpwr]
    exact ⟨rfl, rfl, hsu⟩

theorem Dev.deliver_holds (en : Entry) (h : d.flt.held.length < 64) : en ∈ (d.deliver en).flt.held := by
  rw [Dev.deliver_room en h]
  exact List.mem_append_right _ (List.mem_singleton_self _)

theorem Dev.deliverReset_rails (e : Env) (d : Dev) {k : Nat} (hk : k < 3) :
    d.deliverReset e (k + 1) = d.deliver (resetEntry (k + 1) (0x0E14 + k) (20 + k) 127 0 e.now) := by
  match k, hk with
  | 0, _ => rfl
  | 1, _ => rfl
  | 2, _ => rfl

theorem Dev.deliverReset_clock (e : Env) (d : Dev) : d.deliverReset e 5 = d.deliver (resetEntry 5 0x0E1A 26 127 5 e.now) := rfl

/-- Where the logger has room, the begin of fuse load leaves the entry that its reset delivers. -/
theorem Dev.fuseStart_holds {en : Entry} (hen : (d.fuseBegun e).deliverReset e d.pwr.kind = (d.fuseBegun e).deliver en)
    (hroom : d.flt.held.length < 60) : en ∈ (d.fuseStart e).flt.held := by
  have hflt := congrArg Dev.flt (Dev.fuseBegins e d).rest
  rw [Dev.fuseStart_eq, hen]
  refine Dev.deliver_holds en ?_
  rw [hflt]
  exact Nat.lt_trans hroom (by decide)

theorem railsInRange_starts (hq : s.Quiet) (hmode : s.dev.pwr.mode = .rails) :
    Leads .railsInRange s (fun t => t.dev.pwr.mode = .up ∧ t.dev.o O.SU_STATE = 0 ∧
      t.dev.pwr.pwrEn = true ∧ (∀ k, k < 3 → s.dev.pwr.kind = k + 1 → Logged s t (0x0E14 + k) 0)) := by
  have hrun : s.begun.railsUp s.env = s.begun.fuseStart s.env := if_pos hmode
  obtain ⟨hup, hen, hsu⟩ := Dev.fuseStart_up s.env s.begun
  refine leads_calm (f := fun e d => d.railsUp e) _ hq rfl hrun (Dev.within_fuseStart ..).calm fun t ht =>
    ⟨by rw [ht.pwr, hup], by rw [ht.o, hsu], by rw [ht.pwr, hen], fun k hk hkind hroom => ?_⟩
  have hdel := Dev.deliverReset_rails s.env (s.begun.fuseBegun s.env) hk
  rw [← hkind] at hdel
  rw [ht.flt]
  exact ⟨_, Dev.fuseStart_holds (d := s.begun) hdel hroom, rfl, rfl, rfl⟩

theorem refQualified_starts (hq : s.Quiet) (hmode : s.dev.pwr.mode = .clock) :
    Leads .refQualified s (fun t => t.dev.pwr.mode = .up ∧ t.dev.o O.SU_STATE = 0 ∧ (s.dev.pwr.kind = 5 → Logged s t 0x0E1A 5)) := by
  have hrun : s.begun.refOk s.env = s.begun.fuseStart s.env := if_pos hmode
  obtain ⟨hup, -, hsu⟩ := Dev.fuseStart_up s.env s.begun
  refine leads_calm (f := fun e d => d.refOk e) _ hq rfl hrun (Dev.within_fuseStart ..).calm fun t ht =>
    ⟨by rw [ht.pwr, hup], by rw [ht.o, hsu], fun hkind hroom => ?_⟩
  have hdel : (s.begun.fuseBegun s.env).deliverReset s.env s.begun.pwr.kind =
      (s.begun.fuseBegun s.env).deliver (resetEntry 5 0x0E1A 26 127 5 s.clock.time) := by
    rw [State.pwr_begun, hkind]
    exact Dev.deliverReset_clock ..
  rw [ht.flt]
  exact ⟨_, Dev.fuseStart_holds hdel hroom, rfl, rfl, rfl⟩

theorem Dev.em_phase (e : Env) (d : Dev) (p : Nat) : (d.phase e p).em = d.em := by
  unfold Dev.phase
  extract_lets n d1 pwr
  show d1.em = d.em
  unfold d1
  split <;> rfl

theorem Dev.o_phase_us {n p : Nat} (hsu : d.o O.SU_STATE = n) (hn : n < 7) :
    (d.phase e p).o O.SU_PHASE_US n = satN 0xFFFFFFFF ((e.now - d.pwr.phaseAt) / 1500) := by
  unfold Dev.phase
  dsimp only
  rw [hsu, if_pos hn]
  exact (Dev.o_so_other (d := d.so O.SU_PHASE_US n _) (by decide) (by decide) (by omega)).trans (Dev.o_so_self ..)

/-- VHV outside the anode window is logged, with the drive cut and Hawkmoth evaluated. -/
theorem Dev.vhvWindowLog_spec (e : Env) (d : Dev) : Dev.Frame (O.FLT_LOST :: hmIdx) d (d.vhvWindowLog e) ∧ (d.vhvWindowLog e).pwr = d.pwr ∧
    (d.flt.held.length < 60 → ∃ en ∈ (d.vhvWindowLog e).flt.held, en.time = e.now ∧ en.code = 0x020C ∧ en.cls = 1) := by
  obtain ⟨w, hw⟩ : ∃ w, w = d.cutDrive.log e 0x020C (hvLoc 8) 1 (ofS 64 d.em.vhvMv) := ⟨_, rfl⟩
  have hrun : d.vhvWindowLog e = w.hmEval e := by rw [hw]; rfl
  have hlog : Dev.Frame (O.FLT_LOST :: hmIdx) d w := by
    rw [hw]
    exact .trans (d' := d.cutDrive) (.of_objs rfl) (.log (by decide))
  rw [hrun]
  refine ⟨hlog.trans ((Dev.frame_hmEval e w).mono (List.subset_cons_self ..)), ?_, fun hroom => ?_⟩
  · have h : HmFrom w (w.hmEval e) := .hmEval
    rw [h.rest, hw]
    exact Dev.pwr_log ..
  · obtain ⟨en, hmem, htime, hcode, hcls⟩ := Dev.exists_held_log (e := e) (d := d.cutDrive) (code := 0x020C) (loc := hvLoc 8) (cls := 1)
      (detail := ofS 64 d.em.vhvMv) (inj := false) (Nat.lt_trans hroom (by decide))
    rw [← hw] at hmem
    exact ⟨en, Dev.mem_held_hmEval hmem, htime, hcode, hcls⟩

theorem fuseLoadDone_leads (hq : s.Quiet) (hmode : s.dev.pwr.mode = .up) (hsu : s.dev.o O.SU_STATE = 0) :
    Leads .fuseLoadDone s (fun t => t.dev.o O.SU_STATE = 1 ∧ t.dev.pwr.phaseAt = s.clock.time ∧
        t.dev.o O.SU_PHASE_US 0 = satN 0xFFFFFFFF ((s.clock.time - s.dev.pwr.phaseAt) / 1500) ∧
        (s.dev.vhvOut = true → Logged s t 0x020C 1)) := by
  obtain ⟨y, hy⟩ : ∃ y, y = s.begun.phase s.env 1 := ⟨_, rfl⟩
  obtain ⟨hysu, hypwr, hyflt, hyworks⟩ := Dev.phase_spec s.env s.begun 1
  have hyus : y.o O.SU_PHASE_US 0 = satN 0xFFFFFFFF ((s.clock.time - s.dev.pwr.phaseAt) / 1500) := by
    rw [hy]
    exact Dev.o_phase_us (d := s.begun) hsu (by decide)
  have hyout : y.vhvOut = s.dev.vhvOut := by
    unfold Dev.vhvOut
    rw [hy, Dev.em_phase]
    rfl
  rw [← hy] at hysu hypwr hyflt hyworks
  have hrun : s.begun.fuseDone s.env = if s.dev.vhvOut then y.vhvWindowLog s.env else y := by
    unfold Dev.fuseDone
    rw [if_pos (by rw [State.pwr_begun, State.o_begun, hmode, hsu]; rfl), ← hy]
    dsimp only
    rw [hyout]
  obtain ⟨hframe, hpwr, hheld⟩ := Dev.vhvWindowLog_spec s.env y
  obtain ⟨z, hz⟩ : ∃ z, z = if s.dev.vhvOut then y.vhvWindowLog s.env else y := ⟨_, rfl⟩
  have hzframe : Dev.Frame (O.FLT_LOST :: hmIdx) y z := by
    rw [hz]
    exact .ite hframe (.refl _ y)
  have hzpwr : z.pwr = y.pwr := by
    rw [hz]
    split
    · exact hpwr
    · rfl
  have hcalm : Dev.Calm s.begun z := by
    rw [hz]
    exact hyworks.calm.trans (.ite (Dev.within_vhvWindowLog ..).calm (.refl y))
  refine leads_calm (f := fun e d => d.fuseDone e) z hq rfl (hrun.trans hz.symm) hcalm fun t ht => ⟨?_, ?_, ?_, fun hout hroom => ?_⟩
  · rw [ht.o, hzframe.o (by decide) (by decide), hysu]
  · rw [ht.pwr, hzpwr, hypwr]
    rfl
  · rw [ht.o, hzframe.o (by decide) (by decide), hyus]
  · rw [ht.flt, hz, if_pos hout]
    refine hheld ?_
    rw [hyflt]
    exact hroom

/-! ### The reference -/

theorem Dev.readHeaders_keeps (d : Dev) : d.readHeaders.pwr = d.pwr ∧ Dev.Calm d d.readHeaders := by
  have hcalm : Dev.Calm d d.readHeaders := .foldl (fun d n => .ite (.sos ..) (.sos ..)) _ d
  refine ⟨?_, hcalm⟩
  exact rel_foldl (R := fun d d' => d'.pwr = d.pwr) (fun _ => rfl) (fun h k => k.trans h) (fun d n => by dsimp only; split <;> rfl) (List.range 2) d

/-- The device with the fabric clock running. -/
def Dev.clocked (d : Dev) : Dev := { d with pwr := { d.pwr with fabric := true, tried := 0 } }

theorem refQualified_leads (hq : s.Quiet) (hmode : s.dev.pwr.mode = .up) (hsu : s.dev.o O.SU_STATE = 1) :
    Leads .refQualified s (fun t => t.dev.pwr.fabric = true ∧ t.dev.o O.SU_STATE = if s.dev.pwr.warm then 4 else 2) := by
  have hrun : s.begun.refOk s.env = if s.dev.pwr.warm then s.begun.clocked.phase s.env 4 else s.begun.clocked.readHeaders.phase s.env 2 := by
    unfold Dev.refOk
    rw [if_neg (by rw [State.pwr_begun, hmode]; decide), if_pos (by rw [State.pwr_begun, State.o_begun, hmode, hsu]; rfl)]
    rfl
  have hbase : Dev.Calm s.begun s.begun.clocked := ⟨rfl, rfl⟩
  cases hwarm : s.dev.pwr.warm
  · rw [hwarm] at hrun
    obtain ⟨hpwr, hcalm⟩ := Dev.readHeaders_keeps s.begun.clocked
    obtain ⟨hp, hphase, -, hworks⟩ := Dev.phase_spec s.env s.begun.clocked.readHeaders 2
    refine leads_calm (f := fun e d => d.refOk e) _ hq rfl hrun ((hbase.trans hcalm).trans hworks.calm) fun t ht => ⟨?_, ?_⟩
    · exact (congrArg Pwr.fabric (ht.pwr.trans hphase)).trans (congrArg Pwr.fabric hpwr)
    · exact (ht.o ..).trans hp
  · rw [hwarm] at hrun
    obtain ⟨hp, hphase, -, hworks⟩ := Dev.phase_spec s.env s.begun.clocked 4
    refine leads_calm (f := fun e d => d.refOk e) _ hq rfl hrun (hbase.trans hworks.calm) fun t ht => ⟨?_, ?_⟩
    · exact congrArg Pwr.fabric (ht.pwr.trans hphase)
    · exact (ht.o ..).trans hp

end

/-! ### The start-up calibration (R586) -/

/-- The objects that the begin of the start-up calibration changes. -/
def enableIdx : List Nat := [O.RX_BIAS_ENABLE, O.RX_BIAS_STATUS, O.RX_BIAS_TARGET_MV, O.PWR_DOM_STATE, O.PWR_DOM_SWITCHES]

/-- No object has changed but some; the time of the phase and what a command's end looks at are as before. -/
structure Dev.Enables (d d' : Dev) : Prop where
  frame : Dev.Frame enableIdx d d'
  phaseAt : d'.pwr.phaseAt = d.pwr.phaseAt
  calm : Dev.Calm d d'

namespace Dev.Enables
variable {e : Env} {d d' d'' : Dev}

theorem refl (d : Dev) : Enables d d := ⟨.refl _ d, rfl, .refl d⟩

theorem trans (h : Enables d d') (k : Enables d' d'') : Enables d d'' :=
  ⟨h.frame.trans k.frame, k.phaseAt.trans h.phaseAt, h.calm.trans k.calm⟩

theorem ite {p : Prop} [Decidable p] {a b : Dev} (ha : Enables d a) (hb : Enables d b) : Enables d (if p then a else b) := by
  split
  · exact ha
  · exact hb

theorem foldl {α : Type} {f : Dev → α → Dev} {xs : List α} (h : ∀ d, ∀ x ∈ xs, Enables d (f d x)) (d : Dev) : Enables d (xs.foldl f d) := by
  induction xs generalizing d with
  | nil => exact refl d
  | cons x xs ih => exact (h d x List.mem_cons_self).trans (ih (fun d y hy => h d y (List.mem_cons_of_mem _ hy)) _)

theorem so {i el v : Nat} (hel : el < 4096) (hi : i ∈ enableIdx) : Enables d (d.so i el v) := ⟨.so hel hi, rfl, ⟨rfl, rfl⟩⟩

theorem setBias (d : Dev) (b : Nat) (x : Bias) : Enables d (d.setBias b x) := ⟨.of_objs rfl, rfl, ⟨rfl, rfl⟩⟩

theorem calDue (d : Dev) (g : Nat) : Enables d (d.calDue g) := ⟨.of_objs rfl, rfl, ⟨rfl, rfl⟩⟩

theorem biasDom (e : Env) (d : Dev) : Enables d (d.biasDom e) := by
  have h : Dev.Switched d (d.biasDom e) := Dev.switched_domSet ..
  refine ⟨Dev.frame_biasDom.mono (by decide), ?_, ?_, ?_⟩
  all_goals rw [h]

end Dev.Enables

section
variable {e : Env} {d : Dev} {s : State}

theorem Dev.enables_biasEnable {b : Nat} (hb : b < 8) (v : Nat) (d : Dev) : Dev.Enables d (d.biasEnable e b v) := by
  have hel : b < 4096 := by omega
  have hoff : ∀ (d : Dev) (vhv : Bool), Dev.Enables d (d.biasOff b 0 vhv) := fun d vhv =>
    (Dev.Enables.so (i := O.RX_BIAS_STATUS) hel (by decide)).trans (.setBias ..)
  have hramp : ∀ d : Dev, Dev.Enables d (d.biasRamp e b 0) := fun d =>
    (Dev.Enables.so (i := O.RX_BIAS_STATUS) hel (by decide)).trans (.setBias ..)
  have hon : Dev.Enables d ((d.so O.RX_BIAS_ENABLE b v).biasDom e) := (Dev.Enables.so hel (by decide)).trans (.biasDom ..)
  unfold Dev.biasEnable
  dsimp only
  refine .ite (hon.trans (hoff ..)) (.ite (.ite (hon.trans (hoff ..)) ?_) (.ite (hon.trans (.so hel (by decide))) hon))
  exact (hon.trans (.so (i := O.RX_BIAS_TARGET_MV) hel (by decide))).trans (hramp _)

theorem Dev.enables_calStart (e : Env) (d : Dev) (warm : Bool) : Dev.Enables d (d.calStart e warm) := by
  unfold Dev.calStart
  extract_lets d1
  have h1 : Dev.Enables d d1 := .foldl (fun d b hb =>
    .ite (Dev.enables_biasEnable (Nat.lt_of_lt_of_le (List.mem_range.1 hb) e.biases_le) 1 d) (.refl d)) d
  exact .ite h1 (h1.trans (.foldl (fun d g _ => .calDue d g) d1))

theorem linkPhaseEnd_leads (hq : s.Quiet) (hsu : s.dev.o O.SU_STATE = 5)
    (hend : s.dev.o O.LINK_STATE = 2 ∨ s.dev.pwr.phaseAt + 7500000 ≤ s.clock.time) :
    Leads .linkPhaseEnd s (fun t => t.dev.o O.SU_STATE = 6 ∧ t.dev.pwr.phaseAt = s.clock.time) := by
  have hrun : s.begun.linkPhaseEnd s.env = (s.begun.phase s.env 6).calStart s.env s.dev.pwr.warm := by
    refine if_pos ?_
    have hnow : s.env.now = s.clock.time := rfl
    rw [State.o_begun, State.o_begun, State.pwr_begun, hsu, hnow]
    simpa using hend
  obtain ⟨hp, hphase, -, hworks⟩ := Dev.phase_spec s.env s.begun 6
  have hstart := Dev.enables_calStart s.env (s.begun.phase s.env 6) s.dev.pwr.warm
  refine leads_calm (f := fun e d => d.linkPhaseEnd e) _ hq rfl hrun (hworks.calm.trans hstart.calm) fun t ht => ⟨?_, ?_⟩
  · rw [ht.o, hstart.frame.o (by decide) (by decide), hp]
  · rw [ht.pwr, hstart.phaseAt, hphase]
    rfl

theorem startupCalibrationDone_leads (hq : s.Quiet) (hends : Dev.calEnds s.env s.dev = true) (hheld : s.dev.pwr.heldWrites = []) :
    Leads .startupCalibrationDone s (fun t => t.dev.o O.SU_STATE = 7 ∧ t.dev.o O.SU_READY_TIME = s.clock.time) := by
  obtain ⟨hp, hphase, -, hworks⟩ := Dev.phase_spec s.env s.begun 7
  obtain ⟨y, hy⟩ : ∃ y, y = s.begun.phase s.env 7 := ⟨_, rfl⟩
  rw [← hy] at hp hphase hworks
  have hready : s.begun.ready_ s.env = y.so O.SU_READY_TIME 0 s.clock.time := by rw [hy]; rfl
  have hnone : (y.so O.SU_READY_TIME 0 s.clock.time).pwr.heldWrites = [] := (congrArg Pwr.heldWrites hphase).trans hheld
  have hrun : s.begun.startupDone s.env = { y.so O.SU_READY_TIME 0 s.clock.time with pwr := { y.pwr with heldWrites := [] } } := by
    refine (if_pos (c := Dev.calEnds s.env s.begun = true) hends).trans ?_
    rw [hready]
    unfold Dev.heldBoot
    dsimp only
    rw [hnone]
    rfl
  refine leads_calm (f := fun e d => d.startupDone e) _ hq rfl hrun (hworks.calm.trans ⟨rfl, rfl⟩) fun t ht => ⟨?_, ?_⟩
  · rw [ht.o]
    exact (Dev.o_so_other (d := y) (by decide) (by decide) (by decide)).trans hp
  · rw [ht.o]
    exact Dev.o_so_self y ..

end

/-- Settles O49, clause by clause: each phase's step by what it leaves of the power state and of SU_STATE, an image by what its load
keeps, and the answer of a boot entry by what nothing takes back from what has left. -/
theorem startUp : Obligations.StartUp := by
  unfold Obligations.StartUp
  refine ⟨fun s hq => ⟨railsInRange_starts hq, refQualified_starts hq, fun hmode => ⟨fuseLoadDone_leads hq hmode, refQualified_leads hq hmode⟩,
    linkPhaseEnd_leads hq, startupCalibrationDone_leads hq⟩, fun s hq hmode => ⟨fun slot hsu hcopy hslot => ⟨?_, ?_⟩, fun slot c hsu hcopy hnone => ?_,
    fun x l hsu hcfg => ⟨fun a ha => ?_, fun m hm ha => ⟨fun hh => ?_, fun hh hok => ?_⟩⟩⟩⟩
  · exact fwSlotChecked_runs hq hmode hsu hcopy hslot
  · exact fwSlotChecked_fails hq hmode hsu hcopy hslot
  · exact fwSlotChecked_noCopy hq hmode hsu hcopy hnone
  · exact bootConfigEntry_refuses hq hmode hsu hcfg ha
  · exact bootConfigEntry_holds hq hmode hsu hcfg hm ha hh
  · exact bootConfigEntry_executes hq hmode hsu hcfg hm ha hh hok

end Sys2Proof.Machine
end
